-- ==== Sys2Proof/Word.lean ====
section
/-! DEFINITION. The 36-bit word of the fabric and the byte (R1, R3). -/

namespace Sys2Proof

/-- A 36-bit word: bit 35 is the most significant bit (R1). -/
abbrev Word := BitVec 36

/-- A byte of DRAM or flash. -/
abbrev Byte := BitVec 8

end Sys2Proof
end

