-- ==== Sys2Proof/Machine/Operands.lean ====
section
/-! DEFINITION. What the rows of the opcode table carry: command packets and where they come from (R419, R421, R425–R427,
R469), and the packets, readings and results that reach the device from outside. -/

namespace Sys2Proof.Machine

/-- How a command reached the device (R425–R427). -/
inductive Transport where
  | udp | spi | cawell
  deriving DecidableEq, Repr

/-- The source of a command (R423): the UDP address and port at a manager, the SPI port, or the forwarding manager's
index for Cawell commands; `eth` is the Ethernet port it came through (R301); `seals` names the host sessions that a command came sealed in, the innermost first, each by its SID
and the tag of the packet that sealed it (R469). -/
structure Source where
  via : Transport
  addr : Nat
  port : Nat
  eth : Nat
  seals : List (Nat × Nat)
  deriving DecidableEq, Repr

/-- A command packet as it reaches the interpreter (R419): `words` are all its words, `fence` is the fence word of a
Cawell command (R312), `inPort` the Cawell port it came through, and `dt` the REFCLK cycles since the step before. -/
structure Cmd where
  src : Source
  tag : Nat
  route : Word
  params : List Word
  fence : Option Word
  inPort : Nat
  dt : Nat
  deriving DecidableEq, Repr

/-- What the H.265 parse of the sequence parameter set a picture activates and of its first slice segment header tells the device
(R91–R95, R110–R112); the syntax itself is H.265's and reaches the model as an operand. The profile: 0 Main, 1 Main 10, 2 Main
4:2:2 10, 3 Main 4:4:4 10, 4 Monochrome 10, any other; the flags R92 refuses; sps_max_dec_pic_buffering_minus1 (`dpb`); `chroma` 0 4:0:0,
1 4:2:0, 2 4:2:2, 3 4:4:4; `output` is pic_output_flag; `uses` and `keeps` are the picture order counts of the reference picture set,
those this picture uses and those kept for pictures after it; `full` and `matrix` are the VUI's. -/
structure PicHead where
  profile : Nat
  wpp : Bool
  sepPlanes : Bool
  extPrec : Bool
  bypassAlign : Bool
  dpb : Nat
  output : Bool
  poc : Int
  uses : List Int
  keeps : List Int
  width : Nat
  height : Nat
  chroma : Nat
  depth : Nat
  ctu : Nat
  full : Bool
  matrix : Option Nat
  deriving DecidableEq, Repr

/-- The result of decoding one slice segment (R98, R106, R107): the CTUs it reconstructed with their samples (key and value, keys as in
the pool), the named error it met with its CTU address, whether it is a dependent segment, whether the slice segment of the row after it
has slice_loop_filter_across_slices_enabled_flag = 0, and the sectors whose first read failed for DECODE, each with whether the second
read passed (R142). -/
structure SliceOut where
  ctus : List Nat
  samples : List (Nat × Nat)
  err : Option (Nat × Nat)
  dependent : Bool
  noFilter : Bool
  reads : List (Nat × Bool)
  deriving DecidableEq, Repr

/-- One item of the planner's list (R49): its class 1–9, its unit (0 Kiln, 1 Glaze, 2 DECODE, 3 ENCODE, 4 a lane, 5 memory,
6 STAMP, 7 DEFLATE), what the unit's rate depends on (the lane; the arbitration class 0 RT, 1 FRAME, 2 MEDIA, 3 MP, 4 STAMP; STAMP's
clocks a texel; DEFLATE's rate in MB/s), the work in the unit's measure (blends, rays, plane positions, pixels, payload bits,
bytes, texels, bytes), the activities by element of R414 with their counts, and the slab slot whose work it is, where it is one
slot's. -/
structure PlanItem where
  cls : Nat
  unit : Nat
  mode : Nat
  work : Nat
  acts : List (Nat × Nat)
  slot : Option Nat
  deriving DecidableEq, Repr

/-- What a housekeeping round measures (R399–R401, R416): TS0–TS15 (a thermistor's voltage in µV, a diode's reading, none for
an open or shorted diode), the eight on-die sensors in 1/16 °C, the twelve rails in mV, the three photocurrents in pA, the
AMB voltage in µV, and the READ_POUT answers of the eight regulators (none: no answer, or a PEC that fails). -/
structure HkInput where
  ts : List (Option Nat)
  die : List Int
  rails : List Nat
  photo : List Nat
  amb : Nat
  pm : List (Option Nat)
  deriving DecidableEq, Repr

/-- One prediction unit of a coded row (R325, R327, R335): its place and size in samples of the picture; kind 0 intra, 1 inter with a vector
difference, 2 merge, 3 skip; whether an intra one is DC-predicted without residual; vector and predictor in quarter samples;
QP. -/
structure CodedPu where
  x : Nat
  y : Nat
  w : Nat
  h : Nat
  kind : Nat
  dc : Bool
  mv : Int × Int
  mvp : Int × Int
  qp : Nat
  deriving DecidableEq, Repr

/-- What one tile's part of a CTU row is (R332, R337, R338): the bits spent, the exact cost of coding this row and the tile's later ones as
skip rows, and its prediction units. -/
structure CodedTile where
  bits : Nat
  skip : Nat
  pus : List CodedPu
  deriving DecidableEq, Repr

/-- What the parameter sets of a bitstream say (R325, R328, R338): the profile as in PicHead; tier (0 Main); general_level_idc; chroma as in
PicHead; depth; the coded size and what the conformance window takes off; block and transform sizes; the tools on; tile
columns and rows in CTUs (none: tiles_enabled_flag = 0); filters across tiles and slices; colour_primaries,
transfer_characteristics, matrix_coefficients, video_full_range_flag; bit rate, CPB size, cbr_flag and low_delay_hrd_flag. -/
structure StreamHead where
  profile : Nat
  tier : Nat
  level : Nat
  chroma : Nat
  depth : Nat
  width : Nat
  height : Nat
  cropW : Nat
  cropH : Nat
  ctu : Nat
  minCu : Nat
  minTu : Nat
  maxTu : Nat
  deblock : Bool
  sao : Bool
  signHiding : Bool
  tmvp : Bool
  amp : Bool
  tskip : Bool
  scaling : Bool
  weighted : Bool
  longTerm : Bool
  pcm : Bool
  dependent : Bool
  wpp : Bool
  range : Bool
  refs : Nat
  cols : List Nat
  rows : List Nat
  acrossTiles : Bool
  acrossSlices : Bool
  primaries : Nat
  transfer : Nat
  matrix : Nat
  full : Bool
  rate : Nat
  cpb : Nat
  cbr : Bool
  lowDelay : Bool
  deriving DecidableEq, Repr

/-- The bytes of one extraction's row (R333), and what H.265 reads in them: the map element; the parameter sets before the slice segments,
if any; the NAL unit type and the picture order count; the slice segments, all independent; whether the hash SEI of hash_type 2
follows them. -/
structure CodedChunk where
  elem : Nat
  bytes : List Byte
  head : Option StreamHead
  nal : Nat
  poc : Nat
  segs : Nat
  hash : Bool
  deriving DecidableEq, Repr

/-- A sector whose first read failed, at a place that its reader names, and whether the second read passed (R142, R393). -/
structure ReadErr where
  pos : Nat
  sector : Nat
  cured : Bool
  deriving DecidableEq, Repr

/-- What coding a CTU row of a live layer gave: its tiles by tile column, the bytes for each map element whose extraction holds the row, and
the luma samples reconstructed (key 8,192 × line + column), and the reads of references that failed, `pos` the map element concerned. -/
structure CodedRow where
  tiles : List CodedTile
  chunks : List CodedChunk
  recon : List (Nat × Nat)
  fails : List ReadErr
  deriving DecidableEq, Repr

/-- What coding a spyhole picture gave (R342, R343): its rows and what H.265 reads in its bytes, as for a live layer. -/
structure CodedSpy where
  rows : List CodedTile
  head : Option StreamHead
  nal : Nat
  segs : Nat
  hash : Bool
  recon : List (Nat × Nat)
  fails : List ReadErr
  deriving DecidableEq, Repr

/-- A UDP datagram that reaches an Ethernet port (R301, R303): the port, its VLAN tag, whether its frame has at least 64 bytes and a valid
FCS, whether it is an IP fragment or carries IPv4 options, the IP family, destination and source address, source and
destination UDP port, and its payload. -/
structure Datagram where
  eth : Nat
  vid : Option Nat
  good : Bool
  broken : Bool
  v6 : Bool
  dst : Nat
  src : Nat
  sport : Nat
  dport : Nat
  bytes : List Byte
  deriving DecidableEq, Repr

/-- The IP head of a datagram, as above: fragment or options, family, destination and source address. -/
structure IpHead where
  broken : Bool
  v6 : Bool
  dst : Nat
  src : Nat
  deriving DecidableEq, Repr

/-- A datagram from its Ethernet port, VLAN tag and frame check, its IP head, its source and destination port, and its payload. -/
def Datagram.of (eth : Nat) (vid : Option Nat) (good : Bool) (ip : IpHead) (ports : Nat × Nat) (bytes : List Byte) : Datagram :=
  ⟨eth, vid, good, ip.broken, ip.v6, ip.dst, ip.src, ports.1, ports.2, bytes⟩

/-- The IP head of a datagram. -/
def Datagram.ip (d : Datagram) : IpHead := ⟨d.broken, d.v6, d.dst, d.src⟩
/-- Source and destination port of a datagram. -/
def Datagram.ports (d : Datagram) : Nat × Nat := (d.sport, d.dport)

/-- Bytes of the Ethernet frame that carries a datagram: headers of Ethernet, VLAN, IP and UDP, and the FCS. -/
def Datagram.frame (d : Datagram) : Nat :=
  18 + (if d.vid.isSome then 4 else 0) + (if d.v6 then 40 else 20) + 8 + d.bytes.length

/-- A PTP message as IEEE 1588-2019 parses it (R355): type 0 Sync, 8 Follow_Up, 9 Delay_Resp, 11 Announce; versions, domain,
sender, sequence number, two-step flag, the time it carries and its correction in 1/16,384 ns, the log interval, the
Announce rank that the dataset comparison orders, whether a Delay_Resp answers this clock, and the transport. -/
structure PtpMsg where
  type : Nat
  version : Nat
  minor : Nat
  domain : Nat
  sender : Nat
  seq : Nat
  twoStep : Bool
  time : Nat
  corr : Int
  interval : Int
  rank : List Nat
  mine : Bool
  v6 : Bool
  deriving DecidableEq, Repr

/-- A network control packet (R303): kind 0 ARP request, 1 neighbour solicitation, 2 ICMP echo, 3 ICMPv6 echo, 4 IGMP query,
5 MLD query; the Ethernet port, the address asked for, the sender, whether its frame is one the MAC accepts (R301), whether it is a fragment or
carries IPv4 options, its VLAN tag and its data. -/
structure NetPkt where
  kind : Nat
  port : Nat
  target : Nat
  sender : Nat
  good : Bool
  broken : Bool
  vid : Option Nat
  data : List Word
  deriving DecidableEq, Repr

end Sys2Proof.Machine
end

