-- ==== Sys2Proof/Syntax.lean ====
section
/-! DEFINITION. The commands of the block: one constructor for every row of spec/opcode_table.json, with what the row carries.
A row that is a command packet carries the packet; a row that is an event of the device or of its surroundings carries what
reaches the device with it. -/

namespace Sys2Proof

open Machine

inductive Instr where
  /-- POWER_ON_RESET (R499). VDD_AON reaches its limits; the device resets, reads OTP into class K fields and starts the start-up timeline. -/
  | powerOnReset
  /-- RST_N_ASSERT (R509). RST_N held low for at least 1 µs resets the device, losing class W, S and V state, and restarts it from greenware. -/
  | rstNAssert
  /-- PGOOD_FALL (R527). A power-good input that stays low for 1 µs acts as RST_N; the emitters go dark and the device restarts once every power-good input is high. -/
  | pgoodFall (rail : Nat)
  /-- STRAP_SAMPLE (R13). 2 ms after AON power-good or after the release of RST_N, ROLE, BOARD_TYPE and CLAIM_N are sampled into MGMT_STRAPS. -/
  | strapSample (role board : Nat) (claim flashOk : Bool)
  /-- BOOT_SLOT_SELECT (R474). The boot ROM reads the boot record, applies rollback or fallback, increments TRIES, verifies the active slot and starts it. -/
  | bootSlotSelect
  /-- BISQUE_IMAGE_VERIFIED (R504). Verification of the bisque image ends; the stage becomes bisque and link sessions may run. -/
  | bisqueImageVerified (flashOk : Bool) (dt : Nat)
  /-- MP_RUNNING (R499). MP firmware starts running, raises event 34 and event 37 with the reset cause. -/
  | mpRunning (dt : Nat)
  /-- CAL_STORE_LOAD (R202). After DRAM training and before the first frame, firmware loads the newest static record and snapshot from the calibration store. -/
  | calStoreLoad
  /-- GLOST_TIMEOUT (R502). 8 s after the start without glost, event 35 names the first unmet condition. -/
  | glostTimeout
  /-- TIME_WAIT_EXPIRY (R501). TIME_WAIT passes without a valid time source, letting glost begin on TB2 with event 41. -/
  | timeWaitExpiry
  /-- WATCHDOG_EXPIRY (R510). WDT_TIMEOUT passes without a watchdog restart and the device performs an MP watchdog reset. -/
  | watchdogExpiry (dt : Nat)
  /-- SOFT_RESET (R511). Opcode 0x108 schedules a soft reset of the named blocks at the next tick or at tick FRAME. -/
  | softReset (c : Cmd)
  /-- SOFT_RESET_EXECUTE (R512). At the scheduled tick the named blocks idle, lose class S and V state and have their domains cycled; a full mask acts as a watchdog reset. -/
  | softResetExecute
  /-- POWER_STATE (R513). Opcode 0x107 schedules entry to banked, exit from banked or entry to cold standby at tick K. -/
  | powerState (c : Cmd)
  /-- BANKED_ENTRY (R514). At tick K frames stop firing, COM_BLANK is held high, domains outside the banked set go off and DRAM enters self-refresh. -/
  | bankedEntry
  /-- BANKED_EXIT (R515). At tick K or after a WAKE, domains come up, DRAM leaves self-refresh, the stream and pool reset and firing resumes at K + 2. -/
  | bankedExit
  /-- WAKE_PIN_LOW (R518). WAKE held low for 1 ms with WAKE_PIN = 1 ends banked or cold standby. -/
  | wakePinLow
  /-- COLD_STANDBY_ENTRY (R517). At tick K the device darkens, writes a snapshot when allowed, announces STAGE 4 for 1 ms and powers off every domain except AON. -/
  | coldStandbyEntry
  /-- COLD_STANDBY_WAKE (R518). WAKE or continuous line activity wakes a device in cold standby, which starts under the start-up timeline. -/
  | coldStandbyWake (src : Nat)
  /-- LINK_ACTIVITY_WAKE (R277). 200 µs of continuous line activity on the even lane of a port wakes the device from cold standby. -/
  | linkActivityWake (port : Nat)
  /-- BISQUE_LOAD (R507). Hard opcode 0x007 verifies the bisque image again, shows bisque output in place of fired frames, or releases it. -/
  | bisqueLoad (c : Cmd)
  /-- BISQUE_WRITE (R508). Opcode 0x109 checks a new bisque image or lane table in DRAM and is ACCEPTED for programming into flash. -/
  | bisqueWrite (c : Cmd)
  /-- BISQUE_WRITE_DONE (R508). Flash erase, programming and read-back of the bisque image or lane table end and the completion reply follows. -/
  | bisqueWriteDone (fail : Option Nat)
  /-- UDP_COMMAND_DATAGRAM (R425). A command datagram arrives at a manager on CMD_PORT and is executed, forwarded on CMD or refused. -/
  | udpCommandDatagram (ip : IpHead) (ports : Nat × Nat) (bytes : List Byte) (dt : Nat) (eth : Nat := 0) (vid : Option Nat := none) (good : Bool := true)
  /-- SPI_COMMAND (R427). An SPI COMMAND transaction delivers a command packet that the device executes or forwards. -/
  | spiCommand (bytes : List Byte) (dt : Nat)
  /-- SPI_REPLY_READ (R427). An SPI REPLY transaction returns the status pair and clocks out the oldest queued reply, removing it when read whole. -/
  | spiReplyRead (count : Nat)
  /-- PING (R428). Hard opcode 0x001 replies with role, stage, position and the last tick. -/
  | ping (c : Cmd)
  /-- READ_REG (R429). Hard opcode 0x002 reads a range of register words in ascending order. -/
  | readReg (c : Cmd)
  /-- WRITE_REG (R430). Hard opcode 0x003 writes register words, plain or masked, in ascending order, stopping at the first refused write. -/
  | writeReg (c : Cmd)
  /-- SAFE_DARK (R428). Hard opcode 0x004 holds or releases COM_BLANK and the AUX lamps at the next line start. -/
  | safeDark (c : Cmd)
  /-- ROUTE_SET (R293). Hard opcode 0x005 writes LINK_ROUTE or LINK_MGR_ROUTE words as one unit between two packets. -/
  | routeSet (c : Cmd)
  /-- TIME_READ (R352). Hard opcode 0x006 returns a sampled time base, its flags and the last tick. -/
  | timeRead (c : Cmd)
  /-- STAGE_STATUS (R428). Hard opcode 0x008 returns the MGMT_STAGE word. -/
  | stageStatus (c : Cmd)
  /-- LINK_RESET (R294). Hard opcode 0x009 sends LRESET on the named ports, takes them DOWN and restarts their lanes. -/
  | linkReset (c : Cmd)
  /-- LRESET_RECEIVE (R294). LRESET superblocks arriving on a port make the device reset that port likewise and raise event 273. -/
  | lresetReceive (port : Nat)
  /-- CENSUS_CALL (R288). Hard opcode 0x00A with a new CNUM records UP_PRI, draws a fresh nonce and forwards the call. -/
  | censusCall (c : Cmd)
  /-- CENSUS_REPLY (R288). 1 ms after a new census call, the device replies DONE with its nonce and neighbour report. -/
  | censusReply
  /-- LINK_CENSUS (R289). Opcode 0x502 makes a manager start a census. -/
  | linkCensus (c : Cmd)
  /-- CENSUS_COMPUTE (R289). 5 ms after calling a census, the manager places workers from the wall map and raises the census events. -/
  | censusCompute (routes : List (Word × List Word))
  /-- PLACE (R292). Hard opcode 0x00B gives each worker its position from the entry bearing its nonce, checked against the map and neighbours. -/
  | place (c : Cmd)
  /-- MAP_SEND (R292). Hard opcode 0x00C delivers the owner-signed wall map, which the worker verifies in SECURE. -/
  | mapSend (c : Cmd)
  /-- TAKEOVER (R317). Hard opcode 0x00D stores the new fence value and turns the worker's manager routes and time-upstream port to the new active. -/
  | takeover (c : Cmd)
  /-- BAKE_OPEN (R438). Opcode 0x101 opens a bake with an epoch and tick K. -/
  | bakeOpen (c : Cmd)
  /-- BAKE_WRITE (R438). Opcode 0x102 adds address and value pairs to the open bake. -/
  | bakeWrite (c : Cmd)
  /-- BAKE_CLOSE (R440). Opcode 0x103 closes the open bake for tick K, or completes LATE and discards it after the window. -/
  | bakeClose (c : Cmd)
  /-- BAKE_ABORT (R438). Opcode 0x105 discards any pending bake. -/
  | bakeAbort (c : Cmd)
  /-- BAKE_APPLY (R439). At tick K the bake's writes are checked and applied together, or none is, and the epoch changes. -/
  | bakeApply
  /-- LOG_READ (R437). Opcode 0x104 returns log entries from a given LSEQ. -/
  | logRead (c : Cmd)
  /-- LOG_FLUSH (R437). Admitted log entries are written to the flash ring within 1 s. -/
  | logFlush (fail : Bool)
  /-- AUDIT_ACCEPT (R446). Opcode 0x106 makes a manager record every placed worker's current tile half. -/
  | auditAccept (c : Cmd)
  /-- OWNER_FLASH_WRITE (R537). Opcode 0x10A is accepted to move data between DRAM and the network record or owner data. -/
  | ownerFlashWrite (c : Cmd)
  /-- OWNER_FLASH_WRITE_DONE (R537). The flash transfer of OWNER_FLASH_WRITE ends with DONE or FAULT. -/
  | ownerFlashWriteDone (fail : Option Nat)
  /-- CLAIM (R457). Opcode 0x201 on SPI with CLAIM = 1 erases the sealed store and programs the next owner slot. -/
  | claim (c : Cmd)
  /-- OWNER_TRANSFER (R458). Opcode 0x202 signed by the current owner programs the next slot and marks held credentials legacy. -/
  | ownerTransfer (c : Cmd)
  /-- SESSION_HELLO (R468). Opcode 0x203 opens a host session entry and returns the device's ephemeral key, signed. -/
  | sessionHello (c : Cmd)
  /-- SESSION_AUTH (R468). Opcode 0x204 authenticates a host session for role CONTROL or OBSERVE. -/
  | sessionAuth (c : Cmd)
  /-- ATTEST (R460). Opcode 0x205 returns a signed attestation report for a nonce, optionally with an ephemeral key. -/
  | attest (c : Cmd)
  /-- KEY_LOAD (R463). Opcode 0x206 unwraps a content key bundle with the fleet key and seals its keys in. -/
  | keyLoad (c : Cmd)
  /-- KEY_DROP (R464). Opcode 0x207 erases the named content key. -/
  | keyDrop (c : Cmd)
  /-- PROVISION (R461). Opcode 0x208 installs an encrypted fleet or manager credential after checking its chain. -/
  | provision (c : Cmd)
  /-- DEBUG_UNLOCK (R471). Opcode 0x209 with valid blocks zeroises the device and opens the TAP. -/
  | debugUnlock (c : Cmd)
  /-- FLOOR_SET (R455). Opcode 0x20A signed for REVOKE raises a role's generation floor. -/
  | floorSet (c : Cmd)
  /-- SESSION_CLOSE (R468). Opcode 0x20B ends a host session. -/
  | sessionClose (c : Cmd)
  /-- POLICY_SET (R472). Opcode 0x20C sets the owner policy REQUIRE_COSIGN in the sealed store. -/
  | policySet (c : Cmd)
  /-- SEALED_CMD (R469). Opcode 0x210 decrypts and checks an inner command in a host session and executes or forwards it. -/
  | sealedCmd (c : Cmd)
  /-- UPDATE_STAGE (R475). Opcode 0x111 is accepted to verify an image in DRAM and program it into the inactive slot. -/
  | updateStage (c : Cmd)
  /-- UPDATE_STAGE_DONE (R475). Verification, programming and read-back of a staged image end with the completion reply. -/
  | updateStageDone (fail : Option Nat)
  /-- UPDATE_ACTIVATE (R476). Opcode 0x112 sets the inactive slot as TRIAL in the boot record, optionally with a soft reset at a tick. -/
  | updateActivate (c : Cmd)
  /-- UPDATE_COMMIT (R476). Opcode 0x113 commits the trial image and sets OTP anti-rollback bits up to its SVN. -/
  | updateCommit (c : Cmd)
  /-- COMMIT_HOURS_EXPIRY (R476). COMMIT_HOURS of glost time in TRIAL commit the trial automatically. -/
  | commitHoursExpiry
  /-- L_HELLO_RECEIVE (R467). A link-session L_HELLO nonce arrives and the device answers with its L_PROOF or L_NOCRED. -/
  | lHelloReceive (port : Nat) (words : List Word)
  /-- L_PROOF_RECEIVE (R467). A far end's proof is checked for the required role and the port becomes AUTH or REFUSED. -/
  | lProofReceive (port : Nat) (words : List Word)
  /-- L_NOCRED_RECEIVE (R465). A far end announcing no credential makes the port OPEN. -/
  | lNocredReceive (port : Nat)
  /-- SESSION_GRACE_EXPIRY (R465). A port still PENDING after SESSION_GRACE becomes REFUSED and a border link. -/
  | sessionGraceExpiry (port : Nat)
  /-- CENSUS_AFTER_LINK_AUTH (R465). SESSION_GRACE after the first LINK_AUTH report for an unplaced far end, the manager calls a census. -/
  | censusAfterLinkAuth
  /-- REKEY_EXPIRY (R465). Every REKEY minutes the link session of a port runs again. -/
  | rekeyExpiry (port : Nat)
  /-- HOST_SESSION_EXPIRY (R468). A host session idle for SESSION_IDLE or older than 24 h ends. -/
  | hostSessionExpiry (entry : Nat)
  /-- KEY_UNTIL_EXPIRY (R464). A content key whose UNTIL has passed on a valid source is erased with event 77. -/
  | keyUntilExpiry (entry : Nat)
  /-- CRED_EXPIRY_CHECK (R455). Once a day, a held credential within 30 days of NOT_AFTER raises event 81. -/
  | credExpiryCheck
  /-- EPHEMERAL_KEY_EXPIRY (R460). The attestation ephemeral key is discarded 60 s after the report. -/
  | ephemeralKeyExpiry
  /-- CLAIM_N_CHANGE (R464). A change of CLAIM_N withdraws content keys from decryption or returns them. -/
  | claimNChange (low : Bool)
  /-- TIME_SCHEDULE (R363). Opcode 0x401 sets a pending rate and anchor change for tick K, or the current schedule at once. -/
  | timeSchedule (c : Cmd)
  /-- SCHEDULE_CHANGE_APPLY (R363). At tick K, or the first tick after a skipped K, the pending rate or anchor takes effect and one frame repeats. -/
  | scheduleChangeApply
  /-- TIME_PHASE (R367). Opcode 0x402 holds PHI_K and TARGET pending for tick K. -/
  | timePhase (c : Cmd)
  /-- PHASE_COMMAND_APPLY (R367). At tick K the receiver sets φ and TARGET from the pending TIME_PHASE and slews or re-phases. -/
  | phaseCommandApply
  /-- TIME_ADJUST (R352). Opcode 0x403 steps a SOFT-mode base by a signed amount at the next REFCLK cycle. -/
  | timeAdjust (c : Cmd)
  /-- LINK_WAKE (R277). Opcode 0x501 sends WAKE superblocks on named ports for 1 ms and then clears SLEEP. -/
  | linkWake (c : Cmd)
  /-- MEM_WRITE (R394). Opcode 0x601 writes words into the owner area, subject to device-owned regions and seals. -/
  | memWrite (c : Cmd)
  /-- MEM_READ (R394). Opcode 0x602 reads words from the owner area. -/
  | memRead (c : Cmd)
  /-- ENCODE_SPY_SUB (R345). Opcode 0x801 subscribes or ends a subscription of a UDP source to spyhole packets. -/
  | encodeSpySub (c : Cmd)
  /-- SPY_SUB_EXPIRY (R345). A spyhole subscription ends when its DURATION has passed. -/
  | spySubExpiry
  /-- KILN_COMMIT (R30). Opcode 0x904 binds the staged copy of commit-class fields to a frame, or to a later one when late. -/
  | kilnCommit (c : Cmd)
  /-- KILN_LUT_LOAD (R124). Opcode 0x905 loads a pre-blend LUT table from DRAM, queues it when in use, or copies it out. -/
  | kilnLutLoad (c : Cmd)
  /-- TABLE_LOAD_QUEUED_RUN (R124). At the first tick at which its table or slot is no longer in use, a queued WAIT load runs and completes. -/
  | tableLoadQueuedRun
  /-- KILN_RELEASE (R148). Opcode 0x906 reports when a static surface is free of every frame, optionally undefining it. -/
  | kilnRelease (c : Cmd)
  /-- KILN_SURF_DEFINE (R146). Opcode 0x907 defines or redefines a static surface. -/
  | kilnSurfDefine (c : Cmd)
  /-- SEAL_LIFT (R147). At tick L + 1, when no later frame needs it, a buffer's seal lifts. -/
  | sealLift
  /-- GLAZE_LUT_LOAD (R178). Opcode 0xA01 loads a post-blend LUT table. -/
  | glazeLutLoad (c : Cmd)
  /-- GLAZE_SET_LOAD (R179). Opcode 0xA02 loads a matrix set slot. -/
  | glazeSetLoad (c : Cmd)
  /-- GLAZE_CTX_LOAD (R175). Opcode 0xA03 writes a context image into the staged bank bound to a frame, or into both banks while no frame fires. -/
  | glazeCtxLoad (c : Cmd)
  /-- CTX_BANK_SWAP (R174). At tick F−1 the staged context bank becomes the bank in force and the copy to the new staged bank starts. -/
  | ctxBankSwap
  /-- CTX_BANK_COPY_DONE (R174). The bank copy ends and waiting context loads proceed. -/
  | ctxBankCopyDone
  /-- GLAZE_CTX_READ (R176). Opcode 0xA04 writes context words to DRAM. -/
  | glazeCtxRead (c : Cmd)
  /-- CAL_LOSS_LOAD (R188). Opcode 0xA05 loads or copies the three loss tables. -/
  | calLossLoad (c : Cmd)
  /-- CAL_RUN (R196). Opcode 0xA06 makes a calibration run pending, optionally as a baseline capture. -/
  | calRun (c : Cmd)
  /-- CAL_SAVE (R201). Opcode 0xA07 starts writing a static record or a snapshot to the calibration store. -/
  | calSave (c : Cmd)
  /-- CAL_SAVE_DONE (R201). A calibration record write ends and raises CAL_SAVED or SAVE_FAULT. -/
  | calSaveDone (fail : Option Nat)
  /-- SNAPSHOT_TIMER (R201). SAVE_PERIOD minutes of glost time pass and a snapshot is written unless within 45 minutes of the last. -/
  | snapshotTimer
  /-- CAL_PERIOD_EXPIRY (R191). CAL_PERIOD hours of glost time since the last run make a calibration run pending. -/
  | calPeriodExpiry
  /-- EMIT_FAULT_READ (R251). Opcode 0xB01 writes the fault table to DRAM. -/
  | emitFaultRead (c : Cmd)
  /-- EMIT_FAULT_CLEAR (R251). Opcode 0xB02 empties the fault table or clears named groups from the next tick. -/
  | emitFaultClear (c : Cmd)
  /-- STAMP_GO (R484). Opcode 0xC01 copies the STAMP registers into a queued job. -/
  | stampGo (c : Cmd)
  /-- STAMP_JOB_HEAD (R485). A STAMP job reaching the head of the queue is checked against seals and starts, waits or completes SEALED. -/
  | stampJobHead
  /-- STAMP_JOB_DONE (R485). A running STAMP job finishes every texel or stops at a named fault. -/
  | stampJobDone
  /-- STAMP_ABORT (R486). Opcode 0xC02 ends the running and held STAMP jobs with ABORTED. -/
  | stampAbort (c : Cmd)
  /-- DEFLATE_JOB (R491). Opcode 0xD01 queues a compression or decompression job. -/
  | deflateJob (c : Cmd)
  /-- DEFLATE_SUPPLY (R493). Opcode 0xD02 adds an output buffer or input range to a job, resuming it when paused. -/
  | deflateSupply (c : Cmd)
  /-- DEFLATE_ABORT (R493). Opcode 0xD03 ends a DEFLATE job with ABORTED. -/
  | deflateAbort (c : Cmd)
  /-- DEFLATE_BUFFER_EXHAUSTED (R493). A job runs out of output buffers or input and pauses in OUT_FULL or IN_EMPTY. -/
  | deflateBufferExhausted
  /-- DEFLATE_JOB_DONE (R496). A DEFLATE job ends with DONE and its counts, or with a named error. -/
  | deflateJobDone
  /-- REGISTER_WRITE (R5). A write to a register without behaviour of its own sets RW fields, clears W1C bits and checks ranges. -/
  | registerWrite (a : Nat) (v : Word)
  /-- LATCHING_READ (R429). A read of a HI word latches its LO words. -/
  | latchingRead (a n : Nat)
  /-- CAPTURE_FIFO_READ (R354). A read of TIME_CAPTURE W1 returns and removes the oldest capture stamp. -/
  | captureFifoRead (el : Nat)
  /-- FULL_NEXT_WRITE (R216). Writing FULL_NEXT invalidates every driver-image signature so the next fired frame is sent whole. -/
  | fullNextWrite
  /-- EYE_START (R270). Writing START begins an eye measurement of the named lane, or sets ERROR. -/
  | eyeStart (lane : Nat)
  /-- EYE_MEASURE_DONE (R270). An eye measurement ends or stops, records EYE_H and EYE_V and raises event 374. -/
  | eyeMeasureDone (h v : Nat)
  /-- EYE_AUTO_SCHEDULE (R270). Every 60 s with AUTO = 1 the next locked receive lane is measured. -/
  | eyeAutoSchedule
  /-- SYN_RELOCK_WRITE (R374). Writing RELOCK runs a synthesiser's band search and relock. -/
  | synRelockWrite (n : Nat)
  /-- CKO_ARM (R376). Writing ARM arms a clock output's divider for alignment. -/
  | ckoArm (i : Nat)
  /-- CKO_ALIGN_EDGE (R376). At the first alignment edge after arming, the divider resets, ALIGNED is set and event 199 raised. -/
  | ckoAlignEdge (src dt : Nat)
  /-- OFFSET_IN_WRITE (R350). A write of OFFSET_IN feeds a PTP offset to a SERVO base, stepping or slewing it. -/
  | offsetInWrite (b : Nat) (v : Word)
  /-- PHASE_TARGET_WRITE (R365). A write of TIME_PHASE_STATE.TARGET sets the demanded φ from the next tick. -/
  | phaseTargetWrite (v : Word)
  /-- LANE_HOLD_WRITE (R271). Writing HOLD stops or restarts a lane. -/
  | laneHoldWrite (lane : Nat) (hold : Bool)
  /-- LANE_EQ_WRITE (R269). A write of LINK_LANE W0 sets equalisation only while HOLD = 1. -/
  | laneEqWrite (lane : Nat) (v : Word)
  /-- SP_SEL_WRITE (R389). A write of SP_SEL requests a speed switch, refused when direct mode would break R232. -/
  | spSelWrite (sp : Nat)
  /-- SCAN_CONFIG_WRITE (R232). A write of EMIT_SCAN_CTRL or EMIT_HEAD_CTRL, SCAN_EN included, is checked against the scan limits. -/
  | scanConfigWrite (head : Bool) (v : Word)
  /-- KILN_GRID_WRITE (R115). A write of KILN_GRID is checked against the grid, rate and mounting limits. -/
  | kilnGridWrite (v : Word)
  /-- KILN_MOUNT_WRITE (R118). A write of KILN_MOUNT is checked for quarter-turn conditions. -/
  | kilnMountWrite (v : Word)
  /-- GEOMETRY_CHANGE (R117). A change of KILN_GRID or KILN_MOUNT takes effect at its tick, repeats that frame and discards staged run-ahead. -/
  | geometryChange
  /-- SLOT_DESCRIPTOR_WRITE (R137). A write of a slot descriptor goes to the staged copy after the entry checks. -/
  | slotDescriptorWrite (i w : Nat) (v : Word)
  /-- SLOT_SET_WRITE (R542). A write of KILN_SLOT_SET goes to the staged copy, refused when it would name a releasing surface. -/
  | slotSetWrite (v : Word)
  /-- DECODE_POOL_WRITE (R102). A write of DECODE_POOL_CTRL or DECODE_POOL_BASE is checked and scheduled for the next tick. -/
  | decodePoolWrite (base : Bool) (v : Word)
  /-- POOL_RESET (R102). At the tick after a pool write, unsealed pool pictures are discarded and every sequence sets NEED_IRAP. -/
  | poolReset
  /-- DRIVE_CONE_WRITE (R239). A write of a cone drive table is checked against blanking and line limits. -/
  | driveConeWrite (c w : Nat) (v : Word)
  /-- LIVE_FLOW_WRITE (R310). A write of MGR_LIVE is refused when enabled flows exceed 500 M pixels/s. -/
  | liveFlowWrite (i w : Nat) (v : Word)
  /-- ENCODE_MAP_WRITE (R329). A write of ENCODE_MAP is checked against the tile grid and the worker rate limit. -/
  | encodeMapWrite (i : Nat) (v : Word)
  /-- GROUP_ENTRY_WRITE (R303). Enabling or disabling an MGR_GROUP entry joins or leaves the group. -/
  | groupEntryWrite (g w : Nat) (v : Word)
  /-- TICK (R360). TB3 reaches S(N); tick N is generated and the device applies its per-tick changes in order. -/
  | tick (acts : List (Nat × Nat)) (items : List PlanItem) (slip : Bool)
  /-- LEDGER_RECONCILE (R415). Every 64 ticks the ledger energy is compared with rail energy and SCALE adjusted. -/
  | ledgerReconcile
  /-- COMMIT_WINDOW_CLOSE (R29). At tick N−1 − COMMIT_LEAD the commit window of frame N closes. -/
  | commitWindowClose
  /-- READINESS_DECISION (R33). At tick N−1 + READY_GRACE each non-live slot is decided ready or follows its policy. -/
  | readinessDecision
  /-- LIVE_CUTOFF (R46). Live rows missing at LIVE_CUTOFF are held or transparent and event 743 is raised. -/
  | liveCutoff
  /-- FIRING_WINDOW_END (R52). The firing window ends; an unfinished frame raises FIRING_LATE and keeps firing until the deadline. -/
  | firingWindowEnd
  /-- PLAN_PROJECTION (R50). Every 100 µs the planner projects the tick's energy and withdraws class 4–9 items when it runs ahead. -/
  | planProjection (acts : List (Nat × Nat)) (done : List Nat) (dt : Nat)
  /-- SHELF_WINDOW_LOADED (R133). The loader completes a band's slab windows in the shelf, concealing failed sectors. -/
  | shelfWindowLoaded (frame band : Nat) (errs : List (Nat × Bool) := [])
  /-- BAND_FIRE_COMPLETE (R217). A band completes and EMIT forms rectangles over the cell rows it made final. -/
  | bandFireComplete (frame band : Nat)
  /-- RECT_PACKET_SENT (R219). A rectangle's packet has been sent whole on every lane and its tag is freed. -/
  | rectPacketSent (lane : Nat) (errs : List ReadErr := [])
  /-- GLAZE_RAY (R157). A composited ray passes the seven Glaze stages and becomes a ray word. -/
  | glazeRay (parity : List Nat)
  /-- TE_EDGE (R211). A TE edge after tick N sends SWAP when frame N's transfers are complete. -/
  | teEdge (input dt : Nat)
  /-- SWAP_DEADLINE (R211). At tick N + TE_TIMEOUT EMIT sends a forced SWAP, or ABANDON when transfers are incomplete. -/
  | swapDeadline
  /-- SCAN_LINE_START (R208). At each line start the head raises COM_STB, presents COM_SEL and drives COM_BLANK. -/
  | scanLineStart
  /-- READBACK_RECEIVE (R224). A READBACK echo packet is compared with the words sent to that string. -/
  | readbackReceive (words : List Word)
  /-- READBACK_TIMEOUT (R224). No READBACK within 200 µs is treated as a mismatch with event 840. -/
  | readbackTimeout (lane : Nat)
  /-- FAULT_MAP_RECEIVE (R243). A string's FAULT_MAP report updates the fault table and failed strings. -/
  | faultMapReceive (words : List Word)
  /-- FAULT_REPORT_MISSING (R243). A report still incomplete 400 µs after its period raises MAP_MISSING. -/
  | faultReportMissing (lane : Nat)
  /-- PROBE_LINE (R244). At a probe line the TE input shows whether the probed channel range is faulty and bisection proceeds. -/
  | probeLine (head : Nat) (low : Bool)
  /-- FAIL_DARK_FALLBACK (R250). When no frame carrying a group's darkness swaps within 3 periods + TE_TIMEOUT, COM_BLANK is held high. -/
  | failDarkFallback (group : Nat)
  /-- LANE_START (R265). A lane starts when its domain comes up or HOLD clears and sends 16 ALIGN superblocks. -/
  | laneStart (lane : Nat)
  /-- LANE_START_FAIL (R264). A receiver not LOCKED 10 ms after lane start raises event 375. -/
  | laneStartFail (lane : Nat)
  /-- SUPERBLOCK_RECEIVE (R262). A superblock slot closed by its marker is checked, destuffed and delivered or discarded. -/
  | superblockReceive (lane : Nat) (line : List Word) (dt : Nat)
  /-- CTRL_SUPERBLOCK_RECEIVE (R276). A CTRL superblock updates acknowledgements, credits and far-end state and drives HELLO to UP. -/
  | ctrlSuperblockReceive (port : Nat) (words : List Word) (dt : Nat)
  /-- PORT_HELLO_TIMEOUT (R275). 1 ms without an undamaged CTRL superblock takes the port DOWN. -/
  | portHelloTimeout (port : Nat)
  /-- CAWELL_PACKET_RECEIVE (R279). A Cawell packet is checked and delivered locally or forwarded by its address type. -/
  | cawellPacketReceive (port : Nat) (words : List Word) (damaged : Bool) (dt : Nat)
  /-- INTRA_HOLDOFF_EXPIRY (R341). When INTRA_HOLDOFF ends, a request held back for an extraction is served. -/
  | intraHoldoffExpiry
  /-- REPLAY_TIMEOUT (R281). 20 µs with unacknowledged packets and no ACK advance replays them from ACK_SEQ + 1. -/
  | replayTimeout (port : Nat)
  /-- TIME_EXCHANGE_START (R298). Every 2^−INTERVAL s the device sends T_REQ on its time-upstream port. -/
  | timeExchangeStart (dt : Nat)
  /-- T_REQ_RECEIVE (R298). A responder stamps a T_REQ and answers with T_RESP and T_FUP. -/
  | tReqReceive (port : Nat) (words : List Word) (resp dt : Nat)
  /-- T_RESP_RECEIVE (R298). The requester stamps T_RESP arrival as t4. -/
  | tRespReceive (port : Nat) (words : List Word) (retry : Bool) (dt : Nat)
  /-- T_FUP_RECEIVE (R298). T_FUP completes the exchange; delay and offsets are formed and fed to the servos. -/
  | tFupReceive (port : Nat) (words : List Word) (retry : Bool) (dt : Nat)
  /-- TIME_LOST_TIMEOUT (R298). No successful exchange for 1 s raises TIME_LOST and invalidates the bases. -/
  | timeLostTimeout
  /-- ETH_LINK_CHANGE (R300). An Ethernet port gains or loses block lock and alignment, raising ETH_UP or ETH_DOWN. -/
  | ethLinkChange (port : Nat) (up : Bool) (dt : Nat)
  /-- NET_RECORD_APPLY (R302). At start a manager applies its owner-signed network record or takes a random MAC. -/
  | netRecordApply
  /-- NETWORK_CONTROL_PACKET (R303). ARP, neighbour discovery, ICMP echo and IGMP or MLD queries are answered. -/
  | networkControlPacket (pkt : NetPkt) (dt : Nat)
  /-- RTP_SLAB_PACKET (R304). A slab-stream RTP packet is policed, reordered, cut into STREAM packets and queued for its worker. -/
  | rtpSlabPacket (eth : Nat) (vid : Option Nat) (good : Bool) (ip : IpHead) (ports : Nat × Nat) (bytes : List Byte) (dt : Nat)
  /-- LIVE_FLOW_PACKET (R310). An ST 2110-20 packet is ingested into its flow's current frame. -/
  | liveFlowPacket (eth : Nat) (vid : Option Nat) (good : Bool) (ip : IpHead) (ports : Nat × Nat) (bytes : List Byte) (dt : Nat)
  /-- INGEST_WINDOW_END (R331). An ingest window ending with no bound source frame codes a repeat picture. -/
  | ingestWindowEnd (rows : List (List CodedRow))
  /-- CTU_ROW_ENCODED (R333). A CTU row is coded and one live parcel per extraction is sent. -/
  | ctuRowEncoded (layer : Nat) (row : CodedRow) (dt : Nat)
  /-- SPY_PICTURE_CODED (R344). A spyhole picture is coded and sent in SPY packets to the active manager. -/
  | spyPictureCoded (frame : Nat) (bytes : List Byte) (coded : CodedSpy)
  /-- PTP_MESSAGE_RECEIVE (R355). A PTP message updates best-master selection or yields an offset written to OFFSET_IN. -/
  | ptpMessageReceive (msg : PtpMsg) (dt : Nat)
  /-- PTP_DELAY_REQ_SEND (R355). At the randomised delay request interval the manager sends Delay_Req. -/
  | ptpDelayReqSend (b dt : Nat)
  /-- PTP_TIMEOUT (R355). The selected master's Announce or Sync times out and event 245 is raised. -/
  | ptpTimeout (b : Nat)
  /-- BASE_VALIDITY_TIMEOUT (R357). No Sync for 1 s makes a manager's base invalid. -/
  | baseValidityTimeout (b : Nat)
  /-- COMMAND_TAG_EXPIRY (R312). An outstanding forwarded command tag is forgotten after 1 s. -/
  | commandTagExpiry
  /-- PEER_MESSAGE_RECEIVE (R315). A RENEW, MIRROR, HANDBACK or ACK peer message is taken and acted on. -/
  | peerMessageReceive (path : Nat) (head body : List Word) (dt : Nat)
  /-- PEER_ALIVE_IN_TOGGLE (R314). A toggle of PEER_ALIVE_IN counts as a renewal. -/
  | peerAliveInToggle (dt : Nat)
  /-- RENEW_WAIT_EXPIRY (R314). At RENEW_WAIT after a tick without renewal, the standby counts a missed tick. -/
  | renewWaitExpiry
  /-- HANDBACK_TICK (R323). At tick H the preferred manager claims when it holds the ACK-ed HANDBACK and the RELEASE renewal. -/
  | handbackTick
  /-- HANDBACK_TIMEOUT (R323). No TAKEOVER by tick H + 2 makes the holder clear RELEASE and stay active. -/
  | handbackTimeout
  /-- STREAM_PACKET_RECEIVE (R87). A worker takes a STREAM packet by its offset, parsing, marking a gap or dropping it. -/
  | streamPacketReceive (words : List Word)
  /-- BATCH_HEADER_PARSE (R64). A batch header is checked for order, horizon, epoch and CRC and its entries applied. -/
  | batchHeaderParse (errs : List ReadErr := [])
  /-- CHUNK_RECEIVE (R81). A picture chunk is authenticated and decrypted and its NAL units passed to DECODE, or discarded. -/
  | chunkReceive (errs : List ReadErr := [])
  /-- LIVE_PARCEL_RECEIVE (R84). A live parcel's chunk is taken for its frame's live plane picture. -/
  | liveParcelReceive (errs : List ReadErr := [])
  /-- PICTURE_BEGIN (R101). A picture starts decoding in a free pool buffer, or is dropped. -/
  | pictureBegin (seq : Nat) (head : PicHead)
  /-- SLICE_SEGMENT_DECODED (R106). A slice segment is decoded or stopped at a named error; live rows become final. -/
  | sliceSegmentDecoded (seq : Nat) (out : SliceOut)
  /-- PICTURE_END (R111). A picture ends; missing CTUs are concealed, taint fixed and pool marks updated. -/
  | pictureEnd (seq : Nat) (sei : Option (Nat × List Nat))
  /-- HOUSEKEEPING_ROUND (R399). Every 10 ms the 40 sensor channels are converted and published together. -/
  | housekeepingRound (h : HkInput)
  /-- DAMPER_GRACE_EXPIRY (R409). GRACE ends with a cause still raised and the damper enters CAPPED with P_ENG and B_ENG latched. -/
  | damperGraceExpiry
  /-- DAMPER_STEP_EXPIRY (R411). Each STEP_TIME T_CAP steps down, or steps up in RELEASING until it reaches P_ENG. -/
  | damperStepExpiry
  /-- DIE_COMPARATOR_TRIP (R404). Three comparisons at 125 °C run die-class shutdown. -/
  | dieComparatorTrip (dt : Nat)
  /-- DIE_SHUTDOWN_RESTART (R404). After 1 s with every on-die sensor below 110 °C the device restarts from greenware. -/
  | dieShutdownRestart
  /-- DOMAIN_RAMP_TIMEOUT (R398). A domain not reporting power-good within 20 µs is switched off and retried, then marked FAILED. -/
  | domainRampTimeout (d : Nat)
  /-- DOMAIN_RETRY (R398). 100 µs after a failed ramp, the domain is ramped once more. -/
  | domainRetry (d : Nat)
  /-- DRAM_TRAINING_START (R385). After DRAM power-good and the clock start, start-up training runs for every channel and set point. -/
  | dramTrainingStart (dt : Nat)
  /-- DRAM_TRAINING_DONE (R385). Training ends with TRAIN_DONE and the areas allocated, or TRAIN_FAIL. -/
  | dramTrainingDone (ok : Nat) (g0 g1 : Option Nat) (density ranks : Nat) (same : Bool) (dt : Nat)
  /-- OSC_CHECK (R386). Every RETRAIN_MS a channel's oscillators are measured and retraining made pending on drift. -/
  | oscCheck (ch drift dt : Nat)
  /-- RETRAIN_BURST (R386). A retraining burst runs in the tail; after the sixth the results are applied. -/
  | retrainBurst (dt : Nat)
  /-- SPEED_SWITCH (R387). In a tail the channels stop, switch set point and resume within 30 µs. -/
  | speedSwitch (dt : Nat)
  /-- REFRESH_DUE (R384). A per-bank refresh falls due and is issued, postponed or forced. -/
  | refreshDue (ch idle dt : Nat)
  /-- MR4_READ (R384). Every 4 ms MR4 of each channel is read for the refresh rate. -/
  | mr4Read (ch rate : Nat) (hot : Bool) (dt : Nat)
  /-- SELF_REFRESH_ENTRY (R390). A channel idle for SR_IDLE enters self-refresh. -/
  | selfRefreshEntry (ch : Nat) (cancelled : Bool)
  /-- SYNC_IN_EDGE (R366). A SYNC_IN edge is stamped, matched to an expected instant and sets the demand. -/
  | syncInEdge (falling : Bool) (dt : Nat)
  /-- SYNC_IN_LOST (R366). Three expected SYNC_IN edges without a match raise SYNC_LOST. -/
  | syncInLost
  /-- CAPTURE_EDGE (R354). A selected edge on an enabled capture input is stamped into its FIFO. -/
  | captureEdge (el : Nat) (falling : Bool) (dt : Nat)
  /-- REFCLK_LOSS (R370). REFCLK leaving ±1,000 ppm darkens the heads and stops the synthesisers. -/
  | refclkLoss (ppm : Int) (dt : Nat)
  /-- REFCLK_RETURN (R370). REFCLK within limits for 10 ms causes a clock watchdog reset. -/
  | refclkReturn (ppm : Int) (dt : Nat)
  /-- SYN_LOCK_LOSS (R374). A synthesiser or DLL losing lock is handled by which one it is. -/
  | synLockLoss (n dt : Nat)
  /-- SYN_RELOCK_DONE (R374). A relock completes and raises SYN_LOCK. -/
  | synRelockDone (n band us dt : Nat)
  /-- BAND_SEARCH_RETRY (R371). A failed band search is repeated every 10 ms. -/
  | bandSearchRetry (n : Nat)
  /-- RST_N_RELEASE (R499). RST_N rises after being held low; the reset is released and the start-up timeline begins, with straps sampled 2 ms later. -/
  | rstNRelease
  /-- PGOOD_RISE (R527). A power-good input rises; a start held at a late rail resumes, or the device restarts once every power-good input is high after a fall. -/
  | pgoodRise (rail dt : Nat)
  /-- VDD_AON_LOSS (R527). VDD_AON leaves its limits; this is a loss of power, and all state, class K included, is lost. -/
  | vddAonLoss
  /-- DOMAIN_POWER_GOOD (R398). A ramping power domain reports power-good within 20 µs; it is on, and HEARTH may start ramping the next domain. -/
  | domainPowerGood (d dt : Nat)
  /-- SUPERBLOCK_SLOT_SEND (R257). At each 1,237-bit slot boundary a transmitter sends a packet, CTRL, ALIGN or IDLE superblock, choosing packets by channel priority, credits and the 100 µs starvation rule. -/
  | superblockSlotSend (lane dt : Nat) (errs : List ReadErr := [])
  /-- T_FUP_LATE (R298). T_FUP does not arrive within 100 µs of T_RESP and the pending time exchange is discarded. -/
  | tFupLate
  deriving DecidableEq, Repr

end Sys2Proof
end

