-- ==== Sys2Proof/Config.lean ====
section
/-! DEFINITION. What the spec leaves free or gives to an implementation: constants without a body, so that no proof can
see a value (assumption log 1). External standards whose values the spec names and does not give (FIPS 180-4, FIPS 186,
SP 800-38D, SP 800-90A, RFC 2104) stand here as functions of their inputs. -/

namespace Sys2Proof.Config

/-- SHA-384 of a byte string (R451); the standard gives it, the model leaves it free. -/
opaque sha384 : List Byte → BitVec 384

/-- HMAC-SHA-384 of a key and a message (R459, R461, R463, R468). -/
opaque hmac384 : List Byte → List Byte → BitVec 384

/-- ECDSA over P-384 (R451): whether a signature of 96 bytes verifies under a public key of 96 bytes. -/
opaque ecdsaVerify : List Byte → List Byte → List Byte → Bool

/-- The ECDSA signature the device makes: which key of its own, the message, and a draw of its generator. -/
opaque ecdsaSign : Nat → List Byte → Nat → List Byte

/-- The public key of a private key (R451), 96 bytes. -/
opaque ecPublic : Nat → List Byte

/-- ECDH of a private key and a public key (R461, R463, R468), 48 bytes. -/
opaque ecdh : Nat → List Byte → List Byte

/-- AES-256-GCM decryption: key, IV, additional data, ciphertext, tag; nothing when the tag fails. -/
opaque gcmOpen : List Byte → List Byte → List Byte → List Byte → List Byte → Option (List Byte)

/-- AES-256-GCM encryption: key, IV, additional data, plaintext; the ciphertext. -/
opaque gcmSeal : List Byte → List Byte → List Byte → List Byte → List Byte

/-- The 16-byte tag of that encryption. -/
opaque gcmTag : List Byte → List Byte → List Byte → List Byte → List Byte

/-- Draw `n` of the SECURE random generator (R451), as a number of the width its user takes. -/
opaque random : Nat → Nat

/-- The hashes of the four vendor root keys in the boot ROM (R450). -/
opaque vendorRoot : Nat → BitVec 384

/-- Word `i` of the attestation chain in die fuses (R460): the vendor root key, 22 words, and its certificate, 47. -/
opaque attestChain : Nat → Word

/-- The private attestation key in die fuses (R460). -/
opaque attestKey : Nat

/-- The temperature of a diode conversion in 1/16 °C from IDEAL and the three-current reading (R401). -/
opaque diodeTemp : Nat → Nat → Int

/-- The temperature of a thermistor in 1/16 °C from R25, BETA and the voltage in µV (R401): the manual states the law and
not the rounding of its logarithm. -/
opaque thermTemp : Nat → Nat → Nat → Int

/-- The DEFLATE body (RFC 1951) that the engine writes for a level, a window, FINAL and its input (R494): any valid encoding that
keeps the rule's limits is the implementation's to choose. -/
opaque compress : Nat → Nat → Bool → List Byte → List Byte

/-- The average of the luma samples of a block in the reduced pictures of motion search (R335): the rule does not give its rounding. -/
opaque meAverage : List Nat → Nat

/-- λ of the motion search's cost, in 1/65,536, by QP (R335): derived from the QP in a way the rule does not give. -/
opaque meLambda : Nat → Nat

/-- The bits of a vector difference (R335), horizontal and vertical, in quarter samples. -/
opaque mvdBits : Int → Int → Nat

/-- A value the spec leaves undefined or does not state, by the number of its use: applied to the free-value counter of
the state and to a number that says which value is meant. -/
opaque freeValue : Nat → Nat → Nat

end Sys2Proof.Config
end

