-- ==== Sys2Proof/Machine/Bits.lean ====
section
/-! DEFINITION. Bit fields, sign extension, fixed-point helpers and the two packings of words into bytes that the
whole manual uses (R1, R2, R60). -/

namespace Sys2Proof.Machine

/-- Bits `hi` down to `lo` of a number, as a number (R1). -/
def bitsN (n hi lo : Nat) : Nat := (n / 2 ^ lo) % 2 ^ (hi + 1 - lo)

/-- Bits `[hi:lo]` of a word (R1). -/
def bits (w : Word) (hi lo : Nat) : Nat := bitsN w.toNat hi lo

/-- Bit `i` of a word. -/
def bit (w : Word) (i : Nat) : Bool := w.getLsbD i

/-- A number as a word: its low 36 bits. -/
def word (n : Nat) : Word := BitVec.ofNat 36 n

/-- A word put together from fields: each pair is the lowest bit of a field and its value. -/
def pack (fs : List (Nat × Nat)) : Word := word (fs.foldl (fun a p => a ||| p.2 * 2 ^ p.1) 0)

/-- The low `w` bits of a number read as two's complement (R2). -/
def sext (w n : Nat) : Int :=
  let m := n % 2 ^ w
  if m < 2 ^ (w - 1) then (m : Int) else (m : Int) - (2 ^ w : Nat)

/-- The two's complement of an integer in `w` bits (R2). -/
def twos (w : Nat) (z : Int) : Nat := (z % ((2 ^ w : Nat) : Int)).toNat

/-- An integer held to `lo`–`hi`. -/
def clampI (lo hi z : Int) : Int := if z < lo then lo else if hi < z then hi else z

/-- A number held to at most `hi`. -/
def satN (hi n : Nat) : Nat := if hi < n then hi else n

/-- A signed integer saturated to `w` bits two's complement. -/
def satS (w : Nat) (z : Int) : Int := clampI (-(2 ^ (w - 1) : Nat)) ((2 ^ (w - 1) : Nat) - 1) z

/-- Division rounded up. -/
def cdiv (a b : Nat) : Nat := (a + b - 1) / b

/-- One if the condition holds, else zero. -/
def b2n (b : Bool) : Nat := if b then 1 else 0

/-- Element `i` of a list of numbers, zero beyond its end. -/
def nth (l : List Nat) (i : Nat) : Nat := l.getD i 0

/-- Word `i` of a list of words, zero beyond its end. -/
def nthW (l : List Word) (i : Nat) : Word := l.getD i 0

/-- The list with element `i` replaced. -/
def setNth {α : Type} (l : List α) (i : Nat) (v : α) : List α := l.set i v

/-- A 72-bit number as two words, the most significant first (R1). -/
def split72 (n : Nat) : List Word := [word (n / 2 ^ 36), word n]

/-- A 48-bit frame or tick number as its HI word (12 bits) and LO word (R1). -/
def split48 (n : Nat) : List Word := [word (n / 2 ^ 36 % 2 ^ 12), word n]

/-- The 48-bit number of a HI and a LO word. -/
def join48 (hi lo : Word) : Nat := bits hi 11 0 * 2 ^ 36 + lo.toNat

/-- Word-pair packing of R60: each pair of words makes nine bytes, most significant first; an odd last word is paired
with a word of zero. -/
def packBytes : List Word → List Byte
  | [] => []
  | [a] => pair9 a 0
  | a :: b :: t => pair9 a b ++ packBytes t
where
  /-- The nine bytes of two words. -/
  pair9 (a b : Word) : List Byte :=
    let n := a.toNat * 2 ^ 36 + b.toNat
    (List.range 9).map (fun i => BitVec.ofNat 8 (n / 2 ^ (8 * (8 - i))))

/-- The words of bytes in word-pair packing (R60); bytes of a broken last pair are dropped. -/
def unpackBytes : List Byte → List Word
  | a :: b :: c :: d :: e :: f :: g :: h :: i :: t =>
    let n := [a, b, c, d, e, f, g, h, i].foldl (fun x y => x * 256 + y.toNat) 0
    word (n / 2 ^ 36) :: word n :: unpackBytes t
  | _ => []

/-- Bytes as one number, most significant first. -/
def bytesBE (l : List Byte) : Nat := l.foldl (fun x y => x * 256 + y.toNat) 0

end Sys2Proof.Machine
end

