-- ==== Sys2Proof/Machine/Sparse.lean ====
section
/-! DEFINITION. Sparse arrays in one canonical form: a list of key and value pairs with keys strictly rising and no entry
equal to the default of the array. Memory, tables and register files are held so, and equal contents are equal lists. -/

namespace Sys2Proof.Machine

/-- The value listed for a key. -/
def sfind {α : Type} : List (Nat × α) → Nat → Option α
  | [], _ => none
  | p :: t, k => if p.1 = k then some p.2 else sfind t k

/-- The list with a value put at a key, in rising order of keys. -/
def sput {α : Type} : List (Nat × α) → Nat → α → List (Nat × α)
  | [], k, v => [(k, v)]
  | p :: t, k, v =>
    if k < p.1 then (k, v) :: p :: t
    else if p.1 = k then (k, v) :: t
    else p :: sput t k v

/-- The list without a key. -/
def sdel {α : Type} (l : List (Nat × α)) (k : Nat) : List (Nat × α) := l.filter (fun p => p.1 != k)

/-- The value at a key, with the default of the array. -/
def sget {α : Type} (d : α) (l : List (Nat × α)) (k : Nat) : α := (sfind l k).getD d

/-- The array with one value written; the default removes the entry. -/
def sset {α : Type} [DecidableEq α] (d : α) (l : List (Nat × α)) (k : Nat) (v : α) : List (Nat × α) :=
  if v = d then sdel l k else sput l k v

/-- A run of values written from a key on, in an array whose default goes by the key. -/
def ssetRun {α : Type} [DecidableEq α] (d : Nat → α) : List (Nat × α) → Nat → List α → List (Nat × α)
  | l, _, [] => l
  | l, k, v :: t => ssetRun d (sset (d k) l k v) (k + 1) t

/-- A run of values read from a key on. -/
def sgetRun {α : Type} (d : α) (l : List (Nat × α)) (k n : Nat) : List α :=
  (List.range n).map (fun i => sget d l (k + i))

/-- Keys strictly rising above a bound. -/
def sascend {α : Type} : Option Nat → List (Nat × α) → Bool
  | _, [] => true
  | none, p :: t => sascend (some p.1) t
  | some b, p :: t => decide (b < p.1) && sascend (some p.1) t

/-- The canonical form: keys strictly rising, no entry equal to the default of its key. -/
def swf {α : Type} [DecidableEq α] (d : Nat → α) (l : List (Nat × α)) : Bool :=
  sascend none l && l.all (fun p => decide (p.2 ≠ d p.1))

end Sys2Proof.Machine
end

