-- ==== Sys2Proof/Machine/RegFile.lean ====
section
/-! DEFINITION. The register space of R4–R10: what a field is, and the file that holds every field's value. A field that
is not listed holds its reset value. -/

namespace Sys2Proof.Machine

/-- The Access column of a field table (R5). -/
inductive Access where
  | RW | RO | WO | W1C
  deriving DecidableEq, Repr

/-- The Keep column of a field table: the retention class (R8). `N` is the dash of a field that keeps nothing. -/
inductive Keep where
  | K | W | S | V | N
  deriving DecidableEq, Repr

/-- One row of a field table, for every element of its register array (R4, R5, R8–R10). -/
structure Fld where
  /-- word address of element 0 (R4) -/
  addr : Nat
  /-- distance of two elements -/
  stride : Nat
  /-- number of elements -/
  count : Nat
  /-- highest bit -/
  hi : Nat
  /-- lowest bit -/
  lo : Nat
  /-- access -/
  acc : Access
  /-- retention class -/
  keep : Keep
  /-- takes part in the bake stamp (R10) -/
  stamp : Bool
  /-- commit-class (R540) -/
  commit : Bool
  /-- reset value (R9) -/
  reset : Nat
  /-- reset values of the first elements, where they differ -/
  resets : List Nat
  /-- the intervals a written value must lie in; empty: every value -/
  lim : List (Nat × Nat)
  deriving DecidableEq, Repr

/-- The values of fields: key (address, lowest bit) and value; an unlisted field holds its reset value (R9). -/
abbrev RegFile := List (Nat × Nat)

/-- The key under which a field's value is listed. -/
def fieldKey (addr lo : Nat) : Nat := addr * 64 + lo

/-- The word address of element `i` (R4). -/
def Fld.at (f : Fld) (i : Nat) : Nat := f.addr + i * f.stride

/-- The width of a field in bits. -/
def Fld.width (f : Fld) : Nat := f.hi + 1 - f.lo

/-- The key of element `i` of a field. -/
def Fld.key (f : Fld) (i : Nat) : Nat := fieldKey (f.at i) f.lo

/-- The reset value of element `i` (R9). -/
def Fld.rst (f : Fld) (i : Nat) : Nat := f.resets.getD i f.reset

/-- The value of element `i` of a field, in its width. -/
def rget (r : RegFile) (f : Fld) (i : Nat) : Nat := sget (f.rst i) r (f.key i) % 2 ^ f.width

/-- Element `i` of a field set to a value, held to the field's width. -/
def rset (r : RegFile) (f : Fld) (i v : Nat) : RegFile := sset (f.rst i) r (f.key i) (v % 2 ^ f.width)

/-- The element of a field that lies at a word address, if one does. -/
def Fld.elem? (f : Fld) (a : Nat) : Option Nat :=
  if a < f.addr then none
  else
    let d := a - f.addr
    if f.stride = 0 then (if d = 0 then some 0 else none)
    else if d % f.stride = 0 ∧ d / f.stride < f.count then some (d / f.stride) else none

/-- The value of a field lies in the intervals its table states. -/
def Fld.inRange (f : Fld) (v : Nat) : Bool := f.lim.isEmpty || f.lim.any (fun p => p.1 ≤ v && v ≤ p.2)

end Sys2Proof.Machine
end

