-- ==== Sys2Proof/Machine/RegMap.lean ====
section
/-! DEFINITION. Every field of every field table of the spec (R4–R10), one definition per field: word address of element 0,
stride, count, high and low bit, access, retention class, stamp, commit-class, reset value, the per-element reset values
where the spec gives them, and the intervals a write must lie in (empty: every value). Written from the field tables of
spec/01 to spec/22; the commit-class marks follow R540, R105, R137, R174 and R239. -/

namespace Sys2Proof.Machine.Reg


/-! 01_architecture: MGMT_STRAPS, MGMT:0x0010 -/
def MGMT_STRAPS_ROLE : Fld := ⟨0x00010, 1, 1, 7, 6, .RO, .W, false, false, 0, [], []⟩
def MGMT_STRAPS_BOARD_TYPE : Fld := ⟨0x00010, 1, 1, 5, 2, .RO, .W, false, false, 0, [], []⟩
def MGMT_STRAPS_CLAIM : Fld := ⟨0x00010, 1, 1, 1, 1, .RO, .V, false, false, 0, [], []⟩

/-! 02_tick_and_firing: KILN_FRAME_CTRL, KILN:0x0000 -/
def KILN_FRAME_CTRL_COMMIT_LEAD : Fld := ⟨0x90000, 1, 1, 27, 16, .RW, .W, true, false, 250, [], [(50, 2000)]⟩
def KILN_FRAME_CTRL_READY_GRACE : Fld := ⟨0x90000, 1, 1, 15, 6, .RW, .W, true, false, 0, [], [(0, 1000)]⟩
def KILN_FRAME_CTRL_MODE : Fld := ⟨0x90000, 1, 1, 5, 4, .RW, .W, true, false, 0, [], [(0, 1)]⟩
def KILN_FRAME_CTRL_RUNAHEAD_EN : Fld := ⟨0x90000, 1, 1, 3, 3, .RW, .W, true, false, 1, [], []⟩
def KILN_FRAME_CTRL_PACE : Fld := ⟨0x90000, 1, 1, 2, 2, .RW, .W, true, false, 1, [], []⟩

/-! 02_tick_and_firing: KILN_LIVE_CTRL, KILN:0x0001 -/
def KILN_LIVE_CTRL_LIVE_TAIL : Fld := ⟨0x90001, 1, 1, 11, 0, .RW, .W, true, false, 500, [], [(0, 2000)]⟩

/-! 02_tick_and_firing: KILN_FRAME_STATUS, KILN:0x0002 -/
def KILN_FRAME_STATUS_DIRECT : Fld := ⟨0x90002, 1, 1, 23, 23, .RO, .V, false, false, 0, [], []⟩
def KILN_FRAME_STATUS_REPEATED : Fld := ⟨0x90002, 1, 1, 22, 22, .RO, .V, false, false, 0, [], []⟩
def KILN_FRAME_STATUS_RUNAHEAD : Fld := ⟨0x90002, 1, 1, 21, 21, .RO, .V, false, false, 0, [], []⟩
def KILN_FRAME_STATUS_LIVE_WAIT : Fld := ⟨0x90002, 1, 1, 20, 20, .RO, .V, false, false, 0, [], []⟩
def KILN_FRAME_STATUS_DEPTH_LIMIT : Fld := ⟨0x90002, 1, 1, 19, 14, .RO, .V, false, false, 32, [], []⟩
def KILN_FRAME_STATUS_ACTIVE_SLOTS : Fld := ⟨0x90002, 1, 1, 13, 8, .RO, .V, false, false, 0, [], []⟩
def KILN_FRAME_STATUS_BANDS_PCT : Fld := ⟨0x90002, 1, 1, 7, 0, .RO, .V, false, false, 0, [], []⟩

/-! 02_tick_and_firing: KILN_FRAME_NOW_HI and KILN_FRAME_NOW_LO, KILN:0x0004 and KILN:0x0005 -/
def KILN_FRAME_NOW_HI_FRAME_HI : Fld := ⟨0x90004, 1, 1, 11, 0, .RO, .V, false, false, 0, [], []⟩
def KILN_FRAME_NOW_LO_FRAME_LO : Fld := ⟨0x90005, 1, 1, 35, 0, .RO, .V, false, false, 0, [], []⟩

/-! 02_tick_and_firing: KILN_REFIRE_COUNT, KILN:0x0006 -/
def KILN_REFIRE_COUNT_BANDS_LAST : Fld := ⟨0x90006, 1, 1, 35, 24, .RO, .V, false, false, 0, [], []⟩
def KILN_REFIRE_COUNT_TOTAL : Fld := ⟨0x90006, 1, 1, 23, 0, .W1C, .S, false, false, 0, [], []⟩

/-! 02_tick_and_firing: HEARTH_PLAN_CTRL, HEARTH:0x0200 -/
def HEARTH_PLAN_CTRL_POWER_CAP : Fld := ⟨0x20200, 1, 1, 35, 26, .RW, .W, true, false, 300, [], [(50, 300)]⟩
def HEARTH_PLAN_CTRL_FIRE_WINDOW : Fld := ⟨0x20200, 1, 1, 25, 19, .RW, .W, true, false, 85, [], [(50, 95)]⟩
def HEARTH_PLAN_CTRL_DEPTH_FLOOR : Fld := ⟨0x20200, 1, 1, 18, 13, .RW, .W, true, false, 8, [], [(1, 32)]⟩

/-! 02_tick_and_firing: HEARTH_PLAN_STATUS, HEARTH:0x0201 -/
def HEARTH_PLAN_STATUS_BUDGET : Fld := ⟨0x20201, 1, 1, 35, 24, .RO, .V, false, false, 0, [], []⟩
def HEARTH_PLAN_STATUS_PLANNED : Fld := ⟨0x20201, 1, 1, 23, 12, .RO, .V, false, false, 0, [], []⟩
def HEARTH_PLAN_STATUS_RUNG : Fld := ⟨0x20201, 1, 1, 11, 8, .RO, .V, false, false, 0, [], []⟩
def HEARTH_PLAN_STATUS_CLEAN_COUNT : Fld := ⟨0x20201, 1, 1, 7, 3, .RO, .V, false, false, 0, [], []⟩
def HEARTH_PLAN_STATUS_THERMAL : Fld := ⟨0x20201, 1, 1, 2, 2, .RO, .V, false, false, 0, [], []⟩

/-! 02_tick_and_firing: HEARTH_PLAN_LAST, HEARTH:0x0202 -/
def HEARTH_PLAN_LAST_MEASURED : Fld := ⟨0x20202, 1, 1, 35, 24, .RO, .V, false, false, 0, [], []⟩
def HEARTH_PLAN_LAST_REFIRE : Fld := ⟨0x20202, 1, 1, 23, 12, .RO, .V, false, false, 0, [], []⟩

/-! 02_tick_and_firing: HEARTH_PLAN_CLASS array, base HEARTH:0x0210, stride 1, count 9 -/
def HEARTH_PLAN_CLASS_ESTIMATE : Fld := ⟨0x20210, 1, 9, 35, 24, .RO, .V, false, false, 0, [], []⟩
def HEARTH_PLAN_CLASS_ACTUAL : Fld := ⟨0x20210, 1, 9, 23, 12, .RO, .V, false, false, 0, [], []⟩
def HEARTH_PLAN_CLASS_DEFERRED : Fld := ⟨0x20210, 1, 9, 0, 0, .RO, .V, false, false, 0, [], []⟩

/-! 03_slab_streams: DECODE_STREAM_CTRL, DECODE:0x0000 -/
def DECODE_STREAM_CTRL_PRESENT_TOL : Fld := ⟨0x70000, 1, 1, 23, 12, .RW, .W, true, false, 100, [], []⟩
def DECODE_STREAM_CTRL_HORIZON : Fld := ⟨0x70000, 1, 1, 11, 8, .RW, .W, true, false, 4, [], [(2, 8)]⟩
def DECODE_STREAM_CTRL_CLEAR_OK : Fld := ⟨0x70000, 1, 1, 7, 7, .RW, .W, true, false, 0, [], []⟩
def DECODE_STREAM_CTRL_EPOCH_CHECK : Fld := ⟨0x70000, 1, 1, 6, 6, .RW, .W, true, false, 1, [], []⟩

/-! 03_slab_streams: DECODE_STREAM_STATUS, DECODE:0x0001 -/
def DECODE_STREAM_STATUS_ALIGNED : Fld := ⟨0x70001, 1, 1, 35, 35, .RO, .V, false, false, 0, [], []⟩
def DECODE_STREAM_STATUS_IN_BATCH : Fld := ⟨0x70001, 1, 1, 34, 34, .RO, .V, false, false, 0, [], []⟩
def DECODE_STREAM_STATUS_ENTRIES : Fld := ⟨0x70001, 1, 1, 33, 28, .RO, .V, false, false, 0, [], []⟩
def DECODE_STREAM_STATUS_FIFO_WORDS : Fld := ⟨0x70001, 1, 1, 19, 0, .RO, .V, false, false, 0, [], []⟩

/-! 03_slab_streams: DECODE_STREAM_FRAME_HI and DECODE_STREAM_FRAME_LO, DECODE:0x0002 and DECODE:0x0003 -/
def DECODE_STREAM_FRAME_HI_FRAME_HI : Fld := ⟨0x70002, 1, 1, 11, 0, .RO, .V, false, false, 0, [], []⟩
def DECODE_STREAM_FRAME_LO_FRAME_LO : Fld := ⟨0x70003, 1, 1, 35, 0, .RO, .V, false, false, 0, [], []⟩

/-! 03_slab_streams: DECODE_STREAM_OFFSET, DECODE:0x0004 -/
def DECODE_STREAM_OFFSET_EXPECTED : Fld := ⟨0x70004, 1, 1, 35, 0, .RO, .V, false, false, 0, [], []⟩

/-! 04_slab_decoder: DECODE_CTRL, DECODE:0x0010 -/
def DECODE_CTRL_HASH_CHECK : Fld := ⟨0x70010, 1, 1, 0, 0, .RW, .W, true, false, 0, [], []⟩

/-! 04_slab_decoder: DECODE_POOL_CTRL, DECODE:0x0011 -/
def DECODE_POOL_CTRL_BUF_COUNT : Fld := ⟨0x70011, 1, 1, 35, 31, .RW, .W, true, false, 0, [], [(0, 24)]⟩
def DECODE_POOL_CTRL_BUF_KWORDS : Fld := ⟨0x70011, 1, 1, 30, 14, .RW, .W, true, false, 0, [], [(0, 36864)]⟩

/-! 04_slab_decoder: DECODE_POOL_BASE, DECODE:0x0012 -/
def DECODE_POOL_BASE_POOL_BASE : Fld := ⟨0x70012, 1, 1, 27, 0, .RW, .W, true, false, 0, [], []⟩

/-! 04_slab_decoder: DECODE_POOL_STATUS, DECODE:0x0013 -/
def DECODE_POOL_STATUS_FREE : Fld := ⟨0x70013, 1, 1, 35, 31, .RO, .V, false, false, 0, [], []⟩
def DECODE_POOL_STATUS_REF : Fld := ⟨0x70013, 1, 1, 30, 26, .RO, .V, false, false, 0, [], []⟩
def DECODE_POOL_STATUS_SEALED : Fld := ⟨0x70013, 1, 1, 25, 21, .RO, .V, false, false, 0, [], []⟩
def DECODE_POOL_STATUS_FRAME : Fld := ⟨0x70013, 1, 1, 20, 16, .RO, .V, false, false, 0, [], []⟩

/-! 04_slab_decoder: DECODE_ATLAS_CTRL array, base DECODE:0x0020, stride 1, count 4 -/
def DECODE_ATLAS_CTRL_MATRIX : Fld := ⟨0x70020, 1, 4, 3, 2, .RW, .W, true, true, 0, [], []⟩
def DECODE_ATLAS_CTRL_RANGE : Fld := ⟨0x70020, 1, 4, 1, 0, .RW, .W, true, true, 0, [], [(0, 2)]⟩

/-! 04_slab_decoder: DECODE_SEQ_STATUS array, base DECODE:0x0030, stride 1, count 8 -/
def DECODE_SEQ_STATUS_ACTIVE : Fld := ⟨0x70030, 1, 8, 35, 35, .RO, .V, false, false, 0, [], []⟩
def DECODE_SEQ_STATUS_TAINTED : Fld := ⟨0x70030, 1, 8, 34, 34, .RO, .V, false, false, 0, [], []⟩
def DECODE_SEQ_STATUS_NEED_IRAP : Fld := ⟨0x70030, 1, 8, 33, 33, .RO, .V, false, false, 1, [], []⟩
def DECODE_SEQ_STATUS_CHROMA : Fld := ⟨0x70030, 1, 8, 32, 31, .RO, .V, false, false, 0, [], []⟩
def DECODE_SEQ_STATUS_DEPTH10 : Fld := ⟨0x70030, 1, 8, 30, 30, .RO, .V, false, false, 0, [], []⟩
def DECODE_SEQ_STATUS_WIDTH_M1 : Fld := ⟨0x70030, 1, 8, 29, 17, .RO, .V, false, false, 0, [], []⟩
def DECODE_SEQ_STATUS_HEIGHT_M1 : Fld := ⟨0x70030, 1, 8, 16, 4, .RO, .V, false, false, 0, [], []⟩
def DECODE_SEQ_STATUS_REFS : Fld := ⟨0x70030, 1, 8, 3, 0, .RO, .V, false, false, 0, [], []⟩

/-! 04_slab_decoder: DECODE_ERR_LAST and DECODE_ERR_FRAME, DECODE:0x0040 and DECODE:0x0041 -/
def DECODE_ERR_LAST_CODE : Fld := ⟨0x70040, 1, 1, 35, 30, .RO, .S, false, false, 0, [], []⟩
def DECODE_ERR_LAST_ATLAS : Fld := ⟨0x70040, 1, 1, 29, 28, .RO, .S, false, false, 0, [], []⟩
def DECODE_ERR_LAST_PLANE : Fld := ⟨0x70040, 1, 1, 27, 27, .RO, .S, false, false, 0, [], []⟩
def DECODE_ERR_LAST_CTU_ADDR : Fld := ⟨0x70040, 1, 1, 26, 9, .RO, .S, false, false, 0, [], []⟩
def DECODE_ERR_FRAME_FRAME_LO : Fld := ⟨0x70041, 1, 1, 35, 0, .RO, .S, false, false, 0, [], []⟩

/-! 04_slab_decoder: DECODE_COUNTS, DECODE:0x0042 -/
def DECODE_COUNTS_CONCEALED : Fld := ⟨0x70042, 1, 1, 35, 18, .W1C, .S, false, false, 0, [], []⟩
def DECODE_COUNTS_SYNTHETIC : Fld := ⟨0x70042, 1, 1, 17, 0, .W1C, .S, false, false, 0, [], []⟩

/-! 04_slab_decoder: DECODE_LOAD, DECODE:0x0043 -/
def DECODE_LOAD_LOAD_PCT : Fld := ⟨0x70043, 1, 1, 35, 28, .RO, .V, false, false, 0, [], []⟩
def DECODE_LOAD_BACKLOG : Fld := ⟨0x70043, 1, 1, 27, 0, .RO, .V, false, false, 0, [], []⟩

/-! 05_kiln: KILN_SLOT array, base KILN:0x0100, stride 16, count 32 -/
def KILN_SLOT_W0_SLOT : Fld := ⟨0x90100, 16, 32, 35, 31, .RO, .S, false, false, 0, [0, 1, 2, 3, 4, 5, 6, 7, 8, 9, 10, 11, 12, 13, 14, 15, 16, 17, 18, 19, 20, 21, 22, 23, 24, 25, 26, 27, 28, 29, 30, 31], []⟩
def KILN_SLOT_W0_ATLAS : Fld := ⟨0x90100, 16, 32, 30, 29, .RW, .S, false, true, 0, [], []⟩
def KILN_SLOT_W0_POLICY : Fld := ⟨0x90100, 16, 32, 28, 27, .RW, .S, false, true, 0, [], [(0, 2)]⟩
def KILN_SLOT_W0_STALE_LIMIT : Fld := ⟨0x90100, 16, 32, 26, 23, .RW, .S, false, true, 3, [], []⟩
def KILN_SLOT_W0_PRIO : Fld := ⟨0x90100, 16, 32, 22, 19, .RW, .S, false, true, 0, [], []⟩
def KILN_SLOT_W0_RANK : Fld := ⟨0x90100, 16, 32, 18, 14, .RW, .S, false, true, 0, [], []⟩
def KILN_SLOT_W0_EDGE : Fld := ⟨0x90100, 16, 32, 13, 13, .RW, .S, false, true, 0, [], []⟩
def KILN_SLOT_W0_LIVE : Fld := ⟨0x90100, 16, 32, 12, 12, .RW, .S, false, true, 0, [], []⟩
def KILN_SLOT_W0_TAINT : Fld := ⟨0x90100, 16, 32, 11, 11, .RW, .S, false, true, 0, [], []⟩
def KILN_SLOT_W0_KEEP : Fld := ⟨0x90100, 16, 32, 10, 10, .RW, .S, false, true, 0, [], []⟩
def KILN_SLOT_W0_ACONST : Fld := ⟨0x90100, 16, 32, 9, 9, .RW, .S, false, true, 0, [], []⟩
def KILN_SLOT_W0_ALPHA_CONST : Fld := ⟨0x90100, 16, 32, 8, 0, .RW, .S, false, true, 511, [], []⟩
def KILN_SLOT_W1_ATLAS_X : Fld := ⟨0x90101, 16, 32, 35, 23, .RW, .S, false, true, 0, [], []⟩
def KILN_SLOT_W1_ATLAS_Y : Fld := ⟨0x90101, 16, 32, 22, 10, .RW, .S, false, true, 0, [], []⟩
def KILN_SLOT_W2_W_M1 : Fld := ⟨0x90102, 16, 32, 35, 25, .RW, .S, false, true, 1, [], []⟩
def KILN_SLOT_W2_H_M1 : Fld := ⟨0x90102, 16, 32, 24, 15, .RW, .S, false, true, 1, [], []⟩
def KILN_SLOT_W2_PRE_LUT : Fld := ⟨0x90102, 16, 32, 14, 11, .RW, .S, false, true, 0, [], []⟩
def KILN_SLOT_W3_U0 : Fld := ⟨0x90103, 16, 32, 35, 12, .RW, .S, false, true, 0, [], []⟩
def KILN_SLOT_W4_V0 : Fld := ⟨0x90104, 16, 32, 35, 12, .RW, .S, false, true, 0, [], []⟩
def KILN_SLOT_W5_SCALE : Fld := ⟨0x90105, 16, 32, 35, 18, .RW, .S, false, true, 16384, [], []⟩
def KILN_SLOT_W5_DISP_H : Fld := ⟨0x90105, 16, 32, 17, 0, .RW, .S, false, true, 0, [], []⟩
def KILN_SLOT_W6_DISP_V : Fld := ⟨0x90106, 16, 32, 35, 18, .RW, .S, false, true, 0, [], []⟩
def KILN_SLOT_W7_SRC : Fld := ⟨0x90107, 16, 32, 35, 35, .RW, .S, false, true, 0, [], []⟩
def KILN_SLOT_W7_SURF_ID : Fld := ⟨0x90107, 16, 32, 7, 0, .RW, .S, false, true, 0, [], []⟩
def KILN_SLOT_W8_SAMPLED : Fld := ⟨0x90108, 16, 32, 35, 35, .RO, .V, false, false, 0, [], []⟩
def KILN_SLOT_W8_DROPPED : Fld := ⟨0x90108, 16, 32, 34, 34, .RO, .V, false, false, 0, [], []⟩
def KILN_SLOT_W8_TRANSPARENT : Fld := ⟨0x90108, 16, 32, 33, 33, .RO, .V, false, false, 0, [], []⟩
def KILN_SLOT_W8_PICTURE : Fld := ⟨0x90108, 16, 32, 32, 31, .RO, .V, false, false, 0, [], []⟩
def KILN_SLOT_W8_TORN : Fld := ⟨0x90108, 16, 32, 30, 30, .RO, .V, false, false, 0, [], []⟩
def KILN_SLOT_W8_TAINTED : Fld := ⟨0x90108, 16, 32, 29, 29, .RO, .V, false, false, 0, [], []⟩
def KILN_SLOT_W8_HELD : Fld := ⟨0x90108, 16, 32, 28, 25, .RO, .V, false, false, 0, [], []⟩
def KILN_SLOT_W8_ORDER_POS : Fld := ⟨0x90108, 16, 32, 24, 20, .RO, .V, false, false, 0, [], []⟩
def KILN_SLOT_W9_PIC_FRAME : Fld := ⟨0x90109, 16, 32, 35, 0, .RO, .V, false, false, 0, [], []⟩
def KILN_SLOT_W10_BLENDS : Fld := ⟨0x9010A, 16, 32, 35, 0, .RO, .V, false, false, 0, [], []⟩

/-! 05_kiln: KILN_BLEND_CTRL, KILN:0x0008 -/
def KILN_BLEND_CTRL_TERM_SHIFT : Fld := ⟨0x90008, 1, 1, 5, 1, .RW, .W, true, true, 10, [], [(4, 18)]⟩
def KILN_BLEND_CTRL_ORDER : Fld := ⟨0x90008, 1, 1, 0, 0, .RW, .W, true, true, 0, [], []⟩

/-! 05_kiln: KILN_BG_RG and KILN_BG_B, KILN:0x0009 and KILN:0x000A -/
def KILN_BG_RG_BG_R : Fld := ⟨0x90009, 1, 1, 35, 18, .RW, .W, true, true, 0, [], []⟩
def KILN_BG_RG_BG_G : Fld := ⟨0x90009, 1, 1, 17, 0, .RW, .W, true, true, 0, [], []⟩
def KILN_BG_B_BG_B : Fld := ⟨0x9000A, 1, 1, 17, 0, .RW, .W, true, true, 0, [], []⟩

/-! 05_kiln: KILN_SLOT_SET, KILN:0x0010 -/
def KILN_SLOT_SET_SET : Fld := ⟨0x90010, 1, 1, 31, 0, .RW, .S, false, true, 0, [], []⟩

/-! 05_kiln: KILN_VIEW_SEL, KILN:0x0011 -/
def KILN_VIEW_SEL_IN_FORCE : Fld := ⟨0x90011, 1, 1, 0, 0, .RW, .V, false, false, 0, [], []⟩

/-! 05_kiln: KILN_GRID, KILN:0x0020 -/
def KILN_GRID_HW_M1 : Fld := ⟨0x90020, 1, 1, 26, 19, .RW, .W, true, false, 0, [], []⟩
def KILN_GRID_HH_M1 : Fld := ⟨0x90020, 1, 1, 18, 11, .RW, .W, true, false, 0, [], [(0, 191)]⟩
def KILN_GRID_VW_M1 : Fld := ⟨0x90020, 1, 1, 10, 4, .RW, .W, true, false, 0, [], []⟩
def KILN_GRID_VH_M1 : Fld := ⟨0x90020, 1, 1, 3, 0, .RW, .W, true, false, 0, [], []⟩

/-! 05_kiln: KILN_MOUNT, KILN:0x0021 -/
def KILN_MOUNT_MIRROR : Fld := ⟨0x90021, 1, 1, 2, 2, .RW, .W, true, false, 0, [], []⟩
def KILN_MOUNT_ROT : Fld := ⟨0x90021, 1, 1, 1, 0, .RW, .W, true, false, 0, [], []⟩

/-! 05_kiln: KILN_BAND_CTRL, KILN:0x0030 -/
def KILN_BAND_CTRL_BAND_MAX : Fld := ⟨0x90030, 1, 1, 5, 0, .RW, .W, true, false, 32, [], [(1, 32)]⟩

/-! 05_kiln: KILN_BAND_STATUS, KILN:0x0031 -/
def KILN_BAND_STATUS_BAND_ROWS : Fld := ⟨0x90031, 1, 1, 35, 30, .RO, .V, false, false, 0, [], []⟩
def KILN_BAND_STATUS_BANDS : Fld := ⟨0x90031, 1, 1, 29, 22, .RO, .V, false, false, 0, [], []⟩
def KILN_BAND_STATUS_SHELF_WORDS : Fld := ⟨0x90031, 1, 1, 18, 0, .RO, .V, false, false, 0, [], []⟩

/-! 05_kiln: KILN_BLENDS_LAST, KILN:0x0032 -/
def KILN_BLENDS_LAST_BLENDS : Fld := ⟨0x90032, 1, 1, 35, 0, .RO, .V, false, false, 0, [], []⟩

/-! 05_kiln: KILN_LUT_STATUS, KILN:0x0040 -/
def KILN_LUT_STATUS_IN_USE : Fld := ⟨0x90040, 1, 1, 31, 16, .RO, .V, false, false, 0, [], []⟩
def KILN_LUT_STATUS_PENDING : Fld := ⟨0x90040, 1, 1, 15, 0, .RO, .V, false, false, 0, [], []⟩

/-! 06_slab_buffers: KILN_SURF array, base KILN:0x0400, stride 4, count 256 -/
def KILN_SURF_W0_BASE : Fld := ⟨0x90400, 4, 256, 27, 0, .RO, .S, true, false, 0, [], []⟩
def KILN_SURF_W1_CRUMB : Fld := ⟨0x90401, 4, 256, 35, 35, .RO, .S, true, false, 0, [], []⟩
def KILN_SURF_W1_W_M1 : Fld := ⟨0x90401, 4, 256, 34, 22, .RO, .S, true, false, 0, [], []⟩
def KILN_SURF_W1_H_M1 : Fld := ⟨0x90401, 4, 256, 21, 9, .RO, .S, true, false, 0, [], []⟩
def KILN_SURF_W2_STRIDE_M1 : Fld := ⟨0x90402, 4, 256, 35, 23, .RO, .S, true, false, 0, [], []⟩
def KILN_SURF_W2_SECTORS : Fld := ⟨0x90402, 4, 256, 22, 0, .RO, .S, true, false, 0, [], []⟩
def KILN_SURF_W3_DEFINED : Fld := ⟨0x90403, 4, 256, 35, 35, .RO, .S, true, false, 0, [], []⟩
def KILN_SURF_W3_SEALED : Fld := ⟨0x90403, 4, 256, 34, 34, .RO, .V, false, false, 0, [], []⟩
def KILN_SURF_W3_RELEASING : Fld := ⟨0x90403, 4, 256, 33, 33, .RO, .V, false, false, 0, [], []⟩
def KILN_SURF_W3_WRITING : Fld := ⟨0x90403, 4, 256, 32, 32, .RO, .V, false, false, 0, [], []⟩
def KILN_SURF_W3_INVALID : Fld := ⟨0x90403, 4, 256, 31, 31, .RO, .S, false, false, 0, [], []⟩
def KILN_SURF_W3_FORCED : Fld := ⟨0x90403, 4, 256, 30, 30, .RO, .V, false, false, 0, [], []⟩
def KILN_SURF_W3_LAST_USE : Fld := ⟨0x90403, 4, 256, 26, 0, .RO, .V, false, false, 0, [], []⟩

/-! 06_slab_buffers: KILN_CONCEAL, KILN:0x0041 -/
def KILN_CONCEAL_SECTORS : Fld := ⟨0x90041, 1, 1, 35, 18, .W1C, .S, false, false, 0, [], []⟩
def KILN_CONCEAL_BLOCKS : Fld := ⟨0x90041, 1, 1, 17, 0, .W1C, .S, false, false, 0, [], []⟩

/-! 06_slab_buffers: KILN_WRITE_QUEUE, KILN:0x0042 -/
def KILN_WRITE_QUEUE_QUEUED : Fld := ⟨0x90042, 1, 1, 35, 31, .RO, .V, false, false, 0, [], []⟩

/-! 07_glaze: GLAZE_CTRL, GLAZE:0x0000 -/
def GLAZE_CTRL_POST_LUT : Fld := ⟨0xA0000, 1, 1, 3, 2, .RW, .W, false, true, 0, [], []⟩
def GLAZE_CTRL_TEMPORAL : Fld := ⟨0xA0000, 1, 1, 1, 1, .RW, .W, true, false, 1, [], []⟩
def GLAZE_CTRL_DITHER_EN : Fld := ⟨0xA0000, 1, 1, 0, 0, .RW, .W, true, false, 1, [], []⟩

/-! 07_glaze: GLAZE_BRT, GLAZE:0x0001 -/
def GLAZE_BRT_BRT : Fld := ⟨0xA0001, 1, 1, 35, 20, .RW, .W, false, true, 65535, [], []⟩
def GLAZE_BRT_CROSSOVER : Fld := ⟨0xA0001, 1, 1, 19, 4, .RW, .W, true, false, 8192, [], []⟩
def GLAZE_BRT_CUR_MIN : Fld := ⟨0xA0001, 1, 1, 3, 0, .RW, .W, true, false, 1, [], []⟩

/-! 07_glaze: GLAZE_AGING_CTRL, GLAZE:0x0002 -/
def GLAZE_AGING_CTRL_HEADROOM : Fld := ⟨0xA0002, 1, 1, 35, 20, .RW, .W, true, false, 49152, [], [(32768, 65535)]⟩
def GLAZE_AGING_CTRL_AGE_EN : Fld := ⟨0xA0002, 1, 1, 19, 19, .RW, .W, true, false, 1, [], []⟩

/-! 07_glaze: GLAZE_FRAME_STATE, GLAZE:0x0003 -/
def GLAZE_FRAME_STATE_BRT_EFF : Fld := ⟨0xA0003, 1, 1, 35, 19, .RO, .V, false, false, 0, [], []⟩
def GLAZE_FRAME_STATE_STEP : Fld := ⟨0xA0003, 1, 1, 18, 15, .RO, .V, false, false, 0, [], []⟩
def GLAZE_FRAME_STATE_COOLED : Fld := ⟨0xA0003, 1, 1, 14, 14, .RO, .V, false, false, 0, [], []⟩
def GLAZE_FRAME_STATE_AMBIENT : Fld := ⟨0xA0003, 1, 1, 13, 13, .RO, .V, false, false, 0, [], []⟩

/-! 07_glaze: GLAZE_SAT, GLAZE:0x0004 -/
def GLAZE_SAT_MATRIX : Fld := ⟨0xA0004, 1, 1, 35, 18, .W1C, .S, false, false, 0, [], []⟩
def GLAZE_SAT_GAIN : Fld := ⟨0xA0004, 1, 1, 17, 0, .W1C, .S, false, false, 0, [], []⟩

/-! 07_glaze: GLAZE_AGING_STATUS, GLAZE:0x0005 -/
def GLAZE_AGING_STATUS_CLIPPED : Fld := ⟨0xA0005, 1, 1, 35, 18, .RO, .V, false, false, 0, [], []⟩

/-! 07_glaze: GLAZE_CTX_STATUS and GLAZE_CTX_FRAME, GLAZE:0x0006 and GLAZE:0x0007 -/
def GLAZE_CTX_STATUS_PENDING : Fld := ⟨0xA0006, 1, 1, 35, 35, .RO, .V, false, false, 0, [], []⟩
def GLAZE_CTX_STATUS_COPYING : Fld := ⟨0xA0006, 1, 1, 34, 34, .RO, .V, false, false, 0, [], []⟩
def GLAZE_CTX_STATUS_PARITY_CTX : Fld := ⟨0xA0006, 1, 1, 33, 18, .RO, .S, false, false, 0, [], []⟩
def GLAZE_CTX_STATUS_PARITY_COUNT : Fld := ⟨0xA0006, 1, 1, 17, 0, .W1C, .S, false, false, 0, [], []⟩
def GLAZE_CTX_FRAME_PEND_FRAME : Fld := ⟨0xA0007, 1, 1, 35, 0, .RO, .V, false, false, 0, [], []⟩

/-! 07_glaze: GLAZE_LUT_STATUS, GLAZE:0x0008 -/
def GLAZE_LUT_STATUS_IN_USE : Fld := ⟨0xA0008, 1, 1, 7, 4, .RO, .V, false, false, 0, [], []⟩
def GLAZE_LUT_STATUS_PENDING : Fld := ⟨0xA0008, 1, 1, 3, 0, .RO, .V, false, false, 0, [], []⟩

/-! 07_glaze: GLAZE_ZONE array, base GLAZE:0x0010, stride 1, count 16 -/
def GLAZE_ZONE_CONE : Fld := ⟨0xA0010, 1, 16, 35, 32, .RO, .V, false, false, 0, [], []⟩
def GLAZE_ZONE_ENTRY_LO : Fld := ⟨0xA0010, 1, 16, 31, 29, .RO, .V, false, false, 0, [], []⟩
def GLAZE_ZONE_ENTRY_HI : Fld := ⟨0xA0010, 1, 16, 28, 26, .RO, .V, false, false, 0, [], []⟩
def GLAZE_ZONE_WEIGHT : Fld := ⟨0xA0010, 1, 16, 25, 10, .RO, .V, false, false, 0, [], []⟩
def GLAZE_ZONE_CLAMPED : Fld := ⟨0xA0010, 1, 16, 9, 9, .RO, .V, false, false, 0, [], []⟩
def GLAZE_ZONE_NONE : Fld := ⟨0xA0010, 1, 16, 8, 8, .RO, .V, false, false, 1, [], []⟩

/-! 07_glaze: GLAZE_SETLIST array, base GLAZE:0x0020, stride 1, count 6 -/
def GLAZE_SETLIST_EN : Fld := ⟨0xA0020, 1, 6, 35, 35, .RW, .W, true, true, 0, [], []⟩
def GLAZE_SETLIST_SLOT : Fld := ⟨0xA0020, 1, 6, 34, 32, .RW, .W, true, true, 0, [], []⟩
def GLAZE_SETLIST_TREF : Fld := ⟨0xA0020, 1, 6, 31, 19, .RW, .W, true, true, 0, [], []⟩

/-! 07_glaze: GLAZE_SLOT array, base GLAZE:0x0028, stride 1, count 8 -/
def GLAZE_SLOT_LOADED : Fld := ⟨0xA0028, 1, 8, 35, 35, .RO, .S, true, false, 0, [], []⟩
def GLAZE_SLOT_COUNT_M1 : Fld := ⟨0xA0028, 1, 8, 34, 23, .RO, .S, true, false, 0, [], []⟩
def GLAZE_SLOT_IN_USE : Fld := ⟨0xA0028, 1, 8, 22, 22, .RO, .V, false, false, 0, [], []⟩
def GLAZE_SLOT_PENDING : Fld := ⟨0xA0028, 1, 8, 21, 21, .RO, .V, false, false, 0, [], []⟩

/-! 08_calibration: CAL_CTRL, HEARTH:0x0400 -/
def CAL_CTRL_CAL_DELTA : Fld := ⟨0x20400, 1, 1, 35, 28, .RW, .W, true, false, 96, [], [(16, 255)]⟩
def CAL_CTRL_CAL_PERIOD : Fld := ⟨0x20400, 1, 1, 27, 20, .RW, .W, true, false, 24, [], []⟩
def CAL_CTRL_AUTO_K : Fld := ⟨0x20400, 1, 1, 19, 19, .RW, .W, true, false, 1, [], []⟩
def CAL_CTRL_SAVE_PERIOD : Fld := ⟨0x20400, 1, 1, 18, 8, .RW, .W, true, false, 60, [], [(45, 1440)]⟩

/-! 08_calibration: CAL_TTH, HEARTH:0x0401 -/
def CAL_TTH_TTH_EN : Fld := ⟨0x20401, 1, 1, 35, 35, .RW, .W, true, false, 0, [], []⟩
def CAL_TTH_TTH_ZONE : Fld := ⟨0x20401, 1, 1, 34, 31, .RW, .W, true, false, 0, [], []⟩
def CAL_TTH_MEAS_STEP : Fld := ⟨0x20401, 1, 1, 30, 27, .RW, .W, true, false, 7, [], []⟩
def CAL_TTH_MEAS_CODE : Fld := ⟨0x20401, 1, 1, 26, 15, .RW, .W, true, false, 2048, [], [(1, 4095)]⟩
def CAL_TTH_MIN_DEF : Fld := ⟨0x20401, 1, 1, 14, 0, .RW, .W, true, false, 512, [], []⟩

/-! 08_calibration: CAL_MODEL_RG and CAL_MODEL_B, HEARTH:0x0402 and HEARTH:0x0403 -/
def CAL_MODEL_RG_K_R : Fld := ⟨0x20402, 1, 1, 35, 20, .RW, .S, false, false, 16384, [], [(4096, 65535)]⟩
def CAL_MODEL_RG_K_G : Fld := ⟨0x20402, 1, 1, 19, 4, .RW, .S, false, false, 16384, [], [(4096, 65535)]⟩
def CAL_MODEL_B_K_B : Fld := ⟨0x20403, 1, 1, 35, 20, .RW, .S, false, false, 16384, [], [(4096, 65535)]⟩
def CAL_MODEL_B_NORM : Fld := ⟨0x20403, 1, 1, 19, 4, .RW, .W, true, false, 32768, [], [(16384, 32768)]⟩

/-! 08_calibration: CAL_RUN_STATUS, HEARTH:0x0404 -/
def CAL_RUN_STATUS_PENDING : Fld := ⟨0x20404, 1, 1, 35, 35, .RO, .V, false, false, 0, [], []⟩
def CAL_RUN_STATUS_RUNNING : Fld := ⟨0x20404, 1, 1, 34, 34, .RO, .V, false, false, 0, [], []⟩
def CAL_RUN_STATUS_STEP : Fld := ⟨0x20404, 1, 1, 33, 32, .RO, .V, false, false, 0, [], []⟩
def CAL_RUN_STATUS_LAST_RESULT : Fld := ⟨0x20404, 1, 1, 31, 28, .RO, .S, false, false, 0, [], []⟩
def CAL_RUN_STATUS_T_LAST : Fld := ⟨0x20404, 1, 1, 27, 15, .RO, .S, false, false, 0, [], []⟩
def CAL_RUN_STATUS_RUNS : Fld := ⟨0x20404, 1, 1, 14, 0, .RO, .S, false, false, 0, [], []⟩

/-! 08_calibration: CAL_STORE_STATUS, HEARTH:0x0405 -/
def CAL_STORE_STATUS_SAVING : Fld := ⟨0x20405, 1, 1, 35, 35, .RO, .V, false, false, 0, [], []⟩
def CAL_STORE_STATUS_SNAP_SLOT : Fld := ⟨0x20405, 1, 1, 34, 33, .RO, .S, false, false, 3, [], []⟩
def CAL_STORE_STATUS_STATIC_SIDE : Fld := ⟨0x20405, 1, 1, 32, 32, .RO, .S, false, false, 0, [], []⟩
def CAL_STORE_STATUS_SINCE : Fld := ⟨0x20405, 1, 1, 31, 20, .RO, .S, false, false, 0, [], []⟩
def CAL_STORE_STATUS_SNAP_SEQ : Fld := ⟨0x20405, 1, 1, 19, 0, .RO, .S, false, false, 0, [], []⟩

/-! 08_calibration: CAL_AMB_CTRL, CAL_AMB_HOST and CAL_AMB_STATUS, HEARTH:0x0406 to HEARTH:0x0408 -/
def CAL_AMB_CTRL_AMB_EN : Fld := ⟨0x20406, 1, 1, 35, 35, .RW, .W, true, false, 0, [], []⟩
def CAL_AMB_CTRL_AMB_SRC : Fld := ⟨0x20406, 1, 1, 34, 34, .RW, .W, true, false, 0, [], []⟩
def CAL_AMB_CTRL_AMB_SHIFT : Fld := ⟨0x20406, 1, 1, 33, 30, .RW, .W, true, false, 7, [], [(0, 12)]⟩
def CAL_AMB_CTRL_AMB_EVERY : Fld := ⟨0x20406, 1, 1, 29, 24, .RW, .W, true, false, 12, [], [(1, 63)]⟩
def CAL_AMB_CTRL_AMB_SLEW : Fld := ⟨0x20406, 1, 1, 23, 12, .RW, .W, true, false, 1024, [], [(1, 4095)]⟩
def CAL_AMB_HOST_AMB_HOST : Fld := ⟨0x20407, 1, 1, 35, 20, .RW, .W, false, false, 0, [], []⟩
def CAL_AMB_STATUS_AF : Fld := ⟨0x20408, 1, 1, 35, 20, .RO, .V, false, false, 0, [], []⟩
def CAL_AMB_STATUS_BAMB : Fld := ⟨0x20408, 1, 1, 19, 4, .RO, .V, false, false, 65535, [], []⟩

/-! 08_calibration: CAL_WT array, base HEARTH:0x0410, stride 1, count 16 -/
def CAL_WT_WT : Fld := ⟨0x20410, 1, 16, 15, 0, .RW, .W, true, false, 0, [849, 1103, 1434, 1864, 2424, 3151, 4096, 5325, 6922, 8999, 11699, 15208, 19771, 25702, 33412, 43436], []⟩

/-! 08_calibration: CAL_BASE array, base HEARTH:0x0420, stride 2, count 6 -/
def CAL_BASE_W0_EN : Fld := ⟨0x20420, 2, 6, 35, 35, .RW, .S, false, false, 0, [], []⟩
def CAL_BASE_W0_TEMP : Fld := ⟨0x20420, 2, 6, 34, 22, .RW, .S, false, false, 0, [], []⟩
def CAL_BASE_W0_BASE_R : Fld := ⟨0x20420, 2, 6, 15, 0, .RW, .S, false, false, 0, [], []⟩
def CAL_BASE_W1_BASE_G : Fld := ⟨0x20421, 2, 6, 35, 20, .RW, .S, false, false, 0, [], []⟩
def CAL_BASE_W1_BASE_B : Fld := ⟨0x20421, 2, 6, 19, 4, .RW, .S, false, false, 0, [], []⟩

/-! 08_calibration: CAL_LAST array, base HEARTH:0x0430, stride 1, count 3 -/
def CAL_LAST_NET : Fld := ⟨0x20430, 1, 3, 35, 20, .RO, .S, false, false, 0, [], []⟩
def CAL_LAST_MEAS : Fld := ⟨0x20430, 1, 3, 19, 4, .RO, .S, false, false, 0, [], []⟩

/-! 08_calibration: CAL_TTH_AGE array, base HEARTH:0x0434, stride 1, count 6 -/
def CAL_TTH_AGE_AGE : Fld := ⟨0x20434, 1, 6, 35, 0, .RW, .S, false, false, 0, [], []⟩

/-! 08_calibration: CAL_AGING_SUMMARY array, base HEARTH:0x043C, stride 1, count 3 -/
def CAL_AGING_SUMMARY_G_MAX : Fld := ⟨0x2043C, 1, 3, 35, 20, .RO, .V, false, false, 0, [], []⟩
def CAL_AGING_SUMMARY_G_MEAN : Fld := ⟨0x2043C, 1, 3, 19, 4, .RO, .V, false, false, 0, [], []⟩

/-! 08_calibration: CAL_AMB_CURVE array, base HEARTH:0x0440, stride 1, count 8 -/
def CAL_AMB_CURVE_X : Fld := ⟨0x20440, 1, 8, 35, 20, .RW, .W, true, false, 0, [], []⟩
def CAL_AMB_CURVE_Y : Fld := ⟨0x20440, 1, 8, 19, 4, .RW, .W, true, false, 65535, [], []⟩

/-! 09_scan_out: EMIT_SCAN_CTRL, EMIT:0x0000 -/
def EMIT_SCAN_CTRL_COMMONS_M1 : Fld := ⟨0xB0000, 1, 1, 33, 28, .RW, .W, true, false, 31, [], []⟩
def EMIT_SCAN_CTRL_SUB32 : Fld := ⟨0xB0000, 1, 1, 27, 27, .RW, .W, true, false, 1, [], []⟩
def EMIT_SCAN_CTRL_LINE_CLKS : Fld := ⟨0xB0000, 1, 1, 26, 18, .RW, .W, true, false, 144, [], [(72, 511)]⟩
def EMIT_SCAN_CTRL_SCAN_PHASE : Fld := ⟨0xB0000, 1, 1, 17, 6, .RW, .W, true, false, 100, [], []⟩

/-! 09_scan_out: EMIT_HEAD_CTRL, EMIT:0x0001 -/
def EMIT_HEAD_CTRL_HEAD_B : Fld := ⟨0xB0001, 1, 1, 35, 35, .RW, .W, true, false, 1, [], []⟩
def EMIT_HEAD_CTRL_NL_M1 : Fld := ⟨0xB0001, 1, 1, 34, 32, .RW, .W, true, false, 7, [], []⟩
def EMIT_HEAD_CTRL_SPLIT : Fld := ⟨0xB0001, 1, 1, 31, 24, .RW, .W, true, false, 0, [], []⟩
def EMIT_HEAD_CTRL_TE_SEL : Fld := ⟨0xB0001, 1, 1, 23, 22, .RW, .W, true, false, 0, [], [(0, 2)]⟩
def EMIT_HEAD_CTRL_TE_TIMEOUT : Fld := ⟨0xB0001, 1, 1, 21, 12, .RW, .W, true, false, 200, [], [(20, 1000)]⟩
def EMIT_HEAD_CTRL_ECHO_EN : Fld := ⟨0xB0001, 1, 1, 11, 11, .RW, .W, true, false, 0, [], []⟩
def EMIT_HEAD_CTRL_TTH_LANE : Fld := ⟨0xB0001, 1, 1, 10, 7, .RW, .W, true, false, 15, [], []⟩
def EMIT_HEAD_CTRL_TTH_COMMON : Fld := ⟨0xB0001, 1, 1, 6, 1, .RW, .W, true, false, 0, [], []⟩
def EMIT_HEAD_CTRL_SCAN_EN : Fld := ⟨0xB0001, 1, 1, 0, 0, .RW, .W, false, false, 0, [], []⟩

/-! 09_scan_out: EMIT_UPDATE_CTRL, EMIT:0x0002 -/
def EMIT_UPDATE_CTRL_PARTIAL_EN : Fld := ⟨0xB0002, 1, 1, 35, 35, .RW, .W, true, false, 1, [], []⟩
def EMIT_UPDATE_CTRL_REFRESH_EVERY : Fld := ⟨0xB0002, 1, 1, 34, 31, .RW, .W, true, false, 8, [], []⟩
def EMIT_UPDATE_CTRL_FULL_NEXT : Fld := ⟨0xB0002, 1, 1, 30, 30, .WO, .N, false, false, 0, [], []⟩
def EMIT_UPDATE_CTRL_FREEZE_FRAMES : Fld := ⟨0xB0002, 1, 1, 29, 26, .RW, .W, true, false, 4, [], [(2, 15)]⟩

/-! 09_scan_out: EMIT_SWAP_STATUS, EMIT:0x0003 -/
def EMIT_SWAP_STATUS_OUTCOME : Fld := ⟨0xB0003, 1, 1, 35, 33, .RO, .V, false, false, 0, [], []⟩
def EMIT_SWAP_STATUS_TE_OFFSET : Fld := ⟨0xB0003, 1, 1, 32, 21, .RO, .V, false, false, 0, [], []⟩
def EMIT_SWAP_STATUS_INFLIGHT_A : Fld := ⟨0xB0003, 1, 1, 20, 17, .RO, .V, false, false, 0, [], []⟩
def EMIT_SWAP_STATUS_INFLIGHT_B : Fld := ⟨0xB0003, 1, 1, 16, 13, .RO, .V, false, false, 0, [], []⟩
def EMIT_SWAP_STATUS_FRAME_LO : Fld := ⟨0xB0003, 1, 1, 11, 0, .RO, .V, false, false, 0, [], []⟩

/-! 09_scan_out: EMIT_RECT array, base EMIT:0x0010, stride 2, count 16 -/
def EMIT_RECT_W0_VALID : Fld := ⟨0xB0010, 2, 16, 35, 35, .RO, .V, false, false, 0, [], []⟩
def EMIT_RECT_W0_WAITING : Fld := ⟨0xB0010, 2, 16, 34, 34, .RO, .V, false, false, 0, [], []⟩
def EMIT_RECT_W0_X0 : Fld := ⟨0xB0010, 2, 16, 33, 26, .RO, .V, false, false, 0, [], []⟩
def EMIT_RECT_W0_W_M1 : Fld := ⟨0xB0010, 2, 16, 25, 18, .RO, .V, false, false, 0, [], []⟩
def EMIT_RECT_W0_Y0 : Fld := ⟨0xB0010, 2, 16, 17, 10, .RO, .V, false, false, 0, [], []⟩
def EMIT_RECT_W0_H_M1 : Fld := ⟨0xB0010, 2, 16, 9, 2, .RO, .V, false, false, 0, [], []⟩
def EMIT_RECT_W1_WORDS_LEFT : Fld := ⟨0xB0011, 2, 16, 35, 12, .RO, .V, false, false, 0, [], []⟩
def EMIT_RECT_W1_FRAME_LO : Fld := ⟨0xB0011, 2, 16, 11, 0, .RO, .V, false, false, 0, [], []⟩

/-! 09_scan_out: EMIT_DRAW_REGION array, base EMIT:0x0040, stride 2, count 32 -/
def EMIT_DRAW_REGION_W0_EN : Fld := ⟨0xB0040, 2, 32, 35, 35, .RW, .W, true, false, 0, [], []⟩
def EMIT_DRAW_REGION_W0_FREEZE_EN : Fld := ⟨0xB0040, 2, 32, 34, 34, .RW, .W, true, false, 1, [], []⟩
def EMIT_DRAW_REGION_W0_X0 : Fld := ⟨0xB0040, 2, 32, 33, 26, .RW, .W, true, false, 0, [], []⟩
def EMIT_DRAW_REGION_W0_X1 : Fld := ⟨0xB0040, 2, 32, 25, 18, .RW, .W, true, false, 0, [], []⟩
def EMIT_DRAW_REGION_W0_Y0 : Fld := ⟨0xB0040, 2, 32, 17, 10, .RW, .W, true, false, 0, [], []⟩
def EMIT_DRAW_REGION_W0_Y1 : Fld := ⟨0xB0040, 2, 32, 9, 2, .RW, .W, true, false, 0, [], []⟩
def EMIT_DRAW_REGION_W1_SIG : Fld := ⟨0xB0041, 2, 32, 35, 0, .RO, .V, false, false, 0, [], []⟩

/-! 09_scan_out: EMIT_FREEZE and EMIT_READBACK, EMIT:0x00A0 and EMIT:0x00A1 -/
def EMIT_FREEZE_FROZEN : Fld := ⟨0xB00A0, 1, 1, 31, 0, .W1C, .S, false, false, 0, [], []⟩
def EMIT_READBACK_MISMATCH : Fld := ⟨0xB00A1, 1, 1, 35, 20, .W1C, .S, false, false, 0, [], []⟩
def EMIT_READBACK_FAILED : Fld := ⟨0xB00A1, 1, 1, 19, 4, .W1C, .S, false, false, 0, [], []⟩

/-! 10_emitter_drive: EMIT_DRIVE_CONE array, base EMIT:0x0100, stride 32, count 16 -/
def EMIT_DRIVE_CONE_W0_BLANK_CLKS : Fld := ⟨0xB0100, 32, 16, 25, 18, .RW, .W, true, true, 16, [], [(8, 255)]⟩
def EMIT_DRIVE_CONE_W0_PRECHG_CLKS : Fld := ⟨0xB0100, 32, 16, 17, 10, .RW, .W, true, true, 8, [], [(0, 253)]⟩
def EMIT_DRIVE_CONE_W0_PLACE : Fld := ⟨0xB0100, 32, 16, 9, 8, .RW, .W, true, true, 0, [], [(0, 2)]⟩
def EMIT_DRIVE_CONE_W1_PRE_R : Fld := ⟨0xB0101, 32, 16, 35, 24, .RW, .W, true, true, 2457, [], []⟩
def EMIT_DRIVE_CONE_W1_PRE_G : Fld := ⟨0xB0101, 32, 16, 23, 12, .RW, .W, true, true, 2867, [], []⟩
def EMIT_DRIVE_CONE_W1_PRE_B : Fld := ⟨0xB0101, 32, 16, 11, 0, .RW, .W, true, true, 2867, [], []⟩
def EMIT_DRIVE_CONE_W2_I_R : Fld := ⟨0xB0102, 32, 16, 35, 24, .RW, .W, true, true, 255, [], []⟩
def EMIT_DRIVE_CONE_W2_I_G : Fld := ⟨0xB0102, 32, 16, 23, 12, .RW, .W, true, true, 255, [], []⟩
def EMIT_DRIVE_CONE_W2_I_B : Fld := ⟨0xB0102, 32, 16, 11, 0, .RW, .W, true, true, 255, [], []⟩
def EMIT_DRIVE_CONE_W3_I_R : Fld := ⟨0xB0103, 32, 16, 35, 24, .RW, .W, true, true, 511, [], []⟩
def EMIT_DRIVE_CONE_W3_I_G : Fld := ⟨0xB0103, 32, 16, 23, 12, .RW, .W, true, true, 511, [], []⟩
def EMIT_DRIVE_CONE_W3_I_B : Fld := ⟨0xB0103, 32, 16, 11, 0, .RW, .W, true, true, 511, [], []⟩
def EMIT_DRIVE_CONE_W4_I_R : Fld := ⟨0xB0104, 32, 16, 35, 24, .RW, .W, true, true, 767, [], []⟩
def EMIT_DRIVE_CONE_W4_I_G : Fld := ⟨0xB0104, 32, 16, 23, 12, .RW, .W, true, true, 767, [], []⟩
def EMIT_DRIVE_CONE_W4_I_B : Fld := ⟨0xB0104, 32, 16, 11, 0, .RW, .W, true, true, 767, [], []⟩
def EMIT_DRIVE_CONE_W5_I_R : Fld := ⟨0xB0105, 32, 16, 35, 24, .RW, .W, true, true, 1023, [], []⟩
def EMIT_DRIVE_CONE_W5_I_G : Fld := ⟨0xB0105, 32, 16, 23, 12, .RW, .W, true, true, 1023, [], []⟩
def EMIT_DRIVE_CONE_W5_I_B : Fld := ⟨0xB0105, 32, 16, 11, 0, .RW, .W, true, true, 1023, [], []⟩
def EMIT_DRIVE_CONE_W6_I_R : Fld := ⟨0xB0106, 32, 16, 35, 24, .RW, .W, true, true, 1279, [], []⟩
def EMIT_DRIVE_CONE_W6_I_G : Fld := ⟨0xB0106, 32, 16, 23, 12, .RW, .W, true, true, 1279, [], []⟩
def EMIT_DRIVE_CONE_W6_I_B : Fld := ⟨0xB0106, 32, 16, 11, 0, .RW, .W, true, true, 1279, [], []⟩
def EMIT_DRIVE_CONE_W7_I_R : Fld := ⟨0xB0107, 32, 16, 35, 24, .RW, .W, true, true, 1535, [], []⟩
def EMIT_DRIVE_CONE_W7_I_G : Fld := ⟨0xB0107, 32, 16, 23, 12, .RW, .W, true, true, 1535, [], []⟩
def EMIT_DRIVE_CONE_W7_I_B : Fld := ⟨0xB0107, 32, 16, 11, 0, .RW, .W, true, true, 1535, [], []⟩
def EMIT_DRIVE_CONE_W8_I_R : Fld := ⟨0xB0108, 32, 16, 35, 24, .RW, .W, true, true, 1791, [], []⟩
def EMIT_DRIVE_CONE_W8_I_G : Fld := ⟨0xB0108, 32, 16, 23, 12, .RW, .W, true, true, 1791, [], []⟩
def EMIT_DRIVE_CONE_W8_I_B : Fld := ⟨0xB0108, 32, 16, 11, 0, .RW, .W, true, true, 1791, [], []⟩
def EMIT_DRIVE_CONE_W9_I_R : Fld := ⟨0xB0109, 32, 16, 35, 24, .RW, .W, true, true, 2047, [], []⟩
def EMIT_DRIVE_CONE_W9_I_G : Fld := ⟨0xB0109, 32, 16, 23, 12, .RW, .W, true, true, 2047, [], []⟩
def EMIT_DRIVE_CONE_W9_I_B : Fld := ⟨0xB0109, 32, 16, 11, 0, .RW, .W, true, true, 2047, [], []⟩
def EMIT_DRIVE_CONE_W10_I_R : Fld := ⟨0xB010A, 32, 16, 35, 24, .RW, .W, true, true, 2303, [], []⟩
def EMIT_DRIVE_CONE_W10_I_G : Fld := ⟨0xB010A, 32, 16, 23, 12, .RW, .W, true, true, 2303, [], []⟩
def EMIT_DRIVE_CONE_W10_I_B : Fld := ⟨0xB010A, 32, 16, 11, 0, .RW, .W, true, true, 2303, [], []⟩
def EMIT_DRIVE_CONE_W11_I_R : Fld := ⟨0xB010B, 32, 16, 35, 24, .RW, .W, true, true, 2559, [], []⟩
def EMIT_DRIVE_CONE_W11_I_G : Fld := ⟨0xB010B, 32, 16, 23, 12, .RW, .W, true, true, 2559, [], []⟩
def EMIT_DRIVE_CONE_W11_I_B : Fld := ⟨0xB010B, 32, 16, 11, 0, .RW, .W, true, true, 2559, [], []⟩
def EMIT_DRIVE_CONE_W12_I_R : Fld := ⟨0xB010C, 32, 16, 35, 24, .RW, .W, true, true, 2815, [], []⟩
def EMIT_DRIVE_CONE_W12_I_G : Fld := ⟨0xB010C, 32, 16, 23, 12, .RW, .W, true, true, 2815, [], []⟩
def EMIT_DRIVE_CONE_W12_I_B : Fld := ⟨0xB010C, 32, 16, 11, 0, .RW, .W, true, true, 2815, [], []⟩
def EMIT_DRIVE_CONE_W13_I_R : Fld := ⟨0xB010D, 32, 16, 35, 24, .RW, .W, true, true, 3071, [], []⟩
def EMIT_DRIVE_CONE_W13_I_G : Fld := ⟨0xB010D, 32, 16, 23, 12, .RW, .W, true, true, 3071, [], []⟩
def EMIT_DRIVE_CONE_W13_I_B : Fld := ⟨0xB010D, 32, 16, 11, 0, .RW, .W, true, true, 3071, [], []⟩
def EMIT_DRIVE_CONE_W14_I_R : Fld := ⟨0xB010E, 32, 16, 35, 24, .RW, .W, true, true, 3327, [], []⟩
def EMIT_DRIVE_CONE_W14_I_G : Fld := ⟨0xB010E, 32, 16, 23, 12, .RW, .W, true, true, 3327, [], []⟩
def EMIT_DRIVE_CONE_W14_I_B : Fld := ⟨0xB010E, 32, 16, 11, 0, .RW, .W, true, true, 3327, [], []⟩
def EMIT_DRIVE_CONE_W15_I_R : Fld := ⟨0xB010F, 32, 16, 35, 24, .RW, .W, true, true, 3583, [], []⟩
def EMIT_DRIVE_CONE_W15_I_G : Fld := ⟨0xB010F, 32, 16, 23, 12, .RW, .W, true, true, 3583, [], []⟩
def EMIT_DRIVE_CONE_W15_I_B : Fld := ⟨0xB010F, 32, 16, 11, 0, .RW, .W, true, true, 3583, [], []⟩
def EMIT_DRIVE_CONE_W16_I_R : Fld := ⟨0xB0110, 32, 16, 35, 24, .RW, .W, true, true, 3839, [], []⟩
def EMIT_DRIVE_CONE_W16_I_G : Fld := ⟨0xB0110, 32, 16, 23, 12, .RW, .W, true, true, 3839, [], []⟩
def EMIT_DRIVE_CONE_W16_I_B : Fld := ⟨0xB0110, 32, 16, 11, 0, .RW, .W, true, true, 3839, [], []⟩
def EMIT_DRIVE_CONE_W17_I_R : Fld := ⟨0xB0111, 32, 16, 35, 24, .RW, .W, true, true, 4095, [], []⟩
def EMIT_DRIVE_CONE_W17_I_G : Fld := ⟨0xB0111, 32, 16, 23, 12, .RW, .W, true, true, 4095, [], []⟩
def EMIT_DRIVE_CONE_W17_I_B : Fld := ⟨0xB0111, 32, 16, 11, 0, .RW, .W, true, true, 4095, [], []⟩

/-! 10_emitter_drive: EMIT_FAULT_CTRL, EMIT:0x0300 -/
def EMIT_FAULT_CTRL_FILL_SHARE : Fld := ⟨0xB0300, 1, 1, 35, 28, .RW, .W, true, false, 128, [], []⟩
def EMIT_FAULT_CTRL_CLEAR_MAPS : Fld := ⟨0xB0300, 1, 1, 27, 24, .RW, .W, true, false, 0, [], []⟩
def EMIT_FAULT_CTRL_PROBE_EN : Fld := ⟨0xB0300, 1, 1, 23, 23, .RW, .W, true, false, 1, [], []⟩

/-! 10_emitter_drive: EMIT_FAULT_STATUS, EMIT:0x0301 -/
def EMIT_FAULT_STATUS_ENTRIES : Fld := ⟨0xB0301, 1, 1, 35, 23, .RO, .S, false, false, 0, [], []⟩
def EMIT_FAULT_STATUS_STRING_FAILED : Fld := ⟨0xB0301, 1, 1, 22, 7, .RO, .S, false, false, 0, [], []⟩
def EMIT_FAULT_STATUS_PROBING : Fld := ⟨0xB0301, 1, 1, 6, 6, .RO, .V, false, false, 0, [], []⟩

/-! 10_emitter_drive: EMIT_FD_GROUP array, base EMIT:0x0310, stride 1, count 16 -/
def EMIT_FD_GROUP_WHOLE : Fld := ⟨0xB0310, 1, 16, 35, 35, .RW, .W, true, false, 0, [], []⟩
def EMIT_FD_GROUP_LATCH : Fld := ⟨0xB0310, 1, 16, 34, 34, .RW, .W, true, false, 1, [], []⟩
def EMIT_FD_GROUP_DARK : Fld := ⟨0xB0310, 1, 16, 33, 33, .RO, .S, false, false, 0, [], []⟩
def EMIT_FD_GROUP_BLANKING : Fld := ⟨0xB0310, 1, 16, 32, 32, .RO, .V, false, false, 0, [], []⟩
def EMIT_FD_GROUP_FAULTS : Fld := ⟨0xB0310, 1, 16, 31, 16, .RO, .S, false, false, 0, [], []⟩

/-! 10_emitter_drive: EMIT_PAT array, base EMIT:0x0320, stride 4, count 4 -/
def EMIT_PAT_W0_EFFECT : Fld := ⟨0xB0320, 4, 4, 35, 33, .RW, .W, true, false, 0, [], []⟩
def EMIT_PAT_W0_MAIN : Fld := ⟨0xB0320, 4, 4, 32, 32, .RW, .W, true, false, 0, [], []⟩
def EMIT_PAT_W0_DIR : Fld := ⟨0xB0320, 4, 4, 31, 31, .RW, .W, true, false, 0, [], []⟩
def EMIT_PAT_W0_SRC : Fld := ⟨0xB0320, 4, 4, 30, 30, .RW, .W, true, false, 0, [], []⟩
def EMIT_PAT_W0_WIDTH : Fld := ⟨0xB0320, 4, 4, 29, 22, .RW, .W, true, false, 1, [], [(1, 255)]⟩
def EMIT_PAT_W0_PERIOD : Fld := ⟨0xB0320, 4, 4, 21, 8, .RW, .W, true, false, 120, [], [(1, 16383)]⟩
def EMIT_PAT_W1_X0 : Fld := ⟨0xB0321, 4, 4, 35, 28, .RW, .W, true, false, 0, [], []⟩
def EMIT_PAT_W1_X1 : Fld := ⟨0xB0321, 4, 4, 27, 20, .RW, .W, true, false, 0, [], []⟩
def EMIT_PAT_W1_Y0 : Fld := ⟨0xB0321, 4, 4, 19, 12, .RW, .W, true, false, 0, [], []⟩
def EMIT_PAT_W1_Y1 : Fld := ⟨0xB0321, 4, 4, 11, 4, .RW, .W, true, false, 0, [], []⟩
def EMIT_PAT_W2_COLOUR_A : Fld := ⟨0xB0322, 4, 4, 35, 0, .RW, .W, true, false, 0, [], []⟩
def EMIT_PAT_W3_COLOUR_B : Fld := ⟨0xB0323, 4, 4, 35, 0, .RW, .W, true, false, 0, [], []⟩

/-! 10_emitter_drive: EMIT_PAT_PALETTE array, base EMIT:0x0330, stride 1, count 16 -/
def EMIT_PAT_PALETTE_COLOUR : Fld := ⟨0xB0330, 1, 16, 35, 0, .RW, .W, true, false, 0, [], []⟩

/-! 10_emitter_drive: EMIT_AUX array, base EMIT:0x0340, stride 1, count 8 -/
def EMIT_AUX_EN : Fld := ⟨0xB0340, 1, 8, 35, 35, .RW, .W, true, false, 0, [], []⟩
def EMIT_AUX_ENGINE : Fld := ⟨0xB0340, 1, 8, 34, 33, .RW, .W, true, false, 0, [], []⟩
def EMIT_AUX_COMP : Fld := ⟨0xB0340, 1, 8, 32, 31, .RW, .W, true, false, 0, [], []⟩
def EMIT_AUX_STEP_MIN : Fld := ⟨0xB0340, 1, 8, 30, 28, .RW, .W, true, false, 0, [], []⟩
def EMIT_AUX_CROSSOVER : Fld := ⟨0xB0340, 1, 8, 27, 16, .RW, .W, true, false, 512, [], []⟩
def EMIT_AUX_STEP : Fld := ⟨0xB0340, 1, 8, 15, 13, .RO, .V, false, false, 0, [], []⟩
def EMIT_AUX_DUTY : Fld := ⟨0xB0340, 1, 8, 12, 0, .RO, .V, false, false, 0, [], []⟩

/-! 11_lanes: LINK_LANE array, base LINK:0x0800, stride 4, count 32 -/
def LINK_LANE_W0_FITTED : Fld := ⟨0x50800, 4, 32, 35, 35, .RO, .W, false, false, 0, [], []⟩
def LINK_LANE_W0_TX_INV : Fld := ⟨0x50800, 4, 32, 34, 34, .RW, .W, false, false, 0, [], []⟩
def LINK_LANE_W0_RX_INV : Fld := ⟨0x50800, 4, 32, 33, 33, .RW, .W, false, false, 0, [], []⟩
def LINK_LANE_W0_TX_SWING : Fld := ⟨0x50800, 4, 32, 32, 29, .RW, .W, false, false, 0, [], []⟩
def LINK_LANE_W0_TX_PRE : Fld := ⟨0x50800, 4, 32, 28, 25, .RW, .W, false, false, 0, [], []⟩
def LINK_LANE_W0_TX_POST : Fld := ⟨0x50800, 4, 32, 24, 20, .RW, .W, false, false, 0, [], []⟩
def LINK_LANE_W0_RX_CTLE : Fld := ⟨0x50800, 4, 32, 19, 16, .RW, .W, false, false, 0, [], []⟩
def LINK_LANE_W0_RX_GAIN : Fld := ⟨0x50800, 4, 32, 15, 12, .RW, .W, false, false, 0, [], []⟩
def LINK_LANE_W0_RATE : Fld := ⟨0x50800, 4, 32, 11, 10, .RW, .W, false, false, 0, [], [(0, 2)]⟩
def LINK_LANE_W1_HOLD : Fld := ⟨0x50801, 4, 32, 35, 35, .RW, .V, false, false, 0, [], []⟩
def LINK_LANE_W1_STATE : Fld := ⟨0x50801, 4, 32, 34, 32, .RO, .V, false, false, 0, [], []⟩
def LINK_LANE_W2_DAMAGED : Fld := ⟨0x50802, 4, 32, 35, 18, .W1C, .S, false, false, 0, [], []⟩
def LINK_LANE_W2_LOST : Fld := ⟨0x50802, 4, 32, 17, 0, .W1C, .S, false, false, 0, [], []⟩
def LINK_LANE_W3_EYE_VALID : Fld := ⟨0x50803, 4, 32, 35, 35, .RO, .V, false, false, 0, [], []⟩
def LINK_LANE_W3_EYE_H : Fld := ⟨0x50803, 4, 32, 34, 29, .RO, .V, false, false, 0, [], []⟩
def LINK_LANE_W3_EYE_V : Fld := ⟨0x50803, 4, 32, 28, 24, .RO, .V, false, false, 0, [], []⟩

/-! 11_lanes: LINK_LANE_TABLE, LINK:0x0880 -/
def LINK_LANE_TABLE_VALID : Fld := ⟨0x50880, 1, 1, 35, 35, .RO, .W, false, false, 0, [], []⟩
def LINK_LANE_TABLE_DIGEST_OK : Fld := ⟨0x50880, 1, 1, 34, 34, .RO, .W, false, false, 0, [], []⟩
def LINK_LANE_TABLE_DEFAULTS : Fld := ⟨0x50880, 1, 1, 33, 33, .RO, .W, false, false, 0, [], []⟩
def LINK_LANE_TABLE_ETH_MODE : Fld := ⟨0x50880, 1, 1, 32, 32, .RO, .W, false, false, 0, [], []⟩

/-! 11_lanes: LINK_EYE_CTRL, LINK:0x0881 -/
def LINK_EYE_CTRL_START : Fld := ⟨0x50881, 1, 1, 35, 35, .WO, .N, false, false, 0, [], []⟩
def LINK_EYE_CTRL_BUSY : Fld := ⟨0x50881, 1, 1, 34, 34, .RO, .V, false, false, 0, [], []⟩
def LINK_EYE_CTRL_AUTO : Fld := ⟨0x50881, 1, 1, 33, 33, .RW, .W, true, false, 1, [], []⟩
def LINK_EYE_CTRL_LANE : Fld := ⟨0x50881, 1, 1, 32, 28, .RW, .V, false, false, 0, [], []⟩
def LINK_EYE_CTRL_MIN_H : Fld := ⟨0x50881, 1, 1, 27, 22, .RW, .W, true, false, 16, [], []⟩
def LINK_EYE_CTRL_MIN_V : Fld := ⟨0x50881, 1, 1, 21, 17, .RW, .W, true, false, 4, [], []⟩
def LINK_EYE_CTRL_ERROR : Fld := ⟨0x50881, 1, 1, 16, 16, .RO, .V, false, false, 0, [], []⟩

/-! 11_lanes: LINK_LANE_LAST, LINK:0x0882 -/
def LINK_LANE_LAST_LANE : Fld := ⟨0x50882, 1, 1, 35, 31, .RO, .V, false, false, 0, [], []⟩
def LINK_LANE_LAST_EVENT : Fld := ⟨0x50882, 1, 1, 30, 27, .RO, .V, false, false, 0, [], []⟩

/-! 12_cawell_links: LINK_PORT array, base LINK:0x0000, stride 8, count 4 -/
def LINK_PORT_W0_EN : Fld := ⟨0x50000, 8, 4, 35, 35, .RW, .W, false, false, 1, [], []⟩
def LINK_PORT_W0_SLEEP : Fld := ⟨0x50000, 8, 4, 34, 34, .RW, .V, false, false, 0, [], []⟩
def LINK_PORT_W1_STATE : Fld := ⟨0x50001, 8, 4, 35, 34, .RO, .V, false, false, 0, [], []⟩
def LINK_PORT_W1_FAR : Fld := ⟨0x50001, 8, 4, 33, 31, .RO, .V, false, false, 0, [], []⟩
def LINK_PORT_W1_FAR_PORT : Fld := ⟨0x50001, 8, 4, 30, 29, .RO, .V, false, false, 0, [], []⟩
def LINK_PORT_W1_FAR_PLACED : Fld := ⟨0x50001, 8, 4, 28, 28, .RO, .V, false, false, 0, [], []⟩
def LINK_PORT_W1_FAR_X : Fld := ⟨0x50001, 8, 4, 27, 21, .RO, .V, false, false, 0, [], []⟩
def LINK_PORT_W1_FAR_Y : Fld := ⟨0x50001, 8, 4, 20, 14, .RO, .V, false, false, 0, [], []⟩
def LINK_PORT_W1_FAR_SECT : Fld := ⟨0x50001, 8, 4, 13, 6, .RO, .V, false, false, 0, [], []⟩
def LINK_PORT_W2_DAMAGED : Fld := ⟨0x50002, 8, 4, 35, 18, .W1C, .S, false, false, 0, [], []⟩
def LINK_PORT_W2_REPLAYS : Fld := ⟨0x50002, 8, 4, 17, 0, .W1C, .S, false, false, 0, [], []⟩
def LINK_PORT_W3_DELAY : Fld := ⟨0x50003, 8, 4, 35, 20, .RO, .V, false, false, 0, [], []⟩
def LINK_PORT_W4_ASYM : Fld := ⟨0x50004, 8, 4, 35, 24, .RW, .W, false, false, 0, [], []⟩

/-! 12_cawell_links: LINK_POS, LINK:0x0020 -/
def LINK_POS_PLACED : Fld := ⟨0x50020, 1, 1, 35, 35, .RO, .W, false, false, 0, [], []⟩
def LINK_POS_X : Fld := ⟨0x50020, 1, 1, 34, 28, .RO, .W, false, false, 0, [], []⟩
def LINK_POS_Y : Fld := ⟨0x50020, 1, 1, 27, 21, .RO, .W, false, false, 0, [], []⟩
def LINK_POS_ROT : Fld := ⟨0x50020, 1, 1, 20, 19, .RO, .W, false, false, 0, [], []⟩
def LINK_POS_SECT : Fld := ⟨0x50020, 1, 1, 18, 11, .RO, .W, false, false, 0, [], []⟩

/-! 12_cawell_links: LINK_MGR_ROUTE, LINK:0x0021 -/
def LINK_MGR_ROUTE_VALID : Fld := ⟨0x50021, 1, 1, 35, 35, .RW, .W, false, false, 0, [], []⟩
def LINK_MGR_ROUTE_UP_PRI : Fld := ⟨0x50021, 1, 1, 34, 33, .RW, .W, false, false, 0, [], []⟩
def LINK_MGR_ROUTE_UP_ALT : Fld := ⟨0x50021, 1, 1, 32, 31, .RW, .W, false, false, 0, [], []⟩
def LINK_MGR_ROUTE_CHILD : Fld := ⟨0x50021, 1, 1, 30, 27, .RW, .W, false, false, 0, [], []⟩
def LINK_MGR_ROUTE_VALID_B : Fld := ⟨0x50021, 1, 1, 17, 17, .RW, .W, false, false, 0, [], []⟩
def LINK_MGR_ROUTE_UP_PRI_B : Fld := ⟨0x50021, 1, 1, 16, 15, .RW, .W, false, false, 0, [], []⟩
def LINK_MGR_ROUTE_UP_ALT_B : Fld := ⟨0x50021, 1, 1, 14, 13, .RW, .W, false, false, 0, [], []⟩
def LINK_MGR_ROUTE_CHILD_B : Fld := ⟨0x50021, 1, 1, 12, 9, .RW, .W, false, false, 0, [], []⟩

/-! 12_cawell_links: LINK_TIME_CTRL, LINK:0x0022 -/
def LINK_TIME_CTRL_INTERVAL : Fld := ⟨0x50022, 1, 1, 35, 32, .RW, .W, true, false, 6, [], [(3, 8)]⟩
def LINK_TIME_CTRL_UP_SEL : Fld := ⟨0x50022, 1, 1, 31, 29, .RW, .W, false, false, 0, [], [(0, 0), (4, 7)]⟩

/-! 12_cawell_links: LINK_ROUTE array, base LINK:0x1000, stride 1, count 2,048 -/
def LINK_ROUTE_ROUTES : Fld := ⟨0x51000, 1, 2048, 31, 0, .RW, .W, false, false, 0, [], []⟩

/-! 13_manager_role: LINK_PEEL, LINK:0x0023 -/
def LINK_PEEL_EPOCH : Fld := ⟨0x50023, 1, 1, 35, 4, .RO, .K, false, false, 0, [], []⟩
def LINK_PEEL_IDX : Fld := ⟨0x50023, 1, 1, 3, 3, .RO, .K, false, false, 0, [], []⟩
def LINK_PEEL_SEEN : Fld := ⟨0x50023, 1, 1, 2, 2, .RO, .K, false, false, 0, [], []⟩

/-! 13_manager_role: MGR_CTRL, LINK:0x2000 -/
def MGR_CTRL_RETURN : Fld := ⟨0x52000, 1, 1, 35, 34, .RW, .W, true, false, 0, [], [(0, 1)]⟩
def MGR_CTRL_IDX : Fld := ⟨0x52000, 1, 1, 33, 33, .RW, .W, true, false, 0, [], []⟩
def MGR_CTRL_LEASE : Fld := ⟨0x52000, 1, 1, 32, 29, .RW, .W, true, false, 8, [], [(4, 15)]⟩
def MGR_CTRL_GUARD : Fld := ⟨0x52000, 1, 1, 28, 27, .RW, .W, true, false, 2, [], [(1, 3)]⟩
def MGR_CTRL_BRIDGE : Fld := ⟨0x52000, 1, 1, 26, 24, .RW, .W, true, false, 1, [], [(1, 7)]⟩
def MGR_CTRL_RENEW_WAIT : Fld := ⟨0x52000, 1, 1, 23, 14, .RW, .W, true, false, 100, [], [(20, 1000)]⟩
def MGR_CTRL_PATHS : Fld := ⟨0x52000, 1, 1, 13, 11, .RW, .W, true, false, 7, [], [(1, 7)]⟩

/-! 13_manager_role: MGR_PAIR_STATUS, LINK:0x2001 -/
def MGR_PAIR_STATUS_STATE : Fld := ⟨0x52001, 1, 1, 35, 33, .RO, .V, false, false, 0, [], []⟩
def MGR_PAIR_STATUS_MISSED : Fld := ⟨0x52001, 1, 1, 32, 29, .RO, .V, false, false, 0, [], []⟩
def MGR_PAIR_STATUS_HEARD : Fld := ⟨0x52001, 1, 1, 28, 26, .RO, .V, false, false, 0, [], []⟩
def MGR_PAIR_STATUS_MIRROR_OK : Fld := ⟨0x52001, 1, 1, 25, 25, .RO, .V, false, false, 0, [], []⟩
def MGR_PAIR_STATUS_CLEAN : Fld := ⟨0x52001, 1, 1, 24, 14, .RO, .V, false, false, 0, [], []⟩

/-! 13_manager_role: MGR_NET, LINK:0x2002 -/
def MGR_NET_CMD_PORT : Fld := ⟨0x52002, 1, 1, 35, 20, .RW, .W, true, false, 41640, [], []⟩
def MGR_NET_PEER_PORT : Fld := ⟨0x52002, 1, 1, 19, 4, .RW, .W, true, false, 41641, [], []⟩

/-! 13_manager_role: MGR_ETH_CTRL, LINK:0x2003 -/
def MGR_ETH_CTRL_FEC25 : Fld := ⟨0x52003, 1, 1, 35, 32, .RW, .W, true, false, 15, [], []⟩
def MGR_ETH_CTRL_FEC100 : Fld := ⟨0x52003, 1, 1, 31, 31, .RW, .W, true, false, 1, [], []⟩
def MGR_ETH_CTRL_VID : Fld := ⟨0x52003, 1, 1, 30, 19, .RW, .W, true, false, 0, [], []⟩
def MGR_ETH_CTRL_PCP : Fld := ⟨0x52003, 1, 1, 18, 16, .RW, .W, true, false, 0, [], []⟩
def MGR_ETH_CTRL_UP : Fld := ⟨0x52003, 1, 1, 15, 12, .RO, .V, false, false, 0, [], []⟩

/-! 13_manager_role: MGR_ADDR, LINK:0x2004 to LINK:0x2008 -/
def MGR_ADDR_2004_MAC_HI : Fld := ⟨0x52004, 1, 1, 35, 0, .RW, .W, true, false, 0, [], []⟩
def MGR_ADDR_2005_MAC_LO : Fld := ⟨0x52005, 1, 1, 35, 24, .RW, .W, true, false, 0, [], []⟩
def MGR_ADDR_2006_IPV4 : Fld := ⟨0x52006, 1, 1, 35, 4, .RW, .W, true, false, 0, [], []⟩
def MGR_ADDR_2007_IPV6_A : Fld := ⟨0x52007, 1, 1, 35, 0, .RW, .W, true, false, 0, [], []⟩
def MGR_ADDR_2008_IPV6_B : Fld := ⟨0x52008, 1, 1, 35, 0, .RW, .W, true, false, 0, [], []⟩

/-! 13_manager_role: MGR_STREAM, LINK:0x200B -/
def MGR_STREAM_STREAM_PORT : Fld := ⟨0x5200B, 1, 1, 35, 20, .RW, .W, true, false, 41700, [], []⟩
def MGR_STREAM_PT_SLAB : Fld := ⟨0x5200B, 1, 1, 19, 13, .RW, .W, true, false, 96, [], [(96, 127)]⟩
def MGR_STREAM_PT_LIVE : Fld := ⟨0x5200B, 1, 1, 12, 6, .RW, .W, true, false, 112, [], [(96, 127)]⟩

/-! 13_manager_role: MGR_GROUP array, base LINK:0x2040, stride 5, count 16 -/
def MGR_GROUP_W0_EN : Fld := ⟨0x52040, 5, 16, 35, 35, .RW, .W, true, false, 0, [], []⟩
def MGR_GROUP_W0_KIND : Fld := ⟨0x52040, 5, 16, 34, 33, .RW, .W, true, false, 0, [], [(0, 2)]⟩
def MGR_GROUP_W0_V6 : Fld := ⟨0x52040, 5, 16, 32, 32, .RW, .W, true, false, 0, [], []⟩
def MGR_GROUP_W0_NSRC : Fld := ⟨0x52040, 5, 16, 31, 29, .RW, .W, true, false, 0, [], [(0, 4)]⟩
def MGR_GROUP_W1_GROUP : Fld := ⟨0x52041, 5, 16, 35, 0, .RW, .W, true, false, 0, [], []⟩
def MGR_GROUP_W2_GROUP : Fld := ⟨0x52042, 5, 16, 35, 0, .RW, .W, true, false, 0, [], []⟩
def MGR_GROUP_W3_GROUP : Fld := ⟨0x52043, 5, 16, 35, 0, .RW, .W, true, false, 0, [], []⟩
def MGR_GROUP_W4_GROUP : Fld := ⟨0x52044, 5, 16, 35, 0, .RW, .W, true, false, 0, [], []⟩

/-! 13_manager_role: MGR_GROUP_SRC array, base LINK:0x2400, stride 4, count 64 -/
def MGR_GROUP_SRC_W0_SOURCE : Fld := ⟨0x52400, 4, 64, 35, 0, .RW, .W, true, false, 0, [], []⟩
def MGR_GROUP_SRC_W1_SOURCE : Fld := ⟨0x52401, 4, 64, 35, 0, .RW, .W, true, false, 0, [], []⟩
def MGR_GROUP_SRC_W2_SOURCE : Fld := ⟨0x52402, 4, 64, 35, 0, .RW, .W, true, false, 0, [], []⟩
def MGR_GROUP_SRC_W3_SOURCE : Fld := ⟨0x52403, 4, 64, 35, 0, .RW, .W, true, false, 0, [], []⟩

/-! 13_manager_role: MGR_LIVE array, base LINK:0x2010, stride 4, count 2 -/
def MGR_LIVE_W0_EN : Fld := ⟨0x52010, 4, 2, 35, 35, .RW, .W, true, false, 0, [], []⟩
def MGR_LIVE_W0_BPM : Fld := ⟨0x52010, 4, 2, 34, 34, .RW, .W, true, false, 0, [], []⟩
def MGR_LIVE_W0_COLOR : Fld := ⟨0x52010, 4, 2, 33, 32, .RW, .W, true, false, 0, [], [(0, 1)]⟩
def MGR_LIVE_W0_TCS : Fld := ⟨0x52010, 4, 2, 31, 30, .RW, .W, true, false, 0, [], [(0, 2)]⟩
def MGR_LIVE_W0_W_M1 : Fld := ⟨0x52010, 4, 2, 29, 17, .RW, .W, true, false, 0, [], [(7, 8191)]⟩
def MGR_LIVE_W0_H_M1 : Fld := ⟨0x52010, 4, 2, 16, 4, .RW, .W, true, false, 0, [], [(7, 4351)]⟩
def MGR_LIVE_W1_UDP_PORT : Fld := ⟨0x52011, 4, 2, 35, 20, .RW, .W, true, false, 0, [], []⟩
def MGR_LIVE_W2_FR_NUM : Fld := ⟨0x52012, 4, 2, 35, 20, .RW, .W, true, false, 60, [], []⟩
def MGR_LIVE_W2_FR_DEN : Fld := ⟨0x52012, 4, 2, 19, 4, .RW, .W, true, false, 1, [], [(1, 65535)]⟩
def MGR_LIVE_W3_LOST : Fld := ⟨0x52013, 4, 2, 35, 0, .W1C, .S, false, false, 0, [], []⟩

/-! 13_manager_role: MGR_WORKER array, base LINK:0x2100, stride 2, count 256 -/
def MGR_WORKER_W0_VALID : Fld := ⟨0x52100, 2, 256, 35, 35, .RO, .W, false, false, 0, [], []⟩
def MGR_WORKER_W0_X : Fld := ⟨0x52100, 2, 256, 34, 28, .RO, .W, false, false, 0, [], []⟩
def MGR_WORKER_W0_Y : Fld := ⟨0x52100, 2, 256, 27, 21, .RO, .W, false, false, 0, [], []⟩
def MGR_WORKER_W0_SPLICE : Fld := ⟨0x52100, 2, 256, 20, 20, .RO, .W, false, false, 0, [], []⟩
def MGR_WORKER_W1_POLICED : Fld := ⟨0x52101, 2, 256, 35, 18, .W1C, .S, false, false, 0, [], []⟩
def MGR_WORKER_W1_QUEUE_DROP : Fld := ⟨0x52101, 2, 256, 17, 0, .W1C, .S, false, false, 0, [], []⟩

/-! 14_encoder: ENCODE_CTRL, ENCODE:0x0000 -/
def ENCODE_CTRL_INTRA_HOLDOFF : Fld := ⟨0x80000, 1, 1, 35, 30, .RW, .W, true, false, 8, [], [(1, 63)]⟩
def ENCODE_CTRL_INTRA_BOOST : Fld := ⟨0x80000, 1, 1, 29, 25, .RW, .W, true, false, 8, [], [(0, 16)]⟩
def ENCODE_CTRL_HASH : Fld := ⟨0x80000, 1, 1, 24, 24, .RW, .W, true, false, 0, [], []⟩

/-! 14_encoder: ENCODE_LAYER array, base ENCODE:0x0010, stride 4, count 2 -/
def ENCODE_LAYER_W0_EN : Fld := ⟨0x80010, 4, 2, 35, 35, .RW, .W, true, false, 0, [], []⟩
def ENCODE_LAYER_W0_FLOW : Fld := ⟨0x80010, 4, 2, 34, 34, .RW, .W, true, false, 0, [], []⟩
def ENCODE_LAYER_W0_PROFILE : Fld := ⟨0x80010, 4, 2, 33, 33, .RW, .W, true, false, 0, [], []⟩
def ENCODE_LAYER_W0_KEY_ID : Fld := ⟨0x80010, 4, 2, 32, 21, .RW, .W, true, false, 0, [], []⟩
def ENCODE_LAYER_W0_TCOLS_M1 : Fld := ⟨0x80010, 4, 2, 20, 16, .RW, .W, true, false, 0, [], [(0, 19)]⟩
def ENCODE_LAYER_W0_TROWS_M1 : Fld := ⟨0x80010, 4, 2, 15, 11, .RW, .W, true, false, 0, [], [(0, 21)]⟩
def ENCODE_LAYER_W0_MIN_QP : Fld := ⟨0x80010, 4, 2, 10, 5, .RW, .W, true, false, 12, [], [(0, 51)]⟩
def ENCODE_LAYER_W1_RATE_KBPS : Fld := ⟨0x80011, 4, 2, 35, 16, .RW, .W, true, false, 0, [], [(0, 1000000)]⟩

/-! 14_encoder: ENCODE_LAYER_STATUS array, base ENCODE:0x0020, stride 2, count 2 -/
def ENCODE_LAYER_STATUS_W0_BOUND_LO : Fld := ⟨0x80020, 2, 2, 35, 24, .RO, .V, false, false, 0, [], []⟩
def ENCODE_LAYER_STATUS_W0_OWED : Fld := ⟨0x80020, 2, 2, 23, 0, .RO, .V, false, false, 0, [], []⟩
def ENCODE_LAYER_STATUS_W1_OVERRUNS : Fld := ⟨0x80021, 2, 2, 35, 18, .W1C, .S, false, false, 0, [], []⟩
def ENCODE_LAYER_STATUS_W1_DROPS : Fld := ⟨0x80021, 2, 2, 17, 0, .W1C, .S, false, false, 0, [], []⟩

/-! 14_encoder: ENCODE_TCOL and ENCODE_TROW arrays, bases ENCODE:0x0040 and ENCODE:0x0070, stride 1, counts 40 and 44 -/
def ENCODE_TCOL_CTUS : Fld := ⟨0x80040, 1, 40, 7, 0, .RW, .W, true, false, 0, [], []⟩
def ENCODE_TROW_CTUS : Fld := ⟨0x80070, 1, 44, 7, 0, .RW, .W, true, false, 0, [], []⟩

/-! 14_encoder: ENCODE_MAP array, base ENCODE:0x0100, stride 1, count 256 -/
def ENCODE_MAP_EN : Fld := ⟨0x80100, 1, 256, 35, 35, .RW, .W, true, false, 0, [], []⟩
def ENCODE_MAP_LAYER : Fld := ⟨0x80100, 1, 256, 34, 34, .RW, .W, true, false, 0, [], []⟩
def ENCODE_MAP_ATLAS : Fld := ⟨0x80100, 1, 256, 33, 32, .RW, .W, true, false, 3, [], []⟩
def ENCODE_MAP_C0 : Fld := ⟨0x80100, 1, 256, 31, 27, .RW, .W, true, false, 0, [], []⟩
def ENCODE_MAP_C1 : Fld := ⟨0x80100, 1, 256, 26, 22, .RW, .W, true, false, 0, [], []⟩
def ENCODE_MAP_R0 : Fld := ⟨0x80100, 1, 256, 21, 17, .RW, .W, true, false, 0, [], []⟩
def ENCODE_MAP_R1 : Fld := ⟨0x80100, 1, 256, 16, 12, .RW, .W, true, false, 0, [], []⟩

/-! 14_encoder: ENCODE_SPY_CTRL and ENCODE_SPY_STATUS, ENCODE:0x0200 and ENCODE:0x0201 -/
def ENCODE_SPY_CTRL_SPY_EN : Fld := ⟨0x80200, 1, 1, 35, 35, .RW, .W, false, false, 0, [], []⟩
def ENCODE_SPY_CTRL_SPY_DIV_M1 : Fld := ⟨0x80200, 1, 1, 34, 30, .RW, .W, true, false, 3, [], []⟩
def ENCODE_SPY_CTRL_SPY_KBPS : Fld := ⟨0x80200, 1, 1, 29, 16, .RW, .W, true, false, 2000, [], [(100, 16000)]⟩
def ENCODE_SPY_CTRL_SPY_IDR : Fld := ⟨0x80200, 1, 1, 15, 8, .RW, .W, true, false, 30, [], [(1, 255)]⟩
def ENCODE_SPY_STATUS_SENT : Fld := ⟨0x80201, 1, 1, 35, 18, .RO, .S, false, false, 0, [], []⟩
def ENCODE_SPY_STATUS_SKIPPED : Fld := ⟨0x80201, 1, 1, 17, 0, .W1C, .S, false, false, 0, [], []⟩

/-! 15_time_and_clocks: TIME_BASE array, base TIME:0x0000, stride 8, count 4 -/
def TIME_BASE_W0_TIME : Fld := ⟨0x40000, 8, 4, 35, 0, .RO, .S, false, false, 0, [], []⟩
def TIME_BASE_W1_TIME : Fld := ⟨0x40001, 8, 4, 35, 0, .RO, .S, false, false, 0, [], []⟩
def TIME_BASE_W2_TIME : Fld := ⟨0x40002, 8, 4, 35, 0, .RO, .S, false, false, 0, [], []⟩
def TIME_BASE_W3_INCR : Fld := ⟨0x40003, 8, 4, 35, 0, .RW, .S, false, false, 42949672960, [], []⟩
def TIME_BASE_W4_MODE : Fld := ⟨0x40004, 8, 4, 35, 35, .RW, .W, true, false, 0, [1, 1, 0], []⟩
def TIME_BASE_W4_KP_SHIFT : Fld := ⟨0x40004, 8, 4, 34, 30, .RW, .W, true, false, 23, [], [(16, 31)]⟩
def TIME_BASE_W4_KI_SHIFT : Fld := ⟨0x40004, 8, 4, 29, 25, .RW, .W, true, false, 27, [], [(18, 31)]⟩
def TIME_BASE_W4_STEP_LIMIT : Fld := ⟨0x40004, 8, 4, 24, 13, .RW, .W, true, false, 10, [], [(1, 4095)]⟩
def TIME_BASE_W4_LOCK_NS : Fld := ⟨0x40004, 8, 4, 12, 3, .RW, .W, true, false, 100, [], [(10, 1023)]⟩
def TIME_BASE_W5_VALID : Fld := ⟨0x40005, 8, 4, 35, 35, .RO, .V, false, false, 0, [0, 0, 1], []⟩
def TIME_BASE_W5_LOCKED : Fld := ⟨0x40005, 8, 4, 34, 34, .RO, .V, false, false, 0, [], []⟩
def TIME_BASE_W5_HOLDOVER : Fld := ⟨0x40005, 8, 4, 33, 33, .RO, .V, false, false, 0, [], []⟩
def TIME_BASE_W5_STEPS : Fld := ⟨0x40005, 8, 4, 32, 21, .RO, .S, false, false, 0, [], []⟩
def TIME_BASE_W6_OFFSET : Fld := ⟨0x40006, 8, 4, 35, 0, .RO, .V, false, false, 0, [], []⟩
def TIME_BASE_W7_OFFSET_IN : Fld := ⟨0x40007, 8, 4, 35, 0, .WO, .N, false, false, 0, [], []⟩

/-! 15_time_and_clocks: TIME_TICK_CTRL, TIME:0x0020 -/
def TIME_TICK_CTRL_SRC_SEL : Fld := ⟨0x40020, 1, 1, 35, 34, .RW, .W, true, false, 0, [], []⟩
def TIME_TICK_CTRL_REVERT : Fld := ⟨0x40020, 1, 1, 33, 33, .RW, .W, true, false, 1, [], []⟩
def TIME_TICK_CTRL_BOUNDARY : Fld := ⟨0x40020, 1, 1, 32, 32, .RW, .W, true, false, 0, [], []⟩
def TIME_TICK_CTRL_SYNC_DIV : Fld := ⟨0x40020, 1, 1, 31, 24, .RW, .W, true, false, 1, [], [(1, 255)]⟩
def TIME_TICK_CTRL_SLEW : Fld := ⟨0x40020, 1, 1, 23, 13, .RW, .W, true, false, 2000, [], [(0, 2000)]⟩
def TIME_TICK_CTRL_PHASE_LEAD : Fld := ⟨0x40020, 1, 1, 12, 10, .RW, .W, true, false, 4, [], [(2, 7)]⟩
def TIME_TICK_CTRL_DOM_TOL : Fld := ⟨0x40020, 1, 1, 9, 0, .RW, .W, true, false, 1000, [], [(1, 1023)]⟩

/-! 15_time_and_clocks: TIME_TICK_RATE, TIME:0x0021 -/
def TIME_TICK_RATE_NUM : Fld := ⟨0x40021, 1, 1, 35, 17, .RO, .W, true, false, 120, [], []⟩
def TIME_TICK_RATE_DEN : Fld := ⟨0x40021, 1, 1, 16, 4, .RO, .W, true, false, 1, [], []⟩

/-! 15_time_and_clocks: TIME_SYNC_OFFSET, TIME:0x0022 -/
def TIME_SYNC_OFFSET_SYNC_OFFSET : Fld := ⟨0x40022, 1, 1, 35, 0, .RW, .W, true, false, 0, [], []⟩

/-! 15_time_and_clocks: TIME_PHASE_STATE, TIME:0x0024 to TIME:0x0027 -/
def TIME_PHASE_STATE_0024_PHASE_BASE : Fld := ⟨0x40024, 1, 1, 35, 0, .RO, .W, false, false, 0, [], []⟩
def TIME_PHASE_STATE_0025_PHI : Fld := ⟨0x40025, 1, 1, 35, 0, .RO, .W, false, false, 0, [], []⟩
def TIME_PHASE_STATE_0026_TARGET : Fld := ⟨0x40026, 1, 1, 35, 0, .RW, .W, false, false, 0, [], []⟩
def TIME_PHASE_STATE_0027_SW : Fld := ⟨0x40027, 1, 1, 35, 0, .RO, .W, false, false, 0, [], []⟩

/-! 15_time_and_clocks: TIME_TICK_STATUS, TIME:0x0028 -/
def TIME_TICK_STATUS_SOURCE : Fld := ⟨0x40028, 1, 1, 35, 34, .RO, .V, false, false, 2, [], []⟩
def TIME_TICK_STATUS_HOLDOVER : Fld := ⟨0x40028, 1, 1, 33, 33, .RO, .V, false, false, 0, [], []⟩
def TIME_TICK_STATUS_FREE : Fld := ⟨0x40028, 1, 1, 32, 32, .RO, .V, false, false, 1, [], []⟩
def TIME_TICK_STATUS_SYNC_OK : Fld := ⟨0x40028, 1, 1, 31, 31, .RO, .V, false, false, 0, [], []⟩
def TIME_TICK_STATUS_CAUSE : Fld := ⟨0x40028, 1, 1, 30, 28, .RO, .V, false, false, 0, [], []⟩
def TIME_TICK_STATUS_REPHASES : Fld := ⟨0x40028, 1, 1, 27, 16, .RO, .S, false, false, 0, [], []⟩

/-! 15_time_and_clocks: TIME_ANCHOR, TIME:0x0029 to TIME:0x002D -/
def TIME_ANCHOR_0029_ANCHOR_TICK_HI : Fld := ⟨0x40029, 1, 1, 11, 0, .RO, .W, true, false, 0, [], []⟩
def TIME_ANCHOR_002A_ANCHOR_TICK_LO : Fld := ⟨0x4002A, 1, 1, 35, 0, .RO, .W, true, false, 0, [], []⟩
def TIME_ANCHOR_002B_ANCHOR_TIME : Fld := ⟨0x4002B, 1, 1, 35, 0, .RO, .W, true, false, 0, [], []⟩
def TIME_ANCHOR_002C_ANCHOR_TIME : Fld := ⟨0x4002C, 1, 1, 35, 0, .RO, .W, true, false, 0, [], []⟩
def TIME_ANCHOR_002D_ANCHOR_TIME : Fld := ⟨0x4002D, 1, 1, 35, 0, .RO, .W, true, false, 0, [], []⟩

/-! 15_time_and_clocks: TIME_CAPTURE array, base TIME:0x0040, stride 4, count 2 -/
def TIME_CAPTURE_W0_EN : Fld := ⟨0x40040, 4, 2, 35, 35, .RW, .W, false, false, 0, [], []⟩
def TIME_CAPTURE_W0_BASE : Fld := ⟨0x40040, 4, 2, 34, 33, .RW, .W, false, false, 3, [], []⟩
def TIME_CAPTURE_W0_FALLING : Fld := ⟨0x40040, 4, 2, 32, 32, .RW, .W, false, false, 0, [], []⟩
def TIME_CAPTURE_W0_DEPTH : Fld := ⟨0x40040, 4, 2, 31, 27, .RO, .V, false, false, 0, [], []⟩
def TIME_CAPTURE_W0_LOST : Fld := ⟨0x40040, 4, 2, 26, 26, .W1C, .V, false, false, 0, [], []⟩
def TIME_CAPTURE_W1_STAMP : Fld := ⟨0x40041, 4, 2, 35, 0, .RO, .V, false, false, 0, [], []⟩
def TIME_CAPTURE_W2_STAMP : Fld := ⟨0x40042, 4, 2, 35, 0, .RO, .V, false, false, 0, [], []⟩
def TIME_CAPTURE_W3_STAMP : Fld := ⟨0x40043, 4, 2, 35, 0, .RO, .V, false, false, 0, [], []⟩

/-! 15_time_and_clocks: TIME_PTP, TIME:0x0060 -/
def TIME_PTP_DOM0 : Fld := ⟨0x40060, 1, 1, 35, 28, .RW, .W, true, false, 127, [], []⟩
def TIME_PTP_DOM1 : Fld := ⟨0x40060, 1, 1, 27, 20, .RW, .W, true, false, 126, [], []⟩
def TIME_PTP_PTP_V6 : Fld := ⟨0x40060, 1, 1, 19, 19, .RW, .W, true, false, 0, [], []⟩
def TIME_PTP_PTP_EN : Fld := ⟨0x40060, 1, 1, 18, 18, .RW, .W, true, false, 1, [], []⟩

/-! 15_time_and_clocks: TIME_PTP_MASTER array, base TIME:0x0062, stride 2, count 2 -/
def TIME_PTP_MASTER_W0_ID_HI : Fld := ⟨0x40062, 2, 2, 35, 0, .RO, .V, false, false, 0, [], []⟩
def TIME_PTP_MASTER_W1_ID_LO : Fld := ⟨0x40063, 2, 2, 35, 8, .RO, .V, false, false, 0, [], []⟩
def TIME_PTP_MASTER_W1_SELECTED : Fld := ⟨0x40063, 2, 2, 7, 7, .RO, .V, false, false, 0, [], []⟩

/-! 15_time_and_clocks: CLOCK_SYN array, base CLOCK:0x0000, stride 2, count 4 -/
def CLOCK_SYN_W0_RELOCK : Fld := ⟨0x30000, 2, 4, 35, 35, .WO, .N, false, false, 0, [], []⟩
def CLOCK_SYN_W0_LOCKED : Fld := ⟨0x30000, 2, 4, 34, 34, .RO, .V, false, false, 0, [], []⟩
def CLOCK_SYN_W0_BAND : Fld := ⟨0x30000, 2, 4, 33, 29, .RO, .V, false, false, 0, [], []⟩
def CLOCK_SYN_W0_LOCK_US : Fld := ⟨0x30000, 2, 4, 28, 17, .RO, .V, false, false, 0, [], []⟩
def CLOCK_SYN_W0_LOSSES : Fld := ⟨0x30000, 2, 4, 16, 5, .W1C, .S, false, false, 0, [], []⟩
def CLOCK_SYN_W1_PULL : Fld := ⟨0x30001, 2, 4, 35, 18, .RO, .V, false, false, 0, [], []⟩
def CLOCK_SYN_W1_FOLLOW : Fld := ⟨0x30001, 2, 4, 17, 0, .RO, .V, false, false, 0, [], []⟩

/-! 15_time_and_clocks: CLOCK_DLL and CLOCK_REF, CLOCK:0x0010 and CLOCK:0x0011 -/
def CLOCK_DLL_LOCKED : Fld := ⟨0x30010, 1, 1, 35, 30, .RO, .V, false, false, 0, [], []⟩
def CLOCK_REF_REF_OK : Fld := ⟨0x30011, 1, 1, 35, 35, .RO, .K, false, false, 0, [], []⟩
def CLOCK_REF_REF_PPM : Fld := ⟨0x30011, 1, 1, 34, 23, .RO, .K, false, false, 0, [], []⟩

/-! 15_time_and_clocks: CLOCK_CKO array, base CLOCK:0x0020, stride 1, count 4 -/
def CLOCK_CKO_FORMAT : Fld := ⟨0x30020, 1, 4, 35, 34, .RW, .W, true, false, 0, [], []⟩
def CLOCK_CKO_SWING : Fld := ⟨0x30020, 1, 4, 33, 32, .RW, .W, true, false, 0, [], []⟩
def CLOCK_CKO_SOURCE : Fld := ⟨0x30020, 1, 4, 31, 30, .RW, .W, true, false, 0, [], []⟩
def CLOCK_CKO_DIV_M1 : Fld := ⟨0x30020, 1, 4, 29, 20, .RW, .W, true, false, 0, [], []⟩
def CLOCK_CKO_ALIGN_SRC : Fld := ⟨0x30020, 1, 4, 19, 19, .RW, .W, true, false, 0, [], []⟩
def CLOCK_CKO_ARM : Fld := ⟨0x30020, 1, 4, 18, 18, .WO, .N, false, false, 0, [], []⟩
def CLOCK_CKO_ALIGNED : Fld := ⟨0x30020, 1, 4, 17, 17, .RO, .V, false, false, 0, [], []⟩

/-! 16_dram: MEM_CTRL, MEMORY:0x0000 -/
def MEM_CTRL_SP0_GRADE : Fld := ⟨0x60000, 1, 1, 35, 33, .RW, .W, true, false, 3, [], [(0, 3)]⟩
def MEM_CTRL_SP1_GRADE : Fld := ⟨0x60000, 1, 1, 32, 30, .RW, .W, true, false, 0, [], [(0, 3)]⟩
def MEM_CTRL_SP_SEL : Fld := ⟨0x60000, 1, 1, 29, 29, .RW, .W, true, false, 0, [], []⟩
def MEM_CTRL_IDLE_SR : Fld := ⟨0x60000, 1, 1, 28, 28, .RW, .W, true, false, 1, [], []⟩
def MEM_CTRL_SR_IDLE : Fld := ⟨0x60000, 1, 1, 27, 18, .RW, .W, true, false, 20, [], [(5, 1023)]⟩
def MEM_CTRL_RETRAIN_MS : Fld := ⟨0x60000, 1, 1, 17, 10, .RW, .W, true, false, 100, [], [(10, 255)]⟩
def MEM_CTRL_DRIFT_LIM : Fld := ⟨0x60000, 1, 1, 9, 2, .RW, .W, true, false, 20, [], [(4, 255)]⟩

/-! 16_dram: MEM_STATUS, MEMORY:0x0001 -/
def MEM_STATUS_TRAINED : Fld := ⟨0x60001, 1, 1, 35, 35, .RO, .V, false, false, 0, [], []⟩
def MEM_STATUS_SP : Fld := ⟨0x60001, 1, 1, 34, 34, .RO, .V, false, false, 0, [], []⟩
def MEM_STATUS_GRADE : Fld := ⟨0x60001, 1, 1, 33, 31, .RO, .V, false, false, 0, [], []⟩
def MEM_STATUS_SWITCHING : Fld := ⟨0x60001, 1, 1, 30, 30, .RO, .V, false, false, 0, [], []⟩
def MEM_STATUS_CH_OK : Fld := ⟨0x60001, 1, 1, 29, 26, .RO, .V, false, false, 0, [], []⟩
def MEM_STATUS_DENSITY : Fld := ⟨0x60001, 1, 1, 25, 23, .RO, .V, false, false, 0, [], []⟩
def MEM_STATUS_RANKS : Fld := ⟨0x60001, 1, 1, 22, 22, .RO, .V, false, false, 0, [], []⟩
def MEM_STATUS_IN_SR : Fld := ⟨0x60001, 1, 1, 21, 18, .RO, .V, false, false, 0, [], []⟩
def MEM_STATUS_RETRAINING : Fld := ⟨0x60001, 1, 1, 17, 14, .RO, .V, false, false, 0, [], []⟩

/-! 16_dram: MEM_MAP, MEMORY:0x0002 to MEMORY:0x0004 -/
def MEM_MAP_0002_OWNER_TOP : Fld := ⟨0x60002, 1, 1, 27, 0, .RO, .V, false, false, 0, [], []⟩
def MEM_MAP_0003_RAY_BASE : Fld := ⟨0x60003, 1, 1, 27, 0, .RO, .V, false, false, 0, [], []⟩
def MEM_MAP_0004_SYS_BASE : Fld := ⟨0x60004, 1, 1, 27, 0, .RO, .V, false, false, 0, [], []⟩

/-! 16_dram: MEM_ARB array, base MEMORY:0x0010, stride 1, count 4 -/
def MEM_ARB_WEIGHT : Fld := ⟨0x60010, 1, 4, 35, 32, .RW, .W, true, false, 0, [8, 4, 1, 3], [(1, 15)]⟩
def MEM_ARB_CAP : Fld := ⟨0x60010, 1, 4, 31, 20, .RW, .W, true, false, 0, [0, 0, 20, 0], []⟩

/-! 16_dram: MEM_CHAN array, base MEMORY:0x0020, stride 4, count 4 -/
def MEM_CHAN_W0_DRIFT : Fld := ⟨0x60020, 4, 4, 35, 28, .RO, .V, false, false, 0, [], []⟩
def MEM_CHAN_W0_REF_RATE : Fld := ⟨0x60020, 4, 4, 24, 20, .RO, .V, false, false, 0, [], []⟩
def MEM_CHAN_W0_POSTPONED : Fld := ⟨0x60020, 4, 4, 19, 16, .RO, .V, false, false, 0, [], []⟩
def MEM_CHAN_W1_SR_ENTRIES : Fld := ⟨0x60021, 4, 4, 35, 18, .W1C, .S, false, false, 0, [], []⟩
def MEM_CHAN_W1_SR_CANCELS : Fld := ⟨0x60021, 4, 4, 17, 0, .W1C, .S, false, false, 0, [], []⟩
def MEM_CHAN_W2_RETRAINS : Fld := ⟨0x60022, 4, 4, 35, 18, .RO, .S, false, false, 0, [], []⟩
def MEM_CHAN_W2_FORCED : Fld := ⟨0x60022, 4, 4, 17, 0, .W1C, .S, false, false, 0, [], []⟩

/-! 16_dram: MEM_SECTOR_LAST and MEM_SECTOR_COUNT, MEMORY:0x0030 and MEMORY:0x0031 -/
def MEM_SECTOR_LAST_REQ : Fld := ⟨0x60030, 1, 1, 35, 32, .RO, .S, false, false, 0, [], []⟩
def MEM_SECTOR_LAST_SECTOR : Fld := ⟨0x60030, 1, 1, 27, 0, .RO, .S, false, false, 0, [], []⟩
def MEM_SECTOR_COUNT_FAILED : Fld := ⟨0x60031, 1, 1, 35, 18, .W1C, .S, false, false, 0, [], []⟩
def MEM_SECTOR_COUNT_RETRIED : Fld := ⟨0x60031, 1, 1, 17, 0, .W1C, .S, false, false, 0, [], []⟩

/-! 17_hearth: HEARTH_HK_STATUS, HEARTH:0x0000 -/
def HEARTH_HK_STATUS_ROUNDS : Fld := ⟨0x20000, 1, 1, 35, 24, .RO, .V, false, false, 0, [], []⟩
def HEARTH_HK_STATUS_LAST_SENSOR : Fld := ⟨0x20000, 1, 1, 23, 20, .RO, .V, false, false, 0, [], []⟩
def HEARTH_HK_STATUS_FAULT : Fld := ⟨0x20000, 1, 1, 19, 19, .RO, .V, false, false, 0, [], []⟩
def HEARTH_HK_STATUS_THERM : Fld := ⟨0x20000, 1, 1, 18, 18, .RO, .V, false, false, 0, [], []⟩

/-! 17_hearth: HEARTH_TS array, base HEARTH:0x0010, stride 4, count 16 -/
def HEARTH_TS_W0_TYPE : Fld := ⟨0x20010, 4, 16, 35, 35, .RW, .W, true, false, 0, [], []⟩
def HEARTH_TS_W0_CLASS : Fld := ⟨0x20010, 4, 16, 34, 33, .RW, .W, true, false, 0, [], [(0, 2)]⟩
def HEARTH_TS_W0_N0 : Fld := ⟨0x20010, 4, 16, 32, 28, .RW, .W, true, false, 31, [], []⟩
def HEARTH_TS_W0_N1 : Fld := ⟨0x20010, 4, 16, 27, 23, .RW, .W, true, false, 31, [], []⟩
def HEARTH_TS_W0_N2 : Fld := ⟨0x20010, 4, 16, 22, 18, .RW, .W, true, false, 31, [], []⟩
def HEARTH_TS_W0_IDEAL : Fld := ⟨0x20010, 4, 16, 17, 7, .RW, .W, true, false, 1080, [], []⟩
def HEARTH_TS_W1_R25 : Fld := ⟨0x20011, 4, 16, 35, 20, .RW, .W, true, false, 1000, [], []⟩
def HEARTH_TS_W1_BETA : Fld := ⟨0x20011, 4, 16, 19, 7, .RW, .W, true, false, 3435, [], [(1000, 8000)]⟩
def HEARTH_TS_W2_RAW : Fld := ⟨0x20012, 4, 16, 35, 23, .RO, .V, false, false, 0, [], []⟩
def HEARTH_TS_W2_EFFECTIVE : Fld := ⟨0x20012, 4, 16, 22, 10, .RO, .V, false, false, 0, [], []⟩
def HEARTH_TS_W2_STATE : Fld := ⟨0x20012, 4, 16, 9, 8, .RO, .V, false, false, 3, [], []⟩
def HEARTH_TS_W2_COUNT : Fld := ⟨0x20012, 4, 16, 7, 5, .RO, .V, false, false, 0, [], []⟩
def HEARTH_TS_W2_CAUSE : Fld := ⟨0x20012, 4, 16, 4, 4, .RO, .V, false, false, 0, [], []⟩
def HEARTH_TS_W3_RISE : Fld := ⟨0x20013, 4, 16, 35, 23, .RO, .V, false, false, 0, [], []⟩

/-! 17_hearth: HEARTH_DIE array, base HEARTH:0x0050, stride 1, count 8 -/
def HEARTH_DIE_TEMP : Fld := ⟨0x20050, 1, 8, 35, 23, .RO, .V, false, false, 0, [], []⟩
def HEARTH_DIE_CAUSE : Fld := ⟨0x20050, 1, 8, 22, 22, .RO, .V, false, false, 0, [], []⟩
def HEARTH_DIE_HARD : Fld := ⟨0x20050, 1, 8, 21, 21, .RO, .V, false, false, 0, [], []⟩

/-! 17_hearth: HEARTH_RAIL array, base HEARTH:0x0060, stride 2, count 12 -/
def HEARTH_RAIL_W0_MV : Fld := ⟨0x20060, 2, 12, 35, 24, .RO, .V, false, false, 0, [], []⟩
def HEARTH_RAIL_W0_OUT : Fld := ⟨0x20060, 2, 12, 23, 23, .RO, .V, false, false, 0, [], []⟩
def HEARTH_RAIL_W1_LOW : Fld := ⟨0x20061, 2, 12, 35, 24, .RW, .W, true, false, 0, [712, 712, 712, 712, 760, 855, 1140, 997, 475, 1710, 1710, 760], []⟩
def HEARTH_RAIL_W1_HIGH : Fld := ⟨0x20061, 2, 12, 23, 12, .RW, .W, true, false, 0, [788, 788, 788, 788, 840, 945, 1260, 1103, 525, 1890, 1890, 840], []⟩

/-! 17_hearth: HEARTH_PHOTO array, base HEARTH:0x0078, stride 1, count 4 -/
def HEARTH_PHOTO_CODE : Fld := ⟨0x20078, 1, 4, 35, 20, .RO, .V, false, false, 0, [], []⟩
def HEARTH_PHOTO_PD_GAIN : Fld := ⟨0x20078, 1, 4, 19, 18, .RW, .W, true, false, 0, [], []⟩

/-! 17_hearth: HEARTH_ZONE array, base HEARTH:0x0080, stride 1, count 16 -/
def HEARTH_ZONE_MASK : Fld := ⟨0x20080, 1, 16, 35, 20, .RW, .W, true, false, 0, [], []⟩
def HEARTH_ZONE_TZ : Fld := ⟨0x20080, 1, 16, 19, 7, .RO, .V, false, false, 0, [], []⟩
def HEARTH_ZONE_CONE : Fld := ⟨0x20080, 1, 16, 6, 3, .RO, .V, false, false, 0, [], []⟩
def HEARTH_ZONE_BLIND : Fld := ⟨0x20080, 1, 16, 2, 2, .RO, .V, false, false, 0, [], []⟩

/-! 17_hearth: HEARTH_CONE_TH array, base HEARTH:0x0090, stride 1, count 15 -/
def HEARTH_CONE_TH_TH : Fld := ⟨0x20090, 1, 15, 35, 23, .RW, .W, true, false, 0, [7712, 7872, 8032, 0, 160, 320, 480, 640, 800, 960, 1120, 1280, 1440, 1600, 1760], []⟩

/-! 17_hearth: HEARTH_DAMP_CTRL, HEARTH:0x00A0 -/
def HEARTH_DAMP_CTRL_GRACE : Fld := ⟨0x200A0, 1, 1, 35, 28, .RW, .W, true, false, 20, [], [(1, 100)]⟩
def HEARTH_DAMP_CTRL_STEP_W : Fld := ⟨0x200A0, 1, 1, 27, 20, .RW, .W, true, false, 6, [], [(1, 50)]⟩
def HEARTH_DAMP_CTRL_FLOOR_W : Fld := ⟨0x200A0, 1, 1, 19, 11, .RW, .W, true, false, 100, [], [(30, 300)]⟩
def HEARTH_DAMP_CTRL_STEP_TIME : Fld := ⟨0x200A0, 1, 1, 10, 4, .RW, .W, true, false, 50, [], [(5, 100)]⟩
def HEARTH_DAMP_CTRL_SP_AUTO : Fld := ⟨0x200A0, 1, 1, 3, 3, .RW, .W, true, false, 0, [], []⟩

/-! 17_hearth: HEARTH_DAMP_LIMITS, HEARTH:0x00A1 -/
def HEARTH_DAMP_LIMITS_LAMP_LIMIT : Fld := ⟨0x200A1, 1, 1, 35, 28, .RW, .W, true, false, 85, [], [(40, 150)]⟩
def HEARTH_DAMP_LIMITS_BOARD_LIMIT : Fld := ⟨0x200A1, 1, 1, 27, 20, .RW, .W, true, false, 95, [], [(40, 150)]⟩
def HEARTH_DAMP_LIMITS_DIE_EASE : Fld := ⟨0x200A1, 1, 1, 19, 12, .RW, .W, true, false, 100, [], [(80, 114)]⟩
def HEARTH_DAMP_LIMITS_RISE : Fld := ⟨0x200A1, 1, 1, 11, 4, .RW, .W, true, false, 20, [], [(5, 255)]⟩

/-! 17_hearth: HEARTH_DAMP_STATUS and HEARTH_DAMP_BRT, HEARTH:0x00A2 and HEARTH:0x00A3 -/
def HEARTH_DAMP_STATUS_STATE : Fld := ⟨0x200A2, 1, 1, 35, 33, .RO, .V, false, false, 0, [], []⟩
def HEARTH_DAMP_STATUS_T_CAP : Fld := ⟨0x200A2, 1, 1, 32, 23, .RO, .V, false, false, 0, [], []⟩
def HEARTH_DAMP_STATUS_P_ENG : Fld := ⟨0x200A2, 1, 1, 22, 13, .RO, .V, false, false, 0, [], []⟩
def HEARTH_DAMP_STATUS_SRC : Fld := ⟨0x200A2, 1, 1, 12, 8, .RO, .V, false, false, 31, [], []⟩
def HEARTH_DAMP_STATUS_KIND : Fld := ⟨0x200A2, 1, 1, 7, 6, .RO, .V, false, false, 0, [], []⟩
def HEARTH_DAMP_BRT_B_COOL : Fld := ⟨0x200A3, 1, 1, 35, 20, .RO, .V, false, false, 65535, [], []⟩
def HEARTH_DAMP_BRT_B_ENG : Fld := ⟨0x200A3, 1, 1, 19, 4, .RO, .V, false, false, 0, [], []⟩

/-! 17_hearth: HEARTH_COEF array, base HEARTH:0x00B0, stride 1, count 12 -/
def HEARTH_COEF_COEF : Fld := ⟨0x200B0, 1, 12, 35, 16, .RW, .W, true, false, 0, [1181, 320, 23333, 6667, 24960, 144000, 166, 128, 186, 410, 480, 800], []⟩

/-! 17_hearth: HEARTH_STAND array, base HEARTH:0x00C0, stride 1, count 8 -/
def HEARTH_STAND_MW : Fld := ⟨0x200C0, 1, 8, 35, 20, .RW, .W, true, false, 0, [3500, 1200, 200, 250, 100, 150, 20, 0], []⟩

/-! 17_hearth: HEARTH_LEDGER and HEARTH_RECON, HEARTH:0x00C8 and HEARTH:0x00C9 -/
def HEARTH_LEDGER_RECON_EN : Fld := ⟨0x200C8, 1, 1, 35, 35, .RW, .W, true, false, 1, [], []⟩
def HEARTH_LEDGER_SCALE : Fld := ⟨0x200C8, 1, 1, 34, 19, .RO, .S, false, false, 16384, [], []⟩
def HEARTH_LEDGER_RATIO : Fld := ⟨0x200C8, 1, 1, 18, 3, .RO, .V, false, false, 0, [], []⟩
def HEARTH_RECON_E_R : Fld := ⟨0x200C9, 1, 1, 35, 18, .RO, .V, false, false, 0, [], []⟩
def HEARTH_RECON_E_L : Fld := ⟨0x200C9, 1, 1, 17, 0, .RO, .V, false, false, 0, [], []⟩

/-! 17_hearth: HEARTH_PMBUS array, base HEARTH:0x00D0, stride 1, count 8 -/
def HEARTH_PMBUS_EN : Fld := ⟨0x200D0, 1, 8, 35, 35, .RW, .W, true, false, 0, [], []⟩
def HEARTH_PMBUS_ADDR : Fld := ⟨0x200D0, 1, 8, 34, 28, .RW, .W, true, false, 0, [], []⟩
def HEARTH_PMBUS_PAGE : Fld := ⟨0x200D0, 1, 8, 27, 20, .RW, .W, true, false, 255, [], []⟩
def HEARTH_PMBUS_PEC : Fld := ⟨0x200D0, 1, 8, 19, 19, .RW, .W, true, false, 0, [], []⟩
def HEARTH_PMBUS_SHARE : Fld := ⟨0x200D0, 1, 8, 18, 10, .RW, .W, true, false, 0, [], [(0, 256)]⟩
def HEARTH_PMBUS_LOST : Fld := ⟨0x200D0, 1, 8, 9, 9, .RO, .V, false, false, 0, [], []⟩

/-! 17_hearth: HEARTH_DOMAIN array, base HEARTH:0x0100, stride 1, count 84 -/
def HEARTH_DOMAIN_STATE : Fld := ⟨0x20100, 1, 84, 35, 34, .RO, .V, false, false, 0, [], []⟩
def HEARTH_DOMAIN_FAILS : Fld := ⟨0x20100, 1, 84, 33, 32, .RO, .S, false, false, 0, [], []⟩

/-! 17_hearth: HEARTH_SHUTDOWN, HEARTH:0x0160 -/
def HEARTH_SHUTDOWN_COUNT : Fld := ⟨0x20160, 1, 1, 35, 24, .RO, .K, false, false, 0, [], []⟩
def HEARTH_SHUTDOWN_LAST : Fld := ⟨0x20160, 1, 1, 23, 23, .W1C, .K, false, false, 0, [], []⟩

/-! 18_commands_events: MGMT_BAKE_CTRL, MGMT:0x0110 -/
def MGMT_BAKE_CTRL_STRICT : Fld := ⟨0x00110, 1, 1, 35, 35, .RW, .W, false, false, 0, [], []⟩
def MGMT_BAKE_CTRL_RESEND_LEAD : Fld := ⟨0x00110, 1, 1, 34, 31, .RW, .W, false, false, 4, [], [(2, 15)]⟩

/-! 18_commands_events: MGMT_BAKE_EPOCH, MGMT:0x0111 -/
def MGMT_BAKE_EPOCH_EPOCH : Fld := ⟨0x00111, 1, 1, 35, 0, .RO, .W, false, false, 0, [], []⟩

/-! 18_commands_events: MGMT_BAKE_STAMP, MGMT:0x0112 to MGMT:0x0115 -/
def MGMT_BAKE_STAMP_0112_SHARED : Fld := ⟨0x00112, 1, 1, 35, 0, .RO, .V, false, false, 0, [], []⟩
def MGMT_BAKE_STAMP_0113_TILE : Fld := ⟨0x00113, 1, 1, 35, 0, .RO, .V, false, false, 0, [], []⟩
def MGMT_BAKE_STAMP_0114_TICK_HI : Fld := ⟨0x00114, 1, 1, 11, 0, .RO, .V, false, false, 0, [], []⟩
def MGMT_BAKE_STAMP_0115_TICK_LO : Fld := ⟨0x00115, 1, 1, 35, 0, .RO, .V, false, false, 0, [], []⟩

/-! 18_commands_events: MGMT_BAKE_PEND, MGMT:0x0116 to MGMT:0x0118 -/
def MGMT_BAKE_PEND_0116_OPEN : Fld := ⟨0x00116, 1, 1, 35, 35, .RO, .V, false, false, 0, [], []⟩
def MGMT_BAKE_PEND_0116_CLOSED : Fld := ⟨0x00116, 1, 1, 34, 34, .RO, .V, false, false, 0, [], []⟩
def MGMT_BAKE_PEND_0116_WRITES : Fld := ⟨0x00116, 1, 1, 33, 21, .RO, .V, false, false, 0, [], []⟩
def MGMT_BAKE_PEND_0116_K_HI : Fld := ⟨0x00116, 1, 1, 11, 0, .RO, .V, false, false, 0, [], []⟩
def MGMT_BAKE_PEND_0117_K_LO : Fld := ⟨0x00117, 1, 1, 35, 0, .RO, .V, false, false, 0, [], []⟩
def MGMT_BAKE_PEND_0118_EPOCH : Fld := ⟨0x00118, 1, 1, 35, 0, .RO, .V, false, false, 0, [], []⟩

/-! 18_commands_events: MGMT_BAKE_PART array, base MGMT:0x0120, stride 1, count 7 -/
def MGMT_BAKE_PART_DIGEST : Fld := ⟨0x00120, 1, 7, 35, 0, .RO, .V, false, false, 0, [], []⟩

/-! 18_commands_events: MGMT_EVT_MISS, MGMT:0x0130 -/
def MGMT_EVT_MISS_MISS : Fld := ⟨0x00130, 1, 1, 35, 22, .W1C, .S, false, false, 0, [], []⟩
def MGMT_EVT_MISS_SEQ : Fld := ⟨0x00130, 1, 1, 21, 6, .RO, .V, false, false, 0, [], []⟩

/-! 18_commands_events: MGMT_LOG, MGMT:0x0131 and MGMT:0x0132 -/
def MGMT_LOG_0131_LOG_RATE : Fld := ⟨0x00131, 1, 1, 35, 30, .RW, .W, false, false, 16, [], [(1, 63)]⟩
def MGMT_LOG_0131_DROPPED : Fld := ⟨0x00131, 1, 1, 17, 0, .W1C, .S, false, false, 0, [], []⟩
def MGMT_LOG_0132_LSEQ : Fld := ⟨0x00132, 1, 1, 35, 0, .RO, .V, false, false, 0, [], []⟩

/-! 18_commands_events: MGMT_AUDIT_EXPECT, MGMT:0x0140 and MGMT:0x0141 -/
def MGMT_AUDIT_EXPECT_0140_EPOCH : Fld := ⟨0x00140, 1, 1, 35, 0, .RO, .W, false, false, 0, [], []⟩
def MGMT_AUDIT_EXPECT_0141_SHARED : Fld := ⟨0x00141, 1, 1, 35, 0, .RO, .W, false, false, 0, [], []⟩

/-! 18_commands_events: MGMT_AUDIT array, base MGMT:0x0400, stride 2, count 256 -/
def MGMT_AUDIT_W0_RESULT : Fld := ⟨0x00400, 2, 256, 35, 33, .RO, .V, false, false, 0, [], []⟩
def MGMT_AUDIT_W0_RESENDS : Fld := ⟨0x00400, 2, 256, 32, 21, .W1C, .S, false, false, 0, [], []⟩
def MGMT_AUDIT_W1_EPOCH : Fld := ⟨0x00401, 2, 256, 35, 0, .RO, .V, false, false, 0, [], []⟩

/-! 18_commands_events: MGMT_EVT array, base MGMT:0x1000, stride 1, count 1,024 -/
def MGMT_EVT_LATCH : Fld := ⟨0x01000, 1, 1024, 35, 35, .W1C, .S, false, false, 0, [], []⟩
def MGMT_EVT_MP : Fld := ⟨0x01000, 1, 1024, 34, 34, .RW, .W, false, false, 1, [], []⟩
def MGMT_EVT_BEACON : Fld := ⟨0x01000, 1, 1024, 33, 33, .RW, .W, false, false, 1, [], []⟩
def MGMT_EVT_PIN : Fld := ⟨0x01000, 1, 1024, 32, 32, .RW, .W, false, false, 0, [], []⟩
def MGMT_EVT_MASK : Fld := ⟨0x01000, 1, 1024, 31, 31, .RW, .W, false, false, 0, [], []⟩
def MGMT_EVT_COUNT : Fld := ⟨0x01000, 1, 1024, 30, 19, .W1C, .S, false, false, 0, [], []⟩

/-! 18_commands_events: MGR_EVT_DEST array, base LINK:0x2300, stride 5, count 4 -/
def MGR_EVT_DEST_W0_EN : Fld := ⟨0x52300, 5, 4, 35, 35, .RW, .W, true, false, 0, [], []⟩
def MGR_EVT_DEST_W0_V6 : Fld := ⟨0x52300, 5, 4, 34, 34, .RW, .W, true, false, 0, [], []⟩
def MGR_EVT_DEST_W0_PORT : Fld := ⟨0x52300, 5, 4, 33, 18, .RW, .W, true, false, 0, [], []⟩
def MGR_EVT_DEST_W1_ADDR : Fld := ⟨0x52301, 5, 4, 35, 0, .RW, .W, true, false, 0, [], []⟩
def MGR_EVT_DEST_W2_ADDR : Fld := ⟨0x52302, 5, 4, 35, 0, .RW, .W, true, false, 0, [], []⟩
def MGR_EVT_DEST_W3_ADDR : Fld := ⟨0x52303, 5, 4, 35, 0, .RW, .W, true, false, 0, [], []⟩
def MGR_EVT_DEST_W4_ADDR : Fld := ⟨0x52304, 5, 4, 35, 0, .RW, .W, true, false, 0, [], []⟩

/-! 19_security_update: SECURE_STATUS, SECURE:0x0000 -/
def SECURE_STATUS_OWNER_SLOT : Fld := ⟨0x10000, 1, 1, 35, 32, .RO, .K, false, false, 0, [], []⟩
def SECURE_STATUS_SLOTS_USED : Fld := ⟨0x10000, 1, 1, 31, 28, .RO, .K, false, false, 0, [], []⟩
def SECURE_STATUS_SVN_FLOOR : Fld := ⟨0x10000, 1, 1, 27, 21, .RO, .K, false, false, 0, [], []⟩
def SECURE_STATUS_VREVOKED : Fld := ⟨0x10000, 1, 1, 20, 17, .RO, .K, false, false, 0, [], []⟩
def SECURE_STATUS_DEBUG : Fld := ⟨0x10000, 1, 1, 16, 15, .RO, .W, false, false, 0, [], []⟩
def SECURE_STATUS_COSIGN_REQ : Fld := ⟨0x10000, 1, 1, 14, 14, .RO, .S, false, false, 0, [], []⟩
def SECURE_STATUS_LEGACY : Fld := ⟨0x10000, 1, 1, 13, 13, .RO, .S, false, false, 0, [], []⟩
def SECURE_STATUS_KEYS : Fld := ⟨0x10000, 1, 1, 12, 6, .RO, .S, false, false, 0, [], []⟩

/-! 19_security_update: SECURE_CTRL, SECURE:0x0001 -/
def SECURE_CTRL_REKEY : Fld := ⟨0x10001, 1, 1, 35, 28, .RW, .W, true, false, 60, [], [(5, 255)]⟩
def SECURE_CTRL_SESSION_GRACE : Fld := ⟨0x10001, 1, 1, 27, 18, .RW, .W, true, false, 200, [], [(50, 1000)]⟩
def SECURE_CTRL_SESSION_IDLE : Fld := ⟨0x10001, 1, 1, 17, 6, .RW, .W, true, false, 600, [], [(10, 4095)]⟩

/-! 19_security_update: SECURE_LINK array, base SECURE:0x0010, stride 1, count 4 -/
def SECURE_LINK_STATE : Fld := ⟨0x10010, 1, 4, 35, 34, .RO, .V, false, false, 0, [], []⟩
def SECURE_LINK_FAR_ROLE : Fld := ⟨0x10010, 1, 4, 33, 32, .RO, .V, false, false, 0, [], []⟩
def SECURE_LINK_FAR_GEN : Fld := ⟨0x10010, 1, 4, 31, 16, .RO, .V, false, false, 0, [], []⟩
def SECURE_LINK_REFUSALS : Fld := ⟨0x10010, 1, 4, 15, 4, .W1C, .S, false, false, 0, [], []⟩

/-! 19_security_update: SECURE_CRED array, base SECURE:0x0018, stride 1, count 4 -/
def SECURE_CRED_VALID : Fld := ⟨0x10018, 1, 4, 35, 35, .RO, .S, false, false, 0, [], []⟩
def SECURE_CRED_PRESENTED : Fld := ⟨0x10018, 1, 4, 34, 34, .RO, .S, false, false, 0, [], []⟩
def SECURE_CRED_IS_LEGACY : Fld := ⟨0x10018, 1, 4, 33, 33, .RO, .S, false, false, 0, [], []⟩
def SECURE_CRED_GEN : Fld := ⟨0x10018, 1, 4, 32, 17, .RO, .S, false, false, 0, [], []⟩

/-! 19_security_update: SECURE_FLOOR array, base SECURE:0x0020, stride 1, count 9 -/
def SECURE_FLOOR_GEN : Fld := ⟨0x10020, 1, 9, 35, 20, .RO, .S, false, false, 0, [], []⟩

/-! 19_security_update: SECURE_KEY array, base SECURE:0x0040, stride 2, count 64 -/
def SECURE_KEY_W0_VALID : Fld := ⟨0x10040, 2, 64, 35, 35, .RO, .S, false, false, 0, [], []⟩
def SECURE_KEY_W0_KEY_ID : Fld := ⟨0x10040, 2, 64, 34, 23, .RO, .S, false, false, 0, [], []⟩
def SECURE_KEY_W1_UNTIL : Fld := ⟨0x10041, 2, 64, 35, 0, .RO, .S, false, false, 0, [], []⟩

/-! 19_security_update: SECURE_SESSION array, base SECURE:0x00C0, stride 1, count 16 -/
def SECURE_SESSION_STATE : Fld := ⟨0x100C0, 1, 16, 35, 34, .RO, .V, false, false, 0, [], []⟩
def SECURE_SESSION_SID : Fld := ⟨0x100C0, 1, 16, 33, 18, .RO, .V, false, false, 0, [], []⟩
def SECURE_SESSION_IDLE : Fld := ⟨0x100C0, 1, 16, 17, 0, .RO, .V, false, false, 0, [], []⟩

/-! 19_security_update: MGMT_FW, MGMT:0x0150 and MGMT:0x0151 -/
def MGMT_FW_0150_ACTIVE : Fld := ⟨0x00150, 1, 1, 35, 35, .RO, .W, false, false, 0, [], []⟩
def MGMT_FW_0150_TRIAL : Fld := ⟨0x00150, 1, 1, 34, 34, .RO, .W, false, false, 0, [], []⟩
def MGMT_FW_0150_TRIES : Fld := ⟨0x00150, 1, 1, 33, 32, .RO, .W, false, false, 0, [], []⟩
def MGMT_FW_0150_SVN_A : Fld := ⟨0x00150, 1, 1, 31, 25, .RO, .W, false, false, 0, [], []⟩
def MGMT_FW_0150_SVN_B : Fld := ⟨0x00150, 1, 1, 24, 18, .RO, .W, false, false, 0, [], []⟩
def MGMT_FW_0150_STAGING : Fld := ⟨0x00150, 1, 1, 17, 17, .RO, .V, false, false, 0, [], []⟩
def MGMT_FW_0151_COMMIT_HOURS : Fld := ⟨0x00151, 1, 1, 35, 28, .RW, .W, false, false, 24, [], []⟩

/-! 20_stamp_and_deflate: STAMP_SRC and STAMP_DST, STAMP:0x0000 to 0x0002 and STAMP:0x0004 to 0x0006 -/
def STAMP_SRC_W0_KIND : Fld := ⟨0xC0000, 1, 1, 35, 34, .RW, .V, false, false, 3, [], []⟩
def STAMP_SRC_W0_FMT : Fld := ⟨0xC0000, 1, 1, 33, 32, .RW, .V, false, false, 0, [], []⟩
def STAMP_SRC_W0_ID : Fld := ⟨0xC0000, 1, 1, 31, 24, .RW, .V, false, false, 0, [], []⟩
def STAMP_SRC_W0_STRIDE : Fld := ⟨0xC0000, 1, 1, 23, 10, .RW, .V, false, false, 0, [], []⟩
def STAMP_SRC_W1_BASE : Fld := ⟨0xC0001, 1, 1, 30, 0, .RW, .V, false, false, 0, [], []⟩
def STAMP_SRC_W2_X : Fld := ⟨0xC0002, 1, 1, 35, 23, .RW, .V, false, false, 0, [], []⟩
def STAMP_SRC_W2_Y : Fld := ⟨0xC0002, 1, 1, 22, 10, .RW, .V, false, false, 0, [], [(0, 4351)]⟩
def STAMP_DST_W0_KIND : Fld := ⟨0xC0004, 1, 1, 35, 34, .RW, .V, false, false, 3, [], [(0, 1)]⟩
def STAMP_DST_W0_FMT : Fld := ⟨0xC0004, 1, 1, 33, 32, .RW, .V, false, false, 0, [], []⟩
def STAMP_DST_W0_ID : Fld := ⟨0xC0004, 1, 1, 31, 24, .RW, .V, false, false, 0, [], []⟩
def STAMP_DST_W0_STRIDE : Fld := ⟨0xC0004, 1, 1, 23, 10, .RW, .V, false, false, 0, [], []⟩
def STAMP_DST_W1_BASE : Fld := ⟨0xC0005, 1, 1, 30, 0, .RW, .V, false, false, 0, [], []⟩
def STAMP_DST_W2_X : Fld := ⟨0xC0006, 1, 1, 35, 23, .RW, .V, false, false, 0, [], []⟩
def STAMP_DST_W2_Y : Fld := ⟨0xC0006, 1, 1, 22, 10, .RW, .V, false, false, 0, [], [(0, 4351)]⟩

/-! 20_stamp_and_deflate: STAMP_SIZE, STAMP_FG, STAMP_BG and STAMP_WMASK, STAMP:0x0008 to STAMP:0x000B -/
def STAMP_SIZE_W_M1 : Fld := ⟨0xC0008, 1, 1, 35, 23, .RW, .V, false, false, 0, [], []⟩
def STAMP_SIZE_H_M1 : Fld := ⟨0xC0008, 1, 1, 22, 10, .RW, .V, false, false, 0, [], []⟩
def STAMP_FG_FG : Fld := ⟨0xC0009, 1, 1, 35, 0, .RW, .V, false, false, 0, [], []⟩
def STAMP_BG_BG : Fld := ⟨0xC000A, 1, 1, 35, 0, .RW, .V, false, false, 0, [], []⟩
def STAMP_WMASK_WMASK : Fld := ⟨0xC000B, 1, 1, 35, 0, .RW, .V, false, false, 68719476735, [], []⟩

/-! 20_stamp_and_deflate: STAMP_CTRL, STAMP:0x000C -/
def STAMP_CTRL_OP : Fld := ⟨0xC000C, 1, 1, 35, 33, .RW, .V, false, false, 0, [], [(0, 4)]⟩
def STAMP_CTRL_ROP : Fld := ⟨0xC000C, 1, 1, 32, 29, .RW, .V, false, false, 12, [], []⟩
def STAMP_CTRL_XDIR : Fld := ⟨0xC000C, 1, 1, 28, 28, .RW, .V, false, false, 0, [], []⟩
def STAMP_CTRL_YDIR : Fld := ⟨0xC000C, 1, 1, 27, 27, .RW, .V, false, false, 0, [], []⟩
def STAMP_CTRL_BG_SKIP : Fld := ⟨0xC000C, 1, 1, 26, 26, .RW, .V, false, false, 0, [], []⟩
def STAMP_CTRL_WAIT : Fld := ⟨0xC000C, 1, 1, 25, 25, .RW, .V, false, false, 0, [], []⟩
def STAMP_CTRL_FORCE : Fld := ⟨0xC000C, 1, 1, 24, 24, .RW, .V, false, false, 0, [], []⟩
def STAMP_CTRL_WM_STEP : Fld := ⟨0xC000C, 1, 1, 23, 11, .RW, .V, false, false, 0, [], []⟩

/-! 20_stamp_and_deflate: STAMP_STATUS and STAMP_PROGRESS, STAMP:0x0010 and STAMP:0x0011 -/
def STAMP_STATUS_STATE : Fld := ⟨0xC0010, 1, 1, 35, 34, .RO, .V, false, false, 0, [], []⟩
def STAMP_STATUS_HELD : Fld := ⟨0xC0010, 1, 1, 33, 31, .RO, .V, false, false, 0, [], []⟩
def STAMP_STATUS_OVERLAP_HAZARD : Fld := ⟨0xC0010, 1, 1, 30, 30, .RO, .V, false, false, 0, [], []⟩
def STAMP_STATUS_ERR : Fld := ⟨0xC0010, 1, 1, 29, 26, .RO, .S, false, false, 0, [], []⟩
def STAMP_PROGRESS_ROWS : Fld := ⟨0xC0011, 1, 1, 35, 23, .RO, .V, false, false, 0, [], []⟩

/-! 20_stamp_and_deflate: DEFLATE_STATUS, DEFLATE_IN, DEFLATE_OUT and DEFLATE_ERR_AT, DEFLATE:0x0000 to DEFLATE:0x0003 -/
def DEFLATE_STATUS_STATE : Fld := ⟨0xD0000, 1, 1, 35, 33, .RO, .V, false, false, 0, [], []⟩
def DEFLATE_STATUS_JOB : Fld := ⟨0xD0000, 1, 1, 32, 31, .RO, .V, false, false, 0, [], []⟩
def DEFLATE_STATUS_HELD : Fld := ⟨0xD0000, 1, 1, 30, 28, .RO, .V, false, false, 0, [], []⟩
def DEFLATE_STATUS_BUFS : Fld := ⟨0xD0000, 1, 1, 27, 24, .RO, .V, false, false, 0, [], []⟩
def DEFLATE_STATUS_ERR : Fld := ⟨0xD0000, 1, 1, 23, 18, .RO, .S, false, false, 0, [], []⟩
def DEFLATE_IN_IN_DONE : Fld := ⟨0xD0001, 1, 1, 31, 0, .RO, .V, false, false, 0, [], []⟩
def DEFLATE_OUT_OUT_DONE : Fld := ⟨0xD0002, 1, 1, 31, 0, .RO, .V, false, false, 0, [], []⟩
def DEFLATE_ERR_AT_OFFSET : Fld := ⟨0xD0003, 1, 1, 31, 0, .RO, .S, false, false, 0, [], []⟩

/-! 21_startup_and_retention: MGMT_STAGE, MGMT:0x0020 -/
def MGMT_STAGE_STAGE : Fld := ⟨0x00020, 1, 1, 35, 33, .RO, .V, false, false, 0, [], []⟩
def MGMT_STAGE_BISQUE_OK : Fld := ⟨0x00020, 1, 1, 32, 32, .RO, .V, false, false, 0, [], []⟩
def MGMT_STAGE_BISQUE_SHOWN : Fld := ⟨0x00020, 1, 1, 31, 31, .RO, .V, false, false, 0, [], []⟩
def MGMT_STAGE_MP : Fld := ⟨0x00020, 1, 1, 30, 30, .RO, .V, false, false, 0, [], []⟩
def MGMT_STAGE_DRAM : Fld := ⟨0x00020, 1, 1, 29, 29, .RO, .V, false, false, 0, [], []⟩
def MGMT_STAGE_CAL : Fld := ⟨0x00020, 1, 1, 28, 28, .RO, .V, false, false, 0, [], []⟩
def MGMT_STAGE_TIME : Fld := ⟨0x00020, 1, 1, 27, 27, .RO, .V, false, false, 0, [], []⟩
def MGMT_STAGE_TIME_WAITED : Fld := ⟨0x00020, 1, 1, 26, 26, .RO, .V, false, false, 0, [], []⟩
def MGMT_STAGE_PLACED : Fld := ⟨0x00020, 1, 1, 25, 25, .RO, .V, false, false, 0, [], []⟩
def MGMT_STAGE_SCAN : Fld := ⟨0x00020, 1, 1, 24, 24, .RO, .V, false, false, 0, [], []⟩
def MGMT_STAGE_CAUSE : Fld := ⟨0x00020, 1, 1, 23, 20, .RO, .K, false, false, 0, [], []⟩
def MGMT_STAGE_GLOST_MS : Fld := ⟨0x00020, 1, 1, 19, 0, .RO, .V, false, false, 0, [], []⟩

/-! 21_startup_and_retention: MGMT_RESET, MGMT:0x0021 -/
def MGMT_RESET_WDT_TIMEOUT : Fld := ⟨0x00021, 1, 1, 35, 26, .RW, .W, false, false, 100, [], [(10, 1000)]⟩
def MGMT_RESET_RESETS : Fld := ⟨0x00021, 1, 1, 25, 14, .RO, .K, false, false, 0, [], []⟩
def MGMT_RESET_WATCHDOGS : Fld := ⟨0x00021, 1, 1, 13, 2, .RO, .K, false, false, 0, [], []⟩

/-! 21_startup_and_retention: MGMT_POWER, MGMT:0x0022 -/
def MGMT_POWER_PENDING : Fld := ⟨0x00022, 1, 1, 35, 34, .RO, .V, false, false, 0, [], []⟩
def MGMT_POWER_WAKE_PIN : Fld := ⟨0x00022, 1, 1, 33, 33, .RW, .K, false, false, 1, [], []⟩
def MGMT_POWER_WAKE_LINK : Fld := ⟨0x00022, 1, 1, 32, 32, .RW, .K, false, false, 1, [], []⟩
def MGMT_POWER_WAKE_SRC : Fld := ⟨0x00022, 1, 1, 31, 28, .RO, .K, false, false, 0, [], []⟩
def MGMT_POWER_TIME_WAIT : Fld := ⟨0x00022, 1, 1, 27, 20, .RW, .W, false, false, 4, [], []⟩

/-! 21_startup_and_retention: MGMT_BISQUE, MGMT:0x0023 -/
def MGMT_BISQUE_VALID : Fld := ⟨0x00023, 1, 1, 35, 35, .RO, .V, false, false, 0, [], []⟩
def MGMT_BISQUE_SHOWING : Fld := ⟨0x00023, 1, 1, 34, 34, .RO, .V, false, false, 0, [], []⟩
def MGMT_BISQUE_ERR : Fld := ⟨0x00023, 1, 1, 33, 30, .RO, .V, false, false, 0, [], []⟩
def MGMT_BISQUE_BSTEP : Fld := ⟨0x00023, 1, 1, 29, 27, .RO, .V, false, false, 0, [], []⟩
def MGMT_BISQUE_APPLIED : Fld := ⟨0x00023, 1, 1, 26, 26, .RO, .V, false, false, 0, [], []⟩
def MGMT_BISQUE_NREG : Fld := ⟨0x00023, 1, 1, 25, 15, .RO, .V, false, false, 0, [], []⟩

/-! 13_manager_role: MGR_ADDR, LINK:0x2004 to LINK:0x2008 -/
def MGR_ADDR6_2009_IPV6_C : Fld := ⟨0x52009, 1, 1, 35, 0, .RW, .W, true, false, 0, [], []⟩
def MGR_ADDR6_200A_IPV6_D : Fld := ⟨0x5200A, 1, 1, 35, 16, .RW, .W, true, false, 0, [], []⟩

end Sys2Proof.Machine.Reg

namespace Sys2Proof.Machine

open Reg

def fieldsMGMT0 : List Fld := [MGMT_STRAPS_ROLE, MGMT_STRAPS_BOARD_TYPE, MGMT_STRAPS_CLAIM, MGMT_BAKE_CTRL_STRICT, MGMT_BAKE_CTRL_RESEND_LEAD, MGMT_BAKE_EPOCH_EPOCH, MGMT_BAKE_STAMP_0112_SHARED, MGMT_BAKE_STAMP_0113_TILE, MGMT_BAKE_STAMP_0114_TICK_HI, MGMT_BAKE_STAMP_0115_TICK_LO, MGMT_BAKE_PEND_0116_OPEN, MGMT_BAKE_PEND_0116_CLOSED, MGMT_BAKE_PEND_0116_WRITES, MGMT_BAKE_PEND_0116_K_HI, MGMT_BAKE_PEND_0117_K_LO, MGMT_BAKE_PEND_0118_EPOCH, MGMT_BAKE_PART_DIGEST, MGMT_EVT_MISS_MISS, MGMT_EVT_MISS_SEQ, MGMT_LOG_0131_LOG_RATE, MGMT_LOG_0131_DROPPED, MGMT_LOG_0132_LSEQ, MGMT_AUDIT_EXPECT_0140_EPOCH, MGMT_AUDIT_EXPECT_0141_SHARED, MGMT_AUDIT_W0_RESULT, MGMT_AUDIT_W0_RESENDS, MGMT_AUDIT_W1_EPOCH, MGMT_EVT_LATCH, MGMT_EVT_MP, MGMT_EVT_BEACON, MGMT_EVT_PIN, MGMT_EVT_MASK, MGMT_EVT_COUNT, MGMT_FW_0150_ACTIVE, MGMT_FW_0150_TRIAL, MGMT_FW_0150_TRIES, MGMT_FW_0150_SVN_A, MGMT_FW_0150_SVN_B, MGMT_FW_0150_STAGING, MGMT_FW_0151_COMMIT_HOURS]
def fieldsMGMT1 : List Fld := [MGMT_STAGE_STAGE, MGMT_STAGE_BISQUE_OK, MGMT_STAGE_BISQUE_SHOWN, MGMT_STAGE_MP, MGMT_STAGE_DRAM, MGMT_STAGE_CAL, MGMT_STAGE_TIME, MGMT_STAGE_TIME_WAITED, MGMT_STAGE_PLACED, MGMT_STAGE_SCAN, MGMT_STAGE_CAUSE, MGMT_STAGE_GLOST_MS, MGMT_RESET_WDT_TIMEOUT, MGMT_RESET_RESETS, MGMT_RESET_WATCHDOGS, MGMT_POWER_PENDING, MGMT_POWER_WAKE_PIN, MGMT_POWER_WAKE_LINK, MGMT_POWER_WAKE_SRC, MGMT_POWER_TIME_WAIT, MGMT_BISQUE_VALID, MGMT_BISQUE_SHOWING, MGMT_BISQUE_ERR, MGMT_BISQUE_BSTEP, MGMT_BISQUE_APPLIED, MGMT_BISQUE_NREG]
/-- The fields of block 0, MGMT (R11). -/
def fieldsMGMT : List Fld := fieldsMGMT0 ++ fieldsMGMT1

def fieldsSECURE0 : List Fld := [SECURE_STATUS_OWNER_SLOT, SECURE_STATUS_SLOTS_USED, SECURE_STATUS_SVN_FLOOR, SECURE_STATUS_VREVOKED, SECURE_STATUS_DEBUG, SECURE_STATUS_COSIGN_REQ, SECURE_STATUS_LEGACY, SECURE_STATUS_KEYS, SECURE_CTRL_REKEY, SECURE_CTRL_SESSION_GRACE, SECURE_CTRL_SESSION_IDLE, SECURE_LINK_STATE, SECURE_LINK_FAR_ROLE, SECURE_LINK_FAR_GEN, SECURE_LINK_REFUSALS, SECURE_CRED_VALID, SECURE_CRED_PRESENTED, SECURE_CRED_IS_LEGACY, SECURE_CRED_GEN, SECURE_FLOOR_GEN, SECURE_KEY_W0_VALID, SECURE_KEY_W0_KEY_ID, SECURE_KEY_W1_UNTIL, SECURE_SESSION_STATE, SECURE_SESSION_SID, SECURE_SESSION_IDLE]
/-- The fields of block 1, SECURE (R11). -/
def fieldsSECURE : List Fld := fieldsSECURE0

def fieldsHEARTH0 : List Fld := [HEARTH_PLAN_CTRL_POWER_CAP, HEARTH_PLAN_CTRL_FIRE_WINDOW, HEARTH_PLAN_CTRL_DEPTH_FLOOR, HEARTH_PLAN_STATUS_BUDGET, HEARTH_PLAN_STATUS_PLANNED, HEARTH_PLAN_STATUS_RUNG, HEARTH_PLAN_STATUS_CLEAN_COUNT, HEARTH_PLAN_STATUS_THERMAL, HEARTH_PLAN_LAST_MEASURED, HEARTH_PLAN_LAST_REFIRE, HEARTH_PLAN_CLASS_ESTIMATE, HEARTH_PLAN_CLASS_ACTUAL, HEARTH_PLAN_CLASS_DEFERRED, CAL_CTRL_CAL_DELTA, CAL_CTRL_CAL_PERIOD, CAL_CTRL_AUTO_K, CAL_CTRL_SAVE_PERIOD, CAL_TTH_TTH_EN, CAL_TTH_TTH_ZONE, CAL_TTH_MEAS_STEP, CAL_TTH_MEAS_CODE, CAL_TTH_MIN_DEF, CAL_MODEL_RG_K_R, CAL_MODEL_RG_K_G, CAL_MODEL_B_K_B, CAL_MODEL_B_NORM, CAL_RUN_STATUS_PENDING, CAL_RUN_STATUS_RUNNING, CAL_RUN_STATUS_STEP, CAL_RUN_STATUS_LAST_RESULT, CAL_RUN_STATUS_T_LAST, CAL_RUN_STATUS_RUNS, CAL_STORE_STATUS_SAVING, CAL_STORE_STATUS_SNAP_SLOT, CAL_STORE_STATUS_STATIC_SIDE, CAL_STORE_STATUS_SINCE, CAL_STORE_STATUS_SNAP_SEQ, CAL_AMB_CTRL_AMB_EN, CAL_AMB_CTRL_AMB_SRC, CAL_AMB_CTRL_AMB_SHIFT]
def fieldsHEARTH1 : List Fld := [CAL_AMB_CTRL_AMB_EVERY, CAL_AMB_CTRL_AMB_SLEW, CAL_AMB_HOST_AMB_HOST, CAL_AMB_STATUS_AF, CAL_AMB_STATUS_BAMB, CAL_WT_WT, CAL_BASE_W0_EN, CAL_BASE_W0_TEMP, CAL_BASE_W0_BASE_R, CAL_BASE_W1_BASE_G, CAL_BASE_W1_BASE_B, CAL_LAST_NET, CAL_LAST_MEAS, CAL_TTH_AGE_AGE, CAL_AGING_SUMMARY_G_MAX, CAL_AGING_SUMMARY_G_MEAN, CAL_AMB_CURVE_X, CAL_AMB_CURVE_Y, HEARTH_HK_STATUS_ROUNDS, HEARTH_HK_STATUS_LAST_SENSOR, HEARTH_HK_STATUS_FAULT, HEARTH_HK_STATUS_THERM, HEARTH_TS_W0_TYPE, HEARTH_TS_W0_CLASS, HEARTH_TS_W0_N0, HEARTH_TS_W0_N1, HEARTH_TS_W0_N2, HEARTH_TS_W0_IDEAL, HEARTH_TS_W1_R25, HEARTH_TS_W1_BETA, HEARTH_TS_W2_RAW, HEARTH_TS_W2_EFFECTIVE, HEARTH_TS_W2_STATE, HEARTH_TS_W2_COUNT, HEARTH_TS_W2_CAUSE, HEARTH_TS_W3_RISE, HEARTH_DIE_TEMP, HEARTH_DIE_CAUSE, HEARTH_DIE_HARD, HEARTH_RAIL_W0_MV]
def fieldsHEARTH2 : List Fld := [HEARTH_RAIL_W0_OUT, HEARTH_RAIL_W1_LOW, HEARTH_RAIL_W1_HIGH, HEARTH_PHOTO_CODE, HEARTH_PHOTO_PD_GAIN, HEARTH_ZONE_MASK, HEARTH_ZONE_TZ, HEARTH_ZONE_CONE, HEARTH_ZONE_BLIND, HEARTH_CONE_TH_TH, HEARTH_DAMP_CTRL_GRACE, HEARTH_DAMP_CTRL_STEP_W, HEARTH_DAMP_CTRL_FLOOR_W, HEARTH_DAMP_CTRL_STEP_TIME, HEARTH_DAMP_CTRL_SP_AUTO, HEARTH_DAMP_LIMITS_LAMP_LIMIT, HEARTH_DAMP_LIMITS_BOARD_LIMIT, HEARTH_DAMP_LIMITS_DIE_EASE, HEARTH_DAMP_LIMITS_RISE, HEARTH_DAMP_STATUS_STATE, HEARTH_DAMP_STATUS_T_CAP, HEARTH_DAMP_STATUS_P_ENG, HEARTH_DAMP_STATUS_SRC, HEARTH_DAMP_STATUS_KIND, HEARTH_DAMP_BRT_B_COOL, HEARTH_DAMP_BRT_B_ENG, HEARTH_COEF_COEF, HEARTH_STAND_MW, HEARTH_LEDGER_RECON_EN, HEARTH_LEDGER_SCALE, HEARTH_LEDGER_RATIO, HEARTH_RECON_E_R, HEARTH_RECON_E_L, HEARTH_PMBUS_EN, HEARTH_PMBUS_ADDR, HEARTH_PMBUS_PAGE, HEARTH_PMBUS_PEC, HEARTH_PMBUS_SHARE, HEARTH_PMBUS_LOST, HEARTH_DOMAIN_STATE]
def fieldsHEARTH3 : List Fld := [HEARTH_DOMAIN_FAILS, HEARTH_SHUTDOWN_COUNT, HEARTH_SHUTDOWN_LAST]
/-- The fields of block 2, HEARTH (R11). -/
def fieldsHEARTH : List Fld := fieldsHEARTH0 ++ fieldsHEARTH1 ++ fieldsHEARTH2 ++ fieldsHEARTH3

def fieldsCLOCK0 : List Fld := [CLOCK_SYN_W0_RELOCK, CLOCK_SYN_W0_LOCKED, CLOCK_SYN_W0_BAND, CLOCK_SYN_W0_LOCK_US, CLOCK_SYN_W0_LOSSES, CLOCK_SYN_W1_PULL, CLOCK_SYN_W1_FOLLOW, CLOCK_DLL_LOCKED, CLOCK_REF_REF_OK, CLOCK_REF_REF_PPM, CLOCK_CKO_FORMAT, CLOCK_CKO_SWING, CLOCK_CKO_SOURCE, CLOCK_CKO_DIV_M1, CLOCK_CKO_ALIGN_SRC, CLOCK_CKO_ARM, CLOCK_CKO_ALIGNED]
/-- The fields of block 3, CLOCK (R11). -/
def fieldsCLOCK : List Fld := fieldsCLOCK0

def fieldsTIME0 : List Fld := [TIME_BASE_W0_TIME, TIME_BASE_W1_TIME, TIME_BASE_W2_TIME, TIME_BASE_W3_INCR, TIME_BASE_W4_MODE, TIME_BASE_W4_KP_SHIFT, TIME_BASE_W4_KI_SHIFT, TIME_BASE_W4_STEP_LIMIT, TIME_BASE_W4_LOCK_NS, TIME_BASE_W5_VALID, TIME_BASE_W5_LOCKED, TIME_BASE_W5_HOLDOVER, TIME_BASE_W5_STEPS, TIME_BASE_W6_OFFSET, TIME_BASE_W7_OFFSET_IN, TIME_TICK_CTRL_SRC_SEL, TIME_TICK_CTRL_REVERT, TIME_TICK_CTRL_BOUNDARY, TIME_TICK_CTRL_SYNC_DIV, TIME_TICK_CTRL_SLEW, TIME_TICK_CTRL_PHASE_LEAD, TIME_TICK_CTRL_DOM_TOL, TIME_TICK_RATE_NUM, TIME_TICK_RATE_DEN, TIME_SYNC_OFFSET_SYNC_OFFSET, TIME_PHASE_STATE_0024_PHASE_BASE, TIME_PHASE_STATE_0025_PHI, TIME_PHASE_STATE_0026_TARGET, TIME_PHASE_STATE_0027_SW, TIME_TICK_STATUS_SOURCE, TIME_TICK_STATUS_HOLDOVER, TIME_TICK_STATUS_FREE, TIME_TICK_STATUS_SYNC_OK, TIME_TICK_STATUS_CAUSE, TIME_TICK_STATUS_REPHASES, TIME_ANCHOR_0029_ANCHOR_TICK_HI, TIME_ANCHOR_002A_ANCHOR_TICK_LO, TIME_ANCHOR_002B_ANCHOR_TIME, TIME_ANCHOR_002C_ANCHOR_TIME, TIME_ANCHOR_002D_ANCHOR_TIME]
def fieldsTIME1 : List Fld := [TIME_CAPTURE_W0_EN, TIME_CAPTURE_W0_BASE, TIME_CAPTURE_W0_FALLING, TIME_CAPTURE_W0_DEPTH, TIME_CAPTURE_W0_LOST, TIME_CAPTURE_W1_STAMP, TIME_CAPTURE_W2_STAMP, TIME_CAPTURE_W3_STAMP, TIME_PTP_DOM0, TIME_PTP_DOM1, TIME_PTP_PTP_V6, TIME_PTP_PTP_EN, TIME_PTP_MASTER_W0_ID_HI, TIME_PTP_MASTER_W1_ID_LO, TIME_PTP_MASTER_W1_SELECTED]
/-- The fields of block 4, TIME (R11). -/
def fieldsTIME : List Fld := fieldsTIME0 ++ fieldsTIME1

def fieldsLINK0 : List Fld := [LINK_LANE_W0_FITTED, LINK_LANE_W0_TX_INV, LINK_LANE_W0_RX_INV, LINK_LANE_W0_TX_SWING, LINK_LANE_W0_TX_PRE, LINK_LANE_W0_TX_POST, LINK_LANE_W0_RX_CTLE, LINK_LANE_W0_RX_GAIN, LINK_LANE_W0_RATE, LINK_LANE_W1_HOLD, LINK_LANE_W1_STATE, LINK_LANE_W2_DAMAGED, LINK_LANE_W2_LOST, LINK_LANE_W3_EYE_VALID, LINK_LANE_W3_EYE_H, LINK_LANE_W3_EYE_V, LINK_LANE_TABLE_VALID, LINK_LANE_TABLE_DIGEST_OK, LINK_LANE_TABLE_DEFAULTS, LINK_LANE_TABLE_ETH_MODE, LINK_EYE_CTRL_START, LINK_EYE_CTRL_BUSY, LINK_EYE_CTRL_AUTO, LINK_EYE_CTRL_LANE, LINK_EYE_CTRL_MIN_H, LINK_EYE_CTRL_MIN_V, LINK_EYE_CTRL_ERROR, LINK_LANE_LAST_LANE, LINK_LANE_LAST_EVENT, LINK_PORT_W0_EN, LINK_PORT_W0_SLEEP, LINK_PORT_W1_STATE, LINK_PORT_W1_FAR, LINK_PORT_W1_FAR_PORT, LINK_PORT_W1_FAR_PLACED, LINK_PORT_W1_FAR_X, LINK_PORT_W1_FAR_Y, LINK_PORT_W1_FAR_SECT, LINK_PORT_W2_DAMAGED, LINK_PORT_W2_REPLAYS]
def fieldsLINK1 : List Fld := [LINK_PORT_W3_DELAY, LINK_PORT_W4_ASYM, LINK_POS_PLACED, LINK_POS_X, LINK_POS_Y, LINK_POS_ROT, LINK_POS_SECT, LINK_MGR_ROUTE_VALID, LINK_MGR_ROUTE_UP_PRI, LINK_MGR_ROUTE_UP_ALT, LINK_MGR_ROUTE_CHILD, LINK_MGR_ROUTE_VALID_B, LINK_MGR_ROUTE_UP_PRI_B, LINK_MGR_ROUTE_UP_ALT_B, LINK_MGR_ROUTE_CHILD_B, LINK_TIME_CTRL_INTERVAL, LINK_TIME_CTRL_UP_SEL, LINK_ROUTE_ROUTES, LINK_PEEL_EPOCH, LINK_PEEL_IDX, LINK_PEEL_SEEN, MGR_CTRL_RETURN, MGR_CTRL_IDX, MGR_CTRL_LEASE, MGR_CTRL_GUARD, MGR_CTRL_BRIDGE, MGR_CTRL_RENEW_WAIT, MGR_CTRL_PATHS, MGR_PAIR_STATUS_STATE, MGR_PAIR_STATUS_MISSED, MGR_PAIR_STATUS_HEARD, MGR_PAIR_STATUS_MIRROR_OK, MGR_PAIR_STATUS_CLEAN, MGR_NET_CMD_PORT, MGR_NET_PEER_PORT, MGR_ETH_CTRL_FEC25, MGR_ETH_CTRL_FEC100, MGR_ETH_CTRL_VID, MGR_ETH_CTRL_PCP, MGR_ETH_CTRL_UP]
def fieldsLINK2 : List Fld := [MGR_ADDR_2004_MAC_HI, MGR_ADDR_2005_MAC_LO, MGR_ADDR_2006_IPV4, MGR_ADDR_2007_IPV6_A, MGR_ADDR_2008_IPV6_B, MGR_STREAM_STREAM_PORT, MGR_STREAM_PT_SLAB, MGR_STREAM_PT_LIVE, MGR_GROUP_W0_EN, MGR_GROUP_W0_KIND, MGR_GROUP_W0_V6, MGR_GROUP_W0_NSRC, MGR_GROUP_W1_GROUP, MGR_GROUP_W2_GROUP, MGR_GROUP_W3_GROUP, MGR_GROUP_W4_GROUP, MGR_GROUP_SRC_W0_SOURCE, MGR_GROUP_SRC_W1_SOURCE, MGR_GROUP_SRC_W2_SOURCE, MGR_GROUP_SRC_W3_SOURCE, MGR_LIVE_W0_EN, MGR_LIVE_W0_BPM, MGR_LIVE_W0_COLOR, MGR_LIVE_W0_TCS, MGR_LIVE_W0_W_M1, MGR_LIVE_W0_H_M1, MGR_LIVE_W1_UDP_PORT, MGR_LIVE_W2_FR_NUM, MGR_LIVE_W2_FR_DEN, MGR_LIVE_W3_LOST, MGR_WORKER_W0_VALID, MGR_WORKER_W0_X, MGR_WORKER_W0_Y, MGR_WORKER_W0_SPLICE, MGR_WORKER_W1_POLICED, MGR_WORKER_W1_QUEUE_DROP, MGR_EVT_DEST_W0_EN, MGR_EVT_DEST_W0_V6, MGR_EVT_DEST_W0_PORT, MGR_EVT_DEST_W1_ADDR]
def fieldsLINK3 : List Fld := [MGR_EVT_DEST_W2_ADDR, MGR_EVT_DEST_W3_ADDR, MGR_EVT_DEST_W4_ADDR, MGR_ADDR6_2009_IPV6_C, MGR_ADDR6_200A_IPV6_D]
/-- The fields of block 5, LINK (R11). -/
def fieldsLINK : List Fld := fieldsLINK0 ++ fieldsLINK1 ++ fieldsLINK2 ++ fieldsLINK3

def fieldsMEMORY0 : List Fld := [MEM_CTRL_SP0_GRADE, MEM_CTRL_SP1_GRADE, MEM_CTRL_SP_SEL, MEM_CTRL_IDLE_SR, MEM_CTRL_SR_IDLE, MEM_CTRL_RETRAIN_MS, MEM_CTRL_DRIFT_LIM, MEM_STATUS_TRAINED, MEM_STATUS_SP, MEM_STATUS_GRADE, MEM_STATUS_SWITCHING, MEM_STATUS_CH_OK, MEM_STATUS_DENSITY, MEM_STATUS_RANKS, MEM_STATUS_IN_SR, MEM_STATUS_RETRAINING, MEM_MAP_0002_OWNER_TOP, MEM_MAP_0003_RAY_BASE, MEM_MAP_0004_SYS_BASE, MEM_ARB_WEIGHT, MEM_ARB_CAP, MEM_CHAN_W0_DRIFT, MEM_CHAN_W0_REF_RATE, MEM_CHAN_W0_POSTPONED, MEM_CHAN_W1_SR_ENTRIES, MEM_CHAN_W1_SR_CANCELS, MEM_CHAN_W2_RETRAINS, MEM_CHAN_W2_FORCED, MEM_SECTOR_LAST_REQ, MEM_SECTOR_LAST_SECTOR, MEM_SECTOR_COUNT_FAILED, MEM_SECTOR_COUNT_RETRIED]
/-- The fields of block 6, MEMORY (R11). -/
def fieldsMEMORY : List Fld := fieldsMEMORY0

def fieldsDECODE0 : List Fld := [DECODE_STREAM_CTRL_PRESENT_TOL, DECODE_STREAM_CTRL_HORIZON, DECODE_STREAM_CTRL_CLEAR_OK, DECODE_STREAM_CTRL_EPOCH_CHECK, DECODE_STREAM_STATUS_ALIGNED, DECODE_STREAM_STATUS_IN_BATCH, DECODE_STREAM_STATUS_ENTRIES, DECODE_STREAM_STATUS_FIFO_WORDS, DECODE_STREAM_FRAME_HI_FRAME_HI, DECODE_STREAM_FRAME_LO_FRAME_LO, DECODE_STREAM_OFFSET_EXPECTED, DECODE_CTRL_HASH_CHECK, DECODE_POOL_CTRL_BUF_COUNT, DECODE_POOL_CTRL_BUF_KWORDS, DECODE_POOL_BASE_POOL_BASE, DECODE_POOL_STATUS_FREE, DECODE_POOL_STATUS_REF, DECODE_POOL_STATUS_SEALED, DECODE_POOL_STATUS_FRAME, DECODE_ATLAS_CTRL_MATRIX, DECODE_ATLAS_CTRL_RANGE, DECODE_SEQ_STATUS_ACTIVE, DECODE_SEQ_STATUS_TAINTED, DECODE_SEQ_STATUS_NEED_IRAP, DECODE_SEQ_STATUS_CHROMA, DECODE_SEQ_STATUS_DEPTH10, DECODE_SEQ_STATUS_WIDTH_M1, DECODE_SEQ_STATUS_HEIGHT_M1, DECODE_SEQ_STATUS_REFS, DECODE_ERR_LAST_CODE, DECODE_ERR_LAST_ATLAS, DECODE_ERR_LAST_PLANE, DECODE_ERR_LAST_CTU_ADDR, DECODE_ERR_FRAME_FRAME_LO, DECODE_COUNTS_CONCEALED, DECODE_COUNTS_SYNTHETIC, DECODE_LOAD_LOAD_PCT, DECODE_LOAD_BACKLOG]
/-- The fields of block 7, DECODE (R11). -/
def fieldsDECODE : List Fld := fieldsDECODE0

def fieldsENCODE0 : List Fld := [ENCODE_CTRL_INTRA_HOLDOFF, ENCODE_CTRL_INTRA_BOOST, ENCODE_CTRL_HASH, ENCODE_LAYER_W0_EN, ENCODE_LAYER_W0_FLOW, ENCODE_LAYER_W0_PROFILE, ENCODE_LAYER_W0_KEY_ID, ENCODE_LAYER_W0_TCOLS_M1, ENCODE_LAYER_W0_TROWS_M1, ENCODE_LAYER_W0_MIN_QP, ENCODE_LAYER_W1_RATE_KBPS, ENCODE_LAYER_STATUS_W0_BOUND_LO, ENCODE_LAYER_STATUS_W0_OWED, ENCODE_LAYER_STATUS_W1_OVERRUNS, ENCODE_LAYER_STATUS_W1_DROPS, ENCODE_TCOL_CTUS, ENCODE_TROW_CTUS, ENCODE_MAP_EN, ENCODE_MAP_LAYER, ENCODE_MAP_ATLAS, ENCODE_MAP_C0, ENCODE_MAP_C1, ENCODE_MAP_R0, ENCODE_MAP_R1, ENCODE_SPY_CTRL_SPY_EN, ENCODE_SPY_CTRL_SPY_DIV_M1, ENCODE_SPY_CTRL_SPY_KBPS, ENCODE_SPY_CTRL_SPY_IDR, ENCODE_SPY_STATUS_SENT, ENCODE_SPY_STATUS_SKIPPED]
/-- The fields of block 8, ENCODE (R11). -/
def fieldsENCODE : List Fld := fieldsENCODE0

def fieldsKILN0 : List Fld := [KILN_FRAME_CTRL_COMMIT_LEAD, KILN_FRAME_CTRL_READY_GRACE, KILN_FRAME_CTRL_MODE, KILN_FRAME_CTRL_RUNAHEAD_EN, KILN_FRAME_CTRL_PACE, KILN_LIVE_CTRL_LIVE_TAIL, KILN_FRAME_STATUS_DIRECT, KILN_FRAME_STATUS_REPEATED, KILN_FRAME_STATUS_RUNAHEAD, KILN_FRAME_STATUS_LIVE_WAIT, KILN_FRAME_STATUS_DEPTH_LIMIT, KILN_FRAME_STATUS_ACTIVE_SLOTS, KILN_FRAME_STATUS_BANDS_PCT, KILN_FRAME_NOW_HI_FRAME_HI, KILN_FRAME_NOW_LO_FRAME_LO, KILN_REFIRE_COUNT_BANDS_LAST, KILN_REFIRE_COUNT_TOTAL, KILN_SLOT_W0_SLOT, KILN_SLOT_W0_ATLAS, KILN_SLOT_W0_POLICY, KILN_SLOT_W0_STALE_LIMIT, KILN_SLOT_W0_PRIO, KILN_SLOT_W0_RANK, KILN_SLOT_W0_EDGE, KILN_SLOT_W0_LIVE, KILN_SLOT_W0_TAINT, KILN_SLOT_W0_KEEP, KILN_SLOT_W0_ACONST, KILN_SLOT_W0_ALPHA_CONST, KILN_SLOT_W1_ATLAS_X, KILN_SLOT_W1_ATLAS_Y, KILN_SLOT_W2_W_M1, KILN_SLOT_W2_H_M1, KILN_SLOT_W2_PRE_LUT, KILN_SLOT_W3_U0, KILN_SLOT_W4_V0, KILN_SLOT_W5_SCALE, KILN_SLOT_W5_DISP_H, KILN_SLOT_W6_DISP_V, KILN_SLOT_W7_SRC]
def fieldsKILN1 : List Fld := [KILN_SLOT_W7_SURF_ID, KILN_SLOT_W8_SAMPLED, KILN_SLOT_W8_DROPPED, KILN_SLOT_W8_TRANSPARENT, KILN_SLOT_W8_PICTURE, KILN_SLOT_W8_TORN, KILN_SLOT_W8_TAINTED, KILN_SLOT_W8_HELD, KILN_SLOT_W8_ORDER_POS, KILN_SLOT_W9_PIC_FRAME, KILN_SLOT_W10_BLENDS, KILN_BLEND_CTRL_TERM_SHIFT, KILN_BLEND_CTRL_ORDER, KILN_BG_RG_BG_R, KILN_BG_RG_BG_G, KILN_BG_B_BG_B, KILN_SLOT_SET_SET, KILN_VIEW_SEL_IN_FORCE, KILN_GRID_HW_M1, KILN_GRID_HH_M1, KILN_GRID_VW_M1, KILN_GRID_VH_M1, KILN_MOUNT_MIRROR, KILN_MOUNT_ROT, KILN_BAND_CTRL_BAND_MAX, KILN_BAND_STATUS_BAND_ROWS, KILN_BAND_STATUS_BANDS, KILN_BAND_STATUS_SHELF_WORDS, KILN_BLENDS_LAST_BLENDS, KILN_LUT_STATUS_IN_USE, KILN_LUT_STATUS_PENDING, KILN_SURF_W0_BASE, KILN_SURF_W1_CRUMB, KILN_SURF_W1_W_M1, KILN_SURF_W1_H_M1, KILN_SURF_W2_STRIDE_M1, KILN_SURF_W2_SECTORS, KILN_SURF_W3_DEFINED, KILN_SURF_W3_SEALED, KILN_SURF_W3_RELEASING]
def fieldsKILN2 : List Fld := [KILN_SURF_W3_WRITING, KILN_SURF_W3_INVALID, KILN_SURF_W3_FORCED, KILN_SURF_W3_LAST_USE, KILN_CONCEAL_SECTORS, KILN_CONCEAL_BLOCKS, KILN_WRITE_QUEUE_QUEUED]
/-- The fields of block 9, KILN (R11). -/
def fieldsKILN : List Fld := fieldsKILN0 ++ fieldsKILN1 ++ fieldsKILN2

def fieldsGLAZE0 : List Fld := [GLAZE_CTRL_POST_LUT, GLAZE_CTRL_TEMPORAL, GLAZE_CTRL_DITHER_EN, GLAZE_BRT_BRT, GLAZE_BRT_CROSSOVER, GLAZE_BRT_CUR_MIN, GLAZE_AGING_CTRL_HEADROOM, GLAZE_AGING_CTRL_AGE_EN, GLAZE_FRAME_STATE_BRT_EFF, GLAZE_FRAME_STATE_STEP, GLAZE_FRAME_STATE_COOLED, GLAZE_FRAME_STATE_AMBIENT, GLAZE_SAT_MATRIX, GLAZE_SAT_GAIN, GLAZE_AGING_STATUS_CLIPPED, GLAZE_CTX_STATUS_PENDING, GLAZE_CTX_STATUS_COPYING, GLAZE_CTX_STATUS_PARITY_CTX, GLAZE_CTX_STATUS_PARITY_COUNT, GLAZE_CTX_FRAME_PEND_FRAME, GLAZE_LUT_STATUS_IN_USE, GLAZE_LUT_STATUS_PENDING, GLAZE_ZONE_CONE, GLAZE_ZONE_ENTRY_LO, GLAZE_ZONE_ENTRY_HI, GLAZE_ZONE_WEIGHT, GLAZE_ZONE_CLAMPED, GLAZE_ZONE_NONE, GLAZE_SETLIST_EN, GLAZE_SETLIST_SLOT, GLAZE_SETLIST_TREF, GLAZE_SLOT_LOADED, GLAZE_SLOT_COUNT_M1, GLAZE_SLOT_IN_USE, GLAZE_SLOT_PENDING]
/-- The fields of block 10, GLAZE (R11). -/
def fieldsGLAZE : List Fld := fieldsGLAZE0

def fieldsEMIT0 : List Fld := [EMIT_SCAN_CTRL_COMMONS_M1, EMIT_SCAN_CTRL_SUB32, EMIT_SCAN_CTRL_LINE_CLKS, EMIT_SCAN_CTRL_SCAN_PHASE, EMIT_HEAD_CTRL_HEAD_B, EMIT_HEAD_CTRL_NL_M1, EMIT_HEAD_CTRL_SPLIT, EMIT_HEAD_CTRL_TE_SEL, EMIT_HEAD_CTRL_TE_TIMEOUT, EMIT_HEAD_CTRL_ECHO_EN, EMIT_HEAD_CTRL_TTH_LANE, EMIT_HEAD_CTRL_TTH_COMMON, EMIT_HEAD_CTRL_SCAN_EN, EMIT_UPDATE_CTRL_PARTIAL_EN, EMIT_UPDATE_CTRL_REFRESH_EVERY, EMIT_UPDATE_CTRL_FULL_NEXT, EMIT_UPDATE_CTRL_FREEZE_FRAMES, EMIT_SWAP_STATUS_OUTCOME, EMIT_SWAP_STATUS_TE_OFFSET, EMIT_SWAP_STATUS_INFLIGHT_A, EMIT_SWAP_STATUS_INFLIGHT_B, EMIT_SWAP_STATUS_FRAME_LO, EMIT_RECT_W0_VALID, EMIT_RECT_W0_WAITING, EMIT_RECT_W0_X0, EMIT_RECT_W0_W_M1, EMIT_RECT_W0_Y0, EMIT_RECT_W0_H_M1, EMIT_RECT_W1_WORDS_LEFT, EMIT_RECT_W1_FRAME_LO, EMIT_DRAW_REGION_W0_EN, EMIT_DRAW_REGION_W0_FREEZE_EN, EMIT_DRAW_REGION_W0_X0, EMIT_DRAW_REGION_W0_X1, EMIT_DRAW_REGION_W0_Y0, EMIT_DRAW_REGION_W0_Y1, EMIT_DRAW_REGION_W1_SIG, EMIT_FREEZE_FROZEN, EMIT_READBACK_MISMATCH, EMIT_READBACK_FAILED]
def fieldsEMIT1 : List Fld := [EMIT_DRIVE_CONE_W0_BLANK_CLKS, EMIT_DRIVE_CONE_W0_PRECHG_CLKS, EMIT_DRIVE_CONE_W0_PLACE, EMIT_DRIVE_CONE_W1_PRE_R, EMIT_DRIVE_CONE_W1_PRE_G, EMIT_DRIVE_CONE_W1_PRE_B, EMIT_DRIVE_CONE_W2_I_R, EMIT_DRIVE_CONE_W2_I_G, EMIT_DRIVE_CONE_W2_I_B, EMIT_DRIVE_CONE_W3_I_R, EMIT_DRIVE_CONE_W3_I_G, EMIT_DRIVE_CONE_W3_I_B, EMIT_DRIVE_CONE_W4_I_R, EMIT_DRIVE_CONE_W4_I_G, EMIT_DRIVE_CONE_W4_I_B, EMIT_DRIVE_CONE_W5_I_R, EMIT_DRIVE_CONE_W5_I_G, EMIT_DRIVE_CONE_W5_I_B, EMIT_DRIVE_CONE_W6_I_R, EMIT_DRIVE_CONE_W6_I_G, EMIT_DRIVE_CONE_W6_I_B, EMIT_DRIVE_CONE_W7_I_R, EMIT_DRIVE_CONE_W7_I_G, EMIT_DRIVE_CONE_W7_I_B, EMIT_DRIVE_CONE_W8_I_R, EMIT_DRIVE_CONE_W8_I_G, EMIT_DRIVE_CONE_W8_I_B, EMIT_DRIVE_CONE_W9_I_R, EMIT_DRIVE_CONE_W9_I_G, EMIT_DRIVE_CONE_W9_I_B, EMIT_DRIVE_CONE_W10_I_R, EMIT_DRIVE_CONE_W10_I_G, EMIT_DRIVE_CONE_W10_I_B, EMIT_DRIVE_CONE_W11_I_R, EMIT_DRIVE_CONE_W11_I_G, EMIT_DRIVE_CONE_W11_I_B, EMIT_DRIVE_CONE_W12_I_R, EMIT_DRIVE_CONE_W12_I_G, EMIT_DRIVE_CONE_W12_I_B, EMIT_DRIVE_CONE_W13_I_R]
def fieldsEMIT2 : List Fld := [EMIT_DRIVE_CONE_W13_I_G, EMIT_DRIVE_CONE_W13_I_B, EMIT_DRIVE_CONE_W14_I_R, EMIT_DRIVE_CONE_W14_I_G, EMIT_DRIVE_CONE_W14_I_B, EMIT_DRIVE_CONE_W15_I_R, EMIT_DRIVE_CONE_W15_I_G, EMIT_DRIVE_CONE_W15_I_B, EMIT_DRIVE_CONE_W16_I_R, EMIT_DRIVE_CONE_W16_I_G, EMIT_DRIVE_CONE_W16_I_B, EMIT_DRIVE_CONE_W17_I_R, EMIT_DRIVE_CONE_W17_I_G, EMIT_DRIVE_CONE_W17_I_B, EMIT_FAULT_CTRL_FILL_SHARE, EMIT_FAULT_CTRL_CLEAR_MAPS, EMIT_FAULT_CTRL_PROBE_EN, EMIT_FAULT_STATUS_ENTRIES, EMIT_FAULT_STATUS_STRING_FAILED, EMIT_FAULT_STATUS_PROBING, EMIT_FD_GROUP_WHOLE, EMIT_FD_GROUP_LATCH, EMIT_FD_GROUP_DARK, EMIT_FD_GROUP_BLANKING, EMIT_FD_GROUP_FAULTS, EMIT_PAT_W0_EFFECT, EMIT_PAT_W0_MAIN, EMIT_PAT_W0_DIR, EMIT_PAT_W0_SRC, EMIT_PAT_W0_WIDTH, EMIT_PAT_W0_PERIOD, EMIT_PAT_W1_X0, EMIT_PAT_W1_X1, EMIT_PAT_W1_Y0, EMIT_PAT_W1_Y1, EMIT_PAT_W2_COLOUR_A, EMIT_PAT_W3_COLOUR_B, EMIT_PAT_PALETTE_COLOUR, EMIT_AUX_EN, EMIT_AUX_ENGINE]
def fieldsEMIT3 : List Fld := [EMIT_AUX_COMP, EMIT_AUX_STEP_MIN, EMIT_AUX_CROSSOVER, EMIT_AUX_STEP, EMIT_AUX_DUTY]
/-- The fields of block 11, EMIT (R11). -/
def fieldsEMIT : List Fld := fieldsEMIT0 ++ fieldsEMIT1 ++ fieldsEMIT2 ++ fieldsEMIT3

def fieldsSTAMP0 : List Fld := [STAMP_SRC_W0_KIND, STAMP_SRC_W0_FMT, STAMP_SRC_W0_ID, STAMP_SRC_W0_STRIDE, STAMP_SRC_W1_BASE, STAMP_SRC_W2_X, STAMP_SRC_W2_Y, STAMP_DST_W0_KIND, STAMP_DST_W0_FMT, STAMP_DST_W0_ID, STAMP_DST_W0_STRIDE, STAMP_DST_W1_BASE, STAMP_DST_W2_X, STAMP_DST_W2_Y, STAMP_SIZE_W_M1, STAMP_SIZE_H_M1, STAMP_FG_FG, STAMP_BG_BG, STAMP_WMASK_WMASK, STAMP_CTRL_OP, STAMP_CTRL_ROP, STAMP_CTRL_XDIR, STAMP_CTRL_YDIR, STAMP_CTRL_BG_SKIP, STAMP_CTRL_WAIT, STAMP_CTRL_FORCE, STAMP_CTRL_WM_STEP, STAMP_STATUS_STATE, STAMP_STATUS_HELD, STAMP_STATUS_OVERLAP_HAZARD, STAMP_STATUS_ERR, STAMP_PROGRESS_ROWS]
/-- The fields of block 12, STAMP (R11). -/
def fieldsSTAMP : List Fld := fieldsSTAMP0

def fieldsDEFLATE0 : List Fld := [DEFLATE_STATUS_STATE, DEFLATE_STATUS_JOB, DEFLATE_STATUS_HELD, DEFLATE_STATUS_BUFS, DEFLATE_STATUS_ERR, DEFLATE_IN_IN_DONE, DEFLATE_OUT_OUT_DONE, DEFLATE_ERR_AT_OFFSET]
/-- The fields of block 13, DEFLATE (R11). -/
def fieldsDEFLATE : List Fld := fieldsDEFLATE0

/-- The fields of a block by its number (R11). -/
def blockFields : Nat → List Fld
  | 0 => fieldsMGMT
  | 1 => fieldsSECURE
  | 2 => fieldsHEARTH
  | 3 => fieldsCLOCK
  | 4 => fieldsTIME
  | 5 => fieldsLINK
  | 6 => fieldsMEMORY
  | 7 => fieldsDECODE
  | 8 => fieldsENCODE
  | 9 => fieldsKILN
  | 10 => fieldsGLAZE
  | 11 => fieldsEMIT
  | 12 => fieldsSTAMP
  | 13 => fieldsDEFLATE
  | _ => []

end Sys2Proof.Machine
end

