-- ==== Sys2Proof/Machine/State.lean ====
section
/-! DEFINITION. The state of the KQ-3640 as plain data: one register file for every field of the field tables (R4–R10), and,
block by block, the state the spec gives the machine outside its registers; the queue of waiting commands; what the last
command sent out. Sparse arrays are lists in canonical form (Machine/Sparse.lean). -/

namespace Sys2Proof.Machine

/-- Where an output goes out. -/
inductive OutKind where
  /-- a command reply (R420); destination: transport, address, port -/
  | reply
  /-- a datagram from CMD_PORT to an event destination (R436) -/
  | eventDgram
  /-- a Cawell packet put on an output port's queue (R278); destination: the port -/
  | cawell
  /-- a port superblock sent on a Cawell port (R257, R273, R276); destination: the port and its type -/
  | slot
  /-- the words of a superblock sent on an emitter lane (R226); destination: the lane and the marker type -/
  | emit
  /-- a peer message (R315); destination: the path -/
  | peer
  /-- an Ethernet packet of the network or PTP (R303, R355); destination: the protocol -/
  | net
  /-- bytes clocked out of the SPI port (R427) -/
  | spi
  /-- the level of an output pin; destination: the pin -/
  | pin
  /-- a PMBus or I2C transfer (R416) -/
  | bus
  /-- a DRAM command (R383–R392) -/
  | dram
  deriving DecidableEq, Repr

/-- Something the device sent while it executed the last command. -/
structure Output where
  kind : OutKind
  dst : List Nat
  words : List Word
  deriving DecidableEq, Repr

/-- Who is owed a completion reply after ACCEPTED (R420). -/
structure Req where
  src : Source
  opcode : Nat
  tag : Nat
  deriving DecidableEq, Repr

/-- The input pins as they stand (R13, R427, R518, R526). -/
structure Pins where
  /-- ROLE[1:0] (R14) -/
  role : Nat
  /-- BOARD_TYPE[3:0] -/
  board : Nat
  /-- CLAIM_N is low -/
  claim : Bool
  /-- RST_N is low -/
  rst : Bool
  /-- PGOOD_IO, PGOOD_CORE, PGOOD_LANE, PGOOD_DRAM -/
  pgood : List Bool
  /-- PEER_ALIVE_OUT, as last driven (R314) -/
  alive : Bool
  /-- COM_BLANK held high by AON (R498, R529) -/
  aonBlank : Bool
  /-- DRAM_RESET_N held low by AON (R529) -/
  dramReset : Bool
  deriving DecidableEq, Repr

/-! Commands, events, log, bakes (spec/18). -/

/-- An entry of the reply cache (R423). -/
structure CacheEntry where
  src : Source
  opcode : Nat
  tag : Nat
  crc : Nat
  at_ : Nat
  code : Nat
  detail : Nat
  words : List Word
  /-- a reply has been sent for it -/
  sent : Bool
  deriving DecidableEq, Repr

/-- An entry of the log (R437). -/
structure LogEntry where
  event : Nat
  sw : Bool
  count : Nat
  lseq : Nat
  sec : Nat
  ns : Nat
  deriving DecidableEq, Repr

/-- The command interpreter (R421–R428). -/
structure CmdState where
  /-- the last 64 commands executed, newest first (R423) -/
  cache : List CacheEntry
  /-- replies queued on the SPI port, oldest first, at most 16 (R427) -/
  spiQ : List (List Word)
  /-- SAFE_DARK in force (R428) -/
  dark : Bool
  /-- a SAFE_DARK change that waits for the next line start (R428) -/
  darkNext : Option Bool
  deriving DecidableEq, Repr

/-- The event fabric and the log (R432–R437). -/
structure EvtState where
  /-- sources that sent an event packet in this tick (R433) -/
  sent : List Nat
  /-- sources that wrote a log entry in this tick (R433) -/
  logged : List Nat
  /-- events limited to one per tick and element that were raised in this tick: event × 64 + element -/
  once : List Nat
  /-- event 25 was raised in this tick (R437) -/
  dropped : Bool
  /-- the queue of BEACON packets, at most 64 (R435) -/
  beaconQ : List (List Word)
  /-- admitted log entries not yet in flash (R437) -/
  logQ : List LogEntry
  /-- entry place of the flash ring that is written next, 0–232,447 (R437) -/
  logPlace : Nat
  /-- fill of the token bucket in units of 1/100,000,000 entry (R437) -/
  tokens : Nat
  /-- `now` at the bucket's last refill (R437) -/
  filled : Nat
  /-- a clock, as `now`, and what the fabric did in it (R6): an event number for each occurrence, 2,048 + block for each loss that a
  MISS bit tells of, 4,096 for each entry dropped -/
  fresh : Nat × List Nat
  deriving DecidableEq, Repr

/-- The pending bake's list and what the stamp machinery holds (R438–R448). -/
structure BakeState where
  /-- writes of the pending bake in the order of their acceptance (R438, R439) -/
  writes : List (Nat × Word)
  /-- who is owed the completion of BAKE_CLOSE (R438) -/
  req : Option Req
  /-- the stamp of the last tick: shared half, tile half, tick (R443) -/
  stamp : Nat × Nat × Nat
  /-- epoch and stamp announced in C8–C10 (R444): epoch, shared, tile -/
  beacon : Nat × Nat × Nat
  /-- tick of the last event 12 (R448) -/
  behindAt : Option Nat
  deriving DecidableEq, Repr

/-! Start-up, resets, power (spec/21, spec/22). -/

/-- An OWNER_FLASH_WRITE: direction, offset, sector, bytes; the surfaces it writes; whether it waits behind another write to one of
them (R150); the requester (R537). -/
structure OwnFlash where
  toDram : Bool
  off : Nat
  sector : Nat
  bytes : Nat
  ids : List Nat
  waits : Bool
  req : Req
  deriving DecidableEq, Repr

/-- The start-up sequence and the power states (R498–R520, R526, R527). -/
structure StartState where
  /-- VDD_AON lies within its limits (R12, R526) -/
  powered : Bool
  /-- the device is held in reset by RST_N or a power-good input (R509, R527) -/
  held : Bool
  /-- a power-good input fell, and the device waits for all of them (R527) -/
  railFell : Bool
  /-- event 35 has been raised since the start (R502) -/
  late : Bool
  /-- only the AON domain is powered (R517) -/
  cold : Bool
  /-- the straps have been sampled since the start (R13) -/
  sampled : Bool
  /-- class W state was lost in the reset of this start (R504, R519) -/
  wLost : Bool
  /-- `now` at the start of the timeline (R499) -/
  began : Nat
  /-- the boot ROM has chosen a slot that verifies (R474) -/
  bootOk : Bool
  /-- `now` at the MP's start (R501) -/
  mpAt : Nat
  /-- a soft reset bound to a tick: mask, tick (R511) -/
  soft : Option (Nat × Nat)
  /-- blocks of a partial soft reset that have not come back (R512) -/
  softOut : Nat
  /-- a POWER_STATE bound to a tick: state, tick, snapshot (R513) -/
  power : Option (Nat × Nat × Bool)
  /-- event 38 is owed when the MP runs (R518) -/
  woke : Bool
  /-- event 153 is owed at this start (R404) -/
  dieStart : Bool
  /-- EMIT owes CONFIG, ZONEMAP, the 16 TABLE packets and a whole frame before the next SWAP (R520) -/
  resend : Bool
  /-- the step of the bisque image in use, where one verified (R504, R505) -/
  bisque : Option Nat
  /-- the hogel map of the bisque image: context and palette index (R503) -/
  bisMap : List (Nat × Nat)
  /-- the words of EMIT_PAT as the image's register list leaves them (R252) -/
  bisPats : List Word
  /-- the memory record in use, one word per grade (R503, R504) -/
  memRec : List Word
  /-- BISQUE_WRITE in progress: part, sector, words, requester (R508) -/
  bisWrite : Option (Nat × Nat × Nat × Req)
  /-- OWNER_FLASH_WRITE accepted, oldest first (R537) -/
  ownFlash : List OwnFlash
  /-- SHOW or RELEASE takes effect at the next tick (R507) -/
  showNext : Option Bool
  /-- ticks until the exit from banked that a WAKE asked for (R515) -/
  wakeExit : Option Nat
  /-- the tick that ended banked; firing resumes two ticks later (R515) -/
  exitTick : Option Nat
  deriving DecidableEq, Repr

/-! Security and update (spec/19). -/

/-- One owner slot of OTP (R456). -/
structure OwnerSlot where
  hash : BitVec 384
  complete : Bool
  deriving DecidableEq, Repr

/-- A credential of the sealed store (R461, R462): the private key, the generation, NOT_AFTER and the chain presented. -/
structure Cred where
  mgr : Bool
  gen : Nat
  notAfter : Nat
  legacy : Bool
  key : Nat
  chain : List Word
  deriving DecidableEq, Repr

/-- A content key of the sealed store (R463). -/
structure ContentKey where
  keyId : Nat
  untilSec : Nat
  key : List Byte
  deriving DecidableEq, Repr

/-- The sealed store, one copy and its sequence number (R459). -/
structure SealedStore where
  seq : Nat
  creds : List Cred
  keys : List ContentKey
  floors : List Nat
  cosign : Bool
  /-- the current owner came by OWNER_TRANSFER, so that credentials of the owner before still serve link sessions (R458) -/
  transferred : Bool
  deriving DecidableEq, Repr

/-- The ephemeral key of the last ATTEST with EPH = 1 (R460). -/
structure Ephemeral where
  key : Nat
  report : List Word
  at_ : Nat
  deriving DecidableEq, Repr

/-- The link session of one port (R465, R467). -/
structure LinkSession where
  /-- the session has begun on this port since it came up -/
  begun : Bool
  /-- own nonce sent with L_HELLO -/
  own : Nat
  /-- the far end's nonce -/
  far : Option Nat
  /-- `now` when the port became PENDING -/
  since : Nat
  deriving DecidableEq, Repr

/-- A host session (R468, R469). -/
structure HostSession where
  used : Bool
  qh : List Word
  qd : List Word
  key : Nat
  /-- highest CTR accepted, plus one -/
  ctrUp : Nat
  ctrDown : Nat
  lastUse : Nat
  opened : Nat
  deriving DecidableEq, Repr

/-- The boot record of flash (R474). -/
structure BootRecord where
  active : Bool
  trial : Bool
  tries : Nat
  seq : Nat
  deriving DecidableEq, Repr

/-- SECURE: OTP, the sealed store, sessions, the update path (R450–R476). -/
structure SecState where
  /-- revocation bits of the vendor roots (R450) -/
  revoked : Nat
  /-- owner slots written or spoiled, slot 1 first (R456) -/
  slots : List OwnerSlot
  /-- set anti-rollback bits (R473) -/
  svnBits : Nat
  /-- the newer copy of the sealed store (R459) -/
  store : SealedStore
  eph : Option Ephemeral
  links : List LinkSession
  hosts : List HostSession
  /-- the sealing and attestation key paths are disabled (R471) -/
  pathsOff : Bool
  boot : BootRecord
  /-- UPDATE_STAGE in progress: sector, words, requester (R475) -/
  staging : Option (Nat × Nat × Req)
  /-- events owed when the MP runs (R474, R476) -/
  bootEvents : List Nat
  /-- `now` at the first LINK_AUTH report that a census waits for (R465) -/
  censusAt : Option Nat
  /-- REFCLK cycles of glost time in TRIAL since the start (R476) -/
  trialGlost : Nat
  /-- draws taken from the generator (R451) -/
  draws : Nat
  deriving DecidableEq, Repr

/-! Time and clocks (spec/15). -/

/-- A pending TIME_SCHEDULE of CURRENT = 0 (R363). -/
structure Sched where
  k : Nat
  setAnchor : Bool
  time : Nat
  num : Nat
  den : Nat
  deriving DecidableEq, Repr

/-- TIME: bases, servos, tick generator, capture (R347–R369). -/
structure TimeState where
  /-- TB0–TB2 in units of 2^-32 ns (R349) -/
  tb : List Nat
  /-- the servo's i of each base (R350) -/
  integ : List Int
  /-- the last 64 values of i of each base, newest first (R359) -/
  hist : List (List Int)
  /-- consecutive offsets below LOCK_NS (R351) -/
  good : List Nat
  /-- consecutive offsets above 4 × LOCK_NS (R351) -/
  bad : List Nat
  /-- Vb of the last accepted exchange, or a master is selected, for TB0 and TB1 (R357) -/
  refOk : List Bool
  /-- `now` of the last offset of each base (R357) -/
  fedAt : List Nat
  /-- number of the last tick generated (R362) -/
  last : Nat
  /-- a tick has been generated since reset -/
  ticked : Bool
  /-- the source has stepped since the last tick (R368) -/
  stepped : Bool
  /-- pending TIME_SCHEDULE changes, at most eight (R363) -/
  scheds : List Sched
  /-- a CURRENT = 1 schedule was taken since the last tick (R363) -/
  jump : Bool
  /-- pending TIME_PHASE: K, PHI_K, TARGET (R367) -/
  phase : Option (Nat × Int × Int)
  /-- consecutive ticks for which TB0 has been valid, to 1,024 (R358) -/
  tb0Run : Nat
  /-- TB0 and TB1 differ by more than DOM_TOL (R358) -/
  split : Bool
  /-- SYNC_IN demand in force (R366) -/
  demand : Option Int
  /-- the last expected instant that an edge matched (R366) -/
  syncK : Option Nat
  /-- the last demand sent in TIME_PHASE, and its tick (R366) -/
  sentD : Option (Int × Nat)
  /-- capture FIFOs of SYNC_IN and EVT_N: stamps in 1/16,384 ns, oldest first (R354) -/
  fifo : List (List Nat)
  /-- armed clock outputs (R376) -/
  armed : List Bool
  /-- clock outputs aligned to subfield 0 that re-align without a new ARM (R376) -/
  realign : List Bool
  /-- synthesisers whose relock runs (R374) -/
  relocking : List Bool
  /-- COM_BLANK is held high by a clock or phase rule (R369, R370, R372, R374) -/
  blank : Bool
  /-- COM_BLANK is to be held high from the subfield 0 start that the scan would have made before a jump (R369) -/
  blankNext : Bool
  /-- the outputs of the synthesisers are stopped (R370) -/
  stopped : Bool
  /-- TB0 and TB1 have been valid since reset (R361) -/
  ever : List Bool
  /-- `now` of the last edge captured on SYNC_IN and EVT_N (R354) -/
  capAt : List (Option Nat)
  /-- event 240 has been raised for the edges missing now (R366) -/
  syncLost : Bool
  /-- the divider offset SYN-F moves toward, in 1/16 ppm (R372) -/
  pullTo : Int
  deriving DecidableEq, Repr

/-! Cawell links and the census (spec/12). -/

/-- A packet that waits on an output port or for its acknowledgement: its channel, its words up to the payload's end, the
`now` at which it joined the queue, the sequence number it holds, and whether it leaves with STOMP (R278, R280, R281). -/
structure Queued where
  vc : Nat
  words : List Word
  since : Nat
  seq : Option Nat
  stomp : Bool
  /-- the input port in whose channel buffer a packet waits that is passed on, and the number by which its copies are known (R284) -/
  buf : Option (Nat × Nat)
  deriving DecidableEq, Repr

/-- The state of one Cawell port beyond its registers (R274–R283). -/
structure Port where
  /-- undamaged CTRL superblocks received in HELLO (R274) -/
  hello : Nat
  /-- `now` of the last undamaged CTRL superblock (R274, R275) -/
  ctrlAt : Nat
  /-- packets waiting for this output (R280) -/
  txq : List Queued
  /-- the packet being sent: its remaining words (R278) -/
  sending : List Word
  /-- the next retried SEQ to send (R281) -/
  txSeq : Nat
  /-- retried packets not yet acknowledged, oldest first (R281) -/
  replay : List Queued
  /-- `now` of the last advance of ACK_SEQ (R281) -/
  ackAt : Nat
  /-- consecutive replays without an advance of ACK_SEQ (R282) -/
  replays : Nat
  /-- the SEQ expected next (R281) -/
  rxSeq : Nat
  /-- a retried packet has been received in order since UP -/
  rxAny : Bool
  /-- NAK is set toward the far end (R281) -/
  nak : Bool
  /-- words of the packet being received -/
  rxWords : List Word
  /-- words freed in the receive buffers of channels 0–4 (R276) -/
  freed : List Nat
  /-- the far end's cumulative credits (R276, R283) -/
  cred : List Nat
  /-- words sent on channels 0–4 (R283) -/
  sentW : List Nat
  /-- WAKE superblocks are sent until this `now`, and who is owed the completion (R277) -/
  wakeEnd : Option (Nat × Option Req)
  /-- a LINK_RESET that this port carried waits for its reply to leave (R295) -/
  resetDue : Bool
  /-- slots since the last CTRL superblock (R276) -/
  sinceCtrl : Nat
  /-- an acknowledgement or credit return waits (R276) -/
  owe : Bool
  /-- C6–C11 of the far end's last CTRL superblock (R276) -/
  far : List Word
  /-- event 269 was raised since the primary port went down (R299) -/
  rerouted : Bool
  /-- LRESET superblocks still to send (R294), ALIGN superblocks still to send (R265) -/
  lreset : Nat
  align : Nat
  deriving DecidableEq, Repr

/-- The time exchange in progress on the time-upstream port (R298). -/
structure Exchange where
  port : Nat
  num : Nat
  /-- t1–t4 on TB0 and TB1 in 1/16,384 ns -/
  t1 : List Nat
  t2 : List Nat
  t3 : List Nat
  t4 : List Nat
  /-- V0 and V1 of the responder -/
  v : List Bool
  /-- `now` at which T_RESP arrived -/
  respAt : Option Nat
  deriving DecidableEq, Repr

/-- LINK beyond its registers (R273–R298). -/
structure LinkState where
  ports : List Port
  /-- the last CNUM taken from manager A and from manager B (R288) -/
  cnum : List (Option Nat)
  /-- the census nonce announced in C7 (R288) -/
  nonce : Nat
  /-- a census reply owed: requester, HOPS on arrival, `now` at which it is due (R288) -/
  census : Option (Req × Nat × Nat)
  /-- the wall map verified last (R291, R292); a manager's is the one its census places by -/
  map : List Word
  /-- the last map was refused (R292) -/
  mapBad : Bool
  exchange : Option Exchange
  /-- the number of the next exchange -/
  exchNum : Nat
  /-- delays of the last 16 exchanges on the port, newest first, in 1/16 ns, and the port (R298) -/
  delays : List Int
  delayPort : Nat
  /-- `now` of the last successful exchange, and at which the last one was begun (R298) -/
  exchAt : Nat
  exchBegan : Nat
  /-- the number of the next packet passed on -/
  bufNext : Nat
  deriving DecidableEq, Repr

/-! The manager role (spec/13). -/

/-- The manager's view of one worker: its position, stream and splice state (R304–R309). -/
structure Worker where
  x : Nat
  y : Nat
  rot : Nat
  nonce : Nat
  /-- port of the manager behind which the census found it -/
  port : Nat
  ssrc : Option Nat
  /-- next RTP sequence number to forward (R306) -/
  rtpNext : Nat
  /-- RTP packets held for reordering: sequence number, WORD_OFFSET, words (R306) -/
  window : List (Nat × Nat × List Word)
  /-- fill of the two policing buckets in tenths of a bit, and `now` at their last refill (R305) -/
  slow : Nat
  fast : Nat
  filled : Nat
  /-- Δ of R309 -/
  delta : Nat
  /-- the offset that follows the last word sent, Δ included -/
  nextOff : Nat
  /-- the host stream's unit structure is known; words still to skip in the unit, the unit's first word seen, chunks still to
  come in the batch (R309) -/
  sync : Bool
  skip : Nat
  head : Option Word
  left : Nat
  /-- live parcels waiting for a packet boundary (R309) -/
  parcels : List (List Word)
  /-- words held for bridging: tick, offset, words (R316) -/
  held : List (Nat × Nat × List Word)
  /-- audit: last beacon (tick, epoch, shared, tile), recorded tile half, tick of the last resend (R446, R447) -/
  beacon : Option (Nat × Nat × Nat × Nat)
  tile : Option Nat
  resent : Option Nat
  /-- SEQ of the last event packet relayed (R435) -/
  seq : Nat
  deriving DecidableEq, Repr

/-- A census report received by the manager (R288). -/
structure Report where
  src : Nat × Nat
  words : List Word
  deriving DecidableEq, Repr

/-- A bake the manager forwarded (R447): epoch, tick, route, writes, and whether it was sent to all. -/
structure SentBake where
  epoch : Nat
  k : Nat
  route : Word
  writes : List (Nat × Word)
  closed : Bool
  deriving DecidableEq, Repr

/-- A live flow under ingest (R310, R311, R330): the RTP time stamp of its source frame, `now` of that frame's first packet,
the first-to-last interval of the frame before, the frame it is bound to, whether the frame is complete, the pixel groups by
index of this frame and of the one before it, and `now` at which CTU rows were ingested whole: frame, row, `now`. -/
structure Flow where
  rtpTime : Option Nat
  firstAt : Nat
  span : Nat
  bound : Option Nat
  ended : Bool
  groups : List (Nat × Nat)
  prev : List (Nat × Nat)
  rows : List (Nat × Nat × Nat)
  /-- the pixel groups of bound frames by frame, those of the frame before under what has come (R311, R332) -/
  pics : List (Nat × List (Nat × Nat))
  deriving DecidableEq, Repr

/-- A foreign master of a domain (R355): its Announce rank and the `now` of its last Announce messages, newest first, with
the announce interval in REFCLK cycles. -/
structure Foreign where
  dom : Nat
  id : Nat
  rank : List Nat
  times : List Nat
  interval : Nat
  deriving DecidableEq, Repr

/-- A Sync of a domain (R355): its sequence number, t1 when known, t2, the corrections so far, in 1/16,384 ns. -/
structure PtpSync where
  seq : Nat
  t1 : Option Nat
  t2 : Nat
  corr : Int
  deriving DecidableEq, Repr

/-- The state of the manager role (R300–R323, R446, R447). Whether it is listening, standby, bridging, active or releasing
is MGR_PAIR_STATUS.STATE. -/
structure MgrState where
  workers : List Worker
  /-- a census in progress: its number, its requester, `now` at its start, and the reports so far (R289) -/
  censusNum : Nat
  censusOpen : Bool
  censusReq : Option Req
  censusAt : Nat
  reports : List Report
  /-- outstanding tags: tag, source, `now` (R312) -/
  tags : List (Nat × Source × Nat)
  /-- own fence value: EPOCH × 2 + IDX (R313) -/
  fence : Nat
  /-- the last tick for which RENEW_WAIT has passed (R314) -/
  waited : Option Nat
  /-- paths that carried a renewal for the present tick, as PATHS; consecutive missed ticks, whole (R314, R317) -/
  heard : Nat
  missed : Nat
  /-- the peer's last RENEW: ACTIVE, RELEASE, fence value, tick (R315) -/
  peer : Option (Bool × Bool × Nat × Nat)
  /-- the peer holds the same IDX (R320) -/
  sameIdx : Bool
  /-- mirror generation sent and acknowledged, ticks without acknowledgement; the mirror held of the peer (R321) -/
  gen : Nat
  acked : Nat
  unacked : Nat
  mirror : Option (List (Nat × List Word))
  /-- parts received so far of the mirror of a generation: generation, messages, words (R321) -/
  mirrorIn : Nat × Nat × List Word
  /-- mirrors sent and not yet acknowledged, and the one acknowledged, by generation (R321) -/
  mirrorsOut : List (Nat × List (Nat × List Word))
  mirrorBase : Option (Nat × List (Nat × List Word))
  /-- the ROUTE_SET commands of the last census: route word and parameters (R293, R321) -/
  routes : List (Word × List Word)
  /-- hand-back tick H, and whether it was acknowledged; whether the RELEASE renewal of tick H was heard (R323) -/
  handback : Option (Nat × Bool)
  released : Bool
  /-- streams are forwarded up to this tick after stepping down (R323) -/
  fwdUntil : Option Nat
  /-- commands queued from tick H on (R323) -/
  held : List (Nat × Cmd)
  /-- a port of the manager went down since the last tick (R323) -/
  portFell : Bool
  /-- the selected network record was applied or found absent (R302) -/
  netDone : Bool
  bakes : List SentBake
  /-- the bake being forwarded -/
  openBake : Option SentBake
  /-- the expected shared half by epoch: epoch, half (R446) -/
  shared : List (Nat × Nat)
  /-- the last audit found every worker clean (R446) -/
  clean : Bool
  flows : List Flow
  /-- PTP: foreign masters seen, the last Sync of each domain, the Delay_Req sent (sequence number, t3), `now` of the
  last Sync and Announce of the selected master, the Delay_Req interval in REFCLK cycles, the selected master (R355) -/
  foreign : List Foreign
  sync : List (Option PtpSync)
  delayReq : List (Option (Nat × Nat))
  syncAt : List Nat
  announceAt : List Nat
  delayLog : List Nat
  master : List (Option Nat)
  /-- TAKEOVER is owed once the census before it has installed its routes (R318) -/
  claimAfterCensus : Bool
  deriving DecidableEq, Repr
/-! Slab streams and decoding (spec/03, spec/04). -/

/-- An item of the intake FIFO: a stream word, or a run of lost words (R87, R88). -/
inductive StreamItem where
  | word (w : Word)
  | gap (n : Nat)
  deriving DecidableEq, Repr

/-- A batch whose chunks are being parsed (R63, R64, R67). -/
structure OpenBatch where
  frame : Nat
  /-- chunks still to come; none after a failed header CRC: until the next marker -/
  left : Option Nat
  /-- the batch is discarded whole -/
  skip : Bool
  deriving DecidableEq, Repr

/-- The chunk sequence of a plane picture (R78): sequence 2 × atlas + plane, frame, the index expected next. -/
structure ChunkSeq where
  seq : Nat
  frame : Nat
  live : Bool
  next : Nat
  missing : Bool
  deriving DecidableEq, Repr

/-- A chunk waiting for DECODE (R96). -/
structure DecItem where
  seq : Nat
  frame : Nat
  live : Bool
  /-- it ends its plane picture's chunk sequence -/
  last : Bool
  /-- the chunk is missing or was discarded (R78); it carries nothing -/
  lost : Bool
  /-- the plane picture's chunks were all there up to here -/
  whole : Bool
  /-- the NAL units of its plaintext not yet taken (R79) -/
  nals : List (List Byte)
  deriving DecidableEq, Repr

/-- The stream parser of a worker (R59–R88). -/
structure StreamState where
  fifo : List StreamItem
  /-- the expected offset has been set since reset (R87) -/
  started : Bool
  /-- the search in progress followed a loss of alignment (R87) -/
  lossSearch : Bool
  batch : Option OpenBatch
  /-- frame of the last batch parsed (R64) -/
  last : Option Nat
  /-- frames not yet past for which a batch has been parsed (R64) -/
  parsed : List Nat
  seqs : List ChunkSeq
  queue : List DecItem
  /-- the slot set is empty from this frame on, and the frame of the batch that ended the stream (R70, R543) -/
  endAt : Option (Nat × Nat)
  /-- frame of the last applied batch -/
  applied : Nat
  deriving DecidableEq, Repr

/-- A picture of the pool (R99, R100). Samples are keyed component × 2^26 + y × 2^13 + x; an unlisted sample is 0. -/
structure Pic where
  id : Nat
  seq : Nat
  frame : Nat
  poc : Int
  cvs : Nat
  width : Nat
  height : Nat
  chroma : Nat
  depth10 : Bool
  full : Bool
  matrix : Option Nat
  complete : Bool
  tainted : Bool
  output : Bool
  ref : Bool
  latest : Bool
  comp : Bool
  frm : Bool
  /-- SEAL and its largest frame L (R147) -/
  sealAt : Option Nat
  /-- kept by its seal alone after a pool reset (R102) -/
  old : Bool
  /-- word address of its buffer and the buffer's size in words (R99) -/
  place : Nat
  room : Nat
  samples : List (Nat × Nat)
  deriving DecidableEq, Repr

/-- A plane picture being decoded (R98, R101, R106–R111). -/
structure Prog where
  frame : Nat
  head : PicHead
  /-- nal_unit_type of its slice segments -/
  type : Nat
  cvs : Nat
  /-- no buffer: the picture was dropped, discarded or skipped -/
  dropped : Bool
  live : Bool
  /-- word address of its buffer and the buffer's size in words (R99) -/
  place : Nat
  room : Nat
  /-- CTUs reconstructed -/
  done : List Nat
  /-- CTU rows after which slices are not filtered across (R98) -/
  free : List Nat
  /-- rows that are final (R98) -/
  rows : Nat
  missing : Bool
  /-- an independent slice segment was damaged: its dependents are discarded (R106) -/
  badIndep : Bool
  taintIn : Bool
  /-- the last chunk's work is done: the picture may end -/
  ending : Bool
  samples : List (Nat × Nat)
  deriving DecidableEq, Repr

/-- A synthetic picture that a sequence keeps as a reference (R110): its order count, its coded video sequence, and the picture whose
buffer it shares, none for the default fill. -/
structure Synth where
  seq : Nat
  poc : Int
  cvs : Nat
  src : Option Nat
  deriving DecidableEq, Repr

/-- DECODE beyond its registers (R91–R113); lists of eight go by sequence. -/
structure DecState where
  pics : List Pic
  synths : List Synth
  prog : List (Option Prog)
  /-- number of the coded video sequence of each sequence -/
  cvs : List Nat
  /-- picture order counts since the last IRAP picture (R107) -/
  pocs : List (List Int)
  /-- RASL pictures of the last CRA or BLA are discarded; event 479 raised for it (R112) -/
  rasl : List (Bool × Bool)
  /-- an end-of-sequence NAL unit has come since the last picture (R112) -/
  eos : List Bool
  /-- the sequence is unsupported until an IRAP picture activates another parameter set (R93) -/
  barred : List Bool
  /-- frames from which an IRAP picture is owed, none while NEED_IRAP is 0 (R64, R93, R102, R112) -/
  needAt : List (List Nat)
  /-- a chunk was lost since the last picture of the sequence was begun or ended: the next one lacks it (R76, R78) -/
  lost : List Bool
  /-- VUI of the active SPS: full range, matrix_coefficients -/
  vui : List (Bool × Option Nat)
  nextId : Nat
  /-- a write of the pool registers waits for the next tick (R102) -/
  poolPend : Bool
  /-- positions decoded since the last tick (DECODE_LOAD) -/
  positions : Nat
  deriving DecidableEq, Repr

/-! The frame tick, the Kiln, surfaces, the Glaze and EMIT (spec/02, spec/05–spec/10). -/

/-- What is bound to a frame: the slab entries of its applied batch and, in the order of acceptance, the values of its
commits (R31, R71); keys are those of the register file. -/
structure FrameInput where
  frame : Nat
  entries : Option (List (List Word))
  /-- BAKE_EPOCH of the batch that brought the entries; none for the empty set after END (R65, R70) -/
  epoch : Option Nat
  commits : List (List (Fld × Nat × Nat))
  deriving DecidableEq, Repr

/-- What a slot is for one frame (R33–R36, R113, R126, R151, R152). -/
structure SlotUse where
  ready : Bool
  /-- a live slot, whose readiness is decided per row (R46) -/
  rows : Bool
  /-- 0 none, 1 current, 2 held, 3 kept -/
  pic : Nat
  colour : Option Nat
  alpha : Option Nat
  torn : Bool
  tainted : Bool
  transparent : Bool
  dropped : Bool
  deriving DecidableEq, Repr

/-- A band of a frame (R41, R131). -/
structure Band where
  idx : Nat
  /-- rays that have not yet left the Glaze -/
  left : Nat
  /-- its rectangles have been formed, or it waits in staging: it is fired -/
  fired : Bool
  /-- the inputs it was fired on (R41) -/
  inputs : List Nat
  /-- it must be fired again -/
  stale : Bool
  /-- it has been fired before in this frame: passes add no aging (R164) -/
  again : Bool
  /-- its output was released to the lanes (R39) -/
  released : Bool
  deriving DecidableEq, Repr

/-- A composited ray on its way to the Glaze (R128): physical hogel and view, the accumulators, the band. -/
structure RayIn where
  px : Nat
  py : Nat
  pvx : Nat
  pvy : Nat
  r : Nat
  g : Nat
  b : Nat
  band : Nat
  deriving DecidableEq, Repr

/-- A zone of the Glaze set (R159, R171). -/
structure ZoneSet where
  /-- Tz in 1/16 °C -/
  tz : Int
  cone : Nat
  a : Nat
  b : Nat
  weight : Nat
  clamped : Bool
  none : Bool
  deriving DecidableEq, Repr

/-- The Glaze set of a frame (R170). -/
structure GlazeSet where
  postLut : Nat
  zones : List ZoneSet
  brtIn : Nat
  k : Nat
  d : Nat
  headroom : Nat
  ageEn : Bool
  /-- number of the bank of context words 0–1 in force at its tick -/
  bank : Nat
  deriving DecidableEq, Repr

/-- A fault entry (R243, R246): kind 1 open, 2 short, 3 found by probing; `clean` counts clean reports or probes. -/
structure FaultEntry where
  lane : Nat
  colour : Nat
  kind : Nat
  tth : Bool
  addr : Nat
  clean : Nat
  deriving DecidableEq, Repr

/-- The fault set and the pattern settings latched for a frame (R247). -/
structure FaultSet where
  entries : List FaultEntry
  failed : Nat
  dark : List Nat
  whole : Bool
  /-- the words of EMIT_PAT and EMIT_PAT_PALETTE -/
  pats : List Word
  palette : List Word
  deriving DecidableEq, Repr

/-- A frame in work: from its first input to its SWAP, ABANDON or repeat. -/
structure FireFrame where
  frame : Nat
  /-- the commit-class fields in force for it (R540) -/
  copy : RegFile
  /-- the descriptor generation of each slot in that copy (R41) -/
  gens : List Nat
  decided : Bool
  repeated : Bool
  /-- stopped in direct firing mode (R45) -/
  stopped : Bool
  uses : List SlotUse
  order : List Nat
  /-- BAND_ROWS, 0 before the first band -/
  rows : Nat
  half : Bool
  bands : List Band
  queue : List RayIn
  /-- ray words of the image, by physical ray number (R215) -/
  rays : List (Nat × Word)
  set : Option GlazeSet
  /-- the aging model latched at the first band: K and NORM (R187); tables by reference to their copy -/
  model : Option (List Nat)
  loss : List (Nat × Nat)
  /-- fault set of the frame -/
  faults : Option FaultSet
  /-- code sums by 3 × context + colour (R182) -/
  sums : List (Nat × Nat)
  /-- rays of each hogel still to come in first firing -/
  toCome : List (Nat × Nat)
  /-- aging gains applied in the present pass, by 3 × context + colour (R164) -/
  ag : List (Nat × Nat)
  /-- events raised once per frame that have been raised -/
  once : List Nat
  /-- blends of the frame in units of 8, and by slot (R134) -/
  blends : Nat
  slotBlends : List Nat
  /-- hogels whose rays have all left the Glaze in first firing (R164, R189) -/
  hogels : Nat
  /-- hogels that took an increment, the sum of their code sums by colour, and of their G (R189) -/
  aged : Nat
  agedSum : List Nat
  gSum : List Nat
  gMax : List Nat
  /-- colours of each hogel whose G exceeded HEADROOM in first firing, by context (R163) -/
  clips : List (Nat × Nat)
  /-- regions advanced (R223) -/
  advanced : List Nat
  /-- packets other than RECT and ROW still to send: lane and packet words -/
  packets : List (Nat × List Word)
  /-- STEP and what goes with it has been sent (R220, R240) -/
  prep : Bool
  /-- cells whose signature has been held against the driver image since the last invalidation (R216, R217) -/
  seen : List Nat
  /-- cells in rectangles formed for the frame (R42) -/
  rected : List Nat
  /-- lines of each live slot's picture that were final at LIVE_CUTOFF, by slot (R46, R47) -/
  live : List (Nat × Nat)
  /-- LIVE_CUTOFF has passed -/
  cut : Bool
  /-- entries of a batch were applied for the frame (R70) -/
  batch : Bool
  /-- a WAIT slot that is not ready repeated it (R34, R47) -/
  late : Bool
  /-- B_host and B_cool choices of the set: the damper's cap, ambient control (GLAZE_FRAME_STATE) -/
  cooled : Bool
  ambient : Bool
  deriving DecidableEq, Repr

/-- A WAIT write queued behind a seal, or a write behind another (R149, R150): the surfaces it touches, its command and its
flags. -/
structure QWrite where
  surfs : List Nat
  opcode : Nat
  params : List Word
  req : Req
  wait : Bool
  force : Bool
  deriving DecidableEq, Repr

/-- A static surface beyond its registers (R147, R148, R152). -/
structure SurfX where
  /-- the seal generation -/
  gen : Nat
  /-- L, whole -/
  last : Nat
  /-- the release that waits: requester, FREE -/
  release : Option (Req × Bool)
  deriving DecidableEq, Repr

/-- A queued table load (R124, R178, R179): kind 0 pre-blend LUT, 1 post-blend LUT, 2 matrix slot. -/
structure TableLoad where
  kind : Nat
  table : Nat
  params : List Word
  req : Req
  deriving DecidableEq, Repr

/-- A half of the shelf that the loader has filled (R133): its band and the inputs its windows were loaded on. -/
structure Half where
  frame : Nat
  band : Nat
  inputs : List Nat
  /-- sectors that failed both reads as it was loaded (R142) -/
  failed : List Nat
  deriving DecidableEq, Repr

/-- Firing (R27–R57, R115–R137, R144–R156). -/
structure FireState where
  frames : List FireFrame
  inputs : List FrameInput
  /-- descriptor generations of the slots in the copy in force (R41) -/
  gens : List Nat
  /-- the halves of the shelf that wait for the lanes, next first (R133) -/
  shelf : List Half
  /-- commit-class fields written since the last commit, with their element (R30) -/
  touched : List (Fld × Nat)
  /-- pre-blend LUTs by (3 × table + colour) × 512 + code; unlisted: the ramp of R123 -/
  pre : List (Nat × Nat)
  surf : List (Nat × SurfX)
  waitQ : List QWrite
  loads : List TableLoad
  /-- the words of KILN_GRID and KILN_MOUNT that take effect at the next tick (R117) -/
  geom : Option (List Nat)
  /-- the last frame whose commit window has closed (R29, R64) -/
  closed : Option Nat
  /-- a repeat demanded for frame N (R369), so that event 739 is raised once -/
  mustRepeat : List Nat
  /-- the copy in force before the last tick, whose frame may still await its swap (R124) -/
  prev : RegFile
  /-- TB3 when the firing window of the frame being fired opened, in 1/16,384 ns (R28) -/
  winAt : Int
  /-- bands refired since the last tick -/
  refired : Nat
  /-- FRAME_LO latched by a read of FRAME_HI is the register; the frame being fired is last tick + 1 -/
  firing : Bool
  deriving DecidableEq, Repr

/-- A context load bound to a frame (R174, R175). -/
structure CtxLoad where
  frame : Nat
  first : Nat
  words : List Word
  late : Bool
  req : Req
  deriving DecidableEq, Repr

/-- The Glaze beyond its registers (R157–R179). -/
structure GlazeState where
  /-- post-blend LUTs by (3 × table + colour) × 1,025 + point; unlisted: the ramp of R158 -/
  post : List (Nat × Nat)
  /-- matrices by (4,096 × slot + index) × 9 + coefficient, as 18-bit codes; unlisted 0 -/
  mats : List (Nat × Nat)
  /-- context words 0–1 in force, by 2 × context + word -/
  ctx : List (Nat × Word)
  /-- the staged bank -/
  staged : List (Nat × Word)
  /-- aging integrals by 3 × context + colour -/
  ages : List (Nat × Nat)
  /-- number of the bank in force (R174) -/
  bankNo : Nat
  /-- the bank in force before the last change, for a frame fixed on it (R170) -/
  prev : List (Nat × Word)
  /-- context words with a parity error, 8 × context + word: words 0–1 of the bank in force and words 2–7 (R177) -/
  parity : List Nat
  /-- the same for words 0–1 of the staged bank, and of the bank before the last change -/
  parityStaged : List Nat
  parityPrev : List Nat
  loads : List CtxLoad
  /-- loads accepted during the bank copy (R174) -/
  waiting : List CtxLoad
  /-- the previous fired frame's step and clipped count (R163, R166); the zones' cones of the frame before, none while no frame is
  fired (R171) -/
  lastK : Option Nat
  lastCones : List Nat
  lastClip : Nat
  /-- zones clamped at the last tick (R172) -/
  clamped : List Bool
  deriving DecidableEq, Repr

/-- A calibration run in progress (R192–R195). -/
structure CalRun where
  /-- 0 dark, 1 red, 2 green, 3 blue -/
  step : Nat
  /-- the frame of the first record formed with the step's drive (R193) -/
  formed : Option Nat
  /-- `now` of the swap that put the step's drive on show (R193) -/
  shown : Option Nat
  rounds : Nat
  sums : List Nat
  dark : List Nat
  avg : List Nat
  startT : Int
  /-- requests served: capture entry and requester -/
  reqs : List (Option Nat × Req)
  deriving DecidableEq, Repr

/-- The calibration unit beyond its registers (R182–R202). -/
structure CalState where
  /-- loss tables by 65 × colour: LOG_BASE, then 64 points; unlisted 40 and 32,768 -/
  loss : List (Nat × Nat)
  run : Option CalRun
  /-- requests that wait for a run -/
  reqs : List (Option Nat × Req)
  /-- `now` of the end of the last run that ended unaborted (R191) -/
  lastRun : Option Nat
  /-- glost time (`glostTime`) at the end of that run (R191) -/
  lastRunG : Nat
  /-- glost time in REFCLK cycles up to the last entry into glost, and `now` of that entry while the stage is glost -/
  glost : Nat
  glostAt : Option Nat
  /-- Af with 8 fraction bits (R197) -/
  af : Nat
  /-- AMB_EN as last seen -/
  ambOn : Bool
  /-- save in progress: STATIC, area, SEQ, words, requester (R201) -/
  save : Option (Bool × Nat × Nat × List Word × Option Req)
  /-- `now` of the last snapshot (R201) -/
  lastSnap : Option Nat
  /-- glost time at the end of the last save: the start of SAVE_PERIOD (R201) -/
  timerAt : Nat
  /-- entry place of the run log written next (R203) -/
  logPlace : Nat
  /-- the test-tile record of the last frame: codes, cone and step (R189) -/
  rec_ : Option (Word × Word)
  /-- the store has been loaded (R202) -/
  loaded : Bool
  deriving DecidableEq, Repr

/-- A rectangle formed (R217, R219): head, tag (none while it waits), frame, cells' box in physical hogels, and for each
lane it uses the payload words still to send. -/
structure Rect where
  head : Nat
  tag : Option Nat
  frame : Nat
  x0 : Nat
  y0 : Nat
  w : Nat
  h : Nat
  lanes : List (Nat × Nat)
  /-- its number in the order of formation -/
  id : Nat
  deriving DecidableEq, Repr

/-- A transfer packet that a lane has begun and not ended (R227): its frame, the number of its rectangle, whether its words are payload
(R224), the words still to send. -/
structure OpenPkt where
  frame : Nat
  rect : Option Nat
  pay : Bool
  left : List Word
  deriving DecidableEq, Repr

/-- What an emitter lane has to send (R219, R227): packets of one HEAD superblock, ZONEMAP and ROW packets, the open transfer packet. -/
structure LaneTx where
  short : List (List Word)
  long : List (List Word)
  open_ : Option OpenPkt
  deriving DecidableEq, Repr

/-- Probing on a head (R244, R245): the string whose turn it is, the recorded channels still to be probed alone, the range
looked at and the last channel, whether a fault is known to lie in the range, whether TE was seen high in this turn,
whether an answer is owed; by string, the turns taken and the consecutive turns without any answer. -/
structure Probe where
  string : Nat
  solo : List Nat
  lo : Nat
  hi : Nat
  top : Nat
  sure : Bool
  heard : Bool
  asked : Bool
  turns : List Nat
  silent : List Nat
  deriving DecidableEq, Repr

/-- A read-back awaited from a string (R224): lane, frame, CRC and count of the payload words sent, whether an ABANDON is
reported, and `now` when the string has applied it. -/
structure Echo where
  lane : Nat
  frame : Nat
  crc : Nat
  count : Nat
  abandon : Bool
  at_ : Nat
  deriving DecidableEq, Repr

/-- EMIT beyond its registers (R205–R253). -/
structure EmitState where
  /-- the frame whose swap decision is open (R211) -/
  await : Option Nat
  /-- TE edges seen since the tick -/
  edges : Nat
  /-- `now` at which each TE input last rose and stays unpaired, with the subfield, counted through the ticks (R210) -/
  teAt : List (Option (Nat × Int))
  rects : List Rect
  /-- rectangles formed so far -/
  formed : Nat
  /-- what each lane has to send -/
  tx : List LaneTx
  /-- driver-image signatures by cell: 65,536 × head + 256 × cell row + cell column; unlisted: invalid (R216) -/
  image : List (Nat × Nat)
  /-- signatures of the frame last swapped, by region (R222); freeze counts (R223) -/
  freezeN : List Nat
  /-- event 838 was raised in the run of frames that a region's count stands for (R223) -/
  frozen : List Bool
  lastSig : List (Option Nat)
  /-- payload words sent on each lane since its last SWAP or ABANDON (R224) -/
  sent : List (List Word)
  /-- read-backs awaited (R224) -/
  echo : List Echo
  badEcho : List Nat
  /-- EMIT_DRIVE_CONE as the strings hold it (R240); none before the first CONFIG -/
  tables : Option RegFile
  /-- TABLE values and CONFIG words that the strings hold staged (R212, R213) -/
  tabNew : Option RegFile
  cfgNew : List (Nat × List Word)
  /-- EMIT_SCAN_CTRL, EMIT_HEAD_CTRL and EMIT_DRAW_REGION as taken at the last tick (R231) -/
  scan : RegFile
  /-- CONFIG words last sent, by lane (R231) -/
  config : List (List Word)
  /-- STEP record, cones and step of the frame on show -/
  shown : List Nat
  blankT : Nat
  /-- line of the period: subfield × COMMONS + common (R207) -/
  line : Nat
  /-- TB3 at the start of the subfield 0 whose lines run, and at the start of the one that the last tick brings (R369, R372) -/
  lineFrom : Int
  lineDue : Int
  faults : List FaultEntry
  /-- FAULT_MAP parts of the present report, by lane (R242) -/
  maps : List (Nat × List Nat × List FaultEntry)
  /-- subfield 0 starts since a string's last CONFIG, and whether its report of the period has come, by lane (R242) -/
  periods : List Nat
  reported : List Bool
  missed : List Nat
  probes : List Probe
  /-- fallback timers of groups: group, `now` of the fault's receipt (R250) -/
  fallback : List (Nat × Nat)
  /-- COM_BLANK held for a WHOLE group (R250) -/
  holdWhole : Bool
  /-- event 872 raised in this stage (R241) -/
  clampStage : Option Nat
  /-- fault sets latched for coming frames (R247) -/
  latched : List (Nat × FaultSet)
  /-- COM_BLANK of head A and B as driven -/
  blank : List Bool
  /-- the scan's demand at the last line: SAFE_DARK and group holds take effect there -/
  darkHold : Bool
  /-- a bisque frame has been sent whole and awaits its SWAP (R505) -/
  bisAwait : Bool
  deriving DecidableEq, Repr


/-! Serial lanes (spec/11). -/

/-- A lane beyond its registers (R257–R271). -/
structure LaneX where
  /-- `now` at lane start; none while the lane is stopped -/
  startAt : Option Nat
  /-- the transmit scrambler's and the descrambler's last 31 scrambled bits (R258) -/
  scrTx : Nat
  scrRx : Nat
  /-- line bits received and not yet consumed: fewer than a slot's (R262) -/
  line : List Bool
  /-- consecutive markers in TRACK, consecutive misses in LOCKED (R262) -/
  good : Nat
  miss : Nat
  /-- event 375 was raised since the start (R264) -/
  told : Bool
  /-- ALIGN superblocks still to send (R265) -/
  align : Nat
  /-- a superblock of a tile lane that waits for its partner: type and words, none when damaged (R273) -/
  held : Option (Option (Nat × List Word))
  deriving DecidableEq, Repr

/-- The lanes and the eye monitor (R257–R271). -/
structure LaneState where
  lanes : List LaneX
  /-- the lane being measured, and whether the automatic schedule started it (R270) -/
  eye : Option (Nat × Bool)
  /-- `now` at which that measurement began -/
  eyeAt : Nat
  /-- the receive lane the automatic schedule measures next -/
  autoNext : Nat
  /-- `now` of the last automatic measurement's start -/
  autoAt : Nat
  deriving DecidableEq, Repr

/-! The memory controller (spec/16). -/

/-- The memory controller beyond its registers (R384–R391). -/
structure MemState where
  /-- start-up training runs (R385) -/
  training : Bool
  /-- grades in force for set points 0 and 1 (R385) -/
  grades : List Nat
  /-- `now` of the last request of each channel (R390) -/
  idleAt : List Nat
  /-- pending retraining sequences: channel and bursts done; the first is the one that runs (R386) -/
  seqs : List (Nat × Nat)
  /-- channels whose drift exceeded twice DRIFT_LIM (R386) -/
  hard : List Nat
  /-- channels whose MR4 reported a rate above the rated limit (R384) -/
  hot : List Bool
  /-- the set point of a pending switch (R387) -/
  toSp : Nat
  /-- `now` of each channel's last oscillator check (R386) -/
  oscAt : List Nat
  /-- `now` at which the last retraining burst began (R386) -/
  burstAt : Option Nat
  /-- the tick in whose tail a switch discarded results (R388) -/
  spoilt : Option Nat
  /-- each channel's last burst: whether it was a write, and its rank (R379, R532) -/
  bus : List (Option (Bool × Nat))
  deriving DecidableEq, Repr

/-! HEARTH (spec/17) and the firing planner (R49–R55). -/

/-- An item of work in the plan (R49): its place in the list, its class, its energy in µJ as the plan holds it. -/
structure PlanWork where
  id : Nat
  cls : Nat
  uj : Nat
  deriving DecidableEq, Repr

/-- The firing plan of the present tick (R49–R55). -/
structure PlanState where
  /-- a plan has been built for the tick -/
  on : Bool
  /-- the depth cap of rung 3, once it has been lowered -/
  cap : Option Nat
  /-- the items admitted and not withdrawn -/
  items : List PlanWork
  /-- budget of the tick in µJ -/
  budget : Nat
  /-- energy admitted by class 1–9 in µJ -/
  est : List Nat
  /-- classes of which a part was deferred or withdrawn -/
  deferred : List Nat
  /-- the plan one rung higher fits the budget (R55) -/
  higher : Bool
  /-- the frame of the plan was not fired inside its window (R52, R55) -/
  late : Bool
  /-- the frame was repeated for a reason other than rung 5 (R55) -/
  other : Bool
  deriving DecidableEq, Repr

/-- HEARTH beyond its registers (R397–R417). -/
structure HearthState where
  /-- `now` of the last housekeeping round, and rounds since reset (R399) -/
  hkAt : Nat
  rounds : Nat
  /-- consecutive good rounds of each remote sensor in FAULT, consecutive rounds within 4 °C in SUSPECT (R401, R406) -/
  good : List Nat
  near : List Nat
  /-- samples of the rise rings, newest first, at most 31 (R403) -/
  rings : List (List Int)
  /-- the zone has taken its first cone (R408) -/
  coned : List Bool
  /-- consecutive rounds of each rail outside and inside its window (R417) -/
  railOut : List Nat
  railIn : List Nat
  /-- consecutive failed polls of each PMBus entry (R416) -/
  pmFail : List Nat
  /-- rail and ledger energy of the interval in µJ, its ticks, and whether it is skipped (R415) -/
  railE : Nat
  ledgerE : Nat
  ticks : Nat
  skip : Bool
  /-- `now` at the entry to EASING, at the last step of T_CAP, and when the last cause cleared (R409, R411) -/
  easeAt : Nat
  stepAt : Nat
  quietAt : Nat
  /-- energy in µJ and time in ns of the last 64 completed ticks, newest first (R411) -/
  powers : List (Nat × Nat)
  /-- BRT_IN of the last fired frame (R411) -/
  lastBrt : Option Nat
  /-- activities of the tick that the block counts itself, 12 × class + element and a count: blends, shelf words, plane
  positions and Glaze rays (R43, R134, R414); class 0 is the refire of class 2, class 10 that of class 4 -/
  acts : List (Nat × Nat)
  /-- how far the tick had gone at the last change of a domain, in 1/16,384 ns, and the standing energy and that of the emitter and echo
  lanes until then, in 1/16 pJ (R414) -/
  spent : Nat × Nat × Nat
  /-- domains that ramp, with `now` at the start and whether it is the retry (R398) -/
  ramps : List (Nat × Nat × Bool)
  /-- domains that wait for their retry, with `now` at the failure (R398) -/
  retries : List (Nat × Nat)
  /-- domains marked FAILED, until class S state is lost (R398) -/
  failed : List Nat
  /-- die-class shutdown holds (R404) -/
  shutdown : Bool
  plan : PlanState
  deriving DecidableEq, Repr

/-! ENCODE (spec/14). -/

/-- Rate control of one tile of a layer, or of the spyhole (R336–R340). -/
structure TileRc where
  /-- bits spent on the rows of the tile's previous picture; empty: there is none -/
  prev : List Nat
  /-- bits spent on the rows of the present picture so far -/
  spent : List Nat
  /-- budget of the present picture -/
  budget : Nat
  /-- budget left unused by earlier rows of the present picture -/
  carry : Nat
  deficit : Nat
  loan : Nat
  /-- the next picture whose first row is not yet coded is coded as intra -/
  intra : Bool
  /-- RC_OVERRUN in the present picture: its remaining rows are skip rows -/
  past : Bool
  deriving DecidableEq, Repr

/-- A layer beyond its registers (R329–R334): the salt, the tiles by index row × 20 + column, and the pictures in work,
oldest first: frame, next CTU row, repeat picture. -/
structure EncLayer where
  salt : Nat
  tiles : List (Nat × TileRc)
  work : List (Nat × Nat × Bool)
  /-- the next picture is IDR_N_LP in every extraction -/
  restart : Bool
  /-- RC_OVERRUN has been counted for the picture in work -/
  past : Bool
  /-- the last frame bound or repeated -/
  bound : Option Nat
  /-- tiles of intra requests that wait for a picture whose first row is not coded (R341) -/
  wait : List Nat
  /-- tiles coded as intra in the tile row in work -/
  intraTiles : List Nat
  /-- luma and prediction units of the picture in work, and of the picture before it (R325, R335) -/
  recon : List (Nat × Nat)
  pus : List CodedPu
  ref : List (Nat × Nat)
  refPus : List CodedPu
  deriving DecidableEq, Repr

/-- An extraction (R328, R341): the next picture is IDR_N_LP; the picture in work is; pictures since the IDR; the tick it was
served last; a request is held back. -/
structure Extr where
  restart : Bool
  /-- a restart waits for a picture whose first row is not coded (R341) -/
  wait : Bool
  idr : Bool
  poc : Nat
  served : Option Nat
  owed : Bool
  deriving DecidableEq, Repr

/-- A spyhole subscription (R345). -/
structure SpySub where
  all : Bool
  x : Nat
  y : Nat
  addr : Nat
  port : Nat
  until_ : Nat
  deriving DecidableEq, Repr

/-- ENCODE beyond its registers (R325–R345). -/
structure EncState where
  /-- ENCODE_LAYER, ENCODE_TCOL, ENCODE_TROW and ENCODE_MAP as taken at the last tick (R329) -/
  regs : RegFile
  layers : List EncLayer
  /-- extractions by map element -/
  extr : List (Nat × Extr)
  /-- the last frame whose ingest window has ended (R331) -/
  winEnd : Option Nat
  /-- event 551 was raised in this tick, by layer; event 550 was -/
  noKey : List Nat
  backlog : Bool
  /-- the last tick at which a worker raised INTRA_REQ (R341) -/
  asked : Option Nat
  subs : List SpySub
  /-- spyhole: pictures since the last IDR, the next one is an IDR, rate control, the frame coded last and the picture formed
  of it: Y, Cb and Cr in raster order (R342, R343) -/
  spyCount : Nat
  spyIdr : Bool
  spyRc : TileRc
  spyFrame : Option Nat
  spyPic : List (List Nat)
  /-- luma and prediction units of the last spyhole picture (R335) -/
  spyRef : List (Nat × Nat)
  spyPus : List CodedPu
  /-- the frame presented last, of whose ray words a spyhole picture is formed (R342) -/
  shown : Option FireFrame
  deriving DecidableEq, Repr

/-! STAMP and DEFLATE (spec/20). -/

/-- A STAMP job (R484): words 0x0–0xC of the STAMP registers as STAMP_GO found them. -/
structure StampJob where
  regs : List Word
  req : Req
  /-- it has started: its destination is being written -/
  started : Bool
  /-- it waits behind a seal -/
  waits : Bool
  /-- surfaces of the destination -/
  ids : List Nat
  /-- colour and alpha pictures it holds (R480) -/
  pics : List Nat
  deriving DecidableEq, Repr

/-- A DEFLATE job (R491–R493). -/
structure DefJob where
  num : Nat
  /-- parameter words 0, 3 and 4 -/
  w0 : Word
  checkIn : Nat
  isizeIn : Nat
  /-- input ranges not yet taken in, and the input taken in so far -/
  inputs : List (Nat × Nat)
  data : List Byte
  more : Bool
  /-- output buffers not yet filled, the first of them with the bytes it already holds; buffers filled -/
  bufs : List (Nat × Nat)
  fill : Nat
  used : Nat
  outDone : Nat
  /-- the first buffer has passed its seal check -/
  passed : Bool
  /-- surfaces being written -/
  ids : List Nat
  req : Req
  deriving DecidableEq, Repr

/-- The two engines (R478–R496). -/
structure EngState where
  stamp : List StampJob
  deflate : List DefJob
  deriving DecidableEq, Repr


/-! Reset values of the parts (R499, R519). -/

def Pins.reset : Pins := ⟨0, 0, false, false, [true, true, true, true], false, true, true⟩

def CmdState.reset : CmdState := ⟨[], [], false, none⟩

def EvtState.reset : EvtState := ⟨[], [], [], false, [], [], 0, 1024 * 100000000, 0, (0, [])⟩

def BakeState.reset : BakeState := ⟨[], none, (0, 0, 0), (0, 0, 0), none⟩

def StartState.reset : StartState where
  powered := true
  held := false
  railFell := false
  late := false
  cold := false
  sampled := false
  wLost := true
  began := 0
  bootOk := false
  mpAt := 0
  soft := none
  softOut := 0
  power := none
  woke := false
  dieStart := false
  resend := true
  bisque := none
  bisMap := []
  bisPats := []
  memRec := []
  bisWrite := none
  ownFlash := []
  showNext := none
  wakeExit := none
  exitTick := none

def SealedStore.empty : SealedStore := ⟨0, [], [], [0, 0, 0, 0, 0, 0, 0, 0, 0], false, false⟩

def LinkSession.reset : LinkSession := ⟨false, 0, none, 0⟩

def HostSession.reset : HostSession := ⟨false, [], [], 0, 0, 0, 0, 0⟩

def SecState.reset : SecState where
  revoked := 0
  slots := []
  svnBits := 0
  store := SealedStore.empty
  eph := none
  links := List.replicate 4 LinkSession.reset
  hosts := List.replicate 16 HostSession.reset
  pathsOff := false
  boot := ⟨false, false, 0, 0⟩
  staging := none
  bootEvents := []
  censusAt := none
  trialGlost := 0
  draws := 0

def TimeState.reset : TimeState where
  tb := [0, 0, 0]
  integ := [0, 0, 0]
  hist := [[], [], []]
  good := [0, 0, 0]
  bad := [0, 0, 0]
  refOk := [false, false]
  fedAt := [0, 0, 0]
  last := 0
  ticked := false
  stepped := false
  scheds := []
  jump := false
  phase := none
  tb0Run := 0
  split := false
  demand := none
  syncK := none
  sentD := none
  fifo := [[], []]
  armed := [false, false, false, false]
  realign := [false, false, false, false]
  relocking := [false, false, false, false]
  blank := false
  blankNext := false
  stopped := false
  ever := [false, false]
  capAt := [none, none]
  syncLost := false
  pullTo := 0

def Port.reset : Port where
  hello := 0
  ctrlAt := 0
  txq := []
  sending := []
  txSeq := 0
  replay := []
  ackAt := 0
  replays := 0
  rxSeq := 0
  rxAny := false
  nak := false
  rxWords := []
  freed := [0, 0, 0, 0, 0]
  cred := [0, 0, 0, 0, 0]
  sentW := [0, 0, 0, 0, 0]
  wakeEnd := none
  resetDue := false
  sinceCtrl := 0
  owe := false
  far := []
  rerouted := false
  lreset := 0
  align := 0

/-- A worker that a census has just placed, before its position is filled in. -/
def Worker.reset : Worker where
  x := 0
  y := 0
  rot := 0
  nonce := 0
  port := 0
  ssrc := none
  rtpNext := 0
  window := []
  slow := 94371840
  fast := 1474200
  filled := 0
  delta := 0
  nextOff := 0
  sync := false
  skip := 0
  head := none
  left := 0
  parcels := []
  held := []
  beacon := none
  tile := none
  resent := none
  seq := 0

def LinkState.reset : LinkState where
  ports := List.replicate 4 Port.reset
  cnum := [none, none]
  nonce := 0
  census := none
  map := []
  mapBad := false
  exchange := none
  exchNum := 0
  delays := []
  delayPort := 0
  exchAt := 0
  exchBegan := 0
  bufNext := 0

def Flow.reset : Flow := ⟨none, 0, 0, none, true, [], [], [], []⟩

def MgrState.reset : MgrState where
  workers := []
  censusNum := 0
  censusOpen := false
  censusReq := none
  censusAt := 0
  reports := []
  tags := []
  fence := 0
  waited := none
  heard := 0
  missed := 0
  peer := none
  sameIdx := false
  gen := 0
  acked := 0
  unacked := 0
  mirror := none
  mirrorIn := (0, 0, [])
  mirrorsOut := []
  mirrorBase := none
  routes := []
  handback := none
  released := false
  fwdUntil := none
  held := []
  portFell := false
  netDone := false
  bakes := []
  openBake := none
  shared := []
  clean := true
  flows := [Flow.reset, Flow.reset]
  foreign := []
  sync := [none, none]
  delayReq := [none, none]
  syncAt := [0, 0]
  announceAt := [0, 0]
  delayLog := [0, 0]
  master := [none, none]
  claimAfterCensus := false

def StreamState.reset : StreamState where
  fifo := []
  started := false
  lossSearch := false
  batch := none
  last := none
  parsed := []
  seqs := []
  queue := []
  endAt := none
  applied := 0

def DecState.reset : DecState where
  pics := []
  synths := []
  prog := List.replicate 8 none
  cvs := List.replicate 8 0
  pocs := List.replicate 8 []
  rasl := List.replicate 8 (false, false)
  eos := List.replicate 8 false
  barred := List.replicate 8 false
  needAt := List.replicate 8 [0]
  lost := List.replicate 8 false
  vui := List.replicate 8 (false, none)
  nextId := 0
  poolPend := false
  positions := 0

def FireState.reset : FireState where
  frames := []
  inputs := []
  gens := List.replicate 32 0
  shelf := []
  touched := []
  pre := []
  surf := []
  waitQ := []
  loads := []
  geom := none
  closed := none
  mustRepeat := []
  prev := []
  winAt := 0
  refired := 0
  firing := false

def GlazeState.reset : GlazeState where
  post := []
  mats := []
  ctx := []
  staged := []
  ages := []
  bankNo := 0
  prev := []
  parity := []
  parityStaged := []
  parityPrev := []
  loads := []
  waiting := []
  lastK := none
  lastCones := []
  lastClip := 0
  clamped := List.replicate 16 false

def CalState.reset : CalState where
  loss := []
  run := none
  reqs := []
  lastRun := none
  lastRunG := 0
  glost := 0
  glostAt := none
  af := 0
  ambOn := false
  save := none
  lastSnap := none
  timerAt := 0
  logPlace := 0
  rec_ := none
  loaded := false

def EmitState.reset : EmitState where
  await := none
  edges := 0
  teAt := [none, none]
  rects := []
  formed := 0
  tx := List.replicate 16 ⟨[], [], none⟩
  image := []
  freezeN := List.replicate 32 0
  frozen := List.replicate 32 false
  lastSig := List.replicate 32 none
  sent := List.replicate 16 []
  echo := []
  badEcho := List.replicate 16 0
  tables := none
  tabNew := none
  cfgNew := []
  scan := []
  config := List.replicate 16 []
  shown := []
  blankT := 0
  line := 0
  lineFrom := 0
  lineDue := 0
  faults := []
  maps := []
  periods := List.replicate 16 0
  reported := List.replicate 16 true
  missed := List.replicate 16 0
  probes := List.replicate 2 ⟨0, [], 0, 0, 0, false, false, false, List.replicate 8 0, List.replicate 8 0⟩
  fallback := []
  holdWhole := false
  clampStage := none
  latched := []
  blank := [true, true]
  darkHold := false
  bisAwait := false
def LaneX.reset : LaneX := ⟨none, 0, 0, [], 0, 0, false, 0, none⟩

def LaneState.reset : LaneState := ⟨List.replicate 32 LaneX.reset, none, 0, 0, 0⟩

def MemState.reset : MemState := ⟨false, [3, 0], [0, 0, 0, 0], [], [], [false, false, false, false], 0, [0, 0, 0, 0], none, none, [none, none, none, none]⟩

def PlanState.reset : PlanState := ⟨false, none, [], 0, List.replicate 9 0, [], false, false, false⟩

def HearthState.reset : HearthState where
  hkAt := 0
  rounds := 0
  good := List.replicate 16 0
  near := List.replicate 16 0
  rings := List.replicate 16 []
  coned := List.replicate 16 false
  railOut := List.replicate 12 0
  railIn := List.replicate 12 0
  pmFail := List.replicate 8 0
  railE := 0
  ledgerE := 0
  ticks := 0
  skip := false
  easeAt := 0
  stepAt := 0
  quietAt := 0
  powers := []
  lastBrt := none
  acts := []
  spent := (0, 0, 0)
  ramps := []
  retries := []
  failed := []
  shutdown := false
  plan := PlanState.reset


def TileRc.reset : TileRc := ⟨[], [], 0, 0, 0, 0, false, false⟩

def EncLayer.reset : EncLayer := ⟨0, [], [], false, false, none, [], [], [], [], [], []⟩

def Extr.reset : Extr := ⟨true, false, false, 0, none, false⟩

def EncState.reset : EncState where
  regs := []
  layers := [EncLayer.reset, EncLayer.reset]
  extr := []
  winEnd := none
  noKey := []
  backlog := false
  asked := none
  subs := []
  spyCount := 0
  spyIdr := true
  spyRc := TileRc.reset
  spyFrame := none
  spyPic := []
  spyRef := []
  spyPus := []
  shown := none

def EngState.reset : EngState := ⟨[], []⟩

/-! The whole. -/

/-- Why a command stops the machine. No meaning of this model ends in a fault. -/
inductive Fault where
  /-- raised by no meaning: the block has no condition after which the spec gives it no further state (safe) -/
  | none
  deriving DecidableEq, Repr

/-- Why a command has no meaning. -/
inductive Refusal where
  /-- raised by exec for a command whose meaning is not written yet, by name (safe) -/
  | notModelled (mnemonic : String)
  deriving DecidableEq, Repr

/-- The state of the KQ-3640. -/
structure State where
  /-- every register field, commit-class fields in their staged copy (R4–R10, R540); unlisted: the reset value -/
  regs : RegFile
  /-- the copy in force of the commit-class fields (R540) -/
  inForce : RegFile
  /-- a clock, as `now`, and what the hardware did in it to fields that software writes too (R6): by field key, how far a count
  advanced, which flags were set, or that an RW field was set -/
  clk : Nat × List (Nat × Nat)
  /-- REFCLK cycles since power-on, 10 ns each (R370) -/
  now : Nat
  /-- the model's own counter of free values (assumption log 1) -/
  freeCtr : Nat
  /-- the input pins and the pins AON drives -/
  pins : Pins
  cmd : CmdState
  evt : EvtState
  bake : BakeState
  start : StartState
  sec : SecState
  time : TimeState
  mem : MemState
  hearth : HearthState
  lane : LaneState
  link : LinkState
  mgr : MgrState
  stream : StreamState
  dec : DecState
  fire : FireState
  glaze : GlazeState
  cal : CalState
  emit_ : EmitState
  enc : EncState
  eng : EngState
  /-- external DRAM, byte cells in canonical form; sector n lies at byte 32 × n (R140); an unlisted byte reads `dramByte0` -/
  dram : List Host.Cell
  /-- the serial flash, byte cells in canonical form (R536); an unlisted byte is erased, 0xFF -/
  flash : List Host.Cell
  /-- what the last command sent out -/
  out : List Output
  /-- the commands that wait, first in, first out -/
  pending : List Instr
  deriving DecidableEq, Repr

/-- The machine right after a power-on reset, at the start of the timeline of R499. -/
def State.reset : State where
  regs := []
  inForce := []
  clk := (0, [])
  now := 0
  freeCtr := 0
  pins := Pins.reset
  cmd := CmdState.reset
  evt := EvtState.reset
  bake := BakeState.reset
  start := StartState.reset
  sec := SecState.reset
  time := TimeState.reset
  mem := MemState.reset
  hearth := HearthState.reset
  lane := LaneState.reset
  link := LinkState.reset
  mgr := MgrState.reset
  stream := StreamState.reset
  dec := DecState.reset
  fire := FireState.reset
  glaze := GlazeState.reset
  cal := CalState.reset
  emit_ := EmitState.reset
  enc := EncState.reset
  eng := EngState.reset
  dram := []
  flash := []
  out := []
  pending := []

end Sys2Proof.Machine
end

