-- ==== Sys2Proof/Machine/Ops.lean ====
section
/-! DEFINITION. The operations every command is written with: register fields, time, blocks and domains, events, replies,
outputs. Each is one record update over State, so that what it leaves alone is plain to see. -/

namespace Sys2Proof.Machine

/-! ### Register fields -/

/-- Element `i` of a field (R4, R9). -/
def State.r (s : State) (f : Fld) (i : Nat := 0) : Nat := rget s.regs f i

/-- Element `i` of a field, as a flag. -/
def State.rb (s : State) (f : Fld) (i : Nat := 0) : Bool := rget s.regs f i ≠ 0

/-- A field as it is in force since the last tick: of the words that `scanWord` names, a write takes effect at the next tick
(R231, spec/02, spec/03, spec/05). -/
def State.es (s : State) (f : Fld) (i : Nat := 0) : Nat := rget s.emit_.scan f i

/-- Element `i` of a field read as two's complement (R2). -/
def State.ri (s : State) (f : Fld) (i : Nat := 0) : Int := sext f.width (rget s.regs f i)

/-- Element `i` of a field set by the hardware. -/
def State.w (s : State) (f : Fld) (v : Nat) (i : Nat := 0) : State := { s with regs := rset s.regs f i v }

/-- A signed field set by the hardware. -/
def State.wi (s : State) (f : Fld) (v : Int) (i : Nat := 0) : State := { s with regs := rset s.regs f i (twos f.width v) }

/-- Several fields set together: field, element and value. -/
def rsets (r : RegFile) : List (Fld × Nat × Nat) → RegFile
  | [] => r
  | p :: t => rsets (rset r p.1 p.2.1 p.2.2) t

/-- Several fields of the state set together. -/
def State.ws (s : State) (l : List (Fld × Nat × Nat)) : State := { s with regs := rsets s.regs l }

/-- A count advanced by `n`, saturating at the largest value of its field. -/
def rcount (r : RegFile) (f : Fld) (i n : Nat) : RegFile := rset r f i (satN (2 ^ f.width - 1) (rget r f i + n))

/-- What the hardware did in the present clock, with `n` more at a field key (R6). -/
def State.clkAdd (s : State) (k n : Nat) : Nat × List (Nat × Nat) :=
  let l := if s.clk.1 = s.now then s.clk.2 else []
  (s.now, sset 0 l k (sget 0 l k + n))

/-- A count of the state advanced by the hardware (saturating). -/
def State.count (s : State) (f : Fld) (i : Nat := 0) (n : Nat := 1) : State :=
  { s with regs := rcount s.regs f i n, clk := s.clkAdd (f.key i) n }

/-- `n` activities of an element counted for a priority class in the present tick (R43, R414); class 0 is the refire of class 2,
class 10 that of class 4. -/
def State.act (s : State) (cls element n : Nat) : State :=
  let k := 12 * cls + element
  { s with hearth := { s.hearth with acts := sset 0 s.hearth.acts k (sget 0 s.hearth.acts k + n) } }

/-- Flags of a field set by the hardware. -/
def State.flag (s : State) (f : Fld) (m : Nat) (i : Nat := 0) : State :=
  let l := if s.clk.1 = s.now then s.clk.2 else []
  { s with regs := rset s.regs f i (rget s.regs f i ||| m), clk := (s.now, sset 0 l (f.key i) (sget 0 l (f.key i) ||| m)) }

/-- An RW field set by the hardware. -/
def State.hw (s : State) (f : Fld) (v : Nat) (i : Nat := 0) : State :=
  { s with regs := rset s.regs f i v, clk := s.clkAdd (f.key i) 1 }

/-- The field of the copy in force for the frame being fired (R540). -/
def State.inf (s : State) (f : Fld) (i : Nat := 0) : Nat := rget (if f.commit then s.inForce else s.regs) f i

/-- A signed field of the copy in force. -/
def State.infi (s : State) (f : Fld) (i : Nat := 0) : Int := sext f.width (s.inf f i)

/-! ### Role, stage, blocks -/

/-- ROLE as sampled (R14): 0 worker, 1 manager, 2 manager-preferred, 3 test. -/
def State.role (s : State) : Nat := s.r Reg.MGMT_STRAPS_ROLE

/-- The device is a manager (R14). -/
def State.isMgr (s : State) : Bool := s.role = 1 || s.role = 2

/-- The device is a worker (R14). -/
def State.isWorker (s : State) : Bool := s.role = 0

/-- The stage code (R498). -/
def State.stage (s : State) : Nat := s.r Reg.MGMT_STAGE_STAGE

/-- MP firmware runs (R501). -/
def State.mp (s : State) : Bool := s.rb Reg.MGMT_STAGE_MP

/-- DRAM is trained (R501). -/
def State.dramUp (s : State) : Bool := s.rb Reg.MGMT_STAGE_DRAM

/-- The device is powered, out of reset and clocked: it takes commands and keeps its timeline. -/
def State.alive (s : State) : Bool :=
  s.start.powered && !s.start.held && !s.start.cold && !s.hearth.shutdown && !s.time.stopped

/-- The block is on in the role (R16); ENCODE is on in both. -/
def blockOn (role b : Nat) : Bool :=
  if role = 1 ∨ role = 2 then !(b = 7 || b = 9 || b = 10 || b = 11) else true

/-- The domains of a block (R396). -/
def blockDomains (b : Nat) : List Nat :=
  match b with
  | 0 => [1, 2]
  | 1 => [3]
  | 2 => [4, 5]
  | 3 => [6, 7, 8, 9]
  | 4 => [10]
  | 5 => List.range' 11 14
  | 6 => List.range' 25 4
  | 7 => List.range' 29 4
  | 8 => List.range' 33 3
  | 9 => List.range' 36 32
  | 10 => List.range' 68 4
  | 11 => List.range' 72 10
  | 12 => [82]
  | 13 => [83]
  | _ => []

/-- The block a domain belongs to (R396); domain 0 is AON. -/
def domainBlock (d : Nat) : Option Nat := (List.range 14).find? (fun b => (blockDomains b).contains d)

/-- State of domain `d` (R398): 0 off, 1 ramping, 2 on, 3 FAILED; domain 0 reads 2. -/
def State.domain (s : State) (d : Nat) : Nat := if d = 0 then 2 else s.r Reg.HEARTH_DOMAIN_STATE d

/-- A domain of the block is marked FAILED (R398). -/
def State.blockFailed (s : State) (b : Nat) : Bool := (blockDomains b).any (fun d => s.domain d = 3)

/-- Every domain of a block that is on in the role is held off or not yet on (R541). -/
def State.blockHeld (s : State) (b : Nat) : Bool := (blockDomains b).all (fun d => s.domain d ≠ 2)

/-- The block an event belongs to (R11). -/
def eventBlock (e : Nat) : Nat :=
  if e < 64 then 0 else if e < 96 then 1 else if e < 192 then 2 else if e < 224 then 3 else if e < 256 then 4
  else if e < 384 then 5 else if e < 448 then 6 else if e < 544 then 7 else if e < 608 then 8 else if e < 768 then 9
  else if e < 832 then 10 else if e < 992 then 11 else if e < 1008 then 12 else 13

/-! ### Time (R347–R349, R360, R361) -/

/-- 10^9 nanoseconds in units of 1/16,384 ns (R347). -/
def secUnits : Nat := 1000000000 * 16384

/-- A time value's three words as a count of 1/16,384 ns (R347). -/
def timeOfWords (w0 w1 w2 : Word) : Nat :=
  ((w0.toNat * 2 ^ 28 + bits w1 35 8) * 1000000000 + (bits w1 7 0 * 2 ^ 22 + bits w2 35 14)) * 16384 + bits w2 13 0

/-- The nanoseconds field of a time value (R347). -/
def timeNs (w1 w2 : Word) : Nat := bits w1 7 0 * 2 ^ 22 + bits w2 35 14

/-- A count of 1/16,384 ns as the three words of R347. -/
def wordsOfTime (t : Nat) : List Word :=
  let sec := t / secUnits
  let ns := t / 16384 % 1000000000
  [word (sec / 2 ^ 28), pack [(8, sec % 2 ^ 28), (0, ns / 2 ^ 22)], pack [(14, ns % 2 ^ 22), (0, t % 16384)]]

/-- Base `b` (TB0–TB2) in units of 1/16,384 ns, truncated (R349). -/
def State.base (s : State) (b : Nat) : Nat := nth s.time.tb b / 2 ^ 18

/-- The source of TB3: 0 TB0, 1 TB1, 2 TB2. -/
def State.src (s : State) : Nat := s.r Reg.TIME_TICK_STATUS_SOURCE

/-- What is taken from the source to make TB3, in 1/16 ns: PHASE_BASE + φ + SW (R361). -/
def State.shift (s : State) : Int :=
  s.ri Reg.TIME_PHASE_STATE_0024_PHASE_BASE + s.ri Reg.TIME_PHASE_STATE_0025_PHI + s.ri Reg.TIME_PHASE_STATE_0027_SW

/-- TB3 in units of 1/16,384 ns (R361); it may lie below zero right after reset. -/
def State.tb3 (s : State) : Int := (s.base s.src : Int) - 1024 * s.shift

/-- Any base in units of 1/16,384 ns; a negative TB3 reads 0. -/
def State.baseAny (s : State) (b : Nat) : Nat := if b < 3 then s.base b else s.tb3.toNat

/-- The anchor's time in units of 1/16,384 ns (R360). -/
def State.anchorTime (s : State) : Nat :=
  timeOfWords (word (s.r Reg.TIME_ANCHOR_002B_ANCHOR_TIME)) (word (s.r Reg.TIME_ANCHOR_002C_ANCHOR_TIME))
    (word (s.r Reg.TIME_ANCHOR_002D_ANCHOR_TIME))

/-- The anchor's tick (R360). -/
def State.anchorTick (s : State) : Nat :=
  s.r Reg.TIME_ANCHOR_0029_ANCHOR_TICK_HI * 2 ^ 36 + s.r Reg.TIME_ANCHOR_002A_ANCHOR_TICK_LO

/-- The rate's numerator and denominator (R360). -/
def State.num (s : State) : Nat := s.r Reg.TIME_TICK_RATE_NUM
def State.den (s : State) : Nat := s.r Reg.TIME_TICK_RATE_DEN

/-- The period in units of 1/16,384 ns, rounded down (R360). -/
def State.period (s : State) : Nat := s.den * secUnits / s.num

/-- S(N) of R360 for an anchor, a rate and a tick, exactly and rounded down. -/
def schedAt (anchorTime anchorTick num den n : Nat) : Int :=
  (anchorTime : Int) + (((n : Int) - anchorTick) * (den * secUnits : Nat)) / (num : Int)

/-- S(N) under the schedule in force (R360). -/
def State.sched (s : State) (n : Nat) : Int := schedAt s.anchorTime s.anchorTick s.num s.den n

/-- The anchor and the rate set. -/
def State.setSchedule (s : State) (tick time num den : Nat) : State :=
  let w := wordsOfTime time
  s.ws [(Reg.TIME_ANCHOR_0029_ANCHOR_TICK_HI, 0, tick / 2 ^ 36 % 2 ^ 12), (Reg.TIME_ANCHOR_002A_ANCHOR_TICK_LO, 0, tick % 2 ^ 36),
    (Reg.TIME_ANCHOR_002B_ANCHOR_TIME, 0, (nthW w 0).toNat), (Reg.TIME_ANCHOR_002C_ANCHOR_TIME, 0, (nthW w 1).toNat),
    (Reg.TIME_ANCHOR_002D_ANCHOR_TIME, 0, (nthW w 2).toNat), (Reg.TIME_TICK_RATE_NUM, 0, num), (Reg.TIME_TICK_RATE_DEN, 0, den)]

/-- One pending change made (R363): the anchor becomes (K, S(K)), or (K + 1, T). -/
def State.applySched (s : State) (c : Sched) : State :=
  if c.setAnchor then s.setSchedule (c.k + 1) c.time c.num c.den
  else s.setSchedule c.k (s.sched c.k).toNat c.num c.den

/-- S(K) under the schedule that is in force at tick K, with the changes pending before it (R363). -/
def State.plannedAt (s : State) (k : Nat) : Int :=
  ((s.time.scheds.filter (fun c => c.k < k)).foldl (fun (x : State) c => x.applySched c) s).sched k

/-- The number of the next tick: above the last one generated, and not yet passed by TB3 (R362). -/
def State.nextTick (s : State) : Nat :=
  let lo := if s.time.ticked then s.time.last + 1 else 0
  let t := s.tb3
  let est := (s.anchorTick : Int) + (t - s.anchorTime) * s.num / (s.den * secUnits : Nat)
  -- est is the greatest N whose unrounded schedule lies at or below TB3
  let n := if s.sched est.toNat < t then est.toNat + 1 else est.toNat
  (Nat.max lo n) % 2 ^ 48

/-- A microsecond count in units of 1/16,384 ns. -/
def us (n : Nat) : Int := (n : Int) * 1000 * 16384

/-- Counters advanced by `dt` REFCLK cycles (R349). -/
def advanceBases (regs : RegFile) (tb : List Nat) (dt : Nat) : List Nat :=
  (List.range 3).map (fun b => nth tb b + rget regs Reg.TIME_BASE_W3_INCR b * dt)

/-- Time passes: `dt` REFCLK cycles; what the last command sent out is forgotten. -/
def State.pass (s : State) (dt : Nat) : State :=
  { s with
    now := s.now + dt
    sec := { s.sec with trialGlost := s.sec.trialGlost + if s.rb Reg.MGMT_FW_0150_TRIAL && s.stage = 2 then dt else 0 }
    time := { s.time with tb := if s.time.stopped then s.time.tb else advanceBases s.regs s.time.tb dt }
    out := [] }

/-- REFCLK cycles until TB3 reaches an instant in units of 1/16,384 ns (R349, R361). -/
def State.cyclesTo (s : State) (t : Int) : Nat :=
  let incr := s.r Reg.TIME_BASE_W3_INCR s.src
  if s.time.stopped || incr = 0 then 0
  else cdiv ((t - s.tb3).toNat * 2 ^ 18) incr

/-- Time passes until TB3 reaches an instant; an instant that has passed takes no time. -/
def State.goto (s : State) (t : Int) : State := s.pass (s.cyclesTo t)

/-- Time passes until `now` reaches a count of REFCLK cycles. -/
def State.gotoNow (s : State) (n : Nat) : State := s.pass (n - s.now)

/-- REFCLK cycles of a number of microseconds (R370). -/
def cyclesUs (n : Nat) : Nat := 100 * n

/-- REFCLK cycles of a number of seconds. -/
def cyclesS (n : Nat) : Nat := 100000000 * n

/-! ### Outputs -/

/-- Something sent out. -/
def State.emit (s : State) (k : OutKind) (dst : List Nat) (ws : List Word) : State :=
  { s with out := s.out ++ [⟨k, dst, ws⟩] }

/-- The next free value of the model (assumption log 1). -/
def State.free (s : State) (k : Nat) : Nat := Config.freeValue s.freeCtr k

/-- The free-value counter advanced. -/
def State.drawn (s : State) : State := { s with freeCtr := s.freeCtr + 1 }

/-! ### Events (R432–R437, R543, R544) -/

/-- MP firmware raises the event (R544). -/
def firmwareEvent (e : Nat) : Bool :=
  e = 1 || (8 ≤ e && e ≤ 12) || (16 ≤ e && e ≤ 22) || (24 ≤ e && e ≤ 26) || e = 34 || e = 35 || (37 ≤ e && e ≤ 41)
  || (48 ≤ e && e ≤ 54) || (64 ≤ e && e ≤ 68) || (72 ≤ e && e ≤ 74) || (76 ≤ e && e ≤ 82) || e = 153
  || (176 ≤ e && e ≤ 183) || e = 244 || e = 245 || (289 ≤ e && e ≤ 293) || e = 306

/-- The index of the manager that holds the peel, as the device has seen it (R285, R313). -/
def peelIdx (r : RegFile) : Nat := rget r Reg.LINK_PEEL_IDX 0

/-- The device holds a route toward the manager holding the peel (R435): its LINK_MGR_ROUTE half is valid; a manager
needs none to itself. -/
def peelRoute (r : RegFile) : Bool :=
  let role := rget r Reg.MGMT_STRAPS_ROLE 0
  if role = 1 ∨ role = 2 then true
  else if peelIdx r = 0 then rget r Reg.LINK_MGR_ROUTE_VALID 0 ≠ 0 else rget r Reg.LINK_MGR_ROUTE_VALID_B 0 ≠ 0

/-- What an occurrence needs to know of the rest of the state: TB3, the last tick, `now`; and that firmware raises it although hardware
raises events of its number too (R544). -/
structure EvtAt where
  t : Nat
  frame : Nat
  now : Nat
  fw : Bool

/-- Events sent on BEACON whatever their MASK and route bits (R433). -/
def forcedBeacon (r : RegFile) (e d : Nat) : Bool :=
  e = 11 || e = 12 || e = 154 || e = 560 || ((e = 256 || e = 69) && rget r Reg.LINK_PORT_W1_FAR_PLACED d = 0)

/-- SEQ after SEQ: 1 after every reset, 65,535 followed by 1 (R435). -/
def nextSeq (n : Nat) : Nat := if n = 65535 then 1 else n + 1

/-- The seven words of a KIND 1 event packet (R436). -/
def eventWords (r : RegFile) (e d seq : Nat) (sw : Bool) (a : EvtAt) : List Word :=
  [pack [(32, 1), (31, b2n sw), (16, e), (0, seq)],
   pack [(24, rget r Reg.MGMT_EVT_COUNT e), (10, rget r Reg.MGMT_EVT_MISS_MISS 0)]]
  ++ wordsOfTime a.t ++ [word a.frame, word d]

/-- The log's token bucket filled up to `now` (R437). -/
def refill (r : RegFile) (v : EvtState) (now : Nat) : EvtState :=
  { v with tokens := satN (1024 * 100000000) (v.tokens + rget r Reg.MGMT_LOG_0131_LOG_RATE 0 * (now - v.filled))
           filled := now }

/-- The entry that an occurrence puts into the log (R437). -/
def occEntry (r : RegFile) (a : EvtAt) (e : Nat) : LogEntry :=
  ⟨e, a.fw || firmwareEvent e, rget r Reg.MGMT_EVT_COUNT e, rget r Reg.MGMT_LOG_0132_LSEQ 0, a.t / secUnits, a.t / 16384 % 1000000000⟩

/-- The MP route of an occurrence (R433, R437): an entry of the log where the bucket holds one, else a drop. Answers the registers,
the fabric, and whether the entry was dropped. -/
def occLog (a : EvtAt) (e : Nat) (r : RegFile) (v : EvtState) : RegFile × EvtState × Bool :=
  if rget r Reg.MGMT_EVT_MASK e = 0 && rget r Reg.MGMT_EVT_MP e ≠ 0 && !v.logged.contains e then
    if 100000000 ≤ v.tokens then
      (rset r Reg.MGMT_LOG_0132_LSEQ 0 (rget r Reg.MGMT_LOG_0132_LSEQ 0 + 1),
        { v with logged := e :: v.logged, tokens := v.tokens - 100000000, logQ := v.logQ ++ [occEntry r a e] }, false)
    else (rcount r Reg.MGMT_LOG_0131_DROPPED 0 1, v, true)
  else (r, v, false)

/-- The BEACON route of an occurrence (R433, R435, R436): a packet where the queue and a route allow it. Answers the registers, the
fabric, and whether the packet was lost. -/
def occSend (a : EvtAt) (e d : Nat) (r : RegFile) (v : EvtState) : RegFile × EvtState × Bool :=
  if (forcedBeacon r e d || (rget r Reg.MGMT_EVT_MASK e = 0 && rget r Reg.MGMT_EVT_BEACON e ≠ 0)) && !v.sent.contains e then
    if 64 ≤ v.beaconQ.length || !peelRoute r then (r, v, true)
    else
      let seq := nextSeq (rget r Reg.MGMT_EVT_MISS_SEQ 0)
      let r' := rset r Reg.MGMT_EVT_MISS_SEQ 0 seq
      (r', { v with sent := e :: v.sent, beaconQ := v.beaconQ ++ [eventWords r' e d seq (a.fw || firmwareEvent e) a] }, false)
  else (r, v, false)

/-- The MISS bit of a block is set (R435). Answers the registers, and whether it was clear. -/
def occMiss (b : Nat) (miss : Bool) (r : RegFile) : RegFile × Bool :=
  let m := rget r Reg.MGMT_EVT_MISS_MISS 0
  if miss && bitsN m b b = 0 then (rset r Reg.MGMT_EVT_MISS_MISS 0 (m + 2 ^ b), true) else (r, false)

/-- The fabric's own record of a clock (R6): `x` is done in it. -/
def EvtState.note (v : EvtState) (now x : Nat) : EvtState :=
  { v with fresh := (now, x :: if v.fresh.1 = now then v.fresh.2 else []) }

/-- The same where a condition holds. -/
def EvtState.noteIf (v : EvtState) (c : Bool) (now x : Nat) : EvtState := if c then v.note now x else v

/-- LATCH set and COUNT advanced (R432). -/
def occCount (r : RegFile) (e : Nat) : RegFile := rcount (rset r Reg.MGMT_EVT_LATCH e 1) Reg.MGMT_EVT_COUNT e 1

/-- What an occurrence does on its own account. -/
structure Occ where
  regs : RegFile
  evt : EvtState
  /-- event 25 follows: the first entry dropped in this tick (R437) -/
  drop : Bool
  /-- event 24 follows: the block's MISS bit was clear (R435) -/
  miss : Bool

/-- LATCH, COUNT, log entry, BEACON packet and MISS bit of an occurrence (R432, R433, R435, R437). -/
def occOnce (a : EvtAt) (e d : Nat) (p : RegFile × EvtState) : Occ :=
  let r := occCount p.1 e
  let l := occLog a e r ((refill r p.2 a.now).note a.now e)
  let drop := l.2.2 && !l.2.1.dropped
  let t := occSend a e d l.1 ((if drop then { l.2.1 with dropped := true } else l.2.1).noteIf l.2.2 a.now 4096)
  let miss := l.2.2 || t.2.2
  let m := occMiss (eventBlock e) miss t.1
  ⟨m.1, t.2.1.noteIf miss a.now (2048 + eventBlock e), drop, m.2⟩

/-- One occurrence of an event with the events 25 and 24 that it brings; `fuel` bounds how deep they follow one another. -/
def occur (fuel : Nat) (a : EvtAt) (e d : Nat) (p : RegFile × EvtState) : RegFile × EvtState :=
  match fuel with
  | 0 => p
  | fuel + 1 =>
    let o := occOnce a e d p
    let q := if o.drop then occur fuel a 25 0 (o.regs, o.evt) else (o.regs, o.evt)
    if o.miss then occur fuel a 24 (eventBlock e) q else q

/-- The instant at which an event of this moment is stamped (R353). -/
def State.evtAt (s : State) : EvtAt := ⟨s.tb3.toNat / 1024 * 1024, s.time.last, s.now, false⟩

/-- The registers and the event fabric replaced together. -/
def State.putEvt (s : State) (p : RegFile × EvtState) : State := { s with regs := p.1, evt := p.2 }

/-- An event is raised with a DETAIL (R432, R543). -/
def State.raise (s : State) (e d : Nat) : State := s.putEvt (occur 5 s.evtAt e d (s.regs, s.evt))

/-- An event raised by MP firmware although hardware raises events of its number too: event 75 of a signature block that fails in a
verification the MP performs (R544). -/
def State.raiseFw (s : State) (e d : Nat) : State := s.putEvt (occur 5 { s.evtAt with fw := true } e d (s.regs, s.evt))

/-- An event raised when a condition holds. -/
def State.raiseIf (s : State) (c : Bool) (e d : Nat) : State := if c then s.raise e d else s

/-- An event raised at most once per tick for an element. -/
def State.raiseTick (s : State) (e i d : Nat) : State :=
  if s.evt.once.contains (64 * e + i) then s
  else { s with evt := { s.evt with once := (64 * e + i) :: s.evt.once } }.raise e d

/-- Several events raised in order: event and DETAIL. -/
def State.raises (s : State) : List (Nat × Nat) → State
  | [] => s
  | p :: t => (s.raise p.1 p.2).raises t

/-! ### Answers -/

/-- What a command answers (R420, R422): completion code, DETAIL, reply words. -/
structure Ans where
  code : Nat
  detail : Nat
  words : List Word
  deriving DecidableEq, Repr

/-- DONE with a detail. -/
def Ans.done (d : Nat := 0) : Ans := ⟨0x00, d % 2 ^ 28, []⟩
/-- DONE with reply words. -/
def Ans.reply (ws : List Word) (d : Nat := 0) : Ans := ⟨0x00, d % 2 ^ 28, ws⟩
def Ans.accepted (d : Nat := 0) : Ans := ⟨0x01, d % 2 ^ 28, []⟩
def Ans.busy : Ans := ⟨0x10, 0, []⟩
def Ans.sealed (d : Nat) : Ans := ⟨0x11, d % 2 ^ 28, []⟩
def Ans.stage : Ans := ⟨0x12, 0, []⟩
def Ans.late (d : Nat := 0) : Ans := ⟨0x13, d % 2 ^ 28, []⟩
def Ans.badOpcode : Ans := ⟨0x20, 0, []⟩
def Ans.badParam (d : Nat := 0) : Ans := ⟨0x21, d % 2 ^ 28, []⟩
def Ans.badLength : Ans := ⟨0x22, 0, []⟩
def Ans.denied (d : Nat := 0) : Ans := ⟨0x30, d % 2 ^ 28, []⟩
def Ans.noSession : Ans := ⟨0x31, 0, []⟩
def Ans.stale (d : Nat) : Ans := ⟨0x32, d % 2 ^ 28, []⟩
def Ans.fault (d : Nat := 0) : Ans := ⟨0x40, d % 2 ^ 28, []⟩
def Ans.resource : Ans := ⟨0x41, 0, []⟩

/-- What a handler knows of the command beside its parameters: source, tag, route, arrival port, opcode. -/
structure Ctx where
  opcode : Nat
  src : Source
  tag : Nat
  route : Word
  inPort : Nat
  deriving DecidableEq, Repr

/-- Who is owed the completion of this command. -/
def Ctx.req (c : Ctx) : Req := ⟨c.src, c.opcode, c.tag⟩

/-- The meaning of an opcode: its parameters, its answer, the state after it. -/
abbrev Handler := Ctx → List Word → State → Ans × State

/-- The words of a reply packet (R420). -/
def replyWords (opcode tag : Nat) (a : Ans) : List Word :=
  [pack [(24, opcode), (12, tag), (0, a.words.length)], pack [(28, a.code), (0, a.detail % 2 ^ 28)]] ++ a.words

/-- Where a reply goes, as output destination: transport, address, port, Ethernet port. -/
def Source.dst (x : Source) : List Nat :=
  [match x.via with | .udp => 0 | .spi => 1 | .cawell => 2, x.addr, x.port, x.eth]

/-- The VLAN tag of what a manager sends (R301): VID and PCP; VID 0: untagged. -/
def State.netTag (s : State) : List Nat := [s.r Reg.MGR_ETH_CTRL_VID, s.r Reg.MGR_ETH_CTRL_PCP]

end Sys2Proof.Machine
end

