-- ==== Sys2Proof/Machine/RegOps.lean ====
section
/-! DEFINITION. Reading and writing whole register words by the field tables alone (R4–R9, R429, R430): what a word without
behaviour of its own does. -/

namespace Sys2Proof.Machine

/-- Bits that form a field in some elements of an array and are reserved in others (R7): CAP of MEM_ARB element 3,
PD_GAIN of HEARTH_PHOTO element 3, and every field of TIME_BASE element 3 but TIME and the flags of W5. -/
def reservedHere (f : Fld) (i : Nat) : Bool :=
  (f = Reg.MEM_ARB_CAP && i = 3) || (f = Reg.HEARTH_PHOTO_PD_GAIN && i = 3)
  || (i = 3 && (f = Reg.TIME_BASE_W3_INCR || f = Reg.TIME_BASE_W6_OFFSET || f = Reg.TIME_BASE_W7_OFFSET_IN
      || f.addr = Reg.TIME_BASE_W4_MODE.addr))

/-- The fields that lie in a word, with their element (R4). -/
def fieldsAt (a : Nat) : List (Fld × Nat) :=
  (blockFields (a / 65536)).filterMap (fun f =>
    match f.elem? a with
    | some i => if reservedHere f i then none else some (f, i)
    | none => none)

/-- A word of the register file as its fields stand; WO fields and reserved bits read 0 (R5, R7). -/
def wordOf (r : RegFile) (a : Nat) : Word :=
  pack ((fieldsAt a).filterMap (fun p =>
    if p.1.acc = .WO then none else some (p.1.lo, rget r p.1 p.2)))

/-- A word as READ_REG returns it (R540): commit-class fields from the staged copy, or from the copy in force while
IN_FORCE = 1. -/
def State.wordView (s : State) (a : Nat) : Word :=
  pack ((fieldsAt a).filterMap (fun p =>
    if p.1.acc = .WO then none
    else some (p.1.lo, rget (if p.1.commit && s.rb Reg.KILN_VIEW_SEL_IN_FORCE then s.inForce else s.regs) p.1 p.2)))

/-- Every RW field of a written word lies in its stated range. -/
def wordInRange (a : Nat) (v : Word) : Bool :=
  (fieldsAt a).all (fun p => p.1.acc ≠ .RW || p.1.inRange (bits v p.1.hi p.1.lo))

/-- What a write does to one field (R5): RW takes the value, W1C clears the bits written 1, RO and WO keep theirs. -/
def writeField (r : RegFile) (v : Word) (p : Fld × Nat) : RegFile :=
  match p.1.acc with
  | .RW => rset r p.1 p.2 (bits v p.1.hi p.1.lo)
  | .W1C => rset r p.1 p.2 (rget r p.1 p.2 - (rget r p.1 p.2 &&& bits v p.1.hi p.1.lo))
  | .RO | .WO => r

/-- A word written by the field tables alone. -/
def writeFields (r : RegFile) (v : Word) (l : List (Fld × Nat)) : RegFile := l.foldl (fun x p => writeField x v p) r

/-- The register file after a word is written. -/
def writeRaw (r : RegFile) (a : Nat) (v : Word) : RegFile := writeFields r v (fieldsAt a)

/-- W1C fields that hold flags; every other one holds a count. -/
def flagField (f : Fld) : Bool :=
  f = Reg.MGMT_EVT_LATCH || f = Reg.MGMT_EVT_MISS_MISS || f = Reg.EMIT_FREEZE_FROZEN || f = Reg.EMIT_READBACK_MISMATCH
  || f = Reg.EMIT_READBACK_FAILED || f = Reg.TIME_CAPTURE_W0_LOST || f = Reg.HEARTH_SHUTDOWN_LAST

/-- What the hardware has done to a field in the present clock (R6); 0: nothing. -/
def State.hwDone (s : State) (f : Fld) (i : Nat) : Nat :=
  let l := if s.evt.fresh.1 = s.now then s.evt.fresh.2 else []
  if f = Reg.MGMT_EVT_LATCH then b2n (l.contains i)
  else if f = Reg.MGMT_EVT_COUNT then l.count i
  else if f = Reg.MGMT_LOG_0131_DROPPED then l.count 4096
  else if f = Reg.MGMT_EVT_MISS_MISS then (List.range 14).foldl (fun m b => m + b2n (l.contains (2048 + b)) * 2 ^ b) 0
  else if s.clk.1 = s.now then sget 0 s.clk.2 (f.key i) else 0

/-- What a write does to one field in a clock in which the hardware reached it too (R6): an RW field keeps what the hardware set; of a
W1C field the write clears first, and the hardware's flags or advances come on top. -/
def State.writeNow (s : State) (r : RegFile) (v : Word) (p : Fld × Nat) : RegFile :=
  let n := s.hwDone p.1 p.2
  let x := rget r p.1 p.2
  let b := bits v p.1.hi p.1.lo
  if n = 0 then writeField r v p
  else match p.1.acc with
  | .RW => r
  | .W1C =>
    if flagField p.1 then rset r p.1 p.2 ((x - (x &&& b)) ||| n)
    else rset r p.1 p.2 (satN (2 ^ p.1.width - 1) ((x - n) - ((x - n) &&& b) + n))
  | .RO | .WO => r

/-- The register file after software writes a word in the present clock. -/
def State.written (s : State) (a : Nat) (v : Word) : RegFile := (fieldsAt a).foldl (fun r p => s.writeNow r v p) s.regs

/-- The register file with a change of KILN_GRID or KILN_MOUNT that waits for its tick (R117): what a write is checked against, and
what a read of the two registers returns. -/
def State.planned (s : State) : RegFile :=
  match s.fire.geom with
  | some [g, m] => writeRaw (writeRaw s.regs 0x90020 (word g)) 0x90021 (word m)
  | _ => s.regs

/-- The outcome of one register write: none when it is accepted, else the completion code and detail. -/
abbrev WriteRes := Option (Nat × Nat)

/-- The value a masked write stores (R430). -/
def maskedValue (old mask v : Word) : Word := (old &&& ~~~mask) ||| (v &&& mask)

/-- A word's RW fields alone. -/
def rwWord (r : RegFile) (a : Nat) : Word :=
  pack ((fieldsAt a).filterMap (fun p => if p.1.acc = .RW then some (p.1.lo, rget r p.1 p.2) else none))

/-- Some field marked Yes in its Stamp column would change (R10, R441). -/
def changesStamp (r : RegFile) (a : Nat) (v : Word) : Bool :=
  (fieldsAt a).any (fun p => p.1.stamp && p.1.acc = .RW && rget r p.1 p.2 ≠ bits v p.1.hi p.1.lo)

/-- The address holds an RW field of a block that is on (R438, R504). -/
def hasRW (role a : Nat) : Bool :=
  a < 0xE0000 && blockOn role (a / 65536) && (fieldsAt a).any (fun p => p.1.acc = .RW)

/-- Every field of the blocks named whose class is one of the classes named falls back to its reset value (R8, R9). -/
def loseClasses (r : RegFile) (blocks : List Nat) (classes : List Keep) : RegFile :=
  r.filter (fun p =>
    let a := p.1 / 64
    !(blocks.contains (a / 65536) &&
      (fieldsAt a).any (fun q => q.1.lo = p.1 % 64 && classes.contains q.1.keep)))

/-- The 14 blocks (R11). -/
def allBlocks : List Nat := List.range 14

/-- The registers that exist only in the manager role (R17, spec/13, spec/18): the window LINK:0x2000 onward,
MGMT_AUDIT, MGMT_AUDIT_EXPECT and TIME_PTP. -/
def mgrOnly (a : Nat) : Bool :=
  (0x52000 ≤ a && a ≤ 0x5FFFF) || (0x00400 ≤ a && a < 0x00600) || a = 0x00140 || a = 0x00141
  || (0x40060 ≤ a && a ≤ 0x40065)

/-- The layer and map registers of ENCODE, which belong to the manager role (spec/14). -/
def encLayerReg (a : Nat) : Bool := (0x80010 ≤ a && a < 0x8009C) || (0x80100 ≤ a && a < 0x80200)

/-- The spyhole registers of ENCODE, which belong to the worker role (spec/14). -/
def spyReg (a : Nat) : Bool := a = 0x80200 || a = 0x80201

/-- A register whose access completes with RESOURCE in a role that has its block on (R17, spec/13, spec/14, spec/18). -/
def barredReg (mgr : Bool) (a : Nat) : Bool := if mgr then spyReg a else mgrOnly a || encLayerReg a

end Sys2Proof.Machine
end

