-- ==== Sys2Proof/Machine/Dram.lean ====
section
/-! DEFINITION. DRAM as 36-bit words in checked sectors (R140, R141), its areas (R143, R381), what a failed sector does
(R142, R393), and the gate that every write passes (R143, R149, R150). -/

namespace Sys2Proof.Machine

/-- What a byte of DRAM reads as that nothing has written since the DRAM was powered (DEDUCED, assumption log 4): 0, so that a sector
never written fails its check (R141). -/
def dramByte0 (_ : Nat) : Byte := 0

/-- The 256 bits of a sector: byte k holds bits [8k + 7:8k] (R140). -/
def sectorBits (d : List Host.Cell) (n : Nat) : Nat :=
  (List.range 32).foldr (fun k a => a * 256 + (sget (dramByte0 (32 * n + k)) d (32 * n + k)).toNat) 0

/-- One step of the sector check: the next bit through the 4-bit register (R141). -/
def checkBit (c b : Nat) : Nat :=
  let f := (b + c / 8) % 2
  let c' := c * 2 % 16
  if f = 1 then c' ^^^ 3 else c'

/-- The register after bits `n-1` down to 0. -/
def checkRun (bits : Nat) : Nat → Nat → Nat
  | 0, c => c
  | n + 1, c => checkRun bits n (checkBit c (bits / 2 ^ n % 2))

/-- The sector check over bits [251:0] (R141). -/
def sectorCheck (bits : Nat) : Nat := checkRun bits 252 0 ^^^ 15

/-- The 32 bytes of a sector's bits. -/
def sectorBytes (bits : Nat) : List Byte := (List.range 32).map (fun k => BitVec.ofNat 8 (bits / 2 ^ (8 * k)))

/-- The sector of seven words, its check computed (R140, R141). -/
def sectorOf (ws : List Word) : Nat :=
  let b := (List.range 7).foldr (fun i a => a * 2 ^ 36 + (nthW ws i).toNat) 0
  b + sectorCheck b * 2 ^ 252

/-- The seven words of a sector's bits. -/
def sectorWords (bits : Nat) : List Word := (List.range 7).map (fun i => word (bits / 2 ^ (36 * i)))

/-- The sector passes its check. -/
def sectorGood (d : List Host.Cell) (n : Nat) : Bool :=
  let b := sectorBits d n
  sectorCheck (b % 2 ^ 252) = b / 2 ^ 252

/-- A whole sector written. -/
def writeSector (d : List Host.Cell) (n : Nat) (ws : List Word) : List Host.Cell :=
  ssetRun dramByte0 d (32 * n) (sectorBytes (sectorOf ws))

/-- Word `a` of DRAM, as it stands (R140). -/
def dramWord (d : List Host.Cell) (a : Nat) : Word := nthW (sectorWords (sectorBits d (a / 7))) (a % 7)

/-- A run of words written from word address `a`; a sector covered in part is merged with its old content, and the run
stops at the first such sector whose old content fails its check (R141, R394). `fuel` bounds the sectors. -/
def storeRun : Nat → List Host.Cell → Nat → List Word → List Host.Cell × Option Nat
  | 0, d, _, _ => (d, none)
  | fuel + 1, d, a, ws =>
    if ws.isEmpty then (d, none)
    else
      let n := a / 7
      let pos := a % 7
      let k := min (7 - pos) ws.length
      if k = 7 then storeRun fuel (writeSector d n (ws.take 7)) (a + 7) (ws.drop 7)
      else if sectorGood d n then
        let old := sectorWords (sectorBits d n)
        storeRun fuel (writeSector d n (old.take pos ++ ws.take k ++ old.drop (pos + k))) (a + k) (ws.drop k)
      else (d, some n)

/-- The first sector of a run of words that fails its check. -/
def firstBad (d : List Host.Cell) (a n : Nat) : Option Nat :=
  if n = 0 then none
  else (List.range' (a / 7) ((a + n - 1) / 7 + 1 - a / 7)).find? (fun k => !sectorGood d k)

/-- The words of a run. -/
def dramWords (d : List Host.Cell) (a n : Nat) : List Word := (List.range n).map (fun i => dramWord d (a + i))

/-! ### Areas -/

/-- Sectors of one rank and channel by DENSITY, in units of 2^22 (R378): 4, 6, 8, 12, 16 Gb. -/
def densityGb (c : Nat) : Nat := nth [4, 6, 8, 12, 16] c

/-- Installed sectors: four channels of one or two ranks (R377, R378); none before training. -/
def State.installed (s : State) : Nat :=
  if s.rb Reg.MEM_STATUS_TRAINED then
    4 * (s.r Reg.MEM_STATUS_RANKS + 1) * densityGb (s.r Reg.MEM_STATUS_DENSITY) * 2 ^ 22
  else 0

/-- Sectors of a pool of `count` buffers of `kwords` × 1,024 words (R99). -/
def poolSectors (count kwords : Nat) : Nat := cdiv (count * kwords * 1024) 7

/-- Two runs of sectors share one. -/
def overlap (a n b m : Nat) : Bool := a < b + m && b < a + n && 0 < n && 0 < m

/-- A run of sectors touches a device-owned region (R143, R381): the system and ray areas, the pool as its registers place it and as it
is in force until the next tick, and what a seal keeps in an old place (R102). -/
def State.owned (s : State) (a n : Nat) : Bool :=
  let pool (r : RegFile) : Bool := overlap a n (rget r Reg.DECODE_POOL_BASE_POOL_BASE 0)
    (poolSectors (rget r Reg.DECODE_POOL_CTRL_BUF_COUNT 0) (rget r Reg.DECODE_POOL_CTRL_BUF_KWORDS 0))
  (s.r Reg.MEM_MAP_0002_OWNER_TOP < a + n && 0 < n) || pool s.regs || pool s.emit_.scan
  || s.dec.pics.any (fun (p : Pic) => p.old && overlap (7 * a) (7 * n) p.place p.room)

/-- The defined surfaces whose extent a run of sectors touches. -/
def State.surfsOf (s : State) (a n : Nat) : List Nat :=
  (List.range 256).filter (fun i => s.rb Reg.KILN_SURF_W3_DEFINED i
    && overlap a n (s.r Reg.KILN_SURF_W0_BASE i) (s.r Reg.KILN_SURF_W2_SECTORS i))

/-- The sectors a run of words takes. -/
def sectorsOf (a n : Nat) : Nat := if n = 0 then 0 else (a + n - 1) / 7 + 1 - a / 7

/-! ### Reads -/

/-- A second read of a sector failed: event 390, MEM_SECTOR_LAST and the count (R393). -/
def State.sectorFail (s : State) (req n : Nat) : State :=
  ((s.ws [(Reg.MEM_SECTOR_LAST_REQ, 0, req), (Reg.MEM_SECTOR_LAST_SECTOR, 0, n)]).count Reg.MEM_SECTOR_COUNT_FAILED).raise
    390 n

/-- Sectors whose first read failed for a requester, each with whether the second read passed (R142, R393): event 391 at most once a tick
and the count of the cured ones; the treatment of a failure for the others. -/
def State.readErrs (s : State) (req : Nat) (errs : List (Nat × Bool)) : State :=
  errs.foldl (fun (x : State) e =>
    if e.2 then (x.count Reg.MEM_SECTOR_COUNT_RETRIED).raiseTick 391 0 e.1 else x.sectorFail req e.1) s

/-- The same of reads whose place matters; the failures come back. -/
def State.readFails (s : State) (req : Nat) (errs : List ReadErr) : State × List ReadErr :=
  (s.readErrs req (errs.map (fun e => (e.sector, e.cured))), errs.filter (fun e => !e.cured))

/-- The channel of a sector (R380). -/
def channelOf (n : Nat) : Nat := n / 2 % 4

/-- The channels that a run of `n` words at word address `a` touches, as a mask. -/
def channelsOf (a n : Nat) : Nat :=
  let k := min 8 (sectorsOf a n)
  (List.range 4).foldl (fun m c => if (List.range k).any (fun i => channelOf (a / 7 + i) = c) then m + 2 ^ c else m) 0

/-- The rank of a sector: the bit above the row of its local number (R380). -/
def State.rankOf (s : State) (n : Nat) : Nat :=
  (2 * (n / 8) + n % 2) / (densityGb (s.r Reg.MEM_STATUS_DENSITY) * 2 ^ 22)

/-- Bursts on the channels of a mask, reads or writes, the last of them to sector `n`. -/
def State.bursts (s : State) (wr : Bool) (m n : Nat) : State :=
  { s with mem := { s.mem with
    bus := (List.range 4).map (fun c => if bitsN m c c = 1 then some (wr, s.rankOf n) else s.mem.bus.getD c none) } }

/-- The level the device drives on the DMI balls of a channel (R532): low in writes; in reads it drives none, and no read takes the
level found there. -/
def State.dmi (s : State) (c : Nat) : Option Bool :=
  match s.mem.bus.getD c none with
  | some (true, _) => some false
  | _ => none

/-- The device holds CS1 of a channel low (R532): always with one rank; with two, while its bursts are not rank 1's. -/
def State.cs1Low (s : State) (c : Nat) : Bool :=
  s.r Reg.MEM_STATUS_RANKS = 0 || (s.mem.bus.getD c none).all (fun b => b.2 = 0)

/-- A request wakes the channels it reaches, and their idle time restarts (R390, R391). -/
def State.wakeChannels (s : State) (a n : Nat) : State :=
  let m := channelsOf a n
  let sr := s.r Reg.MEM_STATUS_IN_SR
  let idle := (List.range 4).map (fun c => if bitsN m c c = 1 then s.now else nth s.mem.idleAt c)
  ({ s with mem := { s.mem with idleAt := idle } }.w Reg.MEM_STATUS_IN_SR (sr - (sr &&& m))).bursts false m ((a + n - 1) / 7)

/-- A write's bursts follow what wakes its channels. -/
def State.writeChannels (s : State) (a n : Nat) : State :=
  (s.wakeChannels a n).bursts true (channelsOf a n) ((a + n - 1) / 7)

/-- Traffic that runs over every channel (R380) wakes them all (R390, R391): pictures, the ray buffer, stream queues; `wr`: writes, `n` a
sector of the area it runs in. -/
def State.dramUsed (s : State) (wr : Bool) (n : Nat) : State :=
  if s.rb Reg.MEM_STATUS_TRAINED then
    ({ s with mem := { s.mem with idleAt := List.replicate 4 s.now } }.w Reg.MEM_STATUS_IN_SR 0).bursts wr 15 n
  else s

/-- What a read of an image or a run gives: the words, or the failing sector. -/
inductive Got where
  | ok (ws : List Word)
  | bad (n : Nat)
  deriving DecidableEq, Repr

/-- A run of words read for a requester (R142, R393). -/
def State.readWords (s : State) (req a n : Nat) : Got × State :=
  let s := s.wakeChannels a n
  match firstBad s.dram a n with
  | some k => (.bad k, s.sectorFail req k)
  | none => (.ok (dramWords s.dram a n), s)

/-- An image named by a load command may not reach beyond the installed DRAM nor lie in the system or ray area (R381). -/
def State.imageOk (s : State) (sector words : Nat) : Bool :=
  let n := sectorsOf (7 * sector) words
  sector + n ≤ s.installed && (sector + n ≤ s.r Reg.MEM_MAP_0002_OWNER_TOP)

/-! ### Writes -/

/-- What stands against a write (R143, R149, R150, R394). -/
inductive Gate where
  | bad
  | denied
  | sealed_ (id : Nat)
  | resource
  | queue (ids : List Nat)
  | go (ids : List Nat)
  deriving DecidableEq, Repr

/-- WAIT writes queued (R150). -/
def waitWrites (l : List QWrite) : Nat := (l.filter (fun q => q.wait)).length

/-- The gate of a write that covers runs of words, with its WAIT and FORCE flags (R143, R149, R150): beyond the DRAM, device-owned; a
write behind one in progress on a surface of its waits whatever its flags; a sealed surface by the flags; a write that may go at once
still waits behind those accepted before it. At most 16 WAIT writes wait. -/
def State.gateRuns (s : State) (rs : List (Nat × Nat)) (wait force : Bool) : Gate :=
  if rs.any (fun (r : Nat × Nat) => s.installed < r.1 / 7 + sectorsOf r.1 r.2) then .bad
  else if rs.any (fun (r : Nat × Nat) => s.owned (r.1 / 7) (sectorsOf r.1 r.2)) then .denied
  else
    let ids := (rs.flatMap (fun (r : Nat × Nat) => s.surfsOf (r.1 / 7) (sectorsOf r.1 r.2))).eraseDups
    let shut := ids.filter (fun i => s.rb Reg.KILN_SURF_W3_SEALED i)
    let runs := ids.any (fun i => s.rb Reg.KILN_SURF_W3_WRITING i)
    let busy := runs || ids.any (fun i => s.fire.waitQ.any (fun q => q.surfs.contains i))
    if wait && force && !shut.isEmpty then .bad
    else if !shut.isEmpty && !wait && !force && !runs then .sealed_ (shut.headD 0)
    else if (!shut.isEmpty && wait) || busy then
      if wait && 16 ≤ waitWrites s.fire.waitQ then .resource else .queue ids
    else .go ids

/-- The gate of a write of `n` words at word address `a`. -/
def State.gate (s : State) (a n : Nat) (wait force : Bool) : Gate := s.gateRuns [(a, n)] wait force

/-- The words stored in DRAM by a requester; a partial sector whose old content fails stops the run (R393, R394). -/
def State.store (s : State) (req a : Nat) (ws : List Word) : State × Option Nat :=
  let r := storeRun (ws.length + 1) s.dram a ws
  let s' := { s.writeChannels a ws.length with dram := r.1 }
  match r.2 with
  | some n => (s'.sectorFail req n, some n)
  | none => (s', none)

/-- A write queued behind a seal or another write (R149, R150). -/
def State.queueWrite (s : State) (c : Ctx) (ids : List Nat) (params : List Word) (wait force : Bool) : State :=
  let q := s.fire.waitQ ++ [⟨ids, c.opcode, params, c.req, wait, force⟩]
  { s with fire := { s.fire with waitQ := q }
           regs := rset s.regs Reg.KILN_WRITE_QUEUE_QUEUED 0 (waitWrites q) }

end Sys2Proof.Machine
end

