-- ==== Sys2Proof/Machine/Slots.lean ====
section
/-! DEFINITION. Slot descriptors: what a batch and commits set in a frame's copy, and the descriptor generations (R30, R31, R41, R70,
R71, R105, R542). -/

namespace Sys2Proof.Machine

/-! ### Slot descriptors -/

/-- The commit-class fields of a slot's words 0–7. -/
def slotFields : List Fld :=
  [Reg.KILN_SLOT_W0_ATLAS, Reg.KILN_SLOT_W0_POLICY, Reg.KILN_SLOT_W0_STALE_LIMIT, Reg.KILN_SLOT_W0_PRIO,
   Reg.KILN_SLOT_W0_RANK, Reg.KILN_SLOT_W0_EDGE, Reg.KILN_SLOT_W0_LIVE, Reg.KILN_SLOT_W0_TAINT,
   Reg.KILN_SLOT_W0_KEEP, Reg.KILN_SLOT_W0_ACONST, Reg.KILN_SLOT_W0_ALPHA_CONST, Reg.KILN_SLOT_W1_ATLAS_X,
   Reg.KILN_SLOT_W1_ATLAS_Y, Reg.KILN_SLOT_W2_W_M1, Reg.KILN_SLOT_W2_H_M1, Reg.KILN_SLOT_W2_PRE_LUT,
   Reg.KILN_SLOT_W3_U0, Reg.KILN_SLOT_W4_V0, Reg.KILN_SLOT_W5_SCALE, Reg.KILN_SLOT_W5_DISP_H,
   Reg.KILN_SLOT_W6_DISP_V, Reg.KILN_SLOT_W7_SRC, Reg.KILN_SLOT_W7_SURF_ID]

/-- A slab entry set in a copy: words 0–6 of its slot, and SRC cleared (R71, R210). -/
def applyEntry (copy : RegFile) (e : List Word) : RegFile :=
  let s := bits (nthW e 0) 35 31
  slotFields.foldl (fun r f =>
    let w := f.addr - 0x90100
    if w = 7 then (if f = Reg.KILN_SLOT_W7_SRC then rset r f s 0 else r)
    else rset r f s (bits (nthW e w) f.hi f.lo)) copy

/-- The slots of a set. -/
def slotsIn (set : Nat) : List Nat := (List.range 32).filter (fun i => bitsN set i i = 1)

/-- The slot set of a copy (R542). -/
def slotSet (copy : RegFile) : List Nat := slotsIn (rget copy Reg.KILN_SLOT_SET_SET 0)

/-- A copy names static surface `n` (R542). -/
def namesSurf (copy : RegFile) (n : Nat) : Bool :=
  (slotSet copy).any (fun i => rget copy Reg.KILN_SLOT_W7_SRC i ≠ 0 && rget copy Reg.KILN_SLOT_W7_SURF_ID i = n)

/-- The fields of a commit set in a copy. -/
def applyCommit (r : RegFile) (l : List (Fld × Nat × Nat)) : RegFile := l.foldl (fun x p => rset x p.1 p.2.1 p.2.2) r

/-- What is bound to a frame applied on the copy before it (R31, R70, R71): the batch's entries first, then the commits in
the order of acceptance. -/
def applyInput (copy : RegFile) (i : FrameInput) : RegFile :=
  let c := match i.entries with
    | some es =>
      rset (es.foldl applyEntry copy) Reg.KILN_SLOT_SET_SET 0
        ((es.map (fun e => 2 ^ bits (nthW e 0) 35 31)).foldl (· + ·) 0)
    | none => copy
  i.commits.foldl applyCommit c

/-- The copy of a later frame (R30, R31): the copy in force with everything bound up to that frame applied. -/
def State.copyFor (s : State) (n : Nat) : RegFile :=
  (s.fire.inputs.filter (fun i => i.frame ≤ n)).foldl applyInput s.inForce

/-- A slot whose descriptor a commit changes (R41, R105): a field of its words, or DECODE_ATLAS_CTRL of the atlas it samples in the
copy that results. -/
def commitTouches (copy : RegFile) (l : List (Fld × Nat × Nat)) (i : Nat) : Bool :=
  l.any (fun p =>
    (slotFields.contains p.1 && p.2.1 = i)
    || ((Reg.DECODE_ATLAS_CTRL_MATRIX.elem? (p.1.at p.2.1)).any (fun a =>
      rget copy Reg.KILN_SLOT_W7_SRC i = 0 && rget copy Reg.KILN_SLOT_W0_ATLAS i = a)))

/-- Descriptor generations after what is bound to a frame (R41): a batch advances those of the slots it names, each commit those of the
slots it changes. -/
def inputGens (copy : RegFile) (gens : List Nat) (i : FrameInput) : List Nat :=
  let after := applyInput copy i
  let named := (i.entries.getD []).map (fun e => bits (nthW e 0) 35 31)
  (List.range 32).map (fun k => nth gens k + b2n (named.contains k) + (i.commits.filter (fun l => commitTouches after l k)).length)

/-- The descriptor generations of a later frame (R41). -/
def State.gensFor (s : State) (n : Nat) : List Nat :=
  ((s.fire.inputs.filter (fun i => i.frame ≤ n)).foldl
    (fun (p : RegFile × List Nat) i => (applyInput p.1 i, inputGens p.1 p.2 i)) (s.inForce, s.fire.gens)).2

end Sys2Proof.Machine
end

