-- ==== Sys2Proof/Machine/Stream.lean ====
section
/-! DEFINITION. Slab streams: the intake FIFO, offsets, markers and search, batch headers, chunks and live parcels
(spec/03). -/

namespace Sys2Proof.Machine

/-- The batch marker and the parcel marker (R61). -/
def batchMarker : Word := 0xBA7C400E1
def parcelMarker : Word := 0xBA7C4F5C1

/-- The frame whose firing period is current (R27, R64): that of the next tick. -/
def State.curFrame (s : State) : Nat := if s.time.ticked && !s.time.jump then s.time.last + 1 else s.nextTick

/-- Words of the FIFO items (lost runs hold none). -/
def itemWords : List StreamItem → Nat
  | [] => 0
  | .word _ :: t => 1 + itemWords t
  | .gap _ :: t => itemWords t

/-- The first `n` items, when all are words. -/
def takeWords : Nat → List StreamItem → Option (List Word)
  | 0, _ => some []
  | n + 1, .word w :: t => (takeWords n t).map (w :: ·)
  | _ + 1, _ => none

/-- A lost run lies among the first `n` items. -/
def gapWithin : Nat → List StreamItem → Bool
  | 0, _ => false
  | _ + 1, [] => false
  | _ + 1, .gap _ :: _ => true
  | n + 1, .word _ :: t => gapWithin n t

/-- ENTRY_COUNT of a batch's H1 (R63). -/
def entryCount (h1 : Word) : Nat := bits h1 31 26

/-- The stream word at a place of the FIFO is lost; a lost run keeps its length. -/
def loseWord : Nat → List StreamItem → List StreamItem
  | _, [] => []
  | 0, .word _ :: t => .gap 1 :: t
  | 0, .gap k :: t => .gap k :: t
  | n + 1, .word w :: t => .word w :: loseWord n t
  | n + 1, .gap k :: t => if n + 1 < k then .gap k :: t else .gap k :: loseWord (n + 1 - k) t

/-- Words of a unit header from its marker to its CRC word: a batch's depends on its H1 (R63, R83). -/
def headerLen (f : List StreamItem) : Option Nat :=
  match f with
  | .word m :: t =>
    if m = parcelMarker then some 4
    else if m = batchMarker then
      match t with
      | .word h1 :: _ => some (7 + 7 * entryCount h1)
      | _ => none
    else none
  | _ => none

/-- A header CRC word checks (R62). -/
def headerOk (ws : List Word) : Bool :=
  let n := ws.length - 1
  (nthW ws n).toNat = crcWords ((ws.take n).drop 1)

/-- What stands at the front of the FIFO for a search: a marker accepted, nothing acceptable, or too little to say. -/
inductive Front where
  | accept
  | reject
  | wait
  deriving DecidableEq, Repr

/-- The front of the FIFO under search (R61): a marker followed by a header whose CRC checks. -/
def searchFront (f : List StreamItem) : Front :=
  match f with
  | [] => .wait
  | .gap _ :: _ => .reject
  | .word m :: t =>
    if m = batchMarker ∨ m = parcelMarker then
      match headerLen f with
      | none => if t.isEmpty then .wait else .reject
      | some n =>
        if gapWithin n f then .reject
        else match takeWords n f with
          | none => .wait
          | some ws => if headerOk ws then .accept else .reject
    else .reject

/-- Drop what a search passes over (R61); `fuel` is the length of the FIFO. -/
def searchRun : Nat → List StreamItem → List StreamItem × Bool
  | 0, f => (f, false)
  | fuel + 1, f =>
    match searchFront f with
    | .accept => (f, true)
    | .wait => (f, false)
    | .reject => searchRun fuel (f.drop 1)

/-- The registers that show the parser. -/
def State.showStream (s : State) : State :=
  s.ws [(Reg.DECODE_STREAM_STATUS_FIFO_WORDS, 0, itemWords s.stream.fifo),
    (Reg.DECODE_STREAM_STATUS_IN_BATCH, 0,
      b2n (s.stream.batch.isSome && s.rb Reg.DECODE_STREAM_STATUS_ALIGNED))]

/-- DETAIL of the events that concern a plane picture (R543): sequence 2 × atlas + plane. -/
def picDetail (seq frame : Nat) : Nat := seq / 2 * 2 ^ 34 + seq % 2 * 2 ^ 33 + frame % 2 ^ 28

/-- The chunk sequence of a plane picture ends without LAST (R78): event 461 once, and the picture ends incomplete. -/
def State.endSeq (s : State) (q : ChunkSeq) : State :=
  let s := if q.missing then s else s.raise 461 (picDetail q.seq q.frame)
  { s with stream := { s.stream with
      seqs := s.stream.seqs.filter (fun x => x != q)
      queue := s.stream.queue ++ [⟨q.seq, q.frame, q.live, true, true, false, []⟩] } }

/-- Every open chunk sequence of the batch ends (R78). -/
def State.endBatchSeqs (s : State) : State :=
  (s.stream.seqs.filter (fun q => !q.live)).foldl State.endSeq s

/-- The parser loses alignment (R87): the batch ends and a search begins. -/
def State.loseAlign (s : State) : State :=
  let s := s.endBatchSeqs
  { s with stream := { s.stream with batch := none, lossSearch := true }
           regs := rset s.regs Reg.DECODE_STREAM_STATUS_ALIGNED 0 0 }

/-- A search goes as far as the FIFO allows; an accepted marker aligns the parser, and event 457 is raised when the
search followed a loss (R87). -/
def State.search (s : State) : State :=
  if s.rb Reg.DECODE_STREAM_STATUS_ALIGNED then s
  else
    let r := searchRun s.stream.fifo.length s.stream.fifo
    let s := { s with stream := { s.stream with fifo := r.1 } }
    if r.2 then
      let loss := s.stream.lossSearch
      let off := (s.r Reg.DECODE_STREAM_OFFSET_EXPECTED + 2 ^ 36 - itemWords s.stream.fifo) % 2 ^ 28
      let s := { s with stream := { s.stream with lossSearch := false }
                        regs := rset s.regs Reg.DECODE_STREAM_STATUS_ALIGNED 0 1 }
      s.raiseIf loss 457 off
    else s

/-- A word at a unit boundary that is no marker, or a loss there, ends alignment (R59, R87). -/
def State.atBoundary (s : State) : State :=
  if s.rb Reg.DECODE_STREAM_STATUS_ALIGNED && s.stream.batch.isNone then
    match s.stream.fifo with
    | .word w :: _ => if w = batchMarker ∨ w = parcelMarker then s else s.loseAlign
    | .gap _ :: _ => s.loseAlign
    | [] => s
  else s

/-- After any step of the parser: boundary check, search, registers. -/
def State.settle (s : State) : State := s.atBoundary.search.showStream

/-! ### Packets (R85, R87, R88) -/

/-- Capacity of the intake FIFO (R88). -/
def fifoCap : Nat := 524288

/-- A STREAM packet: WORD_OFFSET and stream words (R85, R87). A packet without stream words is a restart. The words that
the FIFO cannot take are dropped, and the offset expected next is that of the first one dropped, so they count as lost
when the next packet comes (DEDUCED, assumption log 11). A restart discards the words of the FIFO that are still unparsed (DESIGN CHOICE,
assumption log 70). -/
def State.streamPacket (s : State) (payload : List Word) : State :=
  match payload with
  | [] => s
  | off :: ws =>
    if !s.stream.started || ws.isEmpty then
      -- the first packet after reset, or a restart packet, sets the offset; a search follows that raises no RESYNC
      let s := s.endBatchSeqs
      let s := { s with
        stream := { s.stream with started := true, lossSearch := false, batch := none
                                  fifo := (ws.take fifoCap).map StreamItem.word }
        regs := rset (rset s.regs Reg.DECODE_STREAM_STATUS_ALIGNED 0 0) Reg.DECODE_STREAM_OFFSET_EXPECTED 0
          (off.toNat + min ws.length fifoCap) }
      (s.raiseIf (fifoCap < ws.length) 456 0).settle
    else
      let d := (off.toNat + 2 ^ 36 - s.r Reg.DECODE_STREAM_OFFSET_EXPECTED) % 2 ^ 36
      if 2 ^ 35 ≤ d then s
      else
        let s := if d = 0 then s
          else { s with stream := { s.stream with fifo := s.stream.fifo ++ [StreamItem.gap d] } }.raise 455
            (satN 0xFFFFFFF d)
        let room := fifoCap - itemWords s.stream.fifo
        let kept := ws.take room
        let s := { s with
          stream := { s.stream with fifo := s.stream.fifo ++ kept.map StreamItem.word }
          regs := rset s.regs Reg.DECODE_STREAM_OFFSET_EXPECTED 0 (off.toNat + kept.length) }
        (s.raiseIf (kept.length < ws.length) 456 0).settle

/-- Sectors of the FIFO that fail as the parser reads them (R393): `pos` is the place of a sector's first word; its seven words are
lost. -/
def State.fifoFails (s : State) (errs : List ReadErr) : State :=
  let r := s.readFails 7 errs
  r.2.foldl (fun (x : State) e =>
    { x with stream := { x.stream with fifo := (List.range 7).foldl (fun f i => loseWord (e.pos + i) f) x.stream.fifo } }.raise 455 7) r.1

/-- STREAM_PACKET_RECEIVE. -/
def execStreamPacketReceive (words : List Word) (s : State) : Host.Outcome State Fault Refusal :=
  .next (((s.pass 0).dramUsed true (s.r Reg.MEM_MAP_0004_SYS_BASE)).streamPacket words)

/-! ### Batch headers (R63–R71) -/

/-- The 48-bit frame of H1 or L1 and the word after it. -/
def frameOf (h1 h2 : Word) : Nat := bits h1 11 0 * 2 ^ 36 + h2.toNat

/-- The slab entries of a header, seven words each (R68). -/
def entriesOf : Nat → List Word → List (List Word)
  | 0, _ => []
  | n + 1, ws => ws.take 7 :: entriesOf n (ws.drop 7)

/-- An entry breaks R69 by itself. -/
def entryBad (e : List Word) : Bool :=
  let e0 := nthW e 0
  let e1 := nthW e 1
  let e2 := nthW e 2
  bits e0 28 27 = 3
  || 8192 ≤ bits e1 35 23 + bits e2 35 25 || 4352 ≤ bits e1 22 10 + bits e2 24 15
  || bits e1 35 23 % 2 = 1 || (bits e2 35 25 + 1) % 2 = 1
  || bits e1 22 10 % 2 = 1 || (bits e2 24 15 + 1) % 2 = 1

/-- Two entries break R69 together: the same slot, or the same atlas with different LIVE. -/
def entriesClash (a b : List Word) : Bool :=
  let x := nthW a 0
  let y := nthW b 0
  bits x 35 31 = bits y 35 31 || (bits x 30 29 = bits y 30 29 && bits x 12 12 ≠ bits y 12 12)

/-- Some pair of entries clashes. -/
def anyClash : List (List Word) → Bool
  | [] => false
  | e :: t => t.any (entriesClash e) || anyClash t

/-- The entries of a batch are invalid (R69). -/
def entriesBad (h1 : Word) (es : List (List Word)) : Bool :=
  32 < entryCount h1 || bits h1 35 32 ≠ 1 || es.any entryBad || anyClash es

/-- The instant the commit window of frame `n` closes, in units of 1/16,384 ns on TB3 (R29). -/
def State.windowEnd (s : State) (n : Nat) : Int :=
  s.plannedAt (n - 1) - us (s.es Reg.KILN_FRAME_CTRL_COMMIT_LEAD)

/-- The commit window of a frame is open. -/
def State.windowOpen (s : State) (n : Nat) : Bool := s.curFrame < n && s.tb3 < s.windowEnd n

/-- The earliest frame whose window is open (R30): the next frame, or the one after it when its window has closed. -/
def State.earliestOpen (s : State) : Nat :=
  let n := s.curFrame + 1
  if s.tb3 < s.windowEnd n then n else n + 1

/-- The input of a frame, new or as it stands. -/
def inputFor (l : List FrameInput) (n : Nat) : FrameInput :=
  (l.find? (fun x => x.frame = n)).getD ⟨n, none, none, []⟩

/-- The inputs with one frame's replaced, in the order of frames. -/
def putInput (l : List FrameInput) (i : FrameInput) : List FrameInput :=
  l.filter (fun x => x.frame < i.frame) ++ [i] ++ l.filter (fun x => i.frame < x.frame)

/-- The entries of a batch are bound to its frame with the batch's epoch (R65, R71); none for the empty set after END (R70). -/
def State.bindEntries (s : State) (n : Nat) (epoch : Option Nat) (es : List (List Word)) : State :=
  let i := inputFor s.fire.inputs n
  { s with fire := { s.fire with inputs := putInput s.fire.inputs { i with entries := some es, epoch := epoch } } }

/-- A batch made for a later epoch than any the worker knows (R448): event 12, at most once in 16 ticks. -/
def State.behind (s : State) (epoch : Nat) : State :=
  let closed := if s.rb Reg.MGMT_BAKE_PEND_0116_CLOSED then s.r Reg.MGMT_BAKE_PEND_0118_EPOCH else 0
  if s.r Reg.MGMT_BAKE_EPOCH_EPOCH < epoch && closed < epoch
      && (match s.bake.behindAt with | none => true | some t => t + 16 ≤ s.time.last) then
    { s with bake := { s.bake with behindAt := some s.time.last } }.raise 12 (epoch % 2 ^ 28)
  else s

/-- The epoch check of the frame whose firing period begins (R65), against the bake epoch in force at its tick: entries of another epoch
are not applied, event 452; those that stand are applied (R71), as DECODE_STREAM_STATUS and DECODE_STREAM_FRAME show. Entries applied to
the very frame at which the slot set would have become empty take the place of the stream's end (R70). -/
def State.checkEpoch (s : State) (n : Nat) : State :=
  let i := inputFor s.fire.inputs n
  match i.entries, i.epoch with
  | some es, some e =>
    if s.es Reg.DECODE_STREAM_CTRL_EPOCH_CHECK ≠ 0 && e ≠ 0 && e ≠ s.r Reg.MGMT_BAKE_EPOCH_EPOCH then
      let left := if s.stream.endAt.any (fun p => p.1 = n) then some [] else none
      { s with fire := { s.fire with inputs := putInput s.fire.inputs { i with entries := left, epoch := none } } }.raise 452
        (n % 2 ^ 28)
    else
      { s with
        fire := { s.fire with inputs := putInput s.fire.inputs { i with epoch := none } }
        stream := { s.stream with applied := n, endAt := s.stream.endAt.filter (fun p => p.1 ≠ n) } }.w Reg.DECODE_STREAM_STATUS_ENTRIES es.length
  | _, _ => s

/-- The epoch checks owed up to a frame: its own, and those of frames that a jump has passed over. -/
def State.checkEpochs (s : State) (n : Nat) : State :=
  ((s.fire.inputs.filter (fun i => i.frame ≤ n)).map (fun i => i.frame)).foldl State.checkEpoch s

/-- PRESENT differs from TB3 at tick FRAME, as the schedule planned for it gives it (R363), by more than PRESENT_TOL (R66). The own time
counts in whole nanoseconds, its fraction cut off (DESIGN CHOICE, assumption log 70). -/
def State.presentOff (s : State) (n : Nat) (h4 h5 : Word) : Bool :=
  let tol := s.es Reg.DECODE_STREAM_CTRL_PRESENT_TOL
  let t := (s.plannedAt n).toNat
  let day := 2 ^ 32 * 1000000000
  let own := t / secUnits % 2 ^ 32 * 1000000000 + t / 16384 % 1000000000
  let said := bits h4 31 0 * 1000000000 + bits h5 29 0
  let d := (own + day - said % day) % day
  tol ≠ 0 && tol * 1000 < min d (day - d)

/-- From frame `n` on every sequence owes an IRAP picture (R64, R102): NEED_IRAP. -/
def State.needIrap (s : State) (n : Nat) : State :=
  { s with dec := { s.dec with needAt := s.dec.needAt.map (fun l => n :: l) } }.ws
    ((List.range 8).map (fun i => (Reg.DECODE_SEQ_STATUS_NEED_IRAP, i, 1)))

/-- A batch that passed its CRC, the order and horizon checks (R64–R71, R448). -/
def State.takeBatch (s : State) (ws : List Word) : State :=
  let h1 := nthW ws 1
  let n := frameOf h1 (nthW ws 2)
  let det := n % 2 ^ 28
  let disc := bit h1 25
  let es := entriesOf (entryCount h1) (ws.drop 6)
  let epoch := (nthW ws 3).toNat
  -- R64: frames skipped
  let s := match s.stream.last with
    | some l => s.raiseIf (l + 1 < n && !disc) 448 ((l + 1) % 2 ^ 28)
    | none => s
  let s := if disc then (s.raise 465 det).needIrap n else s
  let s := { s with stream := { s.stream with last := some n, parsed := s.stream.parsed ++ [n] } }
  let s := s.behind epoch
  let late := !s.windowOpen n
  let bad := entriesBad h1 es
  let s := s.raiseIf (s.presentOff n (nthW ws 4) (nthW ws 5)) 453 det
  let s := s.raiseIf late 740 det
  let s := s.raiseIf bad 451 det
  let s :=
    if late || bad then s
    else s.bindEntries n (some epoch) es
  -- R70: the end of the stream
  let s :=
    if bit h1 24 then
      let e := max (n + 1) s.earliestOpen
      { s.bindEntries e none [] with stream := { s.stream with endAt := some (e, n) } }
    else s
  { s with stream := { s.stream with batch := some ⟨n, some (bits h1 23 12), false⟩ } }

/-- The parser takes a batch header at the front of the FIFO (R63, R64, R67). -/
def State.parseBatch (s : State) (ws : List Word) (rest : List StreamItem) : State :=
  let s := s.endBatchSeqs
  let s := { s with stream := { s.stream with fifo := rest, batch := none } }
  let h1 := nthW ws 1
  let n := frameOf h1 (nthW ws 2)
  let det := n % 2 ^ 28
  if !headerOk ws then
    -- R67: FRAME as read serves the chunks alone, until the next batch marker; a parcel marker does not end them (R84; DEDUCED,
    -- assumption log 70)
    { s.raise 454 det with stream := { (s.raise 454 det).stream with batch := some ⟨n, none, false⟩ } }
  else
    let dup := match s.stream.last with | some l => n ≤ l | none => false
    let early := s.curFrame + s.es Reg.DECODE_STREAM_CTRL_HORIZON < n
    if dup || early then
      let s := s.raise (if dup then 449 else 450) det
      { s with stream := { s.stream with batch := some ⟨n, some (bits h1 23 12), true⟩ } }
    else s.takeBatch ws

/-- A batch whose chunks have all come is closed (R78). -/
def State.closeBatch (s : State) : State :=
  match s.stream.batch with
  | some b =>
    if b.left = some 0 then
      let s := s.endBatchSeqs
      { s with stream := { s.stream with batch := none } }
    else s
  | none => s

/-- The batch header at the front of the FIFO parsed, when it is there whole. -/
def State.headerParse (s : State) : State :=
  match s.stream.fifo with
  | .word m :: _ =>
    if m = batchMarker && s.rb Reg.DECODE_STREAM_STATUS_ALIGNED then
      match headerLen s.stream.fifo with
      | none => s
      | some n =>
        if gapWithin n s.stream.fifo then s.loseAlign.settle
        else match takeWords n s.stream.fifo with
          | none => s
          | some ws => ((s.parseBatch ws (s.stream.fifo.drop n)).closeBatch).settle
    else s
  | _ => s

/-! ### Chunks (R77–R82) -/

/-- How many stream words a run of items stands for, lost ones included, and what is left after `n` of them: none when
the items do not reach so far. -/
def dropSpan : Nat → List StreamItem → Option (List StreamItem × Bool)
  | 0, f => some (f, false)
  | _ + 1, [] => none
  | n + 1, .word _ :: t => dropSpan n t
  | n + 1, .gap k :: t =>
    -- a loss inside the span; one that reaches beyond it is the caller's
    if k ≤ n + 1 then (dropSpan (n + 1 - k) t).map (fun p => (p.1, true)) else none

/-- The lost run that begins within the first `n` items reaches beyond them. -/
def gapBeyond : Nat → List StreamItem → Bool
  | 0, _ => false
  | _ + 1, [] => false
  | n + 1, .word _ :: t => gapBeyond n t
  | n + 1, .gap k :: t => if k ≤ n + 1 then gapBeyond (n + 1 - k) t else true

/-- The additional authenticated data of R80. -/
def chunkAad (x y frame : Nat) (c0 c1 : Word) : List Byte :=
  packBytes [pack [(29, x), (22, y), (0, frame / 2 ^ 36)], word frame, c0, c1]

/-- 32-bit fields as bytes. -/
def be32 (ws : List Word) : List Byte :=
  ws.flatMap (fun w => (List.range 4).map (fun i => BitVec.ofNat 8 (w.toNat / 2 ^ (8 * (3 - i)))))

/-- A content key by its identifier (R463); none is loaded while CLAIM = 1 (R464). -/
def State.contentKey (s : State) (id : Nat) : Option ContentKey :=
  if s.rb Reg.MGMT_STRAPS_CLAIM then none else s.sec.store.keys.find? (fun k => k.keyId = id)

/-- What becomes of a picture chunk's payload (R80, R81): the plaintext, or the event of its refusal. -/
def State.openChunk (s : State) (frame : Nat) (ws : List Word) : Option (List Word) × Option Nat :=
  let c0 := nthW ws 0
  let c1 := nthW ws 1
  let n := bits c1 13 0
  let id := bits c0 23 12
  let pay := (ws.drop 5).take n
  if id = 0 then
    if s.es Reg.DECODE_STREAM_CTRL_CLEAR_OK ≠ 0 then (some pay, none) else (none, some 460)
  else
    match s.contentKey id with
    | none => (none, some 458)
    | some k =>
      if !s.rb Reg.LINK_POS_PLACED then (none, some 459)
      else
        match Config.gcmOpen k.key (be32 ((ws.drop 2).take 3))
            (chunkAad (s.r Reg.LINK_POS_X) (s.r Reg.LINK_POS_Y) frame c0 c1)
            (packBytes pay) (be32 ((ws.drop (5 + n)).take 4)) with
        | some b => (some (unpackBytes b), none)
        | none => (none, some 459)

/-- The bytes of a stream cut before each start code 0x000001: first what stands before any (H.265 Annex B). -/
def cutStarts : List Byte → List (List Byte)
  | [] => [[]]
  | a :: b :: c :: t =>
    if a = 0 ∧ b = 0 ∧ c = 1 then [] :: cutStarts t
    else
      match cutStarts (b :: c :: t) with
      | l :: ls => (a :: l) :: ls
      | [] => [[a]]
  | a :: t =>
    match cutStarts t with
    | l :: ls => (a :: l) :: ls
    | [] => [[a]]

/-- Zero bytes at the end dropped: the zero byte of the next start code, and trailing zero bytes. -/
def dropZeros (l : List Byte) : List Byte := (l.reverse.dropWhile (fun b => b = 0)).reverse

/-- The NAL units of a chunk's plaintext (R79): what stands between start codes, without the zero bytes after it. Bytes before the first
start code that are not zero are an invalid start code (R107): they make a unit whose forbidden_zero_bit is 1. -/
def nalUnits (b : List Byte) : List (List Byte) :=
  match cutStarts b with
  | [] => []
  | l :: ls =>
    let before := dropZeros l
    (if before.isEmpty then [] else [(0x80 : Byte) :: before]) ++ (ls.map dropZeros).filter (fun n => !n.isEmpty)

/-- A picture chunk enters its plane picture's sequence (R78, R81): `got` is the plaintext, none for a chunk discarded or
lost. -/
def State.chunkInto (s : State) (seq frame idx : Nat) (live last : Bool) (got : Option (List Word)) : State :=
  -- a live sequence left open by an earlier frame ends (R78)
  let s := (s.stream.seqs.filter (fun q => q.seq = seq && q.live = live && q.frame ≠ frame)).foldl State.endSeq s
  let q := (s.stream.seqs.find? (fun q => q.seq = seq && q.live = live)).getD ⟨seq, frame, live, 0, false⟩
  let gone := idx ≠ q.next || got.isNone
  let s := s.raiseIf (gone && !q.missing) 461 (picDetail seq frame)
  let missing := q.missing || gone
  let rest := s.stream.seqs.filter (fun x => !(x.seq = seq && x.live = live))
  { s with stream := { s.stream with
      seqs := if last then rest else rest ++ [⟨seq, frame, live, idx + 1, missing⟩]
      queue := s.stream.queue ++ [⟨seq, frame, live, last, got.isNone, !missing, nalUnits (packBytes (got.getD []))⟩] } }

/-- The plane picture that a chunk header names: sequence 2 × atlas + plane. -/
def seqOf (c0 : Word) : Nat := bits c0 31 30 * 2 + bits c0 29 29

/-- One whole chunk taken (R77–R82): `clean` forbids cleartext without event 460 (R67). -/
def State.takeChunk (s : State) (frame : Nat) (live broken : Bool) (ws : List Word) : State :=
  let c0 := nthW ws 0
  let ctype := bits c0 35 32
  let seq := seqOf c0
  if ctype = 0 then s
  else if ctype ≠ 1 then s.raise 462 (picDetail seq frame)
  else
    let r := s.openChunk frame ws
    let clear := bits c0 23 12 = 0
    let got := if broken && clear then none else r.1
    let s := match r.2 with
      | some e => s.raiseIf (!(broken && e = 460)) e (picDetail seq frame)
      | none => s
    s.chunkInto seq frame (bits c0 11 0) live (bit c0 28) got

/-- The chunk whose C0 and C1 stand at the front of `f`: how the parser goes on. -/
inductive ChunkAt where
  /-- too little has arrived -/
  | wait
  /-- a marker stands where the chunk was due -/
  | marker
  /-- the parser loses alignment -/
  | lose
  /-- a chunk header with an impossible PAY_WORDS -/
  | broken (c0 : Word)
  /-- lost words lie wholly inside it -/
  | hole (c0 : Word) (rest : List StreamItem)
  /-- the whole chunk -/
  | whole (ws : List Word) (rest : List StreamItem)
  deriving DecidableEq, Repr

/-- What stands where a chunk is due (R77, R82, R84, R87). -/
def chunkAt (f : List StreamItem) : ChunkAt :=
  match f with
  | [] => .wait
  | .gap _ :: _ => .lose
  | .word c0 :: t =>
    if c0 = batchMarker ∨ c0 = parcelMarker then .marker
    else
      match t with
      | [] => .wait
      | .gap _ :: _ => .lose
      | .word c1 :: _ =>
        let n := bits c1 13 0
        if n % 2 = 1 ∨ n < 2 ∨ 8192 < n then .broken c0
        else if gapBeyond (9 + n) f then .lose
        else
          match dropSpan (9 + n) f with
          | none => .wait
          | some (rest, true) => .hole c0 rest
          | some (rest, false) =>
            match takeWords (9 + n) f with
            | some ws => .whole ws rest
            | none => .wait

/-- A chunk of which words are lost (R78, R82, R87): missing where it is a picture chunk; event 462 for a reserved type. -/
def State.holeChunk (s : State) (frame : Nat) (live : Bool) (c0 : Word) : State :=
  if bits c0 35 32 = 0 then s
  else if bits c0 35 32 ≠ 1 then s.raise 462 (picDetail (seqOf c0) frame)
  else s.chunkInto (seqOf c0) frame (bits c0 11 0) live (bit c0 28) none

/-- A chunk whose length cannot be trusted (R77): it is missing, and with it the rest of the plane picture it would continue. -/
def State.brokenChunk (s : State) (frame : Nat) (live : Bool) (c0 : Word) : State :=
  if bits c0 35 32 ≠ 1 then s
  else
    let s := s.chunkInto (seqOf c0) frame (bits c0 11 0) live (bit c0 28) none
    (s.stream.seqs.filter (fun q => q.seq = seqOf c0 && q.live = live)).foldl State.endSeq s

/-- A chunk counts toward its batch (R78, R82). -/
def State.countChunk (s : State) : State :=
  match s.stream.batch with
  | some b => { s with stream := { s.stream with batch := some { b with left := b.left.map (· - 1) } } }
  | none => s

/-- The chunk at the front of an open batch (R77–R82, R87). -/
def State.batchChunk (s : State) (b : OpenBatch) : State :=
  match chunkAt s.stream.fifo with
  | .wait | .marker => s
  | .lose => s.loseAlign
  | .broken c0 => (if b.skip then s else s.brokenChunk b.frame false c0).loseAlign
  | .hole c0 rest =>
    let s := { s with stream := { s.stream with fifo := rest } }
    (if b.skip then s else s.holeChunk b.frame false c0).countChunk.closeBatch
  | .whole ws rest =>
    let s := { s with stream := { s.stream with fifo := rest } }
    let s := if b.skip then s else s.takeChunk b.frame false b.left.isNone ws
    s.countChunk.closeBatch

/-- CHUNK_RECEIVE: the chunk that stands at the front of the FIFO inside a batch. -/
def execChunkReceive (s : State) (errs : List ReadErr := []) : Host.Outcome State Fault Refusal :=
  let s := (s.pass 0).fifoFails errs
  .next (
    match s.stream.batch with
    | some b => if s.rb Reg.DECODE_STREAM_STATUS_ALIGNED then (s.batchChunk b).settle else s
    | none => s)

/-! ### Live parcels (R83, R84) -/

/-- A frame has been presented, or its time has passed (R84): its tick is over and it does not await its swap. A repeated or abandoned
frame counts as presented (DESIGN CHOICE, assumption log 70). -/
def State.presented (s : State) (n : Nat) : Bool := n < s.curFrame && s.emit_.await ≠ some n

/-- A parcel header and its chunk (R83, R84): the header CRC, the version, the chunk of frame FRAME. A header whose CRC fails while the
parser is aligned gives no unit that can be trusted: after event 454 the parser loses alignment (DESIGN CHOICE, assumption log 70). -/
def State.takeParcel (s : State) (hd : List Word) (rest : List StreamItem) : State :=
  let n := frameOf (nthW hd 1) (nthW hd 2)
  let det := n % 2 ^ 28
  let known := bits (nthW hd 1) 35 32 = 1
  if !headerOk hd then ({ s with stream := { s.stream with fifo := rest } }.raise 454 det).loseAlign
  else
    let late := known && s.presented n
    match chunkAt rest with
    | .wait => s
    | .marker => { s with stream := { s.stream with fifo := rest } }
    | .lose => { s with stream := { s.stream with fifo := rest } }.loseAlign
    | .broken c0 =>
      let s := { s with stream := { s.stream with fifo := rest } }
      (if known then s.brokenChunk n true c0 else s).loseAlign
    | .hole c0 r =>
      let s := { s with stream := { s.stream with fifo := r } }
      if known then (s.raiseIf late 463 det).holeChunk n true c0 else s.raise 462 (picDetail (seqOf c0) n)
    | .whole ws r =>
      let s := { s with stream := { s.stream with fifo := r } }
      if known then (s.raiseIf late 463 det).takeChunk n true false ws else s.raise 462 (picDetail (seqOf (nthW ws 0)) n)

/-- LIVE_PARCEL_RECEIVE: the parcel that stands at the front of the FIFO. -/
def execLiveParcelReceive (s : State) (errs : List ReadErr := []) : Host.Outcome State Fault Refusal :=
  let s := (s.pass 0).fifoFails errs
  .next (
    match s.stream.fifo with
    | .word m :: _ =>
      if m = parcelMarker && s.rb Reg.DECODE_STREAM_STATUS_ALIGNED then
        if gapWithin 4 s.stream.fifo then s.loseAlign.settle
        else match takeWords 4 s.stream.fifo with
          | none => s
          | some hd => (s.takeParcel hd (s.stream.fifo.drop 4)).settle
      else s
    | _ => s)

end Sys2Proof.Machine
end

