-- ==== Sys2Proof/Machine/Decoder.lean ====
section
/-! DEFINITION. Slab decoding: pictures, the pool and its marks, damage, concealment, missing references and taint, and the
texel formed from decoded samples (spec/04). The H.265 syntax reaches the model as operands (PicHead, SliceOut). -/

namespace Sys2Proof.Machine

/-! ### What the decoder accepts (R91, R92) -/

/-- A 10-bit sequence. -/
def PicHead.depth10 (h : PicHead) : Bool := h.depth = 10

/-- The profile allows the plane and its chroma format (R91): Main is for colour alone. -/
def PicHead.inProfile (h : PicHead) (alpha : Bool) : Bool :=
  match h.profile with
  | 0 => !alpha && h.chroma = 1 && h.depth = 8
  | 1 => h.chroma = 1
  | 2 => h.chroma ≤ 2
  | 3 => h.chroma ≤ 3
  | 4 => h.chroma = 0
  | _ => false

/-- The sequence is supported (R74, R91, R92): its profile, none of the refused values, 8 or 10 bits, and the device's own limits. Tier and
level play no part. -/
def PicHead.supported (h : PicHead) (alpha : Bool) : Bool :=
  h.inProfile alpha && (h.depth = 8 || h.depth = 10) && !h.wpp && !h.sepPlanes && !h.extPrec && !h.bypassAlign
  && h.width ≤ 8192 && h.height ≤ 4352 && h.dpb ≤ 15

/-- nal_unit_type, nuh_layer_id, nuh_temporal_id_plus1 of a NAL unit's header. -/
def nalType (n : List Byte) : Nat := (n.getD 0 0).toNat / 2 % 64
def nalLayer (n : List Byte) : Nat := (n.getD 0 0).toNat % 2 * 32 + (n.getD 1 0).toNat / 8
def nalTid (n : List Byte) : Nat := (n.getD 1 0).toNat % 8

/-- first_slice_segment_in_pic_flag of a slice segment's NAL unit. -/
def firstSlice (n : List Byte) : Bool := 128 ≤ (n.getD 2 0).toNat

/-- A sequence of bytes that the byte stream forbids inside a NAL unit: 000000, 000002, or 000003 before a byte above 3 (R107). -/
def badEmulation : List Byte → Bool
  | a :: b :: c :: t =>
    (a = 0 && b = 0 && (c = 0 || c = 2 || (c = 3 && (match t with | d :: _ => 3 < d.toNat | [] => false))))
    || badEmulation (b :: c :: t)
  | _ => false

/-- A NAL unit whose header or byte stream is invalid (R107, 0x01). -/
def badNal (n : List Byte) : Bool :=
  128 ≤ (n.getD 0 0).toNat || n.length < 2 || nalTid n = 0 || badEmulation n

/-- A NAL unit of a slice segment of the base layer; every other one is passed over (R92): its content acts only through the operands. -/
def sliceNal (n : List Byte) : Bool := nalType n < 32 && nalLayer n = 0

/-- IRAP, CRA, BLA and RASL pictures by their NAL unit type (H.265). -/
def irapType (t : Nat) : Bool := 16 ≤ t && t ≤ 23
def craType (t : Nat) : Bool := t = 21
def blaType (t : Nat) : Bool := 16 ≤ t && t ≤ 18
def raslType (t : Nat) : Bool := t = 8 || t = 9

/-! ### Geometry and samples -/

/-- Chroma subsampling across and down: 4:0:0, 4:2:0, 4:2:2, 4:4:4. -/
def subW (chroma : Nat) : Nat := if chroma = 1 ∨ chroma = 2 then 2 else 1
def subH (chroma : Nat) : Nat := if chroma = 1 then 2 else 1

/-- Words of a picture (R99). -/
def picWords (w h chroma : Nat) : Nat :=
  h * cdiv w 3 + (if chroma = 0 then 0 else 2 * (h / subH chroma) * cdiv w (3 * subW chroma))

/-- The key of a sample of component 0–2. -/
def sampleKey (c x y : Nat) : Nat := c * 2 ^ 26 + y * 2 ^ 13 + x

/-- A decoded sample. -/
def sampleAt (l : List (Nat × Nat)) (c x y : Nat) : Nat := sget 0 l (sampleKey c x y)

/-- CTUs across and in all of a picture. -/
def ctusAcross (h : PicHead) : Nat := cdiv h.width h.ctu
def ctuCount (h : PicHead) : Nat := ctusAcross h * cdiv h.height h.ctu

/-- The samples of one CTU: component, x, y (R108). -/
def ctuSamples (h : PicHead) (a : Nat) : List (Nat × Nat × Nat) :=
  let cx := a % ctusAcross h * h.ctu
  let cy := a / ctusAcross h * h.ctu
  let comp (c sw sh : Nat) : List (Nat × Nat × Nat) :=
    (List.range' (cy / sh) (min (h.ctu / sh) (h.height / sh - cy / sh))).flatMap (fun y =>
      (List.range' (cx / sw) (min (h.ctu / sw) (h.width / sw - cx / sw))).map (fun x => (c, x, y)))
  comp 0 1 1 ++ (if h.chroma = 0 then [] else
    comp 1 (subW h.chroma) (subH h.chroma) ++ comp 2 (subW h.chroma) (subH h.chroma))

/-- The full-range flag in force for a sequence: that of the atlas's colour VUI, or its override (R104, R108). -/
def State.fullRange (s : State) (copy : RegFile) (atlas : Nat) : Bool :=
  match rget copy Reg.DECODE_ATLAS_CTRL_RANGE atlas with
  | 1 => false
  | 2 => true
  | _ => (s.dec.vui.getD (2 * atlas) (false, none)).1

/-- The default fill of a component (R108). -/
def fillValue (alpha depth10 full : Bool) (c : Nat) : Nat :=
  if c = 0 then (if alpha || full then 0 else if depth10 then 64 else 16)
  else if depth10 then 512 else 128

/-- Samples written into a picture. -/
def putSamples (l : List (Nat × Nat)) (ps : List (Nat × Nat)) : List (Nat × Nat) :=
  ps.foldl (fun a p => sset 0 a p.1 p.2) l

/-! ### The pool -/

/-- A picture bears a mark (R100). -/
def Pic.marked (p : Pic) : Bool := p.ref || p.latest || p.comp || p.frm || p.sealAt.isSome

/-- A synthetic picture's source bears REF on its behalf (R110). -/
def DecState.onBehalf (d : DecState) (p : Pic) : Bool := d.synths.any (fun x => x.src = some p.id)

/-- A picture bears REF, for itself or for a synthetic picture. -/
def DecState.isRef (d : DecState) (p : Pic) : Bool := p.ref || d.onBehalf p

/-- Buffers of the pool that hold no picture and are not being decoded into (R99, R100): BUF_COUNT buffers from POOL_BASE on, as the
registers are in force since the last tick (R102). A buffer that reaches into one that a seal still keeps in its old place is not free. -/
def State.freeBufs (s : State) : List (Nat × Nat) :=
  let room := 1024 * s.es Reg.DECODE_POOL_CTRL_BUF_KWORDS
  let busy := s.dec.pics.map (fun (p : Pic) => (p.place, p.room))
    ++ (s.dec.prog.filterMap id).filterMap (fun (p : Prog) => if p.dropped then none else some (p.place, p.room))
  ((List.range (s.es Reg.DECODE_POOL_CTRL_BUF_COUNT)).map (fun b =>
    (7 * s.es Reg.DECODE_POOL_BASE_POOL_BASE + b * room, room))).filter (fun x => !busy.any (fun y => overlap x.1 x.2 y.1 y.2))

/-- A STAMP job that runs reads the picture (R480). -/
def State.stamped (s : State) (p : Pic) : Bool := s.eng.stamp.any (fun j => j.started && j.pics.contains p.id)

/-- The buffer of a picture bears SEAL: for a frame, or for a STAMP job (R147, R480). -/
def State.sealedPic (s : State) (p : Pic) : Bool := p.sealAt.isSome || s.stamped p

/-- Pictures that bear no mark give their buffer back (R100). -/
def State.prune (s : State) : State :=
  { s with dec := { s.dec with pics := s.dec.pics.filter (fun p => p.marked || s.dec.onBehalf p || s.stamped p) } }

/-- The registers that show the pool and the sequences. -/
def State.showPool (s : State) : State :=
  let ps := s.dec.pics
  let own := ps.filter (fun p => !p.old)
  s.ws ([(Reg.DECODE_POOL_STATUS_FREE, 0, s.freeBufs.length),
    (Reg.DECODE_POOL_STATUS_REF, 0, (own.filter s.dec.isRef).length),
    (Reg.DECODE_POOL_STATUS_SEALED, 0, (ps.filter s.sealedPic).length),
    (Reg.DECODE_POOL_STATUS_FRAME, 0, (own.filter (·.frm)).length)]
    ++ (List.range 8).map (fun q =>
      (Reg.DECODE_SEQ_STATUS_REFS, q, ((own.filter (fun p => s.dec.isRef p && p.seq = q)).length))))

/-- The picture that bears LATEST for a sequence. -/
def State.latest (s : State) (seq : Nat) : Option Pic := s.dec.pics.find? (fun p => p.seq = seq && p.latest)

/-- A picture by its number. -/
def State.pic (s : State) (id : Nat) : Option Pic := s.dec.pics.find? (fun p => p.id = id)

/-- A picture has the geometry of a picture being decoded. -/
def sameShape (p : Pic) (h : PicHead) : Bool :=
  p.width = h.width && p.height = h.height && p.chroma = h.chroma && p.depth10 = h.depth10

/-- A named error recorded (R107); codes 0x01–0x04 and 0x06–0x0C raise event 467, 0x05 event 468, 0x0D event 477, 0x0E
event 476, 0x0F none. -/
def State.decErr (s : State) (code seq frame addr : Nat) : State :=
  let s := s.ws [(Reg.DECODE_ERR_LAST_CODE, 0, code), (Reg.DECODE_ERR_LAST_ATLAS, 0, seq / 2),
    (Reg.DECODE_ERR_LAST_PLANE, 0, seq % 2), (Reg.DECODE_ERR_LAST_CTU_ADDR, 0, addr),
    (Reg.DECODE_ERR_FRAME_FRAME_LO, 0, frame)]
  let d := picDetail seq frame
  if code = 0x05 then s.raise 468 d
  else if code = 0x0D then s.raise 477 d
  else if code = 0x0E then s.raise 476 d
  else if code = 0x0F then s
  else s.raise 467 d

/-- The picture in progress of a sequence replaced. -/
def State.setProg (s : State) (seq : Nat) (p : Option Prog) : State :=
  { s with dec := { s.dec with prog := setNth s.dec.prog seq p } }

/-- The decoding of a chunk is in the plan (R53, R96): of a live one always; of a batch due within the next two ticks as class 2, which
rung 5 admits only as far as it fits; of a later one as class 9. Before the first plan nothing is held back. -/
def State.mayDecode (s : State) (i : DecItem) : Bool :=
  let has (c : Nat) : Bool := s.hearth.plan.items.any (fun (x : PlanWork) => x.cls = c)
  !s.hearth.plan.on || i.live
  || (if i.frame ≤ s.time.last + 2 then s.r Reg.HEARTH_PLAN_STATUS_RUNG ≠ 5 || has 2 else has 9)

/-- The chunk DECODE takes next (R96): a live one ahead of stored ones, these in stream order, as far as the plan admits them. -/
def State.nextItem (s : State) : Option DecItem :=
  match s.stream.queue.find? (·.live) with
  | some i => some i
  | none => s.stream.queue.head?.filter (fun i => i.lost || s.mayDecode i)

/-- An item of the queue put in another's place, or taken out. -/
def putItem (q : List DecItem) (i : DecItem) (j : Option DecItem) : List DecItem :=
  match q with
  | [] => []
  | x :: t => if x = i then j.toList ++ t else x :: putItem t i j

/-- The next item is changed, or leaves the queue. -/
def State.setItem (s : State) (i : DecItem) (j : Option DecItem) : State :=
  { s with stream := { s.stream with queue := putItem s.stream.queue i j } }

/-- A chunk of a sequence was lost before the picture that it belongs to has begun (R76, R78). -/
def State.setLost (s : State) (seq : Nat) (b : Bool) : State := { s with dec := { s.dec with lost := setNth s.dec.lost seq b } }

/-- A lost chunk reaches DECODE (R78): the picture in progress lacks it, unless that picture's chunks are all done; then the picture that
follows does. Dependent slice segments after it have lost what they depend on (R106). One with LAST ends the chunk sequence: the picture
in progress may end, or a picture of which nothing came is over. -/
def State.takeLost (s : State) (i : DecItem) : State :=
  let mine := (s.dec.prog.getD i.seq none).filter (fun p => !p.ending && p.frame = i.frame)
  match mine with
  | some p => s.setProg i.seq (some { p with missing := true, badIndep := true, ending := p.ending || i.last })
  | none => s.setLost i.seq (!i.last)

/-- A chunk of which every NAL unit is taken (R76): with LAST its picture may end; a picture of whose chunks one is missing is not
complete. -/
def State.chunkDone (s : State) (i : DecItem) : State :=
  let s := s.setItem i none
  if !i.last then s
  else
    match (s.dec.prog.getD i.seq none).filter (fun p => !p.ending && p.frame = i.frame) with
    | some p => s.setProg i.seq (some { p with ending := true, missing := p.missing || !i.whole })
    | none => s.setLost i.seq false

/-- DECODE goes on to the next slice segment (R79, R92, R107): lost chunks are taken, NAL units that are no slice segments pass, invalid
ones with error 0x01; `fuel` bounds them. -/
def State.toSlice : Nat → State → State
  | 0, s => s
  | fuel + 1, s =>
    match s.nextItem with
    | none => s
    | some i =>
      if i.lost then State.toSlice fuel ((s.setItem i none).takeLost i)
      else
        match i.nals with
        | [] => State.toSlice fuel (s.chunkDone i)
        | n :: t =>
          let rest := s.setItem i (some { i with nals := t })
          if badNal n then State.toSlice fuel (rest.decErr 0x01 i.seq i.frame 0)
          else if nalLayer n = 0 && nalType n = 36 then
            State.toSlice fuel { rest with dec := { rest.dec with eos := setNth rest.dec.eos i.seq true } }
          else if sliceNal n then s
          else State.toSlice fuel rest

/-- What bounds `toSlice`: the chunks waiting and their NAL units. -/
def StreamState.waiting (q : StreamState) : Nat := q.queue.length + ((q.queue.map (fun i => i.nals.length)).foldl (· + ·) 0) + 1

/-- DECODE at the next slice segment it may take. -/
def State.drain (s : State) : State := s.toSlice s.stream.waiting

/-! ### PICTURE_END (R76, R95, R98, R100, R106–R111) -/

/-- The copy of the frame that a picture belongs to. -/
def State.frameCopy (s : State) (n : Nat) : RegFile := ((s.fire.frames.find? (fun f => f.frame = n)).map (·.copy)).getD (s.copyFor n)

/-- The samples that conceal a CTU (R108): copied from LATEST, or the default fill. That in-loop filters stop at an edge between a
concealed and a reconstructed CTU is a condition on the samples a slice segment brings. -/
def State.concealed (s : State) (seq frame : Nat) (h : PicHead) (a : Nat) : List (Nat × Nat) :=
  match (s.latest seq).filter (fun p => sameShape p h) with
  | some p => (ctuSamples h a).map (fun q => (sampleKey q.1 q.2.1 q.2.2, sampleAt p.samples q.1 q.2.1 q.2.2))
  | none =>
    let full := s.fullRange (s.frameCopy frame) (seq / 2)
    (ctuSamples h a).map (fun q => (sampleKey q.1 q.2.1 q.2.2, fillValue (seq % 2 = 1) h.depth10 full q.1))

/-- The samples of a component in raster order. -/
def planeRaster (h : PicHead) (l : List (Nat × Nat)) (c : Nat) : List (Nat × Nat × Nat) :=
  let w := if c = 0 then h.width else h.width / subW h.chroma
  let ht := if c = 0 then h.height else h.height / subH h.chroma
  (List.range ht).flatMap (fun y => (List.range w).map (fun x => (x, y, sampleAt l c x y)))

/-- One bit into the CRC of a decoded picture hash (H.265; PRESUMED, assumption log 71). -/
def hashCrcBit (crc b : Nat) : Nat := (((2 * crc + b) % 65536) ^^^ (if 32768 ≤ crc then 0x1021 else 0))

/-- A byte into it, most significant bit first. -/
def hashCrcByte (crc v : Nat) : Nat := (List.range 8).foldl (fun c k => hashCrcBit c (v / 2 ^ (7 - k) % 2)) crc

/-- The CRC of a component (hash_type 1). -/
def hashCrc (h : PicHead) (l : List (Nat × Nat)) (c : Nat) : Nat :=
  let bytes := (planeRaster h l c).flatMap (fun q => if h.depth10 then [q.2.2 % 256, q.2.2 / 256] else [q.2.2])
  (bytes ++ [0, 0]).foldl hashCrcByte 65535

/-- The checksum of a component (hash_type 2). -/
def hashSum (h : PicHead) (l : List (Nat × Nat)) (c : Nat) : Nat :=
  (planeRaster h l c).foldl (fun a q =>
    let m := (q.1 % 256) ^^^ (q.2.1 % 256) ^^^ (q.1 / 256) ^^^ (q.2.1 / 256)
    let a := (a + ((q.2.2 % 256) ^^^ m)) % 2 ^ 32
    if h.depth10 then (a + ((q.2.2 / 256) ^^^ m)) % 2 ^ 32 else a) 0

/-- A decoded picture hash SEI does not match the reconstructed samples (R109): hash_type 1 or 2 with a value for each component; type 0
is not checked. -/
def hashFails (h : PicHead) (l : List (Nat × Nat)) (sei : Option (Nat × List Nat)) : Bool :=
  let comps := if h.chroma = 0 then [0] else [0, 1, 2]
  match sei with
  | some (1, vs) => comps.any (fun c => hashCrc h l c ≠ nth vs c)
  | some (2, vs) => comps.any (fun c => hashSum h l c ≠ nth vs c)
  | _ => false

/-- The words of a picture in its buffer (R99, R140): three samples a word, component by component and row by row, the first sample
highest (DESIGN CHOICE, assumption log 52). -/
def picStore (h : PicHead) (l : List (Nat × Nat)) : List Word :=
  let comp (c : Nat) : List Word :=
    let w := if c = 0 then h.width else h.width / subW h.chroma
    let ht := if c = 0 then h.height else h.height / subH h.chroma
    (List.range ht).flatMap (fun y => (List.range (cdiv w 3)).map (fun k =>
      pack [(24, sampleAt l c (3 * k) y), (12, sampleAt l c (3 * k + 1) y), (0, sampleAt l c (3 * k + 2) y)]))
  comp 0 ++ (if h.chroma = 0 then [] else comp 1 ++ comp 2)

/-- Words put into DRAM over what stands there, whole sectors or parts (R141). -/
def putRun (d : List Host.Cell) (a : Nat) (ws : List Word) : List Host.Cell :=
  (List.range' (a / 7) (sectorsOf a ws.length)).foldl (fun d n =>
    let old := sectorWords (sectorBits d n)
    writeSector d n ((List.range 7).map (fun i =>
      if a ≤ 7 * n + i && 7 * n + i < a + ws.length then nthW ws (7 * n + i - a) else nthW old i))) d

/-- A picture ends (R76, R100, R106–R111): what is missing is concealed, taint and completeness fixed, its marks set, its buffer
filled. -/
def State.finishPic (s : State) (seq : Nat) (p : Prog) (sei : Option (Nat × List Nat)) : State :=
  let s := s.setProg seq none
  if p.dropped then s.showPool
  else
    let d := picDetail seq p.frame
    let irap := irapType p.type
    let gone := (List.range (ctuCount p.head)).filter (fun a => !p.done.contains a)
    let badHash := s.rb Reg.DECODE_CTRL_HASH_CHECK && hashFails p.head p.samples sei
    let s := if badHash then s.decErr 0x0D seq p.frame 0 else s
    let s := if p.missing then s.decErr 0x0F seq p.frame (gone.headD 0)
      else if gone.isEmpty then s else s.decErr 0x0A seq p.frame (gone.headD 0)
    let samples := gone.foldl (fun l a => putSamples l (s.concealed seq p.frame p.head a)) p.samples
    let s := s.count Reg.DECODE_COUNTS_CONCEALED 0 gone.length
    let tainted := !gone.isEmpty || badHash || p.taintIn
    let complete := !p.missing
    let was := s.rb Reg.DECODE_SEQ_STATUS_TAINTED seq
    let s := s.raiseIf (!gone.isEmpty) 472 d
    let s := s.raiseIf tainted 470 d
    let s := s.raiseIf (irap && !tainted && was) 471 d
    let frm := p.head.output && (s.curFrame ≤ p.frame || s.emit_.await = some p.frame)
    let mine : Pic :=
      { id := s.dec.nextId, seq := seq, frame := p.frame, poc := p.head.poc, cvs := p.cvs
        width := p.head.width, height := p.head.height, chroma := p.head.chroma, depth10 := p.head.depth10
        full := p.head.full, matrix := p.head.matrix, complete := complete, tainted := tainted
        output := p.head.output, ref := true, latest := true, comp := complete, frm := frm
        sealAt := none, old := false, place := p.place, room := p.room, samples := samples }
    let others := s.dec.pics.map (fun q =>
      if q.seq = seq then
        { q with latest := false, comp := q.comp && !complete
                 frm := q.frm && !(frm && q.frame = p.frame) }
      else q)
    let owed := (s.dec.needAt.getD seq []).filter (fun k => !irap || p.frame < k)
    let s := { s with
      dram := putRun s.dram p.place (picStore p.head samples)
      dec := { s.dec with pics := others ++ [mine], nextId := s.dec.nextId + 1, needAt := setNth s.dec.needAt seq owed }
      regs := rsets s.regs [(Reg.DECODE_SEQ_STATUS_TAINTED, seq, b2n tainted),
        (Reg.DECODE_SEQ_STATUS_NEED_IRAP, seq, b2n (!owed.isEmpty))] }
    s.prune.showPool

/-! ### PICTURE_BEGIN (R91–R95, R99–R102, R110, R112) -/

/-- Distance of two picture order counts. -/
def pocDist (a b : Int) : Nat := (a - b).natAbs

/-- The nearer of two pictures to an order count, ties to the lower (R110). -/
def nearer (poc : Int) (a b : Pic) : Pic :=
  let x := pocDist a.poc poc
  let y := pocDist b.poc poc
  if y < x || (y = x && b.poc < a.poc) then b else a

/-- The picture a synthetic reference copies (R110): the nearest of the coded video sequence, or LATEST; of the right
shape. -/
def State.synthSource (s : State) (seq cvs : Nat) (h : PicHead) (poc : Int) : Option Pic :=
  let own := s.dec.pics.filter (fun p => p.seq = seq && !p.old && p.cvs = cvs)
  let pick := match own with
    | [] => s.latest seq
    | p :: t => some (t.foldl (nearer poc) p)
  pick.filter (fun p => sameShape p h)

/-- A missing reference is replaced (R110): event 469, the count, and REF on the source. -/
def State.synth (s : State) (seq frame cvs : Nat) (h : PicHead) (poc : Int) : State :=
  let src := (s.synthSource seq cvs h poc).map (·.id)
  let s := { s with dec := { s.dec with synths := s.dec.synths ++ [(⟨seq, poc, cvs, src⟩ : Synth)] } }
  (s.count Reg.DECODE_COUNTS_SYNTHETIC).raise 469 (picDetail seq frame)

/-- The reference set of a picture applied to its sequence (R100, R110), to pictures and to synthetic ones. -/
def State.applyRefs (s : State) (seq : Nat) (h : PicHead) (newCvs : Bool) : State :=
  let keep (poc : Int) : Bool := !newCvs && (h.uses.contains poc || h.keeps.contains poc)
  { s with dec := { s.dec with
    synths := s.dec.synths.filter (fun x => x.seq ≠ seq || keep x.poc)
    pics := s.dec.pics.map (fun p => if p.seq = seq && !p.old then { p with ref := p.ref && keep p.poc } else p) } }

/-- A plane picture that holds no buffer: its chunks pass (R93, R101, R107, R112). -/
def Prog.none_ (frame : Nat) (h : PicHead) (type : Nat) (live : Bool) : Prog where
  frame := frame
  head := h
  type := type
  cvs := 0
  dropped := true
  live := live
  place := 0
  room := 0
  done := []
  free := []
  rows := 0
  missing := false
  badIndep := false
  taintIn := false
  ending := false
  samples := []

/-- The sequence parameter set that a picture activates is another than the one in force (R107, 0x04): what DECODE_SEQ_STATUS shows of it
differs. -/
def State.newSps (s : State) (seq : Nat) (h : PicHead) : Bool :=
  s.rb Reg.DECODE_SEQ_STATUS_ACTIVE seq
  && (s.r Reg.DECODE_SEQ_STATUS_WIDTH_M1 seq + 1 ≠ h.width || s.r Reg.DECODE_SEQ_STATUS_HEIGHT_M1 seq + 1 ≠ h.height
    || s.r Reg.DECODE_SEQ_STATUS_CHROMA seq ≠ h.chroma || s.rb Reg.DECODE_SEQ_STATUS_DEPTH10 seq ≠ h.depth10)

/-- What a picture that is taken does to its sequence before it has a buffer (R100, R112): the coded video sequence, order counts, the
RASL pictures to be discarded, VUI, DECODE_SEQ_STATUS, the reference set. -/
def State.openSeq (s : State) (seq : Nat) (h : PicHead) (type : Nat) (starts : Bool) : State :=
  let irap := irapType type
  let s := { s with dec := { s.dec with
    cvs := setNth s.dec.cvs seq (s.dec.cvs.getD seq 0 + b2n starts)
    pocs := setNth s.dec.pocs seq ((if irap then [] else s.dec.pocs.getD seq []) ++ [h.poc])
    rasl := if irap then setNth s.dec.rasl seq (starts && (craType type || blaType type), false) else s.dec.rasl
    vui := if irap then setNth s.dec.vui seq (h.full, h.matrix) else s.dec.vui
    eos := setNth s.dec.eos seq false
    barred := setNth s.dec.barred seq false } }
  let s := s.ws [(Reg.DECODE_SEQ_STATUS_ACTIVE, seq, 1), (Reg.DECODE_SEQ_STATUS_CHROMA, seq, h.chroma),
    (Reg.DECODE_SEQ_STATUS_DEPTH10, seq, b2n h.depth10), (Reg.DECODE_SEQ_STATUS_WIDTH_M1, seq, h.width - 1),
    (Reg.DECODE_SEQ_STATUS_HEIGHT_M1, seq, h.height - 1)]
  (s.applyRefs seq h starts).prune

/-- A reference that a picture of frame `n` may use: a picture of its coded video sequence with the order count, of a frame since the IRAP
picture it owes (R64, R112), or a synthetic one. Some true says that it is tainted (R111). -/
def State.heldRef (s : State) (seq n cvs : Nat) (poc : Int) : Option Bool :=
  let since := ((s.dec.needAt.getD seq []).filter (fun k => k ≤ n)).foldl max 0
  match s.dec.pics.find? (fun p => p.seq = seq && !p.old && p.cvs = cvs && p.poc = poc && since ≤ p.frame) with
  | some p => some p.tainted
  | none => if s.dec.synths.any (fun x => x.seq = seq && x.cvs = cvs && x.poc = poc) then some true else none

/-- A picture begins (R91–R95, R99–R101, R107, R110, R112) for the slice segment that DECODE takes next. A picture that is dropped counts as
never received: nothing of what it would do to its sequence stays. The size is judged before the room in the pool (DESIGN CHOICE,
assumption log 71). Errors that are met at no CTU latch CTU_ADDR 0 (DESIGN CHOICE, assumption log 71). -/
def State.beginPic (s : State) (seq : Nat) (h : PicHead) (i : DecItem) (type : Nat) : State :=
  let frame := i.frame
  let d := picDetail seq frame
  let irap := irapType type
  let skip := Prog.none_ frame h type i.live
  let pass (x : State) : State := (x.setLost seq false).setProg seq (some skip)
  let barred := s.dec.barred.getD seq false
  if !h.supported (seq % 2 = 1) && (irap || !barred) then
    let owed := frame :: s.dec.needAt.getD seq []
    let s := { s.decErr 0x05 seq frame 0 with dec := { s.dec with
      barred := setNth s.dec.barred seq true, needAt := setNth s.dec.needAt seq owed } }
    pass (s.ws [(Reg.DECODE_SEQ_STATUS_ACTIVE, seq, 0), (Reg.DECODE_SEQ_STATUS_NEED_IRAP, seq, 1)])
  else if barred && !irap then pass s
  else if !irap && s.newSps seq h then pass (s.decErr 0x04 seq frame 0)
  else if raslType type && (s.dec.rasl.getD seq (false, false)).1 then
    let told := (s.dec.rasl.getD seq (false, false)).2
    let s := s.raiseIf (!told) 479 d
    pass { s with dec := { s.dec with rasl := setNth s.dec.rasl seq (true, true) } }
  else if !irap && (s.dec.pocs.getD seq []).contains h.poc then pass (s.decErr 0x0C seq frame 0)
  else
    let need := (s.dec.needAt.getD seq []).any (fun k => k ≤ frame)
    let starts := irap && (!craType type || need || s.dec.eos.getD seq false)
    let t := s.openSeq seq h type starts
    let kw := s.es Reg.DECODE_POOL_CTRL_BUF_KWORDS
    if s.es Reg.DECODE_POOL_CTRL_BUF_COUNT = 0 || kw * 1024 < picWords h.width h.height h.chroma || kw = 0 then
      (pass (s.raise 474 d)).showPool
    else
      match t.freeBufs with
      | [] => (pass (s.raise 473 d)).showPool
      | b :: _ =>
        let cvs := t.dec.cvs.getD seq 0
        let uses := if irap then [] else h.uses
        let gone := uses.filter (fun q => (t.heldRef seq frame cvs q).isNone)
        let taint := uses.any (fun q => (t.heldRef seq frame cvs q).getD true)
        let t := gone.foldl (fun x q => x.synth seq frame cvs h q) t
        let p : Prog := { skip with
          cvs := cvs, dropped := false, place := b.1, room := b.2, missing := t.dec.lost.getD seq false, taintIn := taint
          badIndep := t.dec.lost.getD seq false }
        ((t.setLost seq false).setProg seq (some p)).prune.showPool

/-- PICTURE_BEGIN: a picture begins with the slice segment that DECODE takes next. One that starts before the picture in progress has
ended ends that (R107, 0x0B); error 0x0B is recorded first, then what the ended picture itself records (DESIGN CHOICE, assumption log
71). -/
def State.pictureBegin (s : State) (seq : Nat) (h : PicHead) : State :=
  let s := s.drain
  match s.nextItem with
  | none => s
  | some i =>
    match i.nals with
    | [] => s
    | n :: _ =>
      if i.seq ≠ seq then s
      else
        match s.dec.prog.getD seq none with
        | none => s.beginPic seq h i (nalType n)
        | some p =>
          if p.ending then (s.finishPic seq p none).beginPic seq h i (nalType n)
          else if firstSlice n then
            ((s.decErr 0x0B seq p.frame 0).finishPic seq p none).beginPic seq h i (nalType n)
          else s

/-! ### SLICE_SEGMENT_DECODED (R96–R98, R106) -/

/-- A CTU row is whole. -/
def rowWhole (h : PicHead) (done : List Nat) (r : Nat) : Bool :=
  (List.range (ctusAcross h)).all (fun x => done.contains (r * ctusAcross h + x))

/-- Rows that are final, from the top (R98): a row followed by slices that are not filtered across it as soon as it is reconstructed, any
other when the next row is; the last when the picture ends. -/
def finalRows (h : PicHead) (done free : List Nat) : Nat :=
  ((List.range (cdiv h.height h.ctu - 1)).takeWhile (fun r =>
    rowWhole h done r && (free.contains r || rowWhole h done (r + 1)))).length

/-- Named errors that discard the whole slice segment (R107). -/
def discards (code : Nat) : Bool := code = 3 || code = 4 || code = 6 || code = 7

/-- Named errors that belong to NAL units and parameter sets, whether or not a picture is in progress (R107). -/
def atNal (code : Nat) : Bool := 1 ≤ code && code ≤ 4

/-- The slice segment's work on the picture in progress: nothing of a segment that is discarded, of any other the CTUs it reconstructed
first. A damaged independent segment takes the dependent ones after it with it; a CTU concealed for a failed sector (0x0E) does not
damage its segment (R106, R107). -/
def sliceInto (p : Prog) (o : SliceOut) : Prog :=
  let code := (o.err.map Prod.fst).getD 0
  if p.dropped || (o.dependent && p.badIndep) then p
  else if discards code then { p with badIndep := p.badIndep || !o.dependent }
  else
    let fresh := o.ctus.filter (fun a => !p.done.contains a && a < ctuCount p.head)
    let done := p.done ++ fresh
    let last := (o.ctus.map (fun a => a / ctusAcross p.head)).foldl max 0
    let free := if o.noFilter && !fresh.isEmpty then last :: p.free else p.free
    { p with
      done := done
      free := free
      samples := putSamples p.samples o.samples
      rows := max p.rows (finalRows p.head done free)
      badIndep := if o.dependent then p.badIndep else code ≠ 0 && code ≠ 0x0E }

/-- The class that decoding is charged to (R49, R96): live 3, a batch due within the next two ticks 2, later 9. -/
def State.decodeClass (s : State) (i : DecItem) : Nat := if i.live then 3 else if i.frame ≤ s.time.last + 2 then 2 else 9

/-- A slice segment of the chunk DECODE takes next has been decoded. -/
def State.sliceDecoded (s : State) (seq : Nat) (o : SliceOut) : State :=
  let s := s.drain
  match s.nextItem with
  | none => s
  | some i =>
    match i.nals with
    | [] => s
    | _ :: t =>
      if i.seq ≠ seq then s
      else
        let taken := (s.setItem i (some { i with nals := t })).readErrs 1 o.reads
        let tell (x : State) (heard : Bool) : State :=
          match o.err with
          | some e => if heard || atNal e.1 then x.decErr e.1 seq i.frame e.2 else x
          | none => x
        let s := match (s.dec.prog.getD seq none).filter (fun p => !p.ending) with
          | none => tell taken false
          | some p =>
            let q := sliceInto p o
            let n := (q.done.length - p.done.length) * p.head.ctu * p.head.ctu
            let u := ((tell taken (!p.dropped && !(o.dependent && p.badIndep))).setProg seq (some q)).act (s.decodeClass i) 2 n
            { u with dec := { u.dec with positions := u.dec.positions + n } }
        s.drain

/-- PICTURE_END, once the picture's last chunk is done: `sei` is the decoded picture hash SEI it carries, its type and a value for each
component (R109). -/
def State.pictureEnd (s : State) (seq : Nat) (sei : Option (Nat × List Nat)) : State :=
  let s := s.drain
  match s.dec.prog.getD seq none with
  | some p => if p.ending then s.finishPic seq p sei else s
  | none => s

/-! ### R102: a pool write takes effect -/

/-- The words of the pool's registers come into force (R102). -/
def State.takePool (s : State) : State :=
  let fs := [Reg.DECODE_POOL_CTRL_BUF_COUNT, Reg.DECODE_POOL_CTRL_BUF_KWORDS, Reg.DECODE_POOL_BASE_POOL_BASE]
  { s with emit_ := { s.emit_ with scan := fs.foldl (fun (r : RegFile) f => rset r f 0 (s.r f)) s.emit_.scan } }

/-- At the tick after a write of the pool registers (R102): they come into force; every picture goes except those sealed, which keep their
seal alone; every sequence needs an IRAP picture; event 475. A picture being decoded loses its buffer: its chunks pass, and its end raises
nothing (DESIGN CHOICE, assumption log 71). -/
def State.poolReset (s : State) : State :=
  if s.dec.poolPend then
    let s := { s.takePool with
      dec := { s.dec with
        poolPend := false
        synths := []
        pics := (s.dec.pics.filter s.sealedPic).map (fun (p : Pic) =>
          { p with old := true, ref := false, latest := false, comp := false, frm := false })
        prog := s.dec.prog.map (fun (p : Option Prog) => p.map (fun (q : Prog) => { q with dropped := true })) } }
    ((s.needIrap 0).raise 475 0).showPool
  else s

/-! ### Texels (R103, R104) -/

/-- An 8-bit sample widened to 10 bits (R103). -/
def widen (depth10 : Bool) (v : Nat) : Nat := if depth10 then v else v * 4 + v / 64

/-- Chroma row `j` of a picture, clamped, widened: the sample at chroma column `x` (R103). -/
def chromaAt (p : Pic) (c : Nat) (x j : Int) : Nat :=
  let w : Int := p.width / subW p.chroma
  let h : Int := p.height / subH p.chroma
  widen p.depth10 (sampleAt p.samples c (clampI 0 (w - 1) x).toNat (clampI 0 (h - 1) j).toNat)

/-- The chroma row for luma row `y`, vertically filtered for 4:2:0 (R103). -/
def chromaRow (p : Pic) (c : Nat) (y : Nat) (x : Int) : Nat :=
  if p.chroma = 1 then
    let j : Int := (y / 2 : Nat)
    let other := if y % 2 = 0 then j - 1 else j + 1
    (3 * chromaAt p c x j + chromaAt p c x other + 2) / 4
  else chromaAt p c x y

/-- Chroma at luma position (x, y) (R103). -/
def chroma (p : Pic) (c x y : Nat) : Nat :=
  if p.chroma = 0 then 512
  else if p.chroma = 3 then chromaRow p c y x
  else if x % 2 = 0 then chromaRow p c y (x / 2 : Nat)
  else (chromaRow p c y (x / 2 : Nat) + chromaRow p c y (x / 2 + 1 : Nat) + 1) / 2

/-- Which matrix a colour plane takes (R104): 0 identity, 1 BT.709, 2 BT.2020. -/
def matrixOf (copy : RegFile) (atlas : Nat) (p : Pic) : Nat :=
  match rget copy Reg.DECODE_ATLAS_CTRL_MATRIX atlas with
  | 1 => 0
  | 2 => 1
  | 3 => 2
  | _ =>
    match p.matrix with
    | some 0 => if p.chroma = 3 then 0 else 1
    | some 9 => 2
    | _ => 1

/-- Full range for a colour picture (R104). -/
def rangeOf (copy : RegFile) (atlas : Nat) (p : Pic) : Bool :=
  match rget copy Reg.DECODE_ATLAS_CTRL_RANGE atlas with
  | 1 => false
  | 2 => true
  | _ => p.full

/-- KRcr, KGcb, KGcr, KBcb of R104. -/
def matrixCoeffs (m : Nat) (full : Bool) : List Int :=
  match m, full with
  | 2, false => [27584, -3078, -10688, 35194]
  | 2, true => [24160, -2696, -9361, 30825]
  | _, false => [29459, -3504, -8757, 34711]
  | _, true => [25801, -3069, -7670, 30402]

/-- Red, green and blue codes of 0–1,023 from Y, Cb, Cr (R104). -/
def toRgb (m : Nat) (full : Bool) (y cb cr : Nat) : List Nat :=
  let ky : Int := if full then 16384 else 19133
  let o : Int := if full then 0 else 64
  let r10 (z : Int) : Nat := (clampI 0 1023 ((z + 8192) / 16384)).toNat
  if m = 0 then [r10 (ky * (cr - o)), r10 (ky * (y - o)), r10 (ky * (cb - o))]
  else
    let k := matrixCoeffs m full
    let yo : Int := y - o
    let cbo : Int := (cb : Int) - 512
    let cro : Int := (cr : Int) - 512
    [r10 (ky * yo + k.getD 0 0 * cro), r10 (ky * yo + k.getD 1 0 * cbo + k.getD 2 0 * cro),
     r10 (ky * yo + k.getD 3 0 * cbo)]

/-- Ten bits to nine, half up (R103). -/
def to9 (c : Nat) : Nat := min 511 ((c + 1) / 2)

/-- A slab texel word from its codes (R139). -/
def texel (r g b a : Nat) : Word := pack [(27, r), (18, g), (9, b), (0, a)]

/-- The texel of a pool picture at (x, y): the colour picture, and the alpha picture where one is sampled (R103, R139). -/
def picTexel (copy : RegFile) (atlas : Nat) (col : Pic) (alp : Option Pic) (x y : Nat) : Word :=
  let ys := widen col.depth10 (sampleAt col.samples 0 x y)
  let c := toRgb (matrixOf copy atlas col) (rangeOf copy atlas col) ys (chroma col 1 x y) (chroma col 2 x y)
  let a := match alp with
    | some p => to9 (widen p.depth10 (sampleAt p.samples 0 x y))
    | none => 511
  texel (to9 (nth c 0)) (to9 (nth c 1)) (to9 (nth c 2)) a

end Sys2Proof.Machine
end

