-- ==== Sys2Proof/Machine/Kiln.lean ====
section
/-! DEFINITION. The Kiln: the ray grid and its limits, mounting, the sample position, taps and the pre-blend LUT, the
blend, bands and their windows, crumb surfaces (R115–R136, R145, R153–R156). Everything here is a function of a copy of the
commit-class fields and of the contents sampled. -/

namespace Sys2Proof.Machine

/-! ### The grid (R115, R116, R118, R56) -/

/-- Physical hogels and views of a register file. -/
structure Grid where
  hw : Nat
  hh : Nat
  vw : Nat
  vh : Nat
  mirror : Bool
  rot : Nat
  deriving DecidableEq, Repr

/-- The grid of KILN_GRID and KILN_MOUNT. -/
def gridOf (r : RegFile) : Grid :=
  ⟨rget r Reg.KILN_GRID_HW_M1 0 + 1, rget r Reg.KILN_GRID_HH_M1 0 + 1, rget r Reg.KILN_GRID_VW_M1 0 + 1,
   rget r Reg.KILN_GRID_VH_M1 0 + 1, rget r Reg.KILN_MOUNT_MIRROR 0 ≠ 0, rget r Reg.KILN_MOUNT_ROT 0⟩

/-- Rays per frame. -/
def Grid.rays (g : Grid) : Nat := g.hw * g.hh * g.vw * g.vh

/-- The grid limits of R115. -/
def gridOk (g : Grid) : Bool :=
  g.hw ≤ 256 && g.hh ≤ 192 && g.hw * g.hh ≤ 49152 && g.vw ≤ 128 && g.vh ≤ 16 && g.vw * g.vh ≤ 1024
  && g.rays ≤ 33554432

/-- The rate limits of R116: rays × rate at most 4.2 G rays/s, and over FIRE_WINDOW at most 4.8 G rays/s. -/
def rateOk (rays num den window : Nat) : Bool :=
  rays * num ≤ 4200000000 * den && rays * num * 100 ≤ 4800000000 * den * window

/-- DRAM peak bandwidth of a grade in MB/s: eight bytes at 3,200, 4,267, 5,500 or 6,400 MT/s (R56, R379). -/
def peakMB (grade : Nat) : Nat := 8 * nth [3200, 4267, 5500, 6400] grade

/-- R56: the ray buffer may not be used: rays × rate × 64/7 bytes above 0.36 × peak. -/
def overBuffer (rays num den grade : Nat) : Bool :=
  36 * 7 * peakMB grade * 1000000 * den < rays * num * 64 * 100

/-- A configuration fires in direct mode at a grade (R56): MODE = DIRECT, or beyond the ray buffer. -/
def directAt (r : RegFile) (grade : Nat) : Bool :=
  rget r Reg.KILN_FRAME_CTRL_MODE 0 = 1
  || overBuffer (gridOf r).rays (rget r Reg.TIME_TICK_RATE_NUM 0) (rget r Reg.TIME_TICK_RATE_DEN 0) grade

/-- The grade in force: the one trained for the set point in force, or before training the one configured (R56, R387). -/
def gradeNow (r : RegFile) : Nat :=
  if rget r Reg.MEM_STATUS_TRAINED 0 ≠ 0 then rget r Reg.MEM_STATUS_GRADE 0
  else if rget r Reg.MEM_CTRL_SP_SEL 0 = 0 then rget r Reg.MEM_CTRL_SP0_GRADE 0 else rget r Reg.MEM_CTRL_SP1_GRADE 0

/-- The lower of the two grades in force, or before training of the two configured (R385, R389). -/
def State.lowGrade (s : State) : Nat :=
  if s.rb Reg.MEM_STATUS_TRAINED then min (nth s.mem.grades 0) (nth s.mem.grades 1)
  else min (s.r Reg.MEM_CTRL_SP0_GRADE) (s.r Reg.MEM_CTRL_SP1_GRADE)

/-- The mounting limits of R118, with the lowest DRAM grade. -/
def mountOk (low : Nat) (r : RegFile) : Bool :=
  let g := gridOf r
  g.rot % 2 = 0 || (g.vw = g.vh && !directAt r low)

/-- Scene hogels across and down, scene views across and down (R118). -/
def Grid.sw (g : Grid) : Nat := if g.rot % 2 = 1 then g.hh else g.hw
def Grid.sh (g : Grid) : Nat := if g.rot % 2 = 1 then g.hw else g.hh
def Grid.svw (g : Grid) : Nat := if g.rot % 2 = 1 then g.vh else g.vw
def Grid.svh (g : Grid) : Nat := if g.rot % 2 = 1 then g.vw else g.vh

/-- Scene coordinates of a physical ray (R118): hx, hy, vx, vy. -/
def sceneOf (g : Grid) (px py pvx pvy : Nat) : Nat × Nat × Nat × Nat :=
  let x := if g.mirror then g.hw - 1 - px else px
  let v := if g.mirror then g.vw - 1 - pvx else pvx
  match g.rot with
  | 0 => (x, py, v, pvy)
  | 1 => (g.hh - 1 - py, x, g.vh - 1 - pvy, v)
  | 2 => (g.hw - 1 - x, g.hh - 1 - py, g.vw - 1 - v, g.vh - 1 - pvy)
  | _ => (py, g.hw - 1 - x, pvy, g.vw - 1 - v)

/-- The physical ray of scene coordinates: px, py, pvx, pvy. -/
def physOf (g : Grid) (hx hy vx vy : Nat) : Nat × Nat × Nat × Nat :=
  let p : Nat × Nat × Nat × Nat :=
    match g.rot with
    | 0 => (hx, hy, vx, vy)
    | 1 => (hy, g.hh - 1 - hx, vy, g.vh - 1 - vx)
    | 2 => (g.hw - 1 - hx, g.hh - 1 - hy, g.vw - 1 - vx, g.vh - 1 - vy)
    | _ => (g.hw - 1 - hy, hx, g.vw - 1 - vy, vx)
  if g.mirror then (g.hw - 1 - p.1, p.2.1, g.vw - 1 - p.2.2.1, p.2.2.2) else p

/-- The number of a physical ray in an image of the ray buffer. -/
def rayNo (g : Grid) (px py pvx pvy : Nat) : Nat := ((py * g.hw + px) * g.vw + pvx) * g.vh + pvy

/-! ### Sample position (R119) -/

/-- A signed slot field of a copy. -/
def slotI (copy : RegFile) (f : Fld) (s : Nat) : Int := sext f.width (rget copy f s)

/-- u14 and v14 of R119. -/
def sample14 (copy : RegFile) (s : Nat) (g : Grid) (hx hy vx vy : Nat) : Int × Int :=
  let sc : Int := rget copy Reg.KILN_SLOT_W5_SCALE s
  (4 * slotI copy Reg.KILN_SLOT_W3_U0 s + sc * hx
    + 2 * slotI copy Reg.KILN_SLOT_W5_DISP_H s * (2 * (vx : Int) - ((g.svw : Int) - 1)),
   4 * slotI copy Reg.KILN_SLOT_W4_V0 s + sc * hy
    + 2 * slotI copy Reg.KILN_SLOT_W6_DISP_V s * (2 * (vy : Int) - ((g.svh : Int) - 1)))

/-- Half up to 1/256 texel (R119). -/
def round8 (z : Int) : Int := (z + 32) / 64

/-! ### Taps and the filter (R121, R122) -/

/-- The linear value of a code in a pre-blend LUT; the ramp of R123 unless loaded. -/
def preRamp (c : Nat) : Nat := (c * 262143 + 255) / 511
def preLut (l : List (Nat × Nat)) (table colour code : Nat) : Nat :=
  sget (preRamp code) l ((3 * table + colour) * 512 + code)

/-- Alpha of nine bits as Q1.18 (R122). -/
def alpha18 (a : Nat) : Nat := (a * 262144 + 255) / 511

/-- A tap converted: premultiplied red, green, blue and a18 (R122). -/
def tapOf (pre : List (Nat × Nat)) (lut : Nat) (aconst : Option Nat) (t : Word) : List Nat :=
  let a := alpha18 (aconst.getD (bits t 8 0))
  let p (c code : Nat) : Nat := (preLut pre lut c code * a + 131072) / 2 ^ 18
  [p 0 (bits t 35 27), p 1 (bits t 26 18), p 2 (bits t 17 9), a]

/-- The bilinear filter over four taps (R122): P and A. -/
def filterTaps (fx fy : Nat) (t00 t10 t01 t11 : List Nat) : List Nat :=
  (List.range 4).map (fun k =>
    ((256 - fx) * (256 - fy) * nth t00 k + fx * (256 - fy) * nth t10 k + (256 - fx) * fy * nth t01 k
      + fx * fy * nth t11 k + 32768) / 2 ^ 16)

/-- A tap's texel under EDGE (R121): none is transparent. `src` gives the texel of a slab position inside the slab. -/
def edgeTap (src : Nat → Nat → Word) (w h : Nat) (clamp : Bool) (x y : Int) : Option Word :=
  if clamp then some (src (clampI 0 (w - 1) x).toNat (clampI 0 (h - 1) y).toNat)
  else if x < 0 ∨ (w : Int) ≤ x ∨ y < 0 ∨ (h : Int) ≤ y then none
  else some (src x.toNat y.toNat)

/-- The sample of a slot for a scene ray: P red, green, blue and A (R119–R122). -/
def sampleSlot (pre : List (Nat × Nat)) (copy : RegFile) (s : Nat) (g : Grid) (src : Nat → Nat → Word)
    (hx hy vx vy : Nat) : List Nat :=
  let p := sample14 copy s g hx hy vx vy
  let u := round8 p.1
  let v := round8 p.2
  let w := rget copy Reg.KILN_SLOT_W2_W_M1 s + 1
  let h := rget copy Reg.KILN_SLOT_W2_H_M1 s + 1
  let clamp := rget copy Reg.KILN_SLOT_W0_EDGE s ≠ 0
  let lut := rget copy Reg.KILN_SLOT_W2_PRE_LUT s
  let ac := if rget copy Reg.KILN_SLOT_W0_ACONST s ≠ 0 then some (rget copy Reg.KILN_SLOT_W0_ALPHA_CONST s) else none
  let tap (x y : Int) : List Nat :=
    match edgeTap src w h clamp x y with
    | some t => tapOf pre lut ac t
    | none => [0, 0, 0, 0]
  let i := u / 256
  let j := v / 256
  filterTaps (u % 256).toNat (v % 256).toNat (tap i j) (tap (i + 1) j) (tap i (j + 1)) (tap (i + 1) (j + 1))

/-! ### The blend (R128–R130) -/

/-- A ray being blended: transmittance, the three accumulators, slots stepped through, saturation, stopped. -/
structure Blend where
  t : Nat
  r : Nat
  g : Nat
  b : Nat
  steps : Nat
  sat : Bool
  stop : Bool
  deriving DecidableEq, Repr

/-- A saturating addition to an accumulator of 18 bits. -/
def accumulate (c t p : Nat) : Nat := min 262143 (c + (t * p + 131072) / 2 ^ 18)

/-- The addition would pass 262,143. -/
def accSat (c t p : Nat) : Bool := 262143 < c + (t * p + 131072) / 2 ^ 18

/-- One colour added to a ray. -/
def Blend.add (x : Blend) (p : List Nat) : Blend :=
  { x with
    r := accumulate x.r x.t (nth p 0), g := accumulate x.g x.t (nth p 1), b := accumulate x.b x.t (nth p 2)
    sat := x.sat || accSat x.r x.t (nth p 0) || accSat x.g x.t (nth p 1) || accSat x.b x.t (nth p 2) }

/-- One slot blended (R128). -/
def Blend.step (x : Blend) (termShift : Nat) (p : List Nat) : Blend :=
  if x.stop then x
  else
    let y := x.add p
    let t := (x.t * (262144 - nth p 3) + 131072) / 2 ^ 18
    { y with t := t, steps := x.steps + 1, stop := t < 2 ^ (18 - termShift) }

/-- The background behind a ray that has not stopped (R128). -/
def Blend.background (x : Blend) (bg : List Nat) : Blend := if x.stop then x else x.add bg

/-- A ray blended front to back over the samples of its slots (R128). -/
def blendRay (termShift : Nat) (bg : List Nat) (ps : List (List Nat)) : Blend :=
  (ps.foldl (fun (x : Blend) p => x.step termShift p) ⟨262144, 0, 0, 0, 0, false, false⟩).background bg

/-! ### Bands and windows (R131, R132) -/

/-- vmin and vmax of a run of scene rows in units of 2^-14 texel (R131). -/
def bandV (copy : RegFile) (s : Nat) (g : Grid) (first last : Nat) : Int × Int :=
  let v0 := 4 * slotI copy Reg.KILN_SLOT_W4_V0 s
  let sc : Int := rget copy Reg.KILN_SLOT_W5_SCALE s
  let d := 2 * ((slotI copy Reg.KILN_SLOT_W6_DISP_V s).natAbs : Int) * ((g.svh : Int) - 1)
  (v0 + sc * first - d, v0 + sc * last + d)

/-- The unclipped window of a slot: its first and last slab row (R131). -/
def bandRows (copy : RegFile) (s : Nat) (g : Grid) (first last : Nat) : Int × Int :=
  let v := bandV copy s g first last
  (v.1 / 16384, v.2 / 16384 + 1)

/-- A slot is culled for a run of rows (R131). -/
def culled (copy : RegFile) (s : Nat) (g : Grid) (first last : Nat) : Bool :=
  let w := bandRows copy s g first last
  let h : Int := rget copy Reg.KILN_SLOT_W2_H_M1 s + 1
  rget copy Reg.KILN_SLOT_W0_EDGE s = 0 && (w.2 < 0 || h ≤ w.1)

/-- The slab rows a window loads, clipped (R131). -/
def windowRows (copy : RegFile) (s : Nat) (g : Grid) (first last : Nat) : List Nat :=
  let w := bandRows copy s g first last
  let h : Int := rget copy Reg.KILN_SLOT_W2_H_M1 s + 1
  let a := (clampI 0 (h - 1) w.1).toNat
  let b := (clampI 0 (h - 1) w.2).toNat
  List.range' a (b + 1 - a)

/-- The window estimate of R132 for B rows, in words. -/
def shelfEstimate (copy : RegFile) (slots : List Nat) (g : Grid) (b : Nat) : Nat :=
  (slots.map (fun s =>
    let d := (slotI copy Reg.KILN_SLOT_W6_DISP_V s).natAbs
    let rows := cdiv (rget copy Reg.KILN_SLOT_W5_SCALE s * (b - 1) + 4 * d * (g.svh - 1)) 16384 + 2
    (rget copy Reg.KILN_SLOT_W2_W_M1 s + 1) * rows)).foldl (· + ·) 0

/-- BAND_ROWS (R132): the largest B from 1 to BAND_MAX whose estimate fits, 0 when even one row does not. -/
def bandHeight (copy : RegFile) (slots : List Nat) (g : Grid) (maxB : Nat) : Nat :=
  ((List.range' 1 maxB).filter (fun b => shelfEstimate copy slots g b ≤ 262144)).foldl max 0

/-- The order in which slots are dropped (R51): lowest PRIO first, among equals the highest slot number. -/
def dropNext (copy : RegFile) : List Nat → Option Nat
  | [] => none
  | s :: t =>
    match dropNext copy t with
    | none => some s
    | some u =>
      if rget copy Reg.KILN_SLOT_W0_PRIO s < rget copy Reg.KILN_SLOT_W0_PRIO u
        || (rget copy Reg.KILN_SLOT_W0_PRIO s = rget copy Reg.KILN_SLOT_W0_PRIO u && u < s)
      then some s else some u

/-- `n` slots of a list dropped in the order of R51: those dropped. -/
def dropSlots (copy : RegFile) : Nat → List Nat → List Nat
  | 0, _ => []
  | n + 1, l =>
    match dropNext copy l with
    | some s => s :: dropSlots copy n (l.filter (· ≠ s))
    | none => []

/-! ### Blend order (R125) -/

/-- Slot `a` comes before slot `b` in the blend order (R125). -/
def orderBefore (copy : RegFile) (a b : Nat) : Bool :=
  let rank (s : Nat) := rget copy Reg.KILN_SLOT_W0_RANK s
  let byRank := rank a < rank b || (rank a = rank b && a < b)
  if rget copy Reg.KILN_BLEND_CTRL_ORDER 0 = 0 then
    let x := slotI copy Reg.KILN_SLOT_W5_DISP_H a
    let y := slotI copy Reg.KILN_SLOT_W5_DISP_H b
    y < x || (x = y && byRank)
  else byRank

/-- A slot put into its place of an ordered list. -/
def orderInsert (copy : RegFile) (a : Nat) : List Nat → List Nat
  | [] => [a]
  | b :: t => if orderBefore copy a b then a :: b :: t else b :: orderInsert copy a t

/-- The blend order of the sampled slots (R125). -/
def blendOrder (copy : RegFile) (slots : List Nat) : List Nat := slots.foldr (orderInsert copy) []

/-- Two sampled slots share DISP_H (event 746): the lowest slot that does. -/
def orderTie (copy : RegFile) (slots : List Nat) : Option Nat :=
  slots.find? (fun a => slots.any (fun b => a ≠ b &&
    rget copy Reg.KILN_SLOT_W5_DISP_H a = rget copy Reg.KILN_SLOT_W5_DISP_H b))

/-! ### Crumb surfaces (R153–R156) -/

/-- A surface as defined: base sector, crumb, width, height, words per row, sectors. -/
structure Surf where
  base : Nat
  crumb : Bool
  w : Nat
  h : Nat
  stride : Nat
  sectors : Nat
  deriving DecidableEq, Repr

/-- The definition of surface `n` in KILN_SURF. -/
def surfOf (r : RegFile) (n : Nat) : Surf :=
  ⟨rget r Reg.KILN_SURF_W0_BASE n, rget r Reg.KILN_SURF_W1_CRUMB n ≠ 0, rget r Reg.KILN_SURF_W1_W_M1 n + 1,
   rget r Reg.KILN_SURF_W1_H_M1 n + 1, rget r Reg.KILN_SURF_W2_STRIDE_M1 n + 1, rget r Reg.KILN_SURF_W2_SECTORS n⟩

/-- Word `i` of a surface. -/
def Surf.word (u : Surf) (d : List Host.Cell) (i : Nat) : Word := dramWord d (7 * u.base + i)

/-- The sector that holds word `i` of a surface passes its check. -/
def Surf.good (u : Surf) (d : List Host.Cell) (i : Nat) : Bool := sectorGood d (u.base + i / 7)

/-- Blocks of a crumb surface (R153). -/
def crumbBlocks (w h : Nat) : Nat := cdiv w 8 * cdiv h 8

/-- The length a block must have by its type and widths; none where the widths are out of range (R155, R156). -/
def blockLen (type : Nat) (w1 : Word) : Option Nat :=
  match type with
  | 0 => some 1
  | 2 => some 64
  | 1 =>
    let ws := [bits w1 15 12, bits w1 11 8, bits w1 7 4, bits w1 3 0]
    let s := ws.foldl (· + ·) 0
    if ws.any (fun x => 9 < x) || 34 < s then none else some (2 + cdiv (64 * s) 36)
  | _ => none

/-- Bits `pos` to `pos + n − 1` of words taken from bit 35 of the first downward (R155). -/
def streamBits (ws : Nat → Word) (pos n : Nat) : Nat :=
  (List.range n).foldl (fun a k =>
    let p := pos + k
    2 * a + bits (ws (p / 36)) (35 - p % 36) (35 - p % 36)) 0

/-- A code of a delta block: (base + delta) mod 512 (R155). -/
def deltaCode (base width delta : Nat) : Nat :=
  (((base : Int) + (if width = 0 then 0 else sext width delta)) % 512).toNat

/-- Texel `k` of a delta block (R155). -/
def deltaTexel (base w1 : Word) (ws : Nat → Word) (k : Nat) : Word :=
  let wd := [bits w1 15 12, bits w1 11 8, bits w1 7 4, bits w1 3 0]
  let s := wd.foldl (· + ·) 0
  let at_ (i : Nat) : Nat := k * s + (wd.take i).foldl (· + ·) 0
  let code (i b : Nat) : Nat := deltaCode b (nth wd i) (streamBits ws (at_ i) (nth wd i))
  texel (code 0 (bits base 35 27)) (code 1 (bits base 26 18)) (code 2 (bits base 17 9)) (code 3 (bits base 8 0))

/-- What a block gives: damaged (R156), or its type, its first word and its length; an index entry in a failed sector counts as
damaged. -/
inductive Block where
  | damaged
  | ok (type first len : Nat)
  deriving DecidableEq, Repr

/-- Block `n` of a crumb surface (R154–R156). A delta block whose word of widths lies in a failed sector is not damaged: its length is
that of its index entry. -/
def Surf.block (u : Surf) (d : List Host.Cell) (n : Nat) : Block :=
  if !u.good d n then .damaged
  else
    let e := u.word d n
    let first := crumbBlocks u.w u.h + bits e 27 0
    let len := bits e 33 28 + 1
    if 7 * u.sectors < first + len then .damaged
    else if bits e 35 34 = 1 && !u.good d (first + 1) then .ok 1 first len
    else if blockLen (bits e 35 34) (u.word d (first + 1)) = some len then .ok (bits e 35 34) first len
    else .damaged

/-- Texel `k` of a sound block, and the words it takes. -/
def Surf.blockTexel (u : Surf) (d : List Host.Cell) (type first k : Nat) : Word × List Nat :=
  match type with
  | 0 => (u.word d first, [first])
  | 2 => (u.word d (first + k), [first + k])
  | _ =>
    let w1 := u.word d (first + 1)
    let s := bits w1 15 12 + bits w1 11 8 + bits w1 7 4 + bits w1 3 0
    let a := k * s / 36
    let b := (k * s + s - 1) / 36
    (deltaTexel (u.word d first) w1 (fun i => u.word d (first + 2 + i)) k,
     [first, first + 1] ++ (if s = 0 then [] else List.range' (first + 2 + a) (b + 1 - a)))

/-- The number of the block of a texel, and the texel's place in it. -/
def Surf.blockOf (u : Surf) (x y : Nat) : Nat × Nat := (y / 8 * cdiv u.w 8 + x / 8, y % 8 * 8 + x % 8)

/-- A texel of a surface as the loader reads it (R142, R145, R155, R156): transparent where it is damaged or takes a word of
a failed sector. -/
def Surf.texel (u : Surf) (d : List Host.Cell) (x y : Nat) : Word :=
  if u.crumb then
    let b := u.blockOf x y
    match u.block d b.1 with
    | .damaged => 0
    | .ok ty first _ =>
      let t := u.blockTexel d ty first b.2
      if t.2.all (u.good d) then t.1 else 0
  else
    let i := y * u.stride + x
    if u.good d i then u.word d i else 0

/-- The words of a surface that a window's texels take; for a crumb surface its blocks and their words (R133, R142). -/
def Surf.windowWords (u : Surf) (d : List Host.Cell) (x0 : Nat) (w : Nat) (rows : List Nat) : List Nat :=
  if u.crumb then
    let bs := (rows.flatMap (fun y => (List.range' x0 w).map (fun x => (u.blockOf x y).1))).eraseDups
    bs.flatMap (fun n =>
      match u.block d n with
      | .damaged => [n]
      | .ok _ first len => n :: List.range' first len)
  else rows.flatMap (fun y => List.range' (y * u.stride + x0) w)

/-- Damaged blocks among those a window takes (R156). -/
def Surf.windowDamaged (u : Surf) (d : List Host.Cell) (x0 : Nat) (w : Nat) (rows : List Nat) : Nat :=
  if u.crumb then
    ((rows.flatMap (fun y => (List.range' x0 w).map (fun x => (u.blockOf x y).1))).eraseDups.filter
      (fun n => u.block d n = .damaged)).length
  else 0

/-- Failed sectors among those a window takes (R142). -/
def Surf.windowFailed (u : Surf) (d : List Host.Cell) (x0 : Nat) (w : Nat) (rows : List Nat) : List Nat :=
  ((u.windowWords d x0 w rows).map (fun i => u.base + i / 7)).eraseDups.filter (fun n => !sectorGood d n)

end Sys2Proof.Machine
end

