-- ==== Sys2Proof/Machine/Glaze.lean ====
section
/-! DEFINITION. The Glaze as functions: the seven stages, the aging gain and increment, the brightness split, the choice of
matrix entries by temperature (R158–R169, R182–R187). -/

namespace Sys2Proof.Machine

/-! ### Stage 1 (R158) -/

/-- A point of a post-blend LUT; the ramp unless loaded. -/
def postRamp (i : Nat) : Nat := (i * 65535 + 512) / 1024
def postLut (l : List (Nat × Nat)) (table colour i : Nat) : Nat := sget (postRamp i) l ((3 * table + colour) * 1025 + i)

/-- Stage 1 for one colour. -/
def stage1 (l : List (Nat × Nat)) (table colour c : Nat) : Nat :=
  let i := c / 256
  let a := postLut l table colour i
  let b := postLut l table colour (i + 1)
  ((a : Int) + (((b : Int) - a) * (c % 256 : Nat) + 128) / 256).toNat

/-! ### Stage 2 (R159–R161) -/

/-- The identity matrix in Q2.16. -/
def identity : List Int := [65536, 0, 0, 0, 65536, 0, 0, 0, 65536]

/-- A stored matrix. -/
def matrixAt (l : List (Nat × Nat)) (slot m : Nat) : List Int :=
  (List.range 9).map (fun e => sext 18 (sget 0 l ((4096 * slot + m) * 9 + e)))

/-- An interpolated coefficient (R160). -/
def lerp16 (a b : Int) (w : Nat) : Int := a + ((b - a) * w + 32768) / 65536

/-- The matrix of a hogel in its zone (R159, R160): none where its index lies beyond a slot's count. -/
def hogelMatrix (r : RegFile) (copy : RegFile) (l : List (Nat × Nat)) (z : ZoneSet) (m : Nat) : Option (List Int) :=
  if z.none then some identity
  else
    let slot (e : Nat) := rget copy Reg.GLAZE_SETLIST_SLOT e
    let ok (sl : Nat) : Bool := rget r Reg.GLAZE_SLOT_LOADED sl ≠ 0 && m ≤ rget r Reg.GLAZE_SLOT_COUNT_M1 sl
    if ok (slot z.a) && ok (slot z.b) then
      let ma := matrixAt l (slot z.a) m
      let mb := matrixAt l (slot z.b) m
      some (if z.a = z.b then ma else (List.range 9).map (fun e => lerp16 (ma.getD e 0) (mb.getD e 0) z.weight))
    else none

/-- A row of the matrix applied, before the clamp (R161). -/
def matrixRow (m : List Int) (r : Nat) (x : List Nat) : Int :=
  (m.getD (3 * r) 0 * nth x 0 + m.getD (3 * r + 1) 0 * nth x 1 + m.getD (3 * r + 2) 0 * nth x 2 + 32768) / 65536

/-- Stage 2: the three outputs. -/
def stage2 (m : List Int) (x : List Nat) : List Nat := (List.range 3).map (fun r => (clampI 0 65535 (matrixRow m r x)).toNat)

/-- Some output of stage 2 is clamped. -/
def stage2Sat (m : List Int) (x : List Nat) : Bool :=
  (List.range 3).any (fun r => matrixRow m r x < 0 || 65535 < matrixRow m r x)

/-! ### Stages 3 and 4 (R162, R163) -/

/-- A gain of Q1.15 applied, before saturation. -/
def gainRaw (y g : Nat) : Nat := (y * g + 16384) / 32768

/-- A gain stage. -/
def gain (y g : Nat) : Nat := min 65535 (gainRaw y g)

/-! ### Stage 6 and 7 (R165, R166, R168) -/

/-- BRT_EFF (R165). -/
def brtEff (b : Nat) : Nat := b + b / 32768

/-- The current step k and the pulse-width scale D of BRT_EFF (R166). -/
def dimSplit (eff crossover curMin : Nat) : Nat × Nat :=
  if crossover ≤ eff then
    let k := cdiv eff 4096 - 1
    (k, eff * 16 / (k + 1))
  else (curMin, eff * 16 / (curMin + 1))

/-- The threshold matrix of the dither, by row and column (R168). -/
def ditherT (rb ca : Nat) : Nat :=
  nth ([[0, 8, 2, 10], [12, 4, 14, 6], [3, 11, 1, 9], [15, 7, 13, 5]].getD rb []) ca

/-- The dither of a ray (R168). -/
def dither (en temporal : Bool) (frame px py pvx pvy : Nat) : Nat :=
  if en then
    let f := if temporal then [(0, 0), (2, 2), (2, 0), (0, 2)].getD (frame % 4) (0, 0) else (0, 0)
    ditherT ((py + pvy + f.2) % 4) ((px + pvx + f.1) % 4)
  else 8

/-- Stage 7: the emitter code. -/
def stage7 (p t : Nat) : Nat := min 4095 ((p + t) / 16)

/-- A ray word (R169). -/
def rayWord (r g b : Nat) : Word := pack [(24, r), (12, g), (0, b)]

/-! ### Aging (R182–R186) -/

/-- A loss table: LOG_BASE and points; 40 and 1.0 unless loaded (R188). -/
def lossBase (l : List (Nat × Nat)) (c : Nat) : Nat := sget 40 l (65 * c)
def lossPoint (l : List (Nat × Nat)) (c i : Nat) : Nat := sget 32768 l (65 * c + 1 + i)

/-- The log code of an integral (R185). -/
def logCode (i : Nat) : Nat :=
  if i = 0 then 0
  else
    let e := Nat.log2 i
    256 * e + (if 8 ≤ e then i / 2 ^ (e - 8) else i * 2 ^ (8 - e)) % 256

/-- The table gain Tt (R185). -/
def tableGain (l : List (Nat × Nat)) (c integral : Nat) : Nat :=
  let pos : Int := (logCode integral : Int) - 256 * lossBase l c
  if pos < 0 then lossPoint l c 0
  else if 8064 ≤ pos then lossPoint l c 63
  else
    let p := pos.toNat
    let i := p / 128
    let a : Int := lossPoint l c i
    let b : Int := lossPoint l c (i + 1)
    (a + ((b - a) * (p % 128 : Nat) + 64) / 128).toNat

/-- Gk of R186. -/
def scaledGain (k tt : Nat) : Int := 32768 + ((k : Int) * ((tt : Int) - 32768) + 8192) / 16384

/-- G of R186. -/
def agingG (l : List (Nat × Nat)) (c k norm integral : Nat) : Nat :=
  (clampI 0 65535 ((scaledGain k (tableGain l c integral) * norm + 16384) / 32768)).toNat

/-- P of R182 for a rate: floor(256 × period / 8,333,333 ns + 0.5). -/
def periodWeight (num den : Nat) : Nat := (2 * 256 * den * 1000000000 + 8333333 * num) / (2 * 8333333 * num)

/-- The increment of R182. -/
def agingInc (m k wt p : Nat) : Nat := m * (k + 1) * wt * p / 256

/-! ### Temperature (R159) -/

/-- The enabled entry with the least or greatest TREF satisfying a bound; ties to the lower entry number. -/
def pickEntry (es : List (Nat × Int)) (less : Int → Int → Bool) : Option (Nat × Int) :=
  es.foldl (fun best e =>
    match best with
    | none => some e
    | some b => if less e.2 b.2 then some e else some b) none

/-- The entries a and b, the weight and the clamp of a zone for a temperature, from enabled entries (number, TREF)
(R159). A temperature equal to the highest TREF has no entry above it: b = a, w = 0, not clamped (DESIGN CHOICE, assumption
log 69). -/
def chooseEntries (es : List (Nat × Int)) (t : Int) : Option (Nat × Nat × Nat × Bool) :=
  let below := pickEntry (es.filter (fun e => e.2 ≤ t)) (fun a b => b < a)
  let above := pickEntry (es.filter (fun e => t < e.2)) (fun a b => a < b)
  match below, above with
  | none, none => none
  | none, some b => some (b.1, b.1, 0, true)
  | some a, none => some (a.1, a.1, 0, a.2 < t)
  | some a, some b => some (a.1, b.1, ((t - a.2) * 65536 / (b.2 - a.2)).toNat, false)

/-- The zone's part of a Glaze set (R159, R171). -/
def zoneSet (copy : RegFile) (t : Int) (cone : Nat) : ZoneSet :=
  let es := (List.range 6).filterMap (fun e =>
    if rget copy Reg.GLAZE_SETLIST_EN e ≠ 0 then some (e, sext 13 (rget copy Reg.GLAZE_SETLIST_TREF e)) else none)
  match chooseEntries es t with
  | none => ⟨t, cone, 0, 0, 0, false, true⟩
  | some (a, b, w, c) => ⟨t, cone, a, b, w, c, false⟩

/-- The zone's part of a set that names no such zone. -/
def ZoneSet.empty : ZoneSet := ⟨0, 0, 0, 0, 0, false, true⟩

/-! ### One ray (R157) -/

/-- Context word 0 and 1 defaults (R173). -/
def ctxDefault (w : Nat) : Word := if w = 1 then 0x800800800 else 0

/-- A context word of a bank. -/
def ctxWord (bank : List (Nat × Word)) (ctx w : Nat) : Word := sget (ctxDefault w) bank (2 * ctx + w)

/-- What a ray's passage through the Glaze gives: its word, and what it counts. -/
structure Glazed where
  word : Word
  matSat : Bool
  gainSat : Bool
  idxErr : Bool
  deriving DecidableEq, Repr

/-- The seven stages for a composited ray of a hogel (R157–R169): post-blend table and LUTs, the hogel's matrix (none: the
identity, and MATRIX_INDEX), its gain word and aging gains, D, and the dither. -/
def glazeChain (post : List (Nat × Nat)) (table : Nat) (m : Option (List Int)) (w1 : Word) (ag : List Nat) (d t : Nat)
    (c : List Nat) : Glazed :=
  let x := (List.range 3).map (fun k => stage1 post table k (nth c k))
  let mm := m.getD identity
  let y := stage2 mm x
  let g3 := [bits w1 35 24 * 16, bits w1 23 12 * 16, bits w1 11 0 * 16]
  let z := (List.range 3).map (fun k => gain (nth y k) (nth g3 k))
  let a := (List.range 3).map (fun k => gain (nth z k) (nth ag k))
  let sat := (List.range 3).any (fun k => 65535 < gainRaw (nth y k) (nth g3 k) || 65535 < gainRaw (nth z k) (nth ag k))
  let p := a.map (fun v => (v * d + 32768) / 65536)
  ⟨rayWord (stage7 (nth p 0) t) (stage7 (nth p 1) t) (stage7 (nth p 2) t), stage2Sat mm x, sat, m.isNone⟩

end Sys2Proof.Machine
end

