-- ==== Sys2Proof/Machine/Fire.lean ====
section
/-! DEFINITION. Firing as functions of the state: the frames in work, readiness and its policies, the blend order, what a band
is fired on and when it is fired again, seals and tears, the composing of a band (R27–R57, R125–R136, R147–R152). -/

namespace Sys2Proof.Machine

/-! ### Frames in work -/

/-- A frame taken into work, nothing decided yet. -/
def FireFrame.fresh (n : Nat) (copy : RegFile) (gens : List Nat) : FireFrame where
  frame := n
  copy := copy
  gens := gens
  decided := false
  repeated := false
  stopped := false
  uses := List.replicate 32 ⟨false, false, 0, none, none, false, false, false, false⟩
  order := []
  rows := 0
  half := false
  bands := []
  queue := []
  rays := []
  set := none
  model := none
  loss := []
  faults := none
  sums := []
  toCome := []
  ag := []
  once := []
  blends := 0
  slotBlends := List.replicate 32 0
  hogels := 0
  aged := 0
  agedSum := [0, 0, 0]
  gSum := [0, 0, 0]
  gMax := [0, 0, 0]
  clips := []
  advanced := []
  packets := []
  prep := false
  seen := []
  rected := []
  live := []
  cut := false
  batch := false
  late := false
  cooled := false
  ambient := false

/-- The slot use of a frame before its decision. -/
def SlotUse.fresh : SlotUse := ⟨false, false, 0, none, none, false, false, false, false⟩

/-- Frame `n`, when it is in work. -/
def State.fireFrame (s : State) (n : Nat) : Option FireFrame := s.fire.frames.find? (fun f => f.frame = n)

/-- Frame `n`, in work or fresh. -/
def State.frameOr (s : State) (n : Nat) : FireFrame := (s.fireFrame n).getD (FireFrame.fresh n (s.copyFor n) (s.gensFor n))

/-- A frame put back in its place of the list, in the order of frames. -/
def putFrame (l : List FireFrame) (f : FireFrame) : List FireFrame :=
  l.filter (fun x => x.frame < f.frame) ++ [f] ++ l.filter (fun x => f.frame < x.frame)

/-- A frame in work written back. -/
def State.setFrame (s : State) (f : FireFrame) : State :=
  { s with fire := { s.fire with frames := putFrame s.fire.frames f } }

/-- A frame's work is over. -/
def State.dropFrame (s : State) (n : Nat) : State :=
  { s with fire := { s.fire with frames := s.fire.frames.filter (fun f => f.frame ≠ n) } }

/-- An event raised once in a frame (R125, R130, R160, R161, R163). -/
def State.once (s : State) (f : FireFrame) (e d : Nat) : FireFrame × State :=
  if f.once.contains e then (f, s) else ({ f with once := e :: f.once }, s.raise e d)

/-- Direct firing mode is in force (R57). -/
def State.direct (s : State) : Bool := s.rb Reg.KILN_FRAME_STATUS_DIRECT

/-- Some band of a frame has been fired or is being fired. -/
def FireFrame.begun (f : FireFrame) : Bool := f.rows ≠ 0

/-! ### Descriptors -/

/-- SRC, LIVE, KEEP, ACONST and the atlas of a slot in a copy; with KEEP = 1 the latest complete picture is sampled, whatever LIVE
holds (R72). -/
def slotSrc (c : RegFile) (i : Nat) : Bool := rget c Reg.KILN_SLOT_W7_SRC i ≠ 0
def slotLive (c : RegFile) (i : Nat) : Bool :=
  rget c Reg.KILN_SLOT_W0_LIVE i ≠ 0 && !slotSrc c i && rget c Reg.KILN_SLOT_W0_KEEP i = 0
def slotKeep (c : RegFile) (i : Nat) : Bool := rget c Reg.KILN_SLOT_W0_KEEP i ≠ 0
def slotAconst (c : RegFile) (i : Nat) : Bool := rget c Reg.KILN_SLOT_W0_ACONST i ≠ 0
def slotAtlas (c : RegFile) (i : Nat) : Nat := rget c Reg.KILN_SLOT_W0_ATLAS i
def slotPolicy (c : RegFile) (i : Nat) : Nat := rget c Reg.KILN_SLOT_W0_POLICY i
def slotLimit (c : RegFile) (i : Nat) : Nat := rget c Reg.KILN_SLOT_W0_STALE_LIMIT i

/-- The rectangle of a slot: first column and row, one past its last column and row. -/
def slotRect (c : RegFile) (i : Nat) : Nat × Nat × Nat × Nat :=
  let x := rget c Reg.KILN_SLOT_W1_ATLAS_X i
  let y := rget c Reg.KILN_SLOT_W1_ATLAS_Y i
  (x, y, x + rget c Reg.KILN_SLOT_W2_W_M1 i + 1, y + rget c Reg.KILN_SLOT_W2_H_M1 i + 1)

/-- The rectangle of a slot lies inside its pictures, and these have one size (R75). -/
def rectFits (c : RegFile) (i : Nat) (col : Pic) (alp : Option Pic) : Bool :=
  let q := slotRect c i
  q.2.2.1 ≤ col.width && q.2.2.2 ≤ col.height
    && (match alp with | some p => p.width = col.width && p.height = col.height | none => true)

/-- The slots of a copy's slot set that sample an atlas. -/
def atlasUsers (c : RegFile) (a : Nat) : List Nat := (slotSet c).filter (fun j => !slotSrc c j && slotAtlas c j = a)

/-- No slot that samples the atlas of slot `i` has its rectangle outside the pictures, and the atlas's two planes have one size,
whether the slot samples alpha or not (R75); `alp` is the alpha picture of the same choice, if there is one. -/
def atlasFits (c : RegFile) (i : Nat) (col : Pic) (alp : Option Pic) : Bool :=
  rectFits c i col alp && (atlasUsers c (slotAtlas c i)).all (fun j => rectFits c j col none)

/-! ### Pictures of a slot -/

/-- The picture a plane picture in progress makes so far. -/
def Prog.asPic (seq : Nat) (p : Prog) : Pic where
  id := 0
  seq := seq
  frame := p.frame
  poc := p.head.poc
  cvs := p.cvs
  width := p.head.width
  height := p.head.height
  chroma := p.head.chroma
  depth10 := p.head.depth10
  full := p.head.full
  matrix := p.head.matrix
  complete := false
  tainted := p.taintIn
  output := p.head.output
  ref := false
  latest := false
  comp := false
  frm := false
  sealAt := none
  old := false
  place := p.place
  room := p.room
  samples := p.samples

/-- The picture of a frame in progress in a sequence, where it counts for the frame (R95). -/
def State.inProgress (s : State) (seq n : Nat) : Option Prog :=
  (s.dec.prog.getD seq none).filter (fun p => p.frame = n && !p.dropped && p.head.output)

/-- The picture of a plane for a frame, once it has ended (R95): the last in decode order that is put out, none while a later one is in
progress. -/
def State.ended (s : State) (seq n : Nat) : Option Pic :=
  if (s.inProgress seq n).isSome then none
  else (s.dec.pics.filter (fun p => p.seq = seq && p.frame = n && !p.old && p.output)).getLast?

/-- The picture of a plane for a frame as far as it is decoded, and its lines that are final (R46, R98). -/
def State.planeLive (s : State) (seq n : Nat) : Option (Pic × Nat) :=
  match s.inProgress seq n with
  | some p => some (p.asPic seq, min p.head.height (p.rows * p.head.ctu))
  | none => (s.ended seq n).map (fun p => (p, p.height))

/-- The later of two pictures, `b` the later in decode order. -/
def laterPic (a b : Pic) : Pic := if a.frame ≤ b.frame then b else a

/-- The last complete picture of a plane among those a bound admits (R34, R72). -/
def State.lastComplete (s : State) (seq : Nat) (ok : Nat → Bool) : Option Pic :=
  match s.dec.pics.filter (fun p => p.seq = seq && !p.old && p.complete && p.output && ok p.frame) with
  | [] => none
  | p :: t => some (t.foldl laterPic p)

/-- A slot's pictures, colour and alpha, by a choice for each plane; alpha is not needed with ACONST = 1 (R72, R73, R76). -/
def slotPics (c : RegFile) (i : Nat) (pick : Nat → Option Pic) : Option (Pic × Option Pic) :=
  let a := slotAtlas c i
  match pick (2 * a) with
  | none => none
  | some col =>
    if slotAconst c i then (if rectFits c i col none then some (col, none) else none)
    else
      match pick (2 * a + 1) with
      | some alp => if rectFits c i col (some alp) then some (col, some alp) else none
      | none => none

/-- The pictures a slot is ready with: those of `slotPics`, unless its atlas breaks R75. -/
def readyPics (c : RegFile) (i : Nat) (pick : Nat → Option Pic) : Option (Pic × Option Pic) :=
  match slotPics c i pick with
  | none => none
  | some p =>
    let other := (pick (2 * slotAtlas c i + 1)).filter (fun x => x.frame = p.1.frame || !slotAconst c i)
    if atlasFits c i p.1 other then some p else none

/-- The complete picture of a plane for exactly this frame. -/
def State.exact (s : State) (n seq : Nat) : Option Pic := (s.ended seq n).filter (·.complete)

/-- The planes a slot samples have a supported sequence: while one has not, the slot is not ready (R93). -/
def State.planesOn (s : State) (c : RegFile) (i : Nat) : Bool :=
  let a := slotAtlas c i
  s.rb Reg.DECODE_SEQ_STATUS_ACTIVE (2 * a) && (slotAconst c i || s.rb Reg.DECODE_SEQ_STATUS_ACTIVE (2 * a + 1))

/-- Lines of a live slot's picture of frame `n` that are final in both its planes; none while a plane's sequence is not supported. -/
def State.liveLines (s : State) (c : RegFile) (i n : Nat) : Nat :=
  let a := slotAtlas c i
  match s.planeLive (2 * a) n with
  | none => 0
  | some x =>
    let y := s.planeLive (2 * a + 1) n
    if !s.planesOn c i || !atlasFits c i x.1 (y.map Prod.fst) then 0
    else if slotAconst c i then x.2
    else match y with
      | some y => min x.2 y.2
      | none => 0

/-- The lines a live slot has for a frame: those of the cutoff once it has passed. -/
def State.linesFor (s : State) (f : FireFrame) (i : Nat) : Nat :=
  if f.cut then sget 0 f.live i else s.liveLines f.copy i f.frame

/-- Every line of a live slot's rectangle is there. -/
def State.liveWhole (s : State) (f : FireFrame) (i : Nat) : Bool := (slotRect f.copy i).2.2.2 ≤ s.linesFor f i

/-! ### Readiness (R33–R36, R70, R72, R76, R113, R126, R137, R151, R152) -/

/-- A static surface is valid (R151). -/
def State.surfValid (s : State) (n : Nat) : Bool :=
  s.rb Reg.KILN_SURF_W3_DEFINED n && !s.rb Reg.KILN_SURF_W3_WRITING n && !s.rb Reg.KILN_SURF_W3_INVALID n

/-- The slots of a copy's slot set that sample a surface. -/
def surfUsers (c : RegFile) (n : Nat) : List Nat :=
  (slotSet c).filter (fun j => slotSrc c j && rget c Reg.KILN_SLOT_W7_SURF_ID j = n)

/-- A static surface holds the rectangle of every slot that samples it, checked as R75 checks an atlas (R137). -/
def surfFits (r c : RegFile) (n : Nat) : Bool :=
  let u := surfOf r n
  (surfUsers c n).all (fun j => (slotRect c j).2.2.1 ≤ u.w && (slotRect c j).2.2.2 ≤ u.h)

/-- What a slot finds for a frame, its policy aside: ready, and the pictures with their kind (1 current, 3 kept). -/
def State.slotReady (s : State) (f : FireFrame) (i : Nat) (torn : Bool) : Bool × Nat × Option (Pic × Option Pic) :=
  let c := f.copy
  if torn then (false, 0, none)
  else if slotSrc c i then
    let n := rget c Reg.KILN_SLOT_W7_SURF_ID i
    let ok := s.surfValid n && surfFits s.regs c n
    (ok, b2n ok, none)
  else if !s.planesOn c i then (false, 0, none)
  else if slotKeep c i then
    match readyPics c i (fun q => s.lastComplete q (fun k => k ≤ f.frame)) with
    | some p => (true, 3, some p)
    | none => (false, 0, none)
  else if f.batch then
    match readyPics c i (s.exact f.frame) with
    | some p => (true, 1, some p)
    | none => (false, 0, none)
  else (false, 0, none)

/-- A slot's use by pictures found: which they are, taint (R113). -/
def slotUse (c : RegFile) (i : Nat) (u : SlotUse) (ready : Bool) (pic : Nat) (ps : Option (Pic × Option Pic)) : SlotUse :=
  let taint := match ps with
    | some (a, b) => a.tainted || (match b with | some p => p.tainted | none => false)
    | none => false
  { u with
    ready := ready, rows := false, pic := pic, colour := ps.map (·.1.id), alpha := (ps.bind (·.2)).map (·.id), tainted := taint
    transparent := taint && rget c Reg.KILN_SLOT_W0_TAINT i ≠ 0 }

/-- What a slot that is not ready does under its policy (R34, R35, R152): its use, and whether it repeats the frame. -/
def State.slotPolicyUse (s : State) (f : FireFrame) (i : Nat) (u : SlotUse) : SlotUse × Bool :=
  let c := f.copy
  let none_ : SlotUse := { u with ready := false, rows := false, pic := 0, colour := none, alpha := none, tainted := false, transparent := true }
  let held := s.r Reg.KILN_SLOT_W8_HELD i
  match slotPolicy c i with
  | 0 =>
    if slotLimit c i ≤ held || slotSrc c i then (none_, false)
    else
      match slotPics c i (fun q => s.lastComplete q (fun k => k ≤ f.frame)) with
      | some p => (slotUse c i u false 2 (some p), false)
      | none => (none_, false)
  | 1 => (none_, false)
  | _ => (none_, held < slotLimit c i && !u.dropped)

/-- A slot of either policy is past its limit and behaves as OMIT (R34, R35). -/
def State.overLimit (s : State) (c : RegFile) (i : Nat) : Bool := slotLimit c i ≤ s.r Reg.KILN_SLOT_W8_HELD i

/-- A live slot's current pictures, ended or in progress. -/
def State.livePics (s : State) (f : FireFrame) (i : Nat) : Option (Pic × Option Pic) :=
  slotPics f.copy i (fun q => (s.planeLive q f.frame).map Prod.fst)

/-- A pair of pictures is tainted (R113). -/
def pairTainted : Option (Pic × Option Pic) → Bool
  | some (a, b) => a.tainted || (match b with | some p => p.tainted | none => false)
  | none => false

/-- A live slot's use: readiness is decided per row; its fallback is the last complete picture under HOLD and WAIT, nothing under OMIT
or past the limit (R34, R35, R46, R47). A tainted current picture makes it transparent under TAINT_OMIT (R113). -/
def State.liveUse (s : State) (f : FireFrame) (i : Nat) (u : SlotUse) : SlotUse :=
  let c := f.copy
  let back := if slotPolicy c i = 1 || s.overLimit c i then none
    else slotPics c i (fun q => s.lastComplete q (fun k => k < f.frame))
  let taint := pairTainted (s.livePics f i)
  { u with
    ready := true, rows := true, pic := 1, colour := back.map (·.1.id), alpha := (back.bind (·.2)).map (·.id), tainted := taint
    transparent := taint && rget c Reg.KILN_SLOT_W0_TAINT i ≠ 0 }

/-- The decision of one slot: its use, whether it repeats the frame (R33–R36, R127). A live slot is decided per row where an applied
batch has bound it to the frame (R46, R70); any other slot here. -/
def State.decideSlot (s : State) (f : FireFrame) (i : Nat) : SlotUse × Bool :=
  let v := f.uses.getD i SlotUse.fresh
  -- R152: a FORCE write in progress at the decision tears the surface for the frame
  let n := rget f.copy Reg.KILN_SLOT_W7_SURF_ID i
  let u := { v with torn := v.torn || (slotSrc f.copy i && s.rb Reg.KILN_SURF_W3_WRITING n && s.rb Reg.KILN_SURF_W3_FORCED n) }
  if slotLive f.copy i && f.batch then (s.liveUse f i u, false)
  else
    let r := s.slotReady f i u.torn
    if r.1 then (slotUse f.copy i u true r.2.1 r.2.2, false) else s.slotPolicyUse f i u

/-- The live slots of a frame taken anew: their taint and, until the cutoff, their fallback (R47, R113). -/
def State.refreshLive (s : State) (f : FireFrame) : FireFrame :=
  { f with uses := (List.range 32).map (fun i =>
      let u := f.uses.getD i SlotUse.fresh
      if !u.rows then u
      else
        let v := s.liveUse f i u
        if f.cut then { v with colour := u.colour, alpha := u.alpha } else v) }

/-- A pool picture is sealed for a frame (R147): SEAL and L. -/
def State.sealPics (s : State) (ids : List Nat) (n : Nat) : State :=
  { s with dec := { s.dec with
    pics := s.dec.pics.map (fun (p : Pic) =>
      if ids.contains p.id then { p with sealAt := some (max n (p.sealAt.getD 0)) } else p) } }.showPool

/-- The pictures the uses of a frame name. -/
def usedPics (l : List SlotUse) : List Nat := l.flatMap (fun u => u.colour.toList ++ u.alpha.toList)

/-- A static surface is sealed for a frame (R147): SEALED, L and LAST_USE. -/
def State.sealSurf (s : State) (n i : Nat) : State :=
  let x := sget (⟨0, 0, none⟩ : SurfX) s.fire.surf i
  let l := if s.rb Reg.KILN_SURF_W3_SEALED i then max x.last n else n
  { s with
    fire := { s.fire with surf := sset ⟨0, 0, none⟩ s.fire.surf i { x with last := l } }
    regs := rsets s.regs [(Reg.KILN_SURF_W3_SEALED, i, 1), (Reg.KILN_SURF_W3_LAST_USE, i, l)] }

/-- Every surface a copy names is sealed for a frame. -/
def State.sealFor (s : State) (copy : RegFile) (n : Nat) : State :=
  ((List.range 256).filter (namesSurf copy)).foldl (fun x i => x.sealSurf n i) s

/-- Every surface is sealed for every frame bound to sample it (R147, R148): of the frames up to the last to which anything is bound,
those whose copy names it. -/
def State.sealBound (s : State) : State :=
  let last := (s.fire.inputs.map (fun i => i.frame)).foldl max 0
  (List.range' s.curFrame (last + 1 - s.curFrame)).foldl (fun (x : State) n => x.sealFor (x.copyFor n) n) s

/-! ### The blend order (R125, R126) -/

/-- The slots of a frame that are sampled. -/
def FireFrame.sampled (f : FireFrame) : List Nat :=
  (slotSet f.copy).filter (fun i =>
    let u := f.uses.getD i SlotUse.fresh
    !u.dropped && !u.transparent)

/-- The order built anew (R125). -/
def FireFrame.reorder (f : FireFrame) : FireFrame := { f with order := blendOrder f.copy f.sampled }

/-- A tie of the fixed order is told once per frame (event 746). -/
def State.tellTie (s : State) (f : FireFrame) : FireFrame × State :=
  if rget f.copy Reg.KILN_BLEND_CTRL_ORDER 0 = 0 then
    match orderTie f.copy f.order with
    | some i => s.once f 746 i
    | none => (f, s)
  else (f, s)

/-! ### The registers that show the frame being fired -/

/-- The place of an element in a list. -/
def place (l : List Nat) (i : Nat) : Nat := (l.idxOf i) % 32

/-- The PIC_FRAME of a slot's use. -/
def State.picFrame (s : State) (f : FireFrame) (u : SlotUse) : Nat :=
  if u.rows then f.frame
  else match u.colour.bind s.pic with
    | some p => p.frame
    | none => 0

/-- The scene rows of a band: first and last. -/
def bandSpan (rows scene b : Nat) : Nat × Nat := (b * rows, min scene (b * rows + rows) - 1)

/-- A slot of a frame is live: its readiness is decided per row. -/
def FireFrame.rowSlot (f : FireFrame) (i : Nat) : Bool := (f.uses.getD i SlotUse.fresh).rows

/-- The slots a run of rows may need: those of the slot set that are neither dropped nor culled, transparent or not (R33, R39). -/
def bandNeeds (f : FireFrame) (g : Grid) (first last : Nat) : List Nat :=
  (slotSet f.copy).filter (fun i => !(f.uses.getD i SlotUse.fresh).dropped && !culled f.copy i g first last)

/-- The slots a run of rows samples: those of the order that are not culled. -/
def bandSlots (f : FireFrame) (g : Grid) (first last : Nat) : List Nat :=
  f.order.filter (fun i => !culled f.copy i g first last)

/-- The lines of a live slot that a band of rows needs: one past the last atlas line of its window. -/
def liveNeed (c : RegFile) (i : Nat) (g : Grid) (first last : Nat) : Nat :=
  match (windowRows c i g first last).getLast? with
  | some y => rget c Reg.KILN_SLOT_W1_ATLAS_Y i + y + 1
  | none => 0

/-- A band of the frame waits for live rows (R46). -/
def State.liveWaits (s : State) (f : FireFrame) : Bool :=
  let g := gridOf s.regs
  f.decided && !f.repeated && !f.cut && f.bands.any (fun b =>
    let sp := bandSpan f.rows g.sh b.idx
    !b.fired && b.left = 0 && (bandSlots f g sp.1 sp.2).any (fun i =>
      f.rowSlot i && s.linesFor f i < liveNeed f.copy i g sp.1 sp.2))

/-- KILN_SLOT words 8 and 9, KILN_FRAME_STATUS and KILN_BAND_STATUS for the frame being fired. -/
def State.showFire (s : State) : State :=
  let n := s.curFrame
  let f := s.frameOr n
  let g := gridOf s.regs
  let set := slotSet f.copy
  let per (i : Nat) : List (Fld × Nat × Nat) :=
    let u := f.uses.getD i SlotUse.fresh
    let inset := set.contains i
    [(Reg.KILN_SLOT_W8_SAMPLED, i, b2n (f.order.contains i)), (Reg.KILN_SLOT_W8_DROPPED, i, b2n (inset && u.dropped)),
     (Reg.KILN_SLOT_W8_TRANSPARENT, i, b2n (inset && u.transparent)),
     (Reg.KILN_SLOT_W8_PICTURE, i, if inset then u.pic else 0), (Reg.KILN_SLOT_W8_TORN, i, b2n (inset && u.torn)),
     (Reg.KILN_SLOT_W8_TAINTED, i, b2n (inset && u.tainted && !u.transparent)),
     (Reg.KILN_SLOT_W8_ORDER_POS, i, if f.order.contains i then place f.order i else 0),
     (Reg.KILN_SLOT_W9_PIC_FRAME, i, if inset then s.picFrame f u else 0)]
  let fired := (f.bands.filter (·.fired)).length
  s.ws ((List.range 32).flatMap per ++
    [(Reg.KILN_FRAME_STATUS_ACTIVE_SLOTS, 0, f.order.length),
     (Reg.KILN_FRAME_STATUS_LIVE_WAIT, 0, b2n (s.liveWaits f)),
     (Reg.KILN_FRAME_STATUS_BANDS_PCT, 0, if f.bands.isEmpty then 0 else 100 * fired / f.bands.length),
     (Reg.KILN_FRAME_STATUS_RUNAHEAD, 0, b2n (s.fire.frames.any (fun x => n < x.frame && x.bands.any (fun b => b.fired && !b.released)))),
     (Reg.KILN_BAND_STATUS_BAND_ROWS, 0, f.rows), (Reg.KILN_BAND_STATUS_BANDS, 0, f.bands.length),
     (Reg.KILN_BAND_STATUS_SHELF_WORDS, 0, if f.rows = 0 then 0 else shelfEstimate f.copy f.order g f.rows)])

/-! ### Frame repeat (R37, R38) -/

/-- The lowest free tag of a head (R219). -/
def freeTag (rs : List Rect) (h : Nat) : Option Nat :=
  (List.range 8).find? (fun t => !rs.any (fun r => r.head = h && r.tag = some t))

/-- Waiting rectangles take tags that are free, in the order of their formation. -/
def giveTags (rs : List Rect) : List Rect :=
  (List.range rs.length).foldl (fun (l : List Rect) i =>
    match l[i]? with
    | some r => if r.tag.isNone then setNth l i { r with tag := freeTag l r.head } else l
    | none => l) rs

/-- What an emitter lane has to send. -/
def State.laneTx (s : State) (lane : Nat) : LaneTx := s.emit_.tx.getD lane ⟨[], [], none⟩

/-- What an emitter lane has to send, replaced. -/
def State.setTx (s : State) (lane : Nat) (t : LaneTx) : State := { s with emit_ := { s.emit_ with tx := setNth s.emit_.tx lane t } }

/-- A packet belongs to frame `n` (R228): one of its transfers, not a SWAP, ABANDON or FAULT_REQ. -/
def ofFrame (n : Nat) (ws : List Word) : Bool :=
  bits (nthW ws 0) 27 0 = n % 2 ^ 28 && !([7, 8, 10].contains (bits (nthW ws 0) 35 32))

/-- A lane still has something of frame `n` to send. -/
def LaneTx.holds (t : LaneTx) (n : Nat) : Bool :=
  t.short.any (ofFrame n) || t.long.any (ofFrame n) || t.open_.any (fun o => o.frame = n % 2 ^ 28)

/-- What the lanes still had to send of frame `n` goes. -/
def State.dropTx (s : State) (n : Nat) : State :=
  { s with emit_ := { s.emit_ with
      rects := giveTags (s.emit_.rects.filter (fun r => r.frame ≠ n))
      tx := s.emit_.tx.map (fun (t : LaneTx) => ⟨t.short.filter (fun p => !ofFrame n p), t.long.filter (fun p => !ofFrame n p),
        t.open_.filter (fun o => o.frame ≠ n % 2 ^ 28)⟩) } }

/-- Firing ends at a tick without a repeat (R507, R512, R514): every frame in work goes, with what the lanes hold of it. -/
def State.stopFrames (s : State) : State :=
  let s := (s.fire.frames.map (·.frame)).foldl State.dropTx s
  { s with fire := { s.fire with frames := [], shelf := [] }, emit_ := { s.emit_ with await := none, bisAwait := false } }

/-- Frame `f` is repeated: nothing of it is fired or sent any more, and event 739 is raised. -/
def State.repeatFrame (s : State) (f : FireFrame) : State :=
  if f.repeated then s.setFrame f
  else
    let s := s.dropTx f.frame
    (s.setFrame { f with repeated := true, decided := true, queue := [], bands := [], rows := 0, packets := [] }).raise 739
      (f.frame % 2 ^ 28)

/-! ### The decision taken (R33) -/

/-- The events of a slot's decision: late, torn, tainted (R34, R58, R113, R152); `was` is its use before. -/
def decisionEvents (i : Nat) (was u : SlotUse) : List (Nat × Nat) :=
  (if !u.ready then [(608 + 4 * i, i)] else [])
  ++ (if u.torn && !was.torn then [(609 + 4 * i, i)] else [])
  ++ (if u.tainted && !u.transparent && !u.dropped && !u.rows then [(610 + 4 * i, i)] else [])

/-- The surfaces of a frame that a rectangle leaves (R75, R137), for event 464: one entry for each surface. No picture is concerned, and
the detail is 0 (DESIGN CHOICE, assumption log 71). -/
def State.surfsOut (s : State) (c : RegFile) : List Nat :=
  (((slotSet c).filter (slotSrc c)).map (fun i => rget c Reg.KILN_SLOT_W7_SURF_ID i)).eraseDups.filter (fun n =>
    s.rb Reg.KILN_SURF_W3_DEFINED n && !surfFits s.regs c n)

/-- The atlases of a copy that break R75 for a frame by pictures whose size is known: a rectangle outside, or planes of two sizes. `here`
names the slots judged. -/
def State.atlasesOut (s : State) (c : RegFile) (n : Nat) (here : Nat → Bool) : List Nat :=
  (List.range 4).filter (fun a =>
    let users := (atlasUsers c a).filter here
    let pic (i q : Nat) : Option Pic :=
      if slotKeep c i then s.lastComplete q (fun k => k ≤ n) else (s.planeLive q n).map Prod.fst
    users.any (fun i =>
      let col := pic i (2 * a)
      let alp := pic i (2 * a + 1)
      let out (p : Pic) : Bool := !rectFits c i p none
      col.any out || alp.any out
        || (match col, alp with | some x, some y => x.frame = y.frame && (x.width ≠ y.width || x.height ≠ y.height) | _, _ => false)))

/-- The rectangles bound to a frame by a batch or a commit held against pictures of known size (R75): event 464 for each atlas but those
`told` of before. -/
def State.atlasCheck (s : State) (n : Nat) (told : List Nat) : State :=
  s.raises (((s.atlasesOut (s.copyFor n) n (fun _ => true)).filter (fun a => !told.contains a)).map (fun a =>
    (464, a * 2 ^ 34 + n % 2 ^ 28)))

/-- The rectangles of an atlas held against a picture of sequence `seq` whose size has become known (R75): event 464. -/
def State.atlasSize (s : State) (seq : Nat) : State :=
  match s.dec.prog.getD seq none with
  | none => s
  | some p =>
    let copy := ((s.fireFrame p.frame).map (·.copy)).getD (s.copyFor p.frame)
    let a := seq / 2
    s.raiseIf (!p.dropped && (s.atlasesOut copy p.frame (fun i => slotAtlas copy i = a && !slotKeep copy i)).contains a) 464
      (a * 2 ^ 34 + p.frame % 2 ^ 28)

/-- A stored picture bound to a frame has been parsed and is not decoded (event 478). -/
def State.lateDecode (s : State) (n : Nat) : Bool :=
  s.stream.queue.any (fun i => i.frame = n && !i.live)
  || s.dec.prog.any (fun p => p.any (fun q => q.frame = n && !q.live && !q.dropped))

/-- The readiness decision of a frame (R33–R36): uses, order, seals, events, a repeat where a WAIT slot asks for it. -/
def State.decideFrame (s : State) (f : FireFrame) : State :=
  let set := slotSet f.copy
  let ds := (List.range 32).map (fun i =>
    if set.contains i then s.decideSlot f i else (f.uses.getD i SlotUse.fresh, false))
  let uses := ds.map (·.1)
  let g := { f with uses := uses, decided := true }.reorder
  let s := s.raises (set.flatMap (fun i => decisionEvents i (f.uses.getD i SlotUse.fresh) (uses.getD i SlotUse.fresh)))
  let s := s.raises ((s.surfsOut f.copy).map (fun _ => (464, 0)))
  let s := s.raiseIf (s.lateDecode f.frame) 478 (f.frame % 2 ^ 28)
  let s := s.sealPics (usedPics (set.map (fun i => uses.getD i SlotUse.fresh))) f.frame
  let r := s.tellTie g
  if ds.any (·.2) then r.2.repeatFrame { r.1 with late := true } else r.2.setFrame r.1

/-! ### What a band is fired on (R41) -/

/-- The Glaze set as numbers. -/
def GlazeSet.flat (g : GlazeSet) : List Nat :=
  [g.postLut, g.brtIn, g.k, g.d, g.headroom, b2n g.ageEn, g.bank]
  ++ g.zones.flatMap (fun z => [twos 13 z.tz, z.cone, z.a, z.b, z.weight, b2n z.clamped, b2n z.none])

/-- B_host of a copy (R165, R198): BRT as committed, or the lower of it and Bamb while ambient control is on. -/
def State.hostBrt (s : State) (copy : RegFile) : Nat :=
  let b := rget copy Reg.GLAZE_BRT_BRT 0
  if s.rb Reg.CAL_AMB_CTRL_AMB_EN then min b (s.r Reg.CAL_AMB_STATUS_BAMB) else b

/-- BRT_IN of a copy (R165). -/
def State.brightness (s : State) (copy : RegFile) : Nat := min (s.hostBrt copy) (s.r Reg.HEARTH_DAMP_BRT_B_COOL)

/-- Step and pulse-width scale of a copy (R166). -/
def State.dimming (s : State) (copy : RegFile) : Nat × Nat :=
  dimSplit (brtEff (s.brightness copy)) (s.r Reg.GLAZE_BRT_CROSSOVER) (s.r Reg.GLAZE_BRT_CUR_MIN)

/-- The Glaze set a frame is fired with: its own, or for a run-ahead frame the one in force (R41) with the brightness of the frame itself
as it stands, which a commit bound to the frame and ambient control have set already (R198). -/
def State.setFor (s : State) (f : FireFrame) : Option GlazeSet :=
  match f.set with
  | some g => some g
  | none => ((s.fireFrame s.curFrame).bind (·.set)).map (fun g =>
    { g with brtIn := s.brightness f.copy, k := (s.dimming f.copy).1, d := (s.dimming f.copy).2 })

/-- The set list and the drive tables of a copy, which belong to the Glaze set (R170, R239). -/
def setFields : List (Fld × Nat) :=
  (List.range 6).flatMap (fun i => [(Reg.GLAZE_SETLIST_EN, i), (Reg.GLAZE_SETLIST_SLOT, i), (Reg.GLAZE_SETLIST_TREF, i)])
  ++ (List.range 16).flatMap (fun c =>
    (fieldsEMIT0 ++ fieldsEMIT1).filterMap (fun f =>
      if f.commit && f.stride = 32 then some (f, c) else none))

/-- The inputs recorded for a band (R41): descriptor generations with the picture chosen, the seal generation of a surface and the
live rows used, the Glaze set; and the fields of the blend itself (assumption log 21). -/
def State.bandInputs (s : State) (f : FireFrame) (b : Nat) : List Nat :=
  let g := gridOf s.regs
  let sp := bandSpan f.rows g.sh b
  let per (i : Nat) : List Nat :=
    let u := f.uses.getD i SlotUse.fresh
    [i, nth f.gens i, u.pic, (u.colour.map (· + 1)).getD 0, (u.alpha.map (· + 1)).getD 0,
      if slotSrc f.copy i then (sget (⟨0, 0, none⟩ : SurfX) s.fire.surf (rget f.copy Reg.KILN_SLOT_W7_SURF_ID i)).gen else 0,
      if u.rows then min (s.linesFor f i) (liveNeed f.copy i g sp.1 sp.2) else 0]
  [f.rows, b2n f.half, rget f.copy Reg.KILN_BLEND_CTRL_TERM_SHIFT 0, rget f.copy Reg.KILN_BG_RG_BG_R 0,
   rget f.copy Reg.KILN_BG_RG_BG_G 0, rget f.copy Reg.KILN_BG_B_BG_B 0]
  ++ (bandSlots f g sp.1 sp.2).flatMap per
  ++ ((s.setFor f).map GlazeSet.flat).getD []
  ++ setFields.map (fun p => rget f.copy p.1 p.2)

/-! ### Bands -/

/-- Bands of a frame of `rows` hogel rows each. -/
def makeBands (rows scene : Nat) : List Band :=
  if rows = 0 then [] else (List.range (cdiv scene rows)).map (fun i => ⟨i, 0, false, [], false, false, false⟩)

/-- Slots dropped one at a time until one row fits the shelf (R132): the frame without them, and those dropped. -/
def shelfDrop (g : Grid) : Nat → FireFrame → FireFrame × List Nat
  | 0, f => (f, [])
  | fuel + 1, f =>
    if shelfEstimate f.copy f.order g 1 ≤ 262144 then (f, [])
    else
      match dropNext f.copy f.order with
      | none => (f, [])
      | some i =>
        let u := f.uses.getD i SlotUse.fresh
        let r := shelfDrop g fuel { f with uses := setNth f.uses i { u with dropped := true } }.reorder
        (r.1, i :: r.2)

/-- BAND_ROWS for a frame as it now stands, slots dropped until one row fits the shelf: the frame without them, the rows; events 611
and 744 (R132). -/
def State.fitShelf (s : State) (f : FireFrame) : FireFrame × Nat × State :=
  let g := gridOf s.regs
  let d := shelfDrop g 33 f
  let s := s.raises (d.2.map (fun i => (611 + 4 * i, i)))
  (d.1, bandHeight d.1.copy d.1.order g (s.es Reg.KILN_BAND_CTRL_BAND_MAX), s.raiseIf (!d.2.isEmpty) 744 (f.frame % 2 ^ 28))

/-- BAND_ROWS of a frame set when its first band is fired (R132). -/
def State.openBands (s : State) (f : FireFrame) : FireFrame × State :=
  let d := s.fitShelf f
  ({ d.1 with rows := d.2.1, bands := makeBands d.2.1 (gridOf s.regs).sh }, d.2.2)

/-- Every band of a frame must be fired again, on a new BAND_ROWS (R132): bands that were fired leave `again` behind. -/
def rebandAll (f : FireFrame) (rows scene : Nat) : FireFrame :=
  let was := f.bands.any (·.fired)
  let out := f.bands.any (·.released)
  { f with
    rows := rows, queue := []
    bands := (makeBands rows scene).map (fun (b : Band) => { b with stale := was, again := was, released := out }) }

/-- One band held against its inputs (R41): a fired one becomes stale, one on its way through the Glaze starts anew. -/
def State.checkBand (s : State) (f : FireFrame) (b : Band) : Band :=
  if !b.fired && b.left = 0 then b
  else if s.bandInputs f b.idx = b.inputs then b
  else if b.fired then { b with stale := true } else { b with left := 0, inputs := [] }

/-- In direct firing mode a band already sent would have to be fired again (R38, R45): frame `f` is not fired any more. It counts as
repeated, with event 739; event 738 follows with its ABANDON. -/
def State.stopFrame (s : State) (f : FireFrame) : State :=
  let s := (s.setFrame { f with stopped := true, queue := [] }).raise 739 (f.frame % 2 ^ 28)
  if s.emit_.await = some f.frame then s.w Reg.KILN_FRAME_STATUS_REPEATED 1 else s

/-- A frame in work held against the inputs in force (R41, R42, R45, R125, R132). -/
def State.recheckFrame (s : State) (n : Nat) : State :=
  match s.fireFrame n with
  | none => s
  | some f0 =>
    if f0.repeated || f0.stopped || !f0.begun then s
    else
      let d := s.fitShelf (s.refreshLive f0).reorder
      let f := d.1
      let s := d.2.2
      let f1 := if d.2.1 = f.rows || d.2.1 = 0 then f else rebandAll f d.2.1 (gridOf s.regs).sh
      let bands := f1.bands.map (s.checkBand f1)
      let gone := (bands.filter (fun b => !b.fired && b.left = 0)).map (·.idx)
      let f2 := { f1 with bands := bands, queue := f1.queue.filter (fun r => !gone.contains r.band) }
      if s.direct && f2.bands.any (fun b => b.stale && b.released) then s.stopFrame f2 else s.setFrame f2

/-- A frame that is not decided yet taken anew from what is bound to it so far and from its pictures (R33, R39, R70): the copy of a
run-ahead frame, the uses of either, the order. -/
def State.renew (s : State) (n : Nat) : State :=
  match s.fireFrame n with
  | none => s
  | some f =>
    if f.decided then s
    else
      let f := if n = s.curFrame then f else
        { f with copy := s.copyFor n, gens := s.gensFor n, batch := (inputFor s.fire.inputs n).entries.isSome }
      let uses := (List.range 32).map (fun k =>
        if (slotSet f.copy).contains k then
          { (s.decideSlot f k).1 with torn := (f.uses.getD k SlotUse.fresh).torn }
        else f.uses.getD k SlotUse.fresh)
      s.setFrame ({ f with uses := uses } : FireFrame).reorder

/-- Every frame in work checked (R41). -/
def State.recheck (s : State) : State :=
  ((s.fire.frames.map (·.frame)).foldl (fun x n => (x.renew n).recheckFrame n) s).showFire

/-! ### Tears (R149, R152) -/

/-- The slots of a frame that name a surface. -/
def surfSlots (f : FireFrame) (n : Nat) : List Nat :=
  (slotSet f.copy).filter (fun i => slotSrc f.copy i && rget f.copy Reg.KILN_SLOT_W7_SURF_ID i = n)

/-- Some band of a frame that samples a slot has been fired or is on its way. -/
def State.bandUsed (s : State) (f : FireFrame) (i : Nat) : Bool :=
  let g := gridOf s.regs
  f.bands.any (fun b =>
    let sp := bandSpan f.rows g.sh b.idx
    (b.fired || b.again || b.left ≠ 0) && (bandNeeds f g sp.1 sp.2).contains i)

/-- A FORCE write tears one frame whose span is open (R152), which it is from the readiness decision or the first band that samples the
slot: its slots follow their policy. -/
def State.tearFrame (s : State) (n id : Nat) : State :=
  match s.fireFrame n with
  | none => s
  | some f =>
    let hit := (surfSlots f id).filter (fun i =>
      !(f.uses.getD i SlotUse.fresh).torn && (f.decided || s.bandUsed f i))
    if hit.isEmpty then s
    else
      let uses := (List.range 32).map (fun i =>
        let u := f.uses.getD i SlotUse.fresh
        if hit.contains i then { u with torn := true } else u)
      let g := { f with uses := uses }
      let ds := (List.range 32).map (fun i => if hit.contains i then s.decideSlot g i else (uses.getD i SlotUse.fresh, false))
      let g := ({ g with uses := ds.map Prod.fst } : FireFrame).reorder
      let s := s.raises (hit.map (fun i => (609 + 4 * i, i)))
      if f.repeated then s.setFrame { f with uses := g.uses }
      else if ds.any (·.2) && n = s.curFrame then s.repeatFrame { g with late := true }
      else (s.setFrame g).recheckFrame n

/-- A FORCE write to surfaces (R152): the seal generation advances, open frames are torn. -/
def State.tear (s : State) (ids : List Nat) : State :=
  let x := ids.foldl (fun (s : State) id =>
    let v := sget (⟨0, 0, none⟩ : SurfX) s.fire.surf id
    let s := { s with fire := { s.fire with surf := sset ⟨0, 0, none⟩ s.fire.surf id { v with gen := v.gen + 1 } } }
    (s.fire.frames.map (·.frame)).foldl (fun y n => y.tearFrame n id) s) s
  if ids.isEmpty then s else x.showFire

/-! ### Composing a band (R119–R136, R142) -/

/-- The last complete picture that stands in for a live slot's missing rows is tainted (R47, R113). -/
def State.backTainted (s : State) (u : SlotUse) : Bool :=
  (u.colour.bind s.pic).any (·.tainted) || (u.alpha.bind s.pic).any (·.tainted)

/-- The words of its buffer that a texel of a pool picture takes samples from (R99, R103): luma, and of a colour picture the chroma samples
that the upsampling reads. -/
def Pic.texelWords (p : Pic) (alpha : Bool) (x y : Nat) : List Nat :=
  let wc := p.width / subW p.chroma
  let hc := p.height / subH p.chroma
  let luma := p.place + y * cdiv p.width 3 + x / 3
  if alpha || p.chroma = 0 then [luma]
  else
    let xs := if subW p.chroma = 1 then [x] else if x % 2 = 0 then [x / 2] else [x / 2, min (x / 2 + 1) (wc - 1)]
    let ys := if subH p.chroma = 1 then [y] else [y / 2, if y % 2 = 0 then y / 2 - 1 else min (y / 2 + 1) (hc - 1)]
    let at_ (c x y : Nat) : Nat := p.place + p.height * cdiv p.width 3 + c * (hc * cdiv wc 3) + y * cdiv wc 3 + x / 3
    luma :: (List.range 2).flatMap (fun c => xs.flatMap (fun x => ys.map (fun y => at_ c x y)))

/-- A texel takes a sample or a word from a failed sector (R142). -/
def spoiled (failed : List Nat) (ws : List Nat) : Bool := ws.any (fun w => failed.contains (w / 7))

/-- Sectors of DRAM as a load finds them that failed both its reads (R142): their check no longer holds. -/
def spoilSectors (d : List Host.Cell) (ns : List Nat) : List Host.Cell :=
  ns.foldl (fun (d : List Host.Cell) n =>
    if sectorGood d n then ssetRun dramByte0 d (32 * n) (sectorBytes (sectorBits d n ^^^ 2 ^ 252)) else d) d

/-- The texel of a slot at slab position (x, y) for a frame, `failed` the sectors that failed as the band was loaded (R47, R103, R113,
R120, R142, R145). -/
def State.slotTexel (s : State) (f : FireFrame) (failed : List Nat) (i : Nat) (x y : Nat) : Word :=
  let c := f.copy
  let q := slotRect c i
  let ax := q.1 + x
  let ay := q.2.1 + y
  let u := f.uses.getD i SlotUse.fresh
  let a := slotAtlas c i
  let pool (col alp : Option Pic) : Word :=
    match col with
    | some p =>
      let ws := if failed.isEmpty then [] else p.texelWords false ax ay ++ (alp.map (fun q => q.texelWords true ax ay)).getD []
      if spoiled failed ws then 0 else picTexel c a p alp ax ay
    | none => 0
  if slotSrc c i then
    (surfOf s.regs (rget c Reg.KILN_SLOT_W7_SURF_ID i)).texel (if failed.isEmpty then s.dram else spoilSectors s.dram failed) ax ay
  else if u.rows then
    if ay < s.linesFor f i then
      pool ((s.planeLive (2 * a) f.frame).map Prod.fst)
        (if slotAconst c i then none else (s.planeLive (2 * a + 1) f.frame).map Prod.fst)
    else if rget c Reg.KILN_SLOT_W0_TAINT i ≠ 0 && s.backTainted u then 0
    else pool (u.colour.bind s.pic) (u.alpha.bind s.pic)
  else pool (u.colour.bind s.pic) (u.alpha.bind s.pic)

/-- One scene ray of a frame blended (R128). -/
def State.blendAt (s : State) (f : FireFrame) (failed : List Nat) (g : Grid) (slots : List Nat) (hx hy vx vy : Nat) : Blend :=
  let bg := [rget f.copy Reg.KILN_BG_RG_BG_R 0, rget f.copy Reg.KILN_BG_RG_BG_G 0, rget f.copy Reg.KILN_BG_B_BG_B 0]
  blendRay (rget f.copy Reg.KILN_BLEND_CTRL_TERM_SHIFT 0) bg
    (slots.map (fun i => sampleSlot s.fire.pre f.copy i g (s.slotTexel f failed i) hx hy vx vy))

/-- The scene rays of a run of rows in the order of R134, vx fastest; odd vx left out with half sampling (R136). -/
def bandRays (g : Grid) (half : Bool) (first last : Nat) : List (Nat × Nat × Nat × Nat) :=
  let vxs := (List.range g.svw).filter (fun v => !half || v % 2 = 0)
  (List.range' first (last + 1 - first)).flatMap (fun hy =>
    (List.range g.sw).flatMap (fun hx =>
      (List.range g.svh).flatMap (fun vy => vxs.map (fun vx => (hx, hy, vx, vy)))))

/-- Clocks of the groups of eight: for each group the most slots any of its rays steps through (R134). -/
def groupClocks (fuel : Nat) (steps : List Nat) : List Nat :=
  match fuel, steps with
  | _, [] => []
  | 0, _ => []
  | fuel + 1, l => (l.take 8).foldl max 0 :: groupClocks fuel (l.drop 8)

/-- The mean of two codes, half up (R54). -/
def mean2 (a b : Nat) : Nat := (a + b + 1) / 2

/-- The colour of a view from those blended: an odd view of a halved frame is the mean of its neighbours (R54, R136). -/
def viewColour (g : Grid) (half : Bool) (at_ : Nat → List Nat) (vx : Nat) : List Nat :=
  if half && vx % 2 = 1 then
    if vx + 1 < g.svw then (List.range 3).map (fun k => mean2 (nth (at_ (vx - 1)) k) (nth (at_ (vx + 1)) k))
    else at_ (vx - 1)
  else at_ vx

/-- Half sampling takes effect only where there is more than one view across (R136). -/
def halfOf (f : FireFrame) (g : Grid) : Bool := f.half && 1 < g.svw

/-- The rays of a band on their way to the Glaze, with what the band counts: rays, clocks by group, saturation. -/
def State.compose (s : State) (f : FireFrame) (failed : List Nat) (b : Nat) : List RayIn × List Nat × Bool :=
  let g := gridOf s.regs
  let sp := bandSpan f.rows g.sh b
  let slots := bandSlots f g sp.1 sp.2
  let half := halfOf f g
  let rays := bandRays g half sp.1 sp.2
  let bl := rays.map (fun q => s.blendAt f failed g slots q.1 q.2.1 q.2.2.1 q.2.2.2)
  let colour (hx hy vy vx : Nat) : List Nat :=
    let x := s.blendAt f failed g slots hx hy vx vy
    [x.r, x.g, x.b]
  let out := (bandRays g false sp.1 sp.2).map (fun q =>
    let c := viewColour g half (colour q.1 q.2.1 q.2.2.2) q.2.2.1
    let p := physOf g q.1 q.2.1 q.2.2.1 q.2.2.2
    (⟨p.1, p.2.1, p.2.2.1, p.2.2.2, nth c 0, nth c 1, nth c 2, b⟩ : RayIn))
  (out, groupClocks rays.length (bl.map (·.steps)), bl.any (·.sat))

/-- The pictures whose texels a slot of a frame may take, each with whether it gives alpha (R47, R72). -/
def State.slotSources (s : State) (f : FireFrame) (i : Nat) : List (Pic × Bool) :=
  let a := slotAtlas f.copy i
  let u := f.uses.getD i SlotUse.fresh
  let live := if !u.rows then [] else
    ((s.planeLive (2 * a) f.frame).toList.map (fun p => (p.1, false)))
    ++ (if slotAconst f.copy i then [] else (s.planeLive (2 * a + 1) f.frame).toList.map (fun p => (p.1, true)))
  live ++ (u.colour.bind s.pic).toList.map (fun p => (p, false)) ++ (u.alpha.bind s.pic).toList.map (fun p => (p, true))

/-- The sectors that the window of a slot takes (R99, R133, R145, R153). -/
def State.windowSectors (s : State) (f : FireFrame) (i : Nat) (rows : List Nat) : List Nat :=
  let q := slotRect f.copy i
  if slotSrc f.copy i then
    let u := surfOf s.regs (rget f.copy Reg.KILN_SLOT_W7_SURF_ID i)
    (u.windowWords s.dram q.1 (q.2.2.1 - q.1) rows).map (fun k => u.base + k / 7)
  else
    ((s.slotSources f i).flatMap (fun p => rows.flatMap (fun y =>
      (List.range' q.1 (q.2.2.1 - q.1)).flatMap (fun x => (p.1.texelWords p.2 x y).map (fun w => w / 7))))).eraseDups

/-- Words of the shelf that a band's windows fill (R131, R414). -/
def FireFrame.windowWordCount (f : FireFrame) (g : Grid) (first last : Nat) : Nat :=
  ((bandSlots f g first last).map (fun i =>
    (windowRows f.copy i g first last).length * (rget f.copy Reg.KILN_SLOT_W2_W_M1 i + 1))).foldl (· + ·) 0

/-- The class that firing a band is charged to (R42, R43, R49): completion of the current frame 2, its refire 0 (the part of class 2 that
HEARTH_PLAN_LAST reports as refire), run-ahead 4, its refire 10. -/
def State.fireClass (s : State) (n : Nat) (again : Bool) : Nat :=
  if s.curFrame < n then (if again then 10 else 4) else if again then 0 else 2

/-- The loader fills a half of the shelf with a band's windows (R133, R142, R156): the shelf words are charged, failed sectors of surfaces
and pool pictures counted and reported, damaged blocks counted; `errs` are the sectors whose first read failed, each with whether the
second passed. The sectors that failed beside those whose check fails in DRAM as it stands. -/
def State.loadWindows (s : State) (f : FireFrame) (b : Nat) (errs : List (Nat × Bool)) : State × List Nat :=
  let g := gridOf s.regs
  let sp := bandSpan f.rows g.sh b
  let slots := bandSlots f g sp.1 sp.2
  let rowsOf (i : Nat) : List Nat := (windowRows f.copy i g sp.1 sp.2).map (· + (slotRect f.copy i).2.1)
  let hit := if errs.isEmpty then [] else
    let need := slots.flatMap (fun i => s.windowSectors f i (rowsOf i))
    errs.filter (fun e => need.contains e.1)
  let cured := hit.filter (fun e => e.2)
  let failed := ((hit.filter (fun e => !e.2)).map Prod.fst).eraseDups
  let d := if failed.isEmpty then s.dram else spoilSectors s.dram failed
  let again := f.bands.any (fun x => x.idx = b && (x.again || x.fired))
  let s := ((if slots.isEmpty then s else s.dramUsed false (s.r Reg.DECODE_POOL_BASE_POOL_BASE)).readErrs 0 cured).act (s.fireClass f.frame again) 1 (f.windowWordCount g sp.1 sp.2)
  let s := (slots.filter (slotSrc f.copy)).foldl (fun (x : State) i =>
    let u := surfOf x.regs (rget f.copy Reg.KILN_SLOT_W7_SURF_ID i)
    let q := slotRect f.copy i
    let bad := u.windowFailed d q.1 (q.2.2.1 - q.1) (rowsOf i)
    let x := bad.foldl (fun (y : State) n => y.sectorFail 0 n) x
    (x.count Reg.KILN_CONCEAL_SECTORS 0 bad.length).count Reg.KILN_CONCEAL_BLOCKS 0
      (u.windowDamaged d q.1 (q.2.2.1 - q.1) (rowsOf i))) s
  let pool := if failed.isEmpty then [] else
    (slots.filter (fun i => !slotSrc f.copy i)).flatMap (fun i =>
      (s.windowSectors f i (rowsOf i)).filter (fun n => failed.contains n))
  (pool.foldl (fun (y : State) n => (y.sectorFail 0 n).count Reg.KILN_CONCEAL_SECTORS 0 1) s, failed)

end Sys2Proof.Machine
end

