-- ==== Sys2Proof/Machine/Link.lean ====
section
/-! DEFINITION. Cawell ports and packets: what a port is and how it goes up and down, packet headers, routing, the queues of an
output port, acknowledgement, replay and credits (R273–R287). -/

namespace Sys2Proof.Machine

/-! ### Ports -/

/-- Port `p` beyond its registers. -/
def State.port (s : State) (p : Nat) : Port := s.link.ports.getD p Port.reset

/-- Port `p` replaced. -/
def State.setPort (s : State) (p : Nat) (v : Port) : State :=
  { s with link := { s.link with ports := setNth s.link.ports p v } }

/-- Port `p` is UP (R274). -/
def State.portUp (s : State) (p : Nat) : Bool := s.r Reg.LINK_PORT_W1_STATE p = 2

/-- Port `p` is a border link: another section, or a refused link session (R287, R465). -/
def State.border (s : State) (p : Nat) : Bool :=
  s.r Reg.LINK_PORT_W1_FAR p = 3 || s.r Reg.SECURE_LINK_STATE p = 3

/-- Port `p` carries packets onward: it is up and no border. -/
def State.portOpen (s : State) (p : Nat) : Bool := s.portUp p && !s.border p

/-! ### Packets (R278) -/

/-- H0 without its SEQ: channel, length, source. -/
def pktH0 (vc len : Nat) (srcM : Bool) (x y : Nat) : Word :=
  pack [(33, vc), (23, len), (14, b2n srcM), (7, x), (0, y)]

/-- Fields of H0 and H1. -/
def h0Vc (h : Word) : Nat := bits h 35 33
def h0Len (h : Word) : Nat := bits h 32 23
def h0Seq (h : Word) : Nat := bits h 22 15
def h0Mgr (h : Word) : Bool := bit h 14
def h0X (h : Word) : Nat := bits h 13 7
def h0Y (h : Word) : Nat := bits h 6 0
def h1Type (h : Word) : Nat := bits h 35 34
def h1X0 (h : Word) : Nat := bits h 33 27
def h1Y0 (h : Word) : Nat := bits h 26 20
def h1X1 (h : Word) : Nat := bits h 19 13
def h1Y1 (h : Word) : Nat := bits h 12 6
def h1Hops (h : Word) : Nat := bits h 5 1

/-- H1 of a packet for the manager of an index: 0 A, 1 B, 0x7F the manager holding the peel. -/
def toMgr (i : Nat) : Word := pack [(34, 3), (27, i)]

/-- H1 of a unicast packet. -/
def toTile (x y : Nat) : Word := pack [(27, x), (20, y)]

/-- H1 of a packet for all. -/
def toAll : Word := pack [(34, 2)]

/-- SEQ put into a header. -/
def withSeq (h0 : Word) (n : Nat) : Word := (h0 &&& ~~~(pack [(15, 255)])) ||| pack [(15, n % 256)]

/-- The trailer of a packet's words (R278). -/
def trailer (ws : List Word) (retry stomp : Bool) : Word :=
  pack [(35, b2n stomp), (34, b2n retry), (0, crcWords ws)]

/-- Channels 0 CMD, 1 STREAM, 2 TIME, 3 BEACON, 4 SPY: retried, receive buffer in words, priority (R280). -/
def vcRetry (vc : Nat) : Bool := vc = 0 || vc = 2 || vc = 3
def vcBuffer (vc : Nat) : Nat := nth [4096, 16384, 512, 4096, 4096] vc
def vcOrder : List Nat := [2, 0, 1, 3, 4]

/-- The source fields of packets that leave port `p` (R278): a manager's index and port; a worker's position, or 0. -/
def State.srcFields (s : State) (p : Nat) : Bool × Nat × Nat :=
  if s.isMgr then (true, s.r Reg.MGR_CTRL_IDX, p)
  else if s.rb Reg.LINK_POS_PLACED then (false, s.r Reg.LINK_POS_X, s.r Reg.LINK_POS_Y) else (false, 0, 0)

/-- A packet joins the queue of an output port. -/
def State.enqueue (s : State) (p vc : Nat) (ws : List Word) (stomp : Bool := false) (buf : Option (Nat × Nat) := none) : State :=
  let v := s.port p
  s.setPort p { v with txq := v.txq ++ [⟨vc, ws, s.now, none, stomp, buf⟩] }

/-- A packet of this device's own joins the queue of a port. -/
def State.originate (s : State) (p vc : Nat) (h1 : Word) (payload : List Word) : State :=
  let f := s.srcFields p
  (s.enqueue p vc (pktH0 vc payload.length f.1 f.2.1 f.2.2 :: h1 :: payload)).emit .cawell [p, vc]
    (pktH0 vc payload.length f.1 f.2.1 f.2.2 :: h1 :: payload)

/-! ### Routes (R285, R286) -/

/-- PRI and ALT of LINK_ROUTE for a position. -/
def routePair (r : RegFile) (x y : Nat) : Nat × Nat :=
  let i := 128 * y + x
  let w := rget r Reg.LINK_ROUTE_ROUTES (i / 8)
  let j := i % 8
  (bitsN w (31 - 4 * j) (30 - 4 * j), bitsN w (29 - 4 * j) (28 - 4 * j))

/-- VALID, UP_PRI, UP_ALT and CHILD toward manager `i`. -/
def mgrRoute (r : RegFile) (i : Nat) : Bool × Nat × Nat × Nat :=
  if i = 0 then (rget r Reg.LINK_MGR_ROUTE_VALID 0 ≠ 0, rget r Reg.LINK_MGR_ROUTE_UP_PRI 0,
    rget r Reg.LINK_MGR_ROUTE_UP_ALT 0, rget r Reg.LINK_MGR_ROUTE_CHILD 0)
  else (rget r Reg.LINK_MGR_ROUTE_VALID_B 0 ≠ 0, rget r Reg.LINK_MGR_ROUTE_UP_PRI_B 0,
    rget r Reg.LINK_MGR_ROUTE_UP_ALT_B 0, rget r Reg.LINK_MGR_ROUTE_CHILD_B 0)

/-- The primary port, or the alternative while it is down (event 269 the first time); none when both are down. -/
def State.choose (s : State) (pri alt : Nat) : Option Nat × State :=
  if s.portOpen pri then (some pri, s)
  else if s.portOpen alt && alt ≠ pri then
    let v := s.port pri
    (some alt, if v.rerouted then s else (s.setPort pri { v with rerouted := true }).raise 269 pri)
  else (none, s.raise 261 pri)

/-- Ports that are open, as a list. -/
def State.openPorts (s : State) : List Nat := (List.range 4).filter s.portOpen

/-- The manager an X0 of ATYPE 11 names (R278, R285). -/
def mgrNamed (r : RegFile) (x0 : Nat) : Nat := if x0 = 0x7F then peelIdx r else x0 % 2

/-- A packet of this device's own for the manager of an index; nothing is sent where no route is up. -/
def State.sendMgr (s : State) (vc idx : Nat) (payload : List Word) : State :=
  let m := mgrRoute s.regs (mgrNamed s.regs idx)
  match s.choose m.2.1 m.2.2.1 with
  | (some p, s) => s.originate p vc (toMgr idx) payload
  | (none, s) => s

/-- The port behind which a manager's census found the tile at a position. -/
def State.tilePort (s : State) (x y : Nat) : Nat :=
  match s.mgr.workers.find? (fun w => w.x = x && w.y = y) with
  | some w => w.port
  | none => (routePair s.regs x y).1

/-- A manager's packet by its route word: unicast toward the tile, rectangle and all out of every open port (R285). -/
def State.sendTiles (s : State) (vc : Nat) (h1 : Word) (payload : List Word) : State :=
  if h1Type h1 = 0 then
    match s.choose (s.tilePort (h1X0 h1) (h1Y0 h1)) (routePair s.regs (h1X0 h1) (h1Y0 h1)).2 with
    | (some p, s) => s.originate p vc h1 payload
    | (none, s) => s
  else if s.openPorts.isEmpty then s.raise 261 0
  else s.openPorts.foldl (fun x p => x.originate p vc h1 payload) s

/-- The route word lies on the device itself (R285): its position, its rectangle, all. -/
def State.routeHits (s : State) (h1 : Word) : Bool :=
  let placed := s.rb Reg.LINK_POS_PLACED
  let x := s.r Reg.LINK_POS_X
  let y := s.r Reg.LINK_POS_Y
  match h1Type h1 with
  | 0 => placed && x = h1X0 h1 && y = h1Y0 h1
  | 1 => placed && h1X0 h1 ≤ x && x ≤ h1X1 h1 && h1Y0 h1 ≤ y && y ≤ h1Y1 h1
  | 2 => true
  | _ => s.isMgr && mgrNamed s.regs (h1X0 h1) = s.r Reg.MGR_CTRL_IDX

/-- Where a packet that entered through port `q` goes on (R285–R287): the ports, and the state after events. -/
def State.onward (s : State) (h0 h1 : Word) (q : Nat) (census : Bool) : List Nat × State :=
  if s.isMgr then ([], s)
  else if census then ((s.openPorts.filter (· ≠ q)), s)
  else if !s.rb Reg.LINK_POS_PLACED then
    if h1Type h1 = 0 || h1Type h1 = 3 then
      let o := (q + 2) % 4
      if s.portOpen o then ([o], s) else ([], s.raise 261 o)
    else ([], s)
  else
    match h1Type h1 with
    | 0 =>
      if s.routeHits h1 then ([], s)
      else
        let pr := routePair s.regs (h1X0 h1) (h1Y0 h1)
        let c := s.choose pr.1 pr.2
        (c.1.toList, c.2)
    | 3 =>
      let m := mgrRoute s.regs (mgrNamed s.regs (h1X0 h1))
      let c := s.choose m.2.1 m.2.2.1
      (c.1.toList, c.2)
    | _ =>
      let child := (mgrRoute s.regs (h0X h0 % 2)).2.2.2
      let chosen := (List.range 4).filter (fun p => bitsN child p p = 1 && p ≠ q)
      let open_ := chosen.filter s.portOpen
      (open_, s.raiseIf (open_.isEmpty && !chosen.isEmpty) 261 (chosen.headD 0))

/-- A rectangle or all packet is accepted only on the source manager's UP_PRI, or UP_ALT while UP_PRI is down (R285). -/
def State.broadcastHere (s : State) (h0 : Word) (q : Nat) : Bool :=
  let m := mgrRoute s.regs (h0X h0 % 2)
  q = m.2.1 || (q = m.2.2.1 && !s.portUp m.2.1)

/-- The fence value of a fence word: EPOCH × 2 + IDX, ordered as R313 orders it. -/
def fenceValue (w : Word) : Nat := bits w 35 3

/-- The highest fence value seen since power loss, as LINK_PEEL holds it. -/
def peelValue (r : RegFile) : Nat := rget r Reg.LINK_PEEL_EPOCH 0 * 2 + rget r Reg.LINK_PEEL_IDX 0

/-- The port that a Cawell command came through restricts it (R466). -/
def State.restricted (s : State) (p n : Nat) : Bool := s.r Reg.SECURE_LINK_STATE p ≠ 1 && n ≠ 1 && n ≠ 8

/-- The call is new to the device: its CNUM differs from the last taken from that manager. -/
def State.newCall (s : State) (mgr cnum : Nat) : Bool := s.link.cnum.getD (mgr % 2) none ≠ some cnum

/-- The opcode of a CMD packet's payload: behind the fence word from a manager, in word 0 of a reply. -/
def cmdOpcode (h0 : Word) (ps : List Word) : Nat := bits (nthW ps (if h0Mgr h0 then 1 else 0)) 35 24

/-- A new CENSUS_CALL that the device takes (R286, R288). -/
def State.isNewCall (s : State) (h0 h1 : Word) (ps : List Word) : Bool :=
  h0Vc h0 = 0 && h0Mgr h0 && h1Type h1 = 2 && cmdOpcode h0 ps = 0x00A && s.newCall (h0X h0) (bits (nthW ps 3) 15 0)
  && (!s.rb Reg.LINK_PEEL_SEEN || peelValue s.regs ≤ fenceValue (nthW ps 0))

/-- Ports onto which a CMD packet may go: not across a restricted port, PING and STAGE_STATUS apart (R466). -/
def State.cmdPorts (s : State) (h0 : Word) (ps : List Word) (l : List Nat) : List Nat :=
  if h0Vc h0 = 0 then l.filter (fun q => !s.restricted q (cmdOpcode h0 ps)) else l

/-- Words of a packet leave the receive buffer of its channel (R276, R283): the credit goes back. -/
def State.freeWords (s : State) (p vc n : Nat) : State :=
  let v := s.port p
  s.setPort p { v with freed := setNth v.freed vc ((nth v.freed vc + n) % 2 ^ 20), owe := true }

/-- A packet passed on still waits for an output. -/
def State.inBuffer (s : State) (id : Nat) : Bool :=
  s.link.ports.any (fun v => v.txq.any (fun q => q.buf.any (fun b => b.2 = id)))

/-- Packets have left the queue of an output: the input buffer of one that no other output waits for is free again. -/
def State.leftQueue (s : State) (l : List Queued) : State :=
  l.foldl (fun (x : State) (q : Queued) =>
    match q.buf with
    | some b => if x.inBuffer b.2 then x else x.freeWords b.1 q.vc (q.words.length + 1)
    | none => x) s

/-- A packet that came in through port `p` is passed on (R284): HOPS advanced; at 31 it is dropped with event 262. It stays in the input
channel's buffer until its last output has begun it. -/
def State.forward (s : State) (p : Nat) (ports : List Nat) (ws : List Word) (stomp : Bool) : State :=
  let h0 := nthW ws 0
  let h1 := nthW ws 1
  if ports.isEmpty then s.freeWords p (h0Vc h0) (3 + h0Len h0)
  else if h1Hops h1 = 31 then (s.raise 262 0).freeWords p (h0Vc h0) (3 + h0Len h0)
  else
    let out := h0 :: (h1 + 2) :: ws.drop 2
    let id := s.link.bufNext
    ports.foldl (fun x k => x.enqueue k (h0Vc h0) out stomp (some (p, id))) { s with link := { s.link with bufNext := id + 1 } }

/-- What a device passes on of a packet that came in through port `p` (R284–R287, R466), and whether it takes it itself. -/
def State.relay (s : State) (p : Nat) (ws : List Word) (stomp : Bool) : Bool × State :=
  let h0 := nthW ws 0
  let h1 := nthW ws 1
  let ps := ws.drop 2
  let wide := h1Type h1 = 1 || h1Type h1 = 2
  let call := s.isNewCall h0 h1 ps
  let isCall := h0Vc h0 = 0 && h0Mgr h0 && cmdOpcode h0 ps = 0x00A
  let bar := (h0Vc h0 = 0 && s.restricted p (cmdOpcode h0 ps)) || (wide && !h0Mgr h0)
    || (wide && !s.isMgr && s.rb Reg.LINK_POS_PLACED && !isCall && !s.broadcastHere h0 p) || s.role = 3
  if bar then (false, s.forward p [] ws stomp)
  else
    let hit := s.routeHits h1
    let o := if (hit && !wide) || (isCall && !call) then ([], s) else s.onward h0 h1 p call
    (hit && !stomp, o.2.forward p (o.2.cmdPorts h0 ps o.1) ws stomp)

/-- A damaged packet is discarded (R279, R284): counted, event 258 once a tick; what goes on of it carries STOMP. -/
def State.discard (s : State) (p : Nat) (ws : List Word) : State :=
  let h0 := nthW ws 0
  let n := 3 + h0Len h0
  let s := (s.count Reg.LINK_PORT_W2_DAMAGED p).raiseTick 258 p p
  if h0Vc h0 = 2 || s.border p || ws.length < 2 then s.freeWords p (h0Vc h0) n
  else (s.relay p ((ws ++ List.replicate (n - ws.length) 0).take (n - 1)) true).2

/-- A port leaves HELLO or UP (R275): queues, replay, credits and sequence numbers are discarded, a packet being sent ends
with STOMP, one being received is damaged, and the link session ends with the port. -/
def State.portDown (s : State) (p : Nat) : State :=
  let was := s.portUp p
  let open_ := (s.port p).rxWords
  let s := if was && !open_.isEmpty && h0Vc (nthW open_ 0) < 5 then s.discard p open_ else s
  let old := s.port p
  let s := if old.sending.isEmpty then s else s.emit .slot [p, 0x99] [pack [(35, 1)]]
  let s := s.setPort p { Port.reset with ctrlAt := s.now, lreset := old.lreset, align := old.align, wakeEnd := old.wakeEnd }
  -- packets that came in through the port no longer count in its buffers; those it was to send leave theirs
  let own (q : Queued) : Queued := { q with buf := q.buf.filter (fun (b : Nat × Nat) => b.1 ≠ p) }
  let s := { s with link := { s.link with ports := s.link.ports.map (fun (v : Port) => { v with txq := v.txq.map own }) } }
  let s := s.leftQueue (old.txq.map own)
  let s := s.ws [(Reg.LINK_PORT_W1_STATE, p, 0), (Reg.LINK_PORT_W1_FAR, p, 0), (Reg.LINK_PORT_W1_FAR_PORT, p, 0),
    (Reg.LINK_PORT_W1_FAR_PLACED, p, 0), (Reg.LINK_PORT_W1_FAR_X, p, 0), (Reg.LINK_PORT_W1_FAR_Y, p, 0),
    (Reg.LINK_PORT_W1_FAR_SECT, p, 0), (Reg.SECURE_LINK_STATE, p, 0)]
  let s := { s with
    sec := { s.sec with links := setNth s.sec.links p LinkSession.reset }
    link := { s.link with exchange := s.link.exchange.filter (fun x => x.port ≠ p) }
    mgr := { s.mgr with portFell := true } }
  s.raiseIf was 257 p

/-! ### Acknowledgement and replay (R281, R282) -/

/-- The distance from one SEQ to another, modulo 256. -/
def seqAhead (a b : Nat) : Nat := (b + 256 - a) % 256

/-- What the far end has acknowledged leaves the replay buffer. -/
def ackReplay (l : List Queued) (ack : Nat) : List Queued :=
  l.filter (fun q => match q.seq with
    | some k => let d := seqAhead ack k; 0 < d && d < 128
    | none => false)

/-- A packet is the T_REQ of an exchange (R296). -/
def isTReq (q : Queued) : Bool := q.vc = 2 && bits (nthW q.words 2) 35 32 = 1

/-- Every unacknowledged packet goes to the head of the queue again, with its SEQ (R281); after eight replays without an
advance the port goes down (R282). A T_REQ sent again ends its exchange (R298). -/
def State.replay (s : State) (p : Nat) : State :=
  let v := s.port p
  if v.replay.isEmpty then s
  else if 8 ≤ v.replays then (s.raise 260 p).portDown p
  else
    let s := if v.replay.any isTReq then { s with link := { s.link with exchange := s.link.exchange.filter (fun x => x.port ≠ p) } } else s
    ((s.setPort p { v with txq := v.replay ++ v.txq, replay := [], replays := v.replays + 1, ackAt := s.now }).count
      Reg.LINK_PORT_W2_REPLAYS p).raiseTick 259 p p

/-! ### What goes into a slot (R276, R280, R283) -/

/-- The stage code of C6 (R498); entering cold standby shows as 4. -/
def State.stageCode (s : State) : Nat := s.stage

/-- The 64 words of a CTRL superblock of port `p` (R276). -/
def State.ctrlWords (s : State) (p : Nat) : List Word :=
  let v := s.port p
  let ack := (v.rxSeq + 255) % 256
  [pack [(32, 1), (24, ack), (23, b2n v.rxAny), (22, b2n v.nak)]]
  ++ (List.range 5).map (fun c => word (nth v.freed c % 2 ^ 20))
  ++ [pack [(34, if s.role = 3 then 0 else s.role), (32, p), (31, s.r Reg.LINK_POS_PLACED), (24, s.r Reg.LINK_POS_X),
        (17, s.r Reg.LINK_POS_Y), (15, s.r Reg.KILN_MOUNT_ROT), (7, s.r Reg.LINK_POS_SECT), (4, s.stageCode)],
      word s.link.nonce, word s.bake.beacon.2.1, word s.bake.beacon.2.2, word s.bake.beacon.1,
      if s.isMgr then pack [(35, s.r Reg.MGR_CTRL_IDX), (33, p)] else 0]
  ++ List.replicate 52 0

/-- Words of credit a port holds on a channel (R276, R283): the far end's buffer, what it freed, what was sent. -/
def credit (v : Port) (vc : Nat) : Nat := (vcBuffer vc + nth v.cred vc + 2 ^ 20 - nth v.sentW vc % 2 ^ 20) % 2 ^ 20

/-- A packet may start (R281, R283): credits, and room in the replay buffer for a retried one. -/
def mayStart (v : Port) (q : Queued) : Bool :=
  q.words.length + 1 ≤ credit v q.vc
  && (!vcRetry q.vc || (v.replay.length < 128
      && ((v.replay.map (fun x => x.words.length + 1)).foldl (· + ·) 0) + q.words.length + 1 ≤ 32768))

/-- The first packet of a channel in a queue. -/
def headOf (l : List Queued) (vc : Nat) : Option Queued := l.find? (fun q => q.vc = vc)

/-- The packet that goes next (R280): one that waited more than 100 µs first, else by channel priority. -/
def nextPacket (v : Port) (now : Nat) : Option Queued :=
  let heads := (vcOrder.filterMap (headOf v.txq)).filter (mayStart v)
  match heads.find? (fun q => cyclesUs 100 < now - q.since) with
  | some q => some q
  | none => heads.head?

/-- WAKE superblocks are being sent (R277). -/
def waking (v : Port) (now : Nat) : Bool :=
  match v.wakeEnd with
  | some e => decide (now < e.1)
  | none => false

/-- What a port sends in its next slot: the marker type, its 64 words, and the port after it. -/
def State.slotOf (s : State) (p : Nat) : Nat × List Word × Port :=
  let v := s.port p
  let st := s.r Reg.LINK_PORT_W1_STATE p
  let fill := List.replicate 64 (0 : Word)
  let tick (w : Port) : Port := { w with sinceCtrl := w.sinceCtrl + 1 }
  if 0 < v.lreset then (0xD2, fill, tick { v with lreset := v.lreset - 1 })
  else if 0 < v.align then (0xE1, fill, tick { v with align := v.align - 1 })
  else if waking v s.now then (0x1E, fill, tick v)
  else if st ≠ 0 && (63 ≤ v.sinceCtrl || (v.owe && 15 ≤ v.sinceCtrl)) then
    (0xAA, s.ctrlWords p, { v with sinceCtrl := 0, owe := false })
  else if !v.sending.isEmpty then
    (0x99, (v.sending.take 64) ++ List.replicate (64 - v.sending.length) 0, tick { v with sending := v.sending.drop 64 })
  else if st = 2 then
    match nextPacket v s.now with
    | none => (0x55, fill, tick v)
    | some q =>
      let retried := vcRetry q.vc && !q.stomp
      let seq := q.seq.getD v.txSeq
      let h0 := if retried then withSeq (nthW q.words 0) seq else nthW q.words 0
      let ws := h0 :: q.words.drop 1
      let all := ws ++ [trailer ws q.seq.isSome q.stomp]
      let w := { v with
        txq := v.txq.erase q
        sending := all.drop 64
        txSeq := if retried && q.seq.isNone then (v.txSeq + 1) % 256 else v.txSeq
        replay := if retried then v.replay ++ [{ q with seq := some seq, buf := none }] else v.replay
        ackAt := if v.replay.isEmpty then s.now else v.ackAt
        sentW := setNth v.sentW q.vc (nth v.sentW q.vc + all.length) }
      (0x66, all.take 64 ++ List.replicate (64 - all.length) 0, tick w)
  else (0x55, fill, tick v)

end Sys2Proof.Machine
end

