-- ==== Sys2Proof/Machine/Reply.lean ====
section
/-! DEFINITION. Replies: on which transport they go out (R420, R425–R427), sealed inside a host session (R469), and the completion
that follows ACCEPTED (R420, R422, R423). -/

namespace Sys2Proof.Machine

/-! ### Host session keys (R468) -/

/-- The entry of a host session by its SID. -/
def State.sessionOf (s : State) (sid : Nat) : Option Nat :=
  (List.range 16).find? (fun i => s.r Reg.SECURE_SESSION_STATE i ≠ 0 && s.r Reg.SECURE_SESSION_SID i = sid)

/-- SID, Qh and Qd as the words that a session is bound to. -/
def sessionWords (sid : Nat) (h : HostSession) : List Word := pack [(20, sid)] :: h.qh ++ h.qd

/-- The 48 bytes of a hash. -/
def hashBytes (h : BitVec 384) : List Byte := (List.range 48).map (fun i => BitVec.ofNat 8 (h.toNat / 2 ^ (8 * (47 - i))))

/-- K_up (1) and K_down (2) of a session. -/
def sessionKey (sid : Nat) (h : HostSession) (which : Nat) : List Byte :=
  let t := Config.sha384 (packBytes (sessionWords sid h))
  let z := Config.ecdh h.key ((packBytes h.qh).take 96)
  (hashBytes (Config.hmac384 z (BitVec.ofNat 8 which :: hashBytes t))).take 32

/-- The IV of R469: direction in [95:64], 0 in [63:36], counter in [35:0]. -/
def sessionIv (dir ctr : Nat) : List Byte :=
  let n := dir * 2 ^ 64 + ctr % 2 ^ 36
  (List.range 12).map (fun i => BitVec.ofNat 8 (n / 2 ^ (8 * (11 - i))))

/-- Bytes as 32-bit values, one to a word (R60). -/
def words32 : List Byte → List Word
  | a :: b :: c :: d :: t => word (bytesBE [a, b, c, d]) :: words32 t
  | _ => []

/-- A reply sealed in its session: reply words CTR_DOWN, the ciphertext, the tag (R469). -/
def sealedReply (sid : Nat) (h : HostSession) (outer : Nat) (inner : List Word) : List Word :=
  let k := sessionKey sid h 2
  let iv := sessionIv 2 h.ctrDown
  let n := inner.length + inner.length % 2
  let head := [pack [(24, 0x210), (12, outer), (0, 1 + n + 4)], 0]
  let aad := packBytes (head ++ [word h.ctrDown])
  head ++ [word h.ctrDown] ++ unpackBytes (Config.gcmSeal k iv aad (packBytes inner))
    ++ words32 (Config.gcmTag k iv aad (packBytes inner))

/-! ### Sending a reply -/

/-- A reply packet queued on the SPI port (R427): the seventeenth replaces the oldest, event 2; event 3 for each. -/
def State.spiReply (s : State) (ws : List Word) : State :=
  let full := 16 ≤ s.cmd.spiQ.length
  let q := (if full then s.cmd.spiQ.drop 1 else s.cmd.spiQ) ++ [ws]
  ({ s with cmd := { s.cmd with spiQ := q } }.raiseIf full 2 0).raise 3 0

/-- Words of a reply on their transport. -/
def State.sendWords (s : State) (src : Source) (ws : List Word) : State :=
  let s := s.emit .reply (if src.via = .udp then src.dst ++ s.netTag else src.dst) ws
  match src.via with
  | .udp => s
  | .spi => s.spiReply ws
  | .cawell => s.sendMgr 0 src.addr ws

/-- The source by which the reply cache knows a command (R423): whichever port it came through and packet sealed it. -/
def Source.key (x : Source) : Source := { x with eth := 0, seals := x.seals.map (fun p => (p.1, 0)) }

/-- The cache entry of a request takes the reply just sent (R423). -/
def cacheReply (l : List CacheEntry) (src : Source) (opcode tag code detail : Nat) (ws : List Word) : List CacheEntry :=
  l.map (fun (e : CacheEntry) =>
    if e.src = src.key && e.opcode = opcode && e.tag = tag then
      { e with code := code, detail := detail, words := ws, sent := true } else e)

def State.cached (s : State) (src : Source) (opcode tag code detail : Nat) (ws : List Word) : State :=
  { s with cmd := { s.cmd with cache := cacheReply s.cmd.cache src opcode tag code detail ws } }

/-- The record of a host session as it stood: in this state, or in the one before a command that ended the session itself. -/
def hostRecord (s old : State) (sid : Nat) : Option (Option Nat × HostSession) :=
  match s.sessionOf sid with
  | some i => some (some i, s.sec.hosts.getD i HostSession.reset)
  | none => (old.sessionOf sid).map (fun i => (none, old.sec.hosts.getD i HostSession.reset))

/-- CTR_DOWN advances with each reply (R469). -/
def State.bumpDown (s : State) (e : Option Nat) (h : HostSession) : State :=
  match e with
  | some i => { s with sec := { s.sec with hosts := setNth s.sec.hosts i { h with ctrDown := h.ctrDown + 1 } } }
  | none => s

/-- Words on their way to a source through the sessions that sealed its command, each as a reply of opcode 0x210 with the tag of the
packet that sealed it (R469); `old` is the state before the command, whose sessions still seal the reply of a command that ends
them. -/
def State.sealedSend (s old : State) (src : Source) : List (Nat × Nat) → List Word → State
  | [], ws => s.sendWords { src with seals := [] } ws
  | q :: t, ws =>
    match hostRecord s old q.1 with
    | none => s
    | some (e, h) =>
      let out := sealedReply q.1 h q.2 ws
      ((s.bumpDown e h).cached { src with seals := t } 0x210 q.2 0 0 (out.drop 2)).sealedSend old src t out

/-- A reply sent to its source (R420), sealed where its command came sealed. -/
def State.sendReply (s old : State) (src : Source) (opcode tag : Nat) (a : Ans) : State :=
  s.sealedSend old src src.seals (replyWords opcode tag a)

/-- A reply sent, and kept as the newest reply of its cache entry (R423). -/
def State.finish (s : State) (q : Req) (a : Ans) : State :=
  (s.cached q.src q.opcode q.tag a.code a.detail a.words).sendReply s q.src q.opcode q.tag a

/-- The completion of a command that was ACCEPTED (R420, R422): the reply and event 1. -/
def State.complete (s : State) (q : Req) (a : Ans) : State :=
  (s.finish q a).raise 1 (q.opcode * 2 ^ 24 + q.tag * 2 ^ 12 + a.code * 2 ^ 4)

/-- A completion owed to nobody changes nothing. -/
def State.completeOpt (s : State) (q : Option Req) (a : Ans) : State :=
  match q with
  | some r => s.complete r a
  | none => s

end Sys2Proof.Machine
end

