-- ==== Sys2Proof/Machine/KilnCmd.lean ====
section
/-! DEFINITION. The Kiln's opcodes as handlers: commits, pre-blend LUTs, releases and surface definitions (R29–R31, R122–R124,
R144–R148, R178, R179), and the lifting of seals. -/

namespace Sys2Proof.Machine

/-! ### KILN_COMMIT (R29–R31, R540) -/

/-- A commit-class field has been written since the last commit (R30). -/
def touch (l : List (Fld × Nat)) (p : Fld × Nat) : List (Fld × Nat) := if l.contains p then l else l ++ [p]

/-- The staged values of the fields written since the last commit bound to frame `n` (assumption log 20). -/
def State.bindCommit (s : State) (n : Nat) : State :=
  let i := inputFor s.fire.inputs n
  let vals := s.fire.touched.map (fun p => (p.1, p.2, rget s.regs p.1 p.2))
  let before := s.atlasesOut (s.copyFor n) n (fun _ => true)
  let s := { s with fire := { s.fire with
    inputs := putInput s.fire.inputs { i with commits := i.commits ++ [vals] }, touched := [] } }
  ((s.atlasCheck n before).sealBound).recheck

/-- Opcode 0x904 (R30). -/
def hKilnCommit : Handler := fun _ ps s =>
  let e := s.earliestOpen
  let f := join48 (nthW ps 0) (nthW ps 1)
  if bit (nthW ps 0) 12 then (.done e, s.bindCommit e)
  else if e + 8 < f then (.badParam, s)
  else if e ≤ f then (.done f, s.bindCommit f)
  else (.late e, (s.bindCommit e).raise 736 (e % 2 ^ 28))

/-! ### Tables in use (R124, R178, R179) -/

/-- The copies that count for a table: in force, staged, bound, of frames not yet presented, and the one before the last
tick. -/
def State.copies (s : State) : List RegFile :=
  [s.inForce, s.regs, s.fire.prev] ++ s.fire.inputs.map (fun i => s.copyFor i.frame) ++ s.fire.frames.map (·.copy)

/-- A slot descriptor of a copy selects pre-blend table `t`, in the slot set or not (R124). -/
def selectsPre (c : RegFile) (t : Nat) : Bool := (List.range 32).any (fun i => rget c Reg.KILN_SLOT_W2_PRE_LUT i = t)

/-- A copy names post-blend table `t`. -/
def selectsPost (c : RegFile) (t : Nat) : Bool := rget c Reg.GLAZE_CTRL_POST_LUT 0 = t

/-- An enabled set-list entry of a copy names matrix slot `t`. -/
def selectsSet (c : RegFile) (t : Nat) : Bool :=
  (List.range 6).any (fun e => rget c Reg.GLAZE_SETLIST_EN e ≠ 0 && rget c Reg.GLAZE_SETLIST_SLOT e = t)

/-- Table `t` of a kind is in use: 0 pre-blend, 1 post-blend, 2 matrix slot. -/
def State.tableUsed (s : State) (kind t : Nat) : Bool :=
  s.copies.any (fun c => if kind = 0 then selectsPre c t else if kind = 1 then selectsPost c t else selectsSet c t)

/-- The registers that show tables in use and queued. -/
def State.showTables (s : State) : State :=
  let mask (n : Nat) (p : Nat → Bool) : Nat := ((List.range n).map (fun t => b2n (p t) * 2 ^ t)).foldl (· + ·) 0
  let queued (kind t : Nat) : Bool := s.fire.loads.any (fun l => l.kind = kind && l.table = t)
  s.ws ([(Reg.KILN_LUT_STATUS_IN_USE, 0, mask 16 (s.tableUsed 0)), (Reg.KILN_LUT_STATUS_PENDING, 0, mask 16 (queued 0)),
    (Reg.GLAZE_LUT_STATUS_IN_USE, 0, mask 4 (s.tableUsed 1)), (Reg.GLAZE_LUT_STATUS_PENDING, 0, mask 4 (queued 1))]
    ++ (List.range 8).flatMap (fun t =>
      [(Reg.GLAZE_SLOT_IN_USE, t, b2n (s.tableUsed 2 t)), (Reg.GLAZE_SLOT_PENDING, t, b2n (queued 2 t))]))

/-! ### Table images (R122, R178, R179) -/

/-- The words of a pre-blend table image (R122). -/
def preImage (l : List (Nat × Nat)) (t : Nat) : List Word :=
  (List.range 768).map (fun w =>
    let k := w / 256
    let m := w % 256
    pack [(18, preLut l t k (2 * m)), (0, preLut l t k (2 * m + 1))])

/-- A pre-blend table taken from an image. -/
def takePre (l : List (Nat × Nat)) (t : Nat) (ws : List Word) : List (Nat × Nat) :=
  (List.range 1536).foldl (fun a i =>
    let k := i / 512
    let c := i % 512
    let w := nthW ws (256 * k + c / 2)
    let v := if c % 2 = 0 then bits w 35 18 else bits w 17 0
    sset (preRamp c) a ((3 * t + k) * 512 + c) v) l

/-- A post-blend table taken from an image (R178). -/
def takePost (l : List (Nat × Nat)) (t : Nat) (ws : List Word) : List (Nat × Nat) :=
  (List.range 3075).foldl (fun a i =>
    let k := i / 1025
    let p := i % 1025
    let w := nthW ws (513 * k + p / 2)
    let v := if p % 2 = 0 then bits w 33 18 else bits w 15 0
    sset (postRamp p) a ((3 * t + k) * 1025 + p) v) l

/-- The words of a post-blend table image (R178). -/
def postImage (l : List (Nat × Nat)) (t : Nat) : List Word :=
  (List.range 1539).map (fun w =>
    let k := w / 513
    let m := w % 513
    if m = 512 then pack [(18, postLut l t k 1024)]
    else pack [(18, postLut l t k (2 * m)), (0, postLut l t k (2 * m + 1))])

/-- The 18-bit coefficient `e` of a matrix from its five words (R179). -/
def matCoeff (ws : List Word) (e : Nat) : Nat :=
  let w := nthW ws (e / 2)
  if e % 2 = 0 then bits w 35 18 else bits w 17 0

/-- The matrices of a slot taken from an image. -/
def takeMats (l : List (Nat × Nat)) (slot count : Nat) (ws : List Word) : List (Nat × Nat) :=
  (List.range (9 * count)).foldl (fun a i =>
    sset 0 a (4096 * slot * 9 + i) (matCoeff ((ws.drop (5 * (i / 9))).take 5) (i % 9))) l

/-- The words of a slot's matrix image. -/
def matImage (l : List (Nat × Nat)) (slot count : Nat) : List Word :=
  (List.range count).flatMap (fun m =>
    let v (e : Nat) : Nat := sget 0 l ((4096 * slot + m) * 9 + e)
    [pack [(18, v 0), (0, v 1)], pack [(18, v 2), (0, v 3)], pack [(18, v 4), (0, v 5)], pack [(18, v 6), (0, v 7)],
     pack [(18, v 8)]])

/-- A load runs: its image is read, and the table replaced in one step (R124, R178, R179). -/
def State.runLoad (s : State) (kind : Nat) (ps : List Word) : Ans × State :=
  let t := if kind = 0 then bits (nthW ps 0) 3 0 else if kind = 1 then bits (nthW ps 0) 1 0 else bits (nthW ps 0) 2 0
  let count := bits (nthW ps 1) 11 0 + 1
  let sector := if kind = 2 then bits (nthW ps 2) 27 0 else bits (nthW ps 1) 27 0
  let n := if kind = 0 then 768 else if kind = 1 then 1539 else 5 * count
  match s.readWords 8 (7 * sector) n with
  | (.bad k, s) => (.fault k, s)
  | (.ok ws, s) =>
    if kind = 0 then (.done t, { s with fire := { s.fire with pre := takePre s.fire.pre t ws } })
    else if kind = 1 then (.done t, { s with glaze := { s.glaze with post := takePost s.glaze.post t ws } })
    else (.done t, { s with glaze := { s.glaze with mats := takeMats s.glaze.mats t count ws } }.ws
      [(Reg.GLAZE_SLOT_LOADED, t, 1), (Reg.GLAZE_SLOT_COUNT_M1, t, count - 1)])

/-- A load command (R124, R178, R179): beyond the DRAM, in use with and without WAIT, at once. -/
def State.loadTable (s : State) (kind table sector words : Nat) (wait : Bool) (c : Ctx) (ps : List Word) : Ans × State :=
  if !s.imageOk sector words then (.badParam, s)
  else if !s.tableUsed kind table then
    let r := s.runLoad kind ps
    (r.1, r.2.showTables)
  else if !wait then (.sealed table, s)
  else
    let old := s.fire.loads.find? (fun l => l.kind = kind && l.table = table)
    let s := s.completeOpt (old.map (·.req)) (.fault 0)
    let rest := s.fire.loads.filter (fun l => !(l.kind = kind && l.table = table))
    (.accepted table,
      { s with fire := { s.fire with loads := rest ++ [(⟨kind, table, ps, c.req⟩ : TableLoad)] } }.showTables)

/-- Queued loads whose table is not in use run (R124). -/
def State.runLoads (s : State) : State :=
  (s.fire.loads.foldl (fun (x : State) l =>
    if x.tableUsed l.kind l.table then x
    else
      let x := { x with fire := { x.fire with loads := x.fire.loads.erase l } }
      let r := x.runLoad l.kind l.params
      r.2.complete l.req r.1) s).showTables

/-- Opcode 0xA01 (R178). -/
def hGlazeLutLoad : Handler := fun c ps s =>
  s.loadTable 1 (bits (nthW ps 0) 1 0) (bits (nthW ps 1) 27 0) 1539 (bit (nthW ps 0) 6) c ps

/-- Opcode 0xA02 (R179). -/
def hGlazeSetLoad : Handler := fun c ps s =>
  s.loadTable 2 (bits (nthW ps 0) 2 0) (bits (nthW ps 2) 27 0) (5 * (bits (nthW ps 1) 11 0 + 1)) (bit (nthW ps 0) 6) c ps

/-! ### Surfaces (R144–R148) -/

/-- A write to a surface is in progress or queued. -/
def State.surfBusy (s : State) (i : Nat) : Bool :=
  s.rb Reg.KILN_SURF_W3_WRITING i || s.fire.waitQ.any (fun q => q.surfs.contains i)

/-- A surface becomes undefined. -/
def State.undefine (s : State) (i : Nat) : State :=
  s.ws [(Reg.KILN_SURF_W0_BASE, i, 0), (Reg.KILN_SURF_W1_CRUMB, i, 0), (Reg.KILN_SURF_W1_W_M1, i, 0),
    (Reg.KILN_SURF_W1_H_M1, i, 0), (Reg.KILN_SURF_W2_STRIDE_M1, i, 0), (Reg.KILN_SURF_W2_SECTORS, i, 0),
    (Reg.KILN_SURF_W3_DEFINED, i, 0), (Reg.KILN_SURF_W3_INVALID, i, 0), (Reg.KILN_SURF_W3_RELEASING, i, 0)]

/-- Opcode 0x907 (R144, R146). Where several rows of R146 hold at once, BAD_PARAM comes before SEALED and SEALED before BUSY (DESIGN
CHOICE, assumption log 68). -/
def hSurfDefine : Handler := fun _ ps s =>
  let p0 := nthW ps 0
  let p1 := nthW ps 1
  let p2 := nthW ps 2
  let p3 := nthW ps 3
  let i := bits p0 7 0
  let crumb := bit p0 8
  let base := bits p1 27 0
  let wm := bits p2 34 22
  let hm := bits p2 21 9
  let st := bits p3 35 23
  let n := bits p3 22 0
  let small := if crumb then 7 * n < crumbBlocks (wm + 1) (hm + 1) else st < wm || n < cdiv ((st + 1) * (hm + 1)) 7
  if n = 0 || 4351 < hm || small || s.installed < base + n || s.owned base n || (s.surfsOf base n).any (· ≠ i) then (.badParam, s)
  else if (s.rb Reg.KILN_SURF_W3_DEFINED i && s.rb Reg.KILN_SURF_W3_SEALED i) || s.rb Reg.KILN_SURF_W3_RELEASING i then (.sealed i, s)
  else if s.surfBusy i then (⟨0x10, i, []⟩, s)
  else
    (.done i, (s.ws [(Reg.KILN_SURF_W0_BASE, i, base), (Reg.KILN_SURF_W1_CRUMB, i, b2n crumb),
      (Reg.KILN_SURF_W1_W_M1, i, wm), (Reg.KILN_SURF_W1_H_M1, i, hm),
      (Reg.KILN_SURF_W2_STRIDE_M1, i, if crumb then 0 else st), (Reg.KILN_SURF_W2_SECTORS, i, n),
      (Reg.KILN_SURF_W3_DEFINED, i, 1), (Reg.KILN_SURF_W3_INVALID, i, 0)]))

/-- Opcode 0x906 (R148). A surface that the staged copy names is BUSY also where it is not sealed (DESIGN CHOICE, assumption log
68). -/
def hKilnRelease : Handler := fun c ps s =>
  let i := bits (nthW ps 0) 7 0
  let free := bit (nthW ps 0) 8
  if !s.rb Reg.KILN_SURF_W3_DEFINED i then (.badParam, s)
  else if namesSurf s.regs i || s.rb Reg.KILN_SURF_W3_RELEASING i then (⟨0x10, i, []⟩, s)
  else if !s.rb Reg.KILN_SURF_W3_SEALED i then (.done i, if free then s.undefine i else s)
  else
    let x := sget (⟨0, 0, none⟩ : SurfX) s.fire.surf i
    (.accepted x.last,
      { s with fire := { s.fire with surf := sset ⟨0, 0, none⟩ s.fire.surf i { x with release := some (c.req, free) } } }.w
        Reg.KILN_SURF_W3_RELEASING 1 i)

/-- A surface's seal lifts (R147, R148): the release that waits completes. -/
def State.liftSurf (s : State) (i : Nat) : State :=
  let x := sget (⟨0, 0, none⟩ : SurfX) s.fire.surf i
  let s := { s with
    fire := { s.fire with surf := sset ⟨0, 0, none⟩ s.fire.surf i ⟨x.gen, 0, none⟩ }
    regs := rsets s.regs [(Reg.KILN_SURF_W3_SEALED, i, 0), (Reg.KILN_SURF_W3_LAST_USE, i, 0), (Reg.KILN_SURF_W3_RELEASING, i, 0)] }
  match x.release with
  | some (q, free) => (if free then s.undefine i else s).complete q (.done i)
  | none => s

/-- A seal whose largest frame is `l` lifts at tick l + 1 (R147). -/
def State.sealDue (s : State) (l : Nat) : Bool := s.time.ticked && l + 1 ≤ s.time.last

/-- The surfaces whose seal is due to lift. -/
def State.surfsDue (s : State) : List Nat :=
  (List.range 256).filter (fun i =>
    s.rb Reg.KILN_SURF_W3_SEALED i && s.sealDue (sget (⟨0, 0, none⟩ : SurfX) s.fire.surf i).last)

/-- Every seal that is due lifts (R147): surfaces and pool pictures. -/
def State.liftSeals (s : State) : State :=
  let s := s.surfsDue.foldl State.liftSurf s
  ({ s with dec := { s.dec with
    pics := s.dec.pics.map (fun (p : Pic) => { p with sealAt := p.sealAt.filter (fun l => !s.sealDue l) }) } }.prune).showPool

end Sys2Proof.Machine
end

