-- ==== Sys2Proof/Machine/GlazeCmd.lean ====
section
/-! DEFINITION. The Glaze as state: the Glaze set of a frame, a ray's passage, aging increments, the test-tile record, and the
hogel contexts (R157–R177, R182–R190). -/

namespace Sys2Proof.Machine

/-! ### The Glaze set (R165–R172) -/

/-- The Glaze set of a frame with this copy, as the temperatures, cones and caps stand (R170). -/
def State.makeSet (s : State) (copy : RegFile) : GlazeSet :=
  let brt := s.brightness copy
  let kd := s.dimming copy
  { postLut := rget copy Reg.GLAZE_CTRL_POST_LUT 0
    zones := (List.range 16).map (fun z => zoneSet copy (s.ri Reg.HEARTH_ZONE_TZ z) (s.r Reg.HEARTH_ZONE_CONE z))
    brtIn := brt, k := kd.1, d := kd.2
    headroom := s.r Reg.GLAZE_AGING_CTRL_HEADROOM, ageEn := s.rb Reg.GLAZE_AGING_CTRL_AGE_EN, bank := s.glaze.bankNo }

/-- The registers that show the Glaze set of the frame being fired. -/
def State.showSet (s : State) (g : GlazeSet) (cooled ambient : Bool) : State :=
  s.ws ([(Reg.GLAZE_FRAME_STATE_BRT_EFF, 0, brtEff g.brtIn), (Reg.GLAZE_FRAME_STATE_STEP, 0, g.k),
    (Reg.GLAZE_FRAME_STATE_COOLED, 0, b2n cooled), (Reg.GLAZE_FRAME_STATE_AMBIENT, 0, b2n ambient)]
    ++ (List.range 16).flatMap (fun z =>
      let q := g.zones.getD z ZoneSet.empty
      [(Reg.GLAZE_ZONE_CONE, z, q.cone), (Reg.GLAZE_ZONE_ENTRY_LO, z, q.a), (Reg.GLAZE_ZONE_ENTRY_HI, z, q.b),
       (Reg.GLAZE_ZONE_WEIGHT, z, q.weight), (Reg.GLAZE_ZONE_CLAMPED, z, b2n q.clamped),
       (Reg.GLAZE_ZONE_NONE, z, b2n q.none)]))

/-- The Glaze set of frame `f` fixed at its tick (R170–R172): events 771 and 772, for each zone. -/
def State.fixSet (s : State) (f : FireFrame) : FireFrame × State :=
  let g := s.makeSet f.copy
  let host := s.hostBrt f.copy
  let cooled := s.r Reg.HEARTH_DAMP_BRT_B_COOL < host
  let ambient := s.rb Reg.CAL_AMB_CTRL_AMB_EN
  let cones := g.zones.map (·.cone)
  let d := f.frame % 2 ^ 28
  let moved := (List.range 16).filter (fun z => !s.glaze.lastCones.isEmpty && nth cones z ≠ nth s.glaze.lastCones z)
  let s := s.raises (moved.map (fun _ => (771, d)))
  let fresh := (List.range 16).filter (fun z =>
    (g.zones.getD z ZoneSet.empty).clamped && !(s.glaze.clamped.getD z false))
  let s := s.raises (fresh.map (fun z => (772, z)))
  let s := { s with glaze := { s.glaze with clamped := g.zones.map ZoneSet.clamped, lastCones := cones } }
  ({ f with set := some g, cooled := cooled, ambient := ambient }, s.showSet g cooled ambient)

/-! ### The aging model (R187) -/

/-- The aging model latched when a frame's first band is fired. -/
def State.latchModel (s : State) (f : FireFrame) : FireFrame :=
  match f.model with
  | some _ => f
  | none =>
    { f with
      model := some [s.r Reg.CAL_MODEL_RG_K_R, s.r Reg.CAL_MODEL_RG_K_G, s.r Reg.CAL_MODEL_B_K_B, s.r Reg.CAL_MODEL_B_NORM]
      loss := s.cal.loss }

/-- An aging integral of a hogel. -/
def State.age (s : State) (ctx c : Nat) : Nat := sget 0 s.glaze.ages (3 * ctx + c)

/-- G of a hogel and colour under a frame's model (R185, R186). -/
def State.gainG (s : State) (f : FireFrame) (ctx c : Nat) : Nat :=
  let m := f.model.getD [16384, 16384, 16384, 32768]
  agingG f.loss c (nth m c) (nth m 3) (s.age ctx c)

/-! ### A ray's passage (R157–R169, R177) -/

/-- A ray of the image lies in a hogel that a pattern engine draws (R252): the engine's region in the set latched. -/
def patternOn (fs : Option FaultSet) (px py : Nat) : Bool :=
  match fs with
  | none => false
  | some q =>
    (List.range 4).any (fun e =>
      let w0 := nthW q.pats (4 * e)
      let w1 := nthW q.pats (4 * e + 1)
      bits w0 35 33 ≠ 0 && bit w0 32 && bits w1 35 28 ≤ px && px ≤ bits w1 27 20 && bits w1 19 12 ≤ py && py ≤ bits w1 11 4)

/-- Context words whose parity has failed since the last ray (R177): 8 × context + word for words of the bank in force and the aging
integrals, and 393,216 more for words of the staged bank. -/
def State.failParity (s : State) (ks : List Nat) : State :=
  let new (old l : List Nat) : List Nat := old ++ (l.filter (fun k => !old.contains k)).eraseDups
  { s with glaze := { s.glaze with
    parity := new s.glaze.parity (ks.filter (fun k => k < 393216))
    parityStaged := new s.glaze.parityStaged ((ks.filter (fun k => 393216 ≤ k && k < 786432 && k % 8 < 2)).map (· - 393216)) } }

/-- A parity error is met in a context (R177): recorded, counted, event 776. -/
def State.parityHit (s : State) (ctx : Nat) : State :=
  ((s.w Reg.GLAZE_CTX_STATUS_PARITY_CTX ctx).count Reg.GLAZE_CTX_STATUS_PARITY_COUNT 0 1).raise 776 0

/-- The bank of context words 0–1 that a set was fixed on (R170): the one in force, or the one before it. -/
def State.bankOf (s : State) (g : GlazeSet) : List (Nat × Word) := if g.bank = s.glaze.bankNo then s.glaze.ctx else s.glaze.prev

/-- Word 0 or 1 of a context has a parity error in the bank of a set. -/
def State.badWord (s : State) (g : GlazeSet) (ctx w : Nat) : Bool :=
  (if g.bank = s.glaze.bankNo then s.glaze.parity else s.glaze.parityPrev).contains (8 * ctx + w)

/-- A colour's aging integral has a parity error. -/
def State.badAge (s : State) (ctx c : Nat) : Bool :=
  s.glaze.parity.contains (8 * ctx + (2 + 2 * c)) || s.glaze.parity.contains (8 * ctx + (3 + 2 * c))

/-- The aging gains of a hogel for a pass (R163, R164), and the G of each colour. -/
def State.passGains (s : State) (f : FireFrame) (g : GlazeSet) (ctx : Nat) (noAge : Bool) : List Nat × List Nat :=
  let gs := (List.range 3).map (s.gainG f ctx)
  ((List.range 3).map (fun c =>
    if !g.ageEn || noAge || s.badAge ctx c then 32768 else min (nth gs c) g.headroom), gs)

/-- The increment of a hogel once its last ray has left in first firing (R164, R182, R183). -/
def State.ageHogel (s : State) (f : FireFrame) (g : GlazeSet) (ctx px py : Nat) (w0 : Word) (rays : Nat) : FireFrame × State :=
  let sum (c : Nat) : Nat := sget 0 f.sums (3 * ctx + c)
  let f := { f with hogels := f.hogels + 1 }
  if bit w0 13 || bit w0 12 || patternOn f.faults px py then (f, s)
  else
    let cone := (g.zones.getD (bits w0 23 20) ZoneSet.empty).cone
    let wt := s.es Reg.CAL_WT_WT cone
    let p := periodWeight s.num s.den
    let ages := (List.range 3).foldl (fun l c =>
      if s.badAge ctx c then l
      else sset 0 l (3 * ctx + c) (min (2 ^ 72 - 1) (sget 0 l (3 * ctx + c) + agingInc (sum c / rays) g.k wt p))) s.glaze.ages
    let gs := (List.range 3).map (s.gainG f ctx)
    ({ f with
       aged := f.aged + 1
       agedSum := (List.range 3).map (fun c => nth f.agedSum c + sum c)
       gSum := (List.range 3).map (fun c => nth f.gSum c + nth gs c) },
     { s with glaze := { s.glaze with ages := ages } })

/-- The test-tile record of a frame formed after its last ray (R189, R190, R193), and the test-tile's own increment, with the step it is
driven with: before glost at most 4 (R241). -/
def State.testRecord (s : State) (f : FireFrame) (g : GlazeSet) (rays : Nat) : State :=
  if !s.rb Reg.CAL_TTH_TTH_EN then s
  else
    let cone := (g.zones.getD (s.r Reg.CAL_TTH_TTH_ZONE) ZoneSet.empty).cone
    let mean := (List.range 3).map (fun c => if f.aged = 0 then 0 else nth f.agedSum c / (f.aged * rays))
    let drive : List Nat × Nat :=
      match s.cal.run with
      | none => (mean, g.k)
      | some r =>
        ((List.range 3).map (fun c => if r.step = c + 1 then s.r Reg.CAL_TTH_MEAS_CODE else 0),
         if r.step = 0 then g.k else s.r Reg.CAL_TTH_MEAS_STEP)
    let codes := drive.1
    let wt := s.es Reg.CAL_WT_WT cone
    let p := periodWeight s.num s.den
    let rf := (List.range 3).foldl (fun (r : RegFile) c =>
      let i := rget r Reg.CAL_TTH_AGE_AGE (2 * c) * 2 ^ 36 + rget r Reg.CAL_TTH_AGE_AGE (2 * c + 1)
      let j := min (2 ^ 72 - 1) (i + agingInc (nth codes c) (if s.stage = 2 then drive.2 else min 4 drive.2) wt p)
      rset (rset r Reg.CAL_TTH_AGE_AGE (2 * c) (j / 2 ^ 36)) Reg.CAL_TTH_AGE_AGE (2 * c + 1) j) s.regs
    let run := s.cal.run.map (fun (x : CalRun) => if x.formed.isNone then { x with formed := some f.frame } else x)
    { s with regs := rf
             cal := { s.cal with
               run := run
               rec_ := some (rayWord (nth codes 0) (nth codes 1) (nth codes 2), pack [(4, cone), (0, drive.2)]) } }

/-- Colours clipped in a frame so far (R163). -/
def FireFrame.clipped (f : FireFrame) : Nat := (f.clips.map Prod.snd).foldl (· + ·) 0

/-- What is told once a frame's last ray has left in first firing (R163, R189): clipped colours, the aging summary, the
test-tile record. -/
def State.lastRay (s : State) (f : FireFrame) (g : GlazeSet) (rays : Nat) : State :=
  let s := s.raiseIf (s.glaze.lastClip < f.clipped) 770 (f.frame % 2 ^ 28)
  let s := { s with glaze := { s.glaze with lastClip := f.clipped } }
  let s := s.ws ((Reg.GLAZE_AGING_STATUS_CLIPPED, 0, f.clipped) ::
    (List.range 3).flatMap (fun c =>
      [(Reg.CAL_AGING_SUMMARY_G_MAX, c, nth f.gMax c),
       (Reg.CAL_AGING_SUMMARY_G_MEAN, c, if f.aged = 0 then 0 else nth f.gSum c / f.aged)]))
  s.testRecord f g rays

/-- The step of a frame held against that of the previous fired frame, when the frame is due and was fired (R166): event 777. -/
def State.stepChange (s : State) (f : FireFrame) : State :=
  match f.set with
  | none => s
  | some g =>
    let s := s.raiseIf (match s.glaze.lastK with | some k => k ≠ g.k | none => false) 777 (f.frame % 2 ^ 28)
    { s with glaze := { s.glaze with lastK := some g.k } }

/-- A composited ray passes the seven stages (R157–R169); `parity` names context words whose parity has failed (`failParity`). Words
0–1 are read for every ray, the integrals once for each pass of a hogel's rays (R164, R177). -/
def State.passRay (s : State) (f : FireFrame) (q : RayIn) (parity : List Nat) : FireFrame × State :=
  match s.setFor f with
  | none => (f, s)
  | some g =>
    let gr := gridOf s.regs
    let rays := gr.vw * gr.vh
    let ctx := q.py * gr.hw + q.px
    let newPass := (sfind f.ag (3 * ctx)).isNone
    let s := s.failParity parity
    let lost := s.badWord g ctx 0 || s.badWord g ctx 1
    let s := if lost || (newPass && (List.range 3).any (s.badAge ctx)) then s.parityHit ctx else s
    let w0 := ctxWord (s.bankOf g) ctx 0
    let w1 := ctxWord (s.bankOf g) ctx 1
    let dark := bit w0 12 || lost
    let fst := sget rays f.toCome ctx ≠ 0
    let gains := s.passGains f g ctx (bit w0 13)
    let past := (List.range 3).filter (fun c => g.headroom < nth gains.2 c && g.ageEn && !bit w0 13 && !s.badAge ctx c)
    let f := if newPass then
        { f with
          ag := (List.range 3).foldl (fun l c => sput l (3 * ctx + c) (nth gains.1 c)) f.ag
          clips := if fst then sset 0 f.clips ctx past.length else f.clips
          gMax := if fst then (List.range 3).map (fun c => max (nth f.gMax c) (nth gains.2 c)) else f.gMax }
      else f
    let ag := (List.range 3).map (fun c => sget 32768 f.ag (3 * ctx + c))
    let z := g.zones.getD (bits w0 23 20) ZoneSet.empty
    let m := hogelMatrix s.regs f.copy s.glaze.mats z (bits w0 35 24)
    let t := dither (s.rb Reg.GLAZE_CTRL_DITHER_EN) (s.rb Reg.GLAZE_CTRL_TEMPORAL) f.frame q.px q.py q.pvx q.pvy
    let o := glazeChain s.glaze.post g.postLut m w1 ag g.d t [q.r, q.g, q.b]
    let d := f.frame % 2 ^ 28
    let e1 := if o.matSat then (s.count Reg.GLAZE_SAT_MATRIX).once f 768 d else (f, s)
    let e2 := if o.gainSat then (e1.2.count Reg.GLAZE_SAT_GAIN).once e1.1 769 d else e1
    let e3 := if o.idxErr then e2.2.once e2.1 773 d else e2
    let f := e3.1
    let s := e3.2
    let w := if dark then 0 else o.word
    let f := { f with rays := sset 0 f.rays (rayNo gr q.px q.py q.pvx q.pvy) w }
    if !fst then (f, s)
    else
      let left := sget rays f.toCome ctx - 1
      let f := { f with
        toCome := sset rays f.toCome ctx left
        sums := (List.range 3).foldl (fun l c => sset 0 l (3 * ctx + c) (sget 0 l (3 * ctx + c) + bits w (35 - 12 * c) (24 - 12 * c))) f.sums }
      if left ≠ 0 then (f, s)
      else
        let a := s.ageHogel f g ctx q.px q.py w0 rays
        if a.1.hogels = gr.hw * gr.hh then (a.1, a.2.lastRay a.1 g rays) else a

/-! ### Contexts (R173–R177) -/

/-- Words 0–1 of a run of contexts written into a bank. -/
def putCtx (bank : List (Nat × Word)) (first count stride : Nat) (ws : List Word) : List (Nat × Word) :=
  (List.range (2 * count)).foldl (fun l i =>
    sset (ctxDefault (i % 2)) l (2 * first + i) (nthW ws (stride * (i / 2) + i % 2))) bank

/-- Words 2–7 of a run of contexts written into the integrals. -/
def putAges (ages : List (Nat × Nat)) (first count : Nat) (ws : List Word) : List (Nat × Nat) :=
  (List.range (3 * count)).foldl (fun l i =>
    let w := 8 * (i / 3) + 2 + 2 * (i % 3)
    sset 0 l (3 * first + i) ((nthW ws w).toNat * 2 ^ 36 + (nthW ws (w + 1)).toNat)) ages

/-- Parity errors cleared by rewriting words of a run of contexts. -/
def clearParity (l : List Nat) (first count words : Nat) : List Nat :=
  l.filter (fun k => !(first ≤ k / 8 && k / 8 < first + count && k % 8 < words))

/-- The eight words of a context (R173). -/
def State.ctxImage (s : State) (bank : List (Nat × Word)) (ctx : Nat) : List Word :=
  [ctxWord bank ctx 0, ctxWord bank ctx 1] ++ (List.range 3).flatMap (fun c => split72 (s.age ctx c))

/-- The registers that show pending context loads. -/
def State.showCtx (s : State) : State :=
  s.ws [(Reg.GLAZE_CTX_STATUS_PENDING, 0, b2n (!s.glaze.loads.isEmpty || !s.glaze.waiting.isEmpty)),
    (Reg.GLAZE_CTX_FRAME_PEND_FRAME, 0, match (s.glaze.loads ++ s.glaze.waiting).head? with | some l => l.frame | none => 0)]

/-- A load's image goes into the staged bank; a failing sector fails it and every load of its frame (R175). -/
def State.stageCtx (s : State) (l : CtxLoad) (sector count : Nat) : Option Nat × State :=
  match s.readWords 8 (7 * sector) (2 * count) with
  | (.bad k, s) =>
    let s := s.glaze.loads.foldl (fun (x : State) q => x.complete q.req (.fault k)) s
    (some k, { s with glaze := { s.glaze with loads := [], staged := s.glaze.ctx, parityStaged := [] } }.showCtx)
  | (.ok ws, s) =>
    (none, { s with glaze := { s.glaze with
      staged := putCtx s.glaze.staged l.first count 2 ws
      parityStaged := clearParity s.glaze.parityStaged l.first count 2, loads := s.glaze.loads ++ [{ l with words := ws }] } }.showCtx)

/-- Opcode 0xA03 (R174, R175). -/
def hCtxLoad : Handler := fun c ps s =>
  let p0 := nthW ps 0
  let aging := bit p0 13
  let next := bit p0 12
  let f := join48 p0 (nthW ps 1)
  let first := bits (nthW ps 2) 15 0
  let count := bits (nthW ps 3) 15 0
  let sector := bits (nthW ps 4) 27 0
  let stride := if aging then 8 else 2
  if count = 0 || 49152 < first + count || !s.imageOk sector (stride * count) then (.badParam, s)
  else if aging && s.fire.firing then (.stage, s)
  else if !s.fire.firing then
    match s.readWords 8 (7 * sector) (stride * count) with
    | (.bad k, s) => (.fault k, s)
    | (.ok ws, s) =>
      (.done count, { s with glaze := { s.glaze with
        ctx := putCtx s.glaze.ctx first count stride ws
        staged := putCtx s.glaze.staged first count stride ws
        ages := if aging then putAges s.glaze.ages first count ws else s.glaze.ages
        parity := clearParity s.glaze.parity first count stride
        parityStaged := clearParity s.glaze.parityStaged first count 2 } })
  else
    let e := s.earliestOpen
    let late := !next && f < e
    let n := if next || f < e then e else f
    match (s.glaze.loads ++ s.glaze.waiting).head?.filter (fun l => l.frame ≠ n) with
    | some l => (⟨0x10, l.frame % 2 ^ 28, []⟩, s)
    | none =>
      if !next && e + 8 < f then (.badParam, s)
      else
        let l : CtxLoad := ⟨n, first, [word sector, word count], late, c.req⟩
        if s.rb Reg.GLAZE_CTX_STATUS_COPYING then
          (.accepted n, ({ s with glaze := { s.glaze with waiting := s.glaze.waiting ++ [l] } }.showCtx).raiseIf late 775 (n % 2 ^ 28))
        else
          match s.stageCtx l sector count with
          | (some k, s) => (.fault k, s)
          | (none, s) => (.accepted n, s.raiseIf late 775 (n % 2 ^ 28))

/-- At tick F − 1 the staged bank becomes the bank in force (R174, R175): every load completes, event 774, and the copy
begins. -/
def State.swapCtx (s : State) (n : Nat) : State :=
  let due := s.glaze.loads.filter (fun l => l.frame ≤ n)
  if due.isEmpty then s
  else
    let s := { s with glaze := { s.glaze with
      ctx := s.glaze.staged, prev := s.glaze.ctx, bankNo := s.glaze.bankNo + 1, loads := []
      parity := s.glaze.parity.filter (fun k => 2 ≤ k % 8) ++ s.glaze.parityStaged
      parityPrev := s.glaze.parity.filter (fun k => k % 8 < 2) } }
    let s := (s.w Reg.GLAZE_CTX_STATUS_COPYING 1).showCtx
    let s := due.foldl (fun (x : State) l =>
      x.complete l.req (if l.late then .late l.frame else .done l.frame)) s
    s.raise 774 (n % 2 ^ 28)

/-- Loads that waited for the bank copy are written in turn; the first whose image fails a sector check fails, and with it every load
of its frame, written or still to be written (R175). -/
def State.writeLoads (s : State) : List CtxLoad → State
  | [] => s
  | l :: t =>
    match s.stageCtx { l with words := [] } (nthW l.words 0).toNat (nthW l.words 1).toNat with
    | (some k, x) => (l :: t).foldl (fun (y : State) q => y.complete q.req (.fault k)) x
    | (none, x) => x.writeLoads t

/-- The bank copy is done (R174): its words are written anew, and loads that waited for it are written. -/
def State.copyDone (s : State) : State :=
  if !s.rb Reg.GLAZE_CTX_STATUS_COPYING then s
  else
    let w := s.glaze.waiting
    let s := { s.w Reg.GLAZE_CTX_STATUS_COPYING 0 with
      glaze := { s.glaze with staged := s.glaze.ctx, parityStaged := [], waiting := [] } }
    s.showCtx.writeLoads w

end Sys2Proof.Machine
end

