-- ==== Sys2Proof/Machine/Cal.lean ====
section
/-! DEFINITION. The calibration unit (R182–R204): loss tables, calibration runs, ambient brightness, the calibration store. -/

namespace Sys2Proof.Machine

/-! ### The flash (R536) -/

/-- A byte of the flash; an unlisted one is erased. -/
def flashByte (f : List Host.Cell) (a : Nat) : Byte := sget 0xFF f a

/-- A run of bytes of the flash. -/
def flashBytes (f : List Host.Cell) (a n : Nat) : List Byte := sgetRun 0xFF f a n

/-- Bytes programmed into erased flash. -/
def flashWrite (f : List Host.Cell) (a : Nat) (l : List Byte) : List Host.Cell := ssetRun (fun _ => 0xFF) f a l

/-- A range of the flash erased. -/
def flashErase (f : List Host.Cell) (a n : Nat) : List Host.Cell := f.filter (fun p => !(a ≤ p.1 && p.1 < a + n))

/-- `n` words of the flash in word-pair packing (R60). -/
def flashWords (f : List Host.Cell) (a n : Nat) : List Word := (unpackBytes (flashBytes f a (9 * cdiv n 2))).take n

/-! ### Loss tables (R185, R188) -/

/-- The image of the loss tables (R188). -/
def lossImage (l : List (Nat × Nat)) : List Word :=
  (List.range 99).map (fun w =>
    let c := w / 33
    let m := w % 33
    if m = 0 then word (lossBase l c) else pack [(18, lossPoint l c (2 * m - 2)), (0, lossPoint l c (2 * m - 1))])

/-- Point `i` of colour `c` in an image. -/
def imagePoint (ws : List Word) (c i : Nat) : Nat :=
  let w := nthW ws (33 * c + 1 + i / 2)
  if i % 2 = 0 then bits w 33 18 else bits w 15 0

/-- Word `w` of an image of the loss tables breaks R188. -/
def lossWordBad (ws : List Word) (w : Nat) : Bool :=
  let c := w / 33
  let m := w % 33
  if m = 0 then 40 < bits (nthW ws w) 5 0
  else
    let i := 2 * m - 2
    (i = 0 && imagePoint ws c 0 < 32768) || (0 < i && imagePoint ws c i < imagePoint ws c (i - 1))
      || imagePoint ws c (i + 1) < imagePoint ws c i

/-- The tables of an image. -/
def takeLoss (ws : List Word) : List (Nat × Nat) :=
  (List.range 3).foldl (fun l c =>
    (List.range 64).foldl (fun l i => sset 32768 l (65 * c + 1 + i) (imagePoint ws c i))
      (sset 40 l (65 * c) (bits (nthW ws (33 * c)) 5 0))) []

/-- Opcode 0xA05 with DIR = 0 (R188): the tables reach the frames none of whose bands has fired (R187). -/
def State.lossLoad (s : State) (ps : List Word) : Ans × State :=
  let sector := bits (nthW ps 1) 27 0
  if !s.imageOk sector 99 then (.badParam, s)
  else
    match s.readWords 8 (7 * sector) 99 with
    | (.bad k, s) => (.fault k, s)
    | (.ok ws, s) =>
      match (List.range 99).find? (fun w => lossWordBad ws w) with
      | some w => (.badParam w, s)
      | none => (.done, { s with cal := { s.cal with loss := takeLoss ws } })

/-! ### Runs (R191–R196) -/

/-- Tz of the test-tile hogel's zone, in 1/16 °C (R191). -/
def State.tthTz (s : State) : Int := s.ri Reg.HEARTH_ZONE_TZ (s.r Reg.CAL_TTH_TTH_ZONE)

/-- Glost time in REFCLK cycles (R191, R201). -/
def State.glostTime (s : State) : Nat := s.cal.glost + (match s.cal.glostAt with | some t => s.now - t | none => 0)

/-- A run becomes pending (R191); no run is made with TTH_EN = 0 (R189). -/
def State.calPend (s : State) : State :=
  if s.rb Reg.CAL_TTH_TTH_EN then s.w Reg.CAL_RUN_STATUS_PENDING 1 else s

/-- Opcode 0xA06 (R196). -/
def hCalRun : Handler := fun c ps s =>
  let p := nthW ps 0
  let capture := bit p 3
  let entry := bits p 2 0
  if !s.rb Reg.CAL_TTH_TTH_EN then (.resource, s)
  else if !s.fire.firing then (.stage, s)
  else if capture && 5 < entry then (.badParam, s)
  else
    (.accepted, { s with cal := { s.cal with reqs := s.cal.reqs ++ [(if capture then some entry else none, c.req)] } }.calPend)

/-- A run starts from the dark step (R192, R193); it serves every request pending now (R196). -/
def State.calStart (s : State) : State :=
  { s with cal := { s.cal with run := some ⟨0, none, none, 0, [0, 0, 0], [0, 0, 0], [0, 0, 0], s.tthTz, s.cal.reqs⟩
                               reqs := [] } }.ws
    [(Reg.CAL_RUN_STATUS_PENDING, 0, 0), (Reg.CAL_RUN_STATUS_RUNNING, 0, 1), (Reg.CAL_RUN_STATUS_STEP, 0, 0)]

/-- A run in progress aborts and stays pending (R192). -/
def State.calAbort (s : State) : State :=
  match s.cal.run with
  | none => s
  | some r =>
    ({ s with cal := { s.cal with run := none, reqs := r.reqs ++ s.cal.reqs } }.ws
      [(Reg.CAL_RUN_STATUS_PENDING, 0, 1), (Reg.CAL_RUN_STATUS_RUNNING, 0, 0), (Reg.CAL_RUN_STATUS_STEP, 0, 0),
       (Reg.CAL_RUN_STATUS_LAST_RESULT, 0, 5)]).raise 177 0

/-- 30 minutes have passed since the last run that ended unaborted (R191). -/
def State.calRested (s : State) : Bool :=
  match s.cal.lastRun with
  | none => true
  | some t => t + cyclesS 1800 ≤ s.now

/-- What a tick does to calibration runs (R191, R192): `six`: the plan admits class 6; `rung2`: rung 2 is entered. While a run is in
progress its cause makes no second one. None starts while a whole-tile group holds COM_BLANK (R250). -/
def State.calTick (s : State) (six rung2 : Bool) : State :=
  let tz := s.tthTz
  let far := (s.r Reg.CAL_CTRL_CAL_DELTA) < (tz - s.ri Reg.CAL_RUN_STATUS_T_LAST).natAbs
  let s := if s.fire.firing && s.cal.run.isNone && far && s.calRested then s.calPend else s
  match s.cal.run with
  | some r => if !six || rung2 || 16 < (tz - r.startT).natAbs then s.calAbort else s
  | none =>
    if s.rb Reg.CAL_RUN_STATUS_PENDING && s.rb Reg.CAL_TTH_TTH_EN && s.fire.firing && six && !rung2 && !s.emit_.holdWhole then s.calStart
    else s

/-- A frame has gone on show: the drive of the run's step is shown from the frame of its first record on (R193). -/
def State.calShown (s : State) (n : Nat) : State :=
  { s with cal := { s.cal with run := s.cal.run.map (fun (r : CalRun) =>
      match r.formed with
      | some f => if f ≤ n && r.shown.isNone then { r with shown := some s.now } else r
      | none => r) } }

/-- One entry of the run log (R195, R203): 18 bytes that the spec does not lay out, 227 to a sector; the place goes round the ring and
outlasts every reset, as the flash does. -/
def State.runLog (s : State) : State :=
  let p := s.cal.logPlace
  let sector := 0xA00000 + 0x780000 + 4096 * (p / 227)
  let f := if p % 227 = 0 then flashErase s.flash sector 4096 else s.flash
  let bytes := packBytes ((List.range 4).map (fun i => word (s.free (500 + i))))
  { s with flash := flashWrite f (sector + 18 * (p % 227)) bytes
           cal := { s.cal with logPlace := (p + 1) % (128 * 227) } }.drawn

/-- A run ends unaborted with a result (R191, R195, R196): event 176, the log, the completions it serves. -/
def State.calEnd (s : State) (r : CalRun) (result : Nat) : State :=
  let s := { s with cal := { s.cal with run := none, lastRun := some s.now, lastRunG := s.glostTime } }
  let s := (s.ws [(Reg.CAL_RUN_STATUS_RUNNING, 0, 0), (Reg.CAL_RUN_STATUS_STEP, 0, 0),
    (Reg.CAL_RUN_STATUS_LAST_RESULT, 0, result), (Reg.CAL_RUN_STATUS_T_LAST, 0, twos 13 s.tthTz)]).count
      Reg.CAL_RUN_STATUS_RUNS
  r.reqs.foldl (fun (x : State) q => x.complete q.2 (.done result)) (s.runLog.raise 176 0)

/-- K of a colour: its register field. -/
def calK (c : Nat) : Fld :=
  if c = 0 then Reg.CAL_MODEL_RG_K_R else if c = 1 then Reg.CAL_MODEL_RG_K_G else Reg.CAL_MODEL_B_K_B

/-- The baseline reading of a colour. -/
def calBase (c : Nat) : Fld :=
  if c = 0 then Reg.CAL_BASE_W0_BASE_R else if c = 1 then Reg.CAL_BASE_W1_BASE_G else Reg.CAL_BASE_W1_BASE_B

/-- The test-tile hogel's aging integral of a colour (R190). -/
def State.tthAge (s : State) (c : Nat) : Nat :=
  s.r Reg.CAL_TTH_AGE_AGE (2 * c) * 2 ^ 36 + s.r Reg.CAL_TTH_AGE_AGE (2 * c + 1)

/-- The enabled baseline entries with their temperatures (R194). -/
def State.baseEntries (s : State) : List (Nat × Int) :=
  ((List.range 6).filter (fun i => s.rb Reg.CAL_BASE_W0_EN i)).map (fun i => (i, s.ri Reg.CAL_BASE_W0_TEMP i))

/-- E_c: the reading expected of a fresh hogel at Tz (R194). -/
def State.expected (s : State) (c : Nat) : Option Int :=
  (chooseEntries s.baseEntries s.tthTz).map (fun e =>
    lerp16 (s.r (calBase c) e.1) (s.r (calBase c) e.2.1) e.2.2.1)

/-- K after an evaluated run, before its range check (R195): none where K is kept. -/
def State.kRaw (s : State) (c : Nat) (m : Nat) : Option Int :=
  let d : Int := (tableGain s.cal.loss c (s.tthAge c) : Int) - 32768
  if !s.rb Reg.CAL_CTRL_AUTO_K || d < s.r Reg.CAL_TTH_MIN_DEF || d ≤ 0 then none
  else some (((m : Int) - 32768) * 16384 / d)

/-- The end of the colour steps of a run (R195, R196). -/
def State.calEvaluate (s : State) (r : CalRun) : State :=
  let net := (List.range 3).map (fun c => nth r.avg c - nth r.dark c)
  let full := r.avg.any (fun a => a = 65535)
  let s := s.ws ((List.range 3).map (fun c => (Reg.CAL_LAST_NET, c, nth net c)))
  let captures := r.reqs.filterMap (fun q => q.1)
  if !captures.isEmpty then
    if full then (s.raise 178 0).calEnd r 4
    else
      ((captures.flatMap (fun e =>
        [(Reg.CAL_BASE_W0_EN, e, 1), (Reg.CAL_BASE_W0_TEMP, e, twos 13 s.tthTz), (Reg.CAL_BASE_W0_BASE_R, e, nth net 0),
         (Reg.CAL_BASE_W1_BASE_G, e, nth net 1), (Reg.CAL_BASE_W1_BASE_B, e, nth net 2)])).foldl
        (fun (x : State) p => x.hw p.1 p.2.2 p.2.1) s).calEnd r 3
  else if full || net.any (fun n => n = 0) then (s.raise 178 0).calEnd r 4
  else if s.baseEntries.isEmpty then s.calEnd r 2
  else
    let m := (List.range 3).map (fun c =>
      min 65535 (((s.expected c).getD 0).toNat * 32768 / nth net c))
    let s := s.ws ((List.range 3).map (fun c => (Reg.CAL_LAST_MEAS, c, nth m c)))
    let raws := (List.range 3).map (fun c => s.kRaw c (nth m c))
    if raws.any (fun k => match k with | some z => z < 4096 || 65535 < z | none => false) then (s.raise 178 0).calEnd r 4
    else
      let ks : List Nat := (List.range 3).map (fun c =>
        let k := s.r (calK c)
        match raws.getD c none with
        | none => k
        | some z => ((k : Int) + clampI (-256) 256 ((z - k) / 4)).toNat)
      let changed := (List.range 3).any (fun c => nth ks c ≠ s.r (calK c))
      let s := s.ws ((List.range 3).map (fun c => (calK c, 0, nth ks c)))
      let drift := (List.range 3).any (fun c =>
        let gk := scaledGain (nth ks c) (tableGain s.cal.loss c (s.tthAge c))
        gk < 32 * ((nth m c : Int) - gk).natAbs)
      (s.raiseIf drift 179 0).calEnd r (if changed then 1 else 2)

/-- A housekeeping round for a run in progress (R193): of the rounds that began after the swap two pass and eight are summed; the
photodiode codes are those the round published, 10 ms after it began (R399). -/
def State.calRound (s : State) : State :=
  match s.cal.run with
  | none => s
  | some r =>
    if !r.shown.any (fun t => t + 1000000 ≤ s.now) then s
    else
      let n := r.rounds + 1
      let sums := if n ≤ 2 then r.sums else (List.range 3).map (fun c => nth r.sums c + s.r Reg.HEARTH_PHOTO_CODE c)
      if n < 10 then { s with cal := { s.cal with run := some { r with rounds := n, sums := sums } } }
      else
        let mean := sums.map (· / 8)
        let r := if r.step = 0 then { r with dark := mean } else { r with avg := setNth r.avg (r.step - 1) (nth mean (r.step - 1)) }
        if r.step < 3 then
          { s with cal := { s.cal with run := some { r with
              step := r.step + 1, formed := none, shown := none, rounds := 0, sums := [0, 0, 0] } } }.w
            Reg.CAL_RUN_STATUS_STEP (r.step + 1)
        else s.calEvaluate r

/-! ### Ambient brightness (R197, R198) -/

/-- The ambient reading A (R197). -/
def State.ambient (s : State) : Nat :=
  if s.rb Reg.CAL_AMB_CTRL_AMB_SRC then s.r Reg.CAL_AMB_HOST_AMB_HOST else s.r Reg.HEARTH_PHOTO_CODE 3

/-- Bt: the integer part of Af through the curve (R198). -/
def State.ambTarget (s : State) : Nat :=
  let a := s.cal.af / 256
  let x (i : Nat) : Nat := s.r Reg.CAL_AMB_CURVE_X i
  let y (i : Nat) : Nat := s.r Reg.CAL_AMB_CURVE_Y i
  if a < x 0 then y 0
  else if x 7 ≤ a then y 7
  else
    match (List.range 7).reverse.find? (fun i => x i ≤ a && a < x (i + 1)) with
    | some i => ((y i : Int) + ((y (i + 1) : Int) - y i) * ((a : Int) - x i) / ((x (i + 1) : Int) - x i)).toNat
    | none => y 7

/-- Af set, and the register that shows it. -/
def State.setAf (s : State) (af : Nat) : State :=
  { s with cal := { s.cal with af := af } }.w Reg.CAL_AMB_STATUS_AF (af / 256)

/-- A housekeeping round for the ambient filter (R197). -/
def State.ambRound (s : State) : State :=
  if s.rb Reg.CAL_AMB_CTRL_AMB_EN then
    s.setAf ((s.cal.af : Int) + (256 * (s.ambient : Int) - s.cal.af) / (2 ^ s.r Reg.CAL_AMB_CTRL_AMB_SHIFT : Nat)).toNat
  else s

/-- A write of CAL_AMB_CTRL (R197, R198): when AMB_EN goes from 0 to 1, Af takes 256 × A and Bamb takes Bt. -/
def State.ambWrite (s : State) : State :=
  let on := s.rb Reg.CAL_AMB_CTRL_AMB_EN
  let s' := if on && !s.cal.ambOn then
      let x := s.setAf (256 * s.ambient)
      x.w Reg.CAL_AMB_STATUS_BAMB x.ambTarget
    else s
  { s' with cal := { s'.cal with ambOn := on } }

/-- A reset of the device (R197): Af takes 256 × A. -/
def State.ambReset (s : State) : State :=
  { s.setAf (256 * s.ambient) with cal := { (s.setAf (256 * s.ambient)).cal with ambOn := s.rb Reg.CAL_AMB_CTRL_AMB_EN } }

/-- Tick `t` moves Bamb toward its target for frame t + 2 (R198). -/
def State.ambTick (s : State) (t : Nat) : State :=
  if s.rb Reg.CAL_AMB_CTRL_AMB_EN && (t + 2) % s.r Reg.CAL_AMB_CTRL_AMB_EVERY = 0 then
    let b : Int := s.r Reg.CAL_AMB_STATUS_BAMB
    let slew : Int := s.r Reg.CAL_AMB_CTRL_AMB_SLEW
    s.w Reg.CAL_AMB_STATUS_BAMB (b + clampI (-slew) slew (s.ambTarget - b)).toNat
  else s

/-! ### The calibration store (R199–R203) -/

/-- The flash areas of a kind of record: two static sides, three snapshot slots (R199). -/
def calAreas (static : Bool) : List Nat :=
  if static then [0xA00000, 0xA00000 + 0x180000]
  else [0xA00000 + 0x300000, 0xA00000 + 0x480000, 0xA00000 + 0x600000]

/-- The words of the matrix images that the GLAZE_SLOT words of a static record announce. -/
def slotWords (slots : List Word) : Nat := (slots.map (fun w => if bit w 35 then 5 * (bits w 34 23 + 1) else 0)).sum

/-- The length of the record in an area, by its kind; of a static record by its GLAZE_SLOT words. -/
def recLen (f : List Host.Cell) (static : Bool) (a : Nat) : Nat :=
  if static then
    let slots := ((flashWords f a 6172).drop 6164)
    6172 + slotWords slots + 98304 + 99 + 16 + 12 + 1
  else 294925

/-- The valid record of an area: its words without the CRC word (R200). -/
def calRecord (f : List Host.Cell) (static : Bool) (a : Nat) : Option (List Word) :=
  let h := (flashWords f a 2).headD 0
  if bits h 35 32 ≠ (if static then 1 else 2) ∨ bits h 31 28 ≠ 1 then none
  else
    let n := recLen f static a
    let ws := flashWords f a n
    let body := ws.take (n - 1)
    if (nthW ws (n - 1)).toNat = crcWords body then some body else none

/-- SEQ of a record. -/
def recSeq (ws : List Word) : Nat := (nthW ws 1).toNat

/-- The valid records of a kind: area index and words. -/
def calRecords (f : List Host.Cell) (static : Bool) : List (Nat × List Word) :=
  let as_ := calAreas static
  (List.range as_.length).filterMap (fun i => (calRecord f static (nth as_ i)).map (fun w => (i, w)))

/-- The newest valid record of a kind (R200). -/
def calNewest (f : List Host.Cell) (static : Bool) : Option (Nat × List Word) :=
  (calRecords f static).foldl (fun (m : Option (Nat × List Word)) r =>
    match m with
    | none => some r
    | some x => if recSeq x.2 < recSeq r.2 then some r else some x) none

/-- The area a new record goes into (R201): the first without a valid record, else that of the oldest. -/
def calPlace (f : List Host.Cell) (static : Bool) : Nat :=
  let rs := calRecords f static
  match (List.range (calAreas static).length).find? (fun i => !(rs.any (fun r => r.1 = i))) with
  | some i => i
  | none =>
    ((rs.foldl (fun (m : Option (Nat × List Word)) r =>
      match m with
      | none => some r
      | some x => if recSeq r.2 < recSeq x.2 then some r else some x) none).map Prod.fst).getD 0

/-- A record closed with its CRC word. -/
def closeRecord (ws : List Word) : List Word := ws ++ [word (crcWords ws)]

/-- The words of a static record of the state in force (R200). -/
def State.staticRecord (s : State) (seq : Nat) : List Word :=
  closeRecord ([pack [(32, 1), (28, 1)], word seq]
    ++ (List.range 4).flatMap (fun t => postImage s.glaze.post t)
    ++ (List.range 6).map (fun i => wordOf s.inForce (0xA0020 + i))
    ++ (List.range 8).map (fun i => wordOf s.regs (0xA0028 + i))
    ++ (List.range 8).flatMap (fun i =>
        if s.rb Reg.GLAZE_SLOT_LOADED i then matImage s.glaze.mats i (s.r Reg.GLAZE_SLOT_COUNT_M1 i + 1) else [])
    ++ (List.range 98304).map (fun i => ctxWord s.glaze.ctx (i / 2) (i % 2))
    ++ lossImage s.cal.loss
    ++ (List.range 16).map (fun i => wordOf s.regs (0x20410 + i))
    ++ (List.range 12).map (fun i => wordOf s.regs (0x20420 + i)))

/-- The words of a snapshot (R200). -/
def State.snapshot (s : State) (seq : Nat) : List Word :=
  closeRecord ([pack [(32, 2), (28, 1)], word seq] ++ split48 s.time.last
    ++ [wordOf s.regs 0x20402, wordOf s.regs 0x20403]
    ++ (List.range 6).map (fun i => wordOf s.regs (0x20434 + i))
    ++ (List.range 294912).map (fun i =>
        let v := s.age (i / 6) (i % 6 / 2)
        if i % 2 = 0 then word (v / 2 ^ 36) else word v))

/-- A save starts (R201): the record is taken from the state as it stands. -/
def State.saveStart (s : State) (static : Bool) (req : Option Req) : State :=
  let seq := match calNewest s.flash static with | some r => recSeq r.2 + 1 | none => 1
  let ws := if static then s.staticRecord seq else s.snapshot seq
  { s with cal := { s.cal with save := some (static, calPlace s.flash static, seq, ws, req) } }.w
    Reg.CAL_STORE_STATUS_SAVING 1

/-- Seconds left of the 45 minutes after the last snapshot (R201). -/
def State.snapWait (s : State) : Nat :=
  match s.cal.lastSnap with
  | none => 0
  | some t => cdiv (t + cyclesS 2700 - s.now) (cyclesS 1)

/-- A snapshot that is due without a command: skipped within 45 minutes of the last or while a save runs (R201). -/
def State.autoSnap (s : State) : State :=
  if s.cal.save.isSome || s.snapWait ≠ 0 || !s.dramUp then s else s.saveStart false none

/-- Opcode 0xA07 (R201). -/
def hCalSave : Handler := fun c ps s =>
  let static := bit (nthW ps 0) 0
  if !s.dramUp then (.stage, s)
  else if s.cal.save.isSome then (.busy, s)
  else if !static && s.snapWait ≠ 0 then (⟨0x41, cdiv s.snapWait 60, []⟩, s)
  else (.accepted, s.saveStart static (some c.req))

/-- The flash write of a save ends (R201): `fail` is the offset at which the flash failed. The periodic timer and the 45 minutes both
count from here. -/
def State.saveDone (s : State) (fail : Option Nat) : State :=
  match s.cal.save with
  | none => s
  | some (static, area, seq, ws, req) =>
    let a := nth (calAreas static) area
    let s := { s with cal := { s.cal with save := none, timerAt := s.glostTime } }.w Reg.CAL_STORE_STATUS_SAVING 0
    let erased := flashErase s.flash a 0x180000
    match fail with
    | some o => ({ s with flash := erased }.raise 183 0).completeOpt req (.fault o)
    | none =>
      let s := { s with flash := flashWrite erased a (packBytes ws) }
      let s := if static then s.w Reg.CAL_STORE_STATUS_STATIC_SIDE area
        else { s with cal := { s.cal with lastSnap := some s.now } }.ws
          [(Reg.CAL_STORE_STATUS_SNAP_SLOT, 0, area), (Reg.CAL_STORE_STATUS_SNAP_SEQ, 0, seq),
           (Reg.CAL_STORE_STATUS_SINCE, 0, 0)]
      (s.raise 182 0).completeOpt req (.done (seq % 2 ^ 28))

/-- SINCE as time goes on: minutes since the last snapshot. -/
def State.showSince (s : State) : State :=
  match s.cal.lastSnap with
  | none => s
  | some t => s.w Reg.CAL_STORE_STATUS_SINCE (satN 4095 ((s.now - t) / cyclesS 60))

/-- A run of register words written by the field tables. -/
def State.putWords (s : State) (a : Nat) (ws : List Word) : State :=
  { s with regs := (List.range ws.length).foldl (fun r i => writeRaw r (a + i) (nthW ws i)) s.regs }

/-- The newest static record loaded (R202). -/
def State.loadStatic (s : State) (area : Nat) (ws : List Word) : State :=
  let post := (List.range 4).foldl (fun l t => takePost l t ((ws.drop (2 + 1539 * t)).take 1539)) s.glaze.post
  let setl := (ws.drop 6158).take 6
  let slots := (ws.drop 6164).take 8
  let mats := ws.drop 6172
  let m := (List.range 8).foldl (fun (p : List (Nat × Nat) × List Word) i =>
    if bit (nthW slots i) 35 then
      let n := bits (nthW slots i) 34 23 + 1
      (takeMats p.1 i n (p.2.take (5 * n)), p.2.drop (5 * n))
    else p) (s.glaze.mats, mats)
  let rest := m.2
  let ctx := putCtx [] 0 49152 2 (rest.take 98304)
  let tail := rest.drop 98304
  let regs := (List.range 8).foldl (fun r i =>
    rset (rset r Reg.GLAZE_SLOT_LOADED i (b2n (bit (nthW slots i) 35))) Reg.GLAZE_SLOT_COUNT_M1 i (bits (nthW slots i) 34 23))
    s.regs
  let s := { s with
    regs := regs
    glaze := { s.glaze with post := post, mats := m.1, ctx := ctx, staged := ctx }
    cal := { s.cal with loss := takeLoss (tail.take 99) } }
  let s := ((s.putWords 0xA0020 setl).putWords 0x20410 ((tail.drop 99).take 16)).putWords 0x20420 ((tail.drop 115).take 12)
  { s with inForce := (List.range 6).foldl (fun r i => writeRaw r (0xA0020 + i) (nthW setl i)) s.inForce }.w
    Reg.CAL_STORE_STATUS_STATIC_SIDE area

/-- The newest snapshot loaded (R202). -/
def State.loadSnap (s : State) (area : Nat) (ws : List Word) : State :=
  let ages := (List.range (3 * 49152)).foldl (fun l i =>
    sset 0 l i ((nthW ws (12 + 2 * i)).toNat * 2 ^ 36 + (nthW ws (13 + 2 * i)).toNat)) []
  ({ s with glaze := { s.glaze with ages := ages } }.putWords 0x20402 ((ws.drop 4).take 2)).putWords 0x20434
    ((ws.drop 6).take 6) |>.ws [(Reg.CAL_STORE_STATUS_SNAP_SLOT, 0, area), (Reg.CAL_STORE_STATUS_SNAP_SEQ, 0, recSeq ws)]

/-- The load of the calibration store (R202). -/
def State.storeLoad (s : State) : State :=
  let s := match calNewest s.flash true with
    | some r => s.loadStatic r.1 r.2
    | none => s.raise 180 0
  let s := match calNewest s.flash false with
    | some r => s.loadSnap r.1 r.2
    | none => ({ s with glaze := { s.glaze with ages := [] } }.ws ((List.range 3).map (fun c => (calK c, 0, 16384)))).raise 181 0
  { s with cal := { s.cal with loaded := true } }.w Reg.MGMT_STAGE_CAL 1

/-! ### The rows -/

/-- CAL_STORE_LOAD: once DRAM is trained and MP firmware runs (R202). -/
def execCalStoreLoad (s : State) : Host.Outcome State Fault Refusal :=
  .next (if s.dramUp && s.mp && !s.cal.loaded && s.isWorker then (s.pass 0).storeLoad else s.pass 0)

/-- CAL_SAVE_DONE. -/
def execCalSaveDone (fail : Option Nat) (s : State) : Host.Outcome State Fault Refusal :=
  .next ((s.pass 0).saveDone fail)

/-- The instant at which glost time reaches `g`, if the stage stays glost. -/
def State.glostInstant (s : State) (g : Nat) : Nat := s.now + (g - s.glostTime)

/-- SNAPSHOT_TIMER: time goes on to the end of SAVE_PERIOD minutes of glost time (R201). -/
def execSnapshotTimer (s : State) : Host.Outcome State Fault Refusal :=
  if s.stage = 2 && s.isWorker then
    .next ((s.gotoNow (s.glostInstant (s.cal.timerAt + cyclesS (60 * s.r Reg.CAL_CTRL_SAVE_PERIOD)))).showSince.autoSnap)
  else .next (s.pass 0)

/-- CAL_PERIOD_EXPIRY: time goes on to CAL_PERIOD hours of glost time after the last run that ended unaborted (R191); while a run is in
progress it makes no second one. -/
def execCalPeriodExpiry (s : State) : Host.Outcome State Fault Refusal :=
  if s.stage = 2 && s.isWorker && s.r Reg.CAL_CTRL_CAL_PERIOD ≠ 0 && s.cal.run.isNone then
    .next ((s.gotoNow (s.glostInstant (s.cal.lastRunG + cyclesS (3600 * s.r Reg.CAL_CTRL_CAL_PERIOD)))).calPend)
  else .next (s.pass 0)

end Sys2Proof.Machine
end

