-- ==== Sys2Proof/Machine/Emit.lean ====
section
/-! DEFINITION. EMIT's arithmetic and packets: heads, strings and store addresses (R205, R206), the scan's limits (R207,
R214, R232), pattern and fault stages (R248, R252), signatures (R222), the packets of the emitter lane protocol
(R228, R240, R245), auxiliary lamps (R253). -/

namespace Sys2Proof.Machine

/-! ### Geometry -/

/-- Heads, strings and scan of a configuration. -/
structure Geo where
  g : Grid
  headB : Bool
  nl : Nat
  split : Nat
  commons : Nat
  subs : Nat
  deriving DecidableEq, Repr

/-- The geometry of a grid and of the scan and head settings of a register file. -/
def geoOf (r e : RegFile) : Geo :=
  let g := gridOf r
  let sp := rget e Reg.EMIT_HEAD_CTRL_SPLIT 0
  ⟨g, rget e Reg.EMIT_HEAD_CTRL_HEAD_B 0 ≠ 0, rget e Reg.EMIT_HEAD_CTRL_NL_M1 0 + 1, if sp = 0 then cdiv g.hh 2 else sp,
   rget e Reg.EMIT_SCAN_CTRL_COMMONS_M1 0 + 1, if rget e Reg.EMIT_SCAN_CTRL_SUB32 0 ≠ 0 then 32 else 16⟩

/-- The geometry in force (R231). -/
def State.geo (s : State) : Geo := geoOf s.regs s.emit_.scan

/-- The scan runs. -/
def State.scanOn (s : State) : Bool := s.es Reg.EMIT_HEAD_CTRL_SCAN_EN ≠ 0

/-- The heads in use. -/
def Geo.heads (q : Geo) : List Nat := if q.headB then [0, 1] else [0]

/-- First row and number of rows of a head (R205). -/
def Geo.rows (q : Geo) (h : Nat) : Nat × Nat :=
  if !q.headB then (0, q.g.hh) else if h = 0 then (0, q.split) else (q.split, q.g.hh - q.split)

/-- CW of R206. -/
def Geo.cw (q : Geo) : Nat := cdiv q.g.hw q.nl

/-- First column and number of columns of a string (R206). -/
def Geo.cols (q : Geo) (i : Nat) : Nat × Nat := (i * q.cw, min q.g.hw ((i + 1) * q.cw) - i * q.cw)

/-- The enabled lanes. -/
def Geo.lanes (q : Geo) : List Nat := q.heads.flatMap (fun h => (List.range q.nl).map (fun i => 8 * h + i))

/-- G: views of a hogel lit in one common (R206). -/
def Geo.lit (q : Geo) : Nat := q.g.vw * q.g.vh / q.commons

/-- The head that covers a row. -/
def Geo.headOf (q : Geo) (py : Nat) : Nat := if q.headB && q.split ≤ py then 1 else 0

/-- The lane of the string that covers a hogel (R206). -/
def Geo.laneOf (q : Geo) (px py : Nat) : Nat := 8 * q.headOf py + px / q.cw

/-- Words of a string's store (R206). -/
def Geo.store (q : Geo) (lane : Nat) : Nat := (q.rows (lane / 8)).2 * (q.cols (lane % 8)).2 * q.g.vw * q.g.vh

/-- The store address of a physical ray in its string (R206). -/
def Geo.addr (q : Geo) (px py pvx pvy : Nat) : Nat :=
  let h := q.headOf py
  let c := q.cols (px / q.cw)
  let r := q.rows h
  let n := pvx * q.g.vh + pvy
  let m := n / q.lit
  let p := ((py - r.1) * c.2 + (px - c.1)) * q.lit + (n - m * q.lit)
  m * r.2 * c.2 * q.lit + p

/-- The physical ray of a store address of a lane (R206): px, py, pvx, pvy. -/
def Geo.rayAt (q : Geo) (lane a : Nat) : Nat × Nat × Nat × Nat :=
  let c := q.cols (lane % 8)
  let r := q.rows (lane / 8)
  let block := r.2 * c.2 * q.lit
  let m := a / block
  let p := a % block
  let n := m * q.lit + p % q.lit
  let xy := p / q.lit
  (c.1 + xy % c.2, r.1 + xy / c.2, n / q.g.vh, n % q.g.vh)

/-! ### The limits of the scan (R207, R214, R232) -/

/-- ECHO_EN = 0 is refused with more than 2^24 rays per frame (R225). -/
def echoOk (r : RegFile) : Bool := rget r Reg.EMIT_HEAD_CTRL_ECHO_EN 0 ≠ 0 || (gridOf r).rays ≤ 16777216

/-- The settings of a register file pass every check of R232 and R225. -/
def scanOk (grade : Nat) (r : RegFile) : Bool :=
  let q := geoOf r r
  let num := rget r Reg.TIME_TICK_RATE_NUM 0
  let den := rget r Reg.TIME_TICK_RATE_DEN 0
  let clks := rget r Reg.EMIT_SCAN_CTRL_LINE_CLKS 0
  let split := rget r Reg.EMIT_HEAD_CTRL_SPLIT 0
  let win := rget r Reg.HEARTH_PLAN_CTRL_FIRE_WINDOW 0
  let tmo := rget r Reg.EMIT_HEAD_CTRL_TE_TIMEOUT 0
  let direct := directAt r grade
  -- times in units of 1 / (num × S × COMMONS) µs
  let k := num * q.subs * q.commons
  let line := den * 1000000
  let off := (((rget r Reg.EMIT_SCAN_CTRL_SCAN_PHASE 0 * k : Nat) : Int) - line) % ((line * q.commons : Nat) : Int)
  -- R255: the payload of a lane is that of its configured RATE
  let fits (l : Nat) : Bool :=
    q.store l * 36 * num * 100 ≤ 11640000000 / 2 ^ rget r Reg.LINK_LANE_W0_RATE (12 + l) * win * den
  (q.g.vw * q.g.vh) % q.commons = 0
  && split < q.g.hh && !(q.headB && q.g.hh = 1)
  && (q.nl - 1) * q.cw < q.g.hw
  && 4096 / q.subs + 8 ≤ clks
  && clks * q.subs * q.commons * num ≤ 80000000 * den
  && off < ((tmo * k : Nat) : Int)
  && echoOk r
  && (!direct || (q.lanes.all fits && tmo * num * 100 ≤ (100 - win) * den * 1000000))

/-! ### Packets (R228) -/

/-- Word 0 of a packet. -/
def pktWord (ptype str frame : Nat) : Word := pack [(32, ptype), (28, str), (0, frame % 2 ^ 28)]

/-- The CONFIG packet of a lane. -/
def configWords (q : Geo) (e : RegFile) (tthEn : Bool) (lane frame : Nat) : List Word :=
  let tth := tthEn && lane = rget e Reg.EMIT_HEAD_CTRL_TTH_LANE 0
  [pktWord 1 (lane % 8) frame,
   pack [(28, (q.rows (lane / 8)).2 - 1), (20, (q.cols (lane % 8)).2 - 1), (13, q.g.vw - 1), (9, q.g.vh - 1),
     (3, q.commons - 1), (2, b2n (q.subs = 32))],
   pack [(27, rget e Reg.EMIT_SCAN_CTRL_LINE_CLKS 0), (21, rget e Reg.EMIT_HEAD_CTRL_TTH_COMMON 0), (20, b2n tth)]]

/-- The ZONEMAP packet of a lane: the zone of each hogel of its string, nine to a word. -/
def zoneWords (q : Geo) (ctx : List (Nat × Word)) (lane frame : Nat) : List Word :=
  let r := q.rows (lane / 8)
  let c := q.cols (lane % 8)
  let zone (i : Nat) : Nat :=
    if i < r.2 * c.2 then bits (ctxWord ctx ((r.1 + i / c.2) * q.g.hw + c.1 + i % c.2) 0) 23 20 else 0
  pktWord 2 (lane % 8) frame ::
    (List.range (cdiv (r.2 * c.2) 9)).map (fun w => pack ((List.range 9).map (fun j => (32 - 4 * j, zone (9 * w + j)))))

/-- The payload of a RECT packet (R228): for each common, row and hogel, the words of that common. -/
def rectPayload (q : Geo) (rays : List (Nat × Word)) (x0 y0 w h : Nat) : List Word :=
  (List.range q.commons).flatMap (fun m => (List.range h).flatMap (fun y => (List.range w).flatMap (fun x =>
    (List.range q.lit).map (fun j =>
      let n := m * q.lit + j
      sget 0 rays (rayNo q.g (x0 + x) (y0 + y) (n / q.g.vh) (n % q.g.vh))))))

/-- The part of a box of hogels that lies in a string: first column and width. -/
def Geo.part (q : Geo) (lane x0 w : Nat) : Nat × Nat :=
  let c := q.cols (lane % 8)
  let a := max x0 c.1
  (a, min (x0 + w) (c.1 + c.2) - a)

/-- The RECT packet of a lane for a box of hogels, without its payload. -/
def rectWords (q : Geo) (lane frame tag x0 y0 w h : Nat) : List Word :=
  let p := q.part lane x0 w
  [pktWord 3 (lane % 8) frame,
   pack [(28, p.1 - (q.cols (lane % 8)).1), (20, p.2 - 1), (12, y0 - (q.rows (lane / 8)).1), (4, h - 1), (0, tag)]]

/-- The flags of a ROW packet (R221). -/
def rowFlags (g : Grid) : Nat × Nat := (b2n (g.mirror ≠ (g.rot = 2)), b2n (g.rot = 2))

/-- The ROW packet of a lane for a hogel row in direct firing mode (R221). -/
def rowWords (q : Geo) (rays : List (Nat × Word)) (lane frame py : Nat) : List Word :=
  let c := q.cols (lane % 8)
  let fl := rowFlags q.g
  let xs := (List.range c.2).map (fun i => if fl.1 = 1 then c.1 + c.2 - 1 - i else c.1 + i)
  [pktWord 4 (lane % 8) frame,
   pack [(28, 0), (20, c.2 - 1), (12, py - (q.rows (lane / 8)).1), (2, fl.1), (1, fl.1), (0, fl.2)]]
  ++ xs.flatMap (fun px => (List.range q.g.vh).flatMap (fun j => (List.range q.g.vw).map (fun i =>
    sget 0 rays (rayNo q.g px py (if fl.1 = 1 then q.g.vw - 1 - i else i) (if fl.2 = 1 then q.g.vh - 1 - j else j)))))

/-- The STEP packet: step of every zone, cones, the tile's blanking. -/
def stepWords (k : Nat) (cones : List Nat) (blankT lane frame : Nat) : List Word :=
  pktWord 5 (lane % 8) frame ::
    (List.range 4).map (fun i => pack ((List.range 4).map (fun j => (24 - 8 * j, k * 16 + nth cones (4 * i + j)))))
  ++ [word blankT]

/-- The TEST packet. -/
def testWords (ray : Word) (cone step lane frame : Nat) : List Word :=
  [pktWord 6 (lane % 8) frame, ray, pack [(4, cone), (0, step)]]

/-- Address of cone table `c`. -/
def coneAddr (c : Nat) : Nat := Reg.EMIT_DRIVE_CONE_W0_BLANK_CLKS.at c

/-- The words of cone table `c` in a copy. -/
def coneWords (copy : RegFile) (c : Nat) : List Word := (List.range 18).map (fun i => wordOf copy (coneAddr c + i))

/-- The TABLE packet of a cone (R240). -/
def tableWords (copy : RegFile) (c lane frame : Nat) : List Word :=
  [pktWord 9 (lane % 8) frame,
   pack [(32, c), (24, rget copy Reg.EMIT_DRIVE_CONE_W0_BLANK_CLKS c), (16, rget copy Reg.EMIT_DRIVE_CONE_W0_PRECHG_CLKS c),
     (14, rget copy Reg.EMIT_DRIVE_CONE_W0_PLACE c)]] ++ (coneWords copy c).drop 1

/-- BLANK_T: the largest BLANK_CLKS among the cones of the 16 zones (R234). -/
def blankOf (copy : RegFile) (cones : List Nat) : Nat :=
  (cones.map (fun c => rget copy Reg.EMIT_DRIVE_CONE_W0_BLANK_CLKS c)).foldl max 0

/-- A drive table breaks R239 against the scan settings of a register file. -/
def coneBad (copy r : RegFile) (c : Nat) : Bool :=
  let b := rget copy Reg.EMIT_DRIVE_CONE_W0_BLANK_CLKS c
  let p := rget copy Reg.EMIT_DRIVE_CONE_W0_PRECHG_CLKS c
  let subs := if rget r Reg.EMIT_SCAN_CTRL_SUB32 0 ≠ 0 then 32 else 16
  b < p + 2 || b < 8 || rget r Reg.EMIT_SCAN_CTRL_LINE_CLKS 0 < b + 4096 / subs

/-! ### Pattern engines (R252) and auxiliary lamps (R253) -/

/-- Code `i` of a ray word: red, green, blue (R169). -/
def rayCode (w : Word) (i : Nat) : Nat := bits w (35 - 12 * i) (24 - 12 * i)

/-- The colour between A and B that breathing shows (R252). -/
def breathe (a b : Word) (phi period : Nat) : Word :=
  let w := 4096 * ((2 * phi : Int) - period).natAbs / period
  let c (i : Nat) : Nat := ((rayCode a i : Int) + (((rayCode b i : Int) - rayCode a i) * (4096 - w : Nat)) / 4096).toNat
  rayWord (c 0) (c 1) (c 2)

/-- The colour an engine forms for a hogel: its four words, the palette, the frame, the hogel and its context word 0;
without a hogel, the colour without regard to position (R253). -/
def engineColour (e : List Word) (palette : List Word) (frame : Nat) (at_ : Option (Nat × Nat × Word)) : Option Word :=
  let w0 := nthW e 0
  let a := nthW e 2
  let b := nthW e 3
  let period := max 1 (bits w0 21 8)
  let phi := frame % period
  match bits w0 35 33 with
  | 1 => some a
  | 2 => some (breathe a b phi period)
  | 3 =>
    match at_ with
    | none => some a
    | some (px, _, _) =>
      let x0 := bits (nthW e 1) 35 28
      let x1 := bits (nthW e 1) 27 20
      let span := x1 + 1 - x0
      let pos := phi * span / period
      let d : Int := if bit w0 31 then (x1 : Int) - px else (px : Int) - x0
      some (if ((d - pos) % (span : Int)) < bits w0 29 22 then a else b)
  | 4 =>
    match at_ with
    | none => some (nthW palette 0)
    | some (_, _, c) => some (nthW palette (if bit w0 30 then bits c 23 20 else bits c 19 16))
  | _ => none

/-- The engine draws on the array at this hogel. -/
def engineHere (e : List Word) (px py : Nat) : Bool :=
  let w1 := nthW e 1
  bit (nthW e 0) 32 && bits w1 35 28 ≤ px && px ≤ bits w1 27 20 && bits w1 19 12 ≤ py && py ≤ bits w1 11 4

/-- The pattern stage for one hogel: the word of the highest engine that draws there. -/
def patternWord (pats palette : List Word) (frame px py : Nat) (c : Word) : Option Word :=
  (List.range 4).foldl (fun (m : Option Word) e =>
    let ws := (pats.drop (4 * e)).take 4
    if engineHere ws px py then
      match engineColour ws palette frame (some (px, py, c)) with
      | some w => some w
      | none => m
    else m) none

/-- STEP and DUTY of an auxiliary channel for a 12-bit code (R253). -/
def auxDrive (code crossover stepMin : Nat) : Nat × Nat :=
  let v := code + code / 2048
  if crossover ≤ v then
    let st := cdiv v 512 - 1
    (st, v * 8 / (st + 1))
  else (stepMin, v * 8 / (stepMin + 1))

/-- The values of the auxiliary channels for a frame, from the pattern settings latched for it. -/
def State.auxFor (s : State) (pats palette : List Word) (frame : Nat) : List (Fld × Nat × Nat) :=
  (List.range 8).flatMap (fun j =>
    let e := s.r Reg.EMIT_AUX_ENGINE j
    let w := (engineColour ((pats.drop (4 * e)).take 4) palette frame none).getD 0
    let comp := s.r Reg.EMIT_AUX_COMP j
    let code := if comp = 3 then max (rayCode w 0) (max (rayCode w 1) (rayCode w 2)) else rayCode w comp
    let d := auxDrive code (s.r Reg.EMIT_AUX_CROSSOVER j) (s.r Reg.EMIT_AUX_STEP_MIN j)
    let on := s.rb Reg.EMIT_AUX_EN j
    [(Reg.EMIT_AUX_STEP, j, if on then d.1 else 0), (Reg.EMIT_AUX_DUTY, j, if on then d.2 else 0)])

/-- The PWM period of the auxiliary channels in nanoseconds: one subfield while the scan runs, else 250 µs. -/
def State.auxPwm (s : State) : Nat := if s.scanOn then s.period / s.geo.subs / 16384 else 250000

/-- An auxiliary channel is high-impedance: EN = 0, SAFE_DARK, die-class shutdown, greenware, banked and cold standby (R253, R404, R428,
R498, R514). -/
def State.auxOff (s : State) (j : Nat) : Bool :=
  !s.rb Reg.EMIT_AUX_EN j || s.cmd.dark || s.hearth.shutdown || s.start.cold || [0, 3, 4].contains (s.r Reg.MGMT_STAGE_STAGE)

/-- The auxiliary pins as they are driven: STEP + 1 (0: off), DUTY and the PWM period. -/
def State.driveAux (s : State) : State :=
  (List.range 8).foldl (fun (x : State) j =>
    let off := x.auxOff j
    x.emit .pin [100 + j] [word (if off then 0 else x.r Reg.EMIT_AUX_STEP j + 1), word (if off then 0 else x.r Reg.EMIT_AUX_DUTY j),
      word x.auxPwm]) s

/-- The auxiliary channels take the values of a frame. -/
def State.putAux (s : State) (pats palette : List Word) (frame : Nat) : State := (s.ws (s.auxFor pats palette frame)).driveAux

/-! ### The fault stage (R247–R249) -/

/-- The pattern words as the registers hold them. -/
def State.patWords (s : State) : List Word :=
  (List.range 16).map (fun i => wordOf s.regs (Reg.EMIT_PAT_W0_EFFECT.addr + i))

/-- The palette as the registers hold it. -/
def State.palWords (s : State) : List Word :=
  (List.range 16).map (fun i => wordOf s.regs (Reg.EMIT_PAT_PALETTE_COLOUR.addr + i))

/-- The groups that are dark. -/
def State.darkGroups (s : State) : List Nat := (List.range 16).filter (fun g => s.rb Reg.EMIT_FD_GROUP_DARK g)

/-- The fault set and pattern settings as they stand (R247). -/
def State.faultSet (s : State) : FaultSet where
  entries := s.emit_.faults
  failed := s.r Reg.EMIT_FAULT_STATUS_STRING_FAILED
  dark := s.darkGroups
  whole := s.darkGroups.any (fun g => s.rb Reg.EMIT_FD_GROUP_WHOLE g)
  pats := s.patWords
  palette := s.palWords

/-- The fault entries of the hogel at (px, py): view and colour of each. -/
def hogelFaults (q : Geo) (l : List FaultEntry) (px py : Nat) : List (Nat × Nat × Nat) :=
  let lane := q.laneOf px py
  l.filterMap (fun e =>
    if e.tth || e.lane ≠ lane then none
    else
      let r := q.rayAt lane e.addr
      if r.1 = px && r.2.1 = py then some (r.2.2.1, r.2.2.2, e.colour) else none)

/-- A string is failed in a mask. -/
def failedIn (mask lane : Nat) : Bool := bitsN mask lane lane = 1

/-- FILL over one hogel (R248): `w` gives its words by view; the word that view (vx, vy) is sent. -/
def fillWord (fs : List (Nat × Nat × Nat)) (share vw : Nat) (w : Nat → Nat → Word) (vx vy : Nat) : Word :=
  let bad (x c : Nat) : Bool := fs.contains (x, vy, c)
  let near (x : Nat) : List Nat := (if 0 < x then [x - 1] else []) ++ (if x + 1 < vw then [x + 1] else [])
  let code (c : Nat) : Nat :=
    if bad vx c then 0
    else
      (near vx).foldl (fun a x =>
        if bad x c then
          let n := ((near x).filter (fun y => !bad y c)).length
          min 4095 (a + rayCode (w x vy) c * share * (3 - n) / 256)
        else a) (rayCode (w vx vy) c)
  rayWord (code 0) (code 1) (code 2)

/-- Pattern and fault stage over one hogel of a frame's image (R248). -/
def stageHogel (q : Geo) (fs : FaultSet) (share frame : Nat) (ctx : List (Nat × Word)) (px py : Nat)
    (rays : List (Nat × Word)) : List (Nat × Word) :=
  let c := ctxWord ctx (py * q.g.hw + px) 0
  let views := (List.range q.g.vw).flatMap (fun x => (List.range q.g.vh).map (fun y => (x, y)))
  let pat := patternWord fs.pats fs.palette frame px py c
  let src (x y : Nat) : Word := pat.getD (sget 0 rays (rayNo q.g px py x y))
  let hf := hogelFaults q fs.entries px py
  let failed := failedIn fs.failed (q.laneOf px py)
  let policy := bits c 15 14
  let out (x y : Nat) : Word :=
    if fs.whole || fs.dark.contains (bits c 19 16) then 0
    else if policy = 1 && !hf.isEmpty then fillWord hf share q.g.vw src x y
    else if policy = 2 && (failed || !hf.isEmpty) then 0
    else src x y
  views.foldl (fun l v => sset 0 l (rayNo q.g px py v.1 v.2) (out v.1 v.2)) rays

/-! ### Signatures (R222) -/

/-- A 36-bit word rotated left. -/
def rotl36 (w : Word) (n : Nat) : Nat :=
  let k := n % 36
  (w.toNat * 2 ^ k + w.toNat / 2 ^ (36 - k)) % 2 ^ 36

/-- SIG of a box of hogels of an image: columns x0 on, rows y0 on. -/
def sigBox (g : Grid) (rays : List (Nat × Word)) (x0 y0 w h : Nat) : Nat :=
  ((List.range h).flatMap (fun y => (List.range w).flatMap (fun x => (List.range g.vw).flatMap (fun i =>
    (List.range g.vh).map (fun j =>
      rotl36 (sget 0 rays (rayNo g (x0 + x) (y0 + y) i j)) (x0 + x + (y0 + y) + i + j)))))).sum % 2 ^ 36

/-- Cell rows and columns of a head. -/
def Geo.cellRows (q : Geo) (h : Nat) : Nat := cdiv (q.rows h).2 8
def Geo.cellCols (q : Geo) : Nat := cdiv q.g.hw 8

/-- The key of a cell. -/
def cellKey (h row col : Nat) : Nat := 65536 * h + 256 * row + col

/-- The hogels of a cell: first column, first row, width, height. -/
def Geo.cell (q : Geo) (h row col : Nat) : Nat × Nat × Nat × Nat :=
  let r := q.rows h
  (8 * col, r.1 + 8 * row, min 8 (q.g.hw - 8 * col), min 8 (r.2 - 8 * row))

/-- The signature of a cell of an image. -/
def Geo.cellSig (q : Geo) (rays : List (Nat × Word)) (h row col : Nat) : Nat :=
  let c := q.cell h row col
  sigBox q.g rays c.1 c.2.1 c.2.2.1 c.2.2.2

/-- The hogels of draw region `i` that exist: first column, first row, width, height (R222). -/
def State.regionBox (s : State) (q : Geo) (i : Nat) : Nat × Nat × Nat × Nat :=
  let r := if q.heads.contains (i / 16) then q.rows (i / 16) else (0, 0)
  let x0 := s.es Reg.EMIT_DRAW_REGION_W0_X0 i
  let x1 := s.es Reg.EMIT_DRAW_REGION_W0_X1 i + 1
  let y0 := max (s.es Reg.EMIT_DRAW_REGION_W0_Y0 i) r.1
  let y1 := min (s.es Reg.EMIT_DRAW_REGION_W0_Y1 i + 1) (r.1 + r.2)
  (x0, y0, min x1 q.g.hw - x0, y1 - y0)

end Sys2Proof.Machine
end

