-- ==== Sys2Proof/Machine/EmitOps.lean ====
section
/-! DEFINITION. EMIT at work (R205–R253): the blanking of the heads, faults and groups, the release of a frame to the lanes,
rectangles, swap and abandon, read-back. -/

namespace Sys2Proof.Machine

/-! ### Stages -/

/-- The glost clock of the calibration unit (R191, R201) runs on while the stage is `k`: it counts in glost alone. -/
def State.glostClock (s : State) (k : Nat) : State :=
  { s with cal := { s.cal with
      glost := s.cal.glost + (match s.cal.glostAt with | some t => s.now - t | none => 0)
      glostAt := if k = 2 then some s.now else none } }

/-- A change of stage (R498). -/
def State.setStage (s : State) (k : Nat) : State :=
  if s.stage = k then s else ((s.glostClock k).w Reg.MGMT_STAGE_STAGE k).raise 32 k

/-- Glost is entered (R501): the stage, TRIES of the boot record, the time taken, event 41 on TB2 after TIME_WAIT; a worker's
calibration run becomes pending (R191). From banked the stage alone returns (R515). -/
def State.enterGlost (s : State) : State :=
  if s.stage = 2 then s
  else if s.stage = 3 then { s with start := { s.start with exitTick := none } }.setStage 2
  else
    let s := { s with sec := { s.sec with boot := { s.sec.boot with tries := 0 } } }
    let s := (s.w Reg.MGMT_STAGE_GLOST_MS (satN (2 ^ 20 - 1) ((s.now - s.start.began) / 100000))).setStage 2
    let s := s.raiseIf (s.rb Reg.MGMT_STAGE_TIME_WAITED && s.rb Reg.TIME_TICK_STATUS_FREE) 41 0
    if s.isWorker then s.calPend else s

/-! ### Blanking (R234, R236, R250) -/

/-- Heads that serve a hogel of a fail-dark group. -/
def State.groupHeads (s : State) (g : Nat) : List Nat :=
  let q := s.geo
  q.heads.filter (fun h =>
    let r := q.rows h
    (List.range (r.2 * q.g.hw)).any (fun i => bits (ctxWord s.glaze.ctx (r.1 * q.g.hw + i) 0) 19 16 = g))

/-- A head is inactive: it is not in use, or all its lanes are off (R234, R236). -/
def State.headOff (s : State) (h : Nat) : Bool :=
  !s.geo.heads.contains h || (List.range s.geo.nl).all (fun i => s.r Reg.LINK_LANE_W1_STATE (12 + 8 * h + i) = 0)

/-- COM_BLANK of a head is held high whatever the scan (R236, R250, R370, R428, R505). -/
def State.held (s : State) (h : Nat) : Bool :=
  !s.scanOn || s.stage = 0 || s.stage = 3 || s.stage = 4 || s.pins.aonBlank || s.emit_.holdWhole || s.cmd.dark
  || s.time.blank || s.start.cold || s.headOff h || s.emit_.darkHold
  || (List.range 16).any (fun g => s.rb Reg.EMIT_FD_GROUP_BLANKING g && (s.groupHeads g).contains h)

/-- The blanking pins follow. -/
def State.driveBlank (s : State) : State :=
  let b := [s.held 0, s.held 1]
  if b = s.emit_.blank then s
  else
    let s := { s with emit_ := { s.emit_ with blank := b } }
    (List.range 2).foldl (fun (x : State) h => x.emit .pin [90 + h] [word (b2n (b.getD h true))]) s

/-- SAFE_DARK and a change of a WHOLE group take effect at a line start (R250, R428). -/
def State.lineStart (s : State) : State :=
  let dark := s.cmd.darkNext.getD s.cmd.dark
  let changed := dark ≠ s.cmd.dark
  let whole := s.darkGroups.any (fun g => s.rb Reg.EMIT_FD_GROUP_WHOLE g)
  let s := { s with cmd := { s.cmd with dark := dark, darkNext := none }, emit_ := { s.emit_ with holdWhole := whole } }
  (if changed then s.driveAux else s).driveBlank

/-! ### Faults and groups (R243–R249) -/

/-- Hogels of a group with FAULT_POLICY = DARK_GROUP that have a fault entry or are served by a failed string (R249). -/
def State.groupCauses (s : State) (g : Nat) : Nat :=
  let q := s.geo
  ((List.range (q.g.hw * q.g.hh)).filter (fun i =>
    let c := ctxWord s.glaze.ctx i 0
    let px := i % q.g.hw
    let py := i / q.g.hw
    bits c 19 16 = g && bits c 15 14 = 3
      && (failedIn (s.r Reg.EMIT_FAULT_STATUS_STRING_FAILED) (q.laneOf px py)
          || !(hogelFaults q s.emit_.faults px py).isEmpty))).length

/-- One group held against its causes (R249, R250): dark with event 870 and the fallback's timer, or back with LATCH = 0. -/
def State.evalGroup (s : State) (g : Nat) : State :=
  let n := s.groupCauses g
  let s := s.w Reg.EMIT_FD_GROUP_FAULTS (satN 65535 n) g
  let dark := s.rb Reg.EMIT_FD_GROUP_DARK g
  if n ≠ 0 && !dark then
    ({ s.w Reg.EMIT_FD_GROUP_DARK 1 g with
        emit_ := { s.emit_ with fallback := s.emit_.fallback ++ [(g, s.now)] } }).raise 870 g
  else if n = 0 && dark && !s.rb Reg.EMIT_FD_GROUP_LATCH g then
    { s.ws [(Reg.EMIT_FD_GROUP_DARK, g, 0), (Reg.EMIT_FD_GROUP_BLANKING, g, 0)] with
        emit_ := { s.emit_ with fallback := s.emit_.fallback.filter (fun p => p.1 ≠ g) } }
  else s

/-- Every group held against its causes. -/
def State.evalGroups (s : State) : State := (List.range 16).foldl (fun (x : State) g => x.evalGroup g) s

/-- A string is failed (R246): event 869 once. -/
def State.failString (s : State) (lane : Nat) : State :=
  let m := s.r Reg.EMIT_FAULT_STATUS_STRING_FAILED
  if failedIn m lane then s else (s.w Reg.EMIT_FAULT_STATUS_STRING_FAILED (m + 2 ^ lane)).raise 869 lane

/-- The registers that show the fault table. -/
def State.showFaults (s : State) : State :=
  s.ws [(Reg.EMIT_FAULT_STATUS_ENTRIES, 0, s.emit_.faults.length),
    (Reg.EMIT_FAULT_STATUS_PROBING, 0, b2n (s.emit_.probes.any (·.sure)))]

/-- Two entries are of one channel. -/
def FaultEntry.same (a b : FaultEntry) : Bool :=
  a.lane = b.lane && a.colour = b.colour && a.tth = b.tth && a.addr = b.addr

/-- A channel found faulty (R243, R245, R246): a new entry with its event, or a full table. -/
def State.recordFault (s : State) (e : FaultEntry) (event detail : Nat) : State :=
  if s.emit_.faults.any (e.same) then
    { s with emit_ := { s.emit_ with faults := s.emit_.faults.map (fun (x : FaultEntry) =>
      if e.same x then { x with clean := 0 } else x) } }
  else if 4096 ≤ s.emit_.faults.length then (s.raise 866 e.lane).failString e.lane
  else ({ s with emit_ := { s.emit_ with faults := s.emit_.faults ++ [e] } }).raise event detail

/-- The word of a fault entry (R246). -/
def FaultEntry.word (e : FaultEntry) : Word :=
  pack [(32, e.lane), (30, e.colour), (28, e.kind), (27, b2n e.tth), (0, e.addr)]

/-- The image of EMIT_FAULT_READ (R251). -/
def State.faultImage (s : State) : List Word := s.emit_.faults.map FaultEntry.word

/-- The entries of a complete report of a string (R243): listed channels, and those missing from it. -/
def State.takeReport (s : State) (lane : Nat) (es : List FaultEntry) (past : Bool) : State :=
  let n := s.r Reg.EMIT_FAULT_CTRL_CLEAR_MAPS
  let s := es.foldl (fun (x : State) e => x.recordFault e 864 0) s
  let aged := s.emit_.faults.map (fun (e : FaultEntry) =>
    if e.lane = lane && !es.any (e.same) then { e with clean := e.clean + 1 } else e)
  let gone (e : FaultEntry) : Bool := n ≠ 0 && n ≤ e.clean && e.lane = lane
  let cleared := (aged.filter gone).length
  let s := { s with emit_ := { s.emit_ with
    faults := aged.filter (fun e => !gone e)
    missed := setNth s.emit_.missed lane 0
    reported := setNth s.emit_.reported lane true } }
  let s := s.raises (List.replicate cleared (865, 0))
  let s := if past then (s.raise 868 0).failString lane else s
  s.showFaults.evalGroups

/-- A FAULT_MAP packet (R242, R243). -/
def State.faultMap (s : State) (ws : List Word) : State :=
  let lane := bits (nthW ws 0) 31 28
  let w1 := nthW ws 1
  let part := bits w1 15 13
  let parts := bits w1 12 10 + 1
  let past := bit w1 9
  let count := bits w1 4 0
  let es := ((ws.drop 2).take count).map (fun w =>
    (⟨lane, bits w 35 34, bits w 33 32, bit w 31, bits w 24 0, 0⟩ : FaultEntry))
  if bits (nthW ws 0) 35 32 ≠ 2 ∨ !s.geo.lanes.contains lane ∨ s.es Reg.EMIT_HEAD_CTRL_ECHO_EN = 0 then s
  else
    let old := (s.emit_.maps.find? (fun m => m.1 = lane)).getD (lane, [], [])
    let got := if old.2.1.contains part then old.2.1 else part :: old.2.1
    let all := if old.2.1.contains part then old.2.2 else old.2.2 ++ es
    let others := s.emit_.maps.filter (fun m => m.1 ≠ lane)
    if parts ≤ got.length then
      { s with emit_ := { s.emit_ with maps := others } }.takeReport lane all past
    else { s with emit_ := { s.emit_ with maps := others ++ [(lane, got, all)] } }

/-- A string's report of the period has not come whole (R243, R246). -/
def State.reportMissing (s : State) (lane : Nat) : State :=
  let n := nth s.emit_.missed lane + 1
  let s := { s with emit_ := { s.emit_ with
    missed := setNth s.emit_.missed lane n
    reported := setNth s.emit_.reported lane true
    maps := s.emit_.maps.filter (fun m => m.1 ≠ lane) } }.raise 867 0
  if 3 ≤ n then (s.failString lane).evalGroups else s

/-- Opcode 0xB02 (R251). -/
def hFaultClear : Handler := fun _ ps s =>
  let all := bit (nthW ps 0) 16
  let s := if all then
      { s.w Reg.EMIT_FAULT_STATUS_STRING_FAILED 0 with emit_ := { s.emit_ with
        faults := [], missed := List.replicate 16 0, badEcho := List.replicate 16 0 } }
    else s
  let named := (List.range 16).filter (fun g => bit (nthW ps 0) g)
  let s := named.foldl (fun (x : State) g =>
    if x.groupCauses g = 0 then
      { x.ws [(Reg.EMIT_FD_GROUP_DARK, g, 0), (Reg.EMIT_FD_GROUP_BLANKING, g, 0)] with
        emit_ := { x.emit_ with fallback := x.emit_.fallback.filter (fun p => p.1 ≠ g) } }
    else x) s
  (.done, s.showFaults.evalGroups)

/-- The fault set of frame `n` latched (R247). -/
def State.latchFaults (s : State) (n : Nat) : State :=
  { s with emit_ := { s.emit_ with
    latched := (s.emit_.latched.filter (fun p => p.1 ≠ n && n < p.1 + 4)) ++ [(n, s.faultSet)] } }

/-- The fault set latched for a frame; the present one where none was latched for it. -/
def State.faultsFor (s : State) (n : Nat) : FaultSet :=
  ((s.emit_.latched.find? (fun p => p.1 = n)).map Prod.snd).getD s.faultSet

/-! ### Invalid cells (R216) -/

/-- Cells whose driver-image signature no longer stands: a frame in work must hold them against the image again. -/
def State.dropCells (s : State) (drop : Nat → Bool) : State :=
  { s with
    emit_ := { s.emit_ with image := s.emit_.image.filter (fun p => !drop p.1) }
    fire := { s.fire with frames := s.fire.frames.map (fun (f : FireFrame) =>
      { f with seen := f.seen.filter (fun k => !drop k) }) } }

/-- Every cell that meets a string's columns. -/
def Geo.stringCell (q : Geo) (lane key : Nat) : Bool :=
  let c := q.cols (lane % 8)
  let col := key % 256
  key / 65536 = lane / 8 && 8 * col < c.1 + c.2 && c.1 < 8 * col + 8

/-- The cells of a string are invalidated. -/
def State.dropString (s : State) (lane : Nat) : State := s.dropCells (s.geo.stringCell lane)

/-! ### Rectangles (R217–R219) -/

/-- Two boxes share a hogel. -/
def Rect.meets (a b : Rect) : Bool :=
  a.head = b.head && a.x0 < b.x0 + b.w && b.x0 < a.x0 + a.w && a.y0 < b.y0 + b.h && b.y0 < a.y0 + a.h

/-- One box covers another. -/
def Rect.covers (a b : Rect) : Bool :=
  a.head = b.head && a.frame = b.frame && a.x0 ≤ b.x0 && b.x0 + b.w ≤ a.x0 + a.w && a.y0 ≤ b.y0 && b.y0 + b.h ≤ a.y0 + a.h

/-- The lanes a box uses with the payload words each must be sent. -/
def Geo.rectLanes (q : Geo) (head x0 w h : Nat) : List (Nat × Nat) :=
  ((List.range q.nl).map (fun i => 8 * head + i)).filterMap (fun lane =>
    let p := q.part lane x0 w
    if p.2 = 0 then none else some (lane, p.2 * h * q.g.vw * q.g.vh))

/-- The registers that show rectangles in flight. -/
def State.showRects (s : State) : State :=
  let rs := s.emit_.rects
  let busy (r : Rect) : Bool :=
    rs.any (fun x => x.id < r.id && x.tag.isSome && x.meets r && x.lanes.any (fun l => r.lanes.any (fun m => m.1 = l.1)))
  s.ws ((List.range 16).flatMap (fun i =>
    match rs.find? (fun r => r.head = i / 8 && r.tag = some (i % 8)) with
    | none => [(Reg.EMIT_RECT_W0_VALID, i, 0), (Reg.EMIT_RECT_W0_WAITING, i, 0), (Reg.EMIT_RECT_W1_WORDS_LEFT, i, 0)]
    | some r =>
      [(Reg.EMIT_RECT_W0_VALID, i, 1), (Reg.EMIT_RECT_W0_WAITING, i, b2n (busy r)), (Reg.EMIT_RECT_W0_X0, i, r.x0),
       (Reg.EMIT_RECT_W0_W_M1, i, r.w - 1), (Reg.EMIT_RECT_W0_Y0, i, r.y0), (Reg.EMIT_RECT_W0_H_M1, i, r.h - 1),
       (Reg.EMIT_RECT_W1_WORDS_LEFT, i, (r.lanes.map Prod.snd).foldl max 0), (Reg.EMIT_RECT_W1_FRAME_LO, i, r.frame)])
    ++ [(Reg.EMIT_SWAP_STATUS_INFLIGHT_A, 0, (rs.filter (fun r => r.head = 0 && r.tag.isSome)).length),
        (Reg.EMIT_SWAP_STATUS_INFLIGHT_B, 0, (rs.filter (fun r => r.head = 1 && r.tag.isSome)).length)])

/-- The common bounding box of rectangles of one head and frame. -/
def mergeRects (q : Geo) (r : Rect) (l : List Rect) : Rect :=
  let x0 := (l.map (·.x0)).foldl min r.x0
  let y0 := (l.map (·.y0)).foldl min r.y0
  let x1 := (l.map (fun x => x.x0 + x.w)).foldl max (r.x0 + r.w)
  let y1 := (l.map (fun x => x.y0 + x.h)).foldl max (r.y0 + r.h)
  { r with x0 := x0, y0 := y0, w := x1 - x0, h := y1 - y0, lanes := q.rectLanes r.head x0 (x1 - x0) (y1 - y0) }

/-- The open transfer packet of a superseded rectangle ends on its lane at the next superblock boundary (R219). -/
def LaneTx.endRect (t : LaneTx) (ids : List Nat) : LaneTx :=
  { t with open_ := t.open_.filter (fun o => !o.rect.any (fun i => ids.contains i)) }

/-- A rectangle is formed (R219): it supersedes those in flight that it covers, takes the place of the first of them and a tag; else it
takes a tag or waits. When a ninth would wait, all that wait in the head become one with it. -/
def State.addRect (s : State) (r : Rect) : State :=
  let r := { r with id := s.emit_.formed }
  let rs := s.emit_.rects
  let covered (x : Rect) : Bool := x.tag.isSome && r.covers x
  let old := (rs.filter covered).map (·.id)
  let d := r.frame % 2 ^ 28
  let s := s.raises (old.map (fun _ => (836, d)))
  let keep := rs.filter (fun x => !covered x)
  let waiting := keep.filter (fun x => x.tag.isNone && x.head = r.head)
  let tag := if waiting.isEmpty || !old.isEmpty then freeTag keep r.head else none
  let before := rs.takeWhile (fun x => !covered x)
  let res : List Rect × Bool :=
    match tag with
    | some t =>
      if old.isEmpty then (keep ++ [{ r with tag := some t }], false)
      else (before ++ { r with tag := some t } :: keep.drop before.length, false)
    | none =>
      if waiting.length < 8 then (keep ++ [{ r with tag := none }], false)
      else (keep.filter (fun x => !waiting.contains x) ++ [{ mergeRects s.geo r waiting with tag := none }], true)
  ({ s with emit_ := { s.emit_ with
      formed := s.emit_.formed + 1, rects := giveTags res.1, tx := s.emit_.tx.map (fun (t : LaneTx) => t.endRect old) } }.raiseIf res.2 837 d).showRects

/-- Every hogel row of a cell row lies in bands that have been fired (R217): `done` are the physical hogels fired. -/
def rowsFinal (g : Grid) (f : FireFrame) (y0 h : Nat) : Bool :=
  (List.range h).all (fun y => (List.range g.hw).all (fun x =>
    let hy := (sceneOf g x (y0 + y) 0 0).2.1
    match f.bands.find? (fun b => (bandSpan f.rows g.sh b.idx).1 ≤ hy && hy ≤ (bandSpan f.rows g.sh b.idx).2) with
    | some b => b.fired && b.released
    | none => false))

/-- A band has hogels in a cell row. -/
def bandTouches (g : Grid) (f : FireFrame) (b : Nat) (y0 h : Nat) : Bool :=
  let sp := bandSpan f.rows g.sh b
  (List.range h).any (fun y => (List.range g.hw).any (fun x =>
    let hy := (sceneOf g x (y0 + y) 0 0).2.1
    sp.1 ≤ hy && hy ≤ sp.2))

/-- The cell row that REFRESH_EVERY marks in a head for a frame (R218). -/
def State.refreshRow (s : State) (q : Geo) (h n : Nat) : Option Nat :=
  let f := s.r Reg.EMIT_UPDATE_CTRL_REFRESH_EVERY
  if f = 0 || n % f ≠ 0 || q.cellRows h = 0 then none else some (n / f % q.cellRows h)

/-- A cell is dirty in a frame (R216, R218, R42). -/
def State.dirty (s : State) (q : Geo) (f : FireFrame) (h row col : Nat) : Bool :=
  let k := cellKey h row col
  !s.rb Reg.EMIT_UPDATE_CTRL_PARTIAL_EN || s.refreshRow q h f.frame = some row || f.rected.contains k
  || sfind s.emit_.image k ≠ some (q.cellSig f.rays h row col)

/-- The cell rows that a released band makes final are sent (R217): one rectangle a head, the bounding box of their dirty
cells. -/
def State.rectsFor (s : State) (f : FireFrame) (b : Nat) : FireFrame × State :=
  let q := s.geo
  q.heads.foldl (fun (p : FireFrame × State) h =>
    let rows := (List.range (q.cellRows h)).filter (fun row =>
      let c := q.cell h row 0
      bandTouches q.g p.1 b c.2.1 c.2.2.2 && rowsFinal q.g p.1 c.2.1 c.2.2.2)
    let cells := rows.flatMap (fun row => (List.range q.cellCols).map (fun col => (row, col)))
    let hot := cells.filter (fun c => p.2.dirty q p.1 h c.1 c.2)
    let keys := cells.map (fun c => cellKey h c.1 c.2)
    let f := { p.1 with seen := keys ++ p.1.seen.filter (fun k => !keys.contains k) }
    match hot with
    | [] => (f, p.2)
    | c :: t =>
      let r0 := (t.map Prod.fst).foldl min c.1
      let r1 := (t.map Prod.fst).foldl max c.1
      let c0 := (t.map Prod.snd).foldl min c.2
      let c1 := (t.map Prod.snd).foldl max c.2
      let a := q.cell h r0 c0
      let z := q.cell h r1 c1
      let w := z.1 + z.2.2.1 - a.1
      let ht := z.2.1 + z.2.2.2 - a.2.1
      let boxed := (List.range (r1 + 1 - r0)).flatMap (fun i => (List.range (c1 + 1 - c0)).map (fun j => cellKey h (r0 + i) (c0 + j)))
      ({ f with rected := boxed ++ f.rected.filter (fun k => !boxed.contains k) },
       p.2.addRect ⟨h, none, f.frame, a.1, a.2.1, w, ht, q.rectLanes h a.1 w ht, 0⟩)) (f, s)

/-! ### The superblocks of an emitter lane (R219, R226, R227) -/

/-- A packet that fits in its HEAD superblock waits on a lane behind the others of its kind. -/
def State.putShort (s : State) (lane : Nat) (ws : List Word) : State :=
  s.setTx lane { s.laneTx lane with short := (s.laneTx lane).short ++ [ws] }

/-- SWAP and ABANDON leave at the next superblock boundary, before all else (R211). -/
def State.putFirst (s : State) (lane : Nat) (ws : List Word) : State :=
  s.setTx lane { s.laneTx lane with short := ws :: (s.laneTx lane).short }

/-- A ZONEMAP or ROW packet waits on a lane. -/
def State.putLong (s : State) (lane : Nat) (ws : List Word) : State :=
  s.setTx lane { s.laneTx lane with long := (s.laneTx lane).long ++ [ws] }

/-- A packet of a frame waits on its lane, by its kind (R227). -/
def State.putPacket (s : State) (lane : Nat) (ws : List Word) : State :=
  if [2, 3, 4].contains (bits (nthW ws 0) 35 32) then s.putLong lane ws else s.putShort lane ws

/-- Words of an open transfer packet have left: payload counts toward read-back (R224); a rectangle sent on every lane it uses frees its
tag (R219). -/
def State.sentPart (s : State) (lane : Nat) (o : OpenPkt) (ws : List Word) (last : Bool) : State :=
  let s := if o.pay then
      { s with emit_ := { s.emit_ with sent := setNth s.emit_.sent lane (s.emit_.sent.getD lane [] ++ ws) } }
    else s
  match o.rect with
  | none => s
  | some id =>
    let rs := s.emit_.rects.map (fun (r : Rect) =>
      if r.id ≠ id then r
      else { r with lanes := if last then r.lanes.filter (fun l => l.1 ≠ lane)
        else r.lanes.map (fun l => if l.1 = lane then (l.1, l.2 - ws.length) else l) })
    { s with emit_ := { s.emit_ with rects := giveTags (rs.filter (fun r => !r.lanes.isEmpty)) } }.showRects

/-- A transfer packet begins on a lane with its HEAD superblock (R227). -/
def State.beginLong (s : State) (lane : Nat) (rect : Option Nat) (p : List Word) : (Nat × List Word) × State :=
  let ty := bits (nthW p 0) 35 32
  let o : OpenPkt := ⟨bits (nthW p 0) 27 0, rect, ty = 3 || ty = 4, p.drop 32⟩
  let last := o.left.isEmpty
  ((0x066, p.take 32),
    (s.setTx lane { s.laneTx lane with open_ := if last then none else some o }).sentPart lane o ((p.take 32).drop 2) last)

/-- The rectangle whose packet a lane sends next (R219): the first in order that overlaps none formed before it and still to be sent on
the lane. -/
def State.nextRect (s : State) (lane : Nat) : Option Rect :=
  let mine := s.emit_.rects.filter (fun r => r.tag.isSome && r.lanes.any (fun l => l.1 = lane))
  mine.find? (fun r => !mine.any (fun x => x.id < r.id && x.meets r))

/-- The cell that holds a ray. -/
def Geo.rayCell (q : Geo) (n : Nat) : Nat :=
  let i := n / (q.g.vw * q.g.vh)
  let h := q.headOf (i / q.g.hw)
  cellKey h ((i / q.g.hw - (q.rows h).1) / 8) (i % q.g.hw / 8)

/-- Sectors of the ray buffer, by their place in the frame's image, that the packet of a rectangle reads on a lane (R215). -/
def State.rectReads (s : State) (lane : Nat) (r : Rect) (e : ReadErr) : Bool :=
  let q := s.geo
  let p := q.part lane r.x0 r.w
  (List.range 7).any (fun k =>
    let i := (7 * e.pos + k) / (q.g.vw * q.g.vh)
    p.1 ≤ i % q.g.hw && i % q.g.hw < p.1 + p.2 && r.y0 ≤ i / q.g.hw && i / q.g.hw < r.y0 + r.h)

/-- The RECT packet of a lane, its payload as the image of its frame stands now (R215, R228); code 0 for the words of sectors that failed
(R393). -/
def State.rectPacket (s : State) (lane : Nat) (r : Rect) (bad : List Nat) : List Word :=
  let q := s.geo
  let p := q.part lane r.x0 r.w
  let all := ((s.fireFrame r.frame).map (·.rays)).getD []
  let rays := (bad.flatMap (fun k => (List.range 7).map (fun i => 7 * k + i))).foldl (fun l n => sset 0 l n 0) all
  rectWords q lane r.frame (r.tag.getD 0) r.x0 r.y0 r.w r.h ++ rectPayload q rays p.1 r.y0 p.2 r.h

/-- The next superblock of an emitter lane, its marker type and data words, and the state after it (R226, R227): a short packet, which
may stand between two superblocks of an open transfer packet, then the open packet, then those that wait in their order; IDLE when
nothing does. `errs` are the reads of the ray buffer that fail as a rectangle's packet is formed (R393). -/
def State.nextBlock (s : State) (lane : Nat) (errs : List ReadErr) : (Nat × List Word) × State :=
  let t := s.laneTx lane
  match t.short, t.open_, t.long with
  | p :: rest, _, _ => ((0x066, p), s.setTx lane { t with short := rest })
  | [], some o, _ =>
    let rest := o.left.drop 32
    ((0x099, o.left.take 32),
      (s.setTx lane { t with open_ := if rest.isEmpty then none else some { o with left := rest } }).sentPart lane o (o.left.take 32)
        rest.isEmpty)
  | [], none, p :: rest => (s.setTx lane { t with long := rest }).beginLong lane none p
  | [], none, [] =>
    match s.nextRect lane with
    | some r =>
      let f := s.readFails 2 (errs.filter (s.rectReads lane r))
      let bad := f.2.map (·.pos)
      let keys := bad.flatMap (fun k => (List.range 7).map (fun i => s.geo.rayCell (7 * k + i)))
      let s := if bad.isEmpty then f.1 else f.1.dropCells keys.contains
      s.beginLong lane (some r.id) (s.rectPacket lane r bad)
    | none => ((0x055, []), s)

/-! ### What a frame sends (R220, R231, R240, R241) -/

/-- The Glaze set's step as it is sent (R241): before glost at most 4, event 872 once a stage. -/
def State.clampStep (s : State) (k : Nat) : Nat × State :=
  if s.stage = 2 || k ≤ 4 then (k, s)
  else if s.emit_.clampStage = some s.stage then (4, s)
  else (4, { s with emit_ := { s.emit_ with clampStage := some s.stage } }.raise 872 0)

/-- CONFIG and ZONEMAP of a lane as one list, the frame number left out. -/
def State.laneConfig (s : State) (lane : Nat) : List Word :=
  (configWords s.geo s.emit_.scan (s.rb Reg.CAL_TTH_TTH_EN) lane 0) ++ (zoneWords s.geo s.glaze.ctx lane 0)

/-- CONFIG, ZONEMAP and the 16 TABLE packets to a lane (R231, R240): its cells are invalid, its report period begins anew. -/
def State.sendConfig (s : State) (copy : RegFile) (lane n : Nat) : State :=
  let q := s.geo
  let s := (s.putShort lane (configWords q s.emit_.scan (s.rb Reg.CAL_TTH_TTH_EN) lane n)).putLong lane
    (zoneWords q s.glaze.ctx lane n)
  let s := (List.range 16).foldl (fun (x : State) c => x.putShort lane (tableWords copy c lane n)) s
  { s with emit_ := { s.emit_ with
    cfgNew := (s.emit_.cfgNew.filter (fun (p : Nat × List Word) => p.1 ≠ lane)) ++ [(lane, s.laneConfig lane)]
    periods := setNth s.emit_.periods lane 0 } }.dropString lane

/-- The packets of frame `n` beside its ray words (R220, R228, R240): CONFIG where it has changed, tables, STEP. -/
def State.sendSetup (s : State) (copy : RegFile) (cones : List Nat) (k n : Nat) : State :=
  let q := s.geo
  let step := s.clampStep k
  let s := step.2
  let blank := blankOf copy cones
  let fresh := q.lanes.filter (fun l => s.start.resend || s.laneConfig l ≠ (s.emit_.config.getD l []))
  let s := fresh.foldl (fun (x : State) l => x.sendConfig copy l n) s
  let cones' := (List.range 16).filter (fun c =>
    match s.emit_.tables with
    | some t => coneWords t c ≠ coneWords copy c
    | none => true)
  let s := (q.lanes.filter (fun l => !fresh.contains l)).foldl (fun (x : State) l =>
    cones'.foldl (fun (y : State) c => y.putShort l (tableWords copy c l n)) x) s
  let s := q.lanes.foldl (fun (x : State) l => x.putShort l (stepWords step.1 cones blank l n)) s
  { s with
    emit_ := { s.emit_ with tabNew := some copy }
    start := { s.start with resend := false } }

/-- The frame that the lanes serve (R41, R52, R220): the one that awaits its swap, else the frame being fired. -/
def State.laneFrame (s : State) : Nat := s.emit_.await.getD s.curFrame

/-- A WAIT slot of the frame is still undecided (R38): one decided at the frame's decision until then, a live one until a row of its
picture is decoded or the cutoff has come (R47; DEDUCED, assumption log 24). -/
def State.waitPending (s : State) (f : FireFrame) : Bool :=
  (slotSet f.copy).any (fun i =>
    slotPolicy f.copy i = 2 && !(f.uses.getD i SlotUse.fresh).dropped
    && (if f.rowSlot i then !f.cut && s.linesFor f i = 0 && !s.overLimit f.copy i else !f.decided))

/-- A frame may use the lanes (R38, R39, R220): no WAIT slot of it is undecided, it is not repeated, and no older frame awaits its
swap. -/
def State.lanesFree (s : State) (f : FireFrame) : Bool :=
  f.frame = s.laneFrame && !s.waitPending f && !f.repeated && !f.stopped && s.time.ticked

/-- What a band sends is formed: rectangles, or ROW packets in direct firing mode (R217, R221). A band that completes before the swap of
the frame before it forms its rectangles at that swap, as run-ahead output does (R39): only then are the driver-image signatures those
that its cells must be held against (R216; DEDUCED, assumption log 23). -/
def State.releaseBand (s : State) (n b : Nat) : State :=
  match s.fireFrame n with
  | none => s
  | some f =>
    let f := { f with bands := f.bands.map (fun (x : Band) => if x.idx = b then { x with released := true } else x) }
    if s.direct then
      let q := s.geo
      let sp := bandSpan f.rows q.g.sh b
      let rows := (List.range (sp.2 + 1 - sp.1)).map (fun i => (physOf q.g 0 (sp.1 + i) 0 0).2.1)
      let ps := rows.flatMap (fun py =>
        ((List.range q.nl).map (fun i => 8 * q.headOf py + i)).map (fun l => (l, rowWords q f.rays l n py)))
      ps.foldl (fun (x : State) p => x.putPacket p.1 p.2) (s.setFrame f)
    else
      let r := s.rectsFor f b
      r.2.setFrame r.1

/-- What a frame holds back goes to the lanes as soon as it may (R39, R220). -/
def State.release (s : State) : State :=
  let n := s.laneFrame
  match s.fireFrame n with
  | none => s
  | some f =>
    if !s.lanesFree f then s
    else
      let s :=
        match f.prep, f.set with
        | false, some g => (s.sendSetup f.copy (g.zones.map (fun (z : ZoneSet) => z.cone)) g.k n)
        | _, _ => s
      let s := f.packets.foldl (fun (x : State) p => x.putPacket p.1 p.2) s
      let s := match s.fireFrame n with
        | some x => s.setFrame { x with prep := x.prep || f.set.isSome, packets := [] }
        | none => s
      let due := (f.bands.filter (fun b => b.fired && !b.released && !b.stale)).map (·.idx)
      (due.foldl (fun (x : State) b => x.releaseBand n b) s).showFire

/-! ### Transfers and the swap (R211–R216, R224) -/

/-- Every transfer of frame `n` is complete (R211): all bands fired on the inputs in force, nothing left to send. -/
def State.transfersDone (s : State) (n : Nat) : Bool :=
  match s.fireFrame n with
  | none => false
  | some f =>
    f.decided && !f.stopped && f.prep && f.packets.isEmpty && !f.bands.isEmpty
    && f.bands.all (fun b => b.fired && b.released && !b.stale) && !(s.emit_.rects.any (fun r => r.frame = n))
    && !s.emit_.tx.any (fun t => t.holds n)

/-- The time at which a string applies what it receives now (R212): the first subfield start at least 1 µs later. -/
def State.applyAt (s : State) : Nat :=
  let sub := s.period / s.geo.subs
  let t0 := s.sched s.time.last + us (s.es Reg.EMIT_SCAN_CTRL_SCAN_PHASE)
  let t := s.tb3 + us 1
  if sub = 0 then s.now else s.now + s.cyclesTo (t0 + (-((-(t - t0)) / (sub : Int))) * sub)

/-- Read-back is expected of every string for a SWAP or ABANDON sent now, and the payload count begins anew (R224). -/
def State.expectEcho (s : State) (n : Nat) (abandon : Bool) : State :=
  let lanes := s.geo.lanes
  let es : List Echo :=
    if s.es Reg.EMIT_HEAD_CTRL_ECHO_EN = 0 then []
    else lanes.map (fun l =>
      let ws := s.emit_.sent.getD l []
      (⟨l, n % 2 ^ 28, crcWords ws, ws.length % 2 ^ 23, abandon, s.applyAt⟩ : Echo))
  { s with emit_ := { s.emit_ with sent := List.replicate 16 [], echo := s.emit_.echo ++ es } }

/-- One draw-ring region at the end of a fired frame (R222, R223). Event 838 is raised once in a run of qualifying frames, when the last
FREEZE_FRAMES of them qualify (DEDUCED, assumption log 23). -/
def State.regionEnd (s : State) (f : FireFrame) (swapped : Bool) (i : Nat) : State :=
  if s.es Reg.EMIT_DRAW_REGION_W0_EN i = 0 then
    { s with emit_ := { s.emit_ with
      lastSig := setNth s.emit_.lastSig i none, freezeN := setNth s.emit_.freezeN i 0, frozen := setNth s.emit_.frozen i false } }
  else
    let b := s.regionBox s.geo i
    let sig := sigBox s.geo.g f.rays b.1 b.2.1 b.2.2.1 b.2.2.2
    let same := s.emit_.lastSig.getD i none = some sig
    let n := if s.es Reg.EMIT_DRAW_REGION_W0_FREEZE_EN i ≠ 0 && f.advanced.contains i && same
      then nth s.emit_.freezeN i + 1 else 0
    let s := if swapped then s.w Reg.EMIT_DRAW_REGION_W1_SIG sig i else s
    let told := n ≠ 0 && s.emit_.frozen.getD i false
    let hit := !told && s.r Reg.EMIT_UPDATE_CTRL_FREEZE_FRAMES ≤ n
    let s := { s with emit_ := { s.emit_ with
      lastSig := setNth s.emit_.lastSig i (some sig), freezeN := setNth s.emit_.freezeN i n
      frozen := setNth s.emit_.frozen i (told || hit) } }
    if hit then (s.flag Reg.EMIT_FREEZE_FROZEN (2 ^ i)).raise 838 (f.frame % 2 ^ 28) else s

/-- Every region at the end of a fired frame. -/
def State.regionsEnd (s : State) (f : FireFrame) (swapped : Bool) : State :=
  (List.range 32).foldl (fun (x : State) i => x.regionEnd f swapped i) s

/-- The FRAME marks of pictures up to a frame are cleared: it is presented or repeated past (R100). -/
def State.clearFrm (s : State) (n : Nat) : State :=
  { s with dec := { s.dec with pics := s.dec.pics.map (fun (p : Pic) =>
      if p.frame ≤ n then { p with frm := false } else p) } }.prune

/-- The outcome of a frame at the lanes (EMIT_SWAP_STATUS): outcome, frame, and how long after its tick. -/
def State.tellOutcome (s : State) (n outcome : Nat) : State :=
  s.ws [(Reg.EMIT_SWAP_STATUS_OUTCOME, 0, outcome), (Reg.EMIT_SWAP_STATUS_FRAME_LO, 0, n),
    (Reg.EMIT_SWAP_STATUS_TE_OFFSET, 0, satN 4095 ((s.tb3 - s.sched n).toNat / 16384000))]

/-- Fail-dark groups whose darkness a swapped frame carries: their fallback is over (R250). -/
def State.endFallback (s : State) (fs : FaultSet) : State :=
  { s.ws (fs.dark.map (fun g => (Reg.EMIT_FD_GROUP_BLANKING, g, 0))) with
    emit_ := { s.emit_ with fallback := s.emit_.fallback.filter (fun p => !fs.dark.contains p.1) } }

/-- In direct firing mode the window of the next frame opens now (R28). -/
def State.windowOpens (s : State) : State := if s.direct then { s with fire := { s.fire with winAt := s.tb3 } } else s

/-- SWAP of frame `n` is sent (R211, R212, R216, R222–R224): strings, signatures, counters, glost, the next frame. -/
def State.swap (s : State) (n outcome : Nat) : State :=
  match s.fireFrame n with
  | none => s
  | some f =>
    let q := s.geo
    let s := q.lanes.foldl (fun (x : State) l => x.putFirst l [pktWord 7 (l % 8) n]) s
    let s := s.expectEcho n false
    let image := if s.direct then [] else
      f.seen.foldl (fun (l : List (Nat × Nat)) k =>
        sput l k (q.cellSig f.rays (k / 65536) (k / 256 % 256) (k % 256)))
        -- cells of a head that is inactive keep theirs
        (s.emit_.image.filter (fun (p : Nat × Nat) => !q.heads.contains (p.1 / 65536)))
    let config := s.emit_.cfgNew.foldl (fun l p => setNth l p.1 p.2) s.emit_.config
    let zones := (f.set.map (fun (g : GlazeSet) => g.zones.map (fun (z : ZoneSet) => z.cone))).getD []
    let s := { s with emit_ := { s.emit_ with
      image := image, config := config, cfgNew := []
      tables := if s.emit_.tabNew.isSome then s.emit_.tabNew else s.emit_.tables
      tabNew := none, await := none
      shown := ((f.set.map (fun (g : GlazeSet) => g.k)).getD 0) :: zones
      blankT := blankOf f.copy zones } }
    let s := { s with enc := { s.enc with shown := some f } }
    let s := (s.regionsEnd f true).tellOutcome n outcome
    let s := s.ws ((Reg.KILN_BLENDS_LAST_BLENDS, 0, 8 * f.blends) ::
      (List.range 32).map (fun i => (Reg.KILN_SLOT_W10_BLENDS, i, nth f.slotBlends i)))
    let s := (s.dropFrame n).clearFrm n
    let s := match f.faults with
      | some fs => (s.endFallback fs).putAux fs.pats fs.palette n
      | none => s
    let s := { s with pins := { s.pins with aonBlank := false } }.w Reg.MGMT_STAGE_BISQUE_SHOWN 0
    let s := s.calShown n
    let s := if s.isWorker then s.enterGlost else s
    s.windowOpens.driveBlank.release

/-- A refire of a band is incomplete (R42, R44): the band is not fired on the inputs in force, or its new transfer is not over. -/
def State.refireOpen (s : State) (f : FireFrame) (b : Band) : Bool :=
  b.stale || (b.again && (!b.fired || !b.released
    || s.emit_.rects.any (fun r => r.frame = f.frame && bandTouches s.geo.g f b.idx r.y0 r.h)))

/-- ABANDON of frame `n` is sent (R211, R213): staged values and unsent rectangles go, events 834 and, where a refire was
incomplete, 738. -/
def State.abandon (s : State) (n : Nat) : State :=
  let q := s.geo
  let f := s.frameOr n
  let missed := f.stopped || f.bands.any (s.refireOpen f)
  let d := n % 2 ^ 28
  let s := q.lanes.foldl (fun (x : State) l => x.putFirst l [pktWord 8 (l % 8) n]) (s.dropTx n)
  let s := { s.expectEcho n true with start := { s.start with resend := s.start.resend || !s.emit_.cfgNew.isEmpty } }
  let s := { s with emit_ := { s.emit_ with cfgNew := [], tabNew := none, await := none } }
  let s := (s.raise 834 d).raiseIf missed 738 d
  let s := (if f.bands.isEmpty then s else s.regionsEnd f false).tellOutcome n 4
  ((s.dropFrame n).clearFrm n).showRects.windowOpens.release

/-! ### Read-back (R224) -/

/-- A string's read-back failed: mismatch or missing; the third in a row fails the string. -/
def State.badEcho (s : State) (e : Echo) (event : Nat) : State :=
  let n := nth s.emit_.badEcho e.lane + 1
  let s := { s.flag Reg.EMIT_READBACK_MISMATCH (2 ^ e.lane) with emit_ := { s.emit_ with badEcho := setNth s.emit_.badEcho e.lane n } }
  let s := (s.dropString e.lane).raise event e.frame
  if n = 3 then
    (((s.flag Reg.EMIT_READBACK_FAILED (2 ^ e.lane)).raise 841 e.frame).failString e.lane).evalGroups
  else s

/-- A READBACK packet (R224, R230). -/
def State.readback (s : State) (ws : List Word) : State :=
  let w0 := nthW ws 0
  let lane := bits w0 31 28
  let w2 := nthW ws 2
  if bits w0 35 32 ≠ 1 then s
  else
    match s.emit_.echo.find? (fun e => e.lane = lane && e.frame = bits w0 27 0) with
    | none => s
    | some e =>
      let s := { s with emit_ := { s.emit_ with echo := s.emit_.echo.filter (fun x => x ≠ e) } }
      if bits (nthW ws 1) 31 0 = e.crc && bits w2 22 0 = e.count && bit w2 23 = e.abandon then
        { s with emit_ := { s.emit_ with badEcho := setNth s.emit_.badEcho lane 0 } }
      else s.badEcho e 839

/-! ### Probing (R244, R245) -/

/-- The last channel of a string. -/
def State.lastChannel (s : State) (lane : Nat) : Nat :=
  let q := s.geo
  3 * q.store lane - 1 + (if s.rb Reg.CAL_TTH_TTH_EN && lane = s.es Reg.EMIT_HEAD_CTRL_TTH_LANE then 3 else 0)

/-- The channel index of an entry. -/
def State.channelOf (s : State) (e : FaultEntry) : Nat :=
  if e.tth then 3 * s.geo.store e.lane + e.colour else 3 * e.addr + e.colour

/-- A string's turn begins: recorded channels are probed alone first in every eighth turn with CLEAR_MAPS ≠ 0. -/
def State.beginTurn (s : State) (h : Nat) (p : Probe) : Probe :=
  let lane := 8 * h + p.string
  let t := nth p.turns p.string + 1
  let solo := if s.r Reg.EMIT_FAULT_CTRL_CLEAR_MAPS ≠ 0 && t % 8 = 0 then
      (s.emit_.faults.filter (fun e => e.lane = lane)).map s.channelOf else []
  { p with solo := solo, lo := 0, hi := s.lastChannel lane, top := s.lastChannel lane, sure := false, heard := false
           turns := setNth p.turns p.string t }

/-- A string's turn ends (R245): three turns in a row without an answer fail the string; the next string follows. -/
def State.endTurn (s : State) (h : Nat) (p : Probe) : Probe × State :=
  let n := if p.heard then 0 else nth p.silent p.string + 1
  let s := if 3 ≤ n then (s.failString (8 * h + p.string)).evalGroups else s
  ({ p with string := (p.string + 1) % s.geo.nl, silent := setNth p.silent p.string n, sure := false, top := 0, lo := 1 }, s)

/-- The range a probe asks for now. -/
def Probe.range (p : Probe) : Nat × Nat :=
  match p.solo with
  | c :: _ => (c, c)
  | [] => if p.sure then (p.lo, (p.lo + p.hi) / 2) else (p.lo, p.hi)

/-- The subfield PSF (R244): half a period after the one whose last line follows each tick. -/
def State.psf (s : State) : Nat :=
  let q := s.geo
  let k := s.num * q.subs * q.commons
  let line := s.den * 1000000
  let m := (((s.es Reg.EMIT_SCAN_CTRL_SCAN_PHASE * k : Nat) : Int) - line) / ((line * q.commons : Nat) : Int)
  (((q.subs : Int) - 1 - m + q.subs / 2) % (q.subs : Int)).toNat

/-- How long after a tick the last line of subfield PSF begins, half a period after an edge that follows the tick (R244). -/
def State.probeOffset (s : State) : Nat :=
  let sub := s.period / s.geo.subs
  ((us (s.es Reg.EMIT_SCAN_CTRL_SCAN_PHASE)).toNat + (s.psf + 1) * sub - sub / s.geo.commons) % max 1 s.period

/-- Each head sends one FAULT_REQ for a fired or repeated frame (R245). -/
def State.sendProbes (s : State) : State :=
  if !s.scanOn || !s.fire.firing || s.es Reg.EMIT_HEAD_CTRL_ECHO_EN ≠ 0 || !s.rb Reg.EMIT_FAULT_CTRL_PROBE_EN then s
  else
    s.geo.heads.foldl (fun (x : State) h =>
      match x.emit_.probes[h]? with
      | none => x
      | some p =>
        let p := if p.top < p.lo then x.beginTurn h p else p
        let r := p.range
        let x := x.putShort (8 * h + p.string)
          [pktWord 10 p.string x.time.last, pack [(34, 1), (29, x.psf), (0, r.1)], word r.2]
        { x with emit_ := { x.emit_ with probes := setNth x.emit_.probes h { p with asked := true } } }) s

/-- A channel found by bisection is recorded (R245). -/
def State.probeHit (s : State) (lane ch : Nat) : State :=
  let top := 3 * s.geo.store lane
  let e : FaultEntry := if top ≤ ch then ⟨lane, ch - top, 3, true, 0, 0⟩ else ⟨lane, ch % 3, 3, false, ch / 3, 0⟩
  (s.recordFault e 873 (s.time.last % 2 ^ 28)).evalGroups

/-- After a channel, the probe goes on from the next one upward, or the turn ends. -/
def State.probeNext (s : State) (h : Nat) (p : Probe) (lo : Nat) : Probe × State :=
  if p.top < lo then s.endTurn h p else ({ p with lo := lo, hi := p.top, sure := false }, s)

/-- A recorded channel has been probed alone (R245). -/
def State.soloAnswer (s : State) (lane ch : Nat) (low : Bool) : State :=
  let n := s.r Reg.EMIT_FAULT_CTRL_CLEAR_MAPS
  let step := s.emit_.faults.map (fun (e : FaultEntry) =>
    if e.lane = lane && s.channelOf e = ch then { e with clean := if low then 0 else e.clean + 1 } else e)
  let gone (e : FaultEntry) : Bool := e.lane = lane && s.channelOf e = ch && n ≠ 0 && n ≤ e.clean
  let cleared := step.any gone
  ({ s with emit_ := { s.emit_ with faults := step.filter (fun e => !gone e) } }.raiseIf cleared 865 0).evalGroups

/-- The answer at a probe line (R244, R245): a low TE input means a fault in the range asked. -/
def State.probeAnswer (s : State) (h : Nat) (low : Bool) : State :=
  match s.emit_.probes[h]? with
  | none => s
  | some p =>
    if !p.asked then s
    else
      let lane := 8 * h + p.string
      let p := { p with asked := false, heard := p.heard || !low }
      let r : Probe × State :=
        match p.solo with
        | c :: t => ({ p with solo := t }, s.soloAnswer lane c low)
        | [] =>
          let a := p.range
          if !p.sure then
            if !low then s.endTurn h p
            else if a.1 = a.2 then (s.probeHit lane a.1).probeNext h p (a.1 + 1)
            else ({ p with sure := true }, s)
          else
            let lo := if low then a.1 else a.2 + 1
            let hi := if low then a.2 else p.hi
            if lo = hi then (s.probeHit lane lo).probeNext h p (lo + 1) else ({ p with lo := lo, hi := hi }, s)
      { r.2 with emit_ := { r.2.emit_ with probes := setNth r.2.emit_.probes h r.1 } }.showFaults

end Sys2Proof.Machine
end

