-- ==== Sys2Proof/Machine/Time.lean ====
section
/-! DEFINITION. Time bases, servos, validity, the tick schedule and its phase (spec/15, R347–R369). -/

namespace Sys2Proof.Machine

/-! ### Units (R347, R348) -/

/-- A signed count of 1/16,384 ns in units of 1/16 ns: rounded half up, saturating at ±(2^35 − 1) (R348). -/
def to16 (d : Int) : Int := clampI (-(2 ^ 35 - 1)) (2 ^ 35 - 1) ((d + 512) / 1024)

/-- Half of a signed count of 1/16,384 ns, in units of 1/16 ns: rounded half up, saturating (R298, R348, R355). -/
def halfTo16 (d : Int) : Int := clampI (-(2 ^ 35 - 1)) (2 ^ 35 - 1) ((d + 1024) / 2048)

/-- A value in 1/16 ns held to what a field can hold (R348). -/
def sat16 (d : Int) : Int := clampI (-(2 ^ 35 - 1)) (2 ^ 35 - 1) d

/-- The window of R365, ±1,000 µs, in 1/16 ns. -/
def phaseWin : Int := 16000000

/-- A phase lies outside the window (R365). -/
def outside (z : Int) : Bool := z < -phaseWin || phaseWin < z

/-- The three words hold a valid time value (R347). -/
def timeOk (w1 w2 : Word) : Bool := timeNs w1 w2 < 1000000000

/-- A counter moved by a signed number of 2^-32 ns; SEC wraps modulo 2^64. -/
def moveBase (t : Nat) (d : Int) : Nat := (((t : Int) + d) % ((2 ^ 64 * 1000000000 * 2 ^ 32 : Nat) : Int)).toNat

/-- What a stamp holds of an instant: the FRAC bits below 1/16 ns are 0 (R353). -/
def stampOf (t : Nat) : Nat := t / 1024 * 1024

/-- Every base at this instant as stamps (R353). -/
def State.stamp (s : State) (b : Nat) : Nat := stampOf (s.baseAny b)

/-- TB0 and TB1 as a Cawell port stamps them (R297, R353). -/
def State.bases (s : State) : List Nat := [s.stamp 0, s.stamp 1]

/-! ### Fields -/

def State.phi (s : State) : Int := s.ri Reg.TIME_PHASE_STATE_0025_PHI
def State.target (s : State) : Int := s.ri Reg.TIME_PHASE_STATE_0026_TARGET
def State.setPhi (s : State) (z : Int) : State := s.wi Reg.TIME_PHASE_STATE_0025_PHI (sat16 z)
def State.setTarget (s : State) (z : Int) : State := s.hw Reg.TIME_PHASE_STATE_0026_TARGET (twos 36 (sat16 z))
def State.srcSel (s : State) : Nat := s.r Reg.TIME_TICK_CTRL_SRC_SEL
def State.servo (s : State) (b : Nat) : Bool := s.rb Reg.TIME_BASE_W4_MODE b
def State.valid (s : State) (b : Nat) : Bool := s.rb Reg.TIME_BASE_W5_VALID b
def State.setTime (s : State) (t : TimeState) : State := { s with time := t }

/-- No base that SRC_SEL can select has been valid since reset, and TB2 stands in (R361). -/
def State.standsIn (s : State) : Bool :=
  match s.srcSel with
  | 0 => !(s.time.ever.getD 0 false || s.time.ever.getD 1 false)
  | 1 => !s.time.ever.getD 0 false
  | 2 => !s.time.ever.getD 1 false
  | _ => false

/-- Some base is a valid source under SRC_SEL (R357, R358). -/
def State.validSource (s : State) : Bool :=
  match s.srcSel with
  | 0 => s.valid 0 || s.valid 1
  | 1 => s.valid 0
  | 2 => s.valid 1
  | _ => true

/-- VALID, LOCKED and HOLDOVER of a base as TIME_READ and W5 give them (R352). -/
def State.baseFlags (s : State) (b : Nat) : Bool × Bool × Bool :=
  if b = 2 then (true, s.servo 2 && s.rb Reg.TIME_BASE_W5_LOCKED 2, false)
  else if b = 3 then
    (if s.src = 2 then s.srcSel = 3 else s.valid s.src, s.rb Reg.TIME_BASE_W5_LOCKED s.src,
      s.rb Reg.TIME_TICK_STATUS_HOLDOVER)
  else (s.valid b, s.rb Reg.TIME_BASE_W5_LOCKED b, s.rb Reg.TIME_BASE_W5_HOLDOVER b)

/-- W5 of element 3 and FREE follow the rest. -/
def State.showTime (s : State) : State :=
  let f := s.baseFlags 3
  s.ws [(Reg.TIME_BASE_W5_VALID, 3, b2n f.1), (Reg.TIME_BASE_W5_LOCKED, 3, b2n f.2.1),
    (Reg.TIME_BASE_W5_HOLDOVER, 3, b2n f.2.2)]

/-! ### The servo (R350, R351, R359) -/

/-- FMAX of R350. -/
def fmax : Int := 8589935

/-- The nominal INCR (R349). -/
def incr0 : Int := 0xA00000000

/-- The frequency taken from i: INCR with p = 0 (R350, R359). -/
def State.setIncr (s : State) (b : Nat) (pi : Int) : State :=
  s.wi Reg.TIME_BASE_W3_INCR (incr0 + clampI (-fmax) fmax pi) b

/-- The mean of a base's last 64 values of i, rounded down (R359). -/
def meanI (l : List Int) (now : Int) : Int := if l.isEmpty then now else (l.foldl (· + ·) 0) / (l.length : Int)

/-- The source enters holdover when it is invalid and nothing replaces it, and holdover ends when some base is a valid
source (R359). -/
def State.evalHoldover (s : State) : State :=
  let on := s.rb Reg.TIME_TICK_STATUS_HOLDOVER
  if s.validSource then
    if on then
      (s.ws [(Reg.TIME_TICK_STATUS_HOLDOVER, 0, 0), (Reg.TIME_BASE_W5_HOLDOVER, 0, 0), (Reg.TIME_BASE_W5_HOLDOVER, 1, 0)]).raise
        238 0
    else s
  else if on || s.standsIn then s
  else
    let b := s.src
    let s :=
      if b < 2 && s.servo b then
        let i := meanI (s.time.hist.getD b []) (s.time.integ.getD b 0)
        ({ s with time := { s.time with integ := s.time.integ.set b i } }.setIncr b i)
      else s
    ((s.w Reg.TIME_TICK_STATUS_HOLDOVER 1).w Reg.TIME_BASE_W5_HOLDOVER (if b < 2 then 1 else 0) b).raise 237 0

/-- Base `b` (TB0, TB1) becomes valid or invalid (R357). -/
def State.setValid (s : State) (b : Nat) (v : Bool) : State :=
  if s.valid b = v then s
  else
    let s := (s.w Reg.TIME_BASE_W5_VALID (b2n v) b).raise (if v then 224 + b else 228 + b) 0
    let s := if v then { s with time := { s.time with ever := s.time.ever.set b true } } else s
    s.evalHoldover.showTime

/-- A base becomes valid once it is LOCKED and its reference is good (R357). -/
def State.checkValid (s : State) (b : Nat) : State :=
  if b < 2 && s.time.refOk.getD b false && s.rb Reg.TIME_BASE_W5_LOCKED b then s.setValid b true else s

/-- What the last exchange or the master's selection says of a base's reference (R357). -/
def State.setRef (s : State) (b : Nat) (v : Bool) : State :=
  let s := { s with time := { s.time with refOk := s.time.refOk.set b v } }
  if v then s.checkValid b else s.setValid b false

/-- A base steps by a count of 2^-32 ns (R350, R351, R368): STEPS, event 232 + b, LOCKED gone, and φ keeps TB3 continuous
where the base is the source. -/
def State.stepBase (s : State) (b : Nat) (d : Int) : State :=
  let t := s.time
  let isSrc := s.src = b
  let s := { s with time := { t with
    tb := t.tb.set b (moveBase (nth t.tb b) d)
    good := t.good.set b 0
    bad := t.bad.set b 0
    stepped := t.stepped || isSrc } }
  let s := (s.count Reg.TIME_BASE_W5_STEPS b).w Reg.TIME_BASE_W5_LOCKED 0 b
  let s := if isSrc then s.setPhi (s.phi + to16 (d / 2 ^ 18)) else s
  (s.raise (232 + b) 0).showTime

/-- An offset moves LOCKED (R351): 16 consecutive ones below LOCK_NS set it, four above four times LOCK_NS end it. -/
def State.lockCount (s : State) (b : Nat) (o : Int) : State :=
  let lim : Int := 16 * s.r Reg.TIME_BASE_W4_LOCK_NS b
  let a : Int := if o < 0 then -o else o
  let good := if a < lim then satN 16 (nth s.time.good b + 1) else 0
  let bad := if 4 * lim < a then satN 4 (nth s.time.bad b + 1) else 0
  let s := { s with time := { s.time with good := s.time.good.set b good, bad := s.time.bad.set b bad } }
  if bad = 4 then
    let s := s.w Reg.TIME_BASE_W5_LOCKED 0 b
    if b < 2 then s.setValid b false else s
  else if good = 16 then (s.w Reg.TIME_BASE_W5_LOCKED 1 b).checkValid b
  else s

/-- The servo takes an offset in 1/16 ns (R350). -/
def State.feed (s : State) (b : Nat) (o : Int) : State :=
  let s := (s.wi Reg.TIME_BASE_W6_OFFSET o b)
  let s := { s with time := { s.time with fedAt := s.time.fedAt.set b s.now } }
  let lim : Int := 16000 * s.r Reg.TIME_BASE_W4_STEP_LIMIT b
  let i0 := s.time.integ.getD b 0
  if lim < o || o < -lim then (s.stepBase b (o * 2 ^ 28)).setIncr b i0
  else
    let p := (o * 2 ^ 28) / (2 ^ s.r Reg.TIME_BASE_W4_KP_SHIFT b : Nat)
    let i := clampI (-fmax) fmax (i0 + (o * 2 ^ 28) / (2 ^ s.r Reg.TIME_BASE_W4_KI_SHIFT b : Nat))
    let s := { s with time := { s.time with
      integ := s.time.integ.set b i
      hist := s.time.hist.set b ((i :: s.time.hist.getD b []).take 64) } }
    ((s.setIncr b (p + i)).lockCount b o).showTime

/-- A write of OFFSET_IN (R350): BAD_PARAM in SOFT mode and for TB3. -/
def State.offsetIn (s : State) (b : Nat) (v : Word) : WriteRes × State :=
  if 3 ≤ b || !s.servo b then (some (0x21, 0), s) else (none, s.feed b (sext 36 v.toNat))

/-- W4 written: a base put into SOFT mode has LOCKED 0 (R352), and its count of 16 starts again. -/
def State.modeWritten (s : State) (b : Nat) : State :=
  if s.servo b then s
  else
    ({ s with time := { s.time with good := s.time.good.set b 0, bad := s.time.bad.set b 0 } }.w Reg.TIME_BASE_W5_LOCKED 0
      b).showTime

/-! ### Opcodes 0x006, 0x401, 0x402, 0x403 -/

/-- 0x006 TIME_READ (R352). -/
def hTimeRead : Handler := fun _ ps s =>
  let b := bits (nthW ps 0) 1 0
  let f := s.baseFlags b
  (.reply (wordsOfTime (s.baseAny b) ++ [pack [(35, b2n f.1), (34, b2n f.2.1), (33, b2n f.2.2)]] ++ split48 s.time.last), s)

/-- 0x403 TIME_ADJUST (R352). -/
def hTimeAdjust : Handler := fun _ ps s =>
  let b := bits (nthW ps 0) 1 0
  if b = 3 || s.servo b then (.badParam, s)
  else (.done, s.stepBase b (sext 72 ((nthW ps 1).toNat * 2 ^ 36 + (nthW ps 2).toNat) * 2 ^ 18))

/-- A pending change in its place, in tick order; it replaces one of the same K (R363). -/
def putSched (l : List Sched) (c : Sched) : List Sched :=
  l.filter (fun x => x.k < c.k) ++ [c] ++ l.filter (fun x => c.k < x.k)

/-- 24–240 Hz (R363). -/
def rateRange (num den : Nat) : Bool := den ≠ 0 && 24 * den ≤ num && num ≤ 240 * den

/-- The rate limits a new tick rate must keep (R116, R118, R232). -/
def rateChecks (scan : Bool) (low : Nat) (r : RegFile) : Bool :=
  let g := gridOf r
  rateOk g.rays (rget r Reg.TIME_TICK_RATE_NUM 0) (rget r Reg.TIME_TICK_RATE_DEN 0) (rget r Reg.HEARTH_PLAN_CTRL_FIRE_WINDOW 0)
    && mountOk low r && (!scan || scanOk (gradeNow r) r)

/-! ### Re-phase (R369) -/

/-- The frame whose firing period follows is repeated; one repeat for one tick (R364). A device that fires nothing repeats nothing. -/
def State.repeatNext (s : State) : State := if s.fire.firing then s.repeatFrame (s.frameOr s.curFrame) else s

/-- The alignment of the clock outputs is lost; one aligned to subfield 0 re-aligns without a new ARM (R376). -/
def State.dropAligned (s : State) : State :=
  (List.range 4).foldl (fun (x : State) i =>
    let was := x.rb Reg.CLOCK_CKO_ALIGNED i
    let again := was && x.rb Reg.CLOCK_CKO_ALIGN_SRC i
    let x := x.w Reg.CLOCK_CKO_ALIGNED 0 i
    if again then { x with time := { x.time with realign := x.time.realign.set i true } } else x) s

/-- The scan goes on across a jump of TB3 (R369): the instants that it holds on TB3 move with it. -/
def State.scanMoves (s old : State) : State :=
  let d := s.tb3 - old.tb3
  { s with emit_ := { s.emit_ with lineFrom := s.emit_.lineFrom + d, lineDue := s.emit_.lineDue + d } }

/-- The tick re-phases (R369), `old` being the state before the jump: the cause recorded, counted and reported, one frame repeated; where the
next tick is delayed the heads are to be dark from the subfield 0 start of the old phase until the new one; the clock outputs lose
their alignment (R376). -/
def State.rephase (s old : State) (cause : Nat) : State :=
  let later := old.cyclesTo (old.sched old.nextTick) < s.cyclesTo (s.sched s.nextTick)
  let s := { s.scanMoves old with time := { s.time with jump := true, blankNext := s.time.blankNext || (s.scanOn && later) } }
  (((s.w Reg.TIME_TICK_STATUS_CAUSE cause).count Reg.TIME_TICK_STATUS_REPHASES).raise 239 cause).dropAligned.repeatNext

/-- 0x401 TIME_SCHEDULE (R363). -/
def hTimeSchedule : Handler := fun _ ps s =>
  let w0 := nthW ps 0
  let k := join48 w0 (nthW ps 1)
  let num := bits (nthW ps 2) 35 17
  let den := bits (nthW ps 2) 16 4
  let t := timeOfWords (nthW ps 3) (nthW ps 4) (nthW ps 5)
  let trial := s.setSchedule k t num den
  if !timeOk (nthW ps 4) (nthW ps 5) || !rateRange num den
      || !rateChecks (s.rb Reg.EMIT_HEAD_CTRL_SCAN_EN) s.lowGrade trial.planned then (.badParam, s)
  else if bit w0 35 then (.done, (trial.rephase s 4).showTime)
  else
    let sk := s.plannedAt k
    let d := ((t : Int) - sk) * num
    let p : Int := den * secUnits
    if bit w0 34 && (2 * d < p || 2 * p < d) then (.badParam, s)
    else if (s.time.ticked && k ≤ s.time.last) || (sk - s.tb3) * s.num < (s.den * secUnits : Nat) then (.late, s)
    else if 8 ≤ s.time.scheds.length && !s.time.scheds.any (fun c => c.k = k) then (.busy, s)
    else (.done, { s with time := { s.time with scheds := putSched s.time.scheds ⟨k, bit w0 34, t, num, den⟩ } })

/-- 0x402 TIME_PHASE (R367). -/
def hTimePhase : Handler := fun _ ps s =>
  let k := join48 (nthW ps 0) (nthW ps 1)
  if s.rb Reg.TIME_TICK_CTRL_BOUNDARY then (.busy, s)
  else
    (if s.time.ticked && k ≤ s.time.last then .late else .done,
      { s with time := { s.time with phase := some (k, sext 36 (nthW ps 2).toNat, sext 36 (nthW ps 3).toNat) } })

/-! ### The order of R364 at a tick -/

/-- A phase moved toward another by at most a number of units (R365). -/
def toward (x target step : Int) : Int :=
  if x < target then (if target < x + step then target else x + step)
  else if x - step < target then target else x - step

/-- SLEW in 1/16 ns. -/
def State.slew (s : State) : Int := 16 * s.r Reg.TIME_TICK_CTRL_SLEW

/-- The source of TB3 at a tick (R358, R361). -/
def State.wantSource (s : State) : Nat :=
  if s.standsIn then 2
  else
    match s.srcSel with
    | 0 =>
      match s.src with
      | 0 => if s.valid 0 then 0 else if s.valid 1 then 1 else 0
      | 1 =>
        if s.valid 1 then (if s.valid 0 && s.rb Reg.TIME_TICK_CTRL_REVERT && 1024 ≤ s.time.tb0Run then 0 else 1)
        else if s.valid 0 then 0 else 1
      | _ => if s.valid 0 then 0 else if s.valid 1 then 1 else 2
    | n => n - 1

/-- Step 1 (R358, R361): the source changes; the first valid source is a jump, every other difference goes into φ. Answers
whether the tick has re-phased. -/
def State.sourceStep (s : State) : Bool × State :=
  let want := s.wantSource
  let free := s.rb Reg.TIME_TICK_STATUS_FREE
  let s1 := s.w Reg.TIME_TICK_STATUS_FREE (b2n s.standsIn)
  if want = s.src then (false, s1)
  else
    let old := s.tb3
    let sw := if s.src = 0 && want = 1 then to16 ((s.base 1 : Int) - s.base 0) else 0
    let s2 := ((s1.w Reg.TIME_TICK_STATUS_SOURCE want).wi Reg.TIME_PHASE_STATE_0027_SW sw).raise 236 0
    if free && want < 2 then (true, s2.rephase s 3)
    else
      let d := to16 (s2.tb3 - old)
      (false, { s2.setPhi (s2.phi + d) with time := { s2.time with stepped := s2.time.stepped || d ≠ 0 } })

/-- Step 2 (R368): steps of the source since the last tick that left φ outside the window re-phase the tick. -/
def State.windowStep (done : Bool) (s : State) : Bool × State :=
  let was := s.time.stepped
  let s := { s with time := { s.time with stepped := false } }
  if was && outside s.phi && !outside s.target then
    let t := s.setPhi s.target
    (true, if done then t.scanMoves s else t.rephase s 2)
  else (done, s)

/-- Step 3 (R363): the changes bound to the tick or left pending by a skipped one, in tick order; event 246, one frame
repeated. -/
def State.schedStep (s : State) (n : Nat) : State :=
  let due := s.time.scheds.filter (fun c => c.k ≤ n)
  if due.isEmpty then s
  else
    let s := { s with time := { s.time with scheds := s.time.scheds.filter (fun c => n < c.k) } }
    (due.foldl (fun (x : State) c => (x.applySched c).raise 246 0) s).repeatNext

/-- Step 4 (R366, R367): the TIME_PHASE bound to the tick, taken late with SLEW for each tick since K, or the SYNC_IN
demand of a device that takes its own. -/
def State.phaseStep (s : State) (n : Nat) : State :=
  let s :=
    match s.time.phase with
    | some (k, phiK, tgt) =>
      if k ≤ n then
        let v := toward phiK tgt (s.slew * ((n - k : Nat) : Int))
        let d := s.phi - v
        let s := { s with time := { s.time with phase := none } }.raiseIf (256 < d || d < -256) 242 0
        (s.setPhi v).setTarget tgt
      else s
    | none => s
  match s.time.demand with
  | some d => if s.rb Reg.TIME_TICK_CTRL_BOUNDARY && !s.isMgr then s.setTarget d else s
  | none => s

/-- D reduced modulo the period into (−period/2, +period/2], in 1/16 ns (R369). -/
def reduceDemand (d num den : Int) : Int :=
  let u := den * secUnits
  let x := d * 1024 * num
  -- the least q with x − q u ≤ u / 2
  let q := -((u - 2 * x) / (2 * u))
  sat16 ((x - q * u + 512 * num) / (1024 * num))

/-- Step 5 (R365, R369): a demand outside the window re-phases; otherwise φ moves toward TARGET. The change of the period is
what SYN-F follows (R372). -/
def State.slewStep (done : Bool) (s : State) : State :=
  if outside s.target then
    let d := reduceDemand s.target s.num s.den
    let old := s
    let s := (s.wi Reg.TIME_PHASE_STATE_0024_PHASE_BASE (sat16 (s.ri Reg.TIME_PHASE_STATE_0024_PHASE_BASE + d)))
    let s := { (s.setPhi 0).setTarget 0 with time := { s.time with demand := none } }
    if done then s.scanMoves old else s.rephase old 1
  else s.setPhi (toward s.phi s.target s.slew)

/-- FOLLOW (R372): the frequency of TB3 against REFCLK in 1/16 ppm, rounded half up, from the INCR of its source. -/
def State.followNow (s : State) : Int :=
  let d := (s.r Reg.TIME_BASE_W3_INCR s.src : Int) - incr0
  (32000000 * d + incr0) / (2 * incr0)

/-- The divider SYN-F goes to (R372): FOLLOW, clamped at ±200 ppm with event 196, and the change of the period by a
movement of φ, within ±1,000 ppm. -/
def State.synf (s : State) (moved : Int) : State :=
  let f := s.followNow
  let g := clampI (-3200) 3200 f
  let p : Int := 16 * (1000000000 * s.den : Nat)
  let change := -(16000000 * moved * s.num) / (p + moved * s.num)
  let s := (s.wi Reg.CLOCK_SYN_W1_FOLLOW g 3).raiseIf (f ≠ g) 196 0
  { s with time := { s.time with pullTo := clampI (-16000) 16000 (g + change) } }

/-- The time work of tick N, in the order of R364. -/
def State.tickTime (s : State) (n : Nat) : State :=
  let s := { s with time := { s.time with jump := false } }
  let a := s.sourceStep
  let b := a.2.windowStep a.1
  let s := (b.2.schedStep n).phaseStep n
  let before := s.phi
  let s := s.slewStep b.1
  let s := s.synf (if s.time.jump then 0 else s.phi - before)
  let v := s.valid 0 && s.valid 1
  let d := (s.base 1 : Int) - s.base 0
  let tol : Int := 16384 * s.r Reg.TIME_TICK_CTRL_DOM_TOL
  let split := v && (tol < d || d < -tol)
  let s := s.raiseIf (split && !s.time.split) 243 0
  { s with time := { s.time with
      split := split
      tb0Run := if s.valid 0 then satN 1024 (s.time.tb0Run + 1) else 0 } }.evalHoldover.showTime

/-! ### SYNC_IN and capture (R354, R366) -/

/-- The expected instant of SYNC_IN nearest to a time on TB3: its tick (R366). -/
def State.nearSync (s : State) (t : Int) : Int :=
  let div : Int := s.r Reg.TIME_TICK_CTRL_SYNC_DIV
  let u : Int := s.den * secUnits
  let x := (t - 1024 * s.ri Reg.TIME_SYNC_OFFSET_SYNC_OFFSET - s.anchorTime) * s.num + s.anchorTick * u
  (2 * x + u * div) / (2 * u * div) * div

/-- An edge of a capture input (R354): stamped into the FIFO of an enabled element when it is the selected one. -/
def State.capture (s : State) (e : Nat) (falling : Bool) : State :=
  let near := match s.time.capAt.getD e none with
    | some a => decide (s.now < a + 10)
    | none => false
  if !s.rb Reg.TIME_CAPTURE_W0_EN e || s.rb Reg.TIME_CAPTURE_W0_FALLING e ≠ falling || near then s
  else
    let s := { s with time := { s.time with capAt := s.time.capAt.set e (some s.now) } }
    let q := s.time.fifo.getD e []
    if 16 ≤ q.length then (s.flag Reg.TIME_CAPTURE_W0_LOST 1 e).raise 247 0
    else
      ({ s with time := { s.time with
          fifo := s.time.fifo.set e (q ++ [s.stamp (s.r Reg.TIME_CAPTURE_W0_BASE e)]) } }).w
        Reg.TIME_CAPTURE_W0_DEPTH (q.length + 1) e

/-- A read of TIME_CAPTURE W1 (R354): the oldest entry in W1–W3, removed from the FIFO; nothing waits: what W1–W3 show is
free once an edge has been captured. -/
def State.capturePop (s : State) (e : Nat) : State :=
  let show3 (x : State) (w : List Word) : State :=
    x.ws [(Reg.TIME_CAPTURE_W1_STAMP, e, (nthW w 0).toNat), (Reg.TIME_CAPTURE_W2_STAMP, e, (nthW w 1).toNat),
      (Reg.TIME_CAPTURE_W3_STAMP, e, (nthW w 2).toNat)]
  match s.time.fifo.getD e [] with
  | t :: rest =>
    (show3 { s with time := { s.time with fifo := s.time.fifo.set e rest } } (wordsOfTime t)).w Reg.TIME_CAPTURE_W0_DEPTH
      rest.length e
  | [] =>
    if (s.time.capAt.getD e none).isNone then s
    else (show3 s [word (s.free 0), word (s.free 1), word (s.free 2)]).drawn

/-- Clock outputs armed for SYNC_IN or for subfield 0 align (R376). -/
def State.ckoEdge (s : State) (src : Nat) : State :=
  (List.range 4).foldl (fun (x : State) i =>
    if x.r Reg.CLOCK_CKO_ALIGN_SRC i = src && (x.time.armed.getD i false || (src = 1 && x.time.realign.getD i false)) then
      ({ x with time := { x.time with armed := x.time.armed.set i false, realign := x.time.realign.set i false } }.w
        Reg.CLOCK_CKO_ALIGNED 1 i).raise 199 0
    else x) s

/-- A SYNC_IN edge (R354, R366, R376). -/
def State.syncEdge (s : State) (falling : Bool) : State :=
  let s := s.capture 0 falling
  if falling then s
  else
    let s := s.ckoEdge 0
    if !s.rb Reg.TIME_TICK_CTRL_BOUNDARY then s
    else
      let k := s.nearSync s.tb3
      if k < 0 then s
      else if s.time.syncK = some k.toNat then s.raise 241 0
      else
        let e := to16 ((stampOf s.tb3.toNat : Int) - s.sched k.toNat - 1024 * s.ri Reg.TIME_SYNC_OFFSET_SYNC_OFFSET)
        { s with time := { s.time with demand := some (sat16 (s.phi + e)), syncK := some k.toNat, syncLost := false } }.w
          Reg.TIME_TICK_STATUS_SYNC_OK 1

/-- SYNC_IN is missing (R366): time goes on past the third expected edge without a match; the demand is held. -/
def State.syncMissing (s : State) : State :=
  if !s.rb Reg.TIME_TICK_CTRL_BOUNDARY || s.time.syncLost then s
  else
    let div := s.r Reg.TIME_TICK_CTRL_SYNC_DIV
    let k := s.time.syncK.getD (s.time.last / div * div)
    let t := s.sched (k + 3 * div) + 1024 * s.ri Reg.TIME_SYNC_OFFSET_SYNC_OFFSET + (div * s.period / 2 : Nat)
    let s := s.goto t
    ({ s with time := { s.time with syncLost := true } }.w Reg.TIME_TICK_STATUS_SYNC_OK 0).raise 240 0

/-- The clocks of the scan run: REFCLK within limits, SYN-A and SYN-F locked. -/
def State.clocksOk (s : State) : Bool :=
  !s.time.stopped && s.rb Reg.CLOCK_SYN_W0_LOCKED 0 && s.rb Reg.CLOCK_SYN_W0_LOCKED 3

/-- What a line start does to SYN-F and the clock outputs (R369, R372, R376): PULL moves by at most 50 ppm; at the start of
subfield 0 the blanking of a jump ends and outputs aligned to it align. -/
def State.synfLine (s : State) (line : Nat) : State :=
  let s := s.wi Reg.CLOCK_SYN_W1_PULL (toward (s.ri Reg.CLOCK_SYN_W1_PULL 3) s.time.pullTo 800) 3
  if line ≠ 0 then s
  else
    let s := if s.clocksOk then { s with time := { s.time with blank := false, blankNext := false } } else s
    s.ckoEdge 1

/-- What a manager that holds the peel sends at tick N with BOUNDARY = 1 (R366): K, PHI_K and TARGET, when D moved by more
than 16 ns from the last demand sent, and at least once in 256 ticks. -/
def State.phaseToSend (s : State) (n : Nat) : Option (Nat × Int × Int) :=
  if !(s.isMgr && 3 ≤ s.r Reg.MGR_PAIR_STATUS_STATE) || !s.rb Reg.TIME_TICK_CTRL_BOUNDARY then none
  else
    match s.time.demand with
    | none => none
    | some d =>
      let due := match s.time.sentD with
        | none => true
        | some (x, at_) => 256 < d - x || d - x < -256 || at_ + 256 ≤ n
      if due then
        let lead := s.r Reg.TIME_TICK_CTRL_PHASE_LEAD
        some (n + lead, toward s.phi s.target (s.slew * (lead : Int)), d)
      else none

end Sys2Proof.Machine
end

