-- ==== Sys2Proof/Machine/Memory.lean ====
section
/-! DEFINITION. The memory controller: start-up training, retraining, speed switches, refresh, self-refresh, bulk reads
(spec/16). -/

namespace Sys2Proof.Machine

/-! ### The tail of the period (R28, R386, R387) -/

/-- The end of the firing window of the frame being fired (R28). -/
def State.winEnd (s : State) : Int :=
  s.fire.winAt + (s.r Reg.HEARTH_PLAN_CTRL_FIRE_WINDOW * s.period / 100 : Nat)

/-- Work of a class is in the plan. -/
def State.classIn (s : State) (cls : Nat) : Bool := s.hearth.plan.items.any (fun (x : PlanWork) => x.cls = cls)

/-- Time goes on to the start of the period's tail; while no frame is fired there is no window to wait for. -/
def State.toTail (s : State) : State := if s.fire.firing then s.goto s.winEnd else s

/-- The plan lets class 5 work of a channel run (R386): it admits the class, or the channel's drift has passed twice DRIFT_LIM; without a
plan nothing defers it. -/
def State.tailLets (s : State) (ch : Nat) : Bool := !s.fire.firing || s.classIn 5 || s.mem.hard.contains ch

/-! ### Start-up training (R385, R381) -/

/-- Sectors of the system area (R381): 128 MB in the worker role, 512 MB in the manager role. -/
def State.sysSectors (s : State) : Nat := if s.isMgr then 16777216 else 4194304

/-- The areas allocated (R381). -/
def State.allocate (s : State) : State :=
  let top := s.installed
  let sys := top - s.sysSectors
  let ray := if s.isMgr then 0 else sys - 9586981
  s.ws [(Reg.MEM_MAP_0002_OWNER_TOP, 0, if s.isMgr then sys else ray), (Reg.MEM_MAP_0003_RAY_BASE, 0, ray),
    (Reg.MEM_MAP_0004_SYS_BASE, 0, sys)]

/-- A domain of MEMORY has come on and the clocks run: training may start (R385). -/
def State.trainReady (s : State) : Bool :=
  !s.mem.training && !s.rb Reg.MEM_STATUS_TRAINED && (blockDomains 6).any (fun d => s.domain d = 2)
  && s.rb Reg.CLOCK_SYN_W0_LOCKED 0

/-- Training starts, and AON releases DRAM_RESET_N (R529). -/
def State.trainStart (s : State) : State :=
  if s.trainReady then { s with mem := { s.mem with training := true }, pins := { s.pins with dramReset := false } } else s

/-- What training found: the channels that trained, the grade each set point trained at (none: a channel failed at 3,200
MT/s), the device's density code and ranks, and whether the channels' devices match (R378, R385). -/
structure TrainResult where
  ok : Nat
  g0 : Option Nat
  g1 : Option Nat
  density : Nat
  ranks : Nat
  same : Bool
  deriving DecidableEq, Repr

/-- Total capacity within 2–8 GB (R378): gigabits of four channels. -/
def capacityOk (density ranks : Nat) : Bool :=
  let gb := 4 * (ranks + 1) * densityGb density
  density < 5 && ranks < 2 && 16 ≤ gb && gb ≤ 64

/-- Training ends (R385): DRAM allocated and in use, or TRAIN_FAIL. -/
def State.trainDone (s : State) (t : TrainResult) : State :=
  if !s.mem.training then s
  else
    let s := (({ s with mem := { s.mem with training := false } }.w Reg.MEM_STATUS_CH_OK (t.ok % 16)).w
      Reg.MEM_STATUS_DENSITY t.density).w Reg.MEM_STATUS_RANKS t.ranks
    match t.g0, t.g1 with
    | some g0, some g1 =>
      if t.ok % 16 = 15 && t.same && capacityOk t.density t.ranks then
        let a := min g0 (s.r Reg.MEM_CTRL_SP0_GRADE)
        let b := min g1 (s.r Reg.MEM_CTRL_SP1_GRADE)
        let sp := s.r Reg.MEM_CTRL_SP_SEL
        let s := { s with mem := { s.mem with grades := [a, b], idleAt := List.replicate 4 s.now, toSp := sp, oscAt := List.replicate 4 s.now } }
        let s := s.ws [(Reg.MEM_STATUS_TRAINED, 0, 1), (Reg.MEM_STATUS_SP, 0, sp), (Reg.MEM_STATUS_GRADE, 0, nth [a, b] sp)]
        (s.allocate.w Reg.MGMT_STAGE_DRAM 1).raise 384 0
      else s.raise 385 0
    | _, _ => s.raise 385 0

/-- DRAM_TRAINING_START. -/
def execDramTrainingStart (dt : Nat) (s : State) : Host.Outcome State Fault Refusal := .next (s.pass dt).trainStart

/-- DRAM_TRAINING_DONE. -/
def execDramTrainingDone (ok : Nat) (g0 g1 : Option Nat) (density ranks : Nat) (same : Bool) (dt : Nat) (s : State) :
    Host.Outcome State Fault Refusal :=
  .next ((s.pass dt).trainDone ⟨ok, g0, g1, density, ranks, same⟩)

/-! ### Retraining (R386) -/

/-- The bits of RETRAINING follow the pending sequences. -/
def State.showSeqs (s : State) : State :=
  s.w Reg.MEM_STATUS_RETRAINING ((List.range 4).foldl (fun m c => if s.mem.seqs.any (fun (q : Nat × Nat) => q.1 = c) then
    m + 2 ^ c else m) 0)

/-- The oscillators of a channel measured, RETRAIN_MS after the last time, in a tail: its drift in ps since its last training (R386). A
check that a pending switch meets is discarded (R388). -/
def State.oscCheck (s : State) (ch drift : Nat) : State :=
  let s := (s.gotoNow (nth s.mem.oscAt ch + 100000 * s.r Reg.MEM_CTRL_RETRAIN_MS)).toTail
  if !s.rb Reg.MEM_STATUS_TRAINED || 4 ≤ ch || !s.tailLets ch || s.rb Reg.MEM_STATUS_SWITCHING then s
  else
    let s := { s with mem := { s.mem with oscAt := s.mem.oscAt.set ch s.now } }
    let s := s.w Reg.MEM_CHAN_W0_DRIFT (satN 255 drift) ch
    let lim := s.r Reg.MEM_CTRL_DRIFT_LIM
    let s :=
      if lim < drift && !s.mem.seqs.any (fun (q : Nat × Nat) => q.1 = ch) then
        { s with mem := { s.mem with seqs := s.mem.seqs ++ [(ch, 0)] } }.showSeqs
      else s
    if 2 * lim < drift then
      ({ s with mem := { s.mem with hard := if s.mem.hard.contains ch then s.mem.hard else ch :: s.mem.hard } }).raise 388 0
    else s

/-- OSC_CHECK (R386). -/
def execOscCheck (ch drift dt : Nat) (s : State) : Host.Outcome State Fault Refusal := .next ((s.pass dt).oscCheck ch drift)

/-- A burst of the sequence that runs (R386): at the tail's start or 200 µs after the burst before it; the sixth applies the results as
one unit. No burst while a switch is due, nor in the tail in which one discarded results (R388). -/
def State.retrainBurst (s : State) : State :=
  match s.mem.seqs with
  | [] => s
  | (ch, n) :: rest =>
    let s := s.toTail
    let s := match s.mem.burstAt with
      | some t => s.gotoNow (t + cyclesUs 200)
      | none => s
    if s.rb Reg.MEM_STATUS_SWITCHING || !s.tailLets ch || (s.fire.firing && s.sched (s.time.last + 1) ≤ s.tb3)
        || (s.fire.firing && s.mem.spoilt = some s.time.last) then s
    else
    let s := { s with mem := { s.mem with burstAt := some s.now } }
    if n + 1 < 6 then { s with mem := { s.mem with seqs := (ch, n + 1) :: rest } }
    else
      let s := { s with mem := { s.mem with seqs := rest, hard := s.mem.hard.filter (· ≠ ch) } }.showSeqs
      (s.count Reg.MEM_CHAN_W2_RETRAINS ch).raise 386 0

/-- RETRAIN_BURST (R386). -/
def execRetrainBurst (dt : Nat) (s : State) : Host.Outcome State Fault Refusal := .next (s.pass dt).retrainBurst

/-! ### Speed switches (R387, R388, R389) -/

/-- A set point is asked for (R387). -/
def State.askSp (s : State) (sp : Nat) : State :=
  if !s.rb Reg.MEM_STATUS_TRAINED || sp = s.r Reg.MEM_STATUS_SP then
    { s with mem := { s.mem with toSp := sp } }.w Reg.MEM_STATUS_SWITCHING 0
  else { s with mem := { s.mem with toSp := sp } }.w Reg.MEM_STATUS_SWITCHING 1

/-- The switch runs in a tail (R387, R388): results gathered by a sequence are discarded, and it starts from its first burst at the
new speed. -/
def State.speedSwitch (s : State) : State :=
  if !s.rb Reg.MEM_STATUS_SWITCHING then s
  else
    let s := s.toTail
    let lost := s.mem.seqs.any (fun (q : Nat × Nat) => 0 < q.2)
    let s := { s with mem := { s.mem with
      seqs := s.mem.seqs.map (fun (q : Nat × Nat) => (q.1, 0)), spoilt := if lost then some s.time.last else s.mem.spoilt } }.raiseIf
        lost 387 0
    (s.ws [(Reg.MEM_STATUS_SP, 0, s.mem.toSp), (Reg.MEM_STATUS_GRADE, 0, nth s.mem.grades s.mem.toSp),
      (Reg.MEM_STATUS_SWITCHING, 0, 0)]).raise 389 0

/-- SPEED_SWITCH (R387). -/
def execSpeedSwitch (dt : Nat) (s : State) : Host.Outcome State Fault Refusal := .next (s.pass dt).speedSwitch

/-- What a write of MEM_CTRL must keep (R389): SP1_GRADE not above SP0_GRADE; while the scan runs no change of SP_SEL to a grade at
which direct mode would break R232. -/
def State.memJoint (s : State) (r : RegFile) : Bool :=
  let sp := rget r Reg.MEM_CTRL_SP_SEL 0
  let grade := if s.rb Reg.MEM_STATUS_TRAINED then nth s.mem.grades sp
    else if sp = 0 then rget r Reg.MEM_CTRL_SP0_GRADE 0 else rget r Reg.MEM_CTRL_SP1_GRADE 0
  rget r Reg.MEM_CTRL_SP1_GRADE 0 ≤ rget r Reg.MEM_CTRL_SP0_GRADE 0
  && !(sp ≠ s.r Reg.MEM_CTRL_SP_SEL && s.rb Reg.EMIT_HEAD_CTRL_SCAN_EN && directAt r grade && !scanOk grade r)

/-! ### Refresh and self-refresh (R384, R390–R392) -/

/-- A refresh falls due in a channel that is not in self-refresh (R392), with room for `idle` refreshes in idle banks (R384). -/
def State.refreshDue (s : State) (ch idle : Nat) : State :=
  if !s.rb Reg.MEM_STATUS_TRAINED || 4 ≤ ch || bitsN (s.r Reg.MEM_STATUS_IN_SR) ch ch = 1 then s
  else
    let due := s.r Reg.MEM_CHAN_W0_POSTPONED ch + 1 - idle
    if 8 < due then
      ((s.w Reg.MEM_CHAN_W0_POSTPONED 8 ch).count Reg.MEM_CHAN_W2_FORCED ch).raiseTick 393 0 0
    else s.w Reg.MEM_CHAN_W0_POSTPONED due ch

/-- REFRESH_DUE (R384). -/
def execRefreshDue (ch idle dt : Nat) (s : State) : Host.Outcome State Fault Refusal := .next ((s.pass dt).refreshDue ch idle)

/-- MR4 of a channel read: its refresh rate code, and whether it lies above the device's rated limit (R384). -/
def State.mr4Read (s : State) (ch rate : Nat) (hot : Bool) : State :=
  if !s.rb Reg.MEM_STATUS_TRAINED || 4 ≤ ch then s
  else
    let was := s.mem.hot.getD ch false
    ({ s with mem := { s.mem with hot := s.mem.hot.set ch hot } }.w Reg.MEM_CHAN_W0_REF_RATE rate ch).raiseIf (hot && !was)
      392 0

/-- MR4_READ (R384). -/
def execMr4Read (ch rate : Nat) (hot : Bool) (dt : Nat) (s : State) : Host.Outcome State Fault Refusal :=
  .next ((s.pass dt).mr4Read ch rate hot)

/-- A channel idle for SR_IDLE enters self-refresh (R390), in banked whatever IDLE_SR says (R392), unless a request cancels the entry
before SRE (R391); no training or check of it is pending. -/
def State.selfRefresh (s : State) (ch : Nat) (cancelled : Bool) : State :=
  let s := s.gotoNow (nth s.mem.idleAt ch + cyclesUs (s.r Reg.MEM_CTRL_SR_IDLE))
  if !s.rb Reg.MEM_STATUS_TRAINED || 4 ≤ ch || (!s.rb Reg.MEM_CTRL_IDLE_SR && s.stage ≠ 3)
      || bitsN (s.r Reg.MEM_STATUS_IN_SR) ch ch = 1 || s.rb Reg.MEM_CHAN_W0_POSTPONED ch
      || s.mem.seqs.any (fun (q : Nat × Nat) => q.1 = ch)
      || (s.stage ≠ 3 && nth s.mem.oscAt ch + 100000 * s.r Reg.MEM_CTRL_RETRAIN_MS ≤ s.now) then s
  else
    if cancelled then
      { s with mem := { s.mem with idleAt := s.mem.idleAt.set ch s.now } }.count Reg.MEM_CHAN_W1_SR_CANCELS ch
    else (s.w Reg.MEM_STATUS_IN_SR (s.r Reg.MEM_STATUS_IN_SR + 2 ^ ch)).count Reg.MEM_CHAN_W1_SR_ENTRIES ch

/-- SELF_REFRESH_ENTRY (R390). -/
def execSelfRefreshEntry (ch : Nat) (cancelled : Bool) (s : State) : Host.Outcome State Fault Refusal :=
  .next ((s.pass 0).selfRefresh ch cancelled)

/-! ### Bulk reads (R394) -/

/-- 0x602 MEM_READ (R394). -/
def hMemRead : Handler := fun _ ps s =>
  let a := bits (nthW ps 1) 30 0
  let n := bits (nthW ps 2) 9 0
  if n = 0 || 1016 < n || s.installed < a / 7 + sectorsOf a n then (.badParam, s)
  else if s.owned (a / 7) (sectorsOf a n) then (.denied, s)
  else
    match s.readWords 5 a n with
    | (.bad k, s) => (.fault k, s)
    | (.ok ws, s) => (.reply ws n, s)

end Sys2Proof.Machine
end

