-- ==== Sys2Proof/Machine/Images.lean ====
section
/-! DEFINITION. Commands that write an image to DRAM, behind the seals (R122, R124, R143, R149–R152, R176, R188, R251, R394), and
the queue of writes that wait. -/

namespace Sys2Proof.Machine

/-- A completion is a named fault. -/
def Ans.isFault (a : Ans) : Bool := a.code = (Ans.fault 0).code

/-- An image to be written: the requester (R393), word address, words, WAIT and FORCE, the completion when every word is written, and
contexts whose parity failed as they were read (R177). -/
structure Img where
  req : Nat
  addr : Nat
  words : List Word
  wait : Bool
  force : Bool
  ans : Ans
  parity : List Nat
  deriving DecidableEq, Repr

/-- The contexts of a run that a read finds with a parity error (R177): words 0–1 of the bank it reads, words 2–7. -/
def State.parityIn (s : State) (staged : Bool) (first count : Nat) : List Nat :=
  let front := if staged then s.glaze.parityStaged else s.glaze.parity.filter (fun k => k % 8 < 2)
  (List.range' first count).filter (fun c => (front ++ s.glaze.parity.filter (fun k => 2 ≤ k % 8)).any (fun k => k / 8 = c))

/-- The image that a command writes; none where its parameters are outside their range. KILN_LUT_LOAD with DIR = 1 has the WAIT flag of
its word 0 and no FORCE flag, CAL_LOSS_LOAD with DIR = 1 neither: their chapters place no others (DESIGN CHOICE, assumption log
68). -/
def State.imageFor (s : State) (opcode : Nat) (ps : List Word) : Option Img :=
  let p0 := nthW ps 0
  match opcode with
  | 0x601 =>
    let ws := ps.drop 2
    if ws.isEmpty || 1016 < ws.length then none
    else some ⟨5, bits (nthW ps 1) 30 0, ws, bit p0 1, bit p0 0, .done ws.length, []⟩
  | 0x905 =>
    let t := bits p0 3 0
    some ⟨8, 7 * bits (nthW ps 1) 27 0, preImage s.fire.pre t, bit p0 6, false, .done t, []⟩
  | 0xA04 =>
    let first := bits (nthW ps 1) 15 0
    let count := bits (nthW ps 2) 15 0
    let bank := if bit p0 2 then s.glaze.staged else s.glaze.ctx
    if count = 0 || 49152 < first + count then none
    else
      let bad := s.parityIn (bit p0 2) first count
      let a := match bad.head? with | some p => Ans.fault p | none => Ans.done
      some ⟨8, 7 * bits (nthW ps 3) 27 0, (List.range count).flatMap (fun i => s.ctxImage bank (first + i)), bit p0 1, bit p0 0, a, bad⟩
  | 0xA05 => some ⟨8, 7 * bits (nthW ps 1) 27 0, lossImage s.cal.loss, false, false, .done, []⟩
  | 0xB01 => some ⟨8, 7 * bits (nthW ps 1) 27 0, s.faultImage, bit p0 1, bit p0 0, .done s.emit_.faults.length, []⟩
  | _ => none

/-- Surfaces that a write touched: INVALID after a named fault, clear after one that ended without error (R151). -/
def State.surfsAfter (s : State) (ids : List Nat) (bad : Bool) : State :=
  ids.foldl (fun (x : State) i => x.w Reg.KILN_SURF_W3_INVALID (b2n bad) i) s

/-- An image is written (R151, R152, R394): frames of a forced, sealed surface are torn. -/
def State.putImage (s : State) (i : Img) (ids : List Nat) : Ans × State :=
  let shut := ids.filter (fun k => s.rb Reg.KILN_SURF_W3_SEALED k)
  let s := if i.force then s.tear shut else s
  let s := i.parity.foldl (fun (x : State) p => x.parityHit p) s
  let r := s.store i.req i.addr i.words
  match r.2 with
  | some n => (.fault n, r.1.surfsAfter ids true)
  | none => (i.ans, r.1.surfsAfter ids i.ans.isFault)

/-- A command that writes an image (R143, R149, R150). -/
def State.writeCmd (s : State) (c : Ctx) (ps : List Word) : Ans × State :=
  match s.imageFor c.opcode ps with
  | none => (.badParam, s)
  | some i =>
    match s.gate i.addr i.words.length i.wait i.force with
    | .bad => (.badParam, s)
    | .denied => (.denied, s)
    | .sealed_ id => (.sealed id, s)
    | .resource => (.resource, s)
    | .queue ids => (.accepted, s.queueWrite c ids ps i.wait i.force)
    | .go ids => s.putImage i ids

/-- A queued write may run (R149, R150): its surfaces are unsealed, which a FORCE write does not ask, and idle (or written by the
DEFLATE job that waits itself), and no earlier write waits for one of them. -/
def State.mayRun (s : State) (before : List QWrite) (q : QWrite) : Bool :=
  let own := if q.opcode = 0xD01 then (s.eng.deflate.head?.map (·.ids)).getD [] else []
  q.surfs.all (fun i => (q.force || !s.rb Reg.KILN_SURF_W3_SEALED i) && (own.contains i || !s.rb Reg.KILN_SURF_W3_WRITING i))
  && !before.any (fun b => b.surfs.any (fun i => q.surfs.contains i))

/-- The first queued write that may run, in acceptance order. -/
def State.nextWrite (s : State) : List QWrite → List QWrite → Option QWrite
  | _, [] => none
  | before, q :: t => if s.mayRun before q then some q else s.nextWrite (before ++ [q]) t

/-- A write leaves the queue. -/
def State.unqueue (s : State) (q : QWrite) : State :=
  let l := s.fire.waitQ.erase q
  { s with fire := { s.fire with waitQ := l }, regs := rset s.regs Reg.KILN_WRITE_QUEUE_QUEUED 0 (waitWrites l) }

/-- Handlers 0x601, 0x905, 0xA04, 0xA05, 0xB01. -/
def hMemWrite : Handler := fun c ps s => s.writeCmd c ps
def hKilnLutLoad : Handler := fun c ps s =>
  let p0 := nthW ps 0
  if bit p0 7 then s.writeCmd c ps
  else s.loadTable 0 (bits p0 3 0) (bits (nthW ps 1) 27 0) 768 (bit p0 6) c ps
def hCtxRead : Handler := fun c ps s => s.writeCmd c ps
def hLossLoad : Handler := fun c ps s => if bit (nthW ps 0) 0 then s.writeCmd c ps else s.lossLoad ps
def hFaultRead : Handler := fun c ps s => s.writeCmd c ps

end Sys2Proof.Machine
end

