-- ==== Sys2Proof/Machine/LineCode.lean ====
section
/-! DEFINITION. The line code of the serial lanes, bit by bit (R257–R263): scrambler, stuffing, pad, marker; a superblock slot
as it is sent and as it is read. -/

namespace Sys2Proof.Machine

/-- The bits of a number, the most significant of `n` first. -/
def bitList (n v : Nat) : List Bool := (List.range n).map (fun i => v.testBit (n - 1 - i))

/-- The number of a bit list, first bit most significant. -/
def listNat (l : List Bool) : Nat := l.foldl (fun a b => 2 * a + b2n b) 0

/-- The scrambler's feedback t(n − 28) xor t(n − 31): bit k of the state is t(n − 1 − k) (R258). -/
def tapBit (st : Nat) : Bool := st.testBit 27 ^^ st.testBit 30

/-- A scrambled bit enters the 31-bit state. -/
def pushBit (st : Nat) (t : Bool) : Nat := (2 * st + b2n t) % 2 ^ 31

/-- Data bits scrambled (R258). -/
def scramble : Nat → List Bool → List Bool × Nat
  | st, [] => ([], st)
  | st, d :: ds =>
    let t := d ^^ tapBit st
    let r := scramble (pushBit st t) ds
    (t :: r.1, r.2)

/-- Scrambled bits recovered (R258). -/
def descramble : Nat → List Bool → List Bool × Nat
  | st, [] => ([], st)
  | st, t :: ts =>
    let r := descramble (pushBit st t) ts
    ((t ^^ tapBit st) :: r.1, r.2)

/-- Stuffing (R259): `prev` is the last bit sent, `n` the count so far (0: the next data bit starts at 1). -/
def stuff : Bool → Nat → List Bool → List Bool
  | _, _, [] => []
  | prev, n, b :: bs =>
    let m := if n = 0 || b ≠ prev then 1 else n + 1
    if m = 24 then b :: (!b) :: stuff (!b) 0 bs else b :: stuff b m bs

/-- Destuffing of `need` data bits (R259): the data bits, the stuff bits deleted, whether a stuff bit was wrong, and the
rest of the line. -/
def destuff : Nat → Bool → Nat → List Bool → List Bool × Nat × Bool × List Bool
  | 0, _, _, l => ([], 0, false, l)
  | _ + 1, _, _, [] => ([], 0, true, [])
  | need + 1, prev, n, b :: bs =>
    let m := if n = 0 || b ≠ prev then 1 else n + 1
    if m = 24 then
      match bs with
      | [] => ([b], 0, true, [])
      | s :: rest =>
        let r := destuff need s 0 rest
        (b :: r.1, r.2.1 + 1, r.2.2.1 || s = b, r.2.2.2)
    else
      let r := destuff need b m bs
      (b :: r.1, r.2.1, r.2.2.1, r.2.2.2)

/-- `n` alternating bits that begin with the opposite of `last` (R260). -/
def padBits : Nat → Bool → List Bool
  | 0, _ => []
  | n + 1, last => (!last) :: padBits n (!last)

/-- The defined marker types (R261). -/
def markerTypes : List Nat := [0x055, 0x066, 0x099, 0x0AA, 0x0E1, 0x01E, 0x0D2]

/-- The marker word of a type (R261). -/
def markerWord (ty : Nat) : Nat := 0x7FFFFFE00 + ty

/-- Bits of a superblock slot (R257). -/
def slotBits : Nat := 1237

/-- A superblock slot as it is sent: the scrambler's state, 32 data words and the marker type; the bits and the state after
them (R257–R261). -/
def encodeSlot (st : Nat) (ws : List Word) (ty : Nat) : List Bool × Nat :=
  let data := ((List.range 32).flatMap (fun i => bitList 36 (nthW ws i).toNat))
  let sc := scramble st data
  let line := stuff false 0 sc.1
  let pad := padBits (slotBits - 36 - line.length) (line.getLastD false)
  (line ++ pad ++ bitList 36 (markerWord ty), sc.2)

/-- The marker that closes a slot: none where the 0 and the 26 ones do not stand, else its 9-bit type (R262). -/
def slotMarker (l : List Bool) : Option Nat :=
  let m := listNat (l.drop (slotBits - 36))
  if m / 512 = 0x3FFFFFF then some (m % 512) else none

/-- The data of a slot (R259, R260): damaged when a stuff bit or the pad is wrong; the words and the descrambler's state. -/
def decodeData (st : Nat) (l : List Bool) : Option (List Word) × Nat :=
  let body := l.take (slotBits - 36)
  let r := destuff 1152 false 0 body
  let data := descramble st r.1
  let last := (body.take (1152 + r.2.1)).getLastD false
  let good := !r.2.2.1 && r.2.2.2 = padBits (49 - r.2.1) last && r.1.length = 1152
  let ws := (List.range 32).map (fun i => word (listNat ((data.1.drop (36 * i)).take 36)))
  (if good then some ws else none, data.2)

end Sys2Proof.Machine
end

