-- ==== Sys2Proof/Machine/Lanes.lean ====
section
/-! DEFINITION. The serial lanes (R255–R272): start and stop, receivers and their lock, the board lane table, the eye
monitor. -/

namespace Sys2Proof.Machine

/-! ### Families and domains (R255, R271) -/

/-- A lane transmits; a lane receives. -/
def laneTx (l : Nat) : Bool := l < 28
def laneRx (l : Nat) : Bool := l < 12 || 28 ≤ l

/-- The power domain of a lane (R271, R396). -/
def laneDomain (l : Nat) : Nat :=
  if l < 8 then 12 + l else if l < 12 then 20 + (l - 8) else if l < 28 then 73 + (l - 12) / 2 else 81

/-- A lane is in use (R271): its port is enabled, a string or an echo lane is assigned; Ethernet lanes in the manager role. -/
def State.laneUsed (s : State) (l : Nat) : Bool :=
  if l < 8 then s.rb Reg.LINK_PORT_W0_EN (l / 2)
  else if l < 12 then s.isMgr
  else if l < 28 then s.isWorker && (geoOf s.regs s.regs).lanes.contains (l - 12)
  else s.isWorker && s.rb Reg.EMIT_HEAD_CTRL_ECHO_EN

/-- Lane `l` beyond its registers. -/
def State.laneX (s : State) (l : Nat) : LaneX := s.lane.lanes.getD l LaneX.reset

/-- Lane `l` replaced. -/
def State.setLane (s : State) (l : Nat) (x : LaneX) : State := { s with lane := { s.lane with lanes := setNth s.lane.lanes l x } }

/-- The state of a lane (LINK_LANE W1): 0 off, 1 starting, 2 SEARCH, 3 TRACK, 4 LOCKED. -/
def State.laneState (s : State) (l : Nat) : Nat := s.r Reg.LINK_LANE_W1_STATE l

/-- Ethernet ports of the mode in force (R300). -/
def State.ethPorts (s : State) : Nat := if s.rb Reg.LINK_LANE_TABLE_ETH_MODE then 1 else 4

/-- A receive lane is locked: an Ethernet lane while its port is in PCS block lock (R264, R270). -/
def State.rxLocked (s : State) (l : Nat) : Bool :=
  if 8 ≤ l && l < 12 then
    let q := if s.ethPorts = 1 then 0 else l - 8
    s.laneState l ≠ 0 && bitsN (s.r Reg.MGR_ETH_CTRL_UP) q q = 1
  else s.laneState l = 4

/-- A lane event (R272), with LINK_LANE_LAST. -/
def State.laneEvent (s : State) (e l d : Nat) : State :=
  (s.ws [(Reg.LINK_LANE_LAST_LANE, 0, l), (Reg.LINK_LANE_LAST_EVENT, 0, e - 368)]).raise e d

/-! ### Start and stop (R265, R271) -/

/-- A lane may run: fitted, in use, not held, its domain on. -/
def State.laneMay (s : State) (l : Nat) : Bool :=
  s.rb Reg.LINK_LANE_W0_FITTED l && s.laneUsed l && !s.rb Reg.LINK_LANE_W1_HOLD l && s.domain (laneDomain l) = 2

/-- A lane starts (R265): seed, 16 ALIGN superblocks, the receiver in SEARCH. -/
def State.laneStart (s : State) (l : Nat) : State :=
  if !s.laneMay l || s.laneState l ≠ 0 then s
  else
    let x := { LaneX.reset with startAt := some s.now, scrTx := 0x2B3C4D5E, align := 16 }
    let s := (s.setLane l x).w Reg.LINK_LANE_W1_STATE (if laneRx l then 2 else 4) l
    let s := if laneRx l then s else s.driveBlank
    if l < 8 && l % 2 = 0 then
      let v := s.port (l / 2)
      s.setPort (l / 2) { v with align := 16 }
    else s

/-- A measurement on a lane stops when the lane leaves LOCKED (R270). -/
def State.eyeStop (s : State) (l : Nat) : State :=
  match s.lane.eye with
  | some (k, _) =>
    if k = l then
      ({ s with lane := { s.lane with eye := none } }.ws
        [(Reg.LINK_LANE_W3_EYE_VALID, l, 0), (Reg.LINK_EYE_CTRL_ERROR, 0, 0), (Reg.LINK_EYE_CTRL_BUSY, 0, 0)]).laneEvent 374 l l
    else s
  | none => s

/-- A receiver leaves LOCKED (R264, R270, R275): event 369, the count; a tile lane takes its port down. -/
def State.laneLost (s : State) (l st : Nat) : State :=
  if s.laneState l ≠ 4 || !laneRx l then s.w Reg.LINK_LANE_W1_STATE st l
  else
    let s := ((s.w Reg.LINK_LANE_W1_STATE st l).count Reg.LINK_LANE_W2_LOST l).laneEvent 369 l l
    let s := s.eyeStop l
    if l < 8 && s.r Reg.LINK_PORT_W1_STATE (l / 2) ≠ 0 then s.portDown (l / 2) else s

/-- A lane stops (R271): electrical idle. -/
def State.laneStop (s : State) (l : Nat) : State :=
  if s.laneState l = 0 then s
  else if laneRx l then (s.laneLost l 0).setLane l LaneX.reset
  else ((s.laneLost l 0).setLane l LaneX.reset).driveBlank

/-- Every lane that may no longer run stops (R271, R397). -/
def State.stopLanes (s : State) : State :=
  (List.range 32).foldl (fun (x : State) l => if x.laneState l ≠ 0 && !x.laneMay l then x.laneStop l else x) s

/-! ### Receivers (R262–R264) -/

/-- What a lane slot brought: nothing to deliver, a damaged superblock, or its marker type and words. -/
inductive LaneGot where
  | nothing
  | damaged
  | block (ty : Nat) (ws : List Word)
  deriving DecidableEq, Repr

/-- A superblock is discarded (R263): the count, event 370 at most once a tick. -/
def State.laneDamage (s : State) (l : Nat) : State :=
  let s := s.count Reg.LINK_LANE_W2_DAMAGED l
  if s.evt.once.contains (64 * 370) then s
  else { s with evt := { s.evt with once := (64 * 370) :: s.evt.once } }.laneEvent 370 l l

/-- A receiver reaches LOCKED (R264, R274). -/
def State.laneLocked (s : State) (l : Nat) : State := (s.w Reg.LINK_LANE_W1_STATE 4 l).laneEvent 368 l l

/-- The types each family uses; a defined type that a family does not use is IDLE (R261). -/
def laneType (l ty : Nat) : Nat :=
  if l < 8 then ty
  else if 28 ≤ l && (ty = 0x099 || ty = 0x0AA || ty = 0x01E || ty = 0x0D2) then 0x055
  else if ty = 0x0AA || ty = 0x01E || ty = 0x0D2 then 0x055 else ty

/-- The bits after the first marker of a defined type anywhere in a run of raw bits (R262). -/
def findMarker : List Bool → Option (List Bool)
  | [] => none
  | b :: t =>
    let m := listNat ((b :: t).take 36)
    if 35 ≤ t.length && m / 512 = 0x3FFFFFF && markerTypes.contains (m % 512) then some (t.drop 35) else findMarker t

/-- SEARCH: the raw bits are scanned for a marker; TRACK begins behind it (R262). -/
def State.laneSearch (s : State) (l : Nat) (x : LaneX) (raw : List Bool) : State :=
  match findMarker raw with
  | some rest => (s.setLane l { x with line := rest, good := 0, miss := 0 }).w Reg.LINK_LANE_W1_STATE 3 l
  | none => (s.setLane l { x with line := raw.drop (raw.length - 35), good := 0 }).w Reg.LINK_LANE_W1_STATE 2 l

/-- A receiver takes the next 1,237 line bits (R262, R263): in SEARCH it scans them all, else a slot ends 1,237 bits after the marker
before it. -/
def State.laneReceive (s : State) (l : Nat) (got : List Bool) : LaneGot × State :=
  let x := s.laneX l
  let all := x.line ++ got
  let rest := all.drop slotBits
  let line := all.take slotBits
  let m := slotMarker line
  let known := match m with | some ty => markerTypes.contains ty | none => false
  let d := decodeData x.scrRx line
  match s.laneState l with
  | 2 => (.nothing, s.laneSearch l x all)
  | 3 =>
    let y := { x with line := rest, scrRx := d.2, good := x.good + 1 }
    if all.length < slotBits then (.nothing, s.setLane l { x with line := all })
    else if !known then (.nothing, s.laneSearch l x rest)
    else if 4 ≤ y.good then (.nothing, (s.setLane l { y with miss := 0 }).laneLocked l)
    else (.nothing, s.setLane l y)
  | 4 =>
    let y := { x with line := rest, scrRx := d.2 }
    if all.length < slotBits then (.nothing, s.setLane l { x with line := all })
    else match m with
    | none =>
      let s := (s.setLane l { y with miss := x.miss + 1 }).laneDamage l
      if 1 ≤ x.miss then (.damaged, (s.laneLost l 2).laneSearch l y rest) else (.damaged, s)
    | some ty =>
      let s := s.setLane l { y with miss := 0 }
      if !known then (.damaged, (s.laneDamage l).laneEvent 371 l 0)
      else
        match d.1 with
        | none => (.damaged, s.laneDamage l)
        | some ws => (.block (laneType l ty) ws, s)
  | _ => (.nothing, s)

/-- The halves of a port superblock joined (R273): none is kept while its partner has not come. -/
def State.joinHalves (s : State) (l : Nat) (h : Option (Nat × List Word)) : Option (Option (Nat × List Word)) × State :=
  let o := if l % 2 = 0 then l + 1 else l - 1
  match (s.laneX o).held with
  | none => (none, s.setLane l { s.laneX l with held := some h })
  | some g =>
    let s := s.setLane o { s.laneX o with held := none }
    match (if l % 2 = 0 then h else g), (if l % 2 = 0 then g else h) with
    | some a, some b =>
      if a.1 = b.1 then
        (some (some (a.1, (List.range 64).map (fun w => nthW (if w % 2 = 0 then a.2 else b.2) (w / 2)))), s)
      else (some none, s)
    | _, _ => (some none, s)

/-- LANE_START: the lane's domain has come up or HOLD is clear (R265). -/
def execLaneStart (lane : Nat) (s : State) : Host.Outcome State Fault Refusal := .next ((s.pass 0).laneStart lane)

/-- LANE_START_FAIL (R264): 10 ms after lane start a receiver is not locked. -/
def execLaneStartFail (lane : Nat) (s : State) : Host.Outcome State Fault Refusal :=
  let x := s.laneX lane
  match x.startAt with
  | none => .next (s.pass 0)
  | some t =>
    if !laneRx lane || s.rxLocked lane || s.laneState lane = 0 || x.told then .next (s.pass 0)
    else .next (((s.gotoNow (t + cyclesUs 10000)).setLane lane { x with told := true }).laneEvent 375 lane lane)

/-! ### The board lane table (R266–R268) -/

/-- A lane word of the ROM defaults (R268). -/
def laneDefault : Word := pack [(35, 1), (29, 10), (20, 4), (16, 6), (12, 3)]

/-- A lane word may stand in an entry (R267). -/
def laneWordOk (l : Nat) (w : Word) : Bool :=
  bits w 9 0 = 0 && bits w 11 10 ≠ 3 && (!((8 ≤ l && l ≤ 11) || 28 ≤ l) || bits w 11 10 = 0)
  && bits w 28 25 + bits w 24 20 ≤ 32

/-- The entry of a table for a board type: ETH_MODE and the 32 lane words, where everything is valid (R266, R267). -/
def laneEntry (t : List Word) (board : Nat) : Option (Bool × List Word) :=
  let h := nthW t (2 + 33 * board)
  let ws := (List.range 32).map (fun i => nthW t (3 + 33 * board + i))
  if t.length = 531 && nthW t 0 = word 0x1A9E7AB01 && bits (nthW t 1) 35 32 = 1
    && (nthW t 530).toNat = crcWords (t.take 530) && bit h 35
    && (List.range 32).all (fun l => laneWordOk l (nthW ws l))
    && (List.range 4).all (fun p => bits (nthW ws (2 * p)) 11 10 = bits (nthW ws (2 * p + 1)) 11 10)
  then some (bit h 34, ws) else none

/-- The lane table of the flash: the bytes at LANE_OFFSET of the bisque header (R266, R503). -/
def laneTable (f : List Host.Cell) : List Word := flashWords f (nthW (flashWords f 0 4) 2).toNat 531

/-- Lane words taken into LINK_LANE, FITTED included. -/
def putLanes (r : RegFile) (ws : List Word) : RegFile :=
  (List.range 32).foldl (fun r l =>
    let a := Reg.LINK_LANE_W0_FITTED.at l
    rset (writeRaw r a (nthW ws l)) Reg.LINK_LANE_W0_FITTED l (b2n (bit (nthW ws l) 35))) r

/-- AON reads the lane table after the straps were sampled (R268). -/
def State.readLaneTable (s : State) : State :=
  match laneEntry (laneTable s.flash) (s.r Reg.MGMT_STRAPS_BOARD_TYPE) with
  | some e =>
    { s with regs := putLanes s.regs e.2 }.ws
      [(Reg.LINK_LANE_TABLE_VALID, 0, 1), (Reg.LINK_LANE_TABLE_DIGEST_OK, 0, 0), (Reg.LINK_LANE_TABLE_DEFAULTS, 0, 0),
       (Reg.LINK_LANE_TABLE_ETH_MODE, 0, b2n e.1)]
  | none =>
    ({ s with regs := putLanes s.regs (List.replicate 32 laneDefault) }.ws
      [(Reg.LINK_LANE_TABLE_VALID, 0, 0), (Reg.LINK_LANE_TABLE_DIGEST_OK, 0, 0), (Reg.LINK_LANE_TABLE_DEFAULTS, 0, 1),
       (Reg.LINK_LANE_TABLE_ETH_MODE, 0, 0)]).raise 372 0

/-- The digest check once the bisque image's verification has ended (R268). -/
def State.checkLaneDigest (s : State) (ok : Bool) : State :=
  if !s.rb Reg.LINK_LANE_TABLE_VALID then s
  else if ok then s.w Reg.LINK_LANE_TABLE_DIGEST_OK 1 else (s.w Reg.LINK_LANE_TABLE_DIGEST_OK 0).raise 372 0

/-! ### The eye monitor (R270) -/

/-- A measurement of lane `l` starts. -/
def State.eyeBegin (s : State) (l : Nat) (auto : Bool) : State :=
  { s with lane := { s.lane with eye := some (l, auto), eyeAt := s.now } }.ws [(Reg.LINK_EYE_CTRL_BUSY, 0, 1), (Reg.LINK_EYE_CTRL_ERROR, 0, 0)]

/-- A START write (R270): nothing while BUSY; ERROR for a lane that cannot be measured. -/
def State.eyeStart (s : State) (l : Nat) : State :=
  if s.lane.eye.isSome then s
  else if !laneRx l || !s.rxLocked l then s.w Reg.LINK_EYE_CTRL_ERROR 1
  else s.eyeBegin l false

/-- A measurement ends with its two openings. -/
def State.eyeDone (s : State) (h v : Nat) : State :=
  match s.lane.eye with
  | none => s
  | some (l, auto) =>
    let low := auto && (h < s.r Reg.LINK_EYE_CTRL_MIN_H || v < s.r Reg.LINK_EYE_CTRL_MIN_V)
    let s := { s with lane := { s.lane with eye := none } }.ws
      [(Reg.LINK_EYE_CTRL_BUSY, 0, 0), (Reg.LINK_LANE_W3_EYE_VALID, l, 1), (Reg.LINK_LANE_W3_EYE_H, l, h),
       (Reg.LINK_LANE_W3_EYE_V, l, v)]
    let s := s.laneEvent 374 l l
    if low then s.laneEvent 373 l l else s

/-- The line rate of a lane in kb/s (R255). -/
def State.laneRate (s : State) (l : Nat) : Nat :=
  if 8 ≤ l && l < 12 then 25781250
  else if 28 ≤ l then 3125000
  else (if l < 8 then 25000000 else 12500000) / 2 ^ s.r Reg.LINK_LANE_W0_RATE l

/-- How long a measurement takes, in REFCLK cycles (R270): 2,048 × 65,536 UI. -/
def State.eyeTime (s : State) (l : Nat) : Nat := 134217728 * 100000 / s.laneRate l + 1

/-- EYE_MEASURE_DONE: the openings measured, in 1/64 UI and steps of 10 mV; time goes on to the measurement's end. -/
def execEyeMeasureDone (h v : Nat) (s : State) : Host.Outcome State Fault Refusal :=
  match s.lane.eye with
  | none => .next (s.pass 0)
  | some e => .next ((s.gotoNow (s.lane.eyeAt + s.eyeTime e.1)).eyeDone h v)

/-- EYE_AUTO_SCHEDULE (R270): 60 s after the last automatic start the next locked receive lane is measured. -/
def execEyeAutoSchedule (s : State) : Host.Outcome State Fault Refusal :=
  let s := s.gotoNow (s.lane.autoAt + cyclesS 60)
  let order := (List.range 32).map (fun i => (s.lane.autoNext + i) % 32)
  let s' := { s with lane := { s.lane with autoAt := s.now } }
  if !s.rb Reg.LINK_EYE_CTRL_AUTO || s.lane.eye.isSome then .next s'
  else
    match order.find? (fun l => laneRx l && s.rxLocked l) with
    | none => .next s'
    | some l => .next ({ s' with lane := { s'.lane with autoNext := (l + 1) % 32 } }.eyeBegin l true)

/-! ### Transmission (R257, R265, R273) -/

/-- The line bits of a slot as words, the first bit most significant, filled with zeros. -/
def lineWords (l : List Bool) : List Word :=
  (List.range 35).map (fun i => word (listNat (((l.drop (36 * i)).take 36) ++ List.replicate (36 - ((l.drop (36 * i)).take 36).length) false)))

/-- One lane's slot leaves: its words and marker type, scrambled and stuffed. -/
def State.sendLane (s : State) (l ty : Nat) (ws : List Word) : State :=
  let x := s.laneX l
  let e := encodeSlot x.scrTx ws ty
  (s.setLane l { x with scrTx := e.2 }).emit .slot [l, ty] (lineWords e.1)

/-- The next slot of emitter lane `lane` leaves (R226, R265): ALIGN after the lane's start, else what `nextBlock` gives; whether it ended
a transfer packet or nothing waits. A lane that is off sends nothing. -/
def State.emitterSlot (s : State) (lane : Nat) (errs : List ReadErr) : Bool × State :=
  let l := lane + 12
  let x := s.laneX l
  if s.laneState l = 0 then (true, s)
  else if x.align ≠ 0 then (false, (s.setLane l { x with align := x.align - 1 }).sendLane l 0x0E1 [])
  else
    let b := s.nextBlock lane errs
    let short := !(s.laneTx lane).short.isEmpty
    (b.1.1 = 0x055 || (!short && (b.2.laneTx lane).open_.isNone),
      (if b.1.1 = 0x055 then b.2 else b.2.emit .emit [lane, b.1.1] b.1.2).sendLane l b.1.1 b.1.2)

/-- A port's next slot leaves on its two lanes (R273, R276, R278). -/
def State.sendPort (s : State) (p : Nat) : State :=
  let r := s.slotOf p
  let out := (s.port p).txq.filter (fun q => q.buf.isSome && !r.2.2.txq.contains q)
  let s := (s.setPort p r.2.2).leftQueue out
  let half (k : Nat) : List Word := (List.range 32).map (fun i => nthW r.2.1 (2 * i + k))
  (s.sendLane (2 * p) r.1 (half 0)).sendLane (2 * p + 1) r.1 (half 1)

end Sys2Proof.Machine
end

