-- ==== Sys2Proof/Machine/Hearth.lean ====
section
/-! DEFINITION. HEARTH: power domains, the housekeeping round, sensor classes, zones and cones, the damper, the energy ledger
(spec/17). -/

namespace Sys2Proof.Machine

/-- HEARTH beyond its registers replaced. -/
def State.setHearth (s : State) (h : HearthState) : State := { s with hearth := h }

/-! ### Standing energy (R414) -/

/-- Standing power in mW: the entries whose domains are on (R414). -/
def State.standing (s : State) : Nat :=
  let mw (j : Nat) : Nat := s.r Reg.HEARTH_STAND_MW j
  let on (d : Nat) : Bool := s.domain d = 2
  let many (l : List Nat) : Nat := (l.filter on).length
  mw 0 + (if [1, 2, 3, 4, 5, 10].any on then mw 1 else 0) + mw 2 * many [6, 7, 8, 9] + mw 3 * many [25, 26, 27, 28]
  + (if on 72 then mw 4 else 0) + mw 5 * many [70, 71]
  + mw 6 * many (List.range' 29 41 ++ [82, 83]) + (if on 11 || on 24 then mw 7 else 0)

/-- Line rate of a lane in Mb/s (R255). -/
def State.laneMbps (s : State) (l : Nat) : Nat :=
  let k := s.r Reg.LINK_LANE_W0_RATE l
  if l < 8 then nth [25000, 12500, 6250, 6250] k else if l < 12 then 25781 else if l < 28 then nth [12500, 6250, 3125, 3125] k
  else 3125

/-- Energy of the lane line bits of a period by class 0 (standing) and 1 (emitter and echo), in 1/16 pJ (R414): a lane is
charged for its line rate while its domain is on. -/
def State.laneEnergy (s : State) (own : Bool) : Nat :=
  let ls := (List.range 32).filter (fun l => s.domain (laneDomain l) = 2 && (if own then l < 12 else 12 ≤ l))
  (ls.map (fun l =>
    let el := if l < 8 then 7 else if l < 12 then 8 else if l < 28 then 6 else 9
    s.laneMbps l * 1000000 * s.r Reg.HEARTH_COEF_COEF el)).foldl (· + ·) 0
  * s.den / s.num

/-- Standing energy of a period with the tile and Ethernet lanes, in 1/16 pJ (R414). -/
def State.standEnergy (s : State) : Nat := s.standing * 16000000000 * s.den / s.num + s.laneEnergy true

/-- How far the present tick has gone, in units of 1/16,384 ns, at most a period. -/
def State.intoTick (s : State) : Nat := if s.time.ticked then min s.period (s.tb3 - s.sched s.time.last).toNat else 0

/-- The part of a period's energy that falls on what is left of the tick since the last change of a domain. -/
def State.restOf (s : State) (e : Nat) : Nat := e * (s.period - s.hearth.spent.1) / max 1 s.period

/-- Standing energy of the tick with the tile and Ethernet lanes, each domain for the time it is on (R414), in 1/16 pJ. -/
def State.tickStand (s : State) : Nat := s.hearth.spent.2.1 + s.restOf s.standEnergy

/-- Energy of the emitter and echo lanes of the tick, likewise. -/
def State.tickLanes (s : State) : Nat := s.hearth.spent.2.2 + s.restOf (s.laneEnergy false)

/-- What has been spent standing until now is set down, before a domain changes. -/
def State.setDown (s : State) : State :=
  let x := s.intoTick
  let part (e : Nat) : Nat := e * (x - s.hearth.spent.1) / max 1 s.period
  { s with hearth := { s.hearth with
    spent := (x, s.hearth.spent.2.1 + part s.standEnergy, s.hearth.spent.2.2 + part (s.laneEnergy false)) } }

/-! ### Power domains (R396–R398, R271) -/

/-- The lanes of a lane domain. -/
def domainLanes (d : Nat) : List Nat :=
  if 12 ≤ d && d < 20 then [d - 12] else if 20 ≤ d && d < 24 then [d - 12]
  else if 73 ≤ d && d < 81 then [12 + 2 * (d - 73), 13 + 2 * (d - 73)] else if d = 81 then [28, 29, 30, 31] else []

/-- The domain's own condition (R397): lane use, or the manager role for domain 8 and the MACs. -/
def State.ownCondition (s : State) (d : Nat) : Bool :=
  if d = 8 || d = 24 then s.isMgr
  else
    let ls := domainLanes d
    ls.isEmpty || ls.any (fun l => s.rb Reg.LINK_LANE_W0_FITTED l && s.laneUsed l)

/-- What the stage and the power state allow (R398, R514, R515): greenware and bisque without DRAM serve the links and the
sequencer, banked its set, glost everything. -/
def State.stageAllows (s : State) (d : Nat) : Bool :=
  let links := d ≤ 7 || d = 8 || (9 ≤ d && d ≤ 24)
  if s.start.cold || s.hearth.shutdown || s.start.held || !s.start.powered then false
  else if s.stage = 3 && s.start.exitTick.isNone then d ≤ 7 || d = 10 || d = 11 || (12 ≤ d && d ≤ 19) || (25 ≤ d && d ≤ 28)
    || d = 70 || d = 71
  else if s.stage = 2 || s.stage = 3 || (s.mp && s.dramUp) then true
  else if s.stage = 1 then links || (72 ≤ d && d ≤ 81) || (25 ≤ d && d ≤ 28 && s.pins.pgood.getD 3 true)
  else links || (25 ≤ d && d ≤ 28 && s.stage ≠ 0 && s.pins.pgood.getD 3 true)

/-- A domain is to be on (R397). -/
def State.wantOn (s : State) (d : Nat) : Bool :=
  d = 0 || ((match domainBlock d with
    | some b => blockOn s.role b
    | none => false) && s.ownCondition d && s.stageAllows d)

/-- A domain's state set. -/
def State.setDomain (s : State) (d v : Nat) : State :=
  if s.r Reg.HEARTH_DOMAIN_STATE d = v then s
  else
    let s := s.setDown
    { s.w Reg.HEARTH_DOMAIN_STATE v d with hearth := { s.hearth with skip := true } }

/-- Fields of class V that one domain of a block holds (R396, R397). -/
def domainFields (d : Nat) : List (Fld × Nat) :=
  let syn (n : Nat) : List (Fld × Nat) := [(Reg.CLOCK_SYN_W0_LOCKED, n), (Reg.CLOCK_SYN_W0_BAND, n), (Reg.CLOCK_SYN_W0_LOCK_US, n),
    (Reg.CLOCK_SYN_W1_PULL, n), (Reg.CLOCK_SYN_W1_FOLLOW, n)]
  if 6 ≤ d && d ≤ 8 then syn (d - 6)
  else if d = 9 then (Reg.CLOCK_DLL_LOCKED, 0) :: syn 3
  else if 25 ≤ d && d ≤ 28 then
    [(Reg.MEM_CHAN_W0_DRIFT, d - 25), (Reg.MEM_CHAN_W0_REF_RATE, d - 25), (Reg.MEM_CHAN_W0_POSTPONED, d - 25)]
  else []

/-- A domain goes off: its lanes stop (R271), its class V fields are lost, and with the last domain of a block the block's (R397). -/
def State.domainOff (s : State) (d : Nat) : State :=
  if s.r Reg.HEARTH_DOMAIN_STATE d = 0 then s
  else
    let s := s.setDomain d 0
    let s := { s with hearth := { s.hearth with ramps := s.hearth.ramps.filter (fun (x : Nat × Nat × Bool) => x.1 ≠ d) } }
    let s := ((domainLanes d).foldl State.laneStop s).ws ((domainFields d).map (fun p => (p.1, p.2, 0)))
    match domainBlock d with
    | some b =>
      if (blockDomains b).all (fun e => s.r Reg.HEARTH_DOMAIN_STATE e = 0 || s.r Reg.HEARTH_DOMAIN_STATE e = 3) && b ≠ 2 then
        { s with regs := loseClasses s.regs [b] [.V] }
      else s
    | none => s

/-- The domains follow what is wanted (R397, R398): those not wanted go off, those wanted ramp, at most four at once. -/
def State.settleDomains (s : State) : State :=
  let s := (List.range' 1 83).foldl (fun (x : State) d =>
    if x.wantOn d then x else if x.r Reg.HEARTH_DOMAIN_STATE d = 3 then x else x.domainOff d) s
  let s := s.setDomain 0 2
  (List.range' 1 83).foldl (fun (x : State) d =>
    if !x.wantOn d || x.r Reg.HEARTH_DOMAIN_STATE d ≠ 0 then x
    else if x.hearth.failed.contains d then x.setDomain d 3
    else if 4 ≤ x.hearth.ramps.length || x.hearth.retries.any (fun (r : Nat × Nat) => r.1 = d) then x
    else
      let x := x.setDomain d 1
      { x with hearth := { x.hearth with ramps := x.hearth.ramps ++ [(d, x.now, false)] } }) s

/-- A ramping domain reports power-good (R398). -/
def State.domainGood (s : State) (d : Nat) : State :=
  if s.hearth.ramps.any (fun (x : Nat × Nat × Bool) => x.1 = d) then
    let s := { s with hearth := { s.hearth with ramps := s.hearth.ramps.filter (fun (x : Nat × Nat × Bool) => x.1 ≠ d) } }
    (s.setDomain d 2).settleDomains
  else s

/-- A ramping domain has not reported power-good within 20 µs (R398). -/
def State.domainLate (s : State) (d : Nat) : State :=
  match s.hearth.ramps.find? (fun (x : Nat × Nat × Bool) => x.1 = d) with
  | none => s
  | some (_, at_, again) =>
    let s := s.gotoNow (at_ + cyclesUs 20)
    let s := { s with hearth := { s.hearth with ramps := s.hearth.ramps.filter (fun (x : Nat × Nat × Bool) => x.1 ≠ d) } }
    let s := s.w Reg.HEARTH_DOMAIN_FAILS (satN 2 (s.r Reg.HEARTH_DOMAIN_FAILS d + 1)) d
    if again then
      ({ s with hearth := { s.hearth with failed := d :: s.hearth.failed } }.setDomain d 3).raise 172 0 |>.settleDomains
    else
      ({ s with hearth := { s.hearth with retries := s.hearth.retries ++ [(d, s.now)] } }.setDomain d 0).settleDomains

/-- The retry of a domain, 100 µs after its first failure; it waits while four domains ramp (R398). -/
def State.domainAgain (s : State) (d : Nat) : State :=
  match s.hearth.retries.find? (fun (x : Nat × Nat) => x.1 = d) with
  | none => s
  | some (_, at_) =>
    let s := s.gotoNow (at_ + cyclesUs 100)
    if s.wantOn d && 4 ≤ s.hearth.ramps.length then s
    else
    let s := { s with hearth := { s.hearth with retries := s.hearth.retries.filter (fun (x : Nat × Nat) => x.1 ≠ d) } }
    if s.wantOn d then
      let s := s.setDomain d 1
      { s with hearth := { s.hearth with ramps := s.hearth.ramps ++ [(d, s.now, true)] } }
    else s

/-- DOMAIN_RAMP_TIMEOUT (R398). -/
def execDomainRampTimeout (d : Nat) (s : State) : Host.Outcome State Fault Refusal := .next ((s.pass 0).domainLate d)

/-- DOMAIN_RETRY (R398). -/
def execDomainRetry (d : Nat) (s : State) : Host.Outcome State Fault Refusal := .next ((s.pass 0).domainAgain d)

/-! ### Conversions (R399–R401) -/

/-- A remote input converted: none where the conversion is faulty (R401). -/
def State.convertTs (s : State) (i : Nat) (reading : Option Nat) : Option Int :=
  match reading with
  | none => none
  | some v =>
    if s.rb Reg.HEARTH_TS_W0_TYPE i then
      if 1200000 ≤ v || 10000 * v < 50 * (1200000 - v) || 2000000 * (1200000 - v) < 10000 * v then none
      else
        let t := Config.thermTemp (s.r Reg.HEARTH_TS_W1_R25 i) (s.r Reg.HEARTH_TS_W1_BETA i) v
        if t < -880 || 2400 < t then none else some t
    else
      let t := Config.diodeTemp (s.r Reg.HEARTH_TS_W0_IDEAL i) v
      if t < -880 || 2400 < t then none else some t

/-- A photodiode code (R400): the current in pA against the full scale of its gain. -/
def photoCode (gain pa : Nat) : Nat := min 65535 (65535 * pa / nth [10000000, 2500000, 625000, 156000] gain)

/-- The AMB code (R400), from a voltage in µV. -/
def ambCode (uv : Nat) : Nat := min 65535 (65535 * uv / 1800000)

/-! ### Remote sensors (R401–R403, R406) -/

/-- Sensor `i` in FAULT, its rise ring emptied and its cause gone (R401, R403). -/
def State.tsFault (s : State) (i : Nat) : State :=
  let s := { s with hearth := { s.hearth with good := s.hearth.good.set i 0, rings := s.hearth.rings.set i [] } }
  if s.r Reg.HEARTH_TS_W2_STATE i = 1 then s
  else
    (s.ws [(Reg.HEARTH_TS_W2_STATE, i, 1), (Reg.HEARTH_TS_W2_CAUSE, i, 0),
      (Reg.HEARTH_TS_W3_RISE, i, 0), (Reg.HEARTH_HK_STATUS_LAST_SENSOR, 0, i)]).raise (96 + i) i

/-- A good conversion: it leaves FAULT after ten consecutive good rounds (R401). -/
def State.tsGood (s : State) (i : Nat) (t : Int) : State :=
  let st := s.r Reg.HEARTH_TS_W2_STATE i
  let s := s.wi Reg.HEARTH_TS_W2_RAW t i
  if st = 1 then
    let n := nth s.hearth.good i + 1
    let s := { s with hearth := { s.hearth with good := s.hearth.good.set i n } }
    if n < 10 then s
    else (s.ws [(Reg.HEARTH_TS_W2_STATE, i, 0), (Reg.HEARTH_HK_STATUS_LAST_SENSOR, 0, i)]).raise 173 i
  else if st = 3 then s.w Reg.HEARTH_TS_W2_STATE 0 i
  else s

/-- A sensor of class OFF is not converted and reads 0 (R401). -/
def State.tsOff (s : State) (i : Nat) : State :=
  { s with hearth := { s.hearth with rings := s.hearth.rings.set i [], good := s.hearth.good.set i 0 } }.ws
    [(Reg.HEARTH_TS_W2_STATE, i, 3), (Reg.HEARTH_TS_W2_RAW, i, 0), (Reg.HEARTH_TS_W2_EFFECTIVE, i, 0),
     (Reg.HEARTH_TS_W2_COUNT, i, 0), (Reg.HEARTH_TS_W2_CAUSE, i, 0), (Reg.HEARTH_TS_W3_RISE, i, 0)]

/-- The conversions of the sixteen remote sensors. -/
def State.convertAll (s : State) (h : HkInput) : State :=
  (List.range 16).foldl (fun (x : State) i =>
    if x.r Reg.HEARTH_TS_W0_CLASS i = 0 then x.tsOff i
    else match x.convertTs i (h.ts.getD i none) with
      | none => x.tsFault i
      | some t => x.tsGood i t) s

/-- The middle of three. -/
def mid3 (a b c : Int) : Int := max (min a b) (min (max a b) c)

/-- m of R406: the neighbours' view, from those neither FAULT, OFF nor SUSPECT at the end of the round before. -/
def State.neighbours (s : State) (was : List Nat) (i : Nat) : Option Int :=
  let ns := ([s.r Reg.HEARTH_TS_W0_N0 i, s.r Reg.HEARTH_TS_W0_N1 i, s.r Reg.HEARTH_TS_W0_N2 i]).filter
    (fun n => n < 16 && was.getD n 3 = 0)
  match ns.map (fun n => s.ri Reg.HEARTH_TS_W2_RAW n) with
  | [a] => some a
  | [a, b] => some ((a + b + 1) / 2)
  | [a, b, c] => some (mid3 a b c)
  | _ => none

/-- The cross-check and the effective value of a sensor (R406). -/
def State.crossCheck (s : State) (was : List Nat) (i : Nat) : State :=
  let st := s.r Reg.HEARTH_TS_W2_STATE i
  if st = 1 || st = 3 then s
  else
    let raw := s.ri Reg.HEARTH_TS_W2_RAW i
    let m := s.neighbours was i
    let s :=
      match m with
      | none => s
      | some m =>
        let d := (raw - m).natAbs
        let count := if 128 < d then satN 5 (s.r Reg.HEARTH_TS_W2_COUNT i + 1) else 0
        let s := s.w Reg.HEARTH_TS_W2_COUNT count i
        if st = 2 then
          let n := if d ≤ 64 then nth s.hearth.near i + 1 else 0
          let s := { s with hearth := { s.hearth with near := s.hearth.near.set i n } }
          if n < 100 then s
          else (s.ws [(Reg.HEARTH_TS_W2_STATE, i, 0), (Reg.HEARTH_HK_STATUS_LAST_SENSOR, 0, i)]).raise 173 i
        else
          if count < 5 then s
          else
            ({ s with hearth := { s.hearth with near := s.hearth.near.set i 0 } }.ws
              [(Reg.HEARTH_TS_W2_STATE, i, 2), (Reg.HEARTH_HK_STATUS_LAST_SENSOR, 0, i)]).raise (112 + i) i
    s.wi Reg.HEARTH_TS_W2_EFFECTIVE (if s.r Reg.HEARTH_TS_W2_STATE i = 2 then m.getD raw else raw) i

/-- A sample of every 100th round (R403), and the rise. -/
def State.riseSample (s : State) (i : Nat) : State :=
  if s.r Reg.HEARTH_TS_W0_CLASS i ≠ 1 || s.r Reg.HEARTH_TS_W2_STATE i = 1 then s
  else
    let l := (s.ri Reg.HEARTH_TS_W2_EFFECTIVE i :: s.hearth.rings.getD i []).take 31
    let rise := if l.length < 31 then 0 else l.getD 0 0 - l.getD 30 0
    { s with hearth := { s.hearth with rings := s.hearth.rings.set i l } }.wi Reg.HEARTH_TS_W3_RISE rise i

/-- The damper cause of a remote sensor (R402, R403). -/
def State.tsCause (s : State) (i : Nat) : State :=
  let cls := s.r Reg.HEARTH_TS_W0_CLASS i
  let st := s.r Reg.HEARTH_TS_W2_STATE i
  if cls = 0 || st = 1 || st = 3 then s.w Reg.HEARTH_TS_W2_CAUSE 0 i
  else
    let v := s.ri Reg.HEARTH_TS_W2_EFFECTIVE i
    let lim : Int := 16 * (if cls = 1 then s.r Reg.HEARTH_DAMP_LIMITS_LAMP_LIMIT else s.r Reg.HEARTH_DAMP_LIMITS_BOARD_LIMIT)
    let full := cls = 1 && (s.hearth.rings.getD i []).length = 31
    let rise := s.ri Reg.HEARTH_TS_W3_RISE i * 10
    let unit : Int := s.r Reg.HEARTH_DAMP_LIMITS_RISE
    let up := lim ≤ v || (full && unit * 8 < rise)
    let down := v < lim - 32 && (!full || rise ≤ unit * 4)
    let was := s.rb Reg.HEARTH_TS_W2_CAUSE i
    if !was && up then
      (s.ws [(Reg.HEARTH_TS_W2_CAUSE, i, 1), (Reg.HEARTH_HK_STATUS_LAST_SENSOR, 0, i)]).raise (128 + i) i
    else if was && down then s.w Reg.HEARTH_TS_W2_CAUSE 0 i
    else s

/-- An on-die sensor: its value, its cause and its hard cause (R402). -/
def State.dieSensor (s : State) (j : Nat) (t : Int) : State :=
  let ease : Int := 16 * s.r Reg.HEARTH_DAMP_LIMITS_DIE_EASE
  let was := s.rb Reg.HEARTH_DIE_CAUSE j
  let wasHard := s.rb Reg.HEARTH_DIE_HARD j
  let on := ease ≤ t || (was && ease - 32 ≤ t)
  let hard := 1840 ≤ t || (wasHard && 1808 ≤ t)
  let s := (s.wi Reg.HEARTH_DIE_TEMP t j).ws [(Reg.HEARTH_DIE_CAUSE, j, b2n on), (Reg.HEARTH_DIE_HARD, j, b2n hard)]
  (s.raiseIf (on && !was) (144 + j) j).raiseIf (hard && !wasHard) 152 j

/-! ### Zones and cones (R407, R408) -/

/-- The mean of a list, floor((Σ + n/2) / n) (R407). -/
def meanRound (l : List Int) : Int :=
  if l.isEmpty then 0 else (2 * l.foldl (· + ·) 0 + l.length) / (2 * (l.length : Int))

/-- The effective values a zone takes its temperature from. -/
def State.zoneValues (s : State) (z : Nat) : List Int :=
  ((List.range 16).filter (fun i => bitsN (s.r Reg.HEARTH_ZONE_MASK z) i i = 1
    && (s.r Reg.HEARTH_TS_W2_STATE i = 0 || s.r Reg.HEARTH_TS_W2_STATE i = 2))).map (fun i => s.ri Reg.HEARTH_TS_W2_EFFECTIVE i)

/-- Threshold `k` of the cones. -/
def State.coneTh (s : State) (k : Nat) : Int := s.ri Reg.HEARTH_CONE_TH_TH k

/-- The cone that contains a temperature (R408). -/
def State.coneOf (s : State) (t : Int) : Nat := ((List.range 15).filter (fun k => s.coneTh k ≤ t)).length

/-- The cone after a round: up while Tz ≥ TH[c], down while Tz < TH[c−1] − 1 °C (R408). -/
def State.coneWalk (s : State) (t : Int) : Nat → Nat → Nat
  | 0, c => c
  | n + 1, c =>
    if c < 15 && s.coneTh c ≤ t then s.coneWalk t n (c + 1)
    else if 0 < c && t < s.coneTh (c - 1) - 16 then s.coneWalk t n (c - 1)
    else c

/-- Tz, BLIND and the cone of every zone (R407, R408). -/
def State.zones (s : State) : State :=
  let die := meanRound ((List.range 8).map (fun j => s.ri Reg.HEARTH_DIE_TEMP j))
  let own := (List.range 16).map (fun z => s.zoneValues z)
  let seen := (own.filter (fun (l : List Int) => !l.isEmpty)).map meanRound
  let top := match seen with
    | [] => die
    | a :: t => t.foldl max a
  (List.range 16).foldl (fun (x : State) z =>
    let l := own.getD z []
    let blind := l.isEmpty && x.r Reg.HEARTH_ZONE_MASK z ≠ 0
    let tz := if !l.isEmpty then meanRound l else if blind then top else die
    let cone := if x.hearth.coned.getD z false then x.coneWalk tz 32 (x.r Reg.HEARTH_ZONE_CONE z) else x.coneOf tz
    let was := x.rb Reg.HEARTH_ZONE_BLIND z
    let x := { x with hearth := { x.hearth with coned := x.hearth.coned.set z true } }
    ((x.wi Reg.HEARTH_ZONE_TZ tz z).ws [(Reg.HEARTH_ZONE_CONE, z, cone), (Reg.HEARTH_ZONE_BLIND, z, b2n blind)]).raiseIf
      (blind && !was) 158 0) s

/-! ### The damper (R409–R413) -/

/-- The raised causes in the order of R410: hard ones first, then by SRC code; SRC and KIND. A cause of a remote sensor counts as a rise
while its value lies below the limit and its rise has not come back to RISE/2 (DESIGN CHOICE, assumption log 74). -/
def State.causes (s : State) : List (Nat × Nat) :=
  ((List.range 8).filter (fun j => s.rb Reg.HEARTH_DIE_HARD j)).map (fun j => (16 + j, 2))
  ++ ((List.range 16).filter (fun i => s.rb Reg.HEARTH_TS_W2_CAUSE i)).map (fun i =>
      let lim : Int := 16 * (if s.r Reg.HEARTH_TS_W0_CLASS i = 1 then s.r Reg.HEARTH_DAMP_LIMITS_LAMP_LIMIT
        else s.r Reg.HEARTH_DAMP_LIMITS_BOARD_LIMIT)
      let rises := s.r Reg.HEARTH_TS_W0_CLASS i = 1 && (s.hearth.rings.getD i []).length = 31
        && (s.r Reg.HEARTH_DAMP_LIMITS_RISE : Int) * 4 < s.ri Reg.HEARTH_TS_W3_RISE i * 10
      (i, if s.ri Reg.HEARTH_TS_W2_EFFECTIVE i < lim && rises then 1 else 0))
  ++ ((List.range 8).filter (fun j => s.rb Reg.HEARTH_DIE_CAUSE j)).map (fun j => (16 + j, 0))

def State.anyCause (s : State) : Bool := !s.causes.isEmpty
def State.hardCause (s : State) : Bool := (List.range 8).any (fun j => s.rb Reg.HEARTH_DIE_HARD j)

/-- THERM_N and FAULT_N (R405). -/
def State.showAlarms (s : State) : State :=
  let therm := b2n (s.anyCause || s.hearth.shutdown)
  let fault := b2n ((List.range 12).any (fun k => s.rb Reg.HEARTH_RAIL_W0_OUT k))
  let s := if s.r Reg.HEARTH_HK_STATUS_THERM = therm then s
    else (s.w Reg.HEARTH_HK_STATUS_THERM therm).emit .pin [80] [word (1 - therm)]
  if s.r Reg.HEARTH_HK_STATUS_FAULT = fault then s
  else (s.w Reg.HEARTH_HK_STATUS_FAULT fault).emit .pin [81] [word (1 - fault)]

/-- SRC and KIND (R410). -/
def State.showCause (s : State) : State :=
  let c := s.causes.headD (31, 0)
  s.ws [(Reg.HEARTH_DAMP_STATUS_SRC, 0, c.1), (Reg.HEARTH_DAMP_STATUS_KIND, 0, c.2)]

/-- The mean ledger power of the last 64 completed ticks in 0.1 W (R411). -/
def State.meanPower (s : State) : Nat :=
  let e := (s.hearth.powers.map (·.1)).foldl (· + ·) 0
  let t := (s.hearth.powers.map (·.2)).foldl (· + ·) 0
  if t = 0 then s.r Reg.HEARTH_PLAN_CTRL_POWER_CAP else e * 10000 / t

/-- T_CAP set, and with it B_cool (R412). -/
def State.setCap (s : State) (cap : Nat) : State :=
  let p := s.r Reg.HEARTH_DAMP_STATUS_P_ENG
  let cool := if p = 0 then s.free 3 % 65536 else min 65535 (s.r Reg.HEARTH_DAMP_BRT_B_ENG * cap / p)
  let s := s.ws [(Reg.HEARTH_DAMP_STATUS_T_CAP, 0, satN 1023 cap), (Reg.HEARTH_DAMP_BRT_B_COOL, 0, cool)]
  if p = 0 then s.drawn else s

/-- A set point asked of the memory controller (R413), unless R389 would refuse it. -/
def State.requestSp (s : State) (sp : Nat) : State :=
  let g := if s.rb Reg.MEM_STATUS_TRAINED then nth s.mem.grades sp
    else if sp = 0 then s.r Reg.MEM_CTRL_SP0_GRADE else s.r Reg.MEM_CTRL_SP1_GRADE
  if !s.rb Reg.HEARTH_DAMP_CTRL_SP_AUTO || (s.scanOn && directAt s.regs g && !scanOk g s.regs) then s
  else (s.askSp sp).raise 174 0

/-- The damper returns to IDLE (R409, R412) and asks for SP0 (R413). -/
def State.damperIdle (s : State) : State :=
  ((s.ws [(Reg.HEARTH_DAMP_STATUS_STATE, 0, 0), (Reg.HEARTH_DAMP_STATUS_T_CAP, 0, 0),
    (Reg.HEARTH_DAMP_BRT_B_COOL, 0, 65535)]).raise 157 0).requestSp 0

/-- CAPPED is entered from EASING (R411). -/
def State.damperCap (s : State) : State :=
  let p := s.meanPower
  let cap := max (s.r Reg.HEARTH_DAMP_CTRL_FLOOR_W) (min (s.r Reg.HEARTH_PLAN_CTRL_POWER_CAP) p - s.r Reg.HEARTH_DAMP_CTRL_STEP_W)
  let s := s.ws [(Reg.HEARTH_DAMP_STATUS_STATE, 0, 2), (Reg.HEARTH_DAMP_STATUS_P_ENG, 0, satN 1023 p),
    (Reg.HEARTH_DAMP_BRT_B_ENG, 0, s.hearth.lastBrt.getD 65535)]
  let s := { s with hearth := { s.hearth with stepAt := s.now } }
  ((s.setCap cap).raise 155 0).requestSp 1

/-- What a change of the causes does to the damper (R409). -/
def State.damperCauses (s : State) (was : Bool) : State :=
  let any := s.anyCause
  let hard := s.hardCause
  let s := if was && !any then { s with hearth := { s.hearth with quietAt := s.now } } else s
  match s.r Reg.HEARTH_DAMP_STATUS_STATE with
  | 0 =>
    if any then
      let s := { s with hearth := { s.hearth with easeAt := s.now } }
      let s := (s.w Reg.HEARTH_DAMP_STATUS_STATE 1).raise 154 (s.causes.headD (31, 0)).1
      if hard then s.damperCap else s
    else s
  | 1 => if !any then s.damperIdle else if hard then s.damperCap else s
  | 3 =>
    if any then
      let s := { s with hearth := { s.hearth with stepAt := s.now } }
      ((s.w Reg.HEARTH_DAMP_STATUS_STATE 2).raise 155 0).requestSp 1
    else s
  | _ => s

/-- Causes, alarms and the damper after the sensors (R402, R405, R409, R410). -/
def State.judge (s : State) (was : Bool) : State := ((s.showCause).damperCauses was).showAlarms

/-- GRACE ends with a cause still raised (R409). -/
def State.graceEnd (s : State) : State :=
  if s.r Reg.HEARTH_DAMP_STATUS_STATE ≠ 1 then s
  else
    let s := s.gotoNow (s.hearth.easeAt + 10000000 * s.r Reg.HEARTH_DAMP_CTRL_GRACE)
    if s.anyCause then s.damperCap else s

/-- RELEASING with T_CAP one step up; it ends at P_ENG (R409, R411). -/
def State.capUp (s : State) : State :=
  let cap := s.r Reg.HEARTH_DAMP_STATUS_T_CAP + s.r Reg.HEARTH_DAMP_CTRL_STEP_W
  let s := ({ s with hearth := { s.hearth with stepAt := s.now } }.setCap cap).raise 156 0
  if s.r Reg.HEARTH_DAMP_STATUS_P_ENG ≤ cap then s.damperIdle else s

/-- The step of T_CAP that falls due (R411). -/
def State.capStep (s : State) : State :=
  let step := 10000000 * s.r Reg.HEARTH_DAMP_CTRL_STEP_TIME
  match s.r Reg.HEARTH_DAMP_STATUS_STATE with
  | 2 =>
    if s.anyCause then
      let s := s.gotoNow (s.hearth.stepAt + (if s.hardCause then 10000000 else step))
      let old := s.r Reg.HEARTH_DAMP_STATUS_T_CAP
      let cap := max (s.r Reg.HEARTH_DAMP_CTRL_FLOOR_W) (old - s.r Reg.HEARTH_DAMP_CTRL_STEP_W)
      let s := { s with hearth := { s.hearth with stepAt := s.now } }
      if cap = old then s else (s.setCap cap).raise 155 0
    else
      let s := s.gotoNow (s.hearth.quietAt + step)
      (s.w Reg.HEARTH_DAMP_STATUS_STATE 3).capUp
  | 3 => (s.gotoNow (s.hearth.stepAt + step)).capUp
  | _ => s

/-- DAMPER_GRACE_EXPIRY (R409). -/
def execDamperGraceExpiry (s : State) : Host.Outcome State Fault Refusal := .next (s.pass 0).graceEnd

/-- DAMPER_STEP_EXPIRY (R411). -/
def execDamperStepExpiry (s : State) : Host.Outcome State Fault Refusal := .next (s.pass 0).capStep

/-! ### Rails and telemetry (R416, R417) -/

/-- A rail monitor (R417): three consecutive rounds outside its window, three within. -/
def State.railRound (s : State) (k mv : Nat) : State :=
  let low := mv < s.r Reg.HEARTH_RAIL_W1_LOW k
  let high := s.r Reg.HEARTH_RAIL_W1_HIGH k < mv
  let out := low || high
  let a := if out then satN 3 (nth s.hearth.railOut k + 1) else 0
  let b := if out then 0 else satN 3 (nth s.hearth.railIn k + 1)
  let was := s.rb Reg.HEARTH_RAIL_W0_OUT k
  let s := { s with hearth := { s.hearth with railOut := s.hearth.railOut.set k a, railIn := s.hearth.railIn.set k b } }
  let now := if was then b < 3 else a = 3
  (s.ws [(Reg.HEARTH_RAIL_W0_MV, k, satN 4095 mv), (Reg.HEARTH_RAIL_W0_OUT, k, b2n now)]).raiseIf (now && !was)
    (if low then 170 else 171) 0

/-- POUT of a READ_POUT answer in Linear11 times 2^16, in W (R416). -/
def linear11 (w : Nat) : Nat :=
  let y := sext 11 w
  (y * (2 ^ (sext 5 (w / 2048) + 16).toNat : Nat)).toNat

/-- A regulator's answer of the round (R416): its part of the rail energy; ten failures in a row lose the entry. -/
def State.pmPoll (s : State) (k : Nat) (answer : Option Nat) : State :=
  if !s.rb Reg.HEARTH_PMBUS_EN k then s
  else
    let page := s.r Reg.HEARTH_PMBUS_PAGE k
    let s := s.emit .bus [s.r Reg.HEARTH_PMBUS_ADDR k] (if page = 0xFF then [0x96] else [0, word page, 0x96])
    match answer with
    | none =>
      let n := satN 10 (nth s.hearth.pmFail k + 1)
      let was := s.rb Reg.HEARTH_PMBUS_LOST k
      let s := { s with hearth := { s.hearth with pmFail := s.hearth.pmFail.set k n, skip := s.hearth.skip || n = 10 } }
      (s.w Reg.HEARTH_PMBUS_LOST (b2n (was || n = 10)) k).raiseIf (n = 10 && !was) 169 0
    | some w =>
      let e := linear11 w * s.r Reg.HEARTH_PMBUS_SHARE k * 10000 / 2 ^ 24
      { s with hearth := { s.hearth with
        pmFail := s.hearth.pmFail.set k 0, railE := s.hearth.railE + e
        skip := s.hearth.skip || s.rb Reg.HEARTH_PMBUS_LOST k } }.w
        Reg.HEARTH_PMBUS_LOST 0 k

/-! ### The round (R399) -/

/-- A housekeeping round is published (R399): every conversion, the sensors, zones and cones, causes and the damper, rails
and telemetry, and what calibration takes from it. -/
def State.hkRound (s : State) (h : HkInput) : State :=
  let was := s.anyCause
  let states := (List.range 16).map (fun i => s.r Reg.HEARTH_TS_W2_STATE i)
  let s := s.convertAll h
  let s := (List.range 16).foldl (fun (x : State) i => x.crossCheck states i) s
  let n := s.hearth.rounds + 1
  let s := { s with hearth := { s.hearth with rounds := n, hkAt := s.now } }
  let s := if n % 100 = 0 then (List.range 16).foldl (fun (x : State) i => x.riseSample i) s else s
  let s := (List.range 8).foldl (fun (x : State) j => x.dieSensor j (h.die.getD j 0)) s
  let s := (List.range 16).foldl (fun (x : State) i => x.tsCause i) s
  let s := (List.range 12).foldl (fun (x : State) k => x.railRound k (nth h.rails k)) s
  let s := (List.range 3).foldl (fun (x : State) k =>
    x.w Reg.HEARTH_PHOTO_CODE (photoCode (x.r Reg.HEARTH_PHOTO_PD_GAIN k) (nth h.photo k)) k) s
  let s := s.w Reg.HEARTH_PHOTO_CODE (ambCode h.amb) 3
  let s := (List.range 8).foldl (fun (x : State) k => x.pmPoll k (h.pm.getD k none)) s
  let s := (s.zones.w Reg.HEARTH_HK_STATUS_ROUNDS (n % 4096)).judge was
  s.calRound.ambRound.showSince

/-- HOUSEKEEPING_ROUND (R399): time goes on to the end of the round, 10 ms after the one before. -/
def execHousekeepingRound (h : HkInput) (s : State) : Host.Outcome State Fault Refusal :=
  if s.domain 4 ≠ 2 then .next (s.pass 0)
  else .next ((s.gotoNow (s.hearth.hkAt + 1000000)).hkRound h).settleDomains

/-! ### Register writes with checks of their own (R406, R408, R417) -/

/-- A write of HEARTH_TS W0 may not name the sensor itself (R406). -/
def tsWriteOk (i : Nat) (v : Word) : Bool := bits v 32 28 ≠ i && bits v 27 23 ≠ i && bits v 22 18 ≠ i

/-- The cone thresholds ascend by at least 2 °C at every step (R408). -/
def conesOk (r : RegFile) : Bool :=
  (List.range 14).all (fun k =>
    sext 13 (rget r Reg.HEARTH_CONE_TH_TH k) + 32 ≤ sext 13 (rget r Reg.HEARTH_CONE_TH_TH (k + 1)))

/-- HIGH of a rail window lies above LOW. -/
def railOk (v : Word) : Bool := bits v 35 24 < bits v 23 12

/-! ### The ledger (R414, R415) -/

/-- Every activity of a tick (R414): what the block counts itself (elements 0–3, 10 and 11) and, of the others, what it is told. -/
def State.allActs (s : State) (acts : List (Nat × Nat)) : List (Nat × Nat) :=
  s.hearth.acts ++ acts.filter (fun (a : Nat × Nat) => 4 ≤ a.1 % 12 && a.1 % 12 < 10)

/-- Energy of counted activities by class, in 1/16 pJ: `acts` holds 12 × class + element and a count; class 0 is the refire of
class 2, class 10 that of class 4 (R43). -/
def State.actEnergy (s : State) (acts : List (Nat × Nat)) (cls : Nat) : Nat :=
  ((acts.filter (fun (a : Nat × Nat) => a.1 / 12 = cls)).map (fun (a : Nat × Nat) =>
    a.2 * s.r Reg.HEARTH_COEF_COEF (a.1 % 12))).foldl (· + ·) 0

/-- Energy of the refire of a tick (R43). -/
def State.refireEnergy (s : State) (acts : List (Nat × Nat)) : Nat := s.actEnergy acts 0 + s.actEnergy acts 10

/-- Energy charged to a priority class with its refire (R42, R43, R49). -/
def State.classEnergy (s : State) (acts : List (Nat × Nat)) (cls : Nat) : Nat :=
  s.actEnergy acts cls + (if cls = 2 then s.actEnergy acts 0 else if cls = 4 then s.actEnergy acts 10 else 0)

/-- SCALE applied, and 1/16 pJ made into µJ (R414). -/
def State.scaled (s : State) (e : Nat) : Nat := s.r Reg.HEARTH_LEDGER_SCALE * e / (2 ^ 14 * 16000000)

/-- Ledger energy of a tick in µJ, its standing part that of the whole tick as it stands (R43, R414). -/
def State.ledger (s : State) (acts : List (Nat × Nat)) : Nat :=
  s.scaled (s.tickStand + s.tickLanes + ((List.range' 1 9).map (fun c => s.classEnergy acts c)).foldl (· + ·) 0)

/-- The interval is compared and SCALE moved (R415). -/
def State.reconcile (s : State) : State :=
  if s.hearth.ticks < 64 then s
  else
    let eL := s.hearth.ledgerE
    let eR := s.hearth.railE
    let skip := s.hearth.skip || !s.rb Reg.HEARTH_LEDGER_RECON_EN
    let s := { s with hearth := { s.hearth with ticks := 0, ledgerE := 0, railE := 0, skip := false } }
    if skip then s
    else
      let k := s.r Reg.HEARTH_LEDGER_SCALE
      let q := if eL = 0 then s.free 4 else k * eR / eL
      let ratio := if eL = 0 then s.free 5 % 65536 else satN 65535 (2 ^ 14 * eR / eL)
      let scale := max 0x2000 (min 0x8000 ((3 * k + q) / 4))
      let s := if eL = 0 then s.drawn else s
      let s := s.ws [(Reg.HEARTH_LEDGER_SCALE, 0, scale), (Reg.HEARTH_LEDGER_RATIO, 0, ratio),
        (Reg.HEARTH_RECON_E_R, 0, satN (2 ^ 18 - 1) (eR / 1000)), (Reg.HEARTH_RECON_E_L, 0, satN (2 ^ 18 - 1) (eL / 1000))]
      s.raiseIf (eL < 4 * ((eR : Int) - eL).natAbs) 168 0

/-- LEDGER_RECONCILE (R415): the interval of 64 ticks ends. -/
def execLedgerReconcile (s : State) : Host.Outcome State Fault Refusal := .next (s.pass 0).reconcile

end Sys2Proof.Machine
end

