-- ==== Sys2Proof/Machine/Planner.lean ====
section
/-! DEFINITION. The firing planner (R49–R55): the budget, the ladder, what a plan admits, what a projection withdraws, and the
close of a tick. -/

namespace Sys2Proof.Machine

/-! ### Budget (R49, R412) -/

/-- POWER_CAP × period in µJ. -/
def State.powerBudget (s : State) : Nat := s.r Reg.HEARTH_PLAN_CTRL_POWER_CAP * 100000 * s.den / s.num

/-- The thermal headroom cap in µJ, floor(T_CAP × period) in mJ, while the damper caps (R412). -/
def State.thermalCap (s : State) : Option Nat :=
  if 2 ≤ s.r Reg.HEARTH_DAMP_STATUS_STATE then some (1000 * (s.r Reg.HEARTH_DAMP_STATUS_T_CAP * 100 * s.den / s.num)) else none

/-- The budget of the tick and whether the damper's cap sets it. -/
def State.budget (s : State) : Nat × Bool :=
  match s.thermalCap with
  | none => (s.powerBudget, false)
  | some t => if t < s.powerBudget then (t, true) else (s.powerBudget, false)

/-- The standing load of a plan (R49): standing entries and lane line bits of a period, in µJ. -/
def State.standLoad (s : State) : Nat := s.scaled (s.standEnergy + s.laneEnergy false)

/-- DEPTH_LIMIT (R51). -/
def State.depthLimit (s : State) : Nat :=
  min 32 (115200000000 * s.r Reg.HEARTH_PLAN_CTRL_FIRE_WINDOW * s.den / (100 * s.num * max 1 (gridOf s.regs).rays))

/-! ### What an item costs (R49, R382, R414) -/

/-- An item with its place in the list, the time of its unit in ns and its energy in µJ. -/
structure Priced where
  id : Nat
  it : PlanItem
  ns : Nat
  uj : Nat
  deriving DecidableEq, Repr

/-- Payload of a lane in Mb/s (R255): 0.9312 of the line rate under the line code; for an Ethernet lane, of which the spec states no
payload, the line rate (DESIGN CHOICE, assumption log 27). -/
def State.lanePayload (s : State) (l : Nat) : Nat :=
  if 8 ≤ l && l < 12 then s.laneMbps l else s.laneMbps l * 9312 / 10000

/-- Bandwidth that R382 leaves to an arbitration class in MB/s: the peak for RT; for the others the part of their WEIGHT, up to a CAP
that is set (assumption log 27). -/
def State.memShare (s : State) (mode : Nat) : Nat :=
  let peak := peakMB (gradeNow s.regs)
  if mode = 0 then peak
  else
    let all := ((List.range 4).map (fun i => s.r Reg.MEM_ARB_WEIGHT i)).foldl (· + ·) 0
    let part := peak * s.r Reg.MEM_ARB_WEIGHT (mode - 1) / max 1 all
    let cap := 100 * s.r Reg.MEM_ARB_CAP (mode - 1)
    if cap = 0 then part else min cap part

/-- Time an item needs in ns, from its unit's rate (R49). -/
def State.itemNs (s : State) (i : PlanItem) : Nat :=
  match i.unit with
  | 0 => cdiv (i.work * 10) 1152
  | 1 => cdiv (i.work * 10) 48
  | 2 => cdiv (i.work * 10) 24
  | 3 => i.work * 2
  | 4 => cdiv (i.work * 1000) (max 1 (s.lanePayload i.mode))
  | 5 => cdiv (i.work * 1000) (max 1 (s.memShare i.mode))
  | 6 => i.work * i.mode
  | _ => cdiv (i.work * 1000) (max 1 i.mode)

/-- Energy of an item in µJ by the coefficients of R414. -/
def State.itemUj (s : State) (i : PlanItem) : Nat :=
  s.scaled ((i.acts.map (fun (a : Nat × Nat) => a.2 * s.r Reg.HEARTH_COEF_COEF a.1)).foldl (· + ·) 0)

/-- The items of a plan priced. -/
def State.priced (s : State) (items : List PlanItem) : List Priced :=
  items.zipIdx.map (fun (x : PlanItem × Nat) => ⟨x.2, x.1, s.itemNs x.1, s.itemUj x.1⟩)

/-! ### What a rung leaves of a plan (R53, R54, R136) -/

/-- The slots dropped at a rung: R51, then PRIO = 0, then down to the cap. -/
def planDrops (copy : RegFile) (limit rung : Nat) (cap : Option Nat) : List Nat :=
  let all := slotSet copy
  let d1 := dropSlots copy (all.length - limit) all
  if rung < 3 then d1
  else
    let left := all.filter (fun i => !d1.contains i)
    let p0 := left.filter (fun i => rget copy Reg.KILN_SLOT_W0_PRIO i = 0)
    let left := left.filter (fun i => !p0.contains i)
    let d3 := match cap with
      | some c => dropSlots copy (left.length - c) left
      | none => []
    d1 ++ p0 ++ d3

/-- What a rung leaves of an amount of an item's work: nothing of a dropped slot's work but its decoding, nothing of the frame's
classes 2 and 3 on rung 5 but the decoding of class 2, of the Kiln's on rung 4 the part of the views with even vx; `vw` is the scene
views across, so that with one view rung 4 gains nothing (R53, R54, R136). -/
def itemCost (vw : Nat) (drops : List Nat) (rung : Nat) (i : PlanItem) (n : Nat) : Nat :=
  let gone := match i.slot with
    | some k => drops.contains k
    | none => false
  if gone && i.unit ≠ 2 then 0
  else if rung = 5 && (i.cls = 3 || (i.cls = 2 && i.unit ≠ 2)) then 0
  else if 4 ≤ rung && i.unit = 0 then cdiv (n * cdiv vw 2) (max 1 vw)
  else n

/-- An item as a rung leaves it. -/
def Priced.onRung (p : Priced) (vw : Nat) (drops : List Nat) (rung : Nat) : Priced :=
  { p with ns := itemCost vw drops rung p.it p.ns, uj := itemCost vw drops rung p.it p.uj }

/-- Energy of a class. -/
def classCost (items : List Priced) (cls : Nat) : Nat :=
  ((items.filter (fun (i : Priced) => i.it.cls = cls)).map (fun (i : Priced) => i.uj)).foldl (· + ·) 0

/-- The priority at which an item is admitted (R49): its class; retraining whose drift has passed twice DRIFT_LIM counts as class 2
(R386). -/
def Priced.rank (hard : Bool) (i : Priced) : Nat := if hard && i.it.cls = 5 then 2 else i.it.cls

/-- The unit an item takes: of lanes and of memory each its own. -/
def PlanItem.unitKey (i : PlanItem) : Nat × Nat := (i.unit, if i.unit = 4 || i.unit = 5 then i.mode else 0)

/-- The standing load with classes 1–3 fits the budget, and classes 2 and 3 the units' time in the firing window (R49, R53). -/
def planFits (hard : Bool) (items : List Priced) (budget stand window : Nat) : Bool :=
  stand + classCost items 1 + classCost items 2 + classCost items 3 + (if hard then classCost items 5 else 0) ≤ budget
  && (items.map (fun (i : Priced) => i.it.unitKey)).all (fun u =>
    ((items.filter (fun (i : Priced) => i.it.unitKey = u && (i.it.cls = 2 || i.it.cls = 3))).map (fun (i : Priced) => i.ns)).foldl
      (· + ·) 0 ≤ window)

/-- The ladder walked down within one plan (R53): the rung and the depth cap it ends with. -/
def descend (hard : Bool) (copy : RegFile) (vw : Nat) (items : List Priced) (budget stand window limit floor : Nat) :
    Nat → Nat → Option Nat → Nat × Option Nat
  | 0, r, cap => (r, cap)
  | fuel + 1, r, cap =>
    let drops := planDrops copy limit r cap
    if 5 ≤ r || planFits hard (items.map (fun (i : Priced) => i.onRung vw drops r)) budget stand window then (r, cap)
    else if r = 3 then
      let left := (slotSet copy).length - drops.length
      if floor < left then descend hard copy vw items budget stand window limit floor fuel 3 (some (max floor (left - 2)))
      else descend hard copy vw items budget stand window limit floor fuel 4 cap
    else descend hard copy vw items budget stand window limit floor fuel (r + 1) cap

/-- The rungs entered on the way from one to another, as events (R53). -/
def rungEvents (a b : Nat) : List (Nat × Nat) := (List.range' (a + 1) (b - a)).map (fun r => (159 + r, 0))

/-! ### Admission (R49) -/

/-- The tick period in ns. -/
def State.periodNs (s : State) : Nat := s.den * 1000000000 / s.num

/-- The span of a class (R49): 1 the firing window, 2 the tail, 3 the whole period; class 1 has none. -/
def spanKind (pace : Bool) (cls : Nat) : Nat :=
  match cls with
  | 0 | 1 => 0
  | 2 | 3 => 1
  | 4 => if pace then 2 else 3
  | 5 => 2
  | _ => 3

/-- The length of the span of a class in ns (R49). -/
def State.span (s : State) (cls : Nat) : Nat :=
  let p := s.periodNs
  let win := p * s.r Reg.HEARTH_PLAN_CTRL_FIRE_WINDOW / 100
  match spanKind (s.es Reg.KILN_FRAME_CTRL_PACE ≠ 0) cls with
  | 1 => win
  | 2 => p - win
  | _ => p

/-- Work of class `d` takes time out of the span of class `c`: its own span lies inside it. -/
def spanHolds (pace : Bool) (c d : Nat) : Bool :=
  spanKind pace d ≠ 0 && (spanKind pace c = 3 || spanKind pace c = spanKind pace d)

/-- The classes a rung suspends (R53). -/
def suspended (rung cls : Nat) : Bool := (cls = 4 && 1 ≤ rung) || ((cls = 6 || cls = 7) && 2 ≤ rung)

/-- Items taken in their order until the next one no longer fits the energy left or the time left to its unit in the span of its
class (R49): all those taken, and the classes of which a part is deferred. -/
def admitWork (span : Nat → Nat) (pace : Bool) (rung : Nat) : List Priced → Nat → List Priced → Bool → List Nat →
    List Priced × List Nat
  | [], _, taken, _, late => (taken, late)
  | x :: t, left, taken, full, late =>
    let c := x.it.cls
    let used := ((taken.filter (fun (y : Priced) => y.it.unitKey = x.it.unitKey && spanHolds pace c y.it.cls)).map
      (fun (y : Priced) => y.ns)).foldl (· + ·) 0
    if suspended rung c then admitWork span pace rung t left taken full (c :: late)
    else if full || left < x.uj || span c < used + x.ns then admitWork span pace rung t left taken true (c :: late)
    else admitWork span pace rung t (left - x.uj) (taken ++ [x]) full late

/-! ### The plan of a tick -/

/-- The plan built at a tick for the frame whose firing period begins (R49–R54), over the items estimated for it. -/
def State.buildPlan (s : State) (f : FireFrame) (items : List PlanItem) : FireFrame × State :=
  let b := s.budget
  let stand := s.standLoad
  let limit := s.depthLimit
  let rung := s.r Reg.HEARTH_PLAN_STATUS_RUNG
  let win := s.span 2
  let pace := s.es Reg.KILN_FRAME_CTRL_PACE ≠ 0
  let vw := (gridOf s.regs).svw
  let all := s.priced items
  let hard := !s.mem.hard.isEmpty
  let w := descend hard f.copy vw all b.1 stand win limit (s.r Reg.HEARTH_PLAN_CTRL_DEPTH_FLOOR) 80 rung s.hearth.plan.cap
  let r := w.1
  let drops := planDrops f.copy limit r w.2
  let s := (s.w Reg.HEARTH_PLAN_STATUS_RUNG r).raises (rungEvents rung r ++ (drops.map (fun i => (611 + 4 * i, i))))
  let left := all.map (fun (i : Priced) => i.onRung vw drops r)
  -- on rung 5 decoding alone stays of class 2, as far as energy and time allow (R53)
  let must := left.filter (fun (i : Priced) => if r = 5 then i.it.cls = 1 else i.rank hard ≤ 3)
  let rest := (List.range' 2 8).flatMap (fun c => left.filter (fun (i : Priced) =>
    i.rank hard = c && (4 ≤ c || (r = 5 && c = 2 && (i.it.unit = 2 || i.it.cls = 5)))))
  let a := admitWork s.span pace r rest (b.1 - stand - (must.map (·.uj)).foldl (· + ·) 0) must false []
  let est := (List.range' 1 9).map (classCost a.1)
  let up := r - 1
  let upDrops := planDrops f.copy limit up (if 3 ≤ up then w.2 else none)
  let higher := 0 < r && planFits hard (all.map (fun (i : Priced) => i.onRung vw upDrops up)) b.1 stand win
  let plan : PlanState := ⟨true, w.2, a.1.map (fun (i : Priced) => ⟨i.id, i.it.cls, i.uj⟩), b.1, est, a.2, higher, false, false⟩
  let s := { s with hearth := { s.hearth with plan := plan } }.ws
    [(Reg.HEARTH_PLAN_STATUS_BUDGET, 0, satN 4095 (b.1 / 1000)),
     (Reg.HEARTH_PLAN_STATUS_PLANNED, 0, satN 4095 ((stand + est.foldl (· + ·) 0) / 1000)),
     (Reg.HEARTH_PLAN_STATUS_THERMAL, 0, b2n b.2)]
  let uses := (List.range 32).map (fun i => { f.uses.getD i SlotUse.fresh with dropped := drops.contains i })
  (({ f with uses := uses, half := 4 ≤ r } : FireFrame).reorder, s)

/-! ### Projection (R50) -/

/-- The items of classes 4–9 not yet done in the order in which they are withdrawn: the lowest class (9) first, within a
class the item admitted last first; class 5 stays while it ranks as class 2 (R386). -/
def withdrawOrder (hard : Bool) (items : List PlanWork) (done : List Nat) : List PlanWork :=
  (if hard then [9, 8, 7, 6, 4] else [9, 8, 7, 6, 5, 4]).flatMap (fun c =>
    (items.filter (fun (x : PlanWork) => x.cls = c && !done.contains x.id)).reverse)

/-- Items withdrawn one at a time until the projection fits (R50). -/
def withdraw (budget : Nat) : List PlanWork → Nat → List PlanWork
  | [], _ => []
  | x :: t, proj => if proj ≤ budget then [] else x :: withdraw budget t (proj - x.uj)

/-- The planner projects the tick's energy (R50): what the ledger holds of the tick so far, the admitted work not yet done
and the standing load of the whole period. -/
def State.project (s : State) (acts : List (Nat × Nat)) (done : List Nat) : State :=
  let p := s.hearth.plan
  let left := p.items.filter (fun (x : PlanWork) => !done.contains x.id)
  let proj := s.ledger (s.allActs acts) + (left.map (fun (x : PlanWork) => x.uj)).foldl (· + ·) 0
  let gone := withdraw p.budget (withdrawOrder (!s.mem.hard.isEmpty) p.items done) proj
  let ids := gone.map (·.id)
  { s with hearth := { s.hearth with plan := { p with
    items := p.items.filter (fun (x : PlanWork) => !ids.contains x.id)
    deferred := gone.map (·.cls) ++ p.deferred } } }

/-! ### The close of a tick (R50, R55, R411, R414) -/

/-- One rung up (R55): the count restarts; from rung 3 the full depth comes back at once. -/
def State.climb (s : State) : State :=
  let r := s.r Reg.HEARTH_PLAN_STATUS_RUNG
  let s := if r = 3 then { s with hearth := { s.hearth with plan := { s.hearth.plan with cap := none } } } else s
  let s := (s.ws [(Reg.HEARTH_PLAN_STATUS_RUNG, 0, r - 1), (Reg.HEARTH_PLAN_STATUS_CLEAN_COUNT, 0, 0)]).raise 165 0
  s.raiseIf (r = 1) 166 0

/-- The tick that ends is measured and weighed (R43, R50, R55): ledger energy, class energies, overrun, clean count, climb. On
rung 0, above which there is no rung, the count stays 0 (DESIGN CHOICE, assumption log 27). -/
def State.closePlan (s : State) (told : List (Nat × Nat)) : State :=
  let acts := s.allActs told
  let p := s.hearth.plan
  let e := s.ledger acts
  let cls (c : Nat) : Nat := s.scaled (s.classEnergy acts c + (if c = 1 then s.tickLanes else 0))
  let mj (n : Nat) : Nat := satN 4095 (n / 1000)
  let s := { s with hearth := { s.hearth with
    acts := [], spent := (0, 0, 0)
    powers := ((e, s.periodNs) :: s.hearth.powers).take 64
    ledgerE := s.hearth.ledgerE + e
    ticks := s.hearth.ticks + 1 } }
  let s := s.ws ([(Reg.HEARTH_PLAN_LAST_MEASURED, 0, mj e), (Reg.HEARTH_PLAN_LAST_REFIRE, 0, mj (s.scaled (s.refireEnergy acts)))]
    ++ (List.range 9).flatMap (fun i =>
      [(Reg.HEARTH_PLAN_CLASS_ESTIMATE, i, mj (nth p.est i)), (Reg.HEARTH_PLAN_CLASS_ACTUAL, i, mj (cls (i + 1))),
       (Reg.HEARTH_PLAN_CLASS_DEFERRED, i, b2n (p.deferred.contains (i + 1)))]))
  let past := p.on && p.budget < e
  let s := s.raiseIf past 167 0
  let r := s.r Reg.HEARTH_PLAN_STATUS_RUNG
  if p.other || !p.on then s
  else if past || p.late || !p.higher || r = 0 then s.w Reg.HEARTH_PLAN_STATUS_CLEAN_COUNT 0
  else
    let n := s.r Reg.HEARTH_PLAN_STATUS_CLEAN_COUNT + 1
    if n < 16 then s.w Reg.HEARTH_PLAN_STATUS_CLEAN_COUNT n else s.climb

end Sys2Proof.Machine
end

