-- ==== Sys2Proof/Machine/Coding.lean ====
section
/-! DEFINITION. What ENCODE's bitstreams hold (R325, R327, R328, R335, R338): parameter sets, the source picture, the reach of a
prediction, the motion search. What H.265 makes of them in bits is its own; these say which codings ENCODE may produce. -/

namespace Sys2Proof.Machine

/-- Width and height of a flow in samples (MGR_LIVE). -/
def flowW (r : RegFile) (fl : Nat) : Nat := rget r Reg.MGR_LIVE_W0_W_M1 fl + 1
def flowH (r : RegFile) (fl : Nat) : Nat := rget r Reg.MGR_LIVE_W0_H_M1 fl + 1

/-! ### Parameter sets (R325) -/

/-- The settings that every bitstream of ENCODE shares; the rest is filled in by its user. -/
def commonHead : StreamHead where
  profile := 1
  tier := 0
  level := 183
  chroma := 1
  depth := 10
  width := 0
  height := 0
  cropW := 0
  cropH := 0
  ctu := 32
  minCu := 8
  minTu := 4
  maxTu := 32
  deblock := true
  sao := true
  signHiding := true
  tmvp := false
  amp := false
  tskip := false
  scaling := false
  weighted := false
  longTerm := false
  pcm := false
  dependent := false
  wpp := false
  range := false
  refs := 1
  cols := []
  rows := []
  acrossTiles := false
  acrossSlices := false
  primaries := 1
  transfer := 1
  matrix := 1
  full := false
  rate := 0
  cpb := 0
  cbr := true
  lowDelay := true

/-- colour_primaries and matrix_coefficients of a flow's COLOR; transfer_characteristics of COLOR and TCS. -/
def vuiColour (color : Nat) : Nat := if color = 0 then 1 else 9
def vuiTransfer (color tcs : Nat) : Nat := match tcs with
  | 1 => 16
  | 2 => 18
  | _ => if color = 0 then 1 else 14

/-! ### The source picture (R325) -/

/-- A 4:2:2 pixel group of RFC 4175: Cb, Y of the first pixel, Cr, Y of the second, ten bits each. -/
def pgCb (v : Nat) : Nat := v / 2 ^ 30 % 1024
def pgY (v odd : Nat) : Nat := if odd = 0 then v / 2 ^ 20 % 1024 else v % 1024
def pgCr (v : Nat) : Nat := v / 2 ^ 10 % 1024

/-- The pixel group of a source picture; one that no frame of the flow has brought yet is free (assumption log 1). -/
def sourceGroup (pic : List (Nat × Nat)) (w x y : Nat) : Nat :=
  match sfind pic (y * (w / 2) + x / 2) with
  | some v => v
  | none => Config.freeValue (y * (w / 2) + x / 2) 60 % 2 ^ 40

/-- Luma of a source picture. -/
def sourceLuma (pic : List (Nat × Nat)) (w x y : Nat) : Nat := pgY (sourceGroup pic w x y) (x % 2)

/-- Chroma sample (Cb 0, Cr 1) of the picture that is coded: that of the line in 4:2:2; in 4:2:0 that of lines 2j and 2j + 1 as
(a + b + 1) >> 1 (R325). -/
def sourceChroma (pic : List (Nat × Nat)) (w : Nat) (main10 : Bool) (c x y : Nat) : Nat :=
  let at_ (l : Nat) : Nat := if c = 0 then pgCb (sourceGroup pic w (2 * x) l) else pgCr (sourceGroup pic w (2 * x) l)
  if main10 then (at_ (2 * y) + at_ (2 * y + 1) + 1) / 2 else at_ y

/-! ### Motion-constrained tiles (R327) -/

/-- A rectangle of samples: left, top, right and bottom, the last two outside. -/
structure Rect4 where
  x0 : Int
  y0 : Int
  x1 : Int
  y1 : Int
  deriving DecidableEq, Repr

def Rect4.holds (r : Rect4) (x0 y0 x1 y1 : Int) : Bool := r.x0 ≤ x0 && r.y0 ≤ y0 && x1 ≤ r.x1 && y1 ≤ r.y1

/-- Luma samples that a span of `n` from `p` reads along one axis under a vector in quarter samples: 3 more before and 4 after where the 8-tap
filter runs. -/
def lumaSpan (p n : Nat) (mv : Int) : Int × Int :=
  let a := (p : Int) + mv / 4
  if mv % 4 = 0 then (a, a + n) else (a - 3, a + n + 4)

/-- The same of chroma, in luma samples, along an axis that chroma halves (`sub`) or not: 1 before and 2 after where the 4-tap filter
runs. -/
def chromaSpan (p n : Nat) (mv : Int) (sub : Bool) : Int × Int :=
  if sub then
    let a := (p : Int) / 2 + mv / 8
    let b := a + ((n : Int) + 1) / 2
    if mv % 8 = 0 then (2 * a, 2 * b) else (2 * a - 2, 2 * b + 4)
  else
    let a := (p : Int) + mv / 4
    if mv % 4 = 0 then (a, a + n) else (a - 1, a + n + 2)

/-- A prediction with a vector stays inside the tile, interpolation margins included; `half` says that chroma is halved vertically
too. -/
def vectorInside (t : Rect4) (half : Bool) (p : CodedPu) (mv : Int × Int) : Bool :=
  let lx := lumaSpan p.x p.w mv.1
  let ly := lumaSpan p.y p.h mv.2
  let cx := chromaSpan p.x p.w mv.1 true
  let cy := chromaSpan p.y p.h mv.2 half
  t.holds lx.1 ly.1 lx.2 ly.2 && t.holds cx.1 cy.1 cx.2 cy.2

/-! ### Motion search (R335) -/

/-- A reference or source luma sample, held to the picture. -/
def lumaAt (pic : Nat → Nat → Nat) (w h : Nat) (x y : Int) : Nat :=
  pic (clampI 0 ((w : Int) - 1) x).toNat (clampI 0 ((h : Int) - 1) y).toNat

/-- The 8-tap luma filter of H.265 (PRESUMED: the standard's coefficients, assumption log 36). -/
def lumaTaps (f : Nat) : List Int :=
  match f with
  | 1 => [-1, 4, -10, 58, 17, -5, 1, 0]
  | 2 => [-1, 4, -11, 40, 40, -11, 4, -1]
  | 3 => [0, 1, -5, 17, 58, -10, 4, -1]
  | _ => [0, 0, 0, 64, 0, 0, 0, 0]

/-- A predicted luma sample at a place in quarter samples (H.265, one reference, 10 bits). -/
def lumaPred (pic : Nat → Nat → Nat) (w h : Nat) (qx qy : Int) : Int :=
  let fx := (qx % 4).toNat
  let fy := (qy % 4).toNat
  let row (y : Int) : Int :=
    let sum := ((lumaTaps fx).mapIdx (fun i c => c * (lumaAt pic w h (qx / 4 + i - 3) y : Int))).foldl (· + ·) 0
    sum / 4
  let v := if fy = 0 then row (qy / 4)
    else ((lumaTaps fy).mapIdx (fun i c => c * row (qy / 4 + i - 3))).foldl (· + ·) 0 / 64
  clampI 0 1023 ((v + 8) / 16)

/-- The picture reduced by `k` along each axis: averages of k × k samples. -/
def reduced (pic : Nat → Nat → Nat) (k x y : Nat) : Nat :=
  Config.meAverage ((List.range (k * k)).map (fun i => pic (k * x + i % k) (k * y + i / k)))

/-- The sum of absolute differences over a block. -/
def sad (n m : Nat) (a b : Nat → Nat → Int) : Nat :=
  ((List.range (n * m)).map (fun i => (a (i % n) (i / n) - b (i % n) (i / n)).natAbs)).foldl (· + ·) 0

/-- The candidates of least cost. -/
def bestOf (cost : Int × Int → Nat) (l : List (Int × Int)) : List (Int × Int) :=
  match l.map cost with
  | [] => []
  | c :: t => let m := t.foldl min c; l.filter (fun v => cost v = m)

/-- Vectors at most `a` and `b` away from a centre, in steps of `k`. -/
def around (c : Int × Int) (a b k : Nat) : List (Int × Int) :=
  (List.range ((2 * a + 1) * (2 * b + 1))).map (fun i =>
    (c.1 + k * ((i % (2 * a + 1) : Nat) - (a : Int)), c.2 + k * ((i / (2 * a + 1) : Nat) - (b : Int))))

/-- What the search of R335 may find for a prediction unit: source and reference luma of a picture of `w` by `h`, which vectors stay inside the
tile, and the co-located vector of the picture before. Each level starts from any of the best vectors of the level above. -/
def searchVectors (src ref : Nat → Nat → Nat) (w h : Nat) (inside : Int × Int → Bool) (p : CodedPu) (coloc : Int × Int) :
    List (Int × Int) :=
  let rate (v : Int × Int) : Nat := Config.meLambda p.qp * Config.mvdBits (v.1 - p.mvp.1) (v.2 - p.mvp.2)
  let level (k : Nat) (v : Int × Int) : Nat :=
    65536 * sad (cdiv p.w k) (cdiv p.h k) (fun x y => (reduced src k (p.x / k + x) (p.y / k + y) : Int))
        (fun x y => (lumaAt (reduced ref k) (cdiv w k) (cdiv h k) ((p.x / k + x : Nat) + v.1) ((p.y / k + y : Nat) + v.2) : Int))
      + rate (4 * k * v.1, 4 * k * v.2)
  let fine (v : Int × Int) : Nat :=
    65536 * sad p.w p.h (fun x y => (src (p.x + x) (p.y + y) : Int))
        (fun x y => lumaPred ref w h (4 * ((p.x + x : Nat) : Int) + v.1) (4 * ((p.y + y : Nat) : Int) + v.2)) + rate v
  let pick (k : Nat) (l : List (Int × Int)) : List (Int × Int) :=
    bestOf (level k) (l.filter (fun v => inside (4 * k * v.1, 4 * k * v.2)))
  let l2 := pick 4 (around (0, 0) 64 32 1 ++ around (coloc.1 / 16, coloc.2 / 16) 64 32 1)
  let l1 := l2.flatMap (fun v => pick 2 (around (2 * v.1, 2 * v.2) 4 4 1))
  let l0 := l1.flatMap (fun v => bestOf fine ((around (8 * v.1, 8 * v.2) 2 2 4).filter inside))
  let half := l0.flatMap (fun v => bestOf fine ((around v 1 1 2).filter inside))
  half.flatMap (fun v => bestOf fine ((around v 1 1 1).filter inside))

/-- The co-located vector of the previous picture: that of the inter unit that holds the place, else zero. -/
def colocVector (pus : List CodedPu) (x y : Nat) : Int × Int :=
  match pus.find? (fun p => p.x ≤ x && x < p.x + p.w && p.y ≤ y && y < p.y + p.h && p.kind ≠ 0) with
  | some p => p.mv
  | none => (0, 0)

/-! ### A tile's part of a CTU row -/

/-- How a row is to be coded: as intra, as what R338 leaves of an overrun, as a repeat picture (R331); the lowest QP. -/
structure RowMode where
  intra : Bool
  past : Bool
  repeat_ : Bool
  minQp : Nat
  deriving DecidableEq, Repr

/-- A unit is coded as the row's mode asks (R325, R331, R338). -/
def RowMode.allows (m : RowMode) (w h : Nat) (p : CodedPu) : Bool :=
  let whole := p.x % 32 = 0 && p.y % 32 = 0 && p.w = min 32 (w - p.x) && p.h = min 32 (h - p.y)
  p.qp ≤ 51 && m.minQp ≤ p.qp && p.w ≤ 32 && p.h ≤ 32
  && (if m.repeat_ then whole && p.kind = 3 && p.mv = (0, 0)
      else if m.intra then p.kind = 0 && (!m.past || (p.dc && p.qp = 51))
      else p.kind ≤ 3 && (!m.past || (p.kind = 3 && p.qp = 51)))

/-- The units of a tile's part of a CTU row fill it, each coded as the mode asks; no prediction leaves the tile (R327), and a vector that is
coded is one the search finds (R335). -/
def tileRowOk (m : RowMode) (w h : Nat) (half : Bool) (tile row : Rect4) (src ref : Nat → Nat → Nat) (before : List CodedPu)
    (c : CodedTile) : Bool :=
  c.pus.all (fun p => m.allows w h p && row.holds p.x p.y (p.x + p.w : Nat) (p.y + p.h : Nat)
    && (p.kind = 0 || vectorInside tile half p p.mv)
    && (p.kind ≠ 1 || (searchVectors src ref w h (vectorInside tile half p) p (colocVector before p.x p.y)).contains p.mv))
  && ((c.pus.map (fun p => p.w * p.h)).foldl (· + ·) 0 : Nat) = (row.x1 - row.x0) * (row.y1 - row.y0)
  && c.pus.Pairwise (fun p q => p.x + p.w ≤ q.x ∨ q.x + q.w ≤ p.x ∨ p.y + p.h ≤ q.y ∨ q.y + q.h ≤ p.y)

/-- Luma from a list of samples. -/
def lumaOf (l : List (Nat × Nat)) (x y : Nat) : Nat := sget 0 l (8192 * y + x)

end Sys2Proof.Machine
end

