-- ==== Sys2Proof/Machine/Encode.lean ====
section
/-! DEFINITION. ENCODE (R325–R345): layers, tiles and extractions, binding of live frames, rate control, live parcels, intra
requests, the spyhole. What H.265 coding gives is an operand of the rows that bring coded data; a coding that breaks what Machine/Coding.lean
says is none that ENCODE makes, and such a row has no effect (assumption log 36). -/

namespace Sys2Proof.Machine

def State.setEnc (s : State) (e : EncState) : State := { s with enc := e }

/-- This manager holds the peel (R317). -/
def State.peelHeld (s : State) : Bool := s.isMgr && 3 ≤ s.r Reg.MGR_PAIR_STATUS_STATE

/-! ### Layers and tiles (R326–R329) -/

/-- Tile columns and rows of a layer, in CTUs (R326). -/
def tileCols (r : RegFile) (l : Nat) : List Nat :=
  (List.range (rget r Reg.ENCODE_LAYER_W0_TCOLS_M1 l + 1)).map (fun i => rget r Reg.ENCODE_TCOL_CTUS (20 * l + i))
def tileRows (r : RegFile) (l : Nat) : List Nat :=
  (List.range (rget r Reg.ENCODE_LAYER_W0_TROWS_M1 l + 1)).map (fun j => rget r Reg.ENCODE_TROW_CTUS (22 * l + j))

/-- A layer keeps the rules of R326. -/
def layerOk (r : RegFile) (l : Nat) : Bool :=
  let fl := rget r Reg.ENCODE_LAYER_W0_FLOW l
  let w := flowW r fl
  let h := flowH r fl
  (tileCols r l).foldl (· + ·) 0 = cdiv w 32 && (tileRows r l).foldl (· + ·) 0 = cdiv h 32
  && (tileCols r l).all (fun c => 8 ≤ c) && (tileRows r l).all (fun c => 2 ≤ c) && w % 8 = 0 && h % 8 = 0

/-- CTUs before tile column or row `k`. -/
def ctusBefore (l : List Nat) (k : Nat) : Nat := (l.take k).foldl (· + ·) 0

/-- Samples of a span of tiles `a` to `b` along one axis, clipped at the picture's edge. -/
def spanSamples (l : List Nat) (a b size : Nat) : Nat :=
  min size (32 * ctusBefore l (b + 1)) - min size (32 * ctusBefore l a)

/-- The extraction that a map element names (R328): C0, C1, R0, R1. -/
def extraction (r : RegFile) (i : Nat) : Nat × Nat × Nat × Nat :=
  (rget r Reg.ENCODE_MAP_C0 i, rget r Reg.ENCODE_MAP_C1 i, rget r Reg.ENCODE_MAP_R0 i, rget r Reg.ENCODE_MAP_R1 i)

/-- CTU rows of an extraction: its first CTU row in the picture, and how many. -/
def extrRows (r : RegFile) (i : Nat) : Nat × Nat :=
  let l := rget r Reg.ENCODE_MAP_LAYER i
  let x := extraction r i
  let rows := tileRows r l
  (ctusBefore rows x.2.2.1, ctusBefore rows (x.2.2.2 + 1) - ctusBefore rows x.2.2.1)

/-- A map element may stand (R329): its rectangle lies in the grid, and its live share is at most 320 Mb/s. -/
def mapOk (r : RegFile) (num den i : Nat) : Bool :=
  let l := rget r Reg.ENCODE_MAP_LAYER i
  let x := extraction r i
  let fl := rget r Reg.ENCODE_LAYER_W0_FLOW l
  let w := flowW r fl
  let h := flowH r fl
  let part := spanSamples (tileCols r l) x.1 x.2.1 w * spanSamples (tileRows r l) x.2.2.1 x.2.2.2 h
  x.1 ≤ x.2.1 && x.2.2.1 ≤ x.2.2.2 && x.2.1 ≤ rget r Reg.ENCODE_LAYER_W0_TCOLS_M1 l
  && x.2.2.2 ≤ rget r Reg.ENCODE_LAYER_W0_TROWS_M1 l
  && rget r Reg.ENCODE_LAYER_W1_RATE_KBPS l * 1000 * part * den + (extrRows r i).2 * 13 * 36 * num * (w * h)
    ≤ 320000000 * (w * h) * den

/-- SPLICE of MGR_WORKER equals EN of the map element (R328). -/
def State.showSplice (s : State) (i : Nat) : State :=
  s.w Reg.MGR_WORKER_W0_SPLICE (rget s.enc.regs Reg.ENCODE_MAP_EN i) i

/-- Source pictures of a flow by frame (R332). -/
def State.flowPics (s : State) (fl : Nat) : List (Nat × List (Nat × Nat)) := (s.mgr.flows.getD fl Flow.reset).pics

/-- Layer `l` and extraction `i` beyond their registers. -/
def State.layer (s : State) (l : Nat) : EncLayer := s.enc.layers.getD l EncLayer.reset
def State.setLayer (s : State) (l : Nat) (x : EncLayer) : State := s.setEnc { s.enc with layers := setNth s.enc.layers l x }
def State.extr (s : State) (i : Nat) : Extr := (sfind s.enc.extr i).getD Extr.reset
def State.setExtr (s : State) (i : Nat) (x : Extr) : State := s.setEnc { s.enc with extr := sput s.enc.extr i x }

/-- The registers of ENCODE that R329 takes at a tick: those of the layers and the map. -/
def encWord (a : Nat) : Bool := (0x80010 ≤ a && a < 0x80018) || (0x80040 ≤ a && a < 0x8009C) || (0x80100 ≤ a && a < 0x80200)

/-- The part of a register file that R329 takes. -/
def encPart (r : RegFile) : RegFile := r.filter (fun p => encWord (p.1 / 64))

/-- A layer restarts (R318, R329, R339): IDR next, a fresh salt, deficits and loans cleared, event 548. -/
def State.restartLayer (s : State) (l : Nat) : State :=
  let x := s.layer l
  let s := s.setLayer l { EncLayer.reset with salt := Config.random s.sec.draws % 2 ^ 32, restart := true, bound := x.bound }
  ({ s with sec := { s.sec with draws := s.sec.draws + 1 } }.w Reg.ENCODE_LAYER_STATUS_W0_OWED 0 l).raise 548 0

/-- A layer's words or its tile grid differ between two copies. -/
def layerChanged (a b : RegFile) (l : Nat) : Bool :=
  (List.range 2).any (fun k => wordOf a (0x80010 + 4 * l + k) ≠ wordOf b (0x80010 + 4 * l + k))
  || tileCols a l ≠ tileCols b l || tileRows a l ≠ tileRows b l

/-- The tiles of an extraction, by key. -/
def extrTiles (r : RegFile) (i : Nat) : List Nat :=
  let x := extraction r i
  (List.range' x.2.2.1 (x.2.2.2 + 1 - x.2.2.1)).flatMap (fun tr =>
    (List.range' x.1 (x.2.1 + 1 - x.1)).map (fun tc => 20 * tr + tc))

/-- The extraction of map element `i` is owed an IDR_N_LP, and its tiles intra coding, in the next picture whose first row is not coded
(R329, R341). -/
def State.askIdr (s : State) (i : Nat) : State :=
  let l := rget s.enc.regs Reg.ENCODE_MAP_LAYER i
  let x := s.layer l
  (s.setLayer l { x with wait := x.wait ++ (extrTiles s.enc.regs i).filter (fun k => !x.wait.contains k) }).setExtr i
    { s.extr i with wait := true }

/-- Writes of the layers and the map take effect (R329). -/
def State.takeEncode (s : State) : State :=
  let old := s.enc.regs
  let new := encPart s.regs
  if old = new || !s.isMgr then s
  else
    let s := s.setEnc { s.enc with regs := new }
    let on (l : Nat) : Bool := rget new Reg.ENCODE_LAYER_W0_EN l ≠ 0
    let s := (List.range 2).foldl (fun (x : State) l =>
      if layerChanged old new l then
        if on l && x.peelHeld then x.restartLayer l else x.setLayer l EncLayer.reset
      else x) s
    (List.range 256).foldl (fun (x : State) i =>
      if wordOf old (Reg.ENCODE_MAP_EN.at i) ≠ wordOf new (Reg.ENCODE_MAP_EN.at i) then
        let x := (if rget new Reg.ENCODE_MAP_EN i ≠ 0 then x.askIdr i else x.setExtr i Extr.reset).showSplice i
        x.raiseIf (rget new Reg.ENCODE_MAP_EN i ≠ 0 && x.peelHeld) 548 0
      else x) s

/-! ### Ingest windows (R330, R331) -/

/-- The instant at which the ingest window of frame F opens, on TB3 (R330). -/
def State.ingestOpen (s : State) (f : Nat) : Int :=
  s.sched (f - 1) - us 1550 - us (s.r Reg.KILN_LIVE_CTRL_LIVE_TAIL)
    - ((100 - s.r Reg.HEARTH_PLAN_CTRL_FIRE_WINDOW) * s.period / 100 : Nat)

/-- The frame whose ingest window holds an instant of TB3 (R330). -/
def State.ingestFrame (s : State) (t : Int) : Nat :=
  let u := t + us 1550 + us (s.r Reg.KILN_LIVE_CTRL_LIVE_TAIL)
    + ((100 - s.r Reg.HEARTH_PLAN_CTRL_FIRE_WINDOW) * s.period / 100 : Nat)
  ((s.anchorTick : Int) + (u - s.anchorTime) * s.num / (s.den * secUnits : Nat)).toNat + 1

/-- Layers enabled for a flow, by the registers in force. -/
def State.layersOf (s : State) (fl : Nat) : List Nat :=
  (List.range 2).filter (fun l => rget s.enc.regs Reg.ENCODE_LAYER_W0_EN l ≠ 0
    && rget s.enc.regs Reg.ENCODE_LAYER_W0_FLOW l = fl)

/-- A source frame of a flow binds to frame `f` in a layer (R331): a frame that has one already drops it, event 545. -/
def State.bindLayer (s : State) (l f : Nat) : State :=
  let x := s.layer l
  match x.bound with
  | some b =>
    if f ≤ b then (s.count Reg.ENCODE_LAYER_STATUS_W1_DROPS l).raise 545 (f % 2 ^ 28)
    else (s.setLayer l { x with bound := some f, work := x.work ++ [(f, 0, false)] }).w Reg.ENCODE_LAYER_STATUS_W0_BOUND_LO
      (f % 4096) l
  | none => (s.setLayer l { x with bound := some f, work := x.work ++ [(f, 0, false)] }).w Reg.ENCODE_LAYER_STATUS_W0_BOUND_LO
      (f % 4096) l

/-! ### Rate control (R336–R340) -/

/-- B_t of R336: the budget of a tile of `part` samples out of `whole`. -/
def tileBudget (kbps num den part whole : Nat) : Nat := kbps * 1000 * den * part / (num * whole)

/-- b_r of R337 for row `r` of a tile of `n` rows, from the rows of the picture before. -/
def rowBudget (b : Nat) (prev : List Nat) (n r : Nat) : Nat :=
  let sum := prev.foldl (· + ·) 0
  if prev.isEmpty || sum = 0 then b / n else b * (n * nth prev r + sum) / (2 * n * sum)

/-- A tile's picture begins (R336, R339, R340): repayment, the deficit first; an intra-coded one borrows. -/
def TileRc.begin_ (t : TileRc) (bt boost : Nat) : TileRc :=
  let pay := min (t.deficit + t.loan) (bt / 8)
  let payD := min pay t.deficit
  let b := bt - pay
  let extra := if t.intra then b * boost / 8 else 0
  { t with
    spent := [], budget := b + extra, carry := 0, past := false
    deficit := t.deficit - payD, loan := t.loan - (pay - payD) + extra, intra := false }

/-- What a row aims at (R337). -/
def TileRc.aim (t : TileRc) (n : Nat) : Nat := rowBudget t.budget t.prev n t.spent.length + t.carry

/-- Before a row (R338): what is left of the budget is not larger than the rest as skip rows. -/
def TileRc.short (t : TileRc) (skip : Nat) : Bool := (t.budget : Int) - (t.spent.foldl (· + ·) 0 : Nat) ≤ skip

/-- A row of `bits` bits is coded; with the last of `n` rows the picture's overrun becomes deficit, up to a quarter of the
budget, and its rows those of the picture before (R337, R338). -/
def TileRc.row (t : TileRc) (n bits : Nat) : TileRc :=
  let aim := t.aim n
  let spent := t.spent ++ [bits]
  let sum := spent.foldl (· + ·) 0
  let t := { t with spent := spent, carry := aim - bits }
  if spent.length < n then t
  else { t with prev := spent, spent := [], carry := 0, deficit := t.deficit + min (sum - t.budget) (t.budget / 4) }

/-- Tile `k` of a layer (row × 20 + column). -/
def EncLayer.tile (x : EncLayer) (k : Nat) : TileRc := (sfind x.tiles k).getD TileRc.reset

/-- The tile row that holds a CTU row, and the row inside it. -/
def rowIn : List Nat → Nat → Nat → Nat × Nat
  | [], k, r => (k, r)
  | n :: t, k, r => if r < n then (k, r) else rowIn t (k + 1) (r - n)

/-- OWED: deficit and loan outstanding over all tiles, saturating. -/
def State.showOwed (s : State) (l : Nat) : State :=
  let sum := ((s.layer l).tiles.map (fun (p : Nat × TileRc) => p.2.deficit + p.2.loan)).foldl (· + ·) 0
  s.w Reg.ENCODE_LAYER_STATUS_W0_OWED (satN (2 ^ 24 - 1) sum) l

/-- Samples of a tile of a layer, and of the layer's picture. -/
def tileRect (r e : RegFile) (l tr tc : Nat) : Rect4 :=
  let fl := rget e Reg.ENCODE_LAYER_W0_FLOW l
  let c := tileCols e l
  let w := tileRows e l
  ⟨(32 * ctusBefore c tc : Nat), (32 * ctusBefore w tr : Nat), (min (flowW r fl) (32 * ctusBefore c (tc + 1)) : Nat),
    (min (flowH r fl) (32 * ctusBefore w (tr + 1)) : Nat)⟩

/-- A CTU row's part of a tile. -/
def Rect4.ctuRow (t : Rect4) (row : Nat) : Rect4 := { t with y0 := (32 * row : Nat), y1 := min t.y1 (32 * row + 32 : Nat) }

/-- Rate control of a tile before its row `r` (R336–R340): a picture's budget when it is its first row; what is left of it is not more than
the rest costs as skip rows. -/
def State.tileBefore (s : State) (l tr tc r skip : Nat) : TileRc :=
  let e := s.enc.regs
  let x := s.layer l
  let fl := rget e Reg.ENCODE_LAYER_W0_FLOW l
  let w := flowW s.regs fl
  let h := flowH s.regs fl
  let part := spanSamples (tileCols e l) tc tc w * spanSamples (tileRows e l) tr tr h
  let t := x.tile (20 * tr + tc)
  let t := if r = 0 then
      { t with intra := t.intra || x.restart }.begin_
        (tileBudget (rget e Reg.ENCODE_LAYER_W1_RATE_KBPS l) s.num s.den part (w * h)) (s.r Reg.ENCODE_CTRL_INTRA_BOOST)
    else t
  { t with past := t.past || t.short skip }

/-- One tile's row (R336–R340): the bits; event 544 and OVERRUNS where the budget ends with it. -/
def State.tileRow (s : State) (l tr tc r : Nat) (bits skip : Nat) : State :=
  let x := s.layer l
  let k := 20 * tr + tc
  let n := (tileRows s.enc.regs l).getD tr 1
  let t := s.tileBefore l tr tc r skip
  let now := t.past && (r = 0 || !(x.tile k).past)
  let s := s.setLayer l { x with tiles := sput x.tiles k (t.row n bits), past := x.past || now }
  if now then (if x.past then s else s.count Reg.ENCODE_LAYER_STATUS_W1_OVERRUNS l).raise 544 0 else s

/-! ### Parcels (R333, R334) -/

/-- The 32-bit words of an IV (R334). -/
def liveIv (salt f x y l row : Nat) : List Word :=
  [word (salt % 2 ^ 32), word (f % 2 ^ 32), pack [(25, x), (18, y), (17, l), (9, row)]]

/-- Bytes as the payload of a chunk: whole word pairs (R79), trailing zero bytes after the last NAL unit. -/
def payloadWords (b : List Byte) : List Word :=
  let n := max 9 (cdiv b.length 9 * 9)
  unpackBytes (b ++ List.replicate (n - b.length) 0)

/-- A live parcel of one chunk (R83, R333, R334): header, C0, C1, IV, payload, tag; none while the key is not held. -/
def State.parcel (s : State) (l f x y atlas row : Nat) (last : Bool) (b : List Byte) : Option (List Word) :=
  let id := rget s.enc.regs Reg.ENCODE_LAYER_W0_KEY_ID l
  let h := [pack [(32, 1), (0, f / 2 ^ 36)], word f]
  let pay := payloadWords b
  let c0 := pack [(32, 1), (30, atlas), (28, b2n last), (12, id), (0, row)]
  let c1 := word pay.length
  let iv := liveIv (s.layer l).salt f x y l row
  let head := parcelMarker :: h ++ [word (crcWords h)]
  if id = 0 then some (head ++ [c0, c1] ++ iv ++ pay ++ [0, 0, 0, 0])
  else
    match s.contentKey id with
    | none => none
    | some k =>
      let aad := chunkAad x y f c0 c1
      let p := packBytes pay
      some (head ++ [c0, c1] ++ iv ++ unpackBytes (Config.gcmSeal k.key (be32 iv) aad p)
        ++ words32 (Config.gcmTag k.key (be32 iv) aad p))

/-- A parcel waits for a packet boundary of worker `i`'s stream (R309). -/
def State.splice (s : State) (i : Nat) (ws : List Word) : State :=
  { s with mgr := { s.mgr with
    workers := s.mgr.workers.mapIdx (fun k (w : Worker) => if k = i then { w with parcels := w.parcels ++ [ws] } else w) } }

/-! ### Pictures and rows (R327, R328, R331–R333) -/

/-- A picture's first row is about to be coded (R341): what waited for it comes in, unless it is a repeat picture (DESIGN CHOICE, assumption
log 36); the picture before it becomes the reference. -/
def State.beginPicture (s : State) (l : Nat) (rep : Bool) : State :=
  let x := s.layer l
  let x := { x with past := false, ref := x.recon, refPus := x.pus, recon := [], pus := [] }
  if rep then s.setLayer l x
  else
    let s := s.setLayer l { x with
      wait := [], tiles := x.wait.foldl (fun t k => sput t k { (sfind t k).getD TileRc.reset with intra := true }) x.tiles }
    s.setEnc { s.enc with extr := s.enc.extr.map (fun (p : Nat × Extr) =>
      (p.1, if rget s.enc.regs Reg.ENCODE_MAP_LAYER p.1 = l then { p.2 with restart := p.2.restart || p.2.wait, wait := false } else p.2)) }

/-- The parameter sets of an extraction (R325, R326, R328, R338). -/
def State.extrHead (s : State) (i : Nat) : StreamHead :=
  let e := s.enc.regs
  let l := rget e Reg.ENCODE_MAP_LAYER i
  let fl := rget e Reg.ENCODE_LAYER_W0_FLOW l
  let x := extraction e i
  let w := flowW s.regs fl
  let h := flowH s.regs fl
  let cols := (tileCols e l).extract x.1 (x.2.1 + 1)
  let rows := (tileRows e l).extract x.2.2.1 (x.2.2.2 + 1)
  let kbps := rget e Reg.ENCODE_LAYER_W1_RATE_KBPS l
  let pw := spanSamples (tileCols e l) x.1 x.2.1 w
  let ph := spanSamples (tileRows e l) x.2.2.1 x.2.2.2 h
  let budgets := (extrTiles e i).map (fun k =>
    tileBudget kbps s.num s.den (spanSamples (tileCols e l) (k % 20) (k % 20) w * spanSamples (tileRows e l) (k / 20) (k / 20) h) (w * h))
  let color := s.r Reg.MGR_LIVE_W0_COLOR fl
  let p422 := rget e Reg.ENCODE_LAYER_W0_PROFILE l = 0
  { commonHead with
    profile := if p422 then 2 else 1, chroma := if p422 then 2 else 1, width := pw, height := ph
    cols := if cols.length * rows.length = 1 then [] else cols, rows := if cols.length * rows.length = 1 then [] else rows
    primaries := vuiColour color, matrix := vuiColour color, transfer := vuiTransfer color (s.r Reg.MGR_LIVE_W0_TCS fl)
    rate := kbps * 1000 * (pw * ph) / (w * h), cpb := 3 * budgets.foldl (· + ·) 0 }

/-- An extraction's picture as its first row finds it (R328, R341): IDR_N_LP, and its picture order count. -/
def State.extrPic (s : State) (l i k : Nat) (rep : Bool) : Bool × Nat :=
  let x := s.extr i
  if k ≠ 0 then (x.idr, x.poc)
  else if !rep && (x.restart || (s.layer l).restart) then (true, 0) else (false, x.poc + 1)

/-- Map element `i` takes a part of CTU row `row` of a layer. -/
def State.extrHolds (s : State) (l i row : Nat) : Bool :=
  let rows := extrRows s.enc.regs i
  rget s.enc.regs Reg.ENCODE_MAP_EN i ≠ 0 && rget s.enc.regs Reg.ENCODE_MAP_LAYER i = l && rows.1 ≤ row && row < rows.1 + rows.2

/-- The bytes of an extraction's row hold what R325, R328 and R333 put into them: the parameter sets before the first row of an IRAP picture,
one slice segment for each tile column, the hash SEI after the last row, at most 36,864 bytes. -/
def State.chunkOk (s : State) (l row : Nat) (rep : Bool) (c : CodedChunk) : Bool :=
  let rows := extrRows s.enc.regs c.elem
  let x := extraction s.enc.regs c.elem
  let k := row - rows.1
  let p := s.extrPic l c.elem k rep
  s.extrHolds l c.elem row && c.bytes.length ≤ 36864 && c.nal = (if p.1 then 20 else 1) && c.poc = p.2
  && c.segs = x.2.1 + 1 - x.1 && c.head = (if p.1 && k = 0 then some (s.extrHead c.elem) else none)
  && c.hash = (s.rb Reg.ENCODE_CTRL_HASH && k + 1 = rows.2)

/-- A CTU row of frame `f` is coded as ENCODE codes it (R325–R328, R331, R333, R335, R338): each tile's part, and the bytes of each
extraction that holds the row, once. -/
def State.rowOk (s : State) (l f row : Nat) (rep : Bool) (c : CodedRow) : Bool :=
  let e := s.enc.regs
  let x := s.layer l
  let fl := rget e Reg.ENCODE_LAYER_W0_FLOW l
  let w := flowW s.regs fl
  let at_ := rowIn (tileRows e l) 0 row
  let pic := (sfind (s.flowPics fl) f).getD []
  c.tiles.length = (tileCols e l).length
  && (c.tiles.zipIdx).all (fun p =>
    let t := s.tileBefore l at_.1 p.2 at_.2 p.1.skip
    let intra := !rep && (x.restart || (if at_.2 = 0 then (x.tile (20 * at_.1 + p.2)).intra else x.intraTiles.contains (20 * at_.1 + p.2)))
    let tile := tileRect s.regs e l at_.1 p.2
    tileRowOk ⟨intra, t.past, rep, rget e Reg.ENCODE_LAYER_W0_MIN_QP l⟩ w (flowH s.regs fl) (rget e Reg.ENCODE_LAYER_W0_PROFILE l ≠ 0)
      tile (tile.ctuRow row) (sourceLuma pic w) (lumaOf x.ref) x.refPus p.1)
  && c.chunks.all (s.chunkOk l row rep)
  && (List.range 256).all (fun i => !s.extrHolds l i row || i ≥ s.mgr.workers.length
    || (c.chunks.filter (fun k => k.elem = i)).length = 1)

/-- The row of one extraction is sent (R328, R333): an IDR begins with its first row. -/
def State.sendRow (s : State) (l f row : Nat) (rep : Bool) (c : CodedChunk) : State :=
  let i := c.elem
  let rows := extrRows s.enc.regs i
  match s.mgr.workers[i]? with
  | none => s
  | some w =>
    let k := row - rows.1
    let p := s.extrPic l i k rep
    let x := s.extr i
    let s := if k = 0 then s.setExtr i { x with restart := x.restart && !p.1, idr := p.1, poc := p.2 } else s
    match s.parcel l f w.x w.y (rget s.enc.regs Reg.ENCODE_MAP_ATLAS i) k (k + 1 = rows.2) c.bytes with
    | some p => s.splice i p
    | none =>
      if s.enc.noKey.contains l then s
      else (s.setEnc { s.enc with noKey := l :: s.enc.noKey }).raise 551 0

/-- One CTU row of the picture in work is coded and sent (R332–R340). -/
def State.codeRow (s : State) (l f row : Nat) (rep : Bool) (c : CodedRow) : State :=
  let e := s.enc.regs
  let at_ := rowIn (tileRows e l) 0 row
  let s := if at_.2 = 0 then s.setLayer l { s.layer l with
      intraTiles := (List.range (tileCols e l).length).filterMap (fun tc =>
        if !rep && ((s.layer l).restart || ((s.layer l).tile (20 * at_.1 + tc)).intra) then some (20 * at_.1 + tc) else none) }
    else s
  let s := (c.tiles.zipIdx).foldl (fun (x : State) p => x.tileRow l at_.1 p.2 at_.2 p.1.bits p.1.skip) s
  let s := s.showOwed l
  let s := c.chunks.foldl (fun (x : State) p => x.sendRow l f row rep p) s
  let rows := (tileRows e l).foldl (· + ·) 0
  let s := (s.readErrs 6 (c.fails.map (fun e => (e.sector, e.cured))))
  let s := (c.fails.filter (fun e => !e.cured && rget s.enc.regs Reg.ENCODE_MAP_EN e.pos ≠ 0 && rget s.enc.regs Reg.ENCODE_MAP_LAYER e.pos = l)).foldl (fun (y : State) e => (y.askIdr e.pos).raise 548 0) (s.dramUsed false (s.r Reg.MEM_MAP_0004_SYS_BASE))
  let x := s.layer l
  let x := { x with recon := c.recon.foldl (fun m p => sput m p.1 p.2) x.recon, pus := x.pus ++ c.tiles.flatMap (fun t => t.pus) }
  s.setLayer l (if row + 1 < rows || rep then x else { x with restart := false })

/-- A row of a picture: one that ENCODE would not code so has no effect. -/
def State.pictureRow (s : State) (l f row : Nat) (rep : Bool) (c : CodedRow) : Option State :=
  let t := if row = 0 then s.beginPicture l rep else s
  if t.rowOk l f row rep c then some (t.codeRow l f row rep c) else none

/-- A layer codes the next row of its oldest picture in work, once it has been ingested (R332). -/
def State.ctuRow (s : State) (l : Nat) (c : CodedRow) : State :=
  let x := s.layer l
  let e := s.enc.regs
  match x.work with
  | [] => s
  | (f, row, rep) :: t =>
    let fl := s.mgr.flows.getD (rget e Reg.ENCODE_LAYER_W0_FLOW l) Flow.reset
    let at_ := (fl.rows.find? (fun (p : Nat × Nat × Nat) => p.1 = f && p.2.1 = row)).map (fun p => p.2.2)
    if !s.peelHeld || rget e Reg.ENCODE_LAYER_W0_EN l = 0 || (at_.isNone && !rep) then s
    else
      match s.pictureRow l f row rep c with
      | none => s
      | some s =>
        let rows := (tileRows e l).foldl (· + ·) 0
        let y := s.layer l
        let s := s.setLayer l { y with work := if row + 1 < rows then (f, row + 1, rep) :: t else t }
        let late := match at_ with | some n => decide (cyclesUs 700 < s.now - n) | none => false
        if late && !s.enc.backlog then (s.setEnc { s.enc with backlog := true }).raise 550 0 else s

/-- CTU_ROW_ENCODED: a layer's next CTU row, with what coding it gave. -/
def execCtuRowEncoded (layer : Nat) (row : CodedRow) (dt : Nat) (s : State) : Host.Outcome State Fault Refusal :=
  .next ((s.pass dt).ctuRow layer row)

/-- The rows of a repeat picture (R331): all of them, or none where one is not coded so. -/
def State.repeatRows (s : State) (l f : Nat) : Nat → List CodedRow → Option State
  | row, [] => if row = (tileRows s.enc.regs l).foldl (· + ·) 0 then some s else none
  | row, c :: t => (s.pictureRow l f row true c).bind (fun u => u.repeatRows l f (row + 1) t)

/-- The ingest window of frame F ends with no source frame bound to it (R331): the rows of a repeat picture go out at once; they come
after those of a picture in work, and, where the operands are no such picture, by CTU_ROW_ENCODED. -/
def State.repeatLayer (s : State) (l f : Nat) (rows : List CodedRow) : State :=
  let x := s.layer l
  let has := match x.bound with | some b => decide (f ≤ b) | none => false
  if rget s.enc.regs Reg.ENCODE_LAYER_W0_EN l = 0 || has || !s.peelHeld then s
  else
    let later := s.setLayer l { x with bound := some f, work := x.work ++ [(f, 0, true)] }
    let s := if x.work.isEmpty then ((s.setLayer l { x with bound := some f }).repeatRows l f 0 rows).getD later else later
    (s.count Reg.ENCODE_LAYER_STATUS_W1_DROPS l).raise 546 (f % 2 ^ 28)

/-- INGEST_WINDOW_END (R331): the next ingest window ends; the rows are the repeat pictures of the two layers, if one is due. -/
def execIngestWindowEnd (rows : List (List CodedRow)) (s : State) : Host.Outcome State Fault Refusal :=
  let f := match s.enc.winEnd with
    | some n => if s.ingestOpen (n + 2) < s.tb3 then s.ingestFrame s.tb3 else n + 1
    | none => s.ingestFrame s.tb3
  let s := s.goto (s.ingestOpen (f + 1))
  let s := s.setEnc { s.enc with winEnd := some f }
  .next (((s.repeatLayer 0 f (rows.getD 0 [])).repeatLayer 1 f (rows.getD 1 [])))

/-! ### Intra pictures on request (R341) -/

/-- An extraction is served: intra tiles, an IDR of its own, event 549. -/
def State.serveIntra (s : State) (i : Nat) : State :=
  let s := s.askIdr i
  (s.setExtr i { s.extr i with served := some s.time.last, owed := false }).raise 549 0

/-- INTRA_REQ of the worker of map element `i` (R341): served at once, or when INTRA_HOLDOFF ends. -/
def State.intraReq (s : State) (i : Nat) : State :=
  if !s.peelHeld || rget s.enc.regs Reg.ENCODE_MAP_EN i = 0 then s
  else
    match (s.extr i).served with
    | some n =>
      if s.time.last < n + s.r Reg.ENCODE_CTRL_INTRA_HOLDOFF then s.setExtr i { s.extr i with owed := true }
      else s.serveIntra i
    | none => s.serveIntra i

/-- Requests whose INTRA_HOLDOFF has ended are served. -/
def State.owedIntra (s : State) : State :=
  s.enc.extr.foldl (fun (x : State) (p : Nat × Extr) =>
    match p.2.served with
    | some n => if p.2.owed && n + x.r Reg.ENCODE_CTRL_INTRA_HOLDOFF ≤ x.time.last && x.peelHeld then x.serveIntra p.1 else x
    | none => x) s

/-- INTRA_HOLDOFF_EXPIRY. -/
def execIntraHoldoffExpiry (s : State) : Host.Outcome State Fault Refusal := .next (s.pass 0).owedIntra

/-- A worker asks for an IDR at a tick (R341): a sequence sampled by a LIVE slot needs one or has a tainted last picture. -/
def State.intraAsk (s : State) (n : Nat) : State :=
  let needs (i : Nat) : Bool :=
    let a := rget s.inForce Reg.KILN_SLOT_W0_ATLAS i
    let seqs := if rget s.inForce Reg.KILN_SLOT_W0_ACONST i ≠ 0 then [2 * a] else [2 * a, 2 * a + 1]
    rget s.inForce Reg.KILN_SLOT_W0_LIVE i ≠ 0
    && seqs.any (fun q => s.rb Reg.DECODE_SEQ_STATUS_NEED_IRAP q
        || (match s.latest q with | some p => p.tainted | none => false))
  let may := match s.enc.asked with | some t => decide (t + s.r Reg.ENCODE_CTRL_INTRA_HOLDOFF ≤ n) | none => true
  match (slotSet s.inForce).find? needs with
  | some i => if s.isWorker && may then (s.setEnc { s.enc with asked := some n }).raise 560 i else s
  | none => s

/-! ### The spyhole (R342–R345) -/

/-- 12-bit R, G, B of a ray word as full-range 10-bit YCbCr (R342). -/
def spyYcc (w : Word) : List Nat :=
  let r : Int := (bits w 35 24 / 4 : Nat)
  let g : Int := (bits w 23 12 / 4 : Nat)
  let b : Int := (bits w 11 0 / 4 : Nat)
  [(clampI 0 1023 ((13933 * r + 46871 * g + 4732 * b + 32768) / 65536)).toNat,
   (clampI 0 1023 (512 + (-7509 * r - 25259 * g + 32768 * b + 32768) / 65536)).toNat,
   (clampI 0 1023 (512 + (32768 * r - 29764 * g - 3004 * b + 32768) / 65536)).toNat]

/-- Width and height of the spyhole picture, and as coded (R342). -/
def spySize (g : Grid) : Nat × Nat := (3 * g.sw, g.sh)
def spyCoded (g : Grid) : Nat × Nat := (cdiv (3 * g.sw) 8 * 8, cdiv g.sh 8 * 8)

/-- The ray word shown at a place of the spyhole picture, edges repeated. -/
def spyRay (g : Grid) (rays : List (Nat × Word)) (x y : Nat) : Word :=
  let x := min x (3 * g.sw - 1)
  let y := min y (g.sh - 1)
  let vx := if x / g.sw = 0 then 0 else if x / g.sw = 1 then g.svw / 2 else g.svw - 1
  let p := physOf g (x % g.sw) y vx (g.svh / 2)
  sget 0 rays (rayNo g p.1 p.2.1 p.2.2.1 p.2.2.2)

/-- The rounded mean of four values. -/
def mean4 (a b c d : Nat) : Nat := (a + b + c + d + 2) / 4

/-- The spyhole picture of a frame (R342): Y at full size, Cb and Cr as means of 2 × 2 blocks. -/
def spyPicture (g : Grid) (rays : List (Nat × Word)) : List (List Nat) :=
  let w := (spyCoded g).1
  let h := (spyCoded g).2
  let at_ (k x y : Nat) : Nat := nth (spyYcc (spyRay g rays x y)) k
  let plane (k : Nat) : List Nat := (List.range (w / 2 * (h / 2))).map (fun i =>
    let x := 2 * (i % (w / 2))
    let y := 2 * (i / (w / 2))
    mean4 (at_ k x y) (at_ k (x + 1) y) (at_ k x (y + 1)) (at_ k (x + 1) (y + 1)))
  [(List.range (w * h)).map (fun i => at_ 0 (i % w) (i / w)), plane 1, plane 2]

/-- The byte pieces of a spyhole picture: 1,016 words, 4,572 bytes, to a packet. -/
def spyParts : Nat → List Byte → List (List Byte)
  | 0, b => [b]
  | n + 1, b => if b.length ≤ 4572 then [b] else b.take 4572 :: spyParts n (b.drop 4572)

/-- SPY packets of a picture (R344). -/
def State.sendSpy (s : State) (f : Nat) (b : List Byte) : State :=
  let parts := spyParts (b.length / 4572 + 1) b
  let n := parts.length
  (parts.zipIdx).foldl (fun (x : State) (p : List Byte × Nat) =>
    let head := [pack [(29, x.r Reg.LINK_POS_X), (22, x.r Reg.LINK_POS_Y), (0, f / 2 ^ 36)], word f,
      pack [(35, b2n (p.2 + 1 = n)), (24, p.2), (0, p.1.length)]]
    x.sendMgr 4 0x7F (head ++ unpackBytes (p.1 ++ List.replicate (cdiv p.1.length 9 * 9 - p.1.length) 0))) s

/-- The parameter sets of the spyhole (R325, R342, R343). -/
def State.spyHead (s : State) (g : Grid) : StreamHead :=
  let kbps := s.r Reg.ENCODE_SPY_CTRL_SPY_KBPS
  let w := (spyCoded g).1
  let h := (spyCoded g).2
  { commonHead with
    width := w, height := h, cropW := w - (spySize g).1, cropH := h - (spySize g).2, full := true, rate := kbps * 1000
    cpb := 3 * tileBudget kbps s.num (s.den * (s.r Reg.ENCODE_SPY_CTRL_SPY_DIV_M1 + 1)) 1 1 }

/-- The frame of which a spyhole picture is formed: presented last, or its ray words are all there; a repeated or abandoned one gives
none. -/
def State.spyFrame (s : State) (f : Nat) : Option FireFrame :=
  match s.fireFrame f with
  | some fr => if fr.repeated || fr.stopped then none else some fr
  | none => s.enc.shown.bind (fun (fr : FireFrame) => if fr.frame = f then some fr else none)

/-- The rows of a spyhole picture under rate control (R336–R340): the tile after them, whether RC_OVERRUN came, whether each row was
coded as it has to be. -/
def spyRows (mode : Bool → RowMode) (ok : RowMode → Nat → CodedTile → Bool) (n : Nat) :
    Nat → List CodedTile → TileRc × Bool × Bool → TileRc × Bool × Bool
  | _, [], a => a
  | r, c :: t, a =>
    let now := !a.1.past && a.1.short c.skip
    let past := a.1.past || now
    spyRows mode ok n (r + 1) t ({ a.1 with past := past }.row n c.bits, a.2.1 || now, a.2.2 && ok (mode past) r c)

/-- A spyhole picture is due for frame `f` (R343): coded and sent, or skipped when class 7 is not admitted. A frame that was not presented gives
a skip picture; an IDR that is due waits for the next picture. What ENCODE would not code so has no effect. -/
def State.spyCode (s : State) (f : Nat) (b : List Byte) (c : CodedSpy) : State :=
  let div := s.r Reg.ENCODE_SPY_CTRL_SPY_DIV_M1 + 1
  if !s.isWorker || !s.rb Reg.ENCODE_SPY_CTRL_SPY_EN || f % div ≠ 0 || s.enc.spyFrame = some f then s
  else if !s.classIn 7 then
    ((s.setEnc { s.enc with spyFrame := some f, spyIdr := true }).count Reg.ENCODE_SPY_STATUS_SKIPPED).raise 552 (f % 2 ^ 28)
  else
    let e := s.enc
    let fr := s.spyFrame f
    let g := match fr with
      | some x => gridOf x.copy
      | none => gridOf s.inForce
    let due := e.spyIdr || s.r Reg.ENCODE_SPY_CTRL_SPY_IDR ≤ e.spyCount
    let idr := due && fr.isSome
    let pic := match fr with
      | some x => spyPicture g x.rays
      | none => e.spyPic
    let w := (spyCoded g).1
    let h := (spyCoded g).2
    let tile : Rect4 := ⟨0, 0, w, h⟩
    let src (x y : Nat) : Nat := nth (pic.getD 0 []) (y * w + x)
    let n := cdiv h 32
    let bt := tileBudget (s.r Reg.ENCODE_SPY_CTRL_SPY_KBPS) s.num (s.den * div) 1 1
    let t := { e.spyRc with intra := idr }.begin_ bt (s.r Reg.ENCODE_CTRL_INTRA_BOOST)
    let r := spyRows (fun past => ⟨idr, past, fr.isNone, 0⟩)
      (fun m r x => tileRowOk m w h true tile (tile.ctuRow r) src (lumaOf e.spyRef) e.spyPus x) n 0 c.rows (t, false, true)
    let good := r.2.2 && c.rows.length = n && c.segs = 1 && c.nal = (if idr then 20 else 1)
      && c.head = (if idr then some (s.spyHead g) else none) && c.hash = s.rb Reg.ENCODE_CTRL_HASH
    if !good then s
    else
      let s := s.setEnc { e with
        spyFrame := some f, spyIdr := due && !idr, spyCount := if idr then 1 else e.spyCount + 1, spyRc := r.1, spyPic := pic
        spyRef := c.recon, spyPus := c.rows.flatMap (fun x => x.pus) }
      let p := s.readFails 6 c.fails
      let s := if p.2.isEmpty then p.1 else (p.1.setEnc { p.1.enc with spyIdr := true }).raise 548 0
      ((s.raiseIf r.2.1 544 0).count Reg.ENCODE_SPY_STATUS_SENT).sendSpy f b

/-- SPY_PICTURE_CODED: the frame, the Annex B bytes, and what coding it gave. -/
def execSpyPictureCoded (frame : Nat) (bytes : List Byte) (coded : CodedSpy) (s : State) : Host.Outcome State Fault Refusal :=
  .next ((s.pass 0).spyCode frame bytes coded)

/-- Opcode 0x801 (R345), executed by a manager; the role check of R17 comes before. -/
def hSpySub : Handler := fun c ps s =>
  let w := nthW ps 0
  let key (q : SpySub) : Bool := q.addr = c.src.addr && q.port = c.src.port && q.all = bit w 35
    && (q.all || (q.x = bits w 34 28 && q.y = bits w 27 21))
  if !s.peelHeld then (.denied 1, s)
  else
    let rest := s.enc.subs.filter (fun q => !key q && s.now < q.until_)
    let d := bits w 15 0
    if d = 0 then (.done rest.length, s.setEnc { s.enc with subs := rest })
    else if 16 ≤ rest.length then (⟨0x41, 16, []⟩, s)
    else
      let l := rest ++ [(⟨bit w 35, bits w 34 28, bits w 27 21, c.src.addr, c.src.port, s.now + cyclesS d⟩ : SpySub)]
      (.done l.length, s.setEnc { s.enc with subs := l })

/-- SPY_SUB_EXPIRY: the subscription that ends first ends. -/
def execSpySubExpiry (s : State) : Host.Outcome State Fault Refusal :=
  match s.enc.subs with
  | [] => .next (s.pass 0)
  | q :: t =>
    let m := t.foldl (fun (a : Nat) (x : SpySub) => min a x.until_) q.until_
    let s := s.gotoNow m
    .next (s.setEnc { s.enc with subs := s.enc.subs.filter (fun x => m < x.until_) })

/-- A manager relays a SPY packet to every subscriber that named its worker (R345). -/
def State.relaySpy (s : State) (payload : List Word) : State :=
  let x := bits (nthW payload 0) 35 29
  let y := bits (nthW payload 0) 28 22
  if !s.peelHeld then s
  else s.enc.subs.foldl (fun (a : State) (q : SpySub) =>
    if s.now < q.until_ && (q.all || (q.x = x && q.y = y)) then a.emit .eventDgram ([q.addr, q.port] ++ a.netTag) payload else a) s

end Sys2Proof.Machine
end

