-- ==== Sys2Proof/Machine/MgrNet.lean ====
section
/-! DEFINITION. What a manager takes from its network (R300–R311, R355, R357): Ethernet ports, addresses and groups, slab streams,
live flows, PTP. -/

namespace Sys2Proof.Machine

def State.setMgr (s : State) (m : MgrState) : State := { s with mgr := m }

/-- Worker `i` of census order replaced. -/
def State.setWorker (s : State) (i : Nat) (w : Worker) : State := s.setMgr { s.mgr with workers := s.mgr.workers.set i w }

/-! ### Addresses and groups (R302, R303) -/

/-- The 128 bits of an address laid out in four words. -/
def addr128 (a b c d : Nat) : Nat := a * 2 ^ 92 + b * 2 ^ 56 + c * 2 ^ 20 + d

/-- The manager's own IPv4 (32 bits) and IPv6 addresses; 0: none. -/
def ownIp4 (r : RegFile) : Nat := rget r Reg.MGR_ADDR_2006_IPV4 0
def ownIp6 (r : RegFile) : Nat :=
  addr128 (rget r Reg.MGR_ADDR_2007_IPV6_A 0) (rget r Reg.MGR_ADDR_2008_IPV6_B 0) (rget r Reg.MGR_ADDR6_2009_IPV6_C 0)
    (rget r Reg.MGR_ADDR6_200A_IPV6_D 0)

/-- The address of group `g`. -/
def groupIp (r : RegFile) (g : Nat) : Nat :=
  let w1 := rget r Reg.MGR_GROUP_W1_GROUP g
  if rget r Reg.MGR_GROUP_W0_V6 g = 0 then w1 / 16
  else addr128 w1 (rget r Reg.MGR_GROUP_W2_GROUP g) (rget r Reg.MGR_GROUP_W3_GROUP g) (rget r Reg.MGR_GROUP_W4_GROUP g / 2 ^ 16)

/-- The include sources of group `g` (R303). -/
def groupSources (r : RegFile) (g : Nat) : List Nat :=
  (List.range (rget r Reg.MGR_GROUP_W0_NSRC g)).map (fun k =>
    let e := 4 * g + k
    let w0 := rget r Reg.MGR_GROUP_SRC_W0_SOURCE e
    if rget r Reg.MGR_GROUP_W0_V6 g = 0 then w0 / 16
    else addr128 w0 (rget r Reg.MGR_GROUP_SRC_W1_SOURCE e) (rget r Reg.MGR_GROUP_SRC_W2_SOURCE e)
      (rget r Reg.MGR_GROUP_SRC_W3_SOURCE e / 2 ^ 16))

/-- Groups joined. -/
def joinedGroups (r : RegFile) : List Nat := (List.range 16).filter (fun g => rget r Reg.MGR_GROUP_W0_EN g ≠ 0)

/-- A number as words of an output, 36 bits each, the most significant first. -/
def numWords (n : Nat) : List Word := [word (n / 2 ^ 108), word (n / 2 ^ 72), word (n / 2 ^ 36), word n]

/-- A group report leaves (R303): protocol 4 IGMPv3 or 6 MLDv2, port; join or leave, group, sources, as registers `r` have them. -/
def State.report (s : State) (r : RegFile) (g port : Nat) (join : Bool) : State :=
  s.emit .net ([2, if rget r Reg.MGR_GROUP_W0_V6 g ≠ 0 then 6 else 4, port] ++ s.netTag)
    (word (b2n join) :: numWords (groupIp r g) ++ (groupSources r g).flatMap numWords)

/-- Unsolicited reports of every joined group on a port. -/
def State.reportAll (s : State) (port : Nat) : State :=
  (joinedGroups s.regs).foldl (fun (x : State) g => x.report s.regs g port true) s

/-- What a group entry is joined as: its family, address and sources; none where it is not enabled. -/
def groupJoin (r : RegFile) (g : Nat) : Option (Nat × Nat × List Nat) :=
  if rget r Reg.MGR_GROUP_W0_EN g = 0 then none else some (rget r Reg.MGR_GROUP_W0_V6 g, groupIp r g, groupSources r g)

/-- A group entry has changed (R303): reports leave the group as it was and join it as it is, on every Ethernet port that is up. -/
def State.groupWritten (s : State) (old : RegFile) (g : Nat) : State :=
  let a := groupJoin old g
  let b := groupJoin s.regs g
  if a = b then s
  else
    ((List.range s.ethPorts).filter (fun q => bitsN (s.r Reg.MGR_ETH_CTRL_UP) q q = 1)).foldl (fun (x : State) q =>
      let x := if a.isSome then x.report old g q false else x
      if b.isSome then x.report s.regs g q true else x) s

/-- The lanes of a port that has lost block lock can no longer be measured (R270). -/
def State.eyeStops (s : State) (q : Nat) : State :=
  (if s.ethPorts = 1 then [8, 9, 10, 11] else [8 + q]).foldl (fun (x : State) l => x.eyeStop l) s

/-- An Ethernet port goes up or down (R300, R303, R323). -/
def State.ethChange (s : State) (q : Nat) (up : Bool) : State :=
  let m := s.r Reg.MGR_ETH_CTRL_UP
  if !s.isMgr || s.ethPorts ≤ q || (bitsN m q q = 1) = up then s
  else if up then ((s.w Reg.MGR_ETH_CTRL_UP (m + 2 ^ q)).raise 304 q).reportAll q
  else ((({ s with mgr := { s.mgr with portFell := true } }).w Reg.MGR_ETH_CTRL_UP (m - 2 ^ q)).raise 305 q).eyeStops q

/-- ETH_LINK_CHANGE: a port gains or loses block lock and alignment. -/
def execEthLinkChange (port : Nat) (up : Bool) (dt : Nat) (s : State) : Host.Outcome State Fault Refusal :=
  .next ((s.pass dt).ethChange port up)

/-- A frame's VLAN tag is accepted (R301): untagged and priority-tagged when VID = 0, else that VID only. -/
def vidOk (r : RegFile) (vid : Option Nat) : Bool :=
  let v := rget r Reg.MGR_ETH_CTRL_VID 0
  match vid with
  | none => v = 0
  | some t => t = v

/-- A frame is taken from an Ethernet port (R300, R301): the port is one of the mode's and up, the frame whole, its tag accepted. -/
def State.frameHeard (s : State) (eth : Nat) (vid : Option Nat) (good : Bool) : Bool :=
  s.isMgr && eth < s.ethPorts && bitsN (s.r Reg.MGR_ETH_CTRL_UP) eth eth = 1 && good && vidOk s.regs vid

/-- A datagram is heard (R301, R303): its frame is taken and has at most 9,216 bytes, and it is no fragment and carries no options. -/
def State.udpHeard (s : State) (d : Datagram) : Bool := s.frameHeard d.eth d.vid d.good && d.frame ≤ 9216 && !d.broken

/-- A datagram goes to the manager's own unicast address. -/
def State.ownAddr (s : State) (d : Datagram) : Bool :=
  let a := if d.v6 then ownIp6 s.regs else ownIp4 s.regs
  a ≠ 0 && d.dst = a

/-- A datagram goes to a joined group of a KIND, from a source that the group includes (R303). -/
def State.groupAddr (s : State) (kind : Nat) (d : Datagram) : Bool :=
  (joinedGroups s.regs).any (fun g => s.r Reg.MGR_GROUP_W0_KIND g = kind && s.rb Reg.MGR_GROUP_W0_V6 g = d.v6
    && groupIp s.regs g = d.dst && (s.r Reg.MGR_GROUP_W0_NSRC g = 0 || (groupSources s.regs g).contains d.src))

/-- A network control packet is answered (R301, R303): its own address only; fragments and options are dropped. -/
def State.netControl (s : State) (p : NetPkt) : State :=
  let v6 := p.kind = 1 || p.kind = 3 || p.kind = 5
  let own := if v6 then ownIp6 s.regs else ownIp4 s.regs
  if !s.frameHeard p.port p.vid p.good || p.broken then s
  else if p.kind < 4 then
    if own = 0 || p.target ≠ own then s
    else
      let mac := s.r Reg.MGR_ADDR_2004_MAC_HI * 4096 + s.r Reg.MGR_ADDR_2005_MAC_LO
      s.emit .net ([p.kind, p.sender, p.port] ++ s.netTag) (if p.kind < 2 then numWords mac else p.data)
  else if p.kind < 6 then
    ((joinedGroups s.regs).filter (fun g => s.rb Reg.MGR_GROUP_W0_V6 g = v6 && (p.target = 0 || groupIp s.regs g = p.target))).foldl
      (fun (x : State) g => x.report s.regs g p.port true) s
  else s

/-- NETWORK_CONTROL_PACKET. -/
def execNetworkControlPacket (pkt : NetPkt) (dt : Nat) (s : State) : Host.Outcome State Fault Refusal :=
  .next ((s.pass dt).netControl pkt)

/-! ### Slab streams (R304–R309) -/

/-- The manager forwards slab streams: it holds the peel, bridges, or has stepped down in a hand-back (R316, R319, R323). -/
def State.forwards (s : State) : Bool :=
  s.peelHeld || (s.isMgr && s.r Reg.MGR_PAIR_STATUS_STATE = 2)
  || (match s.mgr.fwdUntil with | some t => decide (s.time.last ≤ t) | none => false)

/-- Stream words of a worker's packets that wait on the manager's output ports (R306). -/
def State.queuedFor (s : State) (x y : Nat) : Nat :=
  ((s.link.ports.flatMap (fun (p : Port) => p.txq)).filter (fun (q : Queued) =>
    q.vc = 1 && nthW q.words 1 = toTile x y)).foldl (fun a (q : Queued) => a + (q.words.length - 3)) 0

/-- A STREAM packet for a worker leaves: offset and words. -/
def State.sendStream (s : State) (w : Worker) (off : Nat) (ws : List Word) : State :=
  s.sendTiles 1 (toTile w.x w.y) (word off :: ws)

/-- The policing buckets filled up to `now`, in tenths of a bit (R305): 320 Mb/s with 262,144 words, 1 Gb/s with 4,095. -/
def Worker.refill (w : Worker) (now : Nat) : Worker :=
  { w with slow := satN 94371840 (w.slow + 32 * (now - w.filled)), fast := satN 1474200 (w.fast + 100 * (now - w.filled)),
           filled := now }

/-- One word of the host's stream under the tracker of units (R63, R77, R83, R309): where it stands afterwards. -/
def Worker.track (w : Worker) (d : Word) : Worker :=
  if 0 < w.skip then { w with skip := w.skip - 1 }
  else
    match w.head with
    | none =>
      if d = batchMarker || d = parcelMarker then { w with sync := true, head := some d }
      else if w.sync && 0 < w.left then { w with head := some d }
      else { w with sync := false, left := 0 }
    | some m =>
      if m = batchMarker then { w with head := none, skip := 5 + 7 * entryCount d, left := bits d 23 12 }
      else if m = parcelMarker then { w with head := none, skip := 2, left := w.left + 1 }
      else { w with head := none, skip := 7 + bits d 13 0, left := w.left - 1 }

/-- The stream of the worker stands at a unit boundary or between two chunks (R309). -/
def Worker.atBoundary (w : Worker) : Bool := w.sync && w.skip = 0 && w.head.isNone

/-- The words in pieces of at most `k`, `n` of them before the last. -/
def cutEvery (k : Nat) : Nat → List Word → List (List Word)
  | 0, l => [l]
  | n + 1, l => if l.length ≤ k then [l] else l.take k :: cutEvery k n (l.drop k)

/-- The words in pieces of at most 1,020 (R307). -/
def cut1020 (n : Nat) (l : List Word) : List (List Word) := cutEvery 1020 n l

/-- STREAM packets of a run of words at an offset. -/
def State.sendRun (s : State) (w : Worker) (off : Nat) (ws : List Word) : State :=
  ((cut1020 (ws.length / 1020) ws).zipIdx).foldl (fun (x : State) (p : List Word × Nat) =>
    x.sendStream w ((off + 1020 * p.2) % 2 ^ 36) p.1) s

/-- The parcels that wait go in at a boundary (R309): whole, at the offsets that follow, Δ increased. -/
def State.insertParcels (s : State) (w : Worker) : Worker × State :=
  if !w.atBoundary || !s.peelHeld then (w, s)
  else
    w.parcels.foldl (fun (p : Worker × State) ws =>
      ({ p.1 with nextOff := (p.1.nextOff + ws.length) % 2 ^ 36, delta := (p.1.delta + ws.length) % 2 ^ 36 },
       p.2.sendRun p.1 p.1.nextOff ws)) ({ w with parcels := [] }, s)

/-- Host words forwarded (R307, R309): in pieces, each at host offset + Δ, parcels at the boundaries between pieces. -/
def State.forwardPieces (s : State) (w : Worker) (off : Nat) : Nat → List (List Word) → Worker × State
  | _, [] => (w, s)
  | j, p :: t =>
    let o := (off + 1020 * j + w.delta) % 2 ^ 36
    let s := s.sendStream w o p
    let w := p.foldl Worker.track (if o = w.nextOff then w else { w with sync := false, skip := 0, head := none, left := 0 })
    let r := s.insertParcels { w with nextOff := (o + p.length) % 2 ^ 36 }
    r.2.forwardPieces r.1 off (j + 1) t

/-- An RTP packet's words go on to the worker, or are only held (R307, R316). -/
def State.passOn (s : State) (w : Worker) (off : Nat) (ws : List Word) : Worker × State :=
  if s.forwards then s.forwardPieces w off 0 (cut1020 (ws.length / 1020) ws) else (w, s)

/-- Packets of the window that are next in order go on (R306). -/
def State.drainWindow : Nat → Worker → State → Worker × State
  | 0, w, s => (w, s)
  | n + 1, w, s =>
    match w.window.find? (fun p => p.1 = w.rtpNext) with
    | none => (w, s)
    | some p =>
      let r := s.passOn { w with window := w.window.filter (fun q => q.1 ≠ p.1), rtpNext := (w.rtpNext + 1) % 65536 } p.2.1 p.2.2
      State.drainWindow n r.1 r.2

/-- The held packet that comes first in RTP order. -/
def firstHeld (w : Worker) : Option Nat :=
  (List.range 33).findSome? (fun k =>
    let q := (w.rtpNext + k) % 65536
    if w.window.any (fun p => p.1 = q) then some q else none)

/-- A packet enters the reorder window (R306): a gap that the window does not close is given up, event 310 once a tick. -/
def State.reorder (s : State) (w : Worker) (seq off : Nat) (ws : List Word) : Worker × State :=
  let d := (seq + 65536 - w.rtpNext) % 65536
  if 32768 ≤ d then (w, s)
  else
    let w := if w.window.any (fun p => p.1 = seq) then w else { w with window := w.window ++ [(seq, off, ws)] }
    let r := State.drainWindow 40 w s
    if d < 32 then r
    else
      -- beyond the window: what is missing is lost, and the words after the gap go on
      let base := (seq + 65536 - 31) % 65536
      let inOrder := (List.range 32).filterMap (fun k => r.1.window.find? (fun p => p.1 = (r.1.rtpNext + k) % 65536))
      let late := inOrder.filter (fun p => (p.1 + 65536 - base) % 65536 ≥ 32768)
      let t := late.foldl (fun (q : Worker × State) p =>
        q.2.passOn { q.1 with window := q.1.window.filter (fun y => y.1 ≠ p.1) } p.2.1 p.2.2) r
      let t := ({ t.1 with rtpNext := base }, t.2.raiseTick 310 0 0)
      State.drainWindow 40 t.1 t.2

/-- A slab-stream packet (R86, R304–R308). -/
def State.slabPacket (s : State) (ssrc seq : Nat) (ps : List Word) : State :=
  let p0 := nthW ps 0
  let n := bits p0 11 0
  let off := (nthW ps 1).toNat
  let ws := (ps.drop 2).take n
  if bits p0 35 32 ≠ 1 || n = 0 || ps.length ≠ n + 2 + n % 2 then s
  else
    match s.mgr.workers.findIdx? (fun (w : Worker) => w.x = bits p0 31 25 && w.y = bits p0 24 18) with
    | none => s.raiseTick 307 0 0
    | some i =>
      match s.mgr.workers[i]? with
      | none => s
      | some w =>
        let w := w.refill s.now
        if w.slow < 360 * n || w.fast < 360 * n then ((s.setWorker i w).count Reg.MGR_WORKER_W1_POLICED i).raiseTick 308 0 0
        else
          let w := { w with slow := w.slow - 360 * n, fast := w.fast - 360 * n }
          if 131072 < s.queuedFor w.x w.y + n then
            ((s.setWorker i w).count Reg.MGR_WORKER_W1_QUEUE_DROP i).raiseTick 309 0 0
          else
            let change := match w.ssrc with | some q => q != ssrc | none => false
            let fresh := change || w.ssrc.isNone
            let s := s.raiseIf change 311 0
            let w := if fresh then
                { w with ssrc := some ssrc, rtpNext := seq, window := [], delta := 0, nextOff := off, sync := false, skip := 0,
                         head := none, left := 0 }
              else w
            -- R308: a STREAM packet of LEN 1 ahead of the new stream's words
            let s := if change && s.forwards then s.sendStream w off [] else s
            -- R316: what a standby holds of the last two ticks
            let kept := w.held.filter (fun h => s.time.last ≤ h.1 + 2) ++ [(s.time.last, off, ws)]
            let w := { w with held := if s.peelHeld then [] else kept }
            let r := s.reorder w seq off ws
            r.2.setWorker i r.1

/-! ### RTP (R86) -/

/-- A byte of a payload, 0 beyond its end. -/
def byteAt (b : List Byte) (i : Nat) : Nat := (b.getD i 0).toNat

/-- Sixteen bits of a payload, most significant byte first. -/
def be16 (b : List Byte) (i : Nat) : Nat := byteAt b i * 256 + byteAt b (i + 1)

/-- An RTP packet: payload type, marker, sequence number, time stamp, SSRC, payload. -/
structure Rtp where
  pt : Nat
  marker : Bool
  seq : Nat
  ts : Nat
  ssrc : Nat
  payload : List Byte
  deriving DecidableEq, Repr

/-- An RTP packet taken apart (R86, RFC 3550): version 2; a CSRC list and a header extension skipped, padding removed. -/
def rtpParse (b : List Byte) : Option Rtp :=
  let b0 := byteAt b 0
  let csrc := b.drop (12 + 4 * (b0 % 16))
  let ext := b0 / 16 % 2 = 1
  let body := if ext then csrc.drop (4 + 4 * be16 csrc 2) else csrc
  let pad := if b0 / 32 % 2 = 1 then byteAt b (b.length - 1) else 0
  if b.length < 12 + 4 * (b0 % 16) || b0 / 64 ≠ 2 || (ext && csrc.length < 4 + 4 * be16 csrc 2) || body.length < pad
      || (b0 / 32 % 2 = 1 && pad = 0) then none
  else some ⟨byteAt b 1 % 128, 128 ≤ byteAt b 1, be16 b 2, be16 b 4 * 65536 + be16 b 6, be16 b 8 * 65536 + be16 b 10,
    body.take (body.length - pad)⟩

/-- RTP_SLAB_PACKET: a datagram to a slab group or to the unicast address on STREAM_PORT, an RTP packet of type PT_SLAB (R304). -/
def execRtpSlabPacket (eth : Nat) (vid : Option Nat) (good : Bool) (ip : IpHead) (ports : Nat × Nat) (bytes : List Byte) (dt : Nat)
    (s : State) : Host.Outcome State Fault Refusal :=
  let d := Datagram.of eth vid good ip ports bytes
  let s := s.pass dt
  if s.udpHeard d && (s.ownAddr d || s.groupAddr 0 d) && d.dport = s.r Reg.MGR_STREAM_STREAM_PORT then
    match rtpParse d.bytes with
    | some p =>
      if p.pt = s.r Reg.MGR_STREAM_PT_SLAB && p.payload.length % 9 = 0 then .next (s.slabPacket p.ssrc p.seq (unpackBytes p.payload))
      else .next s
    | none => .next s
  else .next s

/-! ### Live flows (R310, R311, R330, R331) -/

/-- The enabled flows stay within 500 M pixels/s (R310). -/
def flowsOk (r : RegFile) : Bool :=
  let en (i : Nat) : Nat := rget r Reg.MGR_LIVE_W0_EN i
  let n (i : Nat) : Nat := en i * flowW r i * flowH r i * rget r Reg.MGR_LIVE_W2_FR_NUM i
  let d (i : Nat) : Nat := rget r Reg.MGR_LIVE_W2_FR_DEN i
  n 0 * d 1 + n 1 * d 0 ≤ 500000000 * d 0 * d 1

def State.flow (s : State) (i : Nat) : Flow := s.mgr.flows.getD i Flow.reset
def State.setFlow (s : State) (i : Nat) (f : Flow) : State := s.setMgr { s.mgr with flows := setNth s.mgr.flows i f }

/-- A source frame ends (R311, R330): what never came is filled from the frame before and counted. -/
def State.endFlowFrame (s : State) (i : Nat) : State :=
  let f := s.flow i
  if f.ended || f.rtpTime.isNone then s
  else
    let total := flowW s.regs i / 2 * flowH s.regs i
    let lost := total - f.groups.length
    let filled := f.groups.foldl (fun l (p : Nat × Nat) => sput l p.1 p.2) f.prev
    let s := s.setFlow i { f with ended := true, span := s.now - f.firstAt, prev := filled, groups := [] }
    if lost = 0 then s else (s.count Reg.MGR_LIVE_W3_LOST i lost).raise 312 ((f.bound.getD 0) % 2 ^ 28)

/-- The first packet of a source frame binds it (R330, R331). -/
def State.beginFlowFrame (s : State) (i ts : Nat) : State :=
  let s := s.endFlowFrame i
  let f := s.flow i
  let n := s.ingestFrame (s.tb3 + (f.span * 10 * 16384 : Nat))
  let ls := s.layersOf i
  let dup := ls.any (fun l => match (s.layer l).bound with | some b => decide (n ≤ b) | none => false)
  let s := if s.peelHeld then ls.foldl (fun (x : State) l => x.bindLayer l n) s else s
  s.setFlow i { f with rtpTime := some ts, firstAt := s.now, bound := if dup then none else some n, ended := false, groups := [],
                       rows := f.rows.filter (fun r => n ≤ r.1 + 2)
                       pics := if dup then f.pics else sput (f.pics.filter (fun r => n ≤ r.1 + 2)) n f.prev }

/-- Pixel groups of one RFC 4175 segment: line, first pixel, values. -/
def segGroups (w line off : Nat) (vs : List Nat) : List (Nat × Nat) :=
  vs.mapIdx (fun k v => (line * (w / 2) + off / 2 + k, v))

/-- CTU rows whose last line has come whole, marked with `now` (R332). -/
def State.markRows (s : State) (i : Nat) (upto : Nat) : State :=
  let f := s.flow i
  match f.bound with
  | none => s
  | some n =>
    let new := ((List.range upto).filter (fun r => !f.rows.any (fun p => p.1 = n && p.2.1 = r))).map (fun r => (n, r, s.now))
    s.setFlow i { f with rows := f.rows ++ new }

/-- A live packet (R310, R311): one outside the picture is dropped whole. -/
def State.livePacket (s : State) (i ts : Nat) (marker : Bool) (segs : List (Nat × Nat × List Nat)) : State :=
  let w := flowW s.regs i
  let h := flowH s.regs i
  if segs.any (fun g => h ≤ g.1 || w < g.2.1 + 2 * g.2.2.length || g.2.1 % 2 ≠ 0) then s.raiseTick 313 0 0
  else
    let s := if (s.flow i).rtpTime = some ts && !(s.flow i).ended then s
      else if (s.flow i).rtpTime = some ts then s else s.beginFlowFrame i ts
    let f := s.flow i
    if f.ended then s
    else
      let gs := segs.foldl (fun l g => (segGroups w g.1 g.2.1 g.2.2).foldl (fun a p => sput a p.1 p.2) l) f.groups
      let new := segs.flatMap (fun g => segGroups w g.1 g.2.1 g.2.2)
      let pics := match f.bound with
        | some n => sput f.pics n (new.foldl (fun a p => sput a p.1 p.2) ((sfind f.pics n).getD []))
        | none => f.pics
      let s := s.setFlow i { f with groups := gs, pics := pics }
      -- lines before this one, and this one when the segment reaches its end, have been ingested
      let lines := segs.foldl (fun m g => max m (if g.2.1 + 2 * g.2.2.length = w then g.1 + 1 else g.1)) 0
      let rows := if marker || lines = h then cdiv h 32 else lines / 32
      let s := s.markRows i rows
      if !marker then s
      else
        let late := match f.bound with
          | some n => decide (s.ingestOpen (n + 1) < s.tb3) && !(s.layersOf i).isEmpty
          | none => false
        (s.endFlowFrame i).raiseIf late 547 ((f.bound.getD 0) % 2 ^ 28)

/-- A sample row data header of RFC 4175: length, field bit, line, first pixel; and whether another header follows. -/
structure RowHead where
  len : Nat
  field : Bool
  line : Nat
  off : Nat
  deriving DecidableEq, Repr

/-- The row headers of a payload, and what follows them; none where the payload ends among them. -/
def rowHeads : Nat → List Byte → Option (List RowHead × List Byte)
  | 0, _ => none
  | n + 1, b =>
    if b.length < 6 then none
    else
      let h : RowHead := ⟨be16 b 0, 32768 ≤ be16 b 2, be16 b 2 % 32768, be16 b 4 % 32768⟩
      if be16 b 4 < 32768 then some ([h], b.drop 6) else (rowHeads n (b.drop 6)).map (fun p => (h :: p.1, p.2))

/-- Pixel groups of 4:2:2 samples at depth 10: five bytes each, two pixels. -/
def pixelGroups : Nat → List Byte → List Nat
  | 0, _ => []
  | n + 1, b => bytesBE (b.take 5) :: pixelGroups n (b.drop 5)

/-- The segments of an RFC 4175 payload (R310), behind the extended sequence number: line, first pixel, pixel groups. None where it is not
progressive, a segment holds no whole pixel groups, or the payload is shorter than its headers say. -/
def rowSegs : List RowHead → List Byte → Option (List (Nat × Nat × List Nat))
  | [], _ => some []
  | h :: t, b =>
    if h.field || h.len % 5 ≠ 0 || b.length < h.len then none
    else (rowSegs t (b.drop h.len)).map (fun l => (h.line, h.off, pixelGroups (h.len / 5) b) :: l)

/-- The segments of a live packet's payload. -/
def liveSegs (b : List Byte) : Option (List (Nat × Nat × List Nat)) :=
  (rowHeads (b.length / 6) (b.drop 2)).bind (fun p => rowSegs p.1 p.2)

/-- The flow that a datagram belongs to: enabled, its port, its group or the unicast address. -/
def State.flowOf (s : State) (d : Datagram) : Option Nat :=
  (List.range 2).find? (fun i => s.rb Reg.MGR_LIVE_W0_EN i && d.dport = s.r Reg.MGR_LIVE_W1_UDP_PORT i
    && (s.groupAddr (i + 1) d || s.ownAddr d))

/-- LIVE_FLOW_PACKET: an RTP packet of type PT_LIVE of an enabled flow (R310). A payload that is not in the accepted format is dropped with
event 313, as one outside the picture (DESIGN CHOICE, assumption log 35). -/
def execLiveFlowPacket (eth : Nat) (vid : Option Nat) (good : Bool) (ip : IpHead) (ports : Nat × Nat) (bytes : List Byte) (dt : Nat)
    (s : State) : Host.Outcome State Fault Refusal :=
  let d := Datagram.of eth vid good ip ports bytes
  let s := s.pass dt
  if !s.udpHeard d then .next s
  else
    match s.flowOf d, rtpParse d.bytes with
    | some i, some p =>
      if p.pt ≠ s.r Reg.MGR_STREAM_PT_LIVE then .next s
      else
        match liveSegs p.payload with
        | some segs => .next (s.livePacket i p.ts p.marker segs)
        | none => .next (s.raiseTick 313 0 0)
    | _, _ => .next s

/-! ### PTP (R355, R357) -/

/-- The domain number of base `b`. -/
def ptpDomain (r : RegFile) (b : Nat) : Nat := if b = 0 then rget r Reg.TIME_PTP_DOM0 0 else rget r Reg.TIME_PTP_DOM1 0

/-- One Announce rank is better than another: field by field, the lower one. -/
def rankBetter : List Nat → List Nat → Bool
  | a :: s, b :: t => a < b || (a = b && rankBetter s t)
  | _, _ => false

/-- A foreign master is qualified (R355): 2 Announce messages in 4 intervals. -/
def Foreign.ok (f : Foreign) (now : Nat) : Bool :=
  match f.times with
  | a :: b :: _ => now ≤ b + 4 * f.interval && b ≤ a
  | _ => false

/-- The best qualified master of base `b`'s domain. -/
def State.bestMaster (s : State) (b : Nat) : Option Foreign :=
  (s.mgr.foreign.filter (fun (f : Foreign) => f.dom = b && f.ok s.now)).foldl (fun (m : Option Foreign) f =>
    match m with
    | none => some f
    | some g => if rankBetter f.rank g.rank then some f else some g) none

/-- The selected master of base `b` set: TIME_PTP_MASTER, event 244 when the best master changes. -/
def State.selectMaster (s : State) (b : Nat) (m : Option Foreign) : State :=
  let old := s.mgr.master.getD b none
  let new := m.map (fun (f : Foreign) => f.id)
  if old = new then s
  else
    let s := s.setMgr { s.mgr with
      master := s.mgr.master.set b new, sync := s.mgr.sync.set b none, delayReq := s.mgr.delayReq.set b none
      announceAt := s.mgr.announceAt.set b s.now, syncAt := s.mgr.syncAt.set b s.now }
    let id := new.getD 0
    let s := s.ws [(Reg.TIME_PTP_MASTER_W0_ID_HI, b, id / 2 ^ 28), (Reg.TIME_PTP_MASTER_W1_ID_LO, b, id % 2 ^ 28),
      (Reg.TIME_PTP_MASTER_W1_SELECTED, b, b2n new.isSome)]
    (if new.isNone then s.setRef b false else s).raiseIf new.isSome 244 0

/-- REFCLK cycles of 2^k seconds. -/
def logCycles (k : Int) : Nat := if 0 ≤ k then 100000000 * 2 ^ k.toNat else 100000000 / 2 ^ (-k).toNat

/-- An Announce message. -/
def State.ptpAnnounce (s : State) (b : Nat) (m : PtpMsg) : State :=
  let same (f : Foreign) : Bool := f.dom = b && f.id = m.sender
  let old := (s.mgr.foreign.find? same).getD ⟨b, m.sender, [], [], 0⟩
  let f : Foreign := { old with rank := m.rank, times := (s.now :: old.times).take 2, interval := logCycles m.interval }
  let s := s.setMgr { s.mgr with
    foreign := s.mgr.foreign.filter (fun x => !same x) ++ [f]
    announceAt := if s.mgr.master.getD b none = some m.sender then s.mgr.announceAt.set b s.now else s.mgr.announceAt }
  s.selectMaster b (s.bestMaster b)

/-- An offset is computed and written, negated, to OFFSET_IN (R355). -/
def State.ptpOffset (s : State) (b t1 t2 t3 t4 : Nat) (corr : Int) : State :=
  let o := ((t2 : Int) - t1 - corr) - ((t4 : Int) - t3)
  (s.offsetIn b (word (twos 36 (halfTo16 (-o))))).2

/-- A message of the selected master (R355). -/
def State.ptpMaster (s : State) (b : Nat) (m : PtpMsg) : State :=
  let sy := s.mgr.sync.getD b none
  if m.type = 0 then
    let q : PtpSync := ⟨m.seq, if m.twoStep then none else some m.time, s.stamp b, m.corr⟩
    (s.setMgr { s.mgr with sync := s.mgr.sync.set b (some q), syncAt := s.mgr.syncAt.set b s.now }).setRef b true
  else if m.type = 8 then
    match sy with
    | some q =>
      if q.seq = m.seq then
        s.setMgr { s.mgr with sync := s.mgr.sync.set b (some { q with t1 := some m.time, corr := q.corr + m.corr }) }
      else s
    | none => s
  else if m.type = 9 && m.mine then
    let s := s.setMgr { s.mgr with delayLog := s.mgr.delayLog.set b (logCycles m.interval) }
    match sy, s.mgr.delayReq.getD b none with
    | some q, some r =>
      match q.t1 with
      | some t1 =>
        if r.1 = m.seq then
          (s.ptpOffset b t1 q.t2 r.2 ((m.time : Int) - m.corr).toNat q.corr).setMgr
            { (s.ptpOffset b t1 q.t2 r.2 ((m.time : Int) - m.corr).toNat q.corr).mgr with
              delayReq := s.mgr.delayReq.set b none }
        else s
      | none => s
    | _, _ => s
  else s

/-- A PTP message on one of the two domains (R355): versions, transport and message rates as supported. -/
def State.ptpMessage (s : State) (m : PtpMsg) : State :=
  if !s.isMgr || !s.rb Reg.TIME_PTP_PTP_EN || m.version ≠ 2 || 1 < m.minor || m.v6 ≠ s.rb Reg.TIME_PTP_PTP_V6 then s
  else
    match (List.range 2).find? (fun b => ptpDomain s.regs b = m.domain) with
    | none => s
    | some b =>
      let rateOk := if m.type = 11 then decide (-3 ≤ m.interval ∧ m.interval ≤ 3)
        else if m.type = 9 then decide (-7 ≤ m.interval ∧ m.interval ≤ 5)
        else if m.type = 0 then decide (-7 ≤ m.interval ∧ m.interval ≤ 1) else true
      if !rateOk then s
      else if m.type = 11 then s.ptpAnnounce b m
      else if s.mgr.master.getD b none = some m.sender then s.ptpMaster b m
      else s

/-- PTP_MESSAGE_RECEIVE. -/
def execPtpMessageReceive (msg : PtpMsg) (dt : Nat) (s : State) : Host.Outcome State Fault Refusal :=
  .next ((s.pass dt).ptpMessage msg)

/-- PTP_DELAY_REQ_SEND (R355): base of the domain, and the time since the step before, which the randomised interval gives. -/
def execPtpDelayReqSend (b dt : Nat) (s : State) : Host.Outcome State Fault Refusal :=
  let s := s.pass dt
  if !s.isMgr || 2 ≤ b || (s.mgr.master.getD b none).isNone || !s.rb Reg.TIME_PTP_PTP_EN then .next s
  else
    let seq := match s.mgr.delayReq.getD b none with | some r => (r.1 + 1) % 65536 | none => nth s.mgr.syncAt b % 65536
    let s := s.setMgr { s.mgr with delayReq := s.mgr.delayReq.set b (some (seq, s.stamp b)) }
    .next (s.emit .net ([3, ptpDomain s.regs b] ++ s.netTag) [word seq])

/-- The selected master of a domain is lost: event 245, another one if it qualifies, else the base's reference ends (R357). -/
def State.ptpLost (s : State) (b : Nat) : State :=
  match s.mgr.master.getD b none with
  | none => s
  | some id =>
    let s := s.setMgr { s.mgr with foreign := s.mgr.foreign.filter (fun (f : Foreign) => !(f.dom = b && f.id = id)) }
    (s.raise 245 0).selectMaster b (s.bestMaster b)

/-- PTP_TIMEOUT (R355): three announce intervals without an Announce of the selected master. -/
def execPtpTimeout (b : Nat) (s : State) : Host.Outcome State Fault Refusal :=
  let s := s.pass 0
  match s.mgr.master.getD b none with
  | none => .next s
  | some id =>
    let iv := match s.mgr.foreign.find? (fun (f : Foreign) => f.dom = b && f.id = id) with
      | some f => f.interval
      | none => 0
    if 2 ≤ b then .next s else .next ((s.gotoNow (nth s.mgr.announceAt b + 3 * iv)).ptpLost b)

/-- BASE_VALIDITY_TIMEOUT (R357): no Sync for 1 s. -/
def execBaseValidityTimeout (b : Nat) (s : State) : Host.Outcome State Fault Refusal :=
  let s := s.pass 0
  if !s.isMgr || 2 ≤ b || (s.mgr.master.getD b none).isNone then .next s
  else
    let s := s.gotoNow (nth s.mgr.syncAt b + cyclesS 1)
    .next ((s.setRef b false).raise 245 0)

end Sys2Proof.Machine
end

