-- ==== Sys2Proof/Machine/TimeRows.lean ====
section
/-! DEFINITION. The rows of time, capture and clocks (R354, R363, R366, R367, R370–R376). -/

namespace Sys2Proof.Machine

/-- SCHEDULE_CHANGE_APPLY (R363): what is due at the last tick generated is applied. -/
def execScheduleChangeApply (s : State) : Host.Outcome State Fault Refusal :=
  if s.time.ticked then .next ((s.pass 0).schedStep s.time.last).showTime else .next (s.pass 0)

/-- PHASE_COMMAND_APPLY (R367): the pending TIME_PHASE that is due at the last tick generated is applied, and φ slews or the
tick re-phases (R365, R369). -/
def execPhaseCommandApply (s : State) : Host.Outcome State Fault Refusal :=
  match s.time.phase with
  | some (k, _, _) =>
    if s.time.ticked && k ≤ s.time.last then .next (((s.pass 0).phaseStep s.time.last).slewStep false).showTime
    else .next (s.pass 0)
  | none => .next (s.pass 0)

/-- SYNC_IN_EDGE (R354, R366): an edge at the ball, `dt` REFCLK cycles after the step before. -/
def execSyncInEdge (falling : Bool) (dt : Nat) (s : State) : Host.Outcome State Fault Refusal :=
  .next ((s.pass dt).syncEdge falling)

/-- SYNC_IN_LOST (R366). -/
def execSyncInLost (s : State) : Host.Outcome State Fault Refusal := .next (s.pass 0).syncMissing

/-- CAPTURE_EDGE (R354): an edge of a capture input; element 1 is EVT_N. -/
def execCaptureEdge (el : Nat) (falling : Bool) (dt : Nat) (s : State) : Host.Outcome State Fault Refusal :=
  if el < 2 then .next ((s.pass dt).capture el falling) else .next (s.pass dt)

/-- CAPTURE_FIFO_READ (R354). -/
def execCaptureFifoRead (el : Nat) (s : State) : Host.Outcome State Fault Refusal :=
  if el < 2 then .next ((s.pass 0).capturePop el) else .next (s.pass 0)

/-! ### Synthesisers and DLLs (R370–R374) -/

/-- The lanes of a SYN-L loop: 1 the line-code lanes, 2 the Ethernet lanes. -/
def loopLanes (n : Nat) : List Nat := if n = 1 then (List.range 32).filter (fun l => l < 8 || 12 ≤ l) else List.range' 8 4

/-- The lanes of a loop idle, and each Cawell port on them goes DOWN (R374). -/
def State.loopIdle (s : State) (n : Nat) : State :=
  let s := (loopLanes n).foldl (fun (x : State) l => if x.laneState l = 0 then x else x.laneStop l) s
  if n = 1 then (List.range 4).foldl (fun (x : State) p => if x.r Reg.LINK_PORT_W1_STATE p = 0 then x else x.portDown p) s
  else s

/-- What losing a synthesiser does, but for its event and its count (R374). -/
def State.synStop (s : State) (n : Nat) : State :=
  let s := { s.w Reg.CLOCK_SYN_W0_LOCKED 0 n with time := { s.time with relocking := s.time.relocking.set n true } }
  match n with
  | 0 => { s with time := { s.time with blank := true } }
  | 1 => s.loopIdle 1
  | 2 => s.loopIdle 2
  | _ =>
    let s := { s with time := { s.time with blank := true } }.dropAligned
    if s.scanOn && s.time.ticked then s.repeatNext else s

/-- A synthesiser (0 SYN-A, 1 and 2 the SYN-L loops, 3 SYN-F) or a DLL (4 + i) loses lock (R373, R374). -/
def State.lockLoss (s : State) (n : Nat) : State :=
  if n < 4 then
    if !s.rb Reg.CLOCK_SYN_W0_LOCKED n then s
    else ((s.count Reg.CLOCK_SYN_W0_LOSSES n).synStop n).raise (nth [192, 193, 193, 194] n) 0
  else if n < 10 then
    let m := s.r Reg.CLOCK_DLL_LOCKED
    if bitsN m (n - 4) (n - 4) = 0 then s else (s.w Reg.CLOCK_DLL_LOCKED (m - 2 ^ (n - 4))).raise 197 0
  else s

/-- SYN_LOCK_LOSS (R374). -/
def execSynLockLoss (n dt : Nat) (s : State) : Host.Outcome State Fault Refusal := .next ((s.pass dt).lockLoss n).driveBlank

/-- A write of RELOCK = 1 (R374): the band search runs, with what the loss of that synthesiser does. -/
def State.relockWrite (s : State) (n : Nat) : State := if n < 4 then (s.synStop n).driveBlank else s

/-- SYN_RELOCK_WRITE (R374): CLOCK_SYN W0 of synthesiser `n` written with RELOCK = 1. -/
def execSynRelockWrite (n : Nat) (s : State) : Host.Outcome State Fault Refusal := .next ((s.pass 0).relockWrite n)

/-- BAND_SEARCH_RETRY (R371): a search found no band; event 200, and it runs again after 10 ms. -/
def execBandSearchRetry (n : Nat) (s : State) : Host.Outcome State Fault Refusal :=
  if n < 4 && s.time.relocking.getD n false then .next (((s.pass 0).raise 200 0).pass 1000000)
  else .next (s.pass 0)

/-- REFCLK_LOSS (R370): REFCLK leaves its limits or stops; the heads go dark and the synthesisers stop. -/
def execRefclkLoss (ppm : Int) (dt : Nat) (s : State) : Host.Outcome State Fault Refusal :=
  let s := s.pass dt
  if s.time.stopped then .next s
  else
    let s := { s with time := { s.time with blank := true, stopped := true } }
    let s := (s.w Reg.CLOCK_REF_REF_OK 0).wi Reg.CLOCK_REF_REF_PPM (satS 12 ppm)
    let s := (List.range 4).foldl (fun (x : State) n => x.w Reg.CLOCK_SYN_W0_LOCKED 0 n) s
    .next (s.raise 198 0).driveBlank

/-! ### Clock outputs (R375, R376) -/

/-- The frequency of a clock output's source in Hz times num: REFCLK, GCLK, LANE, CORE100. -/
def ckoHz (r : RegFile) (src num den : Nat) : Nat :=
  let q := geoOf r r
  match src with
  | 0 => 100000000 * den
  | 1 => rget r Reg.EMIT_SCAN_CTRL_LINE_CLKS 0 * q.subs * q.commons * num
  | 2 => 156250000 * den
  | _ => 100000000 * den

/-- A written CLOCK_CKO keeps the highest frequency of its format (R375). -/
def ckoOk (r : RegFile) (i : Nat) : Bool :=
  let num := rget r Reg.TIME_TICK_RATE_NUM 0
  let den := rget r Reg.TIME_TICK_RATE_DEN 0
  let hz := ckoHz r (rget r Reg.CLOCK_CKO_SOURCE i) num den
  let top := nth [0, 400000000, 400000000, 125000000] (rget r Reg.CLOCK_CKO_FORMAT i)
  rget r Reg.CLOCK_CKO_FORMAT i = 0 || hz ≤ top * den * (rget r Reg.CLOCK_CKO_DIV_M1 i + 1)

/-- ARM = 1 written (R376). -/
def State.ckoArm (s : State) (i : Nat) : State :=
  if i < 4 then
    { s with time := { s.time with armed := s.time.armed.set i true } }.w Reg.CLOCK_CKO_ALIGNED 0 i
  else s

/-- CKO_ARM (R376): output `i` armed. -/
def execCkoArm (i : Nat) (s : State) : Host.Outcome State Fault Refusal := .next ((s.pass 0).ckoArm i)

/-- CKO_ALIGN_EDGE (R376): an alignment edge, 0 a SYNC_IN rising edge, 1 the subfield 0 start. -/
def execCkoAlignEdge (src dt : Nat) (s : State) : Host.Outcome State Fault Refusal := .next ((s.pass dt).ckoEdge src)

/-! ### Writes that feed the phase and the servos (R350, R365) -/

/-- The outcome of a register write that is a step of its own, as the reply code it earns. -/
def State.tell (s : State) (r : WriteRes) : State :=
  let c := r.getD (0, 0)
  s.emit .reply [] [pack [(28, c.1), (0, c.2)]]

/-- OFFSET_IN_WRITE (R350). -/
def execOffsetInWrite (b : Nat) (v : Word) (s : State) : Host.Outcome State Fault Refusal :=
  let r := (s.pass 0).offsetIn b v
  .next (r.2.tell r.1)

end Sys2Proof.Machine
end

