-- ==== Sys2Proof/Machine/Access.lean ====
section
/-! DEFINITION. Register access (R4–R10, R429, R430, R540, R541): the checks that join several registers, what a write does beyond its
fields, reads that latch, and the commands that are one register write of their own. -/

namespace Sys2Proof.Machine

/-! ### Checks that join registers -/

/-- The scan limits of R232 hold wherever the scan is to run. -/
def scanJoint (r : RegFile) : Bool := rget r Reg.EMIT_HEAD_CTRL_SCAN_EN 0 = 0 || scanOk (gradeNow r) r

/-- The rate limits of R116 hold. -/
def rateJoint (r : RegFile) : Bool :=
  rateOk (gridOf r).rays (rget r Reg.TIME_TICK_RATE_NUM 0) (rget r Reg.TIME_TICK_RATE_DEN 0)
    (rget r Reg.HEARTH_PLAN_CTRL_FIRE_WINDOW 0)

/-- No cone table breaks R239. -/
def conesJoint (r : RegFile) : Bool := (List.range 16).all (fun c => !coneBad r r c)

/-- The slot's descriptor names, in the copy given, a surface that is being released (R148, R542). -/
def namesReleasing (r : RegFile) (i : Nat) : Bool :=
  (slotSet r).contains i && slotSrc r i && rget r Reg.KILN_SURF_W3_RELEASING (rget r Reg.KILN_SLOT_W7_SURF_ID i) ≠ 0

/-- The slot's descriptor keeps the entry rules of R69 (R137); a slot outside the slot set is not checked. -/
def slotJoint (r : RegFile) (i : Nat) : Bool :=
  let x := rget r Reg.KILN_SLOT_W1_ATLAS_X i
  let y := rget r Reg.KILN_SLOT_W1_ATLAS_Y i
  let w := rget r Reg.KILN_SLOT_W2_W_M1 i
  let h := rget r Reg.KILN_SLOT_W2_H_M1 i
  let same (j : Nat) : Bool :=
    j ≠ i && !slotSrc r j && slotAtlas r j = slotAtlas r i
      && rget r Reg.KILN_SLOT_W0_LIVE j ≠ rget r Reg.KILN_SLOT_W0_LIVE i
  !(slotSet r).contains i
  || (x + w < 8192 && y + h < 4352 && x % 2 = 0 && y % 2 = 0 && w % 2 = 1 && h % 2 = 1
      && rget r Reg.KILN_SLOT_W0_POLICY i ≠ 3 && (slotSrc r i || !(slotSet r).any same))

/-- The picture pool may lie where the registers place it (R99, R381). -/
def State.poolJoint (s : State) (r : RegFile) : Bool :=
  let base := rget r Reg.DECODE_POOL_BASE_POOL_BASE 0
  let n := poolSectors (rget r Reg.DECODE_POOL_CTRL_BUF_COUNT 0) (rget r Reg.DECODE_POOL_CTRL_BUF_KWORDS 0)
  n = 0 || (base + n ≤ s.installed && base + n ≤ s.r Reg.MEM_MAP_0002_OWNER_TOP && (s.surfsOf base n).isEmpty)

/-- The magnitude of SYNC_OFFSET is below one period (R366). -/
def syncOffsetOk (r : RegFile) : Bool :=
  let z := sext 36 (rget r Reg.TIME_SYNC_OFFSET_SYNC_OFFSET 0)
  z.natAbs * rget r Reg.TIME_TICK_RATE_NUM 0 < 16000000000 * rget r Reg.TIME_TICK_RATE_DEN 0

/-- The register file that a write of word `a` leads to keeps every rule that the word's registers join (R115–R118, R137, R167,
R232, R239, R253, R310, R322, R326, R329, R366, R375, R389, R406, R408, R417, R439). -/
def State.jointOk (s : State) (a : Nat) (r : RegFile) : Bool :=
  if a = Reg.KILN_GRID_HW_M1.addr then gridOk (gridOf r) && rateJoint r && mountOk s.lowGrade r && scanJoint r
  else if a = Reg.KILN_MOUNT_ROT.addr then mountOk s.lowGrade r
  else if a = Reg.KILN_FRAME_CTRL_MODE.addr then mountOk s.lowGrade r && scanJoint r
  else if a = Reg.HEARTH_PLAN_CTRL_FIRE_WINDOW.addr then rateJoint r && scanJoint r
  else if a = Reg.EMIT_SCAN_CTRL_LINE_CLKS.addr then scanJoint r && conesJoint r
  else if a = Reg.EMIT_HEAD_CTRL_SCAN_EN.addr then scanJoint r
  else if a = Reg.GLAZE_BRT_BRT.addr then
    rget r Reg.GLAZE_BRT_CROSSOVER 0 ≤ (rget r Reg.GLAZE_BRT_CUR_MIN 0 + 1) * 4096
  else if a = Reg.KILN_SLOT_SET_SET.addr then !(List.range 32).any (namesReleasing r)
  else if a = Reg.DECODE_POOL_CTRL_BUF_COUNT.addr || a = Reg.DECODE_POOL_BASE_POOL_BASE.addr then s.poolJoint r
  else if a = Reg.MGR_CTRL_RETURN.addr then
    rget r Reg.MGR_CTRL_BRIDGE 0 ≤ rget r Reg.MGR_CTRL_LEASE 0 && (rget r Reg.MGR_CTRL_RETURN 0 = 0 || s.role = 2)
  else if a = Reg.TIME_PTP_DOM0.addr then rget r Reg.TIME_PTP_DOM0 0 ≠ rget r Reg.TIME_PTP_DOM1 0
  else if a = Reg.TIME_SYNC_OFFSET_SYNC_OFFSET.addr then syncOffsetOk r
  else if a = Reg.MEM_CTRL_SP_SEL.addr then s.memJoint r
  else if (Reg.CLOCK_CKO_FORMAT.elem? a).isSome then ckoOk r ((Reg.CLOCK_CKO_FORMAT.elem? a).getD 0)
  else if (Reg.HEARTH_CONE_TH_TH.elem? a).isSome then conesOk r
  else if (Reg.EMIT_AUX_EN.elem? a).isSome then
    let i := (Reg.EMIT_AUX_EN.elem? a).getD 0
    rget r Reg.EMIT_AUX_CROSSOVER i ≤ (rget r Reg.EMIT_AUX_STEP_MIN i + 1) * 512
  else if (Reg.HEARTH_TS_W0_TYPE.elem? a).isSome then tsWriteOk ((Reg.HEARTH_TS_W0_TYPE.elem? a).getD 0) (wordOf r a)
  else if (Reg.HEARTH_RAIL_W1_LOW.elem? a).isSome then railOk (wordOf r a)
  else if (Reg.ENCODE_MAP_EN.elem? a).isSome then
    let i := (Reg.ENCODE_MAP_EN.elem? a).getD 0
    rget r Reg.ENCODE_MAP_EN i = 0 || mapOk r s.num s.den i
  else if (Reg.ENCODE_LAYER_W0_EN.elem? a).isSome then
    let l := (Reg.ENCODE_LAYER_W0_EN.elem? a).getD 0
    rget r Reg.ENCODE_LAYER_W0_EN l = 0 || layerOk r l
  else if 0x52010 ≤ a && a < 0x52018 then flowsOk r
  else if Reg.EMIT_DRIVE_CONE_W0_BLANK_CLKS.addr ≤ a && a < Reg.EMIT_DRIVE_CONE_W0_BLANK_CLKS.at 16 then
    !coneBad r r ((a - Reg.EMIT_DRIVE_CONE_W0_BLANK_CLKS.addr) / Reg.EMIT_DRIVE_CONE_W0_BLANK_CLKS.stride)
  else if 0x90100 ≤ a && a < 0x90300 then
    let i := (a - 0x90100) / 16
    slotJoint r i && !namesReleasing r i
  else true

/-! ### Writes -/

/-- The commit-class fields of a word, with their element (R30, R540). -/
def commitFields (a : Nat) : List (Fld × Nat) := (fieldsAt a).filter (fun p => p.1.commit && p.1.acc = .RW)

/-- A lane of the emitter strings or their echo may not be held while the scan runs (R271). -/
def State.holdBusy (s : State) (a : Nat) (v : Word) : Bool :=
  match Reg.LINK_LANE_W1_HOLD.elem? a with
  | some l => 12 ≤ l && bit v 35 && s.rb Reg.EMIT_HEAD_CTRL_SCAN_EN
  | none => false

/-- A write against the state of its unit, `r` being the register file it leads to: W0 of a lane that is not held (R269), HOLD
against a running scan (R271), TARGET of a tile whose demand comes from elsewhere (R365): BUSY; CAL_TTH_AGE while frames are fired: STAGE
(spec/08). -/
def State.stateBar (s : State) (r : RegFile) (a : Nat) (v : Word) : WriteRes :=
  let notHeld := match Reg.LINK_LANE_W0_TX_INV.elem? a with
    | some l => rget r Reg.LINK_LANE_W1_HOLD l = 0
    | none => false
  if notHeld || s.holdBusy a v || (a = Reg.TIME_PHASE_STATE_0026_TARGET.addr && s.rb Reg.TIME_TICK_CTRL_BOUNDARY) then some (0x10, 0)
  else if (Reg.CAL_TTH_AGE_AGE.elem? a).isSome && s.fire.firing then some (0x12, 0)
  else none

/-- Why a write is refused, if it is (R430): a field outside its range or a joint rule (BAD_PARAM), or its unit's state. -/
def State.writeBar (s : State) (a : Nat) (v : Word) : WriteRes :=
  let r := writeRaw s.planned a v
  if !wordInRange a v || !s.jointOk a r then some (0x21, 0) else s.stateBar r a v

/-- HOLD written (R271): the lane stops, or starts again. -/
def State.holdWritten (s : State) (l : Nat) : State :=
  if s.rb Reg.LINK_LANE_W1_HOLD l then s.laneStop l else s.laneStart l

/-- EN or SLEEP of a port written (R274, R275, R277): a port that is disabled or whose far end sleeps goes DOWN; the lanes of a
disabled port stop, those of an enabled one start. -/
def State.portWritten (s : State) (p : Nat) : State :=
  let s := if (!s.rb Reg.LINK_PORT_W0_EN p || s.rb Reg.LINK_PORT_W0_SLEEP p) && s.r Reg.LINK_PORT_W1_STATE p ≠ 0 then s.portDown p
    else s
  ((s.settleDomains.stopLanes).laneStart (2 * p)).laneStart (2 * p + 1)

/-- What a write does beyond its fields; `old` is the state before it. -/
def State.writeAfter (old s : State) (a : Nat) (v : Word) : State :=
  let s := { s with fire := { s.fire with touched := (commitFields a).foldl touch s.fire.touched } }
  if a = Reg.EMIT_HEAD_CTRL_SCAN_EN.addr then s.w Reg.MGMT_STAGE_SCAN (s.r Reg.EMIT_HEAD_CTRL_SCAN_EN)
  else if a = Reg.MEM_CTRL_SP_SEL.addr then
    let sp := s.r Reg.MEM_CTRL_SP_SEL
    if sp = old.r Reg.MEM_CTRL_SP_SEL then s else s.askSp sp
  else if a = Reg.EMIT_UPDATE_CTRL_FULL_NEXT.addr then (if bit v 30 then s.dropCells (fun _ => true) else s)
  else if a = Reg.CAL_AMB_CTRL_AMB_EN.addr then s.ambWrite
  else if a = Reg.LINK_EYE_CTRL_START.addr then (if bit v 35 then s.eyeStart (bits v 32 28) else s)
  else if a = Reg.DECODE_POOL_CTRL_BUF_COUNT.addr || a = Reg.DECODE_POOL_BASE_POOL_BASE.addr then
    { s with dec := { s.dec with poolPend := true } }
  else match Reg.LINK_LANE_W1_HOLD.elem? a with
  | some l => if old.rb Reg.LINK_LANE_W1_HOLD l = s.rb Reg.LINK_LANE_W1_HOLD l then s else s.holdWritten l
  | none => match Reg.LINK_PORT_W0_EN.elem? a with
  | some p => s.portWritten p
  | none => match Reg.CLOCK_SYN_W0_RELOCK.elem? a with
  | some n => if bit v 35 then s.relockWrite n else s
  | none => if 0x52040 ≤ a && a < 0x52090 then s.groupWritten old.regs ((a - 0x52040) / 5)
  else if 0x52400 ≤ a && a < 0x52500 then s.groupWritten old.regs ((a - 0x52400) / 16)
  else match Reg.TIME_BASE_W4_MODE.elem? a with
  | some b => s.modeWritten b
  | none => match Reg.CLOCK_CKO_FORMAT.elem? a with
  | some i => if bit v 18 then s.ckoArm i else s
  | none => s

/-- KILN_GRID or KILN_MOUNT written (R117): the two words wait for the next tick. -/
def State.geomWrite (s : State) (a : Nat) (v : Word) : State :=
  let r := writeRaw s.planned a v
  let g := (wordOf r 0x90020).toNat
  let m := (wordOf r 0x90021).toNat
  let same := g = (wordOf s.regs 0x90020).toNat && m = (wordOf s.regs 0x90021).toNat
  { s with fire := { s.fire with geom := if same then none else some [g, m] } }

/-- The word of the fourth base that a write may not reach (R349): W3, W4, W6 and W7 of TIME_BASE element 3. -/
def base3 (a : Nat) : Bool := a = 0x4001B || a = 0x4001C || a = 0x4001E || a = 0x4001F

/-- A word that is not refused is stored, with what its registers do then. -/
def State.storeReg (s : State) (a : Nat) (v : Word) : State :=
  if a = 0x90020 || a = 0x90021 then s.geomWrite a v
  else if (Reg.TIME_BASE_W3_INCR.elem? a).any s.servo then s
  else State.writeAfter s { s with regs := s.written a v } a v

/-- One word written (R5, R7, R430). -/
def State.writeReg (s : State) (a : Nat) (v : Word) : WriteRes × State :=
  if base3 a then (some (0x21, 0), s)
  else if (fieldsAt a).isEmpty then (none, s)
  else match Reg.TIME_BASE_W7_OFFSET_IN.elem? a with
  | some b => s.offsetIn b v
  | none => match s.writeBar a v with
  | some e => (some e, s)
  | none => (none, s.storeReg a v)

/-- The word that a masked write stores (R430): RW fields keep their old bits outside the mask, and outside it nothing is cleared
or triggered. -/
def State.masked (s : State) (a : Nat) (mask v : Word) : Word := maskedValue (rwWord s.planned a) mask v

/-- A commit-class field counts as written only where its bits meet the mask (R30, R430); `old` is the state before the write. -/
def State.maskTouched (old s : State) (a : Nat) (mask : Word) : State :=
  if mask = BitVec.allOnes 36 then s
  else
    let l := (commitFields a).filter (fun p => bits mask p.1.hi p.1.lo ≠ 0)
    { s with fire := { s.fire with touched := l.foldl touch old.fire.touched } }

/-- The writes of WRITE_REG in ascending order from `a` (R430, R441): the first that is refused stops the command with its
completion and its index. -/
def State.writeRun (s : State) (strict : Bool) : Nat → Nat → List (Word × Word) → Ans × State
  | _, i, [] => (.done i, s)
  | a, i, p :: t =>
    let v := s.masked a p.1 p.2
    if strict && changesStamp s.planned a v then (.denied a, s)
    else
      let r := s.writeReg a v
      match r.1 with
      | some e => (⟨e.1, i, []⟩, r.2)
      | none => (s.maskTouched r.2 a p.1).writeRun strict (a + 1) (i + 1) t

/-! ### Reads -/

/-- Fields set from a time value. -/
def State.showBase (s : State) (b : Nat) : State :=
  let w := wordsOfTime (s.baseAny b)
  s.ws [(Reg.TIME_BASE_W0_TIME, b, (nthW w 0).toNat), (Reg.TIME_BASE_W1_TIME, b, (nthW w 1).toNat),
    (Reg.TIME_BASE_W2_TIME, b, (nthW w 2).toNat)]

/-- What a read does before its word is taken: a HI word latches what belongs to it, W0 of a base its time, W1 of a capture
element takes the oldest stamp (R354, R429); the words that show tables in use show it as it is now (R124, R178, R179). -/
def State.readLatch (s : State) (a : Nat) : State :=
  if a = Reg.KILN_FRAME_NOW_HI_FRAME_HI.addr then
    s.ws [(Reg.KILN_FRAME_NOW_HI_FRAME_HI, 0, s.curFrame / 2 ^ 36 % 2 ^ 12), (Reg.KILN_FRAME_NOW_LO_FRAME_LO, 0, s.curFrame % 2 ^ 36)]
  else if a = Reg.DECODE_STREAM_FRAME_HI_FRAME_HI.addr then
    s.ws [(Reg.DECODE_STREAM_FRAME_HI_FRAME_HI, 0, s.stream.applied / 2 ^ 36 % 2 ^ 12),
      (Reg.DECODE_STREAM_FRAME_LO_FRAME_LO, 0, s.stream.applied % 2 ^ 36)]
  else if a = Reg.MGMT_BAKE_STAMP_0114_TICK_HI.addr then
    let t := s.bake.stamp
    s.ws [(Reg.MGMT_BAKE_STAMP_0112_SHARED, 0, t.1), (Reg.MGMT_BAKE_STAMP_0113_TILE, 0, t.2.1),
      (Reg.MGMT_BAKE_STAMP_0114_TICK_HI, 0, t.2.2 / 2 ^ 36 % 2 ^ 12), (Reg.MGMT_BAKE_STAMP_0115_TICK_LO, 0, t.2.2 % 2 ^ 36)]
  else if a = Reg.KILN_LUT_STATUS_IN_USE.addr || a = Reg.GLAZE_LUT_STATUS_IN_USE.addr || (Reg.GLAZE_SLOT_IN_USE.elem? a).isSome then
    s.showTables
  else match Reg.TIME_BASE_W0_TIME.elem? a with
  | some b => s.showBase b
  | none => match Reg.TIME_CAPTURE_W1_STAMP.elem? a with
  | some e => s.capturePop e
  | none => s

/-- One word read. -/
def State.readReg (s : State) (a : Nat) : Word × State :=
  let s := s.readLatch a
  ({ s with regs := s.planned }.wordView a, s)

/-- `n` words read in ascending order (R429). -/
def State.readRun (s : State) : Nat → Nat → List Word × State
  | _, 0 => ([], s)
  | a, n + 1 =>
    let r := s.readReg a
    let t := r.2.readRun (a + 1) n
    (r.1 :: t.1, t.2)

/-! ### The two commands -/

/-- What role, stage and power hold against an access of `n` words from `a` (R17, R398, R541). -/
def State.wordsBar (s : State) (a n : Nat) : Option Ans :=
  let bs := (List.range 14).filter (fun b => a / 65536 ≤ b && b ≤ (a + n - 1) / 65536)
  if bs.any (fun b => !blockOn s.role b) || (List.range n).any (fun i => barredReg s.isMgr (a + i)) then some .resource
  else if bs.any s.blockFailed then some .fault
  else if bs.any s.blockHeld then some .stage
  else none

/-- The same against READ_REG or WRITE_REG: steps 5 and 6 of R421. -/
def State.accessBar (s : State) (ps : List Word) : Option Ans :=
  let a := bits (nthW ps 0) 19 0
  let n := bits (nthW ps 0) 31 20
  if ps.isEmpty || n = 0 then none else s.wordsBar a n

/-- The range of an access lies inside one block's window (R429). -/
def rangeOk (a n : Nat) : Bool := 1 ≤ n && a + n ≤ 0xE0000 && a / 65536 = (a + n - 1) / 65536

/-- 0x002 READ_REG (R429). -/
def hReadReg : Handler := fun _ ps s =>
  let a := bits (nthW ps 0) 19 0
  let n := bits (nthW ps 0) 31 20
  if ps.length ≠ 1 || 1018 < n || !rangeOk a n then (.badParam, s)
  else
    let r := s.readRun a n
    (.reply r.1, r.2)

/-- Mask and value of each word of WRITE_REG (R430). -/
def writePairs (masked : Bool) : List Word → List (Word × Word)
  | [] => []
  | [v] => if masked then [] else [(BitVec.allOnes 36, v)]
  | m :: v :: t => if masked then (m, v) :: writePairs masked t else (BitVec.allOnes 36, m) :: writePairs masked (v :: t)

/-- 0x003 WRITE_REG (R430, R441). -/
def hWriteReg : Handler := fun _ ps s =>
  let w := nthW ps 0
  let a := bits w 19 0
  let n := bits w 31 20
  let m := bit w 34
  if ps.length ≠ 1 + n * (if m then 2 else 1) || (if m then 508 else 1017) < n || !rangeOk a n then (.badParam, s)
  else s.writeRun (s.rb Reg.MGMT_BAKE_CTRL_STRICT) a 0 (writePairs m (ps.drop 1))

/-! ### Register writes as steps of their own -/

/-- Steps 5 and 6 of R421 for a row that is a register access of its own, as for READ_REG and WRITE_REG: RESOURCE, then STAGE in greenware,
then what the block's power holds. -/
def State.rowBar (s : State) (a n : Nat) : Option Ans :=
  if s.wordsBar a n ≠ some .resource && s.role ≠ 3 && s.stage = 0 then some .stage else s.wordsBar a n

/-- The device takes the access, and nothing bars it. -/
def State.rowOpen (s : State) (a n : Nat) : Bool := s.alive && (s.rowBar a n).isNone

/-- An access of `n` words at `a`: `f` where it is open, else the code that bars it and no effect (R17). -/
def State.atRow (s : State) (a n : Nat) (f : State → State) : State :=
  if !s.alive then s
  else match s.rowBar a n with
  | some e => s.tell (some (e.code, e.detail))
  | none => f s

/-- One write of a word, and what it answers. -/
def State.writeTold (s : State) (a : Nat) (v : Word) : State :=
  (s.pass 0).atRow a 1 (fun t =>
    let r := t.writeReg a v
    r.2.tell r.1)

/-- REGISTER_WRITE (R5). -/
def execRegisterWrite (a : Nat) (v : Word) (s : State) : Host.Outcome State Fault Refusal := .next (s.writeTold a v)

/-- LATCHING_READ (R429): the words read from `a` on; a range that READ_REG does not take answers BAD_PARAM. -/
def execLatchingRead (a n : Nat) (s : State) : Host.Outcome State Fault Refusal :=
  .next ((s.pass 0).atRow a n (fun t =>
    if 1018 < n || !rangeOk a n then t.tell (some (0x21, 0))
    else
      let r := t.readRun a n
      r.2.emit .reply [] r.1))

/-- FULL_NEXT_WRITE (R216): FULL_NEXT = 1 with the other fields of EMIT_UPDATE_CTRL kept. -/
def execFullNextWrite (s : State) : Host.Outcome State Fault Refusal :=
  .next (s.writeTold 0xB0002 (rwWord s.regs 0xB0002 ||| pack [(30, 1)]))

/-- EYE_START (R270): START = 1 with LANE. -/
def execEyeStart (lane : Nat) (s : State) : Host.Outcome State Fault Refusal :=
  .next (s.writeTold 0x50881 (maskedValue (rwWord s.regs 0x50881) (pack [(35, 1), (28, 31)]) (pack [(35, 1), (28, lane % 32)])))

/-- LANE_HOLD_WRITE (R271): HOLD of a lane. -/
def execLaneHoldWrite (lane : Nat) (hold : Bool) (s : State) : Host.Outcome State Fault Refusal :=
  .next (s.writeTold (Reg.LINK_LANE_W1_HOLD.at (lane % 32)) (pack [(35, b2n hold)]))

/-- LANE_EQ_WRITE (R269): W0 of a lane. -/
def execLaneEqWrite (lane : Nat) (v : Word) (s : State) : Host.Outcome State Fault Refusal :=
  .next (s.writeTold (Reg.LINK_LANE_W0_TX_INV.at (lane % 32)) v)

/-- SP_SEL_WRITE (R389): SP_SEL with the other fields of MEM_CTRL kept. -/
def execSpSelWrite (sp : Nat) (s : State) : Host.Outcome State Fault Refusal :=
  .next (s.writeTold 0x60000 (maskedValue (rwWord s.regs 0x60000) (pack [(29, 1)]) (pack [(29, sp % 2)])))

/-- PHASE_TARGET_WRITE (R365). -/
def execPhaseTargetWrite (v : Word) (s : State) : Host.Outcome State Fault Refusal := .next (s.writeTold 0x40026 v)

/-- SCAN_CONFIG_WRITE (R232): EMIT_SCAN_CTRL, or EMIT_HEAD_CTRL where `head` is set. -/
def execScanConfigWrite (head : Bool) (v : Word) (s : State) : Host.Outcome State Fault Refusal :=
  .next (s.writeTold (if head then 0xB0001 else 0xB0000) v)

/-- KILN_GRID_WRITE (R115). -/
def execKilnGridWrite (v : Word) (s : State) : Host.Outcome State Fault Refusal := .next (s.writeTold 0x90020 v)

/-- KILN_MOUNT_WRITE (R118). -/
def execKilnMountWrite (v : Word) (s : State) : Host.Outcome State Fault Refusal := .next (s.writeTold 0x90021 v)

/-- Staged output of a frame is discarded without refire (R117). -/
def FireFrame.unstage (f : FireFrame) : FireFrame := { f with bands := [], rows := 0, queue := [], seen := [] }

/-- The frame of the last tick, where it has been fired and awaits its swap, is repeated instead (R117). -/
def State.repeatDue (s : State) : State :=
  let n := s.time.last
  match s.fireFrame n with
  | some f =>
    if s.emit_.await = some n && !f.repeated then
      let s := (s.repeatFrame f).dropFrame n
      (({ s with emit_ := { s.emit_ with await := none } }.w Reg.KILN_FRAME_STATUS_REPEATED 1).clearFrm n).tellOutcome n 5
    else s
  | none => s

/-- The geometry that waits takes effect at tick K (R117): event 745, frame K is repeated, what has run ahead is discarded. -/
def State.geomChange (s : State) : State :=
  match s.fire.geom with
  | none => s
  | some _ =>
    let n := s.time.last
    let s := s.repeatDue
    let s := { s with
      regs := s.planned
      fire := { s.fire with
        geom := none
        shelf := []
        frames := s.fire.frames.map (fun (f : FireFrame) => if n < f.frame then f.unstage else f) } }
    (s.raise 745 (n % 2 ^ 28)).dropCells (fun _ => true)

/-- GEOMETRY_CHANGE (R117): what waits takes effect now. -/
def execGeometryChange (s : State) : Host.Outcome State Fault Refusal := .next (s.pass 0).geomChange

/-- SLOT_DESCRIPTOR_WRITE (R137): word `w` of slot `i`. -/
def execSlotDescriptorWrite (i w : Nat) (v : Word) (s : State) : Host.Outcome State Fault Refusal :=
  .next (s.writeTold (0x90100 + 16 * (i % 32) + w % 8) v)

/-- SLOT_SET_WRITE (R542). -/
def execSlotSetWrite (v : Word) (s : State) : Host.Outcome State Fault Refusal := .next (s.writeTold 0x90010 v)

/-- DECODE_POOL_WRITE (R102): DECODE_POOL_CTRL, or DECODE_POOL_BASE where `base` is set. -/
def execDecodePoolWrite (base : Bool) (v : Word) (s : State) : Host.Outcome State Fault Refusal :=
  .next (s.writeTold (if base then 0x70012 else 0x70011) v)

/-- POOL_RESET (R102): a pool write takes effect. -/
def execPoolReset (s : State) : Host.Outcome State Fault Refusal :=
  .next (if s.dec.poolPend then (s.pass 0).poolReset else s.pass 0)

/-- DRIVE_CONE_WRITE (R239): word `w` of cone `c`. -/
def execDriveConeWrite (c w : Nat) (v : Word) (s : State) : Host.Outcome State Fault Refusal :=
  .next (s.writeTold (Reg.EMIT_DRIVE_CONE_W0_BLANK_CLKS.at (c % 16) + w % 18) v)

/-- LIVE_FLOW_WRITE (R310): word `w` of flow `i`. -/
def execLiveFlowWrite (i w : Nat) (v : Word) (s : State) : Host.Outcome State Fault Refusal :=
  .next (s.writeTold (0x52010 + 4 * (i % 2) + w % 4) v)

/-- ENCODE_MAP_WRITE (R329). -/
def execEncodeMapWrite (i : Nat) (v : Word) (s : State) : Host.Outcome State Fault Refusal :=
  .next (s.writeTold (0x80100 + i % 256) v)

/-- GROUP_ENTRY_WRITE (R303): word `w` of entry `g`. -/
def execGroupEntryWrite (g w : Nat) (v : Word) (s : State) : Host.Outcome State Fault Refusal :=
  .next (s.writeTold (0x52040 + 5 * (g % 16) + w % 5) v)

end Sys2Proof.Machine
end

