-- ==== Sys2Proof/Machine/Bake.lean ====
section
/-! DEFINITION. Bakes, the bake stamp and its audit (R438–R448), the BEACON queue and event datagrams (R435, R436). -/

namespace Sys2Proof.Machine

/-! ### BEACON (R435, R436) -/

/-- The fence word of R313. -/
def fenceWord (fence : Nat) : Word := word (fence * 8)

/-- The payload of an event packet sent as a datagram to every enabled destination (R436). -/
def State.eventDatagrams (s : State) (mgr : Bool) (x y : Nat) (gap : Bool) (payload : List Word) : State :=
  let d0 := pack [(35, b2n mgr), (28, x), (21, y), (20, s.r Reg.MGR_CTRL_IDX), (19, b2n gap)]
  ((List.range 4).filter (fun d => s.rb Reg.MGR_EVT_DEST_W0_EN d)).foldl
    (fun (t : State) d => t.emit .eventDgram (d :: t.netTag) (d0 :: payload)) s

/-- The port toward the manager holding the peel, when one is up (R285, R435). -/
def State.peelPort (s : State) : Option Nat :=
  let m := mgrRoute s.regs (peelIdx s.regs)
  if m.1 then [m.2.1, m.2.2.1].find? s.portUp else none

/-- One packet of the BEACON queue on its way: a manager that holds the peel sends its own KIND 1 packets as datagrams. -/
def State.sendBeacon (s : State) (ws : List Word) : State :=
  if s.peelHeld then (if bits (nthW ws 0) 35 32 = 1 then s.eventDatagrams true (s.r Reg.MGR_CTRL_IDX) 0 false ws else s)
  else s.sendMgr 3 0x7F ws

/-- The BEACON queue drains as far as a route is up (R435). -/
def State.flushBeacons (s : State) : State :=
  if s.peelHeld || s.peelPort.isSome then
    let q := s.evt.beaconQ
    q.foldl State.sendBeacon { s with evt := { s.evt with beaconQ := [] } }
  else s

/-! ### The pending bake (R438) -/

/-- Tick K of the pending bake. -/
def State.bakeK (s : State) : Nat := s.r Reg.MGMT_BAKE_PEND_0116_K_HI * 2 ^ 36 + s.r Reg.MGMT_BAKE_PEND_0117_K_LO

/-- The pending bake is gone. -/
def State.clearBake (s : State) : State :=
  { s with bake := { s.bake with writes := [], req := none } }.ws
    [(Reg.MGMT_BAKE_PEND_0116_OPEN, 0, 0), (Reg.MGMT_BAKE_PEND_0116_CLOSED, 0, 0), (Reg.MGMT_BAKE_PEND_0116_WRITES, 0, 0),
     (Reg.MGMT_BAKE_PEND_0116_K_HI, 0, 0), (Reg.MGMT_BAKE_PEND_0117_K_LO, 0, 0), (Reg.MGMT_BAKE_PEND_0118_EPOCH, 0, 0)]

/-- 0x101 BAKE_OPEN. -/
def hBakeOpen : Handler := fun _ ps s =>
  let epoch := (nthW ps 0).toNat
  let k := join48 (nthW ps 1) (nthW ps 2)
  let n := s.nextTick
  if epoch = 0 || epoch < s.r Reg.MGMT_BAKE_EPOCH_EPOCH || k < n + 1 || n + 65536 < k then (.badParam, s)
  else if s.rb Reg.MGMT_BAKE_PEND_0116_OPEN || s.rb Reg.MGMT_BAKE_PEND_0116_CLOSED then (.busy, s)
  else
    (.done k, { s with bake := { s.bake with writes := [] } }.ws
      [(Reg.MGMT_BAKE_PEND_0116_OPEN, 0, 1), (Reg.MGMT_BAKE_PEND_0116_WRITES, 0, 0),
       (Reg.MGMT_BAKE_PEND_0116_K_HI, 0, k / 2 ^ 36), (Reg.MGMT_BAKE_PEND_0117_K_LO, 0, k % 2 ^ 36),
       (Reg.MGMT_BAKE_PEND_0118_EPOCH, 0, epoch)])

/-- Address and value pairs of a parameter list. -/
def bakePairs : List Word → List (Nat × Word)
  | a :: v :: t => (bits a 19 0, v) :: bakePairs t
  | _ => []

/-- A bake may hold the write (R438): an RW field of a block that is on, in its own range. -/
def State.bakeWriteOk (s : State) (p : Nat × Word) : Bool :=
  hasRW s.role p.1 && !barredReg s.isMgr p.1 && wordInRange p.1 p.2

/-- 0x102 BAKE_WRITE. -/
def hBakeWrite : Handler := fun _ ps s =>
  let l := bakePairs ps
  let n := s.bake.writes.length + l.length
  if !s.rb Reg.MGMT_BAKE_PEND_0116_OPEN || ps.isEmpty || ps.length % 2 = 1 || !l.all s.bakeWriteOk then (.badParam, s)
  else if 4096 < n then (.resource, s)
  else (.done n, { s with bake := { s.bake with writes := s.bake.writes ++ l } }.w Reg.MGMT_BAKE_PEND_0116_WRITES n)

/-- The window of a bake for tick `k` has closed (R440). -/
def State.bakeLate (s : State) (k : Nat) : Bool :=
  let lead := if s.isMgr then 250 else s.es Reg.KILN_FRAME_CTRL_COMMIT_LEAD
  (s.time.ticked && k ≤ s.time.last) || s.plannedAt k - us lead ≤ s.tb3

/-- 0x103 BAKE_CLOSE (R438, R440). -/
def hBakeClose : Handler := fun c _ s =>
  if !s.rb Reg.MGMT_BAKE_PEND_0116_OPEN then (.badParam, s)
  else if s.bakeLate s.bakeK then (.late, (s.clearBake).raise 9 0)
  else
    (.accepted s.bakeK, { s with bake := { s.bake with req := some c.req } }.ws
      [(Reg.MGMT_BAKE_PEND_0116_OPEN, 0, 0), (Reg.MGMT_BAKE_PEND_0116_CLOSED, 0, 1)])

/-- 0x105 BAKE_ABORT: a discarded bake owes no completion any more. -/
def hBakeAbort : Handler := fun _ _ s => (.done, s.clearBake)

/-! ### The bake applied (R439) -/

/-- The register file with a bake's writes. -/
def bakeFile (r : RegFile) (l : List (Nat × Word)) : RegFile := l.foldl (fun x p => writeRaw x p.1 p.2) r

/-- The first write of a bake that breaks a rule on the state that results. -/
def State.bakeBad (s : State) (r : RegFile) : Nat → List (Nat × Word) → Option Nat
  | _, [] => none
  | i, p :: t => if s.jointOk p.1 r && (s.stateBar r p.1 p.2).isNone then s.bakeBad r (i + 1) t else some i

/-- The commit-class fields of a bake's writes, with their values: in force from frame K + 1 (R439). -/
def bakeCommits (l : List (Nat × Word)) : List (Fld × Nat × Nat) :=
  l.flatMap (fun p => (commitFields p.1).map (fun q => (q.1, q.2, bits p.2 q.1.hi q.1.lo)))

/-- The bake of tick `n` applied; a tick that a re-phase skipped counts as the tick after it. -/
def State.bakeTick (s : State) (n : Nat) : State :=
  if !s.rb Reg.MGMT_BAKE_PEND_0116_CLOSED || n < s.bakeK then s
  else
    let l := s.bake.writes
    let q := s.bake.req
    match s.bakeBad (bakeFile s.planned l) 0 l with
    | some i => ((s.clearBake).raise 10 0).completeOpt q (.fault i)
    | none =>
      let e := s.r Reg.MGMT_BAKE_PEND_0118_EPOCH
      let touched := s.fire.touched
      let s := l.foldl (fun (x : State) p => x.storeReg p.1 p.2) s
      let s := { s with inForce := applyCommit s.inForce (bakeCommits l), fire := { s.fire with touched := touched } }
      (((s.clearBake).w Reg.MGMT_BAKE_EPOCH_EPOCH e).raise 8 0).completeOpt q (.done e)

/-- BAKE_APPLY (R439): the bake whose tick has come. -/
def execBakeApply (s : State) : Host.Outcome State Fault Refusal :=
  .next (if s.time.ticked then (s.pass 0).bakeTick s.time.last else s.pass 0)

/-! ### The stamp (R442, R443) -/

/-- A number put in its place in a rising list without repeats. -/
def insertNat (n : Nat) : List Nat → List Nat
  | [] => [n]
  | a :: t => if n < a then n :: a :: t else if n = a then a :: t else a :: insertNat n t

/-- The words of a block that hold a field marked Yes, in ascending address. -/
def stampAddrs (b : Nat) : List Nat :=
  (blockFields b).foldl (fun l f => if f.stamp then (List.range f.count).foldl (fun x i => insertNat (f.at i) x) l else l) []

/-- The words of part 2 (R442): KILN_MOUNT, EMIT_HEAD_CTRL, EMIT_DRAW_REGION, EMIT_DRIVE_CONE, EMIT_FD_GROUP, GLAZE_SETLIST,
CAL_TTH, CAL_WT, HEARTH_TS, HEARTH_RAIL, HEARTH_PHOTO, HEARTH_ZONE, HEARTH_PMBUS, LINK:0x2000–0x24FF. -/
def tilePart (a : Nat) : Bool :=
  a = 0x90021 || a = 0xB0001 || a = 0x20401
  || [(0xB0040, 64), (0xB0100, 512), (0xB0310, 16), (0xA0020, 6), (0x20410, 16), (0x20010, 64), (0x20060, 24), (0x20078, 4),
      (0x20080, 16), (0x200D0, 8), (0x52000, 0x500)].any (fun (p : Nat × Nat) => p.1 ≤ a && a < p.1 + p.2)

/-- The words that the stamp covers in a role (R442). -/
def stampAll (role : Nat) : List Nat :=
  ((List.range 14).filter (blockOn role)).flatMap (fun b =>
    (stampAddrs b).filter (fun a => role = 1 || role = 2 || !mgrOnly a))

/-- A word with every field that is not marked Yes at zero; commit-class fields from the copy in force. -/
def State.stampWord (s : State) (a : Nat) : Word :=
  pack ((fieldsAt a).filterMap (fun p => if p.1.stamp then some (p.1.lo, s.inf p.1 p.2) else none))

/-- The image of part 0 or part 2: address and word of each. -/
def State.stampRegs (s : State) (tile : Bool) : List Word :=
  ((stampAll s.role).filter (fun a => tilePart a = tile)).flatMap (fun a => [word a, s.stampWord a])

/-- The image of a part (R442). -/
def State.stampImage (s : State) (part : Nat) : List Word :=
  match part with
  | 0 => s.stampRegs false
  | 2 => s.stampRegs true
  | _ =>
    if s.isMgr then []
    else match part with
    | 1 => (List.range 16).flatMap (preImage s.fire.pre)
    | 3 => (List.range 4).flatMap (postImage s.glaze.post)
    | 4 => (List.range 8).flatMap (fun i =>
        wordOf s.regs (Reg.GLAZE_SLOT_LOADED.at i)
          :: (if s.rb Reg.GLAZE_SLOT_LOADED i then matImage s.glaze.mats i (s.r Reg.GLAZE_SLOT_COUNT_M1 i + 1) else []))
    | 5 => (List.range 49152).flatMap (fun c => [ctxWord s.glaze.ctx c 0, ctxWord s.glaze.ctx c 1])
    | _ => lossImage s.cal.loss

/-- The digest of a part. -/
def State.partDigest (s : State) (part : Nat) : BitVec 384 := Config.sha384 (packBytes (s.stampImage part))

/-- Bits [383:348] of a digest. -/
def top36 (d : BitVec 384) : Nat := d.toNat / 2 ^ 348

/-- The shared half and the tile half of the stamp (R442). -/
def State.stampHalves (s : State) : Nat × Nat :=
  let d (k : Nat) : List Byte := hashBytes (s.partDigest k)
  (top36 (Config.sha384 (packBytes [word (s.r Reg.MGMT_BAKE_EPOCH_EPOCH)] ++ d 0 ++ d 1)),
   top36 (Config.sha384 (d 2 ++ d 3 ++ d 4 ++ d 5 ++ d 6)))

/-- The stamp of tick `n` (R443). -/
def State.stampTick (s : State) (n : Nat) : State :=
  let h := s.stampHalves
  { s with bake := { s.bake with stamp := (h.1, h.2, n) } }.ws
    ((List.range 7).map (fun k => (Reg.MGMT_BAKE_PART_DIGEST, k, top36 (s.partDigest k))))

/-! ### Beacons and neighbours (R444, R445) -/

/-- SEQ of the next event packet, taken (R435). -/
def State.takeSeq (s : State) : Nat × State :=
  let q := nextSeq (s.r Reg.MGMT_EVT_MISS_SEQ)
  (q, s.w Reg.MGMT_EVT_MISS_SEQ q)

/-- The bake beacon of tick `n` (R444): the packet, and what C8–C10 announce from now on. -/
def State.beaconTick (s : State) (n : Nat) : State :=
  if n % 16 ≠ 0 || !s.rb Reg.LINK_POS_PLACED || s.stage ≠ 2 then s
  else
    let e := s.r Reg.MGMT_BAKE_EPOCH_EPOCH
    let st := s.bake.stamp
    let s := { s with bake := { s.bake with beacon := (e, st.1, st.2.1) } }
    if 64 ≤ s.evt.beaconQ.length then s
    else
      let q := s.takeSeq
      let ws := [pack [(32, 2), (0, q.1)], word e, word st.1, word st.2.1, word (n / 2 ^ 36), word n, 0]
      { q.2 with evt := { q.2.evt with beaconQ := q.2.evt.beaconQ ++ [ws] } }

/-- The far end of a port is a worker, placed, in glost and of the same section (R445). -/
def State.peerTile (s : State) (p : Nat) : Bool :=
  let c6 := nthW (s.port p).far 0
  s.portUp p && s.r Reg.LINK_PORT_W1_FAR p = 1 && s.rb Reg.LINK_PORT_W1_FAR_PLACED p && bits c6 6 4 = 2
    && bits c6 14 7 = s.r Reg.LINK_POS_SECT

/-- The neighbour check of tick `n` (R445). -/
def State.neighbourTick (s : State) (n : Nat) : State :=
  if n % 16 ≠ 8 || !s.isWorker then s
  else (List.range 4).foldl (fun (x : State) p =>
    let far := (x.port p).far
    x.raiseIf (x.peerTile p
      && ((nthW far 4).toNat ≠ x.r Reg.MGMT_BAKE_EPOCH_EPOCH || (nthW far 2).toNat ≠ x.bake.stamp.1)) 11 p) s

/-! ### The audit (R446, R447) -/

/-- A worker's position as a DETAIL. -/
def Worker.place (w : Worker) : Nat := w.x * 128 + w.y

/-- A bake's route covers a worker (R447). -/
def covers (route : Word) (w : Worker) : Bool :=
  match h1Type route with
  | 0 => w.x = h1X0 route && w.y = h1Y0 route
  | 1 => h1X0 route ≤ w.x && w.x ≤ h1X1 route && h1Y0 route ≤ w.y && w.y ≤ h1Y1 route
  | 2 => true
  | _ => false

/-- A bake sent to all. -/
def SentBake.toAll (b : SentBake) : Bool := h1Type b.route = 2

/-- The last bake forwarded with ATYPE all. -/
def State.lastBake (s : State) : Option SentBake := (s.mgr.bakes.filter SentBake.toAll).getLast?

/-- A command of the manager's own to tiles (R312). -/
def State.sendCmd (s : State) (opcode : Nat) (h1 : Word) (ps : List Word) : State :=
  s.sendTiles 0 h1 (fenceWord s.mgr.fence :: pack [(24, opcode), (0, ps.length)] :: h1 :: ps)

/-- Writes merged: a later write to an address replaces an earlier one. -/
def mergeWrites (l : List (Nat × Word)) : List (Nat × Word) :=
  l.foldl (fun acc p => acc.filter (fun q => q.1 ≠ p.1) ++ [p]) []

/-- A list cut in pieces of at most `n`; `fuel` bounds the pieces. -/
def pieces {α : Type} (n : Nat) : Nat → List α → List (List α)
  | 0, _ => []
  | fuel + 1, l => if l.isEmpty then [] else l.take n :: pieces n fuel (l.drop n)

/-- One bake sent to a worker by unicast: ABORT, OPEN, WRITE, CLOSE. -/
def State.sendBake (s : State) (w : Worker) (epoch k : Nat) (l : List (Nat × Word)) : State :=
  let h1 := toTile w.x w.y
  let s := (s.sendCmd 0x105 h1 []).sendCmd 0x101 h1 [word epoch, word (k / 2 ^ 36), word k]
  let s := (pieces 509 9 l).foldl (fun (x : State) ps =>
    x.sendCmd 0x102 h1 (ps.flatMap (fun (p : Nat × Word) => [word p.1, p.2]))) s
  s.sendCmd 0x103 h1 []

/-- Worker `i` cannot be repaired by a resend (R447). -/
def State.unrepaired (s : State) (i : Nat) (w : Worker) : State := (s.w Reg.MGMT_AUDIT_W0_RESULT 5 i).raise 21 w.place

/-- A resend to worker `i`, whose epoch is `e` (R447). -/
def State.resend (s : State) (i e : Nat) : State :=
  match s.mgr.workers[i]?, s.lastBake with
  | some w, some last =>
    let low := match s.mgr.bakes.head? with
      | some b => e < b.epoch
      | none => true
    if low || last.epoch < e then s.unrepaired i w
    else if w.resent.any (fun t => s.time.last < t + 16) then s
    else
      let k := max (s.time.last + s.r Reg.MGMT_BAKE_CTRL_RESEND_LEAD) last.k
      let l := mergeWrites ((s.mgr.bakes.filter (fun (b : SentBake) => e < b.epoch && covers b.route w)).flatMap (·.writes))
      (((s.setWorker i { w with resent := some s.time.last }).sendBake w last.epoch k l).count Reg.MGMT_AUDIT_W0_RESENDS i).raise
        20 w.place
  | some w, none => s.unrepaired i w
  | none, _ => s

/-- The most frequent value of a list; 0 on a tie or for an empty list. -/
def majority (l : List Nat) : Nat :=
  let n (v : Nat) : Nat := (l.filter (· = v)).length
  let best := l.foldl (fun b v => max b (n v)) 0
  match (l.filter (fun v => n v = best)).head? with
  | some v => if (l.filter (fun u => n u = best)).all (· = v) then v else 0
  | none => 0

/-- The class of a worker at the audit of tick `t`'s beacons (R446): 0 clean, 1 SILENT, 2 EPOCH, 3 SHARED, 4 TILE. -/
def auditClass (w : Worker) (t section_ expect : Nat) : Nat :=
  match w.beacon with
  | some (bt, e, sh, tl) =>
    if bt ≠ t then 1
    else if e ≠ section_ then 2
    else if expect ≠ 0 && sh ≠ expect then 3
    else if w.tile.any (· ≠ tl) then 4
    else 0
  | none => 1

/-- The audit of one worker. -/
def State.auditWorker (t section_ expect : Nat) (s : State) (i : Nat) : State :=
  match s.mgr.workers[i]? with
  | none => s
  | some w =>
    let c := auditClass w t section_ expect
    let e := (w.beacon.map (fun b => b.2.1)).getD 0
    let s := s.ws [(Reg.MGMT_AUDIT_W0_RESULT, i, c), (Reg.MGMT_AUDIT_W1_EPOCH, i, e)]
    let s := s.raiseIf (c ≠ 0) (15 + c) w.place
    if c = 2 && (e < section_ || (s.lastBake.any (fun b => b.epoch < e))) then s.resend i e else s

/-- The audit of tick `n` (R446). -/
def State.auditTick (s : State) (n : Nat) : State :=
  if n % 16 ≠ 8 || !s.peelHeld || n < 8 then s
  else
    let t := n - 8
    let section_ := match (s.mgr.bakes.filter (fun (b : SentBake) => b.toAll && b.closed && b.k ≤ t)).getLast? with
      | some b => b.epoch
      | none => s.r Reg.MGMT_AUDIT_EXPECT_0140_EPOCH
    let heard := s.mgr.workers.filterMap (fun (w : Worker) =>
      w.beacon.bind (fun b => if b.1 = t && b.2.1 = section_ then some b.2.2.1 else none))
    let known := s.mgr.shared.find? (fun p => p.1 = section_)
    let expect := match known with
      | some p => p.2
      | none => majority heard
    let s := if known.isSome then s else s.setMgr { s.mgr with shared := s.mgr.shared ++ [(section_, expect)] }
    let s := s.ws [(Reg.MGMT_AUDIT_EXPECT_0140_EPOCH, 0, section_), (Reg.MGMT_AUDIT_EXPECT_0141_SHARED, 0, expect)]
    let was := s.mgr.clean
    let clean := s.mgr.workers.all (fun (w : Worker) => auditClass w t section_ expect = 0)
    let s := (List.range s.mgr.workers.length).foldl (State.auditWorker t section_ expect) s
    (s.setMgr { s.mgr with clean := clean }).raiseIf (clean && !was) 22 0

/-- A worker's bake beacon reaches the manager (R446): the recorded tile half is that of the first beacon after its PLACE and
after each bake it applied. -/
def State.takeBeacon (s : State) (x y : Nat) (ws : List Word) : State :=
  match s.mgr.workers.findIdx? (fun w => w.x = x && w.y = y) with
  | none => s
  | some i =>
    match s.mgr.workers[i]? with
    | none => s
    | some w =>
      let e := (nthW ws 1).toNat
      let tl := (nthW ws 3).toNat
      let t := join48 (nthW ws 4) (nthW ws 5)
      let since := (w.beacon.map (fun b => b.1)).getD 0
      let applied := s.mgr.bakes.any (fun (b : SentBake) => b.closed && covers b.route w && since < b.k && b.k ≤ t)
      let fresh := w.tile.isNone || (w.beacon.map (fun b => b.2.1)) ≠ some e || applied
      s.setWorker i { w with
        beacon := some (t, e, (nthW ws 2).toNat, tl)
        tile := if fresh then some tl else w.tile }

/-- 0x106 AUDIT_ACCEPT (R446). -/
def hAuditAccept : Handler := fun _ _ s =>
  if !s.peelHeld then (.denied 1, s)
  else
    (.done, s.setMgr { s.mgr with
      workers := s.mgr.workers.map (fun (w : Worker) => { w with tile := (w.beacon.map (fun b => b.2.2.2)).orElse (fun _ => w.tile) }) })

/-! ### The log (R437) -/

/-- Where the log ring lies in flash, and how many entries it takes (R437, R536). -/
def logBase : Nat := 0x1200000
def logPlaces : Nat := 232448

/-- Flash address of an entry place: 227 entries of 18 bytes in a sector of 4 KB. -/
def logAddr (p : Nat) : Nat := logBase + p / 227 * 4096 + p % 227 * 18

/-- The four words of an entry. -/
def LogEntry.flashWords (e : LogEntry) : List Word :=
  let l0 := pack [(32, 0xA), (22, e.event), (21, b2n e.sw), (9, e.count)]
  let t := [word e.lseq, word e.sec, pack [(6, e.ns)]]
  (l0 ||| word (crcWords (l0 :: t) % 512)) :: t

/-- An entry as flash holds it at a place, when it is valid. -/
def logAt (f : List Host.Cell) (p : Nat) : Option (List Word) :=
  let ws := unpackBytes (flashBytes f (logAddr p) 18)
  let l0 := nthW ws 0
  let bare := l0 &&& ~~~(word 511)
  if bits l0 35 32 = 0xA && bits l0 8 0 = crcWords (bare :: ws.drop 1) % 512 then some ws else none

/-- The flash addresses at which a log entry has been written: a valid entry needs a byte other than 0xFF in its tag. -/
def logPlacesIn (f : List Host.Cell) : List Nat :=
  (f.filter (fun c => logBase ≤ c.1 && c.1 < logBase + 0x400000)).foldl (fun l c =>
    let o := c.1 - logBase
    let k := o % 4096 / 18
    if k < 227 then insertNat (o / 4096 * 227 + k) l else l) []

/-- Every valid entry of the ring in rising LSEQ. -/
def logEntries (f : List Host.Cell) : List (Nat × List Word) :=
  ((logPlacesIn f).filterMap (logAt f)).foldl (fun l ws => sput l (nthW ws 1).toNat ws) []

/-- The entry place after the ring's head: the head is the valid entry of the highest LSEQ (R437). -/
def logNext (f : List Host.Cell) : Nat × Nat :=
  let best := (logPlacesIn f).foldl (fun (b : Option (Nat × Nat)) p =>
    match logAt f p with
    | some ws =>
      let q := (nthW ws 1).toNat
      match b with
      | some x => if x.2 < q then some (p, q) else b
      | none => some (p, q)
    | none => b) none
  match best with
  | some x => ((x.1 + 1) % logPlaces, x.2 + 1)
  | none => (0, 0)

/-- One entry written at the writer's place; the sector is erased as the writer enters it. -/
def State.logPut (s : State) (e : LogEntry) : State :=
  let p := s.evt.logPlace
  let f := if p % 227 = 0 then flashErase s.flash (logBase + p / 227 * 4096) 4096 else s.flash
  { s with
    flash := flashWrite f (logAddr p) ((packBytes e.flashWords).take 18)
    evt := { s.evt with logPlace := (p + 1) % logPlaces } }

/-- The waiting entries reach flash; after a failure the writer moves to the next sector, event 26 (R437). -/
def State.logFlush (s : State) (fail : Bool) : State :=
  if s.evt.logQ.isEmpty then s
  else if fail then
    { s with evt := { s.evt with logPlace := (s.evt.logPlace / 227 + 1) * 227 % logPlaces } }.raise 26 0
  else
    s.evt.logQ.foldl State.logPut { s with evt := { s.evt with logQ := [] } }

/-- LOG_FLUSH: what the log holds back is written, within 1 s. -/
def execLogFlush (fail : Bool) (s : State) : Host.Outcome State Fault Refusal := .next ((s.pass 0).logFlush fail)

/-- 0x104 LOG_READ: the entries of the ring and those that have not reached it yet. -/
def hLogRead : Handler := fun _ ps s =>
  let from_ := (nthW ps 0).toNat
  let n := bits (nthW ps 1) 7 0
  if !s.dramUp then (.stage, s)
  else if n = 0 || n = 255 then (.badParam, s)
  else
    let all := (logEntries s.flash).map Prod.snd ++ s.evt.logQ.map LogEntry.flashWords
    let l := (all.filter (fun ws => from_ ≤ (nthW ws 1).toNat)).take n
    (.reply l.flatten l.length, s)

end Sys2Proof.Machine
end

