-- ==== Sys2Proof/Machine/Inflate.lean ====
section
/-! DEFINITION. Decompression (RFC 1951, 1950, 1952 as R495 and R496 name their errors) of the bytes a job has taken in, up to a
number of output bytes. -/

namespace Sys2Proof.Machine

/-- Where the decoder stands: the position in bits, and the output, newest byte first, with its length. -/
structure Inf where
  pos : Nat
  out : List Byte
  n : Nat

/-- Why the decoder stops: a named error of R496; 0x100 when the output limit is reached. It keeps where it stood. -/
structure Stop where
  code : Nat
  at_ : Inf

/-- The settings of a job: input, output limit, window. -/
structure InfCfg where
  data : List Byte
  limit : Nat
  window : Nat

abbrev InfR (α : Type) := Except Stop (α × Inf)

/-- The next bit, least significant first. -/
def InfCfg.bit (c : InfCfg) (t : Inf) : InfR Nat :=
  match c.data[t.pos / 8]? with
  | some b => .ok (b.toNat / 2 ^ (t.pos % 8) % 2, { t with pos := t.pos + 1 })
  | none => .error ⟨0x09, t⟩

/-- The next `n` bits as a number, least significant first. -/
def InfCfg.bits (c : InfCfg) : Nat → Inf → InfR Nat
  | 0, t => .ok (0, t)
  | n + 1, t =>
    match c.bit t with
    | .error e => .error e
    | .ok p =>
      match c.bits n p.2 with
      | .error e => .error e
      | .ok q => .ok (p.1 + 2 * q.1, q.2)

/-- One output byte. -/
def InfCfg.put (c : InfCfg) (b : Byte) (t : Inf) : InfR Unit :=
  if c.limit ≤ t.n then .error ⟨0x100, t⟩ else .ok ((), { t with out := b :: t.out, n := t.n + 1 })

/-- A canonical Huffman code: codes of each length, and the symbols in order. -/
structure Huff where
  counts : List Nat
  syms : List Nat

/-- The code of a list of lengths. -/
def huffOf (lens : List Nat) : Huff where
  counts := (List.range 16).map (fun l => (lens.filter (· = l)).length)
  syms := (List.range' 1 15).flatMap (fun l => (List.range lens.length).filter (fun s => nth lens s = l))

/-- Codes left over at length 15: below zero over-subscribed, above zero incomplete. -/
def Huff.left (h : Huff) : Int := (List.range' 1 15).foldl (fun l k => 2 * l - nth h.counts k) 1

/-- Codes of any length. -/
def Huff.total (h : Huff) : Nat := h.syms.length

/-- A set is sound: complete; for distances also a single code of one bit, or none (R496, error 0x04). -/
def Huff.ok (h : Huff) (dist : Bool) : Bool :=
  h.left = 0 || (dist && h.total ≤ 1 && h.total = nth h.counts 1)

/-- One symbol; `k` counts the lengths still to try. -/
def InfCfg.symbol (c : InfCfg) (h : Huff) : Nat → Nat → Nat → Nat → Nat → Inf → InfR Nat
  | 0, _, _, _, _, t => .error ⟨0x07, t⟩
  | k + 1, len, code, first, index, t =>
    match c.bit t with
    | .error e => .error e
    | .ok p =>
      let code := code + p.1
      let n := nth h.counts len
      if code < first + n then .ok (nth h.syms (index + (code - first)), p.2)
      else c.symbol h k (len + 1) (2 * code) (2 * (first + n)) (index + n) p.2

def InfCfg.sym (c : InfCfg) (h : Huff) (t : Inf) : InfR Nat := c.symbol h 15 1 0 0 0 t

/-- Base and extra bits of a length symbol 257–285 and of a distance symbol 0–29 (RFC 1951). -/
def lenBase (s : Nat) : Nat × Nat :=
  if s < 8 then (3 + s, 0)
  else if s = 28 then (258, 0)
  else (3 + (4 + s % 4) * 2 ^ (s / 4 - 1), s / 4 - 1)
def distBase (s : Nat) : Nat × Nat :=
  if s < 4 then (1 + s, 0) else (1 + (2 + s % 2) * 2 ^ (s / 2 - 1), s / 2 - 1)

/-- A match copied byte by byte from the history (R492). -/
def InfCfg.copy (c : InfCfg) (d : Nat) : Nat → Inf → InfR Unit
  | 0, t => .ok ((), t)
  | n + 1, t =>
    match c.put (t.out.getD (d - 1) 0) t with
    | .error e => .error e
    | .ok p => c.copy d n p.2

/-- Literals and matches up to the end of the block. -/
def InfCfg.block (c : InfCfg) (lit dist : Huff) : Nat → Inf → InfR Unit
  | 0, t => .error ⟨0x09, t⟩
  | fuel + 1, t =>
    match c.sym lit t with
    | .error e => .error e
    | .ok p =>
      if p.1 < 256 then
        match c.put (BitVec.ofNat 8 p.1) p.2 with
        | .error e => .error e
        | .ok q => c.block lit dist fuel q.2
      else if p.1 = 256 then .ok ((), p.2)
      else if 285 < p.1 then .error ⟨0x07, p.2⟩
      else
        let lb := lenBase (p.1 - 257)
        match c.bits lb.2 p.2 with
        | .error e => .error e
        | .ok l =>
          match c.sym dist l.2 with
          | .error e => .error e
          | .ok ds =>
            if 29 < ds.1 then .error ⟨0x07, ds.2⟩
            else
              let db := distBase ds.1
              match c.bits db.2 ds.2 with
              | .error e => .error e
              | .ok de =>
                let d := db.1 + de.1
                if de.2.n < d || c.window < d then .error ⟨0x08, de.2⟩
                else
                  match c.copy d (lb.1 + l.1) de.2 with
                  | .error e => .error e
                  | .ok q => c.block lit dist fuel q.2

/-- `n` bytes of a stored block. -/
def InfCfg.stored (c : InfCfg) : Nat → Inf → InfR Unit
  | 0, t => .ok ((), t)
  | n + 1, t =>
    match c.bits 8 t with
    | .error e => .error e
    | .ok p =>
      match c.put (BitVec.ofNat 8 p.1) p.2 with
      | .error e => .error ⟨e.code, t⟩
      | .ok q => c.stored n q.2

/-- The position moved to the next byte. -/
def Inf.align (t : Inf) : Inf := { t with pos := (t.pos + 7) / 8 * 8 }

/-- The order of code-length code lengths (RFC 1951). -/
def clOrder : List Nat := [16, 17, 18, 0, 8, 7, 9, 6, 10, 5, 11, 4, 12, 3, 13, 2, 14, 1, 15]

/-- `n` numbers of `w` bits. -/
def InfCfg.many (c : InfCfg) (w : Nat) : Nat → Inf → InfR (List Nat)
  | 0, t => .ok ([], t)
  | n + 1, t =>
    match c.bits w t with
    | .error e => .error e
    | .ok p =>
      match c.many w n p.2 with
      | .error e => .error e
      | .ok q => .ok (p.1 :: q.1, q.2)

/-- The literal and distance code lengths, run-length coded, `want` in all. -/
def InfCfg.lengths (c : InfCfg) (cl : Huff) (want : Nat) : Nat → List Nat → Inf → InfR (List Nat)
  | 0, l, t => .ok (l, t)
  | fuel + 1, l, t =>
    if want ≤ l.length then .ok (l, t)
    else
      match c.sym cl t with
      | .error e => .error e
      | .ok p =>
        if p.1 < 16 then c.lengths cl want fuel (l ++ [p.1]) p.2
        else
          let w := if p.1 = 16 then 2 else if p.1 = 17 then 3 else 7
          let base := if p.1 = 18 then 11 else 3
          match c.bits w p.2 with
          | .error e => .error e
          | .ok q =>
            let n := base + q.1
            if (p.1 = 16 && l.isEmpty) || want < l.length + n then .error ⟨0x05, q.2⟩
            else c.lengths cl want fuel (l ++ List.replicate n (if p.1 = 16 then l.getLast?.getD 0 else 0)) q.2

/-- The codes of a dynamic block. -/
def InfCfg.dynamic (c : InfCfg) (t : Inf) : InfR (Huff × Huff) :=
  match c.many 5 2 t with
  | .error e => .error e
  | .ok a =>
    match c.bits 4 a.2 with
    | .error e => .error e
    | .ok b =>
      let hlit := nth a.1 0 + 257
      let hdist := nth a.1 1 + 1
      if 286 < hlit || 30 < hdist then .error ⟨0x03, b.2⟩
      else
        match c.many 3 (b.1 + 4) b.2 with
        | .error e => .error e
        | .ok l =>
          let cl := huffOf ((List.range 19).map (fun s => nth l.1 (clOrder.idxOf s)))
          if !cl.ok false then .error ⟨0x04, l.2⟩
          else
            match c.lengths cl (hlit + hdist) 320 [] l.2 with
            | .error e => .error e
            | .ok q =>
              let lit := huffOf (q.1.take hlit)
              let dist := huffOf (q.1.drop hlit)
              if nth q.1 256 = 0 then .error ⟨0x06, q.2⟩
              else if !lit.ok false || !dist.ok true then .error ⟨0x04, q.2⟩
              else .ok ((lit, dist), q.2)

/-- The codes of a fixed block. -/
def fixedLit : Huff :=
  huffOf (List.replicate 144 8 ++ List.replicate 112 9 ++ List.replicate 24 7 ++ List.replicate 8 8)
def fixedDist : Huff := huffOf (List.replicate 32 5)

/-- One block: whether it is the last, and its BTYPE. -/
def InfCfg.oneBlock (c : InfCfg) (t : Inf) : InfR (Bool × Nat) :=
  match c.bits 1 t with
  | .error e => .error e
  | .ok f =>
    match c.bits 2 f.2 with
    | .error e => .error e
    | .ok ty =>
      let body : InfR Unit :=
        match ty.1 with
        | 0 =>
          match c.many 16 2 ty.2.align with
          | .error e => .error e
          | .ok l =>
            if nth l.1 0 + nth l.1 1 ≠ 65535 then .error ⟨0x02, l.2⟩ else c.stored (nth l.1 0) l.2
        | 1 => c.block fixedLit fixedDist (8 * c.data.length + 1) ty.2
        | 2 =>
          match c.dynamic ty.2 with
          | .error e => .error e
          | .ok h => c.block h.1.1 h.1.2 (8 * c.data.length + 1) h.2
        | _ => .error ⟨0x01, ty.2⟩
      match body with
      | .error e => .error e
      | .ok q => .ok ((f.1 = 1, ty.1), q.2)

/-- Blocks up to the last. -/
def InfCfg.blocks (c : InfCfg) : Nat → Inf → InfR Unit
  | 0, t => .error ⟨0x09, t⟩
  | fuel + 1, t =>
    match c.oneBlock t with
    | .error e => .error e
    | .ok q => if q.1.1 then .ok ((), q.2) else c.blocks fuel q.2

/-- Blocks of a compression level, each of at most 65,536 bytes, up to the last, which ends at the last byte of the input; their
output (R494). A stored block may stand where a level codes (R491 names what the level adds). -/
def InfCfg.levelBlocks (c : InfCfg) (level : Nat) : Nat → Inf → Option (List Byte)
  | 0, _ => none
  | fuel + 1, t =>
    match c.oneBlock t with
    | .error _ => none
    | .ok q =>
      if min level 2 < q.1.2 || 65536 < q.2.n - t.n then none
      else if q.1.1 then (if cdiv q.2.pos 8 = c.data.length then some q.2.out.reverse else none)
      else c.levelBlocks level fuel q.2

/-- Adler-32 from a start value (RFC 1950). -/
def adlerFrom (a : Nat) (l : List Byte) : Nat :=
  let p := l.foldl (fun (p : Nat × Nat) b =>
    let x := (p.1 + b.toNat) % 65521
    (x, (p.2 + x) % 65521)) (a % 65536, a / 65536)
  p.2 * 65536 + p.1

/-- CRC-32 from a start value (R62). -/
def crcFrom (c : Nat) (l : List Byte) : Nat := (l.foldl crcByte (c ^^^ 0xFFFFFFFF)) ^^^ 0xFFFFFFFF

/-- A zlib header (R495). -/
def InfCfg.zlibHead (c : InfCfg) (wbits : Nat) (t : Inf) : InfR Unit :=
  match c.many 8 2 t with
  | .error e => .error e
  | .ok p =>
    let cmf := nth p.1 0
    let flg := nth p.1 1
    if cmf % 16 ≠ 8 || 7 < cmf / 16 || (cmf * 256 + flg) % 31 ≠ 0 || flg / 32 % 2 = 1 then .error ⟨0x0A, p.2⟩
    else if wbits < cmf / 16 + 8 then .error ⟨0x0E, p.2⟩
    else .ok ((), p.2)

/-- Bytes up to and including a zero. -/
def InfCfg.string (c : InfCfg) : Nat → Inf → InfR Unit
  | 0, t => .error ⟨0x09, t⟩
  | fuel + 1, t =>
    match c.bits 8 t with
    | .error e => .error e
    | .ok p => if p.1 = 0 then .ok ((), p.2) else c.string fuel p.2

/-- A part of a header that its flag may leave out. -/
def InfCfg.part (on : Bool) (f : Inf → InfR Unit) (t : Inf) : InfR Unit := if on then f t else .ok ((), t)

/-- A gzip header (R495): FEXTRA, FNAME, FCOMMENT, FHCRC as its flags say. -/
def InfCfg.gzipHead (c : InfCfg) (t : Inf) : InfR Unit :=
  match c.many 8 10 t with
  | .error e => .error e
  | .ok p =>
    let flg := nth p.1 3
    if nth p.1 0 ≠ 0x1F || nth p.1 1 ≠ 0x8B || nth p.1 2 ≠ 8 || 32 ≤ flg then .error ⟨0x0B, p.2⟩
    else
      let extra (t : Inf) : InfR Unit :=
        match c.bits 16 t with
        | .error e => .error e
        | .ok n =>
          match c.many 8 n.1 n.2 with
          | .error e => .error e
          | .ok q => .ok ((), q.2)
      let str (t : Inf) : InfR Unit := c.string c.data.length t
      let hcrc (t : Inf) : InfR Unit :=
        match c.bits 16 t with
        | .error e => .error e
        | .ok q => if q.1 = crc32 (c.data.take (t.pos / 8)) % 65536 then .ok ((), q.2) else .error ⟨0x0B, q.2⟩
      match InfCfg.part (flg / 4 % 2 = 1) extra p.2 with
      | .error e => .error e
      | .ok a =>
        match InfCfg.part (flg / 8 % 2 = 1) str a.2 with
        | .error e => .error e
        | .ok b =>
          match InfCfg.part (flg / 16 % 2 = 1) str b.2 with
          | .error e => .error e
          | .ok d => InfCfg.part (flg / 2 % 2 = 1) hcrc d.2

/-- The check value of the output: Adler-32 for zlib, else CRC-32. -/
def checkOf (wrap start : Nat) (out : List Byte) : Nat := if wrap = 1 then adlerFrom start out else crcFrom start out

/-- Bytes of a number, least significant first. -/
def leNum (l : List Nat) : Nat := l.foldr (fun b a => a * 256 + b) 0

/-- The trailer: Adler-32 for zlib, CRC-32 and ISIZE for gzip. -/
def InfCfg.trailer (c : InfCfg) (wrap : Nat) (t : Inf) : InfR Unit :=
  let t := t.align
  match wrap with
  | 1 =>
    match c.many 8 4 t with
    | .error e => .error e
    | .ok p => if (p.1.foldl (fun a b => a * 256 + b) 0) = checkOf 1 1 t.out.reverse then .ok ((), p.2) else .error ⟨0x0C, p.2⟩
  | 2 =>
    match c.many 8 4 t with
    | .error e => .error e
    | .ok p =>
      if leNum p.1 ≠ checkOf 2 0 t.out.reverse then .error ⟨0x0C, p.2⟩
      else
        match c.many 8 4 p.2 with
        | .error e => .error e
        | .ok q => if leNum q.1 = t.n % 2 ^ 32 then .ok ((), q.2) else .error ⟨0x0D, q.2⟩
  | _ => .ok ((), t)

/-- A whole stream (R495): wrapper 0 raw, 1 zlib, 2 gzip. -/
def inflate (c : InfCfg) (wrap wbits : Nat) : InfR Unit :=
  let t0 : Inf := ⟨0, [], 0⟩
  let head : InfR Unit := match wrap with
    | 1 => c.zlibHead wbits t0
    | 2 => c.gzipHead t0
    | _ => .ok ((), t0)
  match head with
  | .error e => .error e
  | .ok h =>
    match c.blocks (8 * c.data.length + 1) h.2 with
    | .error e => .error e
    | .ok b => c.trailer wrap b.2

end Sys2Proof.Machine
end

