-- ==== Sys2Proof/Machine/Stamp.lean ====
section
/-! DEFINITION. STAMP (R478–R490): operands, the sequential texel loop, jobs and their commands. -/

namespace Sys2Proof.Machine

/-! ### Operands (R478) -/

/-- A STAMP operand: kind, format, surface or atlas, words per row, region base, origin. -/
structure Operand where
  kind : Nat
  fmt : Nat
  id : Nat
  stride : Nat
  base : Nat
  x : Nat
  y : Nat

/-- The operand in the three words from word `k` of a job. -/
def StampJob.operand (j : StampJob) (k : Nat) : Operand :=
  let w0 := nthW j.regs k
  ⟨bits w0 35 34, bits w0 33 32, bits w0 31 24, bits w0 23 10, bits (nthW j.regs (k + 1)) 30 0,
   bits (nthW j.regs (k + 2)) 35 23, bits (nthW j.regs (k + 2)) 22 10⟩

/-- Source, destination, size and control of a job. -/
def StampJob.src (j : StampJob) : Operand := j.operand 0
def StampJob.dst (j : StampJob) : Operand := j.operand 4
def StampJob.w (j : StampJob) : Nat := bits (nthW j.regs 8) 35 23 + 1
def StampJob.h (j : StampJob) : Nat := bits (nthW j.regs 8) 22 10 + 1
def StampJob.fg (j : StampJob) : Word := nthW j.regs 9
def StampJob.bg (j : StampJob) : Word := nthW j.regs 10
def StampJob.wmask (j : StampJob) : Word := nthW j.regs 11
def StampJob.ctrl (j : StampJob) : Word := nthW j.regs 12
def StampJob.op (j : StampJob) : Nat := bits j.ctrl 35 33
def StampJob.rop (j : StampJob) : Nat := bits j.ctrl 32 29
def StampJob.skip (j : StampJob) : Bool := bit j.ctrl 26
def StampJob.wait (j : StampJob) : Bool := bit j.ctrl 25
def StampJob.force (j : StampJob) : Bool := bit j.ctrl 24
def StampJob.step (j : StampJob) : Nat := bits j.ctrl 23 11

/-- The format an operand counts as: that of a region; T36 for surfaces and pictures; 4 for a crumb surface that is written. -/
def Operand.format (o : Operand) (r : RegFile) (dst : Bool) : Nat :=
  if o.kind = 0 then o.fmt else if dst && (surfOf r o.id).crumb then 4 else 0

/-- Words that a row of `w` texels takes: what STRIDE must cover (R478). -/
def rowWordsOf (fmt w : Nat) : Nat :=
  match fmt with
  | 1 => 2 * cdiv (4 * w) 9
  | 2 => cdiv w 36
  | 3 => 2 * cdiv w 9
  | _ => w

/-- First and last word of a row that texels `x` to `x + w − 1` touch. -/
def rowSpan (fmt x w : Nat) : Nat × Nat :=
  match fmt with
  | 1 => (2 * (4 * x / 9), 2 * ((4 * (x + w) - 1) / 9) + 1)
  | 2 => (x / 36, (x + w - 1) / 36)
  | 3 => (2 * (x / 9), 2 * ((x + w - 1) / 9) + 1)
  | _ => (x, x + w - 1)

/-- The runs of words that a rectangle of an operand touches: word address and count, row by row; a crumb surface whole. -/
def Operand.runs (o : Operand) (r : RegFile) (w h : Nat) : List (Nat × Nat) :=
  let u := surfOf r o.id
  if o.kind = 0 then
    (List.range h).map (fun y =>
      let p := rowSpan o.fmt o.x w
      (o.base + (o.y + y) * o.stride + p.1, p.2 + 1 - p.1))
  else if o.kind = 1 then
    if u.crumb then [(7 * u.base, 7 * u.sectors)]
    else (List.range h).map (fun y => (7 * u.base + (o.y + y) * u.stride + o.x, w))
  else []

/-! ### STAMP_GO (R481, R484) -/

/-- Operation, kinds and formats agree with R481. -/
def StampJob.formsOk (j : StampJob) (r : RegFile) : Bool :=
  let s := j.src.format r false
  let d := j.dst.format r true
  j.dst.kind ≤ 1
  && match j.op with
    | 0 => j.src.kind = 3 && d = 0
    | 1 | 2 => j.src.kind ≠ 3 && s = 0 && d = 0
    | 3 => j.src.kind = 0 && (s = 2 || s = 3) && d = 0
    | 4 => j.src.kind ≠ 3 && (d = 0 || d = 1 || d = 4) && d ≠ s
    | _ => false

/-- The pictures of an atlas that bear COMPLETE: colour, and alpha where DECODE_SEQ_STATUS shows an active alpha sequence (R478). -/
def State.atlasPics (s : State) (atlas : Nat) : Option (Pic × Option Pic) :=
  let comp (q : Nat) : Option Pic := s.dec.pics.find? (fun p => p.seq = q && p.comp)
  match comp (2 * atlas) with
  | none => none
  | some c =>
    if s.rb Reg.DECODE_SEQ_STATUS_ACTIVE (2 * atlas + 1) then (comp (2 * atlas + 1)).map (fun a => (c, some a)) else some (c, none)

/-- The pictures that a running job has held since its start, whatever DECODE has finished since (R480). -/
def State.heldPics (s : State) (j : StampJob) : Option (Pic × Option Pic) :=
  let pic (k : Nat) : Option Pic := s.dec.pics.find? (fun p => p.id = k)
  match j.pics with
  | [] => none
  | c :: t => (pic c).map (fun p => (p, t.head?.bind pic))

/-- An operand's rectangle, stride and place are within its limits (R484). -/
def State.operandOk (s : State) (o : Operand) (w h : Nat) : Bool :=
  match o.kind with
  | 0 =>
    rowWordsOf o.fmt w ≤ o.stride && (!(o.fmt = 1 || o.fmt = 3) || o.stride % 2 = 0)
    && (o.runs s.regs w h).all (fun r => r.1 / 7 + sectorsOf r.1 r.2 ≤ s.installed)
  | 1 =>
    let u := surfOf s.regs o.id
    s.rb Reg.KILN_SURF_W3_DEFINED o.id && o.x + w ≤ u.w && o.y + h ≤ u.h
  | 2 =>
    match s.atlasPics (o.id % 4) with
    | some p => o.x + w ≤ p.1.width && o.y + h ≤ p.1.height
    | none => true
  | _ => true

/-- A crumb destination is covered whole from (0, 0) (R483). -/
def StampJob.wholeOk (j : StampJob) (r : RegFile) : Bool :=
  let u := surfOf r j.dst.id
  j.dst.format r true ≠ 4 || (j.dst.x = 0 && j.dst.y = 0 && j.w = u.w && j.h = u.h)

/-- STAMP_STATUS as the jobs stand: STATE of the first. -/
def State.showStamp (s : State) : State :=
  let st := match s.eng.stamp.head? with
    | none => 0
    | some j => if j.waits then 2 else if !j.started then 0 else if s.hearth.plan.deferred.contains 8 then 3 else 1
  s.ws [(Reg.STAMP_STATUS_STATE, 0, st), (Reg.STAMP_STATUS_HELD, 0, s.eng.stamp.length)]

/-- The jobs replaced. -/
def State.setStamp (s : State) (l : List StampJob) : State := { s with eng := { s.eng with stamp := l } }.showStamp

/-- 0xC01 STAMP_GO. -/
def hStampGo : Handler := fun c _ s =>
  let j : StampJob := ⟨(List.range 13).map (fun i => wordOf s.regs (0xC0000 + i)), c.req, false, false, [], []⟩
  let runs := j.dst.runs s.regs j.w j.h
  if !j.formsOk s.regs || !s.operandOk j.src j.w j.h || !s.operandOk j.dst j.w j.h || !j.wholeOk s.regs
      || (j.wait && j.force) then (.badParam, s)
  else if 4 ≤ s.eng.stamp.length then (.busy, s)
  else if runs.any (fun (r : Nat × Nat) => s.owned (r.1 / 7) (sectorsOf r.1 r.2)) then (.denied, s)
  else (.accepted, s.setStamp (s.eng.stamp ++ [j]))

/-! ### Start and end of a job (R149–R152, R485) -/

/-- Surfaces are being written, by force or not (R151, R152). -/
def State.markWriting (s : State) (ids : List Nat) (on force : Bool) : State :=
  ids.foldl (fun (x : State) i =>
    x.ws [(Reg.KILN_SURF_W3_WRITING, i, b2n on), (Reg.KILN_SURF_W3_FORCED, i, b2n (on && force))]) s

/-- A forced write to sealed surfaces tears them (R152). -/
def State.forceTear (s : State) (ids : List Nat) (force : Bool) : State :=
  if force then s.tear (ids.filter (fun k => s.rb Reg.KILN_SURF_W3_SEALED k)) else s

/-- The first job starts on its surfaces: they are being written, and the pictures it reads are held. -/
def State.stampStart (s : State) (j : StampJob) (t : List StampJob) (ids : List Nat) : State :=
  let pics := if j.src.kind = 2 then
      match s.atlasPics (j.src.id % 4) with
      | some p => p.1.id :: (p.2.map (·.id)).toList
      | none => []
    else []
  let s := (s.markWriting ids true j.force).forceTear ids j.force
  ((s.setStamp ({ j with started := true, waits := false, ids := ids, pics := pics } :: t)).ws
    [(Reg.STAMP_STATUS_OVERLAP_HAZARD, 0, 0), (Reg.STAMP_PROGRESS_ROWS, 0, 0)]).showPool

/-- The first job ends: its surfaces, its pictures, its completion. -/
def State.stampEnd (s : State) (j : StampJob) (t : List StampJob) (bad : Bool) (a : Ans) : State :=
  let s := if j.started then (s.markWriting j.ids false false).surfsAfter j.ids bad else s
  ((s.setStamp t).prune.showPool).complete j.req a

/-- A job ends in a named fault (R485). -/
def State.stampFault (s : State) (j : StampJob) (t : List StampJob) (err detail : Nat) : State :=
  ((s.w Reg.STAMP_STATUS_ERR err).stampEnd j t true (.fault detail)).raise 992 (if err = 1 then detail else 0)

/-- The job at the head is held against the seals (R149, R485). -/
def State.stampHead (s : State) : State :=
  match s.eng.stamp with
  | [] => s
  | j :: t =>
    if j.started || j.waits then s
    else
      match s.gateRuns (j.dst.runs s.regs j.w j.h) j.wait j.force with
      | .go ids => s.stampStart j t ids
      | .sealed_ id => s.stampEnd j t false (.sealed id)
      | .denied => s.stampEnd j t false .denied
      | .bad => s.stampEnd j t false .badParam
      | .resource => s.stampEnd j t false .resource
      | .queue ids =>
        let s := s.queueWrite ⟨0xC01, j.req.src, j.req.tag, 0, 0⟩ ids [] j.wait j.force
        s.setStamp ({ j with waits := true } :: t)

/-- STAMP_JOB_HEAD: a job reaches the head of the queue. -/
def execStampJobHead (s : State) : Host.Outcome State Fault Refusal := .next (s.pass 0).stampHead

/-! ### The loop (R479–R483, R488, R489) -/

/-- Where the loop stands: DRAM, the words the job has written, whether it read one of them, the fault, and the words read and
written so far (R414). -/
structure StampRun where
  d : List Host.Cell
  wrote : List Nat
  hazard : Bool
  err : Option (Nat × Nat)
  moved : Nat

/-- An 8-bit code as nine bits, and back (R479). -/
def code9 (b : Nat) : Nat := b * 2 + b / 128
def code8 (c : Nat) : Nat := c / 2

/-- Byte `b` of a row in word-pair packing that starts at a word (R60): the words of its pair, and its value. -/
def rowByte (d : List Host.Cell) (row b : Nat) : Nat :=
  let a := row + 2 * (b / 9)
  ((dramWord d a).toNat * 2 ^ 36 + (dramWord d (a + 1)).toNat) / 2 ^ (8 * (8 - b % 9)) % 256

/-- A pair of words with byte `k` replaced. -/
def pairPut (n k v : Nat) : Nat :=
  let sh := 2 ^ (8 * (8 - k))
  n - n / sh % 256 * sh + v * sh

/-- A word stored; a bad sector is reported. -/
def StampRun.put (t : StampRun) (a : Nat) (v : Word) : StampRun :=
  let r := storeRun 2 t.d a [v]
  { t with d := r.1, wrote := a :: t.wrote, moved := t.moved + 1, err := t.err.orElse (fun _ => r.2.map (fun n => (1, n))) }

/-- Words read: the first in a failed sector is a fault, one the job wrote is a hazard. -/
def StampRun.read (t : StampRun) (ws : List Nat) : StampRun :=
  { t with
    hazard := t.hazard || ws.any t.wrote.contains
    moved := t.moved + ws.length
    err := t.err.orElse (fun _ => (ws.find? (fun a => !sectorGood t.d (a / 7))).map (fun a => (1, a / 7))) }

/-- A byte of a row replaced. -/
def StampRun.putByte (t : StampRun) (row b v : Nat) : StampRun :=
  let a := row + 2 * (b / 9)
  let n := pairPut ((dramWord t.d a).toNat * 2 ^ 36 + (dramWord t.d (a + 1)).toNat) (b % 9) v
  (t.put a (word (n / 2 ^ 36))).put (a + 1) (word n)

/-- The words that hold source texel (x, y), and its value: a texel word, or a coverage of an A1 or A8 region. What CONVERT makes of
a coverage is not stated: it is free (assumption log 1). A picture's codes follow the settings in force (R105). -/
def State.stampSource (s : State) (j : StampJob) (t : StampRun) (x y : Nat) : List Nat × Nat × Option (Nat × Nat) :=
  let o := j.src
  let row := o.base + y * o.stride
  match o.kind with
  | 0 =>
    match o.fmt with
    | 0 => ([row + x], (dramWord t.d (row + x)).toNat, none)
    | 1 =>
      let p := rowSpan 1 x 1
      let c (k : Nat) : Nat := code9 (rowByte t.d row (4 * x + k))
      (List.range' (row + p.1) (p.2 + 1 - p.1), (texel (c 0) (c 1) (c 2) (c 3)).toNat, none)
    | 2 => ([row + x / 36], bits (dramWord t.d (row + x / 36)) (35 - x % 36) (35 - x % 36), none)
    | _ => ([row + 2 * (x / 9), row + 2 * (x / 9) + 1], rowByte t.d row x, none)
  | 1 =>
    let u := surfOf s.regs o.id
    if u.crumb then
      let b := u.blockOf x y
      match u.block t.d b.1 with
      | .damaged => if u.good t.d b.1 then ([7 * u.base + b.1], 0, some (2, b.1)) else ([7 * u.base + b.1], 0, none)
      | .ok ty first _ =>
        let v := u.blockTexel t.d ty first b.2
        ((7 * u.base + b.1) :: v.2.map (fun i => 7 * u.base + i), v.1.toNat, none)
    else ([7 * u.base + y * u.stride + x], (u.word t.d (y * u.stride + x)).toNat, none)
  | 2 =>
    match s.heldPics j with
    | some p => ([], (picTexel s.inForce (o.id % 4) p.1 p.2 x y).toNat, none)
    | none => ([], 0, some (4, o.id % 4))
  | _ => ([], 0, none)

/-- Four codes of a texel. -/
def texelCodes (w : Word) : List Nat := [bits w 35 27, bits w 26 18, bits w 17 9, bits w 8 0]

/-- GLYPH (R482): the result for a coverage, D being the destination's texel; none leaves D unwritten. -/
def glyph (a8 skip : Bool) (k : Nat) (fg bg d : Word) : Option Word :=
  if a8 then
    let b := if skip then d else bg
    let c (i : Nat) : Nat := (nth (texelCodes fg) i * k + nth (texelCodes b) i * (255 - k) + 127) / 255
    some (texel (c 0) (c 1) (c 2) (c 3))
  else if k = 1 then some fg
  else if skip then none else some bg

/-- ROP (R481): bit 2s + d of the code for each bit. -/
def ropWord (rop : Nat) (s d : Word) : Word :=
  let z : Word := 0
  let f (i : Nat) (w : Word) : Word := if rop.testBit i then w else z
  f 0 (~~~s &&& ~~~d) ||| f 1 (~~~s &&& d) ||| f 2 (s &&& ~~~d) ||| f 3 (s &&& d)

/-- One texel of operations 0–3, and of CONVERT into T36 or RGBA8. -/
def State.stampTexel (s : State) (j : StampJob) (t : StampRun) (x y : Nat) : StampRun :=
  let o := j.dst
  let u := surfOf s.regs o.id
  let src := if j.op = 0 then ([], 0, none) else s.stampSource j t (j.src.x + x) (j.src.y + y)
  let t := t.read src.1
  let t := { t with err := t.err.orElse (fun _ => src.2.2) }
  if t.err.isSome then t
  else
    let cover := j.src.kind = 0 && 2 ≤ j.src.fmt
    let sv := if j.op = 4 && cover then word (s.free (8192 * y + x)) else word src.2.1
    if o.format s.regs true = 1 then
      let row := o.base + (o.y + y) * o.stride
      (List.range 4).foldl (fun (r : StampRun) k => r.putByte row (4 * (o.x + x) + k) (code8 (nth (texelCodes sv) k))) t
    else
      let a := if o.kind = 0 then o.base + (o.y + y) * o.stride + o.x + x
        else 7 * u.base + (o.y + y) * u.stride + o.x + x
      let t := t.read [a]
      if t.err.isSome then t
      else
        let d := dramWord t.d a
        let res := match j.op with
          | 0 => some j.fg
          | 2 => some (ropWord j.rop sv d)
          | 3 => glyph (j.src.fmt = 3) j.skip src.2.1 j.fg j.bg d
          | _ => some sv
        match res with
        | none => t
        | some v => t.put a (if j.op = 4 then v else maskedValue d j.wmask v)

/-- A job's texels in its order (R488), row by row: `rows` counts the rows finished. -/
def State.stampRows (s : State) (j : StampJob) : List Nat → StampRun → Nat → StampRun × Nat
  | [], t, n => (t, n)
  | y :: ys, t, n =>
    let xs := if bit j.ctrl 28 then (List.range j.w).reverse else List.range j.w
    let t := xs.foldl (fun (r : StampRun) x => if r.err.isSome then r else s.stampTexel j r x y) t
    if t.err.isSome then (t, n) else s.stampRows j ys t (n + 1)

/-! ### CONVERT into a crumb surface (R483) -/

/-- A signed delta of two 9-bit codes, −256 to +255. -/
def codeDelta (c base : Nat) : Int := sext 9 ((c + 512 - base) % 512)

/-- The least width that holds every delta; 0 when all are 0. -/
def deltaWidth (l : List Int) : Nat :=
  if l.all (· = 0) then 0
  else ((List.range' 1 9).find? (fun n => l.all (fun z => -(2 ^ (n - 1) : Nat) ≤ z && z < (2 ^ (n - 1) : Nat)))).getD 9

/-- Bits packed into words from bit 35 of the first downward. -/
def packBits (l : List Bool) : List Word :=
  (List.range (cdiv l.length 36)).map (fun i =>
    word ((List.range 36).foldl (fun a k => 2 * a + b2n (l.getD (36 * i + k) false)) 0))

/-- The words of a block of 64 texels, and its TYPE (R155, R483). -/
def crumbBlock (ts : List Word) : Nat × List Word :=
  let base := nthW ts 0
  if ts.all (· = base) then (0, [base])
  else
    let ds (i : Nat) : List Int := ts.map (fun w => codeDelta (nth (texelCodes w) i) (nth (texelCodes base) i))
    let wd := (List.range 4).map (fun i => deltaWidth (ds i))
    let s := wd.foldl (· + ·) 0
    if s ≤ 34 then
      let one (w : Word) (i : Nat) : List Bool :=
        let n := nth wd i
        let v := twos n (codeDelta (nth (texelCodes w) i) (nth (texelCodes base) i))
        (List.range n).map (fun k => v.testBit (n - 1 - k))
      (1, [base, pack [(12, nth wd 0), (8, nth wd 1), (4, nth wd 2), (0, nth wd 3)]]
        ++ packBits (ts.flatMap (fun w => (List.range 4).flatMap (one w))))
    else (2, ts)

/-- The 64 texels of block (bx, by), texels beyond the surface taking the nearest inside it; a texel is read once. -/
def State.blockTexels (s : State) (j : StampJob) (t : StampRun) (bx by_ : Nat) : List Word × StampRun :=
  (List.range 64).foldl (fun (p : List Word × StampRun) k =>
    if p.2.err.isSome then p
    else
      let x := min (8 * bx + k % 8) (j.w - 1)
      let y := min (8 * by_ + k / 8) (j.h - 1)
      let v := s.stampSource j p.2 (j.src.x + x) (j.src.y + y)
      let t := p.2.read v.1
      let t := { t with err := t.err.orElse (fun _ => v.2.2) }
      let cover := j.src.kind = 0 && 2 ≤ j.src.fmt
      (p.1 ++ [if cover then word (s.free (8192 * y + x)) else word v.2.1], t)) ([], t)

/-- The blocks in index order: `used` words of the block area are taken. Beyond the surface's words nothing more is written, and
only the words needed are counted. -/
def State.stampBlocks (s : State) (j : StampJob) (u : Surf) : List Nat → StampRun → Nat → StampRun × Nat
  | [], t, used => (t, used)
  | n :: ns, t, used =>
    let across := cdiv u.w 8
    let b := s.blockTexels j t (n % across) (n / across)
    if b.2.err.isSome then (b.2, used)
    else
      let c := crumbBlock b.1
      let nb := crumbBlocks u.w u.h
      let fits := nb + used + c.2.length ≤ 7 * u.sectors
      let e := pack [(34, c.1), (28, c.2.length - 1), (0, used)]
      let t := if fits then
          (List.range c.2.length).foldl (fun (r : StampRun) i => r.put (7 * u.base + nb + used + i) (nthW c.2 i))
            (b.2.put (7 * u.base + n) e)
        else b.2
      if t.err.isSome then (t, used) else s.stampBlocks j u ns t (used + c.2.length)

/-! ### The end of the running job -/

/-- Watermarks of the rows finished up to `n` (R490). -/
def watermarks (m h n : Nat) : List (Nat × Nat) :=
  if m = 0 then [] else ((List.range' 1 n).filter (fun k => k % m = 0 || k = h)).map (fun k => (993, k))

/-- The job that runs is carried through: its texels, its watermarks, its completion (R485, R488–R490). -/
def State.stampRun (s : State) : State :=
  match s.eng.stamp with
  | [] => s
  | j :: t =>
    if !j.started || s.hearth.plan.deferred.contains 8 then s
    else
      let u := surfOf s.regs j.dst.id
      let crumb := j.dst.format s.regs true = 4
      let t0 : StampRun := ⟨s.dram, [], false, none, 0⟩
      let ys := if bit j.ctrl 27 then (List.range j.h).reverse else List.range j.h
      let c := if crumb then s.stampBlocks j u (List.range (crumbBlocks u.w u.h)) t0 0 else (t0, 0)
      let need := crumbBlocks u.w u.h + c.2
      let run := if crumb then
          (if c.1.err.isNone && 7 * u.sectors < need then { c.1 with err := some (3, need) } else c.1,
           if c.1.err.isNone && need ≤ 7 * u.sectors then j.h else 0)
        else s.stampRows j ys t0 0
      let r := run.1
      let s := (j.dst.runs s.regs j.w j.h).foldl (fun (x : State) a => x.writeChannels a.1 a.2) ({ s with dram := r.d }.drawn.act 8 10 r.moved)
      let s := (s.w Reg.STAMP_PROGRESS_ROWS run.2).raises (watermarks j.step j.h run.2)
      let s := if r.hazard then (s.w Reg.STAMP_STATUS_OVERLAP_HAZARD 1).raise 994 0 else s
      match r.err with
      | none => s.stampEnd j t false (.done (b2n r.hazard))
      | some e => (if e.1 = 1 then s.sectorFail 3 e.2 else s).stampFault j t e.1 (satN 0xFFFFFFF e.2)

/-- 0xC02 STAMP_ABORT (R486). -/
def hStampAbort : Handler := fun _ _ s =>
  let l := s.eng.stamp
  let s := { s with fire := { s.fire with waitQ := s.fire.waitQ.filter (fun q => q.opcode ≠ 0xC01) } }
  let s := s.w Reg.KILN_WRITE_QUEUE_QUEUED (waitWrites s.fire.waitQ)
  (.done l.length, l.foldl (fun (x : State) j => x.stampFault j (x.eng.stamp.drop 1) 5 0) s)

end Sys2Proof.Machine
end

