-- ==== Sys2Proof/Machine/Deflate.lean ====
section
/-! DEFINITION. DEFLATE (R491–R496): jobs, buffers, pauses and ends; the queue of writes that wait (R149, R150) and what the planner
pauses (R487, R493). -/

namespace Sys2Proof.Machine

/-! ### A job's parameters (R491) -/

def DefJob.compress (j : DefJob) : Bool := bit j.w0 35
def DefJob.wrap (j : DefJob) : Nat := bits j.w0 34 33
def DefJob.level (j : DefJob) : Nat := bits j.w0 32 31
def DefJob.wbits (j : DefJob) : Nat := bits j.w0 30 27
def DefJob.final (j : DefJob) : Bool := bit j.w0 26
def DefJob.cont (j : DefJob) : Bool := bit j.w0 25
def DefJob.wait (j : DefJob) : Bool := bit j.w0 24
def DefJob.force (j : DefJob) : Bool := bit j.w0 23
def DefJob.strict (j : DefJob) : Bool := bit j.w0 22

/-- Words that bytes take in word-pair packing (R60). -/
def pairWords (n : Nat) : Nat := 2 * cdiv n 9

/-- A range of words: address and bytes; two of them share a word. -/
def rangesMeet (a b : Nat × Nat) : Bool := overlap a.1 (pairWords a.2) b.1 (pairWords b.2)

/-- A range is even and lies in the installed DRAM. -/
def State.rangeOk (s : State) (r : Nat × Nat) : Bool :=
  r.1 % 2 = 0 && r.1 / 7 + sectorsOf r.1 (pairWords r.2) ≤ s.installed

/-- No two ranges of a list share a word. -/
def apart : List (Nat × Nat) → Bool
  | [] => true
  | a :: t => t.all (fun b => !rangesMeet a b) && apart t

/-- A range touches a device-owned region (R143). -/
def State.rangeOwned (s : State) (r : Nat × Nat) : Bool := s.owned (r.1 / 7) (sectorsOf r.1 (pairWords r.2))

/-- The output buffers among a job's parameters. -/
def buffersOf (ps : List Word) (n : Nat) : List (Nat × Nat) :=
  (List.range n).map (fun i => (bits (nthW ps (5 + 2 * i)) 30 0, bits (nthW ps (6 + 2 * i)) 27 0))

/-! ### DEFLATE_STATUS -/

/-- Buffers of a job that hold nothing yet. -/
def DefJob.unused (j : DefJob) : Nat := j.bufs.length - (if 0 < j.fill then 1 else 0)

/-- JOB, HELD and BUFS as the jobs stand; STATE 0 with none. -/
def State.showDeflate (s : State) : State :=
  match s.eng.deflate with
  | [] => s.ws [(Reg.DEFLATE_STATUS_STATE, 0, 0), (Reg.DEFLATE_STATUS_JOB, 0, 0), (Reg.DEFLATE_STATUS_HELD, 0, 0),
      (Reg.DEFLATE_STATUS_BUFS, 0, 0)]
  | j :: _ => s.ws [(Reg.DEFLATE_STATUS_JOB, 0, j.num), (Reg.DEFLATE_STATUS_HELD, 0, s.eng.deflate.length),
      (Reg.DEFLATE_STATUS_BUFS, 0, j.unused)]

/-- The jobs replaced. -/
def State.setDeflate (s : State) (l : List DefJob) : State := { s with eng := { s.eng with deflate := l } }.showDeflate

/-- The job at the head begins, unless the planner withholds class 8. -/
def State.deflateNext (s : State) : State :=
  if s.eng.deflate.isEmpty then s.showDeflate
  else (s.ws [(Reg.DEFLATE_STATUS_STATE, 0, if s.hearth.plan.deferred.contains 8 then 4 else 1), (Reg.DEFLATE_IN_IN_DONE, 0, 0),
    (Reg.DEFLATE_OUT_OUT_DONE, 0, 0)]).showDeflate

/-! ### DEFLATE_JOB and DEFLATE_SUPPLY (R491, R493) -/

/-- 0xD01 DEFLATE_JOB. -/
def hDeflateJob : Handler := fun c ps s =>
  let w0 := nthW ps 0
  let nbuf := bits w0 21 18
  let inp := (bits (nthW ps 1) 30 0, bits (nthW ps 2) 31 0)
  let bufs := buffersOf ps nbuf
  let used := s.eng.deflate.map (·.num)
  let num := ((List.range 4).find? (fun n => !used.contains n)).getD 0
  if bits w0 34 33 = 3 || bits w0 30 27 < 8 || 8 < nbuf || ps.length ≠ 5 + 2 * nbuf || !s.rangeOk inp
      || bufs.any (fun (b : Nat × Nat) => b.2 = 0 || !s.rangeOk b) || !apart (inp :: bufs)
      || (bit w0 24 && bit w0 23) then (.badParam, s)
  else if 4 ≤ s.eng.deflate.length then (.busy, s)
  else if bufs.any s.rangeOwned then (.denied, s)
  else
    let j : DefJob := ⟨num, w0, bits (nthW ps 3) 31 0, bits (nthW ps 4) 31 0, [inp], [], bit w0 17, bufs, 0, 0, 0, false, [], c.req⟩
    let s1 := s.setDeflate (s.eng.deflate ++ [j])
    (.accepted num, if s.eng.deflate.isEmpty then s1.deflateNext else s1)

/-- 0xD02 DEFLATE_SUPPLY. -/
def hDeflateSupply : Handler := fun _ ps s =>
  let w0 := nthW ps 0
  let inDir := bit w0 2
  let rng := (bits (nthW ps 1) 30 0, bits (nthW ps 2) 31 0)
  match s.eng.deflate.find? (fun (j : DefJob) => j.num = bits w0 1 0) with
  | none => (.badParam, s)
  | some j =>
    let clash := (j.inputs ++ j.bufs).any (rangesMeet rng)
    if clash || !s.rangeOk rng || (!inDir && (8 ≤ j.unused || rng.2 = 0 || 268435455 < rng.2)) then (.badParam, s)
    else if !inDir && s.rangeOwned rng then (.denied, s)
    else
      let last := bit w0 3
      let j' := { j with
        inputs := if inDir then j.inputs ++ [rng] else j.inputs
        bufs := if inDir then j.bufs else j.bufs ++ [rng]
        more := j.more && !last }
      let head := s.eng.deflate.head?.any (fun (x : DefJob) => x.num = j.num)
      let st := s.r Reg.DEFLATE_STATUS_STATE
      let wakes := head && ((st = 2 && !inDir) || (st = 3 && (inDir || last)))
      let s := s.setDeflate (s.eng.deflate.map (fun (x : DefJob) => if x.num = j.num then j' else x))
      (.done, if wakes then s.w Reg.DEFLATE_STATUS_STATE (if s.hearth.plan.deferred.contains 8 then 4 else 1) else s)

/-! ### Input -/

/-- The bytes of an input range up to the first failed sector, and that sector. -/
def State.inputBytes (s : State) (r : Nat × Nat) : List Byte × Option Nat :=
  let bad := firstBad s.dram r.1 (pairWords r.2)
  let n := match bad with
    | some k => min r.2 (9 * ((7 * k - r.1) / 2))
    | none => r.2
  ((packBytes (dramWords s.dram r.1 (pairWords n))).take n, bad)

/-- Input ranges taken in, in order: the bytes, the first failed sector. -/
def State.takeIn (s : State) : List (Nat × Nat) → List Byte → List Byte × Option Nat
  | [], d => (d, none)
  | r :: t, d =>
    let p := s.inputBytes r
    match p.2 with
    | some k => (d ++ p.1, some k)
    | none => s.takeIn t (d ++ p.1)

/-! ### The stream (R494, R495) -/

/-- Bytes of a number, most or least significant first. -/
def numBytes (n v : Nat) : List Byte := (List.range n).map (fun i => BitVec.ofNat 8 (v / 256 ^ (n - 1 - i)))

/-- The wrapper header that compression writes (R494). -/
def DefJob.header (j : DefJob) : List Byte :=
  if j.cont then []
  else match j.wrap with
    | 1 =>
      let cmf := (j.wbits - 8) * 16 + 8
      let flg := j.level * 64
      [BitVec.ofNat 8 cmf, BitVec.ofNat 8 (flg + (31 - (cmf * 256 + flg) % 31) % 31)]
    | 2 => [0x1F, 0x8B, 8, 0, 0, 0, 0, 0, if j.level ≤ 1 then 4 else 2, 255]
    | _ => []

/-- CHECK over bytes of a compression job, from CHECK_IN where it continues. -/
def DefJob.checkOver (j : DefJob) (l : List Byte) : Nat :=
  checkOf j.wrap (if j.cont && j.compress then j.checkIn else if j.wrap = 1 then 1 else 0) l

/-- ISIZE after bytes. -/
def DefJob.isizeOver (j : DefJob) (l : List Byte) : Nat :=
  ((if j.cont && j.compress then j.isizeIn else 0) + l.length) % 2 ^ 32

/-- The end of a stream without the last block: LEN and NLEN of the empty stored block (R494). -/
def syncTail : List Byte := [0, 0, 0xFF, 0xFF]

/-- Blocks are a stream of their input as R494 asks: a decoder with the job's window gives the input back, and the blocks are of the
level. Where the job does not end the stream, the header of its empty stored block is the blocks' last bits, and a last empty block
put after it closes the stream for the test. -/
def DefJob.legal (j : DefJob) (b l : List Byte) : Bool :=
  let d := if j.final then b else b ++ syncTail ++ [1, 0, 0, 0xFF, 0xFF]
  InfCfg.levelBlocks ⟨d, l.length, 2 ^ j.wbits⟩ j.level (8 * d.length + 1) ⟨0, [], 0⟩ = some l

/-- Stored blocks of at most 65,535 bytes; where the stream goes on, the header of its empty block. -/
def storedBlocks (final : Bool) : Nat → List Byte → List Byte
  | 0, _ => []
  | fuel + 1, l =>
    let a := l.take 65535
    let last := final && l.length ≤ 65535
    let h : List Byte := BitVec.ofNat 8 (b2n last) :: (numBytes 2 a.length).reverse ++ (numBytes 2 (65535 - a.length)).reverse
    h ++ a ++ (if l.length ≤ 65535 then (if final then [] else [0]) else storedBlocks final fuel (l.drop 65535))

/-- The blocks of a job: which of the legal streams the device writes is open (assumption log 1). -/
def DefJob.blocks (j : DefJob) (l : List Byte) : List Byte :=
  let b := Config.compress j.level j.wbits j.final l
  if j.legal b l then b else storedBlocks j.final (l.length + 1) l

/-- The compressed stream (R494): header, the blocks, and either the trailer or the end of the empty stored block. -/
def DefJob.packed (j : DefJob) (l : List Byte) : List Byte :=
  let tail : List Byte :=
    if !j.final then syncTail
    else match j.wrap with
      | 1 => numBytes 4 (j.checkOver l)
      | 2 => (numBytes 4 (j.checkOver l)).reverse ++ (numBytes 4 (j.isizeOver l)).reverse
      | _ => []
  j.header ++ j.blocks l ++ tail

/-- What the stream gives so far: output, input bytes consumed, and why it stops: 0 at its end, an error of R496, 0x100 when the
output limit is reached; a failed sector stands where the input ends. -/
structure DefStream where
  out : List Byte
  eaten : Nat
  stop : Nat

/-- The stream over the input at hand, up to `limit` bytes of output. -/
def DefJob.stream (j : DefJob) (bad : Bool) (limit : Nat) : DefStream :=
  if j.compress then
    if bad || j.more then ⟨[], j.data.length, 0x09⟩
    else
      let o := j.packed j.data
      if o.length ≤ limit then ⟨o, j.data.length, 0⟩ else ⟨o.take limit, j.data.length, 0x100⟩
  else
    match inflate ⟨j.data, limit, if j.wrap = 1 then 2 ^ j.wbits else 32768⟩ j.wrap j.wbits with
    | .ok p =>
      let n := cdiv p.2.pos 8
      ⟨p.2.out.reverse, n, if j.strict && n < j.data.length then 0x0F else 0⟩
    | .error e => ⟨e.at_.out.reverse, e.at_.pos / 8, e.code⟩

/-! ### Output (R492) -/

/-- Why writing stops before the bytes end. -/
inductive DefStop where
  | gate (g : Gate)
  | sector (n : Nat)

/-- What stands against a buffer as the job reaches it (R149, R150); surfaces that the job writes already count as its own. -/
def State.bufGate (s : State) (j : DefJob) (b : Nat × Nat) : Gate :=
  let s := s.markWriting j.ids false false
  let s := { s with fire := { s.fire with
    waitQ := s.fire.waitQ.map (fun (q : QWrite) => { q with surfs := q.surfs.filter (fun i => !j.ids.contains i) }) } }
  s.gate b.1 (pairWords b.2) j.wait j.force

/-- Bytes stored at byte offset `f` of a buffer; the rest of the pairs at both ends stays. -/
def State.putBytes (s : State) (base f : Nat) (l : List Byte) : State × Option Nat :=
  let e := f + l.length
  let old (k : Nat) : Byte := BitVec.ofNat 8 (rowByte s.dram base k)
  let front := (List.range' (9 * (f / 9)) (f % 9)).map old
  let back := (List.range' e (9 * cdiv e 9 - e)).map old
  s.store 4 (base + 2 * (f / 9)) (unpackBytes (front ++ l ++ back))

/-- The bytes written to the job's buffers in turn; a full buffer is left when the next byte comes. -/
def State.defFill : Nat → State → DefJob → List Byte → State × DefJob × Option DefStop
  | 0, s, j, _ => (s, j, none)
  | fuel + 1, s, j, l =>
    match l, j.bufs with
    | [], _ => (s, j, none)
    | _, [] => (s, j, none)
    | _, b :: t =>
      if b.2 ≤ j.fill then
        State.defFill fuel s { j with bufs := t, fill := 0, used := j.used + 1, passed := false } l
      else
        let go (s : State) (j : DefJob) : State × DefJob × Option DefStop :=
          let k := b.2 - j.fill
          let n := min k l.length
          match s.putBytes b.1 j.fill (l.take n) with
          | (s, some e) => (s, j, some (.sector e))
          | (s, none) => State.defFill fuel s { j with fill := j.fill + n, outDone := j.outDone + n } (l.drop n)
        if j.passed then go s j
        else
          match s.bufGate j b with
          | .go ids => go ((s.markWriting ids true j.force).forceTear ids j.force)
              { j with passed := true, ids := (j.ids ++ ids).eraseDups }
          | g => (s, j, some (.gate g))

/-- The rest of the last pair is written 0 (R492). -/
def State.defPad (s : State) (j : DefJob) : State :=
  match j.bufs with
  | b :: _ => if j.fill % 9 = 0 then s else (s.putBytes b.1 j.fill (List.replicate (9 - j.fill % 9) 0)).1
  | [] => s

/-! ### Ends and pauses (R493, R496) -/

/-- Job `j` leaves; the next begins. -/
def State.defEnd (s : State) (j : DefJob) (bad : Bool) (a : Ans) : State :=
  let head := s.eng.deflate.head?.any (fun (x : DefJob) => x.num = j.num)
  let s := (((s.defPad j).markWriting j.ids false false).surfsAfter j.ids bad)
  let s := s.setDeflate (s.eng.deflate.filter (fun (x : DefJob) => x.num ≠ j.num))
  (if head then s.deflateNext else s).complete j.req a

/-- A named error (R496). -/
def State.defFault (s : State) (j : DefJob) (code offset detail : Nat) : State :=
  (((s.ws [(Reg.DEFLATE_STATUS_ERR, 0, code), (Reg.DEFLATE_ERR_AT_OFFSET, 0, offset)]).defEnd j true (.fault detail)).raise 1008 0)

/-- The head replaced, its counts shown. -/
def State.setHead (s : State) (j : DefJob) (eaten : Nat) : State :=
  (s.setDeflate (j :: s.eng.deflate.drop 1)).ws [(Reg.DEFLATE_IN_IN_DONE, 0, eaten), (Reg.DEFLATE_OUT_OUT_DONE, 0, j.outDone)]

/-- The five reply words (R496). -/
def DefJob.report (j : DefJob) (d : DefStream) : List Word :=
  let plain := if j.compress then j.data else d.out
  [word d.eaten, word d.out.length, word (j.checkOver plain), word (j.isizeOver plain),
   word (j.used + (if 0 < j.fill then 1 else 0))]

/-- The running job is carried to its next pause or its end (R492–R496). -/
def State.defRun (s : State) : State :=
  match s.eng.deflate with
  | [] => s
  | old :: _ =>
    if s.r Reg.DEFLATE_STATUS_STATE ≠ 1 then s
    else
      let j := old
      let s0 := s.r Reg.DEFLATE_IN_IN_DONE
      let g := s.takeIn j.inputs j.data
      let s := j.inputs.foldl (fun (x : State) (r : Nat × Nat) => x.wakeChannels r.1 (pairWords r.2)) s
      let j := { j with data := g.1, inputs := if g.2.isSome then j.inputs else [] }
      let room := (j.bufs.map Prod.snd).foldl (· + ·) 0 - j.fill
      let d := j.stream g.2.isSome (j.outDone + room)
      let w := State.defFill (2 * j.bufs.length + 2) s j (d.out.drop j.outDone)
      let j := w.2.1
      let s := (w.1.setHead j d.eaten).act 8 11 (if old.compress then d.eaten - s0 else j.outDone - old.outDone)
      match w.2.2 with
      | some (.sector n) => s.defFault j 0x10 d.eaten n
      | some (.gate (.sealed_ id)) => s.defEnd j false (.sealed id)
      | some (.gate .denied) => s.defEnd j false .denied
      | some (.gate .bad) => s.defEnd j false .badParam
      | some (.gate .resource) => s.defEnd j false .resource
      | some (.gate (.queue ids)) =>
        (s.queueWrite ⟨0xD01, j.req.src, j.req.tag, 0, 0⟩ ids [] j.wait j.force).w Reg.DEFLATE_STATUS_STATE 5
      | some (.gate (.go _)) => s
      | none =>
        if d.stop = 0 then s.defEnd j false (.reply (j.report d))
        else if d.stop = 0x100 then (s.w Reg.DEFLATE_STATUS_STATE 2).raise 1009 0
        else if d.stop = 0x09 then
          match g.2 with
          | some n => (s.sectorFail 4 n).defFault j 0x10 d.eaten n
          | none => if j.more then (s.w Reg.DEFLATE_STATUS_STATE 3).raise 1010 0 else s.defFault j 0x09 d.eaten d.eaten
        else s.defFault j d.stop d.eaten d.eaten

/-! ### The queue of waiting writes (R149, R150) -/

/-- One queued write runs. -/
def State.runQueued (s : State) (q : QWrite) : State :=
  let s := s.unqueue q
  if q.opcode = 0xC01 then
    match s.eng.stamp with
    | j :: t => if j.waits then s.stampStart j t q.surfs else s
    | [] => s
  else if q.opcode = 0xD01 then
    match s.eng.deflate with
    | j :: t =>
      let s := (s.markWriting q.surfs true j.force).forceTear q.surfs j.force
      (s.setDeflate ({ j with passed := true, ids := (j.ids ++ q.surfs).eraseDups } :: t)).w Reg.DEFLATE_STATUS_STATE
        (if s.hearth.plan.deferred.contains 8 then 4 else 1)
    | [] => s
  else if q.opcode = 0x10A then
    let go (j : OwnFlash) : OwnFlash := if j.req = q.req && j.waits then { j with waits := false } else j
    { s.markWriting q.surfs true false with start := { s.start with ownFlash := s.start.ownFlash.map go } }
  else
    match s.imageFor q.opcode q.params with
    | none => s
    | some i =>
      let r := s.putImage i q.surfs
      r.2.complete q.req r.1

/-- Every queued write that may run does so, in the order of acceptance. -/
def State.runQueue : Nat → State → State
  | 0, s => s
  | fuel + 1, s =>
    match s.nextWrite [] s.fire.waitQ with
    | none => s
    | some q => State.runQueue fuel (s.runQueued q)

/-- Waiting writes that may run now. -/
def State.writesDue (s : State) : State := State.runQueue (s.fire.waitQ.length + 1) s

/-- SEAL_LIFT: the seals that are due lift, and the writes that waited for them run (R147–R150). -/
def execSealLift (s : State) : Host.Outcome State Fault Refusal := .next ((s.pass 0).liftSeals).writesDue

/-! ### Rows and aborts -/

/-- STAMP_JOB_DONE: the running job reaches its end. -/
def execStampJobDone (s : State) : Host.Outcome State Fault Refusal := .next ((s.pass 0).stampRun).writesDue

/-- DEFLATE_BUFFER_EXHAUSTED: the running job goes on until it runs out of buffers or input. -/
def execDeflateBufferExhausted (s : State) : Host.Outcome State Fault Refusal := .next ((s.pass 0).defRun).writesDue

/-- DEFLATE_JOB_DONE: the running job goes on to its end. -/
def execDeflateJobDone (s : State) : Host.Outcome State Fault Refusal := .next ((s.pass 0).defRun).writesDue

/-- 0xC02 STAMP_ABORT, and the writes it lets run. -/
def hStampAbortAll : Handler := fun c ps s =>
  let r := hStampAbort c ps s
  (r.1, r.2.writesDue)

/-- 0xD03 DEFLATE_ABORT (R493). -/
def hDeflateAbort : Handler := fun _ ps s =>
  match s.eng.deflate.find? (fun (j : DefJob) => j.num = bits (nthW ps 0) 1 0) with
  | none => (.badParam, s)
  | some j =>
    let head := s.eng.deflate.head?.any (fun (x : DefJob) => x.num = j.num)
    let l := if head then s.fire.waitQ.filter (fun q => q.opcode ≠ 0xD01) else s.fire.waitQ
    let s := { s with fire := { s.fire with waitQ := l } }.w Reg.KILN_WRITE_QUEUE_QUEUED (waitWrites l)
    let at_ := if head then s.r Reg.DEFLATE_IN_IN_DONE else 0
    (.done, (s.defFault j 0x11 at_ at_).writesDue)

/-! ### What the planner pauses (R50, R487, R493) -/

/-- Class 8 withdrawn or admitted again: the running jobs pause or go on; events 995 and 1011. -/
def State.enginePause (s : State) : State :=
  let off := s.hearth.plan.deferred.contains 8
  let was := s.r Reg.STAMP_STATUS_STATE
  let s := if s.eng.stamp.isEmpty then s else s.showStamp
  let s := s.raiseIf (was = 1 && s.r Reg.STAMP_STATUS_STATE = 3) 995 0
  let st := s.r Reg.DEFLATE_STATUS_STATE
  if st = 1 && off then (s.w Reg.DEFLATE_STATUS_STATE 4).raise 1011 0
  else if st = 4 && !off then s.w Reg.DEFLATE_STATUS_STATE 1
  else s

/-- PLAN_PROJECTION: the planner projects the energy of the tick (R50). -/
def execPlanProjection (acts : List (Nat × Nat)) (done : List Nat) (dt : Nat) (s : State) : Host.Outcome State Fault Refusal :=
  .next ((s.pass dt).project acts done).enginePause

end Sys2Proof.Machine
end

