-- ==== Sys2Proof/Machine/FireRows.lean ====
section
/-! DEFINITION. The rows of firing, of EMIT and of the slab decoder between two ticks (R27–R57, R91–R113, R133–R136, R157,
R208–R224, R242–R250). -/

namespace Sys2Proof.Machine

/-! ### Bands (R39, R46, R133, R134, R217) -/

/-- The physical hogels of a band. -/
def bandHogels (g : Grid) (rows b : Nat) : List (Nat × Nat) :=
  let sp := bandSpan rows g.sh b
  (List.range (sp.2 + 1 - sp.1)).flatMap (fun y => (List.range g.sw).map (fun x =>
    let p := physOf g x (sp.1 + y) 0 0
    (p.1, p.2.1)))

/-- The live rows a band needs are there, or the cutoff has passed (R46). -/
def State.liveReady (s : State) (f : FireFrame) (b : Nat) : Bool :=
  let g := gridOf s.regs
  let sp := bandSpan f.rows g.sh b
  f.cut || (bandSlots f g sp.1 sp.2).all (fun i => !f.rowSlot i || liveNeed f.copy i g sp.1 sp.2 ≤ s.linesFor f i)

/-- A band of a frame is decided (R33): the frame's decision has been taken, or the band needs live slots alone. -/
def State.bandDecided (s : State) (f : FireFrame) (b : Nat) : Bool :=
  let g := gridOf s.regs
  let sp := bandSpan f.rows g.sh b
  f.decided || (bandNeeds f g sp.1 sp.2).all f.rowSlot

/-- The frame being fired, or the one that awaits its swap: a refire or what its window left unfired (R41, R52). -/
def State.isFired (s : State) (f : FireFrame) : Bool :=
  !f.repeated && !f.stopped && f.set.isSome
  && (s.emit_.await = some f.frame || (s.fire.firing && f.frame = s.curFrame && (!s.direct || s.emit_.await.isNone)))

/-- A band of a frame that is being fired may be fired now (R33, R46). -/
def State.mayFire (s : State) (f : FireFrame) (b : Nat) : Bool := s.isFired f && s.bandDecided f b && s.liveReady f b

/-- A band of the next frame may run ahead (R37, R39, R40): its plan holds run-ahead, with PACE = 1 in the tail or in the period of a
repeated frame; the same band of the frame before has been fired; every slot it samples holds a picture of its own frame, a live one
the rows it needs. -/
def State.mayRunAhead (s : State) (f : FireFrame) (b : Nat) : Bool :=
  let now := s.frameOr s.curFrame
  let g := gridOf s.regs
  let sp := bandSpan f.rows g.sh b
  s.fire.firing && f.frame = s.curFrame + 1 && !f.repeated && s.es Reg.KILN_FRAME_CTRL_RUNAHEAD_EN ≠ 0 && !s.direct
  && s.r Reg.HEARTH_PLAN_STATUS_RUNG = 0 && s.classIn 4
  && (s.es Reg.KILN_FRAME_CTRL_PACE = 0 || now.repeated || s.winEnd ≤ s.tb3)
  && (now.repeated || now.bands.any (fun x => x.idx = b && x.fired))
  && (bandNeeds f g sp.1 sp.2).all (fun i =>
        if f.rowSlot i then liveNeed f.copy i g sp.1 sp.2 ≤ s.linesFor f i else (f.uses.getD i SlotUse.fresh).ready)

/-- A band may be loaded and fired, for its own frame or ahead of it. -/
def State.bandOpen (s : State) (f : FireFrame) (b : Nat) : Bool := s.mayFire f b || s.mayRunAhead f b

/-- Bands are laid out when the first of a frame is fired (R132). -/
def State.laidOut (s : State) (f : FireFrame) : FireFrame × State :=
  if f.rows = 0 then
    let r := s.openBands f
    (r.2.latchModel { r.1 with faults := some (s.faultsFor f.frame) }, r.2)
  else (f, s)

/-- The surfaces and pictures of a band that is fired ahead or of a live slot are sealed for its frame (R147). -/
def State.sealBand (s : State) (f : FireFrame) (b : Nat) : State :=
  let g := gridOf s.regs
  let sp := bandSpan f.rows g.sh b
  let ids := (bandSlots f g sp.1 sp.2).flatMap (fun i => (s.slotSources f i).map (fun p => p.1.id))
  s.sealPics ids f.frame

/-- A tainted picture of a live slot is fired (R113): event 610 + 4s once a frame. -/
def State.tellTaint (s : State) (f : FireFrame) (b : Nat) : FireFrame × State :=
  let g := gridOf s.regs
  let sp := bandSpan f.rows g.sh b
  (bandSlots f g sp.1 sp.2).foldl (fun (p : FireFrame × State) i =>
    let u := f.uses.getD i SlotUse.fresh
    if u.rows && (u.tainted || (s.backTainted u && !s.liveWhole f i)) then p.2.once p.1 (610 + 4 * i) i else p) (f, s)

/-- A band whose windows are in the shelf is fired (R133): its rays are blended and go on to the Glaze. -/
def State.fireBand (s : State) (f : FireFrame) (h : Half) : State :=
  let b := h.band
  let g := gridOf s.regs
  let c := s.compose f h.failed b
  let again := f.bands.any (fun x => x.idx = b && (x.again || x.fired))
  let s := ((s.act (s.fireClass f.frame again) 0 (8 * c.2.1.sum)).sealBand f b)
  let hs := (bandHogels g f.rows b).map (fun p => p.2 * g.hw + p.1)
  let drop3 (l : List (Nat × Nat)) : List (Nat × Nat) := l.filter (fun p => !hs.contains (p.1 / 3))
  let half := hs.filter (fun h => sget (g.vw * g.vh) f.toCome h ≠ 0)
  let fields := (bandSlots f g (bandSpan f.rows g.sh b).1 (bandSpan f.rows g.sh b).2)
  let slotBlends := (List.range 32).map (fun i =>
    nth f.slotBlends i + (if fields.contains i then (c.2.1.filter (fun m => place fields i < m)).length else 0))
  let f1 := { f with
    queue := f.queue ++ c.1
    ag := drop3 f.ag
    sums := f.sums.filter (fun p => !half.contains (p.1 / 3))
    toCome := f.toCome.filter (fun p => !half.contains p.1)
    blends := f.blends + c.2.1.sum
    slotBlends := slotBlends
    bands := f.bands.map (fun (x : Band) =>
      if x.idx = b then
        { x with left := c.1.length, inputs := s.bandInputs f b, again := x.again || x.fired, fired := false, stale := false
                 released := false }
      else x) }
  let r := if c.2.2 then s.once f1 747 (f.frame % 2 ^ 28) else (f1, s)
  let r := r.2.tellTaint r.1 b
  (r.2.setFrame r.1).showFire

/-! ### The shelf (R40, R46, R133) -/

/-- No band is on its way through the lanes. -/
def State.lanesIdle (s : State) : Bool := s.fire.frames.all (fun f => f.queue.isEmpty)

/-- The instant at which a band's first firing begins with PACE = 1 (R40): the bands of a frame are spread evenly over its firing window
(the instants: DESIGN CHOICE, assumption log 57). A refire, a band fired ahead, a frame that awaits its swap are not paced. -/
def State.paceAt (s : State) (f : FireFrame) (b : Nat) : Int :=
  if s.es Reg.KILN_FRAME_CTRL_PACE = 0 || f.frame ≠ s.curFrame || f.bands.any (fun x => x.idx = b && (x.again || x.fired)) then
    s.fire.winAt
  else s.fire.winAt + (s.winEnd - s.fire.winAt) * (b : Int) / (max 1 f.bands.length : Nat)

/-- The bands of a frame that the loader may take next (R42, R46, R133): of those to be fired again and of those not yet fired the first
in the order of the live picture's rows, which is that of the bands; those in the shelf or the lanes aside. -/
def State.nextBands (s : State) (f : FireFrame) : List Nat :=
  let open_ := f.bands.filter (fun x => x.left = 0 && !s.fire.shelf.any (fun h => h.frame = f.frame && h.band = x.idx))
  ((open_.find? (fun x => x.fired && x.stale)).toList ++ (open_.find? (fun x => !x.fired)).toList).map (·.idx)

/-- The first half of the shelf as it stands: its frame is still in work, its band still open, and its inputs are those in force. -/
def State.headOf (s : State) (h : Half) : Option FireFrame :=
  match s.fireFrame h.frame with
  | some f => if s.bandOpen f h.band && s.bandInputs f h.band = h.inputs then some f else none
  | none => none

/-- The lanes take bands from the shelf (R133): halves whose inputs have changed since they were loaded go; the first of the others is fired
as soon as the lanes are idle and its instant has come. `fuel` bounds the halves. -/
def State.pump : Nat → State → State
  | 0, s => s
  | fuel + 1, s =>
    match s.fire.shelf with
    | [] => s
    | h :: t =>
      let rest : State := { s with fire := { s.fire with shelf := t } }
      match s.headOf h with
      | none => rest.pump fuel
      | some f => if s.lanesIdle && s.paceAt f h.band ≤ s.tb3 then rest.fireBand f h else s

/-- The lanes take what they may. -/
def State.fireNext (s : State) : State := State.pump (s.fire.shelf.length + 1) s

/-- The room of the shelf (R133): two halves, one of them in the lanes while a band is fired. -/
def State.shelfRoom (s : State) : Nat := if s.lanesIdle then 2 else 1

/-- SHELF_WINDOW_LOADED for a band of a frame: the loader has filled a half of the shelf with the windows of a band that is open and next in
order. `errs` are sectors whose first read failed, each with whether the second passed (R142). -/
def State.shelfLoaded (s : State) (n b : Nat) (errs : List (Nat × Bool)) : State :=
  let s := s.fireNext
  let s := if n = s.curFrame + 1 && (s.fireFrame n).isNone && s.fire.firing then (s.setFrame (s.frameOr n)).renew n else s
  match s.fireFrame n with
  | none => s
  | some f =>
    let r := if s.isFired f || n = s.curFrame + 1 then s.laidOut f else (f, s)
    let f := r.1
    let s' := r.2
    if !(s'.nextBands f).contains b || s'.shelfRoom ≤ s'.fire.shelf.length || !s'.bandOpen f b then s
    else
      let l := (s'.setFrame f).loadWindows f b errs
      let h : Half := ⟨n, b, l.1.bandInputs f b, l.2⟩
      ({ l.1 with fire := { l.1.fire with shelf := l.1.fire.shelf ++ [h] } }.fireNext).showFire

def execShelfWindowLoaded (frame band : Nat) (s : State) (errs : List (Nat × Bool) := []) : Host.Outcome State Fault Refusal :=
  .next ((s.pass 0).shelfLoaded frame band errs)

/-- The instant of the first half that may be fired and waits for nothing else. -/
def State.pacedTo (s : State) : Option Int :=
  match s.fire.shelf with
  | h :: _ => if s.lanesIdle then (s.headOf h).map (fun f => s.paceAt f h.band) else none
  | [] => none

/-! ### The decision, the cutoff, the end of the window (R28, R29, R33, R46, R52) -/

/-- The commit window of the frame after the next tick's closes (R29, R64): event 448 when no batch for it has been parsed. -/
def State.windowClose (s : State) : State :=
  let n := s.time.last + 2
  if s.fire.closed = some n then s
  else
    let s := { s with fire := { s.fire with closed := some n } }
    (s.raiseIf (s.isWorker && s.stage ≠ 0 && !s.stream.parsed.contains n) 448 (n % 2 ^ 28)).release

/-- COMMIT_WINDOW_CLOSE. -/
def execCommitWindowClose (s : State) : Host.Outcome State Fault Refusal :=
  let n := s.time.last + 2
  if !s.time.ticked || s.fire.closed = some n then .next (s.pass 0) else .next (s.goto (s.windowEnd n)).windowClose

/-- The readiness decision of the frame being fired, where it is still owed (R33). -/
def State.readiness (s : State) : State :=
  match s.fireFrame s.curFrame with
  | none => s
  | some f =>
    if f.decided || f.repeated || !s.fire.firing then s
    else ((((s.decideFrame f).recheckFrame f.frame).release).fireNext).showFire

/-- READINESS_DECISION: READY_GRACE after the tick (R33). -/
def execReadinessDecision (s : State) : Host.Outcome State Fault Refusal :=
  if !s.time.ticked then .next (s.pass 0)
  else .next ((s.goto (s.sched s.time.last + us (s.es Reg.KILN_FRAME_CTRL_READY_GRACE))).readiness)

/-- The live slots of a frame whose rows are not all there at LIVE_CUTOFF (R47). -/
def State.liveShort (s : State) (f : FireFrame) : List Nat :=
  f.sampled.filter (fun i => f.rowSlot i && !s.liveWhole f i)

/-- LIVE_CUTOFF for the frame being fired (R46, R47): later rows are not used; a WAIT slot without any row repeats it. -/
def State.cutoff (s : State) : State :=
  match s.fireFrame s.curFrame with
  | none => s
  | some f =>
    if f.cut || f.repeated || !f.decided then s
    else
      let live := (slotSet f.copy).filter f.rowSlot
      let short := s.liveShort f
      let rows := live.foldl (fun l i => sset 0 l i (s.liveLines f.copy i f.frame)) []
      let wait := short.any (fun i =>
        slotPolicy f.copy i = 2 && sget 0 rows i = 0 && !s.overLimit f.copy i)
      let g := { f with cut := true, live := rows, late := wait }
      let s := (s.setFrame g).raises (short.flatMap (fun i => [(743, i), (608 + 4 * i, i)]))
      if wait then s.repeatFrame g else s.recheckFrame g.frame

/-- LIVE_CUTOFF: LIVE_TAIL before the end of the firing window. -/
def execLiveCutoff (s : State) : Host.Outcome State Fault Refusal :=
  if !s.time.ticked || !s.fire.firing then .next (s.pass 0)
  else .next ((s.goto (s.winEnd - us (s.r Reg.KILN_LIVE_CTRL_LIVE_TAIL))).cutoff.release.fireNext.showFire)

/-- The firing window ends (R52): an unfinished frame raises event 742 and keeps firing. -/
def State.windowOver (s : State) : State :=
  match s.fireFrame s.curFrame with
  | none => s
  | some f =>
    if f.repeated || (!f.bands.isEmpty && f.bands.all (fun b => b.fired && !b.stale)) then s
    else
      let r := s.once f 742 (f.frame % 2 ^ 28)
      let s := r.2.setFrame r.1
      { s with hearth := { s.hearth with plan := { s.hearth.plan with late := true } } }

/-- FIRING_WINDOW_END. -/
def execFiringWindowEnd (s : State) : Host.Outcome State Fault Refusal :=
  if !s.time.ticked || !s.fire.firing then .next (s.pass 0) else .next (s.goto s.winEnd).windowOver

/-! ### Rays and bands done (R157, R217, R223) -/

/-- The Glaze takes the next composited ray (R157); the test-tile record of a frame joins its packets (R189, R228). -/
def State.nextRay (s : State) (parity : List Nat) : State :=
  match s.fire.frames.find? (fun f => !f.queue.isEmpty) with
  | none => s
  | some f =>
    match f.queue with
    | [] => s
    | q :: t =>
      let r := s.passRay { f with queue := t } q parity
      let last := r.1.hogels ≠ f.hogels && r.1.hogels = (gridOf s.regs).hw * (gridOf s.regs).hh
      let lane := s.es Reg.EMIT_HEAD_CTRL_TTH_LANE
      let again := f.bands.any (fun x => x.idx = q.band && x.again)
      let r := (r.1, r.2.act (s.fireClass f.frame again) 3 1)
      let g := { r.1 with bands := r.1.bands.map (fun (x : Band) =>
        if x.idx = q.band then { x with left := x.left - 1 } else x) }
      if last && s.rb Reg.CAL_TTH_TTH_EN then
        match r.2.cal.rec_ with
        | some (w, cs) =>
          let k := r.2.clampStep (bits cs 3 0)
          k.2.setFrame { g with packets := g.packets ++ [(lane, testWords w (bits cs 7 4) k.1 lane f.frame)] }
        | none => r.2.setFrame g
      else r.2.setFrame g

/-- GLAZE_RAY: the next ray of the band in the lanes; when they are idle, of the band whose instant comes next (R40), at that instant. -/
def execGlazeRay (parity : List Nat) (s : State) : Host.Outcome State Fault Refusal :=
  let s := match s.pacedTo with
    | some t => ((s.goto t).fireNext)
    | none => s.pass 0
  .next (s.nextRay parity).fireNext

/-- Regions that advance with a band (R223): a slot is sampled there with a current picture, KEEP = 0 and SRC = 0. -/
def State.regionsAdvanced (s : State) (f : FireFrame) (b : Nat) : List Nat :=
  let q := s.geo
  let sp := bandSpan f.rows q.g.sh b
  let fresh := (bandSlots f q.g sp.1 sp.2).any (fun i =>
    (f.uses.getD i SlotUse.fresh).pic = 1 && !slotKeep f.copy i && !slotSrc f.copy i)
  let ys := (bandHogels q.g f.rows b).map Prod.snd
  if !fresh then []
  else (List.range 32).filter (fun i =>
    let x := s.regionBox q i
    ys.any (fun y => x.2.1 ≤ y && y < x.2.1 + x.2.2.2))

/-- A band has passed the Glaze whole (R41, R217, R248): pattern and fault stage, its rectangles when it may be released. -/
def State.bandDone (s : State) (n b : Nat) : State :=
  match s.fireFrame n with
  | none => s
  | some f =>
    match f.bands.find? (fun x => x.idx = b) with
    | none => s
    | some x =>
      if x.left ≠ 0 || x.fired || x.inputs.isEmpty then s
      else
        let q := s.geo
        let fs := f.faults.getD s.faultSet
        let share := s.r Reg.EMIT_FAULT_CTRL_FILL_SHARE
        let rays := (bandHogels q.g f.rows b).foldl (fun l p => stageHogel q fs share n (((s.setFor f).map s.bankOf).getD s.glaze.ctx) p.1 p.2 l) f.rays
        let adv := s.regionsAdvanced f b
        let f := { f with
          rays := rays
          advanced := f.advanced ++ adv.filter (fun i => !f.advanced.contains i)
          bands := f.bands.map (fun (y : Band) => if y.idx = b then { y with fired := true } else y) }
        let s := (if s.direct then s else s.dramUsed true (s.r Reg.MEM_MAP_0003_RAY_BASE)).setFrame f
        let s := if x.again then
            ({ s with fire := { s.fire with refired := s.fire.refired + 1 } }.count Reg.KILN_REFIRE_COUNT_TOTAL).raiseTick
              737 0 0
          else s
        s.release.fireNext.showFire

def execBandFireComplete (frame band : Nat) (s : State) : Host.Outcome State Fault Refusal :=
  .next ((s.pass 0).bandDone frame band)

/-! ### Packets on the lanes (R219, R227) -/

/-- Slots that a lane needs at most to end its next transfer packet. -/
def State.slotsLeft (s : State) (lane : Nat) : Nat :=
  let t := s.laneTx lane
  let next := match t.long, s.nextRect lane with
    | p :: _, _ => p.length
    | [], some r => (s.rectPacket lane r []).length
    | [], none => 0
  16 + t.short.length + ((t.open_.map (fun o => o.left.length)).getD 0) / 32 + next / 32 + 4

/-- A lane sends superblocks until a transfer packet has left whole or nothing is left to send. -/
def State.laneRun (errs : List ReadErr) : Nat → Nat → State → State
  | 0, _, s => s
  | n + 1, lane, s =>
    let r := s.emitterSlot lane errs
    if r.1 then r.2 else State.laneRun errs n lane r.2

/-- RECT_PACKET_SENT (R219): an emitter lane sends up to the end of its next transfer packet; a rectangle sent on every lane it uses frees
its tag. `errs` are the reads of the ray buffer that fail. -/
def execRectPacketSent (lane : Nat) (s : State) (errs : List ReadErr := []) : Host.Outcome State Fault Refusal :=
  let s := s.pass 0
  .next (if lane < 16 then State.laneRun errs (s.slotsLeft lane) lane s else s)

/-! ### The swap (R210, R211) -/

/-- The fault set and pattern settings of a bisque frame: before glost the engines take theirs from the image (R252). -/
def State.bisqueFaults (s : State) (n : Nat) : FaultSet :=
  if s.stage = 1 then { s.faultsFor n with pats := s.start.bisPats } else s.faultsFor n

/-- A bisque frame goes on show (R505). -/
def State.bisqueSwap (s : State) (outcome : Nat) : State :=
  let n := s.time.last
  let s := s.geo.lanes.foldl (fun (x : State) l => x.putFirst l [pktWord 7 (l % 8) n]) s
  let s := s.expectEcho n false
  let config := s.emit_.cfgNew.foldl (fun l p => setNth l p.1 p.2) s.emit_.config
  let s := { s with emit_ := { s.emit_ with
      bisAwait := false, image := [], config := config, cfgNew := []
      tables := if s.emit_.tabNew.isSome then s.emit_.tabNew else s.emit_.tables, tabNew := none } }.tellOutcome n outcome
  let fs := s.bisqueFaults n
  let s := s.putAux fs.pats fs.palette n
  ({ s with pins := { s.pins with aonBlank := false } }.w Reg.MGMT_STAGE_BISQUE_SHOWN 1).driveBlank

/-- A bisque frame has been sent whole (R505). -/
def State.bisqueSent (s : State) : Bool := !s.emit_.tx.any (fun t => t.holds s.time.last)

/-- A bisque frame that could not be sent whole in time is repeated by the strings (R211, R505). -/
def State.bisqueAbandon (s : State) : State :=
  let n := s.time.last
  let s := s.geo.lanes.foldl (fun (x : State) l => x.putFirst l [pktWord 8 (l % 8) n]) (s.dropTx n)
  let s := { s.expectEcho n true with start := { s.start with resend := s.start.resend || !s.emit_.cfgNew.isEmpty } }
  ({ s with emit_ := { s.emit_ with bisAwait := false, cfgNew := [], tabNew := none } }.raise 834 (n % 2 ^ 28)).tellOutcome n 4

/-- A TE edge that counts (R211). -/
def State.teCounts (s : State) : State :=
  if s.emit_.bisAwait then
    if s.bisqueSent then
      if s.emit_.edges = 0 then s.bisqueSwap 1 else (s.bisqueSwap 2).raise 832 (s.time.last % 2 ^ 28)
    else { s with emit_ := { s.emit_ with edges := s.emit_.edges + 1 } }
  else
    match s.emit_.await with
    | none => s
    | some n =>
      if s.transfersDone n then
        if s.emit_.edges = 0 then s.swap n 1 else (s.swap n 2).raise 832 (n % 2 ^ 28)
      else { s with emit_ := { s.emit_ with edges := s.emit_.edges + 1 } }

/-- The subfield now, counted through the ticks (R207). -/
def State.subfield (s : State) : Int :=
  let t0 := s.sched s.time.last + us (s.es Reg.EMIT_SCAN_CTRL_SCAN_PHASE)
  s.time.last * s.geo.subs + (s.tb3 - t0) * (s.geo.subs : Int) / (max 1 s.period : Nat)

/-- A TE input rises (R210): with TE_SEL = 10 the later of the two in a subfield counts, and event 835 when they lie more than 20 µs
apart. -/
def State.teRises (s : State) (input : Nat) : State :=
  let sel := s.es Reg.EMIT_HEAD_CTRL_TE_SEL
  let k := s.subfield
  if !s.scanOn then s
  else if sel < 2 then (if sel = input then s.teCounts else s)
  else
    match (s.emit_.teAt.getD (1 - input) none).filter (fun t => t.2 = k) with
    | some t =>
      let s := { s with emit_ := { s.emit_ with teAt := [none, none] } }
      (s.raiseIf (t.1 + cyclesUs 20 < s.now) 835 0).teCounts
    | none => { s with emit_ := { s.emit_ with teAt := setNth [none, none] input (some (s.now, k)) } }

def execTeEdge (input dt : Nat) (s : State) : Host.Outcome State Fault Refusal :=
  .next ((s.pass dt).teRises input)

/-- The swap deadline of the frame that is due (R211). -/
def State.deadline (s : State) : State :=
  if s.emit_.bisAwait then
    if s.bisqueSent then (s.bisqueSwap 3).raise 833 (s.time.last % 2 ^ 28) else s.bisqueAbandon
  else
    match s.emit_.await with
    | none => s
    | some n => if s.transfersDone n then (s.swap n 3).raise 833 (n % 2 ^ 28) else s.abandon n

/-- SWAP_DEADLINE: TE_TIMEOUT after the tick. -/
def execSwapDeadline (s : State) : Host.Outcome State Fault Refusal :=
  if s.emit_.await.isNone && !s.emit_.bisAwait then .next (s.pass 0)
  else .next ((s.goto (s.sched s.time.last + us (s.es Reg.EMIT_HEAD_CTRL_TE_TIMEOUT))).deadline)

/-- What the scan does next (R207, R369): the instant on TB3, the line (none: the heads go dark, the lines of the old phase being over), and
the start of the subfield 0 whose lines run. The lines of a subfield 0 go on until the next one is due, which ends the line
in progress; after the last of them comes the one that the next tick brings. -/
def State.nextLine (s : State) : Int × Option Nat × Int :=
  let n := s.geo.subs * s.geo.commons
  let from_ := s.emit_.lineFrom
  let due := if from_ < s.emit_.lineDue then s.emit_.lineDue
    else s.sched s.nextTick + us (s.es Reg.EMIT_SCAN_CTRL_SCAN_PHASE)
  let j := (s.tb3 - from_) * n / (max 1 s.period : Nat) + 1
  let at_ := from_ + j * s.period / (n : Int)
  if s.tb3 < from_ then (from_, some 0, from_)
  else if j < n && at_ < due then (at_, some j.toNat, from_)
  else if s.time.blankNext && !s.time.blank && from_ + (s.period : Int) < due then (from_ + s.period, none, from_)
  else (due, some 0, due)

/-- SCAN_LINE_START (R207, R208, R234, R428): time goes on to the next line start on TB3; both heads raise COM_STB with the
line's common; blanking demands that wait for a line start take effect. -/
def execScanLineStart (s : State) : Host.Outcome State Fault Refusal :=
  if !s.scanOn then .next (s.pass 0)
  else
    let q := s.geo
    let x := s.nextLine
    let s := s.goto x.1
    match x.2.1 with
    | none => .next { s with time := { s.time with blank := true } }.driveBlank
    | some line =>
    let s := { s with emit_ := { s.emit_ with line := line, lineFrom := x.2.2 } }
    let s := (s.synfLine line).lineStart
    .next ((q.heads.filter (fun h => !s.headOff h)).foldl (fun (x : State) h =>
      x.emit .pin [92 + h] [word (line % q.commons), word (b2n (x.emit_.blank.getD h true)), word x.emit_.blankT]) s)

/-! ### Echo, faults, probes (R224, R242–R250) -/

def execReadbackReceive (words : List Word) (s : State) : Host.Outcome State Fault Refusal :=
  .next ((s.pass 0).readback words)

/-- A read-back that has not come in its time (R224). -/
def State.echoLate (s : State) (e : Echo) : State :=
  { s with emit_ := { s.emit_ with echo := s.emit_.echo.filter (fun x => x ≠ e) } }.badEcho e 840

/-- READBACK_TIMEOUT (R224): no packet 200 µs after the string applied the SWAP or ABANDON. -/
def execReadbackTimeout (lane : Nat) (s : State) : Host.Outcome State Fault Refusal :=
  match s.emit_.echo.find? (fun e => e.lane = lane) with
  | none => .next (s.pass 0)
  | some e => .next ((s.gotoNow (e.at_ + cyclesUs 200)).echoLate e)

def execFaultMapReceive (words : List Word) (s : State) : Host.Outcome State Fault Refusal :=
  .next ((s.pass 0).faultMap words)

/-- FAULT_REPORT_MISSING (R243): a string's report is incomplete 400 µs after its period ended. -/
def execFaultReportMissing (lane : Nat) (s : State) : Host.Outcome State Fault Refusal :=
  if s.es Reg.EMIT_HEAD_CTRL_ECHO_EN = 0 || !s.scanOn || s.emit_.reported.getD lane true || !s.geo.lanes.contains lane then
    .next (s.pass 0)
  else .next ((s.goto (s.sched s.time.last + us (s.es Reg.EMIT_SCAN_CTRL_SCAN_PHASE + 400))).reportMissing lane)

/-- PROBE_LINE (R244): time goes on to the last line of subfield PSF; `low` is the head's TE input there. -/
def execProbeLine (head : Nat) (low : Bool) (s : State) : Host.Outcome State Fault Refusal :=
  let t := s.sched s.time.last + s.probeOffset
  match s.emit_.probes[head]? with
  | none => .next (s.pass 0)
  | some p =>
    if !p.asked || !s.scanOn then .next (s.pass 0)
    else .next ((s.goto t).probeAnswer head low)

/-- How long a group's darkness may take to reach the strings (R250), in REFCLK cycles. -/
def State.fallbackWait (s : State) : Nat := 3 * (s.period / 163840) + cyclesUs (s.es Reg.EMIT_HEAD_CTRL_TE_TIMEOUT)

/-- The head of a group that is not yet dark on its strings is blanked (R250): event 871. -/
def State.fallBack (s : State) (group : Nat) : State :=
  let s := { s with emit_ := { s.emit_ with fallback := s.emit_.fallback.filter (fun x => x.1 ≠ group) } }
  ((s.w Reg.EMIT_FD_GROUP_BLANKING 1 group).raise 871 group).driveBlank

/-- FAIL_DARK_FALLBACK (R250): 3 periods and TE_TIMEOUT after the fault's receipt no frame carrying the group's darkness has
swapped. -/
def execFailDarkFallback (group : Nat) (s : State) : Host.Outcome State Fault Refusal :=
  match s.emit_.fallback.find? (fun p => p.1 = group) with
  | none => .next (s.pass 0)
  | some p => .next ((s.gotoNow (p.2 + s.fallbackWait)).fallBack group)

/-! ### The slab decoder (R75, R91–R113) -/

/-- BATCH_HEADER_PARSE: the batch header at the front of the FIFO, when it is there whole. What it binds changes the inputs of frames in
work (R41), and its rectangles are held against pictures already begun or kept (R75). -/
def execBatchHeaderParse (s : State) (errs : List ReadErr := []) : Host.Outcome State Fault Refusal :=
  let a := ((s.pass 0).fifoFails errs).headerParse
  let bound := (a.fire.inputs.filter (fun i => i.entries.isSome && !s.fire.inputs.contains i)).map (fun i => i.frame)
  .next ((bound.foldl (fun x n => x.atlasCheck n []) a).sealBound).recheck

/-- PICTURE_BEGIN: `head` is what the parse of its first slice segment tells. -/
def execPictureBegin (seq : Nat) (head : PicHead) (s : State) : Host.Outcome State Fault Refusal :=
  .next ((((s.pass 0).pictureBegin seq head).atlasSize seq).recheck)

/-- SLICE_SEGMENT_DECODED: `out` is the segment's decoding. -/
def execSliceSegmentDecoded (seq : Nat) (out : SliceOut) (s : State) : Host.Outcome State Fault Refusal :=
  .next ((((s.pass 0).dramUsed true (s.r Reg.DECODE_POOL_BASE_POOL_BASE)).sliceDecoded seq out).recheck.release)

/-- PICTURE_END: `sei` is the decoded picture hash SEI message, where the picture carries one: hash_type and its values (R109). -/
def execPictureEnd (seq : Nat) (sei : Option (Nat × List Nat)) (s : State) : Host.Outcome State Fault Refusal :=
  .next (((s.pass 0).pictureEnd seq sei).recheck.release)

/-! ### Seals, queued loads, context banks (R124, R147, R174) -/

/-- TABLE_LOAD_QUEUED_RUN. -/
def execTableLoadQueuedRun (s : State) : Host.Outcome State Fault Refusal := .next ((s.pass 0).runLoads)

/-- CTX_BANK_SWAP: at tick F − 1. -/
def execCtxBankSwap (s : State) : Host.Outcome State Fault Refusal := .next ((s.pass 0).swapCtx s.curFrame)

/-- CTX_BANK_COPY_DONE. -/
def execCtxBankCopyDone (s : State) : Host.Outcome State Fault Refusal := .next ((s.pass 0).copyDone)

end Sys2Proof.Machine
end

