-- ==== Sys2Proof/Machine/MgrFwd.lean ====
section
/-! DEFINITION. The fence (R313), what a manager forwards (R312, R424) and records of it (R447), and stepping down (R319). -/

namespace Sys2Proof.Machine

/-! ### The fence (R313) -/

/-- A fence value as a DETAIL (R543). -/
def fenceDetail (v : Nat) : Nat := v % 2 ^ 28

/-- A fence value stored. -/
def State.storeFence (s : State) (v : Nat) : State :=
  s.ws [(Reg.LINK_PEEL_EPOCH, 0, v / 2), (Reg.LINK_PEEL_IDX, 0, v % 2), (Reg.LINK_PEEL_SEEN, 0, 1)]

/-- A fence word against LINK_PEEL (R313): STALE_EPOCH and event 320 for a lower value, event 319 for a higher one. -/
def State.fenceCheck (s : State) (f : Word) : Option Ans × State :=
  let v := fenceValue f
  let held := peelValue s.regs
  if !s.rb Reg.LINK_PEEL_SEEN then (none, s.storeFence v)
  else if v < held then (some (.stale held), s.raise 320 (fenceDetail v))
  else if held < v then (none, (s.storeFence v).raise 319 (fenceDetail v))
  else (none, s)

/-! ### Forwarding (R312, R424) -/

/-- The words of a command packet (R419). -/
def packetWords (opcode tag : Nat) (route : Word) (ps : List Word) : List Word :=
  pack [(24, opcode), (12, tag), (0, ps.length)] :: route :: ps

/-- Outstanding tags that have not been forgotten (R312): 1 s each. -/
def State.liveTags (s : State) : List (Nat × Source × Nat) := s.mgr.tags.filter (fun t => s.now < t.2.2 + cyclesS 1)

/-- A bake that is forwarded is recorded (R447): its list as it grows, and the last 16 whole ones. -/
def State.recordBake (s : State) (opcode : Nat) (route : Word) (ps : List Word) : State :=
  match opcode with
  | 0x101 =>
    s.setMgr { s.mgr with openBake := some ⟨(nthW ps 0).toNat, join48 (nthW ps 1) (nthW ps 2), route, [], false⟩ }
  | 0x102 =>
    s.setMgr { s.mgr with openBake := s.mgr.openBake.map (fun (b : SentBake) => { b with writes := b.writes ++ bakePairs ps }) }
  | 0x103 =>
    match s.mgr.openBake with
    | some b =>
      let l := s.mgr.bakes ++ [{ b with closed := true }]
      s.setMgr { s.mgr with openBake := none, bakes := l.drop (l.length - 16) }
    | none => s
  | 0x105 => s.setMgr { s.mgr with openBake := none }
  | _ => s

/-- A command goes on to the tiles its route addresses, behind the fence word; its tag is outstanding. -/
def State.forwardCmd (s : State) (opcode : Nat) (c : Cmd) : State :=
  match s.liveTags.find? (fun t => t.1 = c.tag) with
  | some t =>
    if t.2.1.key = c.src.key then
      (s.setMgr { s.mgr with tags := (c.tag, c.src, s.now) :: s.liveTags.filter (fun t => t.1 ≠ c.tag) }).sendTiles 0 c.route
        (fenceWord s.mgr.fence :: packetWords opcode c.tag c.route c.params)
    else s.sendReply s c.src opcode c.tag .busy
  | none =>
    ((s.setMgr { s.mgr with tags := (c.tag, c.src, s.now) :: s.liveTags }).sendTiles 0 c.route
      (fenceWord s.mgr.fence :: packetWords opcode c.tag c.route c.params)).recordBake opcode c.route c.params

/-- COMMAND_TAG_EXPIRY (R312): the oldest outstanding tag is forgotten 1 s after its command. -/
def execCommandTagExpiry (s : State) : Host.Outcome State Fault Refusal :=
  match s.mgr.tags.getLast? with
  | none => .next (s.pass 0)
  | some t =>
    let s := s.gotoNow (t.2.2 + cyclesS 1)
    .next (s.setMgr { s.mgr with tags := s.liveTags })

/-! ### Stepping down (R319) -/

/-- Queued commands are answered DENIED, detail 1. -/
def State.denyHeld (s : State) : State :=
  s.mgr.held.foldl (fun (x : State) (p : Nat × Cmd) => x.sendReply x p.2.src p.1 p.2.tag (.denied 1))
    (s.setMgr { s.mgr with held := [] })

/-- A manager that holds the peel becomes standby. -/
def State.stepDown (s : State) : State :=
  if !s.peelHeld then s
  else
    let s := s.setMgr { s.mgr with missed := 0, handback := none, released := false, claimAfterCensus := false, censusOpen := false,
                                    fwdUntil := s.mgr.handback.map (fun h => h.1 + 2) }
    (((s.ws [(Reg.MGR_PAIR_STATUS_STATE, 0, 1), (Reg.MGR_PAIR_STATUS_CLEAN, 0, 0)]).raise 318 0).denyHeld)

/-- A fence value of the other manager that lies above this one's own makes it step down. -/
def State.yieldTo (s : State) (v : Nat) : State := if s.mgr.fence < v then s.stepDown else s

end Sys2Proof.Machine
end

