-- ==== Sys2Proof/Machine/Secure.lean ====
section
/-! DEFINITION. Trust (R450–R464): signature blocks, the owner, the sealed store, attestation, provisioning, content keys. -/

namespace Sys2Proof.Machine

/-! ### Byte strings, draws, times (R451) -/

/-- The `n` bytes that words carry (R451). -/
def bytesOf (n : Nat) (ws : List Word) : List Byte := (packBytes ws).take n

/-- A byte string in words: 2 × ceil(n/9), the rest 0 (R451). -/
def wordsOf (l : List Byte) : List Word := unpackBytes (l ++ List.replicate (9 * cdiv l.length 9 - l.length) 0)

/-- A number of `n` bytes, most significant first. -/
def natBytes (n v : Nat) : List Byte := (List.range n).map (fun i => BitVec.ofNat 8 (v / 256 ^ (n - 1 - i)))

/-- The next draw of the SECURE generator (R451). -/
def State.draw (s : State) : Nat := Config.random s.sec.draws

/-- The generator moved on by `n` draws. -/
def State.drew (s : State) (n : Nat) : State := { s with sec := { s.sec with draws := s.sec.draws + n } }

/-- The seconds of TB3. -/
def State.second (s : State) : Nat := s.tb3.toNat / secUnits

/-- TB3's source is valid (R357). -/
def State.tb3Valid (s : State) : Bool := (s.baseFlags 3).1

/-- A second of NOT_AFTER or UNTIL has passed on a valid source; 0 never does (R452, R455, R463, R464). -/
def State.lapsed (s : State) (sec : Nat) : Bool := s.tb3Valid && sec ≠ 0 && sec < s.second % 2 ^ 36

/-! ### Certificates and signature blocks (R452–R454) -/

/-- The words of certificate `i` of a chain. -/
def certAt (certs : List Word) (i : Nat) : List Word := (certs.drop (47 * i)).take 47

/-- The certified key's 96 bytes, the roles, the generation, NOT_AFTER. -/
def certKey (c : List Word) : List Byte := bytesOf 96 ((c.drop 3).take 22)
def certRoles (c : List Word) : Nat := bits (nthW c 0) 31 20
def certGen (c : List Word) : Nat := bits (nthW c 1) 35 20
def certEnd (c : List Word) : Nat := (nthW c 2).toNat

/-- A certificate is well formed and signed by its parent's key (R452, R453). -/
def certSound (parent : List Byte) (c : List Word) : Bool :=
  bits (nthW c 0) 35 32 = 1 && certRoles c < 512
  && Config.ecdsaVerify parent (packBytes (c.take 25)) (bytesOf 96 (c.drop 25))

/-- A chain of certificates below a key that holds `roles`: sound, within its parent's roles, not lapsed, and good for the role. -/
def State.chainOk (s : State) (role : Option Nat) : List (List Word) → List Byte → Nat → Bool
  | [], _, _ => true
  | c :: t, parent, roles =>
    certSound parent c && (certRoles c &&& roles) = certRoles c && !s.lapsed (certEnd c)
    && (match role with
        | some r => (certRoles c).testBit r && s.r Reg.SECURE_FLOOR_GEN r ≤ certGen c
        | none => true)
    && s.chainOk role t (certKey c) (certRoles c)

/-- The certificates of a chain in order. -/
def certsOf (n : Nat) (certs : List Word) : List (List Word) := (List.range n).map (certAt certs)

/-- The hash of the current owner root (R450, R456): the written slot of highest number. -/
def State.ownerSlot (s : State) : Option Nat :=
  ((List.range s.sec.slots.length).filter (fun i => ((s.sec.slots[i]?).map (·.complete)).getD false)).getLast?

/-- The hash in an owner slot. -/
def State.slotHash (s : State) (i : Nat) : BitVec 384 := ((s.sec.slots[i]?).map (·.hash)).getD 0

/-- The owner slot before the current one, while its credentials still serve link sessions (R458). -/
def State.oldOwner (s : State) : Option Nat :=
  match s.ownerSlot with
  | some i => if s.sec.store.transferred
      then ((List.range i).filter (fun k => ((s.sec.slots[k]?).map (·.complete)).getD false)).getLast? else none
  | none => none

/-- A root key is one the device trusts for a signer: 1 an unrevoked vendor root, 2 the current owner (R450, R454). -/
def State.rootOk (s : State) (signer : Nat) (root : List Byte) : Bool :=
  let h := Config.sha384 root
  if signer = 1 then (List.range 4).any (fun i => !s.sec.revoked.testBit i && Config.vendorRoot i = h)
  else if signer = 2 then (match s.ownerSlot with | some i => s.slotHash i = h | none => false)
  else false

/-- The tag of a signature block (R454). -/
def blockTag : Word := 0x5C1B10C01

/-- How many words the signature block at the head of a list takes: 1 where there is none. -/
def sigLen (ws : List Word) : Nat := if nthW ws 0 = blockTag then 46 + 47 * bits (nthW ws 1) 31 28 else 1

def blockSigner (b : List Word) : Nat := bits (nthW b 1) 35 32
def blockCerts (b : List Word) : Nat := bits (nthW b 1) 31 28
def blockRoot (b : List Word) : List Byte := bytesOf 96 ((b.drop 2).take 22)
def blockChain (b : List Word) : List (List Word) := certsOf (blockCerts b) (b.drop 24)

/-- The key that signs a block: of its last certificate, or the root. -/
def lastKey (root : List Byte) (certs : List (List Word)) : List Byte := (certs.getLast?.map certKey).getD root

/-- A signature block verifies over the words it signs, for a role (R454). -/
def State.blockOk (s : State) (role : Option Nat) (signed b : List Word) : Bool :=
  let n := blockCerts b
  nthW b 0 = blockTag && n ≤ 2 && b.length = 46 + 47 * n
  && s.rootOk (blockSigner b) (blockRoot b) && s.chainOk role (blockChain b) (blockRoot b) 511
  && Config.ecdsaVerify (lastKey (blockRoot b) (blockChain b)) (packBytes (signed ++ b.take (24 + 47 * n)))
      (bytesOf 96 (b.drop (24 + 47 * n)))

/-- A block checked for a role: the verdict, and event 75 with the role's bit when it fails (R454). -/
def State.checkBlock (s : State) (role : Nat) (signed b : List Word) : Bool × State :=
  if s.blockOk (some role) signed b then (true, s) else (false, s.raiseFw 75 role)

/-! ### The sealed store (R455, R459, R462) -/

/-- The role that a credential is for: 1 MANAGER, 2 FLEET. -/
def Cred.role (c : Cred) : Nat := if c.mgr then 1 else 2

/-- The credentials of a kind, in their elements' order. -/
def SealedStore.ofKind (t : SealedStore) (mgr : Bool) : List Cred := t.creds.filter (fun (c : Cred) => c.mgr = mgr)

/-- The credential presented of a kind: the highest GEN that meets the floor (R462). -/
def SealedStore.presented (t : SealedStore) (mgr : Bool) : Option Cred :=
  ((t.ofKind mgr).filter (fun (c : Cred) => nth t.floors c.role ≤ c.gen)).foldl (fun (b : Option Cred) c =>
    match b with
    | some x => if x.gen < c.gen then some c else b
    | none => some c) none

/-- The register fields of a credential's element. -/
def credFields (t : SealedStore) (mgr : Bool) (i : Nat) : List (Fld × Nat × Nat) :=
  let e := (if mgr then 2 else 0) + i
  match (t.ofKind mgr)[i]? with
  | some c => [(Reg.SECURE_CRED_VALID, e, 1), (Reg.SECURE_CRED_PRESENTED, e, b2n (t.presented mgr = some c)),
      (Reg.SECURE_CRED_IS_LEGACY, e, b2n c.legacy), (Reg.SECURE_CRED_GEN, e, c.gen)]
  | none => [(Reg.SECURE_CRED_VALID, e, 0), (Reg.SECURE_CRED_PRESENTED, e, 0), (Reg.SECURE_CRED_IS_LEGACY, e, 0),
      (Reg.SECURE_CRED_GEN, e, 0)]

/-- The SECURE registers follow the store. -/
def State.showStore (s : State) : State :=
  let t := s.sec.store
  let key (i : Nat) : List (Fld × Nat × Nat) :=
    match t.keys[i]? with
    | some k => [(Reg.SECURE_KEY_W0_VALID, i, 1), (Reg.SECURE_KEY_W0_KEY_ID, i, k.keyId), (Reg.SECURE_KEY_W1_UNTIL, i, k.untilSec)]
    | none => [(Reg.SECURE_KEY_W0_VALID, i, 0), (Reg.SECURE_KEY_W0_KEY_ID, i, 0), (Reg.SECURE_KEY_W1_UNTIL, i, 0)]
  s.ws ([(Reg.SECURE_STATUS_COSIGN_REQ, 0, b2n t.cosign), (Reg.SECURE_STATUS_LEGACY, 0, b2n (t.creds.any (·.legacy))),
      (Reg.SECURE_STATUS_KEYS, 0, t.keys.length)]
    ++ credFields t false 0 ++ credFields t false 1 ++ credFields t true 0 ++ credFields t true 1
    ++ (List.range 9).map (fun i => (Reg.SECURE_FLOOR_GEN, i, nth t.floors i))
    ++ (List.range 64).flatMap key)

/-- The fields read from OTP (R450, R456, R473). -/
def State.showOtp (s : State) : State :=
  s.ws [(Reg.SECURE_STATUS_OWNER_SLOT, 0, match s.ownerSlot with | some i => i + 1 | none => 0),
    (Reg.SECURE_STATUS_SLOTS_USED, 0, s.sec.slots.length), (Reg.SECURE_STATUS_SVN_FLOOR, 0, s.sec.svnBits),
    (Reg.SECURE_STATUS_VREVOKED, 0, s.sec.revoked)]

/-- The store written: credentials below their floor are erased (R462). -/
def State.setStore (s : State) (t : SealedStore) : State :=
  let t := { t with seq := t.seq + 1, creds := t.creds.filter (fun (c : Cred) => nth t.floors c.role ≤ c.gen) }
  { s with sec := { s.sec with store := t } }.showStore

/-! ### Owner (R456–R458) -/

/-- The next owner slot is programmed and read back (R456): its number, whether it spoils (a free value, assumption log 76), event 66 when one
unwritten slot remains or none. -/
def State.programSlot (s : State) (key : List Byte) : Nat × Bool × State :=
  let n := s.sec.slots.length + 1
  let spoilt := s.free 456 % 2 = 1
  let s := { s.drawn with sec := { s.sec with slots := s.sec.slots ++ [(⟨Config.sha384 key, !spoilt⟩ : OwnerSlot)] } }.showOtp
  (n, spoilt, s.raiseIf (7 ≤ n) 66 0)

/-- CLAIM of a slot (R457): the sealed store is erased, the next slot programmed; FAULT when it spoils. -/
def State.claimSlot (s : State) (key : List Byte) : Ans × State :=
  let p := (s.setStore { SealedStore.empty with seq := s.sec.store.seq }).programSlot key
  if p.2.1 then (.fault p.1, p.2.2) else (.done p.1, p.2.2.raise 64 0)

/-- 0x201 CLAIM (R457). -/
def hClaim : Handler := fun c ps s =>
  let key := bytesOf 96 ps
  if c.src.via ≠ .spi || !c.src.seals.isEmpty || !s.rb Reg.MGMT_STRAPS_CLAIM then (.denied, s)
  else
    match s.ownerSlot with
    | some i =>
      if s.slotHash i = Config.sha384 key then (.done (i + 1), s)
      else if 8 ≤ s.sec.slots.length then (.resource, s)
      else s.claimSlot key
    | none => if 8 ≤ s.sec.slots.length then (.resource, s) else s.claimSlot key

/-- Every host session ends (R458, R468, R471). -/
def State.endSessions (s : State) : State :=
  { s with sec := { s.sec with hosts := List.replicate 16 HostSession.reset } }.ws
    ((List.range 16).flatMap (fun i => [(Reg.SECURE_SESSION_STATE, i, 0), (Reg.SECURE_SESSION_SID, i, 0), (Reg.SECURE_SESSION_IDLE, i, 0)]))

/-- 0x202 OWNER_TRANSFER (R458): the block is signed by the current owner root itself. -/
def hOwnerTransfer : Handler := fun _ ps s =>
  let b := ps.drop 22
  if !(blockSigner b = 2 && blockCerts b = 0 && s.blockOk none (ps.take 22) b) then (.denied, s.raiseFw 75 0)
  else if 8 ≤ s.sec.slots.length then (.resource, s)
  else
    let p := s.programSlot (bytesOf 96 (ps.take 22))
    let t := p.2.2.sec.store
    let t' : SealedStore := { t with
      keys := [], floors := SealedStore.empty.floors, cosign := false, transferred := true
      creds := t.creds.map (fun (c : Cred) => { c with legacy := true }) }
    if p.2.1 then (.fault p.1, p.2.2) else (.done p.1, (p.2.2.setStore t').endSessions.raise 65 0)

/-! ### Firmware image in flash (R472, R474) -/

/-- Where a firmware slot lies in flash (R536): A, B. -/
def slotBase (b : Bool) : Nat := if b then 0x600000 else 0x200000

/-- The parts of a firmware image: F0–F15, vendor block, co-signature (a word of 0 when absent), body. -/
structure FwImage where
  head : List Word
  vendor : List Word
  co : List Word
  body : List Word

/-- An image cut into its parts. -/
def fwParts (ws : List Word) : FwImage :=
  let a := ws.drop 16
  let n := sigLen a
  let b := a.drop n
  let m := sigLen b
  ⟨ws.take 16, a.take n, b.take m, (b.drop m).take (nthW ws 3).toNat⟩

def FwImage.svn (f : FwImage) : Nat := bits (nthW f.head 1) 31 25

/-- Why an image does not verify (R472, R475): 1 vendor block or form, 2 digest, 3 SVN, 4 co-signature. -/
def State.fwError (s : State) (f : FwImage) : Option Nat :=
  let absent := nthW f.co 0 = 0
  if nthW f.head 0 ≠ 0x6F1A3E001 || bits (nthW f.head 1) 35 32 ≠ 1 || blockSigner f.vendor ≠ 1
      || !s.blockOk (some 5) f.head f.vendor then some 1
  else if f.body.length ≠ (nthW f.head 3).toNat
      || hashBytes (Config.sha384 (packBytes f.body)) ≠ bytesOf 48 ((f.head.drop 4).take 12) then some 2
  else if f.svn < s.sec.svnBits || 64 < f.svn then some 3
  else if (absent && s.sec.store.cosign) || (!absent && !(blockSigner f.co = 2 && s.blockOk (some 5) (f.head ++ f.vendor) f.co))
    then some 4
  else none

/-- The image in a firmware slot: its header tells how many words it takes. -/
def State.slotImage (s : State) (b : Bool) : FwImage :=
  let h := flashWords s.flash (slotBase b) 16
  let n := if nthW h 0 = 0x6F1A3E001 then min (nthW h 3).toNat 932067 else 0
  fwParts (flashWords s.flash (slotBase b) (16 + 2 * 140 + n))

/-- A slot holds the tag of an image; else its content is not read further. -/
def State.slotTagged (s : State) (b : Bool) : Bool := nthW (flashWords s.flash (slotBase b) 2) 0 = 0x6F1A3E001

/-- A firmware slot verifies (R472). -/
def State.slotOk (s : State) (b : Bool) : Bool := s.slotTagged b && (s.fwError (s.slotImage b)).isNone

/-- SVN of a slot as MGMT_FW shows it: 127 = invalid. -/
def State.slotSvn (s : State) (b : Bool) : Nat := if s.slotOk b then (s.slotImage b).svn else 127

/-! ### Attestation (R460) -/

/-- The report A0–A62. -/
def State.attestReport (s : State) (nonce : List Word) (eph : List Word) : List Word :=
  let slot := s.rb Reg.MGMT_FW_0150_ACTIVE
  let owner := match s.ownerSlot with
    | some i => wordsOf (hashBytes (s.slotHash i))
    | none => List.replicate 12 0
  let tagged := s.slotTagged slot
  let img := s.slotImage slot
  let gen := (s.sec.store.presented false).map (·.gen)
  [pack [(32, 1), (30, s.role), (27, s.stageCode), (25, s.r Reg.SECURE_STATUS_DEBUG), (24, b2n (tagged && nthW img.co 0 ≠ 0)),
      (20, match s.ownerSlot with | some i => i + 1 | none => 0), (13, if tagged then img.svn else 0), (12, b2n slot),
      (11, b2n (s.sec.store.creds.any (·.legacy)))]]
  ++ nonce ++ (if tagged then (img.head.drop 4).take 12 else List.replicate 12 0) ++ owner
  ++ [word s.bake.stamp.1, word s.bake.stamp.2.1, word (s.r Reg.MGMT_BAKE_EPOCH_EPOCH), pack [(20, gen.getD 0)]]
  ++ eph

/-- The attestation chain: root key, certificate. -/
def attestWords : List Word := (List.range 69).map Config.attestChain

/-- A signature of a key of the device over words. -/
def State.sign (s : State) (key : Nat) (ws : List Word) : List Word := wordsOf (Config.ecdsaSign key (packBytes ws) s.draw)

/-- A block that the device signs: signer, chain words (root key first), key. -/
def State.makeBlock (s : State) (signer : Nat) (chain : List Word) (key : Nat) (signed : List Word) : List Word :=
  let b := [blockTag, pack [(32, signer), (28, (chain.length - 22) / 47)]] ++ chain
  b ++ s.sign key (signed ++ b)

/-- 0x205 ATTEST. -/
def hAttest : Handler := fun _ ps s =>
  let eph := bit (nthW ps 12) 0
  let key := s.draw
  let s := s.drew 1
  let rep := s.attestReport (ps.take 12) (if eph then wordsOf (Config.ecPublic key) else List.replicate 22 0)
  let locked := s.r Reg.SECURE_STATUS_DEBUG = 0 && !s.sec.pathsOff
  let block := if locked then s.makeBlock 1 attestWords Config.attestKey rep else [0]
  let s := (if locked then s.drew 1 else s)
  (.reply (rep ++ block), { s with sec := { s.sec with eph := if eph then some ⟨key, rep, s.now⟩ else none } })

/-- The ephemeral key is gone. -/
def State.dropEph (s : State) : State := { s with sec := { s.sec with eph := none } }

/-- The ephemeral key of the last report, within its 60 s (R460). -/
def State.ephHeld (s : State) : Option Ephemeral := s.sec.eph.filter (fun (e : Ephemeral) => decide (s.now < e.at_ + cyclesS 60))

/-- EPHEMERAL_KEY_EXPIRY (R460): 60 s after the report. -/
def execEphemeralKeyExpiry (s : State) : Host.Outcome State Fault Refusal :=
  match s.sec.eph with
  | none => .next (s.pass 0)
  | some e => .next (s.gotoNow (e.at_ + cyclesS 60)).dropEph

/-! ### Provisioning (R461, R462) -/

/-- The letters of a label. -/
def ascii (l : List Nat) : List Byte := l.map (BitVec.ofNat 8)
/-- "KQ-PROV" and "KQ-KEYS". -/
def labelProv : List Byte := ascii [0x4B, 0x51, 0x2D, 0x50, 0x52, 0x4F, 0x56]
def labelKeys : List Byte := ascii [0x4B, 0x51, 0x2D, 0x4B, 0x45, 0x59, 0x53]

/-- An AES key derived by HMAC-SHA-384: its first 32 bytes. -/
def derive (z msg : List Byte) : List Byte := (hashBytes (Config.hmac384 z msg)).take 32

/-- A credential installed (R461): of two of its kind, the one with the lower GEN is replaced; a legacy one is erased. -/
def installCred (l : List Cred) (c : Cred) : List Cred :=
  let other := l.filter (fun (x : Cred) => x.mgr ≠ c.mgr)
  let same := l.filter (fun (x : Cred) => x.mgr = c.mgr && !x.legacy)
  let kept := match same with
    | [a, b] => if a.gen ≤ b.gen then [c, b] else [a, c]
    | _ => same ++ [c]
  other ++ kept

/-- What PROVISION's parameters unwrap to, when every check passes. -/
def State.provisioned (s : State) (e : Ephemeral) (ps : List Word) : Option Cred :=
  let mgr := bit (nthW ps 0) 34
  let chain := ps.drop 42
  let n := bits (nthW ps 0) 33 32
  let root := bytesOf 96 (chain.take 22)
  let certs := certsOf n (chain.drop 22)
  let role := if mgr then 1 else 2
  let z := Config.ecdh e.key (bytesOf 96 ((ps.drop 1).take 22))
  let k := derive z (labelProv ++ hashBytes (Config.sha384 (packBytes e.report)))
  match Config.gcmOpen k (be32 ((ps.drop 23).take 3)) (packBytes (nthW ps 0 :: chain)) (bytesOf 48 ((ps.drop 26).take 12))
      (be32 ((ps.drop 38).take 4)) with
  | none => none
  | some p =>
    let key := bytesBE p
    let last := certs.getLast?.getD []
    if s.rootOk 2 root && s.chainOk (some role) certs root 511 && Config.ecPublic key = certKey last then
      some ⟨mgr, certGen last, certEnd last, false, key, chain⟩
    else none

/-- 0x208 PROVISION. -/
def hProvision : Handler := fun _ ps s =>
  let n := bits (nthW ps 0) 33 32
  let kind := bits (nthW ps 0) 35 34
  if 1 < kind || n = 0 || n = 3 || ps.length ≠ 64 + 47 * n then (.badParam, s)
  else if kind = 1 && !s.isMgr then (.resource, s)
  else
    match s.ephHeld with
    | none => (.denied 1, s)
    | some e =>
      let s1 := s.dropEph
      match s.provisioned e ps with
      | none => (.denied 2, s1.raise 68 0)
      | some c =>
        let t := s1.sec.store
        (.done c.gen, (s1.setStore { t with creds := installCred t.creds c }).raise 67 0)

/-! ### Content keys (R463, R464) -/

/-- The fleet credential that serves more than link sessions (R458). -/
def State.fleetKey (s : State) : Option Cred := (s.sec.store.presented false).filter (fun (c : Cred) => !c.legacy)

/-- An entry of an unwrapped bundle. -/
def bundleEntry (ws : List Word) (i : Nat) : ContentKey :=
  let e := (ws.drop (10 * i)).take 10
  ⟨bits (nthW e 0) 35 24, (nthW e 1).toNat, bytesOf 32 (e.drop 2)⟩

/-- Keys loaded one after another: a held key of the same KEY_ID is replaced. -/
def loadKeys (l : List ContentKey) (new : List ContentKey) : List ContentKey :=
  new.foldl (fun (a : List ContentKey) k =>
    if a.any (fun (x : ContentKey) => x.keyId = k.keyId) then a.map (fun (x : ContentKey) => if x.keyId = k.keyId then k else x)
    else a ++ [k]) l

/-- 0x206 KEY_LOAD. -/
def hKeyLoad : Handler := fun _ ps s =>
  let n := bits (nthW ps 1) 35 32
  let m := 31 + 10 * n
  let b := ps.drop m
  if nthW ps 0 ≠ 0x4E7B0D001 || n = 0 || ps.length < m + 1 then (.badParam, s)
  else
    let v := s.checkBlock 6 (ps.take m) b
    let s := v.2
    if !v.1 then (.denied, s)
    else
      let e := (ps.drop 2).take 22
      match s.fleetKey with
      | none => (.denied, s)
      | some c =>
        let k := derive (Config.ecdh c.key (bytesOf 96 e)) (labelKeys ++ hashBytes (Config.sha384 (bytesOf 96 e)))
        match Config.gcmOpen k (be32 ((ps.drop 24).take 3)) (packBytes (ps.take 24)) (packBytes ((ps.drop 27).take (10 * n)))
            (be32 ((ps.drop (27 + 10 * n)).take 4)) with
        | none => (.denied, s)
        | some p =>
          let new := (List.range n).map (bundleEntry (unpackBytes p))
          let all := loadKeys s.sec.store.keys new
          if new.any (fun (x : ContentKey) => x.keyId = 0) then (.badParam, s)
          else if 64 < all.length then (.resource, s)
          else (.done all.length, (s.setStore { s.sec.store with keys := all }).raise 76 0)

/-- A key leaves the store. -/
def State.dropKey (s : State) (id : Nat) : State :=
  if s.sec.store.keys.any (fun (k : ContentKey) => k.keyId = id) then
    s.setStore { s.sec.store with keys := s.sec.store.keys.filter (fun (k : ContentKey) => k.keyId ≠ id) }
  else s

/-- 0x207 KEY_DROP. -/
def hKeyDrop : Handler := fun _ ps s => (.done, s.dropKey (bits (nthW ps 0) 11 0))

/-- KEY_UNTIL_EXPIRY (R464): the second after UNTIL begins; on a valid source the key is erased. -/
def execKeyUntilExpiry (entry : Nat) (s : State) : Host.Outcome State Fault Refusal :=
  match s.sec.store.keys[entry]? with
  | none => .next (s.pass 0)
  | some k =>
    if k.untilSec = 0 then .next (s.pass 0)
    else
      let s := s.goto (((k.untilSec + 1) * secUnits : Nat) : Int)
      .next (if s.lapsed k.untilSec then (s.dropKey k.keyId).raise 77 0 else s)

/-- CLAIM_N_CHANGE (R13, R14, R464): CLAIM is the live level of the pin; content keys leave the decryption path while it is 1 and
return when it is 0. -/
def execClaimNChange (low : Bool) (s : State) : Host.Outcome State Fault Refusal :=
  let s := s.pass 0
  let s := { s with pins := { s.pins with claim := low } }
  .next (if s.start.powered then s.w Reg.MGMT_STRAPS_CLAIM (b2n low) else s)

/-! ### Floors, policy, daily checks (R455, R458, R472) -/

/-- 0x20A FLOOR_SET. -/
def hFloorSet : Handler := fun _ ps s =>
  let role := bits (nthW ps 0) 3 0
  let gen := bits (nthW ps 1) 35 20
  if 8 < role then (.badParam, s)
  else
    let v := s.checkBlock 8 (ps.take 2) (ps.drop 2)
    if !v.1 then (.denied, v.2)
    else if nth v.2.sec.store.floors role < gen then
      (.done, (v.2.setStore { v.2.sec.store with floors := setNth v.2.sec.store.floors role gen }).raise 80 0)
    else (.done, v.2)

/-- 0x20C POLICY_SET. -/
def hPolicySet : Handler := fun _ ps s =>
  let v := s.checkBlock 5 (ps.take 1) (ps.drop 1)
  if !v.1 then (.denied, v.2) else (.done, v.2.setStore { v.2.sec.store with cosign := bit (nthW ps 0) 0 })

/-- CRED_EXPIRY_CHECK: once a day; 30 days are 2,592,000 s. -/
def execCredExpiryCheck (s : State) : Host.Outcome State Fault Refusal :=
  let s := s.pass 0
  let near := s.tb3Valid && s.sec.store.creds.any (fun (c : Cred) => c.notAfter ≠ 0 && c.notAfter < s.second % 2 ^ 36 + 2592000)
  let old := [false, true].any (fun m => ((s.sec.store.presented m).map (·.legacy)).getD false)
  .next ((s.raiseIf near 81 0).raiseIf old 82 0)

/-! ### Debug (R471) -/

/-- The blocks of DEBUG_UNLOCK verify over the report. -/
def State.debugOk (s : State) (level : Nat) (rep bs : List Word) : Bool :=
  let n := sigLen bs
  let a := bs.take n
  let b := bs.drop n
  if level = 0 then b.isEmpty && s.blockOk (some 7) rep a
  else
    let vendor := blockSigner a = 1 && s.blockOk (some 7) rep a
    if s.ownerSlot.isSome then vendor && blockSigner b = 2 && s.blockOk (some 7) rep b else vendor && b.isEmpty

/-- 0x209 DEBUG_UNLOCK: zeroised first. -/
def hDebugUnlock : Handler := fun _ ps s =>
  let level := bits (nthW ps 0) 0 0
  match s.ephHeld with
  | none => (.denied, s.raiseFw 75 7)
  | some e =>
    if !s.debugOk level e.report (ps.drop 1) then (.denied, s.raiseFw 75 7)
    else
      let s := { s with
        cmd := { s.cmd with dark := true, darkNext := none }
        sec := { s.sec with eph := none, pathsOff := true, links := List.replicate 4 { LinkSession.reset with since := s.now } }
        fire := { s.fire with frames := s.fire.frames.map (fun (f : FireFrame) => { f with rays := [] }) }
        dec := { s.dec with
          pics := s.dec.pics.map (fun (p : Pic) => { p with samples := [] })
          prog := s.dec.prog.map (fun (g : Option Prog) => g.map (fun (x : Prog) => { x with samples := [] })) }
        dram := [] }
      let s := (s.setStore { SealedStore.empty with seq := s.sec.store.seq }).endSessions
      let s := s.ws ((Reg.SECURE_STATUS_DEBUG, 0, level + 1) :: (List.range 4).flatMap (fun p =>
        [(Reg.SECURE_LINK_STATE, p, 0), (Reg.SECURE_LINK_FAR_ROLE, p, 0), (Reg.SECURE_LINK_FAR_GEN, p, 0)]))
      (.done, (s.driveBlank.driveAux.raise 79 0).raise 78 0)

end Sys2Proof.Machine
end

