-- ==== Sys2Proof/Machine/Session.lean ====
section
/-! DEFINITION. Link sessions (R465–R467), host sessions (R468), firmware update (R473–R476). -/

namespace Sys2Proof.Machine

/-! ### Link sessions (R465–R467) -/

/-- The link session of a port, and the port with it replaced. -/
def State.link_ (s : State) (p : Nat) : LinkSession := s.sec.links.getD p LinkSession.reset
def State.setLink (s : State) (p : Nat) (l : LinkSession) : State :=
  { s with sec := { s.sec with links := setNth s.sec.links p l } }

/-- A link-session message in a TIME packet (R296, R467). -/
def State.sendSession (s : State) (p msg : Nat) (payload : List Word) : State :=
  if s.portUp p then s.originate p 2 0 (pack [(32, msg)] :: payload) else s

/-- A nonce as 12 words. -/
def nonceWords (n : Nat) : List Word := wordsOf (natBytes 48 n)

/-- C6 of the far end as its CTRL superblocks last gave it, and its ROLE. -/
def State.farC6 (s : State) (p : Nat) : Word := nthW (s.port p).far 0
def State.farMgr (s : State) (p : Nat) : Bool := bits (s.farC6 p) 35 34 ≠ 0

/-- The credential presented on a port (R462, R465): MANAGER between managers where one is held, else FLEET. -/
def State.presentOn (s : State) (p : Nat) : Option Cred :=
  if s.isMgr && s.farMgr p then (s.sec.store.presented true).orElse (fun _ => s.sec.store.presented false)
  else s.sec.store.presented false

/-- L_PROOF, or L_NOCRED without a credential (R467). -/
def State.sendProof (s : State) (p : Nat) : State :=
  let l := s.link_ p
  match s.presentOn p with
  | none => s.sendSession p 10 []
  | some c =>
    let sig := s.sign c.key (nonceWords l.own ++ nonceWords (l.far.getD 0) ++ [nthW (s.ctrlWords p) 6])
    (s.drew 1).sendSession p 9 (c.chain ++ sig)

/-- SECURE runs link sessions from the end of the bisque image's verification (R465). -/
def State.linksRun (s : State) : Bool := s.stage ≠ 0

/-- A run of a port's session begins: a fresh nonce in L_HELLO; a port that is not PENDING counts its time anew (R465). -/
def State.sessionRun (s : State) (p : Nat) : State :=
  let l := s.link_ p
  let own := s.draw % 2 ^ 384
  let pending := s.r Reg.SECURE_LINK_STATE p = 0
  let s := (s.drew 1).setLink p ⟨true, own, if l.begun then none else l.far, if pending then l.since else s.now⟩
  let s := s.sendSession p 8 (nonceWords own)
  if !l.begun && l.far.isSome then s.sendProof p else s

/-- A port comes UP: PENDING, and its session runs once SECURE may (R465). -/
def State.sessionUp (s : State) (p : Nat) : State :=
  let s := (s.setLink p { LinkSession.reset with since := s.now }).ws
    [(Reg.SECURE_LINK_STATE, p, 0), (Reg.SECURE_LINK_FAR_ROLE, p, 0), (Reg.SECURE_LINK_FAR_GEN, p, 0)]
  if s.linksRun then s.sessionRun p else s

/-- L_HELLO arrives: on a port whose own hello has been answered already the session runs anew. -/
def State.sessionHello (s : State) (p : Nat) (ws : List Word) : State :=
  let n := bytesBE (bytesOf 48 ws)
  if !s.portUp p then s
  else if !s.linksRun then s.setLink p { s.link_ p with far := some n }
  else
    let l := s.link_ p
    let s := if !l.begun || l.far.isSome then (s.setLink p { l with begun := true }).sessionRun p else s
    (s.setLink p { s.link_ p with far := some n }).sendProof p

/-- A port is REFUSED (R465). -/
def State.refusePort (s : State) (p : Nat) : State :=
  ((s.ws [(Reg.SECURE_LINK_STATE, p, 3), (Reg.SECURE_LINK_FAR_ROLE, p, 0), (Reg.SECURE_LINK_FAR_GEN, p, 0)]).count
    Reg.SECURE_LINK_REFUSALS p).raise 70 p

/-- The root of a link-session proof: the current owner, or the owner before while its credentials serve (R458). -/
def State.linkRoot (s : State) (root : List Byte) : Bool :=
  s.rootOk 2 root || (match s.oldOwner with | some i => s.slotHash i = Config.sha384 root | none => false)

/-- What a proof proves: the role number accepted and the generation (R465, R467). -/
def State.proofOf (s : State) (p : Nat) (ws : List Word) : Option (Nat × Nat) :=
  let l := s.link_ p
  let n := (ws.length - 44) / 47
  let root := bytesOf 96 (ws.take 22)
  let certs := certsOf n (ws.drop 22)
  let last := certs.getLast?.getD []
  let roles := if s.isMgr && s.farMgr p then [1, 2] else [2]
  match l.far with
  | none => none
  | some far =>
    if ws.length = 44 + 47 * n && 1 ≤ n && n ≤ 2 && s.linkRoot root
        && Config.ecdsaVerify (lastKey root certs)
          (packBytes (nonceWords far ++ nonceWords l.own ++ [s.farC6 p])) (bytesOf 96 (ws.drop (22 + 47 * n))) then
      (roles.find? (fun r => s.chainOk (some r) certs root 511)).map (fun r => (r, certGen last))
    else none

/-- L_PROOF arrives; one that does not verify raises event 75 by hardware (R544). -/
def State.sessionProof (s : State) (p : Nat) (ws : List Word) : State :=
  if !s.portUp p || !(s.link_ p).begun then s
  else
    match s.proofOf p ws with
    | none => (s.raise 75 (if s.isMgr && s.farMgr p then 1 else 2)).refusePort p
    | some v =>
      (s.ws [(Reg.SECURE_LINK_STATE, p, 1), (Reg.SECURE_LINK_FAR_ROLE, p, if v.1 = 1 then 2 else 1),
        (Reg.SECURE_LINK_FAR_GEN, p, v.2)]).raise 69 p

/-- L_NOCRED arrives. -/
def State.sessionNocred (s : State) (p : Nat) : State :=
  if !s.portUp p || !(s.link_ p).begun then s
  else (s.ws [(Reg.SECURE_LINK_STATE, p, 2), (Reg.SECURE_LINK_FAR_ROLE, p, 0), (Reg.SECURE_LINK_FAR_GEN, p, 0)]).raise 71 p

/-- L_HELLO_RECEIVE: the twelve words of a nonce. -/
def execLHelloReceive (port : Nat) (words : List Word) (s : State) : Host.Outcome State Fault Refusal :=
  .next ((s.pass 0).sessionHello (port % 4) words)

/-- L_PROOF_RECEIVE: the chain and the signature. -/
def execLProofReceive (port : Nat) (words : List Word) (s : State) : Host.Outcome State Fault Refusal :=
  .next ((s.pass 0).sessionProof (port % 4) words)

/-- L_NOCRED_RECEIVE. -/
def execLNocredReceive (port : Nat) (s : State) : Host.Outcome State Fault Refusal := .next ((s.pass 0).sessionNocred (port % 4))

/-- SESSION_GRACE_EXPIRY (R465). -/
def execSessionGraceExpiry (port : Nat) (s : State) : Host.Outcome State Fault Refusal :=
  let p := port % 4
  if !s.portUp p || s.r Reg.SECURE_LINK_STATE p ≠ 0 then .next (s.pass 0)
  else
    let s := s.gotoNow ((s.link_ p).since + 100000 * s.r Reg.SECURE_CTRL_SESSION_GRACE)
    .next (s.refusePort p)

/-- REKEY_EXPIRY (R465). -/
def execRekeyExpiry (port : Nat) (s : State) : Host.Outcome State Fault Refusal :=
  let p := port % 4
  if !s.portUp p || !(s.link_ p).begun then .next (s.pass 0)
  else .next ((s.gotoNow ((s.link_ p).since + cyclesS (60 * s.r Reg.SECURE_CTRL_REKEY))).sessionRun p)

/-! ### Host sessions (R468) -/

/-- Entry `i` of the host sessions, and it replaced. -/
def State.hostSession (s : State) (i : Nat) : HostSession := s.sec.hosts.getD i HostSession.reset
def State.setHost (s : State) (i : Nat) (h : HostSession) : State :=
  { s with sec := { s.sec with hosts := setNth s.sec.hosts i h } }

/-- IDLE of every session as it stands. -/
def State.showIdle (s : State) : State :=
  s.ws ((List.range 16).map (fun i =>
    (Reg.SECURE_SESSION_IDLE, i, if s.r Reg.SECURE_SESSION_STATE i = 0 then 0
      else satN 262143 ((s.now - (s.hostSession i).lastUse) / cyclesS 1))))

/-- A session is used. -/
def State.useSession (s : State) (i : Nat) : State := (s.setHost i { s.hostSession i with lastUse := s.now }).showIdle

/-- A session ends. -/
def State.endSession (s : State) (i : Nat) : State :=
  (s.setHost i HostSession.reset).ws
    [(Reg.SECURE_SESSION_STATE, i, 0), (Reg.SECURE_SESSION_SID, i, 0), (Reg.SECURE_SESSION_IDLE, i, 0)]

/-- The entry that a hello takes: a free one, else the one idle longest. -/
def State.sessionSlot (s : State) : Nat :=
  match (List.range 16).find? (fun i => s.r Reg.SECURE_SESSION_STATE i = 0) with
  | some i => i
  | none => (List.range 16).foldl (fun b i => if (s.hostSession i).lastUse < (s.hostSession b).lastUse then i else b) 0

/-- A SID not in use: the spec does not say how one is chosen, so that it is a free value made distinct (assumption log 1). -/
def State.newSid (s : State) (k : Nat) : Nat :=
  ((List.range 17).map (fun i => (s.free k + i) % 65536)).find? (fun n => (s.sessionOf n).isNone) |>.getD 0

/-- 0x203 SESSION_HELLO: the key of the credential signs where one is held, else no block stands. -/
def hSessionHello : Handler := fun _ ps s =>
  let i := s.sessionSlot
  let s := s.endSession i
  let sid := s.newSid 203
  let key := s.draw
  let s := (s.drawn).drew 1
  let qd := wordsOf (Config.ecPublic key)
  let signed := pack [(20, sid)] :: ps.take 22 ++ qd
  let cred := (s.sec.store.presented s.isMgr).filter (fun (c : Cred) => !c.legacy)
  let block := match cred with
    | some c => s.makeBlock 2 c.chain c.key signed
    | none => [0]
  let s := if cred.isSome then s.drew 1 else s
  let s := s.setHost i ⟨true, ps.take 22, qd, key, 0, 0, s.now, s.now⟩
  (.reply (pack [(20, sid)] :: qd ++ block), (s.ws [(Reg.SECURE_SESSION_STATE, i, 1), (Reg.SECURE_SESSION_SID, i, sid)]).showIdle)

/-- 0x204 SESSION_AUTH. -/
def hSessionAuth : Handler := fun _ ps s =>
  let sid := bits (nthW ps 0) 35 20
  match s.sessionOf sid with
  | none => (.noSession, s)
  | some i =>
    let h := s.hostSession i
    let b := ps.drop 1
    let signed := sessionWords sid h
    let role := if (blockChain b).all (fun c => (certRoles c).testBit 3) then 3 else 4
    let s := s.useSession i
    if s.blockOk (some role) signed b then
      (.done role, (s.w Reg.SECURE_SESSION_STATE (role - 1) i).raise 72 0)
    else (.denied, (s.raiseFw 75 role).raise 73 0)

/-- 0x20B SESSION_CLOSE. -/
def hSessionClose : Handler := fun _ ps s =>
  match s.sessionOf (bits (nthW ps 0) 35 20) with
  | none => (.noSession, s)
  | some i => (.done, s.endSession i)

/-- HOST_SESSION_EXPIRY: idle for SESSION_IDLE, or 24 h old. -/
def execHostSessionExpiry (entry : Nat) (s : State) : Host.Outcome State Fault Refusal :=
  let i := entry % 16
  if s.r Reg.SECURE_SESSION_STATE i = 0 then .next (s.pass 0)
  else
    let h := s.hostSession i
    .next ((s.gotoNow (min (h.lastUse + cyclesS (s.r Reg.SECURE_CTRL_SESSION_IDLE)) (h.opened + cyclesS 86400))).endSession i)

/-! ### Firmware update (R473–R476) -/

/-- MGMT_FW's slot fields follow the flash and the boot record. -/
def State.showFw (s : State) : State :=
  s.ws [(Reg.MGMT_FW_0150_SVN_A, 0, s.slotSvn false), (Reg.MGMT_FW_0150_SVN_B, 0, s.slotSvn true)]

/-- The boot record written (R474). -/
def State.setBoot (s : State) (b : BootRecord) : State := { s with sec := { s.sec with boot := { b with seq := s.sec.boot.seq + 1 } } }

/-- 0x111 UPDATE_STAGE. -/
def hUpdateStage : Handler := fun c ps s =>
  let sector := bits (nthW ps 0) 27 0
  let n := bits (nthW ps 1) 27 0
  if 4194304 < 9 * cdiv n 2 || !s.imageOk sector n then (.badParam, s)
  else if s.sec.boot.trial || s.sec.staging.isSome then (.busy, s)
  else (.accepted, { s with sec := { s.sec with staging := some (sector, n, c.req) } }.w Reg.MGMT_FW_0150_STAGING 1)

/-- Staging ends. -/
def State.staged (s : State) (q : Req) (a : Ans) : State :=
  ({ s with sec := { s.sec with staging := none } }.w Reg.MGMT_FW_0150_STAGING 0).complete q a

/-- What keeps an image from verifying is one of its signature blocks (R470). -/
def State.fwSigFails (s : State) (f : FwImage) (e : Nat) : Bool :=
  (e = 1 && nthW f.vendor 0 = blockTag && !s.blockOk (some 5) f.head f.vendor) || (e = 4 && nthW f.co 0 ≠ 0)

/-- UPDATE_STAGE_DONE: verification, programming and read-back; `fail` is the offset at which the flash failed. -/
def execUpdateStageDone (fail : Option Nat) (s : State) : Host.Outcome State Fault Refusal :=
  let s := s.pass 0
  match s.sec.staging with
  | none => .next s
  | some (sector, n, q) =>
    match s.readWords 8 (7 * sector) n with
    | (.bad k, s) => .next (s.staged q (.fault k))
    | (.ok ws, s) =>
      let f := fwParts ws
      match s.fwError f with
      | some e => .next (((if s.fwSigFails f e then s.raiseFw 75 5 else s).raise 49 0).staged q (.denied e))
      | none =>
        let slot := !s.sec.boot.active
        let erased := flashErase s.flash (slotBase slot) 0x400000
        match fail with
        | some o => .next (({ s with flash := erased }.showFw).staged q (.fault o))
        | none =>
          let s := { s with flash := flashWrite erased (slotBase slot) (packBytes ws) }.showFw
          .next ((s.raise 48 0).staged q (.done f.svn))

/-- A tick lies at least one period ahead (R476, R511, R513). -/
def State.periodAhead (s : State) (n : Nat) : Bool := s.nextTick ≤ n && s.tb3 + s.period ≤ s.sched n

/-- 0x112 UPDATE_ACTIVATE. -/
def hUpdateActivate : Handler := fun _ ps s =>
  let slot := !s.sec.boot.active
  let reset := bit (nthW ps 0) 12
  let f := join48 (nthW ps 0) (nthW ps 1)
  if s.sec.boot.trial then (.busy, s)
  else if !s.slotOk slot then (.denied, s)
  else if reset && !s.periodAhead f then (.late, s)
  else
    let s := s.setBoot { s.sec.boot with active := slot, trial := true, tries := 0 }
    (.done, if reset then { s with start := { s.start with soft := some (0x3FFF, f) } } else s)

/-- The trial is committed (R476): anti-rollback bits up to the image's SVN. -/
def State.commitTrial (s : State) : State :=
  if !s.sec.boot.trial then s
  else
    let svn := (s.slotImage s.sec.boot.active).svn
    let up := s.sec.svnBits < svn && svn ≤ 64
    let s := s.setBoot { s.sec.boot with trial := false }
    let s := if up then { s with sec := { s.sec with svnBits := svn } } else s
    (((s.w Reg.MGMT_FW_0150_TRIAL 0).showOtp).raise 51 0).raiseIf up 53 0

/-- 0x113 UPDATE_COMMIT. A trial that waits for its reset runs in no slot yet, and nothing is committed. -/
def hUpdateCommit : Handler := fun _ _ s => (.done, if s.rb Reg.MGMT_FW_0150_TRIAL then s.commitTrial else s)

/-- COMMIT_HOURS_EXPIRY: glost time in TRIAL reaches COMMIT_HOURS. -/
def execCommitHoursExpiry (s : State) : Host.Outcome State Fault Refusal :=
  let h := s.r Reg.MGMT_FW_0151_COMMIT_HOURS
  if h = 0 || !s.rb Reg.MGMT_FW_0150_TRIAL || s.stage ≠ 2 then .next (s.pass 0)
  else .next (s.pass (cyclesS (3600 * h) - s.sec.trialGlost)).commitTrial

/-! ### What is due (R460, R464, R465, R468, R476) -/

/-- What the rows of this chapter do at their instants, where they have passed: ephemeral key, content keys, sessions, trial. -/
def State.secureDue (s : State) : State :=
  let s := if s.sec.eph.isSome && s.ephHeld.isNone then s.dropEph else s
  let s := s.sec.store.keys.foldl (fun (x : State) k => if x.lapsed k.untilSec then (x.dropKey k.keyId).raise 77 0 else x) s
  let s := (List.range 16).foldl (fun (x : State) i =>
    let h := x.hostSession i
    if x.r Reg.SECURE_SESSION_STATE i ≠ 0 && (h.lastUse + cyclesS (x.r Reg.SECURE_CTRL_SESSION_IDLE) ≤ x.now || h.opened + cyclesS 86400 ≤ x.now)
    then x.endSession i else x) s
  let s := (List.range 4).foldl (fun (x : State) p =>
    let since := (x.link_ p).since
    if !x.portUp p then x
    else if x.r Reg.SECURE_LINK_STATE p = 0 then
      if since + 100000 * x.r Reg.SECURE_CTRL_SESSION_GRACE < x.now then x.refusePort p else x
    else if (x.link_ p).begun && since + cyclesS (60 * x.r Reg.SECURE_CTRL_REKEY) < x.now then x.sessionRun p
    else x) s
  let h := s.r Reg.MGMT_FW_0151_COMMIT_HOURS
  if h ≠ 0 && s.rb Reg.MGMT_FW_0150_TRIAL && s.stage = 2 && cyclesS (3600 * h) ≤ s.sec.trialGlost then s.commitTrial else s

end Sys2Proof.Machine
end

