-- ==== Sys2Proof/Machine/Reset.lean ====
section
/-! DEFINITION. Resets (R509–R512, R519, R520, R526, R527): what each keeps, the device's own resets, the rails, link resets. -/

namespace Sys2Proof.Machine

/-! ### What a reset keeps (R519, R520) -/

/-- Field elements that keep their values. -/
def keepFields (old new : RegFile) (l : List (Fld × Nat)) : RegFile := l.foldl (fun r p => rset r p.1 p.2 (rget old p.1 p.2)) new

/-- The fields of port `p` that stay while its neighbour sees no port go down (R520). -/
def portFields (p : Nat) : List (Fld × Nat) :=
  [(Reg.LINK_PORT_W1_STATE, p), (Reg.LINK_PORT_W1_FAR, p), (Reg.LINK_PORT_W1_FAR_PORT, p), (Reg.LINK_PORT_W1_FAR_PLACED, p),
   (Reg.LINK_PORT_W1_FAR_X, p), (Reg.LINK_PORT_W1_FAR_Y, p), (Reg.LINK_PORT_W1_FAR_SECT, p), (Reg.SECURE_LINK_STATE, p),
   (Reg.SECURE_LINK_FAR_ROLE, p), (Reg.SECURE_LINK_FAR_GEN, p), (Reg.LINK_LANE_W1_STATE, 2 * p), (Reg.LINK_LANE_W1_STATE, 2 * p + 1)]

/-- What an MP watchdog or a full soft reset leaves running (R520): ports, tile lanes, their loop, their domains. -/
def meshFields : List (Fld × Nat) :=
  (List.range 4).flatMap portFields ++ [(Reg.CLOCK_SYN_W0_LOCKED, 1)]
  ++ (List.range' 11 9).map (fun d => (Reg.HEARTH_DOMAIN_STATE, d))

/-- Causes that lose class W (R519): power-on, RST_N, die-class shutdown, cold standby. -/
def losesW (cause : Nat) : Bool := cause = 0 || cause = 1 || cause = 5 || cause = 6

/-- Causes after which the tile ports run on (R520): MP watchdog, full soft reset. -/
def keepsPorts (cause : Nat) : Bool := cause = 2 || cause = 4

/-- The sampled straps, held until the next sampling (R13, R520). -/
def strapFields : List (Fld × Nat) := [(Reg.MGMT_STRAPS_ROLE, 0), (Reg.MGMT_STRAPS_BOARD_TYPE, 0)]

/-- The register file after a reset of the device. -/
def resetRegs (cause : Nat) (r : RegFile) : RegFile :=
  let classes := [Keep.S, Keep.V, Keep.N] ++ (if losesW cause then [Keep.W] else [])
  keepFields r (loseClasses r allBlocks classes) (strapFields ++ if keepsPorts cause then meshFields else [])

/-- A reset of the whole device (R509, R519): greenware, with the kind in CAUSE; every core state that no class keeps starts anew.
OTP, flash, time since power-on, the pins and the queue of commands stay; the content of DRAM is lost. -/
def State.deviceReset (s : State) (cause : Nat) : State :=
  let ports := keepsPorts cause
  let was := s.stage
  let wdt := cause = 2 || cause = 3
  let s' : State := { State.reset with
    regs := resetRegs cause s.regs
    inForce := resetRegs cause s.inForce
    now := s.now
    freeCtr := s.freeCtr
    pins := { s.pins with alive := false, aonBlank := true, dramReset := true }
    evt := { EvtState.reset with filled := s.now, logPlace := s.evt.logPlace }
    start := { StartState.reset with
      held := s.start.held, railFell := s.start.railFell, began := s.now, sampled := !losesW cause, wLost := losesW cause }
    sec := { s.sec with
      eph := none, staging := none, bootEvents := [], censusAt := none, trialGlost := 0
      hosts := SecState.reset.hosts
      links := if ports then s.sec.links else SecState.reset.links
      pathsOff := s.sec.pathsOff && cause ≠ 0 }
    link := if ports then { LinkState.reset with ports := s.link.ports, cnum := s.link.cnum, nonce := s.link.nonce, map := s.link.map }
      else { LinkState.reset with map := if losesW cause then [] else s.link.map }
    lane := if ports then { LaneState.reset with lanes := s.lane.lanes.take 8 ++ LaneState.reset.lanes.drop 8 } else LaneState.reset
    emit_ := { EmitState.reset with blank := s.emit_.blank }
    cal := { CalState.reset with logPlace := s.cal.logPlace }
    flash := s.flash
    out := s.out
    pending := s.pending }
  let s' := (s'.w Reg.MGMT_STAGE_CAUSE cause).count Reg.MGMT_RESET_RESETS 0 (b2n (cause ≠ 0))
  let s' := s'.count Reg.MGMT_RESET_WATCHDOGS 0 (b2n wdt)
  let s' := (s'.showOtp.w Reg.MGMT_STRAPS_CLAIM (b2n s'.pins.claim)).ambReset
  (s'.raiseIf (was ≠ 0) 32 0).driveBlank.driveAux.settleDomains

/-! ### Causes from outside (R12, R404, R509, R527) -/

/-- POWER_ON_RESET (R499): VDD_AON has been within its limits for 100 µs. Class K, set anew, comes from OTP. -/
def execPowerOnReset (s : State) : Host.Outcome State Fault Refusal :=
  let s := s.pass 0
  let s := { s with regs := [], inForce := [], start := { s.start with powered := true, held := s.pins.rst, railFell := false, cold := false } }
  .next (s.deviceReset 0)

/-- VDD_AON_LOSS (R527): everything but OTP and flash is lost; the device stands dark and without power. -/
def execVddAonLoss (s : State) : Host.Outcome State Fault Refusal :=
  let s := s.pass 0
  .next { State.reset with
    now := s.now, freeCtr := s.freeCtr, flash := s.flash, out := s.out, pending := s.pending
    cal := { CalState.reset with logPlace := s.cal.logPlace }
    pins := { s.pins with alive := false, aonBlank := false, dramReset := true }
    sec := { SecState.reset with revoked := s.sec.revoked, slots := s.sec.slots, svnBits := s.sec.svnBits, store := s.sec.store,
                                 boot := s.sec.boot, draws := s.sec.draws }
    start := { StartState.reset with powered := false } }

/-- RST_N_ASSERT: low for 1 µs. -/
def execRstNAssert (s : State) : Host.Outcome State Fault Refusal :=
  let s := s.pass 100
  let s := { s with pins := { s.pins with rst := true } }
  if !s.start.powered then .next s
  else .next ({ s with start := { s.start with held := true, cold := false } }.deviceReset 1)

/-- The timeline begins (R499). -/
def State.begin_ (s : State) : State := { s with start := { s.start with held := false, railFell := false, began := s.now } }.settleDomains

/-- RST_N_RELEASE. -/
def execRstNRelease (s : State) : Host.Outcome State Fault Refusal :=
  let s := s.pass 0
  let s := { s with pins := { s.pins with rst := false } }
  if !s.start.powered || !s.start.held || s.start.railFell then .next s else .next s.begin_

/-- PGOOD_FALL (R527): a power-good input (0 IO, 1 CORE, 2 LANE, 3 DRAM) stays low for 1 µs. -/
def execPgoodFall (rail : Nat) (s : State) : Host.Outcome State Fault Refusal :=
  let s := s.pass 100
  if 4 ≤ rail then .next s
  else
    let was := s.pins.pgood.getD rail true
    let s := { s with pins := { s.pins with pgood := setNth s.pins.pgood rail false } }
    if !s.start.powered || !was then .next s
    else .next ({ s with start := { s.start with held := true, railFell := true, cold := false } }.deviceReset 1)

/-- REFCLK cycles after AON power-good by which a rail must have risen (R526). -/
def railTime (rail : Nat) : Nat := nth [cyclesUs 1500, cyclesUs 4000, cyclesUs 4000] rail

/-- PGOOD_RISE (R526, R527): after a fall the device restarts when all inputs are high; before that, a late rail moves every later
time of the start by its delay. -/
def execPgoodRise (rail dt : Nat) (s : State) : Host.Outcome State Fault Refusal :=
  let s := s.pass dt
  if 4 ≤ rail then .next s
  else
    let s := { s with pins := { s.pins with pgood := setNth s.pins.pgood rail true } }
    if !s.start.powered then .next s
    else if s.start.railFell then
      if s.pins.pgood.all id && !s.pins.rst then .next s.begin_
      else .next { s with start := { s.start with railFell := !s.pins.pgood.all id } }
    else if rail < 3 && s.stage = 0 && !s.start.held then
      .next { s with start := { s.start with began := max s.start.began (s.now - railTime rail) } }
    else .next s.settleDomains

/-- DIE_COMPARATOR_TRIP (R404): three comparisons at or above 125 °C. -/
def execDieComparatorTrip (dt : Nat) (s : State) : Host.Outcome State Fault Refusal :=
  let s := s.pass dt
  if !s.start.powered || s.hearth.shutdown || s.start.cold then .next s
  else
    let s := { s with pins := { s.pins with aonBlank := true }, hearth := { s.hearth with shutdown := true } }
    let s := ((s.count Reg.HEARTH_SHUTDOWN_COUNT).flag Reg.HEARTH_SHUTDOWN_LAST 1).w Reg.HEARTH_HK_STATUS_THERM 1
    let s := (List.range 4).foldl (fun (x : State) p => if x.r Reg.LINK_PORT_W1_STATE p = 0 then x else x.portDown p) s
    .next ({ s with dram := [] }.driveBlank.driveAux.settleDomains)

/-- DIE_SHUTDOWN_RESTART (R404): every die sensor below 110 °C for 1 s. -/
def execDieShutdownRestart (s : State) : Host.Outcome State Fault Refusal :=
  if !s.hearth.shutdown then .next (s.pass 0)
  else
    let s := (s.pass (cyclesS 1)).deviceReset 5
    .next { s with start := { s.start with dieStart := true } }

/-- REFCLK_RETURN (R370): within limits for 10 ms. -/
def execRefclkReturn (ppm : Int) (dt : Nat) (s : State) : Host.Outcome State Fault Refusal :=
  if !s.time.stopped then .next (s.pass dt)
  else
    let s := ((s.pass dt).pass (cyclesUs 10000)).deviceReset 3
    .next ((s.w Reg.CLOCK_REF_REF_OK 1).wi Reg.CLOCK_REF_REF_PPM (satS 12 ppm))

/-- SYN_RELOCK_DONE (R371, R373, R374): a search or a DLL locks, `us` µs after it began; SYN-A lost in operation ends in a watchdog
reset. -/
def execSynRelockDone (n band us dt : Nat) (s : State) : Host.Outcome State Fault Refusal :=
  let s := s.pass dt
  if 10 ≤ n || s.time.stopped then .next s
  else if 4 ≤ n then
    let m := s.r Reg.CLOCK_DLL_LOCKED
    if bitsN m (n - 4) (n - 4) = 1 then .next s else .next ((s.w Reg.CLOCK_DLL_LOCKED (m + 2 ^ (n - 4))).raise 195 0)
  else if s.rb Reg.CLOCK_SYN_W0_LOCKED n then .next s
  else
    let again := s.time.relocking.getD n false
    let s := { s with time := { s.time with relocking := s.time.relocking.set n false } }
    let s := s.ws [(Reg.CLOCK_SYN_W0_LOCKED, n, 1), (Reg.CLOCK_SYN_W0_BAND, n, band), (Reg.CLOCK_SYN_W0_LOCK_US, n, satN 4095 us)]
    let s := s.raise 195 0
    .next (if n = 0 && again then s.deviceReset 3 else s.settleDomains)

/-- WATCHDOG_EXPIRY (R510): the MP has not restarted the watchdog for WDT_TIMEOUT. -/
def execWatchdogExpiry (dt : Nat) (s : State) : Host.Outcome State Fault Refusal :=
  if s.mp then .next ((s.pass dt).deviceReset 2) else .next (s.pass dt)

/-! ### Link reset (R294) -/

/-- A port is reset: 16 LRESET superblocks, DOWN, both lanes restarted with ALIGN. -/
def State.resetPort (s : State) (p : Nat) : State :=
  let s := s.portDown p
  let s := s.setPort p { s.port p with lreset := 16 }
  [2 * p, 2 * p + 1].foldl (fun (x : State) l =>
    if x.laneState l = 0 then x else ((x.setLane l LaneX.reset).w Reg.LINK_LANE_W1_STATE 0 l).laneStart l) s

/-- 0x009 LINK_RESET (R294, R295): the port that carried the command is reset once the reply has left on it. -/
def hLinkReset : Handler := fun c ps s =>
  (.done, (List.range 4).foldl (fun (x : State) p =>
    if !bit (nthW ps 0) p then x
    else if c.src.via = .cawell && c.inPort = p then x.setPort p { x.port p with resetDue := true }
    else x.resetPort p) s)

/-- A reset that waited for its reply runs once the port has nothing left to send. -/
def State.resetWaiting (s : State) (p : Nat) : State :=
  let v := s.port p
  if v.resetDue && v.txq.isEmpty && v.sending.isEmpty then s.resetPort p else s

/-- LRESET arrives: the port is reset likewise, once while it sends LRESET itself; event 273. -/
def State.lresetSeen (s : State) (p : Nat) : State :=
  if 0 < (s.port p).lreset || s.r Reg.LINK_PORT_W1_STATE p = 0 then s else (s.resetPort p).raise 273 p

/-- LRESET_RECEIVE. -/
def execLresetReceive (port : Nat) (s : State) : Host.Outcome State Fault Refusal := .next ((s.pass 0).lresetSeen (port % 4))

/-! ### Soft reset (R511, R512) -/

/-- 0x108 SOFT_RESET. -/
def hSoftReset : Handler := fun _ ps s =>
  let mask := bits (nthW ps 0) 13 0
  let now := bit (nthW ps 0) 35
  let f := if now then s.nextTick else join48 (nthW ps 1) (nthW ps 2)
  if mask = 0 || (mask ≠ 0x3FFF && [2, 3, 4, 6].any (fun b => mask.testBit b)) then (.badParam, s)
  else if !now && !s.periodAhead f then (.late, s)
  else (.done f, { s with start := { s.start with soft := some (mask, f) } })

/-- The domains of a block are cycled (R512): off, with what made them FAILED forgotten. -/
def State.cycle (s : State) (b : Nat) : State :=
  let ds := blockDomains b
  let s := { s with hearth := { s.hearth with
    failed := s.hearth.failed.filter (fun d => !ds.contains d)
    retries := s.hearth.retries.filter (fun (x : Nat × Nat) => !ds.contains x.1)
    ramps := s.hearth.ramps.filter (fun (x : Nat × Nat × Bool) => !ds.contains x.1) } }
  ds.foldl (fun (x : State) d => x.setDomain d 0) s

/-- What a block named in a partial soft reset loses beside its registers (R512). -/
def State.blockReset (s : State) (b : Nat) : State :=
  match b with
  | 0 => { s with cmd := CmdState.reset, evt := { EvtState.reset with filled := s.now, logPlace := s.evt.logPlace }
                  bake := { BakeState.reset with beacon := s.bake.beacon }
                  sec := { s.sec with bootEvents := [], staging := none }
                  start := { s.start with bootOk := false, power := none, wakeExit := none, showNext := none, bisWrite := none } }.w
      Reg.MGMT_STRAPS_CLAIM (b2n s.pins.claim)
  | 1 =>
    let s := { s with sec := { s.sec with eph := none, hosts := SecState.reset.hosts } }.showStore
    (List.range 4).foldl (fun (x : State) p => if x.portUp p then x.sessionUp p else x) s
  | 5 =>
    -- emitter and echo lanes belong to EMIT (R396): those that run go on, and HOLD of one no longer stands
    let s := { s with lane := { LaneState.reset with lanes := LaneState.reset.lanes.take 12 ++ s.lane.lanes.drop 12 }
                      mgr := MgrState.reset
                      link := { LinkState.reset with ports := s.link.ports, map := s.link.map } }
    (List.range' 12 20).foldl (fun (x : State) l => x.laneStart l) s
  | 7 => { s with stream := StreamState.reset, dec := DecState.reset }.stopFrames
  | 8 => { s with enc := EncState.reset }
  | 9 => { s.stopFrames with fire := { FireState.reset with closed := s.fire.closed, prev := s.fire.prev, firing := s.fire.firing } }
  | 10 => { s.stopFrames with glaze := GlazeState.reset, cal := { s.cal with loaded := false } }.w Reg.MGMT_STAGE_CAL 0
  | 11 => { s with emit_ := { EmitState.reset with blank := s.emit_.blank }, pins := { s.pins with aonBlank := true }
                   start := { s.start with resend := true }, fire := s.stopFrames.fire }
  | 12 => { s with eng := { s.eng with stamp := [] } }
  | 13 => { s with eng := { s.eng with deflate := [] } }
  | _ => s

/-- The state of the emitter and echo lanes, whose domains EMIT holds (R396). -/
def emitLaneFields : List (Fld × Nat) := (List.range' 12 20).map (fun l => (Reg.LINK_LANE_W1_STATE, l))

/-- The fields of MGMT_STAGE that go on showing what the device stands at although MGMT's class V state is lost: the stage (R512) and the
conditions of R501 that other blocks hold (assumption log 49). -/
def stageFields : List (Fld × Nat) :=
  [(Reg.MGMT_STAGE_STAGE, 0), (Reg.MGMT_STAGE_DRAM, 0), (Reg.MGMT_STAGE_CAL, 0), (Reg.MGMT_STAGE_TIME, 0),
   (Reg.MGMT_STAGE_PLACED, 0), (Reg.MGMT_STAGE_SCAN, 0)]

/-- A partial soft reset (R512). -/
def State.partialReset (s : State) (mask : Nat) : State :=
  let bs := allBlocks.filter (fun b => mask.testBit b)
  let lose (r : RegFile) : RegFile := keepFields r (loseClasses r bs [.S, .V, .N]) (stageFields ++ emitLaneFields)
  -- R294: the ports go down as by a link reset
  let s := if mask.testBit 5 then (List.range 4).foldl (fun (x : State) p => x.portDown p) s else s
  let s := { s with regs := lose s.regs, inForce := lose s.inForce }
  let s := bs.foldl (fun (x : State) b => (x.blockReset b).cycle b) s
  let s := s.ws [(Reg.MGMT_STAGE_CAUSE, 0, 7)]
  let s := s.count Reg.MGMT_RESET_RESETS
  ({ s with start := { s.start with softOut := mask, resend := true } }.driveBlank).settleDomains

/-- Firing waits for the blocks of a partial reset (R512). -/
def State.softHolds (s : State) : Bool := [7, 9, 10, 11].any (fun b => s.start.softOut.testBit b)

/-- A partial reset that holds firing is due at tick `n`: the frame of that tick is not presented (R512). -/
def State.softStarts (s : State) (n : Nat) : Bool :=
  match s.start.soft with
  | some (m, k) => decide (k ≤ n) && m ≠ 0x3FFF && [7, 9, 10, 11].any (fun b => m.testBit b)
  | none => false

/-- The named blocks have come back (R511): their domains are on, the MP runs, the calibration store is loaded; event 39. -/
def State.softBack (s : State) : State :=
  let m := s.start.softOut
  let up := (List.range' 1 83).all (fun d => match domainBlock d with
    | some b => !m.testBit b || !s.wantOn d || s.domain d = 2
    | none => true)
  if m = 0 || !up || (m.testBit 0 && !s.mp) || (m.testBit 10 && s.isWorker && !s.cal.loaded) then s
  else { s with start := { s.start with softOut := 0 } }.raise 39 m

/-- A soft reset that is due runs (R511, R512). -/
def State.softDue (s : State) : State :=
  match s.start.soft with
  | none => s
  | some (mask, k) =>
    if !s.time.ticked || s.time.last < k then s
    else if mask = 0x3FFF then
      let s := s.deviceReset 4
      { s with start := { s.start with softOut := 0x3FFF } }
    else { s with start := { s.start with soft := none } }.partialReset mask

/-- SOFT_RESET_EXECUTE. -/
def execSoftResetExecute (s : State) : Host.Outcome State Fault Refusal := .next ((s.pass 0).softDue).softBack

/-- DOMAIN_POWER_GOOD (R398). -/
def execDomainPowerGood (d dt : Nat) (s : State) : Host.Outcome State Fault Refusal := .next ((s.pass dt).domainGood d).softBack

end Sys2Proof.Machine
end

