-- ==== Sys2Proof/Machine/Start.lean ====
section
/-! DEFINITION. The start-up timeline (R13, R474, R498–R504), bisque opcodes (R506–R508), low power (R513–R518), and the transfer of owner
flash (R537). -/

namespace Sys2Proof.Machine

/-- The rails that the start needs up to its sampling, or up to the bisque image, are there (R526). -/
def State.railsUp (s : State) (n : Nat) : Bool := (s.pins.pgood.take n).all id

/-! ### Straps (R13, R268) -/

/-- STRAP_SAMPLE: 2 ms after the start; `flashOk`: the flash answers its SFDP read (R535). -/
def execStrapSample (role board : Nat) (claim flashOk : Bool) (s : State) : Host.Outcome State Fault Refusal :=
  if !s.alive || s.start.sampled || !s.railsUp 1 then .next (s.pass 0)
  else
    let s := s.gotoNow (s.start.began + cyclesUs 2000)
    let s := { s with pins := { s.pins with role := role % 4, board := board % 16, claim := claim }
                      start := { s.start with sampled := true } }
    let s := s.ws [(Reg.MGMT_STRAPS_ROLE, 0, role), (Reg.MGMT_STRAPS_BOARD_TYPE, 0, board), (Reg.MGMT_STRAPS_CLAIM, 0, b2n claim)]
    let s := if flashOk then s.readLaneTable else { ({ s with flash := [] }.readLaneTable) with flash := s.flash }
    .next s.settleDomains

/-! ### The bisque image (R503, R504) -/

/-- NREG, MAP and BSTEP of an image, and its words before the block. -/
def bisNreg (ws : List Word) : Nat := bits (nthW ws 1) 31 21
def bisHasMap (ws : List Word) : Bool := bit (nthW ws 1) 17
def bisBstep (ws : List Word) : Nat := bits (nthW ws 1) 20 18
def bisLen (ws : List Word) : Nat := 19 + 2 * bisNreg ws + (if bisHasMap ws then 5462 else 0)

/-- The register writes of an image. -/
def bisWrites (ws : List Word) : List (Nat × Word) :=
  (List.range (bisNreg ws)).map (fun i => ((nthW ws (19 + 2 * i)).toNat, nthW ws (20 + 2 * i)))

/-- The windows that writes of the image may lie in (R504). -/
def bisWindow (a : Nat) : Bool :=
  (0x30020 ≤ a && a ≤ 0x30023) || (0x90020 ≤ a && a ≤ 0x90021) || a = 0xB0000 || a = 0xB0001 || (0xB0100 ≤ a && a ≤ 0xB02FF)
  || a = 0xB0300 || (0xB0310 ≤ a && a ≤ 0xB0347) || (0x20010 ≤ a && a ≤ 0x200A1) || (0x200D0 ≤ a && a ≤ 0x200D7) || a = 0x20200

/-- The register file after the writes of a list. -/
def writeList (r : RegFile) (l : List (Nat × Word)) : RegFile := l.foldl (fun x p => writeRaw x p.1 p.2) r

/-- The configuration passes R115, R116, R118 and R232. -/
def State.configOk (s : State) (r : RegFile) : Bool :=
  gridOk (gridOf r) && rateJoint r && mountOk s.lowGrade r && scanJoint r && conesJoint r

/-- Why an image is not valid (R504): the code of MGMT_BISQUE.ERR. -/
def State.bisqueError (s : State) (ws : List Word) : Option Nat :=
  let n := bisLen ws
  let b := (ws.drop n).take (sigLen (ws.drop n))
  let l := bisWrites ws
  if nthW ws 0 ≠ 0x815C0EA01 || bits (nthW ws 1) 35 32 ≠ 1 then some 1
  else if !s.blockOk (some 0) (ws.take n) b then some 2
  else if (nthW ws 2).toNat < 9 * cdiv (n + b.length) 2 then some 6
  else if l.any (fun p => !bisWindow p.1 || !hasRW s.role p.1 || !wordInRange p.1 p.2) then some 3
  else if 4 < bisBstep ws || !s.configOk (writeList s.regs l) then some 4
  else none

/-- The image of the flash: as many words as its header names, block included. -/
def State.bisqueImage (s : State) : List Word :=
  let h := flashWords s.flash 0 19
  if nthW h 0 = 0x815C0EA01 then
    let w := flashWords s.flash 0 (bisLen h + 140)
    w.take (bisLen h + sigLen (w.drop (bisLen h)))
  else h

/-- The lane table's digest stands in the header (R268, R503): 2,394 bytes at LANE_OFFSET. -/
def laneDigestOk (f : List Host.Cell) (ws : List Word) : Bool :=
  hashBytes (Config.sha384 (flashBytes f (nthW ws 2).toNat 2394)) = bytesOf 48 ((ws.drop 3).take 12)

/-- The record that training uses without a valid image (R504): DS 8, PDDS 6, ODT off, both Vref 0x50. -/
def romMemRec : List Word := List.replicate 4 (pack [(32, 8), (29, 6), (16, 0x50), (9, 0x50)])

/-- The hogel map of an image, unlisted 0. -/
def bisMapOf (ws : List Word) : List (Nat × Nat) :=
  if !bisHasMap ws then []
  else
    let m := (ws.drop (19 + 2 * bisNreg ws)).take 5462
    (List.range 49152).filterMap (fun i =>
      let v := bits (nthW m (i / 9)) (35 - 4 * (i % 9)) (32 - 4 * (i % 9))
      if v = 0 then none else some (i, v))

/-- MGMT_BISQUE after a verification. -/
def State.showBisque (s : State) (ws : List Word) (err : Option Nat) : State :=
  s.ws [(Reg.MGMT_BISQUE_VALID, 0, b2n err.isNone), (Reg.MGMT_BISQUE_ERR, 0, err.getD 0),
    (Reg.MGMT_BISQUE_BSTEP, 0, if err.isNone then bisBstep ws else 0), (Reg.MGMT_BISQUE_NREG, 0, if err.isNone then bisNreg ws else 0)]

/-- The words of EMIT_PAT that an image's register list leaves, on their reset values (R252). -/
def bisPatsOf (ws : List Word) : List Word :=
  let r := writeList [] (bisWrites ws)
  (List.range 16).map (fun i => wordOf r (Reg.EMIT_PAT_W0_EFFECT.addr + i))

/-- The image in use replaced: map, pattern settings and memory record. -/
def State.takeBisque (s : State) (ws : List Word) (ok : Bool) : State :=
  { s with start := { s.start with
    bisque := if ok then some (bisBstep ws) else none
    bisPats := if ok then bisPatsOf ws else []
    bisMap := if ok then bisMapOf ws else [], memRec := if ok then (ws.drop 15).take 4 else romMemRec } }

/-- The block of an image does not verify for CONFIG: event 75, by hardware (R470, R544). -/
def State.bisqueSig (s : State) (err : Option Nat) : State := s.raiseIf (err = some 2) 75 0

/-- The image of the flash does not pass: event 33 with the cause code (R506), event 75 for its block. -/
def State.bisqueFails (s : State) (err : Option Nat) : State := (s.bisqueSig err).raiseIf err.isSome 33 (err.getD 0)

/-- Verification ends (R498, R504, R506): the list is applied where class W was lost, the stage is bisque, link sessions run. -/
def State.bisqueVerified (s : State) (flashOk : Bool) : State :=
  let ws := s.bisqueImage
  let err := if flashOk then s.bisqueError ws else some 5
  let ok := err.isNone
  let apply := ok && s.start.wLost
  let l := bisWrites ws
  let s := if apply then { s with regs := writeList s.regs l, inForce := writeList s.inForce l } else s
  let s := ((s.showBisque ws err).takeBisque ws ok).ws
    [(Reg.MGMT_BISQUE_APPLIED, 0, b2n apply), (Reg.MGMT_STAGE_BISQUE_OK, 0, b2n ok)]
  let s := s.checkLaneDigest (ok && laneDigestOk s.flash ws)
  let s := (s.showStore.bisqueFails err).setStage 1
  let s := (List.range 4).foldl (fun (x : State) p =>
    if x.portUp p && !(keepsPorts (x.r Reg.MGMT_STAGE_CAUSE) && (x.link_ p).begun) then x.sessionRun p else x) s
  s.settleDomains

/-- BISQUE_IMAGE_VERIFIED; in the test role the device stays in greenware (R15). -/
def execBisqueImageVerified (flashOk : Bool) (dt : Nat) (s : State) : Host.Outcome State Fault Refusal :=
  let s := s.pass dt
  if !s.alive || !s.start.sampled || s.stage ≠ 0 || s.role = 3 || !s.railsUp 3 then .next s else .next (s.bisqueVerified flashOk)

/-! ### The MP (R474, R499, R501, R502, R509) -/

/-- The boot ROM's choice (R474). -/
def State.bootSelect (s : State) : State :=
  let b := s.sec.boot
  let read := b.tries
  let okA := s.slotOk b.active
  let okO := s.slotOk (!b.active)
  let left := (read = 3 && okO) || !okA && okO
  let evs := if left then [if b.trial then 52 else 54] else []
  let b := if left then { b with active := !b.active, trial := false, tries := 0 } else b
  let b := if left && read ≠ 3 then b else { b with tries := min 3 (b.tries + 1) }
  let ok := okO && left || okA
  let s := (s.setBoot b).showFw
  let s := { s with
    start := { s.start with bootOk := ok }
    sec := { s.sec with bootEvents := evs ++ (if ok && b.trial then [50] else []), trialGlost := 0 } }
  s.ws [(Reg.MGMT_FW_0150_ACTIVE, 0, b2n b.active), (Reg.MGMT_FW_0150_TRIAL, 0, b2n b.trial), (Reg.MGMT_FW_0150_TRIES, 0, read)]

/-- BOOT_SLOT_SELECT. -/
def execBootSlotSelect (s : State) : Host.Outcome State Fault Refusal :=
  let s := s.pass 0
  if !s.alive || s.mp || s.stage = 0 || s.start.bootOk then .next s else .next s.bootSelect

/-- MP_RUNNING (R499, R509): the events of the start. -/
def execMpRunning (dt : Nat) (s : State) : Host.Outcome State Fault Refusal :=
  let s := s.pass dt
  if !s.alive || s.mp || !s.start.bootOk || s.stage = 0 then .next s
  else
    let p := logNext s.flash
    let s := { s with start := { s.start with mpAt := s.now }, evt := { s.evt with logPlace := p.1 } }
    let s := (s.w Reg.MGMT_STAGE_MP 1).w Reg.MGMT_LOG_0132_LSEQ p.2
    let s := (s.raise 34 0).raise 37 (s.r Reg.MGMT_STAGE_CAUSE)
    let s := s.raises (s.sec.bootEvents.map (fun e => (e, 0)))
    let s := s.raiseIf s.start.woke 38 (s.r Reg.MGMT_POWER_WAKE_SRC)
    let s := s.raiseIf s.start.dieStart 153 0
    .next ({ s with start := { s.start with woke := false, dieStart := false }, sec := { s.sec with bootEvents := [] } }.settleDomains)

/-- The conditions of R501 as MGMT_STAGE shows them. -/
def State.showStage (s : State) : State :=
  s.ws [(Reg.MGMT_STAGE_TIME, 0, b2n s.validSource), (Reg.MGMT_STAGE_PLACED, 0, s.r Reg.LINK_POS_PLACED),
    (Reg.MGMT_STAGE_SCAN, 0, s.r Reg.EMIT_HEAD_CTRL_SCAN_EN)]

/-- The bit number of the first condition of glost that is not met; 0 when all are, or when a manager's record alone is awaited. -/
def State.unmet (s : State) : Nat :=
  let time := s.rb Reg.MGMT_STAGE_TIME || s.rb Reg.MGMT_STAGE_TIME_WAITED
  let w := [(30, s.mp), (29, s.dramUp), (28, s.rb Reg.MGMT_STAGE_CAL), (27, time), (25, s.rb Reg.LINK_POS_PLACED),
    (24, s.rb Reg.EMIT_HEAD_CTRL_SCAN_EN)]
  let m := [(30, s.mp), (29, s.dramUp), (27, time)]
  (((if s.isMgr then m else w).find? (fun p => !p.2)).map Prod.fst).getD 0

/-- Every condition of glost is met (R501). -/
def State.glostReady (s : State) : Bool :=
  s.unmet = 0 && (!s.isMgr || s.mgr.netDone) && s.role ≠ 3

/-- GLOST_TIMEOUT (R502): 8 s after the start. -/
def execGlostTimeout (s : State) : Host.Outcome State Fault Refusal :=
  if !s.alive || 2 ≤ s.stage || s.role = 3 || s.start.late then .next (s.pass 0)
  else
    let s := (s.gotoNow (s.start.began + cyclesS 8)).showStage
    .next ({ s with start := { s.start with late := true } }.raise 35 s.unmet)

/-- TIME_WAIT_EXPIRY (R501). -/
def execTimeWaitExpiry (s : State) : Host.Outcome State Fault Refusal :=
  let t := s.r Reg.MGMT_POWER_TIME_WAIT
  if !s.alive || !s.mp || t = 0 || s.validSource || 2 ≤ s.stage then .next (s.pass 0)
  else .next ((s.gotoNow (s.start.mpAt + cyclesS t)).w Reg.MGMT_STAGE_TIME_WAITED 1)

/-! ### Bisque opcodes (R507, R508) -/

/-- 0x007 BISQUE_LOAD: whatever is shown, other bits than ACTION are 0. -/
def hBisqueLoad : Handler := fun _ ps s =>
  let ws := s.bisqueImage
  match bits (nthW ps 0) 1 0 with
  | 0 =>
    let e := s.bisqueError ws
    let s := (s.showBisque ws e).bisqueFails e
    match e with
    | none => (.done ws.length, s)
    | some c => (.fault c, s)
  | 1 =>
    if s.stage = 1 then (.done, s)
    else
      match s.bisqueError ws with
      | some c => (.fault c, s.bisqueFails (some c))
      | none =>
        if s.stage ≠ 2 || s.isMgr then (.done, s)
        else (.done, { s.takeBisque ws true with start := { (s.takeBisque ws true).start with showNext := some true } })
  | 2 => if s.rb Reg.MGMT_BISQUE_SHOWING then (.done, { s with start := { s.start with showNext := some false } }) else (.done, s)
  | _ => (.badParam, s)

/-- SHOW and RELEASE take effect at a tick (R507). -/
def State.showStep (s : State) : State :=
  match s.start.showNext with
  | none => s
  | some on =>
    let s := { s with start := { s.start with showNext := none, resend := true } }.stopFrames
    (s.w Reg.MGMT_BISQUE_SHOWING (b2n on)).raise 36 0

/-- 0x109 BISQUE_WRITE. -/
def hBisqueWrite : Handler := fun c ps s =>
  let part := bits (nthW ps 0) 0 0
  let sector := bits (nthW ps 1) 27 0
  let n := bits (nthW ps 2) 27 0
  if n = 0 || !s.imageOk sector n then (.badParam, s)
  else if s.start.bisWrite.isSome then (.busy, s)
  else (.accepted, { s with start := { s.start with bisWrite := some (part, sector, n, c.req) } })

/-- The write of the bisque part of the flash ends. -/
def State.bisWriteEnd (s : State) (q : Req) (a : Ans) : State := { s with start := { s.start with bisWrite := none } }.complete q a

/-- A lane table in DRAM passes its tag, VERSION and CRC checks (R508); the zero word that packing appends may stand behind it (R60). -/
def laneTableOk (ws : List Word) : Bool :=
  (ws.length = 531 || ws.length = 532) && nthW ws 0 = word 0x1A9E7AB01 && bits (nthW ws 1) 35 32 = 1 && (nthW ws 530).toNat = crcWords (ws.take 530)

/-- BISQUE_WRITE_DONE: checks, erasure, programming, read-back; `fail` is the flash offset of a failure. -/
def execBisqueWriteDone (fail : Option Nat) (s : State) : Host.Outcome State Fault Refusal :=
  let s := s.pass 0
  match s.start.bisWrite with
  | none => .next s
  | some (part, sector, n, q) =>
    match s.readWords 8 (7 * sector) n with
    | (.bad k, s) => .next (s.bisWriteEnd q (.fault k))
    | (.ok ws, s) =>
      let image := part = 0
      let at_ := if image then 0 else (nthW (flashWords s.flash 0 4) 2).toNat
      let bytes := cdiv (9 * n) 2
      let err := if image then
          (match s.bisqueError ws with
            | some e => some e
            | none => if laneDigestOk s.flash ws then none else some 2)
        else if !laneTableOk ws then some 1 else if at_ + 2394 ≤ 0x100000 then none else some 6
      match err with
      | some e => .next (((if image then s.bisqueSig err else s).bisWriteEnd q (.denied e)))
      | none =>
        let len := 4096 * cdiv (at_ % 4096 + bytes) 4096
        let base := at_ / 4096 * 4096
        let front := flashBytes s.flash base (at_ - base)
        let back := flashBytes s.flash (at_ + bytes) (base + len - at_ - bytes)
        let erased := flashErase s.flash base len
        match fail with
        | some o => .next ({ s with flash := erased }.bisWriteEnd q (.fault o))
        | none =>
          let s := { s with flash := flashWrite erased base (front ++ (packBytes ws).take bytes ++ back) }
          .next ((s.bisWriteEnd q .done).raise 40 0)

/-! ### Low power (R513–R518) -/

/-- 0x107 POWER_STATE. -/
def hPowerState : Handler := fun _ ps s =>
  let st := bits (nthW ps 0) 1 0
  let snap := bit (nthW ps 0) 2
  let k := join48 (nthW ps 1) (nthW ps 2)
  if s.isMgr then (.resource, s)
  else if st = 3 then (.badParam, s)
  else if (st ≠ 0 && s.stage ≠ 2 && s.stage ≠ 3) || (st = 0 && s.stage ≠ 3) then (.stage, s)
  else if !s.eng.stamp.isEmpty || !s.eng.deflate.isEmpty || s.rb Reg.MGMT_BAKE_PEND_0116_OPEN || s.rb Reg.MGMT_BAKE_PEND_0116_CLOSED
      || s.sec.staging.isSome then (.busy, s)
  else if !s.periodAhead k then (.late, s)
  else (.done, { s with start := { s.start with power := some (st, k, snap) } }.w Reg.MGMT_POWER_PENDING (if st = 0 then 3 else st))

/-- Entry to banked at its tick (R514). -/
def State.bankedEntry (s : State) (snap : Bool) : State :=
  let s := { s.stopFrames with
    start := { s.start with power := none, exitTick := none }
    hearth := { s.hearth with skip := true }
    pins := { s.pins with aonBlank := true } }
  let s := ((s.w Reg.MGMT_POWER_PENDING 0).w Reg.MEM_STATUS_IN_SR (s.r Reg.MEM_STATUS_CH_OK)).setStage 3
  let s := s.driveBlank.driveAux.settleDomains
  if snap then s.autoSnap else s

/-- BANKED_ENTRY: an entry that is due. -/
def State.bankedDue (s : State) : State :=
  match s.start.power with
  | some (1, k, snap) => if s.time.ticked && k ≤ s.time.last then s.bankedEntry snap else s
  | _ => s

def execBankedEntry (s : State) : Host.Outcome State Fault Refusal := .next (s.pass 0).bankedDue

/-- Field elements of class V that show at once, after the exit from banked, what the rules keep running through it (R514, R515, R519): the
tile ports and their sessions, the stage, the power domains, the live pin, DRAM as trained with its map, the synthesisers and DLLs in
lock, the time bases in lock, the place in the log ring (assumption log 49). -/
def exitFields : List (Fld × Nat) :=
  (List.range 4).flatMap portFields ++ stageFields
  ++ [(Reg.MGMT_STAGE_MP, 0), (Reg.MGMT_STRAPS_CLAIM, 0), (Reg.MGMT_LOG_0132_LSEQ, 0)]
  ++ (List.range 84).map (fun d => (Reg.HEARTH_DOMAIN_STATE, d))
  ++ [(Reg.MEM_STATUS_TRAINED, 0), (Reg.MEM_STATUS_SP, 0), (Reg.MEM_STATUS_GRADE, 0), (Reg.MEM_STATUS_CH_OK, 0),
      (Reg.MEM_STATUS_DENSITY, 0), (Reg.MEM_STATUS_RANKS, 0), (Reg.MEM_MAP_0002_OWNER_TOP, 0), (Reg.MEM_MAP_0003_RAY_BASE, 0),
      (Reg.MEM_MAP_0004_SYS_BASE, 0), (Reg.CLOCK_DLL_LOCKED, 0)]
  ++ (List.range 3).map (fun n => (Reg.CLOCK_SYN_W0_LOCKED, n))
  ++ (List.range 4).flatMap (fun b => [(Reg.TIME_BASE_W5_VALID, b), (Reg.TIME_BASE_W5_LOCKED, b), (Reg.TIME_BASE_W5_HOLDOVER, b)])
  ++ [(Reg.TIME_TICK_STATUS_SOURCE, 0), (Reg.TIME_TICK_STATUS_HOLDOVER, 0), (Reg.TIME_TICK_STATUS_FREE, 0),
      (Reg.TIME_TICK_STATUS_SYNC_OK, 0)]

/-- What the loss of class V state means beside the registers at the exit from banked (R8, R520): SAFE_DARK, the reply cache, pending bakes
and updates, captures, an eye scan, pending loads, HOLD and SLEEP of the tile lanes, and the position of the stream are gone. -/
def State.loseVolatile (s : State) : State :=
  let s := { s with
    cmd := CmdState.reset
    bake := { BakeState.reset with beacon := s.bake.beacon }
    sec := { s.sec with staging := none }
    time := { s.time with fifo := TimeState.reset.fifo, capAt := TimeState.reset.capAt }
    lane := { s.lane with eye := none }
    glaze := { s.glaze with loads := [], waiting := [] }
    cal := { s.cal with run := none, reqs := [] }
    hearth := { s.hearth with plan := PlanState.reset }
    stream := StreamState.reset
    dec := { DecState.reset with pics := s.dec.pics, nextId := s.dec.nextId, poolPend := true }
    enc := EncState.reset
    fire := { s.stopFrames.fire with loads := [] }
    emit_ := { s.stopFrames.emit_ with
      freezeN := EmitState.reset.freezeN, frozen := EmitState.reset.frozen, lastSig := EmitState.reset.lastSig }
    start := { s.start with showNext := none } }
  (List.range 8).foldl (fun (x : State) l => x.laneStart l) s.endSessions

/-- Exit from banked at tick K (R515): domains, DRAM, SYN-F, the strings, class V state, the stream and the pool. -/
def State.bankedExit (s : State) (k src : Nat) : State :=
  let lose (r : RegFile) : RegFile := keepFields r (loseClasses r allBlocks [.V]) exitFields
  let s := { s with
    regs := lose s.regs, inForce := lose s.inForce
    start := { s.start with power := none, wakeExit := none, exitTick := some k, resend := true }
    hearth := { s.hearth with powers := [], skip := true } }
  (s.loseVolatile.poolReset.w Reg.MGMT_POWER_WAKE_SRC src).settleDomains

/-- BANKED_EXIT: an exit that is due, by command or by WAKE. -/
def State.exitDue (s : State) : State :=
  if s.stage ≠ 3 || s.start.exitTick.isSome then s
  else
    match s.start.power, s.start.wakeExit with
    | some (0, k, _), _ => if s.time.ticked && k ≤ s.time.last then s.bankedExit k 6 else s
    | _, some k => if s.time.ticked && k ≤ s.time.last then s.bankedExit k 1 else s
    | _, _ => s

def execBankedExit (s : State) : Host.Outcome State Fault Refusal := .next (s.pass 0).exitDue

/-- Entry to cold standby (R517): dark, the snapshot written to its end, STAGE 4 announced for 1 ms, power removed. -/
def State.coldEntry (s : State) (snap : Bool) : State :=
  let s := { s.stopFrames with
    start := { s.start with power := none }
    pins := { s.pins with aonBlank := true } }
  let s := (s.w Reg.MGMT_POWER_PENDING 0).driveBlank.driveAux
  let s := if snap then s.autoSnap.saveDone none else s
  let s := (s.setStage 4).pass (cyclesUs 1000)
  let s := (List.range 4).foldl (fun (x : State) p => if x.r Reg.LINK_PORT_W1_STATE p = 0 then x else x.portDown p) s
  { s with start := { s.start with cold := true }, dram := [] }.settleDomains

/-- COLD_STANDBY_ENTRY: an entry that is due. -/
def execColdStandbyEntry (s : State) : Host.Outcome State Fault Refusal :=
  match s.start.power with
  | some (2, k, snap) => if s.time.ticked && k ≤ s.time.last then .next ((s.pass 0).coldEntry snap) else .next (s.pass 0)
  | _ => .next (s.pass 0)

/-- The device wakes from cold standby (R518). -/
def State.coldWake (s : State) (src : Nat) : State :=
  let s := (s.deviceReset 6).w Reg.MGMT_POWER_WAKE_SRC src
  { s with start := { s.start with woke := true } }

/-- A wake source is enabled: 1 WAKE, 2–5 a port. -/
def State.wakeEnabled (s : State) (src : Nat) : Bool :=
  (src = 1 && s.rb Reg.MGMT_POWER_WAKE_PIN) || (2 ≤ src && src ≤ 5 && s.rb Reg.MGMT_POWER_WAKE_LINK)

/-- COLD_STANDBY_WAKE: source 1 WAKE, 2–5 port 0–3. -/
def execColdStandbyWake (src : Nat) (s : State) : Host.Outcome State Fault Refusal :=
  let s := s.pass 0
  if s.start.powered && s.start.cold && s.wakeEnabled src then .next (s.coldWake src) else .next s

/-- LINK_ACTIVITY_WAKE (R277): 200 µs of activity on the even lane of a port. -/
def execLinkActivityWake (port : Nat) (s : State) : Host.Outcome State Fault Refusal :=
  let s := s.pass 0
  if s.start.powered && s.start.cold && port < 4 && s.wakeEnabled (port + 2) then .next ((s.pass (cyclesUs 200)).coldWake (port + 2))
  else .next s

/-- WAKE_PIN_LOW (R515, R518): WAKE low for 1 ms. -/
def execWakePinLow (s : State) : Host.Outcome State Fault Refusal :=
  let s := s.pass (cyclesUs 1000)
  if !s.start.powered || !s.rb Reg.MGMT_POWER_WAKE_PIN then .next s
  else if s.start.cold then .next (s.coldWake 1)
  else if s.stage = 3 && s.start.exitTick.isNone && s.start.wakeExit.isNone then
    .next ({ s with start := { s.start with wakeExit := some (s.nextTick + 1) } }.w Reg.MGMT_POWER_PENDING 3)
  else .next s

/-! ### Owner flash (R537) -/

/-- The end of the flash: 256 Mbit, the least that R535 allows (assumption log 5). -/
def flashEnd : Nat := 0x2000000

/-- 0x10A OWNER_FLASH_WRITE. A transfer into DRAM is a write in progress on the surfaces it reaches; behind another write it waits. -/
def hOwnerFlashWrite : Handler := fun c ps s =>
  let toDram := bit (nthW ps 0) 35
  let off := bits (nthW ps 0) 27 0
  let sector := bits (nthW ps 1) 27 0
  let n := bits (nthW ps 2) 27 0
  let words := pairWords n
  let put (s : State) (ids : List Nat) (waits : Bool) : State :=
    { s with start := { s.start with ownFlash := s.start.ownFlash ++ [⟨toDram, off, sector, n, ids, waits, c.req⟩] } }
  if !s.dramUp then (.stage, s)
  else if off % 4096 ≠ 0 || flashEnd < 0x1600000 + off + n || s.installed < sector + sectorsOf (7 * sector) words
      || (!toDram && !s.imageOk sector words) then (.badParam, s)
  else if !toDram then (.accepted, put s [] false)
  else
    match s.gate (7 * sector) words false false with
    | .bad => (.badParam, s)
    | .denied => (.denied, s)
    | .sealed_ id => (.sealed id, s)
    | .resource => (.resource, s)
    | .queue ids => (.accepted, put (s.queueWrite c ids ps false false) ids true)
    | .go ids => (.accepted, put (s.markWriting ids true false) ids false)

/-- What a finished transfer leaves: DRAM written from flash, or the 4 KB sectors covered erased and programmed (R537). -/
def State.ownFlashEnd (s : State) (j : OwnFlash) (fail : Option Nat) : State :=
  let a := 0x1600000 + j.off
  if j.toDram then
    let s := s.markWriting j.ids false false
    match fail with
    | some o => (s.surfsAfter j.ids true).complete j.req (.fault o)
    | none =>
      let w := s.putBytes (7 * j.sector) 0 (flashBytes s.flash a j.bytes)
      match w.2 with
      | some k => (w.1.surfsAfter j.ids true).complete j.req (.fault k)
      | none => (w.1.surfsAfter j.ids false).complete j.req (.done j.bytes)
  else
    match s.readWords 8 (7 * j.sector) (pairWords j.bytes) with
    | (.bad k, s) => s.complete j.req (.fault k)
    | (.ok ws, s) =>
      let erased := flashErase s.flash a (4096 * cdiv j.bytes 4096)
      match fail with
      | some o => { s with flash := erased }.complete j.req (.fault o)
      | none => { s with flash := flashWrite erased a ((packBytes ws).take j.bytes) }.complete j.req (.done j.bytes)

/-- OWNER_FLASH_WRITE_DONE: the oldest transfer that does not wait ends; `fail` is the flash offset of a failure. -/
def execOwnerFlashWriteDone (fail : Option Nat) (s : State) : Host.Outcome State Fault Refusal :=
  let s := s.pass 0
  match s.start.ownFlash.find? (fun j => !j.waits) with
  | none => .next s
  | some j => .next ({ s with start := { s.start with ownFlash := s.start.ownFlash.erase j } }.ownFlashEnd j fail).writesDue

end Sys2Proof.Machine
end

