-- ==== Sys2Proof/Machine/HardCmd.lean ====
section
/-! DEFINITION. Hard opcodes of the mesh and the device (R288–R293, R317, R428), the wall map (R291), LINK_WAKE (R277), LINK_CENSUS (R289). -/

namespace Sys2Proof.Machine

/-- A command that is answered later, by another step, or not at all. -/
def Ans.wait : Ans := ⟨0x100, 0, []⟩

/-! ### Status (R428) -/

/-- 0x001 PING. -/
def hPing : Handler := fun _ _ s =>
  (.reply [pack [(34, s.role), (31, s.stageCode), (30, b2n (s.rb Reg.LINK_POS_PLACED)), (23, s.r Reg.LINK_POS_X),
    (16, s.r Reg.LINK_POS_Y)], word s.time.last], s)

/-- 0x008 STAGE_STATUS: the MGMT_STAGE register. -/
def hStageStatus : Handler := fun _ _ s => (.reply [s.wordView Reg.MGMT_STAGE_STAGE.addr], s)

/-- 0x004 SAFE_DARK: at the next line start while the scan runs, at once otherwise; a manager has nothing to darken. -/
def hSafeDark : Handler := fun _ ps s =>
  let d := bit (nthW ps 0) 0
  if s.isMgr then (.done, s)
  else if s.scanOn && (s.stage = 1 || s.stage = 2) then (.done, { s with cmd := { s.cmd with darkNext := some d } })
  else (.done, ({ s with cmd := { s.cmd with darkNext := some d } }.lineStart).driveBlank)

/-! ### Routes and the peel -/

/-- 0x005 ROUTE_SET (R293). -/
def hRouteSet : Handler := fun _ ps s =>
  let w := nthW ps 0
  let first := bits w 33 23
  let n := bits w 22 11
  let ws := ps.drop 1
  if n = 0 || 1017 < n || ws.length ≠ n then (.badParam, s)
  else
    match bits w 35 34 with
    | 0 =>
      if 2048 < first + n then (.badParam, s)
      else (.done, { s with regs := rsets s.regs (ws.mapIdx (fun i v => (Reg.LINK_ROUTE_ROUTES, first + i, bits v 31 0))) })
    | 1 => (.done, { s with regs := writeRaw s.regs Reg.LINK_MGR_ROUTE_VALID.addr (nthW ws 0) })
    | _ => (.badParam, s)

/-- 0x00D TAKEOVER (R317): R313 applied to the fence word of parameter word 0. -/
def hTakeover : Handler := fun _ ps s =>
  let r := s.fenceCheck (nthW ps 0)
  match r.1 with
  | some a => (a, r.2)
  | none => (.done, r.2)

/-! ### The wall map (R291) -/

def mapSect (m : List Word) : Nat := bits (nthW m 1) 31 24
def mapCount (m : List Word) : Nat := bits (nthW m 1) 23 15
def mapAtt (m : List Word) : Nat := bits (nthW m 1) 14 11

/-- An attachment: manager, its port, X, Y, the tile's port, DIR. -/
structure Attach where
  mgr : Nat
  mport : Nat
  x : Nat
  y : Nat
  tport : Nat
  dir : Nat
  deriving DecidableEq, Repr

def mapAttachments (m : List Word) : List Attach :=
  ((m.drop 4).take (mapAtt m)).map (fun w =>
    ⟨b2n (bit w 35), bits w 34 33, bits w 32 26, bits w 25 19, bits w 18 17, bits w 16 15⟩)

/-- The tiles of a map: X, Y, ROT. -/
def mapTiles (m : List Word) : List (Nat × Nat × Nat) :=
  ((m.drop (4 + mapAtt m)).take (mapCount m)).map (fun w => (bits w 35 29, bits w 28 22, bits w 21 20))

/-- The words of a map before its signature block. -/
def mapLen (m : List Word) : Nat := 4 + mapAtt m + mapCount m

/-- Tiles stand in ascending order by Y, then by X, no position twice. -/
def ascending : List (Nat × Nat × Nat) → Bool
  | a :: b :: t => decide (128 * a.2.1 + a.1 < 128 * b.2.1 + b.1) && ascending (b :: t)
  | _ => true

/-- What R291 demands of a map beside its signature. -/
def mapFormOk (m : List Word) : Bool :=
  nthW m 0 = 0x3A11E5A9B && bits (nthW m 1) 35 32 = 1 && mapSect m ≠ 0 && 1 ≤ mapCount m && mapCount m ≤ 256
  && 1 ≤ mapAtt m && mapAtt m ≤ 8 && m.length = mapLen m + sigLen (m.drop (mapLen m)) && ascending (mapTiles m)
  && (mapAttachments m).all (fun a => (mapTiles m).any (fun t => t.1 = a.x && t.2.1 = a.y))

/-- A map verified in SECURE (R291, R470): event 75 for its block, event 267 for the map. -/
def State.checkMap (s : State) (m : List Word) : Bool × State :=
  if !mapFormOk m then (false, s.raise 267 0)
  else
    let r := s.checkBlock 0 (m.take (mapLen m)) (m.drop (mapLen m))
    (r.1, r.2.raiseIf (!r.1) 267 0)

/-- 0x00C MAP_SEND (R292): the map as the device holds it from now on, or that it was refused. A manager that takes it itself
belongs to its section from then on. -/
def hMapSend : Handler := fun _ ps s =>
  let r := s.checkMap ps
  if r.1 then
    let s := { r.2 with link := { r.2.link with map := ps, mapBad := false } }
    (.done, if s.isMgr then s.w Reg.LINK_POS_SECT (mapSect ps) else s)
  else (if mapFormOk ps then .denied else .badParam, { r.2 with link := { r.2.link with mapBad := true } })

/-! ### Census and position (R288, R289, R292) -/

/-- 0x00A CENSUS_CALL: the reply follows after 1 ms; a call that is not new is dropped. -/
def hCensusCall : Handler := fun c ps s =>
  let i := c.src.addr % 2
  let n := bits (nthW ps 0) 15 0
  if !s.newCall i n then (.wait, s)
  else
    let s := if c.src.via = .cawell then s.w (if i = 0 then Reg.LINK_MGR_ROUTE_UP_PRI else Reg.LINK_MGR_ROUTE_UP_PRI_B) c.inPort else s
    let nonce := s.draw % 2 ^ 36
    let s := s.drew 1
    (.wait, { s with link := { s.link with
      cnum := s.link.cnum.set i (some n), nonce := nonce
      census := some (c.req, h1Hops c.route, s.now + cyclesUs 1000) } }.raise 264 0)

/-- What a port reports (R288): 0 down, 1 worker, 2 manager, 3 border. -/
def State.farKind (s : State) (p : Nat) : Nat :=
  if !s.portUp p then 0 else if s.border p then 3 else s.r Reg.LINK_PORT_W1_FAR p

/-- The ten words of a census report. -/
def State.censusReport (s : State) (hops : Nat) : List Word :=
  let port (p : Nat) : List Word :=
    let f := (s.port p).far
    let k := s.farKind p
    if k = 0 then [0, 0]
    else
      [pack [(33, k), (31, bits (nthW f 0) 33 32), (29, bits (nthW f 0) 16 15), (21, bits (nthW f 0) 14 7),
        (20, bits (nthW f 5) 35 35), (18, bits (nthW f 5) 34 33)], nthW f 1]
  [word s.link.nonce, pack [(35, b2n (s.rb Reg.LINK_POS_PLACED)), (28, s.r Reg.LINK_POS_X), (21, s.r Reg.LINK_POS_Y), (16, hops),
    (13, s.stageCode)]] ++ (List.range 4).flatMap port

/-- CENSUS_REPLY: 1 ms after a new call. -/
def execCensusReply (s : State) : Host.Outcome State Fault Refusal :=
  match s.link.census with
  | none => .next (s.pass 0)
  | some (q, hops, due) =>
    let s := s.gotoNow due
    .next ({ s with link := { s.link with census := none } }.finish q (.reply (s.censusReport hops)))

/-- One step in a direction: 0 north, 1 east, 2 south, 3 west (R289). -/
def stepDir (x y : Int) (d : Nat) : Int × Int :=
  match d % 4 with
  | 0 => (x, y - 1)
  | 1 => (x + 1, y)
  | 2 => (x, y + 1)
  | _ => (x - 1, y)

/-- The far end of a port contradicts a position and rotation of this device (R289, R292). -/
def State.contradicts (s : State) (x y rot p : Nat) : Bool :=
  let c6 := s.farC6 p
  if !s.portUp p || s.border p || bits c6 35 34 ≠ 0 || !bit c6 31 then false
  else
    let d := (p + rot) % 4
    ((bits c6 30 24 : Int), (bits c6 23 17 : Int)) ≠ stepDir x y d || bits c6 16 15 ≠ (d + 2 + 4 - bits c6 33 32) % 4

/-- The entries of PLACE: NONCE, X, Y, ROT. -/
def placeEntries : List Word → List (Nat × Nat × Nat × Nat)
  | n :: w :: t => (n.toNat, bits w 35 29, bits w 28 22, bits w 21 20) :: placeEntries t
  | _ => []

/-- 0x00B PLACE (R292): a device without an entry of its own keeps what it has. -/
def hPlace : Handler := fun c ps s =>
  if ps.length % 2 = 0 then (.badParam, s)
  else
    match (placeEntries (ps.drop 1)).find? (fun e => e.1 = s.link.nonce) with
    | none => (.done, s)
    | some (_, x, y, rot) =>
      if s.link.mapBad || s.link.map.isEmpty || s.newCall c.src.addr (bits (nthW ps 0) 15 0)
          || !(mapTiles s.link.map).contains (x, y, rot) || (List.range 4).any (s.contradicts x y rot) then
        (.badParam, s.raise 268 0)
      else
        (.done, (s.ws [(Reg.LINK_POS_PLACED, 0, 1), (Reg.LINK_POS_X, 0, x), (Reg.LINK_POS_Y, 0, y), (Reg.LINK_POS_ROT, 0, rot),
          (Reg.LINK_POS_SECT, 0, mapSect s.link.map), (Reg.MGMT_STAGE_PLACED, 0, 1)]).raise 265 0)

/-- A census starts (R289): a fresh CNUM, CENSUS_CALL to all; a command that waits for an earlier one waits for this one. -/
def State.startCensus (s : State) (q : Option Req) : State :=
  let n := (s.mgr.censusNum + 1) % 65536
  (s.setMgr { s.mgr with censusNum := n, censusOpen := true, censusReq := if q.isSome then q else s.mgr.censusReq, censusAt := s.now, reports := [] }).sendCmd 0x00A toAll
    [pack [(16, mapSect s.link.map), (0, n)]]

/-- 0x502 LINK_CENSUS (R289): the completion follows the census. -/
def hLinkCensus : Handler := fun c _ s =>
  if !s.peelHeld then (.denied 1, s)
  else if s.mgr.censusOpen then (.busy, s)
  else (.accepted, s.startCensus (some c.req))

/-! ### LINK_WAKE (R277) -/

/-- 0x501 LINK_WAKE: WAKE superblocks for 1 ms on each named port, then DONE. -/
def hLinkWake : Handler := fun c ps s =>
  let ports := (List.range 4).filter (fun p => bit (nthW ps 0) p)
  match ports with
  | [] => (.done, s)
  | p0 :: _ =>
    (.wait, ports.foldl (fun (x : State) p =>
      x.setPort p { x.port p with wakeEnd := some (s.now + cyclesUs 1000, if p = p0 then some c.req else none) }) s)

/-- A port has sent WAKE for 1 ms: SLEEP is cleared, and the command is answered. -/
def State.wakeDone (s : State) (p : Nat) : State :=
  match (s.port p).wakeEnd with
  | none => s
  | some (t, q) =>
    if s.now < t then s
    else
      let s := (s.setPort p { s.port p with wakeEnd := none }).hw Reg.LINK_PORT_W0_SLEEP 0 p
      match q with
      | some r => s.finish r .done
      | none => s

/-- Every port whose WAKE has ended. -/
def State.wakesDone (s : State) : State := (List.range 4).foldl State.wakeDone s

end Sys2Proof.Machine
end

