-- ==== Sys2Proof/Machine/Commands.lean ====
section
/-! DEFINITION. The command interpreter: the assigned opcodes (R428, R431), the checks of R421 in their order, admission (R470), the
reply cache (R423), sealed commands (R469), and what a manager does with a command (R312). -/

namespace Sys2Proof.Machine

/-! ### The assigned opcodes -/

/-- An assigned opcode: its number, the fewest and the most parameter words it takes, what it does. -/
structure OpSpec where
  opcode : Nat
  low : Nat
  high : Nat
  run : Handler

def opPing : OpSpec := ⟨0x001, 0, 0, hPing⟩
def opReadReg : OpSpec := ⟨0x002, 1, 1, hReadReg⟩
def opWriteReg : OpSpec := ⟨0x003, 1, 1018, hWriteReg⟩
def opSafeDark : OpSpec := ⟨0x004, 1, 1, hSafeDark⟩
def opRouteSet : OpSpec := ⟨0x005, 1, 1018, hRouteSet⟩
def opTimeRead : OpSpec := ⟨0x006, 1, 1, hTimeRead⟩
def opBisqueLoad : OpSpec := ⟨0x007, 1, 1, hBisqueLoad⟩
def opStageStatus : OpSpec := ⟨0x008, 0, 0, hStageStatus⟩
def opLinkReset : OpSpec := ⟨0x009, 1, 1, hLinkReset⟩
def opCensusCall : OpSpec := ⟨0x00A, 1, 1, hCensusCall⟩
def opPlace : OpSpec := ⟨0x00B, 1, 1018, hPlace⟩
def opMapSend : OpSpec := ⟨0x00C, 0, 1018, hMapSend⟩
def opTakeover : OpSpec := ⟨0x00D, 1, 1, hTakeover⟩
def opBakeOpen : OpSpec := ⟨0x101, 3, 3, hBakeOpen⟩
def opBakeWrite : OpSpec := ⟨0x102, 0, 1018, hBakeWrite⟩
def opBakeClose : OpSpec := ⟨0x103, 0, 0, hBakeClose⟩
def opLogRead : OpSpec := ⟨0x104, 2, 2, hLogRead⟩
def opBakeAbort : OpSpec := ⟨0x105, 0, 0, hBakeAbort⟩
def opAuditAccept : OpSpec := ⟨0x106, 0, 0, hAuditAccept⟩
def opPowerState : OpSpec := ⟨0x107, 3, 3, hPowerState⟩
def opSoftReset : OpSpec := ⟨0x108, 3, 3, hSoftReset⟩
def opBisqueWrite : OpSpec := ⟨0x109, 3, 3, hBisqueWrite⟩
def opOwnerFlashWrite : OpSpec := ⟨0x10A, 3, 3, hOwnerFlashWrite⟩
def opUpdateStage : OpSpec := ⟨0x111, 2, 2, hUpdateStage⟩
def opUpdateActivate : OpSpec := ⟨0x112, 2, 2, hUpdateActivate⟩
def opUpdateCommit : OpSpec := ⟨0x113, 0, 0, hUpdateCommit⟩
def opClaim : OpSpec := ⟨0x201, 22, 22, hClaim⟩
def opOwnerTransfer : OpSpec := ⟨0x202, 23, 1018, hOwnerTransfer⟩
def opSessionHello : OpSpec := ⟨0x203, 22, 22, hSessionHello⟩
def opSessionAuth : OpSpec := ⟨0x204, 2, 1018, hSessionAuth⟩
def opAttest : OpSpec := ⟨0x205, 13, 13, hAttest⟩
def opKeyLoad : OpSpec := ⟨0x206, 2, 1018, hKeyLoad⟩
def opKeyDrop : OpSpec := ⟨0x207, 1, 1, hKeyDrop⟩
def opProvision : OpSpec := ⟨0x208, 64, 1018, hProvision⟩
def opDebugUnlock : OpSpec := ⟨0x209, 2, 1018, hDebugUnlock⟩
def opFloorSet : OpSpec := ⟨0x20A, 3, 1018, hFloorSet⟩
def opSessionClose : OpSpec := ⟨0x20B, 1, 1, hSessionClose⟩
def opPolicySet : OpSpec := ⟨0x20C, 2, 1018, hPolicySet⟩
def opTimeSchedule : OpSpec := ⟨0x401, 6, 6, hTimeSchedule⟩
def opTimePhase : OpSpec := ⟨0x402, 4, 4, hTimePhase⟩
def opTimeAdjust : OpSpec := ⟨0x403, 3, 3, hTimeAdjust⟩
def opLinkWake : OpSpec := ⟨0x501, 1, 1, hLinkWake⟩
def opLinkCensus : OpSpec := ⟨0x502, 0, 0, hLinkCensus⟩
def opMemWrite : OpSpec := ⟨0x601, 2, 1018, hMemWrite⟩
def opMemRead : OpSpec := ⟨0x602, 3, 3, hMemRead⟩
def opEncodeSpySub : OpSpec := ⟨0x801, 1, 1, hSpySub⟩
def opKilnCommit : OpSpec := ⟨0x904, 2, 2, hKilnCommit⟩
def opKilnLutLoad : OpSpec := ⟨0x905, 2, 2, hKilnLutLoad⟩
def opKilnRelease : OpSpec := ⟨0x906, 1, 1, hKilnRelease⟩
def opKilnSurfDefine : OpSpec := ⟨0x907, 4, 4, hSurfDefine⟩
def opGlazeLutLoad : OpSpec := ⟨0xA01, 2, 2, hGlazeLutLoad⟩
def opGlazeSetLoad : OpSpec := ⟨0xA02, 3, 3, hGlazeSetLoad⟩
def opGlazeCtxLoad : OpSpec := ⟨0xA03, 5, 5, hCtxLoad⟩
def opGlazeCtxRead : OpSpec := ⟨0xA04, 4, 4, hCtxRead⟩
def opCalLossLoad : OpSpec := ⟨0xA05, 2, 2, hLossLoad⟩
def opCalRun : OpSpec := ⟨0xA06, 1, 1, hCalRun⟩
def opCalSave : OpSpec := ⟨0xA07, 1, 1, hCalSave⟩
def opEmitFaultRead : OpSpec := ⟨0xB01, 2, 2, hFaultRead⟩
def opEmitFaultClear : OpSpec := ⟨0xB02, 1, 1, hFaultClear⟩
def opStampGo : OpSpec := ⟨0xC01, 0, 0, hStampGo⟩
def opStampAbort : OpSpec := ⟨0xC02, 0, 0, hStampAbortAll⟩
def opDeflateJob : OpSpec := ⟨0xD01, 5, 21, hDeflateJob⟩
def opDeflateSupply : OpSpec := ⟨0xD02, 3, 3, hDeflateSupply⟩
def opDeflateAbort : OpSpec := ⟨0xD03, 1, 1, hDeflateAbort⟩
/-- SEALED_CMD is opened by the interpreter itself. -/
def opSealedCmd : OpSpec := ⟨0x210, 8, 1018, fun _ _ s => (.badParam, s)⟩

def opTable : List OpSpec :=
  [opPing, opReadReg, opWriteReg, opSafeDark, opRouteSet, opTimeRead, opBisqueLoad, opStageStatus, opLinkReset, opCensusCall,
   opPlace, opMapSend, opTakeover, opBakeOpen, opBakeWrite, opBakeClose, opLogRead, opBakeAbort, opAuditAccept, opPowerState,
   opSoftReset, opBisqueWrite, opOwnerFlashWrite, opUpdateStage, opUpdateActivate, opUpdateCommit]
  ++ [opClaim, opOwnerTransfer, opSessionHello, opSessionAuth, opAttest, opKeyLoad, opKeyDrop, opProvision, opDebugUnlock,
   opFloorSet, opSessionClose, opPolicySet, opSealedCmd, opTimeSchedule, opTimePhase, opTimeAdjust, opLinkWake, opLinkCensus,
   opMemWrite, opMemRead, opEncodeSpySub]
  ++ [opKilnCommit, opKilnLutLoad, opKilnRelease, opKilnSurfDefine, opGlazeLutLoad, opGlazeSetLoad, opGlazeCtxLoad, opGlazeCtxRead,
   opCalLossLoad, opCalRun, opCalSave, opEmitFaultRead, opEmitFaultClear, opStampGo, opStampAbort, opDeflateJob, opDeflateSupply,
   opDeflateAbort]

/-- The assignment of an opcode, if a chapter makes one. -/
def opFind (n : Nat) : Option OpSpec := opTable.find? (fun o => o.opcode = n)

/-! ### Step 4: admission (R466, R470) -/

/-- Opcodes admitted without a session. -/
def openOp (n : Nat) : Bool := [0x001, 0x006, 0x008, 0x205, 0x203, 0x204, 0x20B, 0x210].contains n
/-- Opcodes admitted in an OBSERVE session. -/
def observeOp (n : Nat) : Bool := [0x001, 0x002, 0x006, 0x008, 0x104, 0x602, 0x205, 0x801].contains n

/-- What admission holds against an opcode from a source. -/
def State.admission (s : State) (src : Source) (n : Nat) : Option Ans :=
  match src.seals with
  | (sid, _) :: _ =>
    match (s.sessionOf sid).map (fun i => s.r Reg.SECURE_SESSION_STATE i) with
    | some 2 => if n = 0x201 then some .denied else none
    | some 3 => if observeOp n then none else some .denied
    | _ => some .noSession
  | [] =>
    match src.via with
    | .udp => if openOp n then none else some .noSession
    | .spi => if s.rb Reg.MGMT_STRAPS_CLAIM || openOp n then none else some .noSession
    | .cawell => if [0x201, 0x203, 0x204, 0x20B, 0x210].contains n then some .denied else none

/-! ### Steps 5 and 6: role and stage (R15, R17, R428, R431, R541) -/

/-- The block that an interpreted opcode belongs to; CLOCK and TIME share a group. -/
def opBlock (n : Nat) : Nat := if 0x400 ≤ n then n / 256 else n / 256 - 1

/-- Step 5. -/
def State.roleBar (s : State) (n : Nat) (ps : List Word) : Bool :=
  if n < 0x100 then (n = 2 || n = 3) && s.accessBar ps = some .resource
  else s.role = 3 || !blockOn s.role (opBlock n) || (!s.isMgr && [0x106, 0x502, 0x801].contains n) || (s.isMgr && n = 0x107)

/-- Commands that a block serves only with domains that are held off while others of it are on (R541): the Glaze's pipelines. -/
def State.partHeld (s : State) (n : Nat) : Bool :=
  [0xA01, 0xA02, 0xA05].contains n && (s.domain 68 ≠ 2 || s.domain 69 ≠ 2)

/-- Step 6. -/
def State.stageBar (s : State) (n : Nat) (ps : List Word) : Option Ans :=
  if n < 0x100 then
    if s.role ≠ 3 && s.stage = 0 && n ≠ 1 && n ≠ 8 then some .stage
    else if n = 2 || n = 3 then s.accessBar ps
    else none
  else if !s.mp then some .stage
  else if s.blockFailed (opBlock n) then some .fault
  else if s.blockHeld (opBlock n) || s.partHeld n || ([0x109, 0x111, 0x601, 0x602].contains n && !s.dramUp) then some .stage
  else none

/-! ### Steps 1 to 8 -/

/-- What a command read from registers shows of the moment. -/
def State.refresh (s : State) : State := (s.showStage).showIdle

/-- A newest entry of the reply cache, which keeps 64 (R423). -/
def State.cacheAdd (s : State) (e : CacheEntry) : State :=
  let rest := s.cmd.cache.filter (fun (x : CacheEntry) =>
    !(x.src = e.src && x.opcode = e.opcode && x.tag = e.tag && x.crc = e.crc))
  { s with cmd := { s.cmd with cache := (e :: rest).take 64 } }

/-- The entry of the reply cache that a command matches (R423). -/
def State.cacheHit (s : State) (n : Nat) (c : Cmd) : Option CacheEntry :=
  s.cmd.cache.find? (fun (e : CacheEntry) =>
    e.src = c.src.key && e.opcode = n && e.tag = c.tag && e.crc = crcWords c.params && decide (s.now < e.at_ + cyclesS 2))

/-- Longer replies than a sealed reply holds are asked for (R469): 8 words for each session around the command. -/
def sealTooLong (n : Nat) (c : Cmd) : Bool :=
  let room := 1018 - 8 * c.src.seals.length
  !c.src.seals.isEmpty &&
    ((n = 0x002 && room < bits (nthW c.params 0) 31 20) || (n = 0x602 && room < bits (nthW c.params 2) 9 0)
      || (n = 0x104 && room < 4 * bits (nthW c.params 1) 7 0))

/-- Steps 7 and 8 (R421): the command is executed, cached and answered. -/
def State.execute (s : State) (o : OpSpec) (c : Cmd) : State :=
  let q : Ctx := ⟨o.opcode, c.src, c.tag, c.route, c.inPort⟩
  let e : CacheEntry := ⟨c.src.key, o.opcode, c.tag, crcWords c.params, s.now, 0x100, 0, [], false⟩
  let old := s.refresh
  let s1 := old.cacheAdd e
  let r := if c.params.length < o.low || o.high < c.params.length || sealTooLong o.opcode c then (.badParam, s1) else o.run q c.params s1
  if r.1.code = 0x100 then r.2
  else (r.2.cached c.src o.opcode c.tag r.1.code r.1.detail r.1.words).sendReply old c.src o.opcode c.tag r.1

/-- Steps 1 to 6 and the cache: the answer that stands against the command, or none; and the state after the fence's effects. `some
none` is an answer from the cache of which no reply has been sent yet. -/
def State.judgeCmd (s : State) (o : Option OpSpec) (n : Nat) (c : Cmd) : Option (Option Ans) × State :=
  if 1018 < c.params.length then (some (some .badLength), s)
  else
    let f := match c.fence with
      | some w => s.fenceCheck w
      | none => (none, s)
    match f.1 with
    | some a => (some (some a), f.2)
    | none =>
      match s.cacheHit n c with
      | some e => (some (if e.sent then some ⟨e.code, e.detail, e.words⟩ else none), f.2)
      | none =>
        let t := f.2
        (if o.isNone then some (some .badOpcode)
         else match t.admission c.src n with
          | some a => some (some a)
          | none => if t.roleBar n c.params then some (some .resource) else (t.stageBar n c.params).map some, t)

/-- A sealed command opened (R469): the session's entry, and the words of the inner packet. -/
def State.openSealed (s : State) (c : Cmd) : Ans ⊕ (Nat × List Word) :=
  let ps := c.params
  let sid := bits (nthW ps 0) 35 20
  let ctr := (nthW ps 1).toNat
  if ps.length < 8 || ps.length % 2 = 1 then .inl .badParam
  else
    match s.sessionOf sid with
    | none => .inl .noSession
    | some i =>
      let h := s.hostSession i
      if s.r Reg.SECURE_SESSION_STATE i < 2 then .inl .noSession
      else if ctr < h.ctrUp then .inl (.denied 3)
      else
        let body := (ps.drop 2).take (ps.length - 6)
        let tag := be32 (ps.drop (ps.length - 4))
        let aad := packBytes (((packetWords 0x210 c.tag c.route ps).take 2) ++ ps.take 2)
        match Config.gcmOpen (sessionKey sid h 1) (sessionIv 1 ctr) aad (packBytes body) tag with
        | none => .inl (.denied 2)
        | some plain => .inr (i, unpackBytes plain)

/-- A route word that addresses tiles (R312). -/
def toTiles (route : Word) : Bool := h1Type route ≠ 3

/-- The inner packet in its own length: words beyond 2 + COUNT are the pair's fill. -/
def innerOk (ws : List Word) : Bool := bits (nthW ws 0) 11 0 + 2 + bits (nthW ws 0) 11 0 % 2 = ws.length

/-- A command that a manager forwards, queues or refuses as its state has it (R312, R319, R323). -/
def State.onward_ (s : State) (n : Nat) (c : Cmd) : State :=
  let st := s.r Reg.MGR_PAIR_STATUS_STATE
  if st < 3 then s.sendReply s c.src n c.tag (.denied 1)
  else if st = 4 then s.setMgr { s.mgr with held := s.mgr.held ++ [(n, c)] }
  else s.forwardCmd n c

/-- A command at the interpreter; `fuel` bounds how deep sealed commands lie in one another. -/
def State.interpret (fuel : Nat) (s : State) (o : Option OpSpec) (n : Nat) (c : Cmd) : State :=
  if s.isMgr && toTiles c.route && c.src.via ≠ .cawell && n ≠ 0x210 then
    if 1018 < c.params.length then s.sendReply s c.src n c.tag .badLength
    else
      match s.admission c.src n with
      | some a => s.sendReply s c.src n c.tag a
      | none => s.onward_ n c
  else
    match s.judgeCmd o n c with
    | (some (some a), t) => t.sendReply t c.src n c.tag a
    | (some none, t) => t
    | (none, t) =>
      if n ≠ 0x210 then
        match o with
        | some p => t.execute p c
        | none => t
      else
        let e : CacheEntry := ⟨c.src.key, n, c.tag, crcWords c.params, t.now, 0x100, 0, [], false⟩
        let t := (t.refresh).cacheAdd e
        match if toTiles c.route then .inl .badParam else t.openSealed c with
        | .inl a =>
          let t := t.raiseIf (a = .denied 3) 74 0
          (t.cached c.src n c.tag a.code a.detail a.words).sendReply t c.src n c.tag a
        | .inr (i, ws) =>
          let t := (t.setHost i { t.hostSession i with ctrUp := (nthW c.params 1).toNat + 1 }).useSession i
          let m := bits (nthW ws 0) 35 24
          let inner : Cmd := { c with src := { c.src with seals := (bits (nthW c.params 0) 35 20, c.tag) :: c.src.seals }
                                      tag := bits (nthW ws 0) 23 12, route := nthW ws 1
                                      params := (ws.drop 2).take (bits (nthW ws 0) 11 0), fence := none }
          if !innerOk ws then t.sendReply t inner.src m inner.tag .badLength
          else
            match fuel with
            | 0 => t
            | fuel + 1 => t.interpret fuel (opFind m) m inner

/-! ### Who may send (R15, R426, R466) -/

/-- A CMD packet of the other manager at a manager: R313 applies; a TAKEOVER above the own fence makes it step down (R319). -/
def State.mgrTakes (s : State) (n : Nat) (c : Cmd) : State :=
  match c.fence with
  | none => s
  | some w =>
    let r := s.fenceCheck w
    if r.1.isSome then r.2 else if n = 0x00D then r.2.yieldTo (fenceValue w) else r.2

/-- A command that reached the device, by the transport its source names. -/
def State.take (s : State) (o : Option OpSpec) (n : Nat) (c : Cmd) : State :=
  if !s.alive then s
  else
    let fuel := c.params.length
    match c.src.via with
    | .spi => s.interpret fuel o n c
    | .udp => if s.isMgr then s.interpret fuel o n c else s
    | .cawell =>
      if s.role = 3 || !s.routeHits c.route then s
      else if s.restricted c.inPort n then s
      else if s.isMgr then s.mgrTakes n c
      else s.interpret fuel o n c

end Sys2Proof.Machine
end

