-- ==== Sys2Proof/Machine/OpcodeRows.lean ====
section
/-! DEFINITION. One row for each opcode: its command packet at the interpreter of R421, with the handler that the opcode's chapter
gives it. -/

namespace Sys2Proof.Machine

/-- A command packet of one opcode reaches the device. -/
def State.arrive (s : State) (o : OpSpec) (c : Cmd) : State := ((s.pass c.dt).wakesDone).take (some o) o.opcode c

/-- PING, opcode 0x001 (R428). -/
def execPing (c : Cmd) (s : State) : Host.Outcome State Fault Refusal := .next (s.arrive opPing c)

/-- READ_REG, opcode 0x002 (R429). -/
def execReadReg (c : Cmd) (s : State) : Host.Outcome State Fault Refusal := .next (s.arrive opReadReg c)

/-- WRITE_REG, opcode 0x003 (R430). -/
def execWriteReg (c : Cmd) (s : State) : Host.Outcome State Fault Refusal := .next (s.arrive opWriteReg c)

/-- SAFE_DARK, opcode 0x004 (R428). -/
def execSafeDark (c : Cmd) (s : State) : Host.Outcome State Fault Refusal := .next (s.arrive opSafeDark c)

/-- ROUTE_SET, opcode 0x005 (R293). -/
def execRouteSet (c : Cmd) (s : State) : Host.Outcome State Fault Refusal := .next (s.arrive opRouteSet c)

/-- TIME_READ, opcode 0x006 (R352). -/
def execTimeRead (c : Cmd) (s : State) : Host.Outcome State Fault Refusal := .next (s.arrive opTimeRead c)

/-- BISQUE_LOAD, opcode 0x007 (R507). -/
def execBisqueLoad (c : Cmd) (s : State) : Host.Outcome State Fault Refusal := .next (s.arrive opBisqueLoad c)

/-- STAGE_STATUS, opcode 0x008 (R428). -/
def execStageStatus (c : Cmd) (s : State) : Host.Outcome State Fault Refusal := .next (s.arrive opStageStatus c)

/-- LINK_RESET, opcode 0x009 (R294). -/
def execLinkReset (c : Cmd) (s : State) : Host.Outcome State Fault Refusal := .next (s.arrive opLinkReset c)

/-- CENSUS_CALL, opcode 0x00A (R288). -/
def execCensusCall (c : Cmd) (s : State) : Host.Outcome State Fault Refusal := .next (s.arrive opCensusCall c)

/-- PLACE, opcode 0x00B (R292). -/
def execPlace (c : Cmd) (s : State) : Host.Outcome State Fault Refusal := .next (s.arrive opPlace c)

/-- MAP_SEND, opcode 0x00C (R292). -/
def execMapSend (c : Cmd) (s : State) : Host.Outcome State Fault Refusal := .next (s.arrive opMapSend c)

/-- TAKEOVER, opcode 0x00D (R317). -/
def execTakeover (c : Cmd) (s : State) : Host.Outcome State Fault Refusal := .next (s.arrive opTakeover c)

/-- BAKE_OPEN, opcode 0x101 (R438). -/
def execBakeOpen (c : Cmd) (s : State) : Host.Outcome State Fault Refusal := .next (s.arrive opBakeOpen c)

/-- BAKE_WRITE, opcode 0x102 (R438). -/
def execBakeWrite (c : Cmd) (s : State) : Host.Outcome State Fault Refusal := .next (s.arrive opBakeWrite c)

/-- BAKE_CLOSE, opcode 0x103 (R440). -/
def execBakeClose (c : Cmd) (s : State) : Host.Outcome State Fault Refusal := .next (s.arrive opBakeClose c)

/-- LOG_READ, opcode 0x104 (R437). -/
def execLogRead (c : Cmd) (s : State) : Host.Outcome State Fault Refusal := .next (s.arrive opLogRead c)

/-- BAKE_ABORT, opcode 0x105 (R438). -/
def execBakeAbort (c : Cmd) (s : State) : Host.Outcome State Fault Refusal := .next (s.arrive opBakeAbort c)

/-- AUDIT_ACCEPT, opcode 0x106 (R446). -/
def execAuditAccept (c : Cmd) (s : State) : Host.Outcome State Fault Refusal := .next (s.arrive opAuditAccept c)

/-- POWER_STATE, opcode 0x107 (R513). -/
def execPowerState (c : Cmd) (s : State) : Host.Outcome State Fault Refusal := .next (s.arrive opPowerState c)

/-- SOFT_RESET, opcode 0x108 (R511). -/
def execSoftReset (c : Cmd) (s : State) : Host.Outcome State Fault Refusal := .next (s.arrive opSoftReset c)

/-- BISQUE_WRITE, opcode 0x109 (R508). -/
def execBisqueWrite (c : Cmd) (s : State) : Host.Outcome State Fault Refusal := .next (s.arrive opBisqueWrite c)

/-- OWNER_FLASH_WRITE, opcode 0x10A (R537). -/
def execOwnerFlashWrite (c : Cmd) (s : State) : Host.Outcome State Fault Refusal := .next (s.arrive opOwnerFlashWrite c)

/-- UPDATE_STAGE, opcode 0x111 (R475). -/
def execUpdateStage (c : Cmd) (s : State) : Host.Outcome State Fault Refusal := .next (s.arrive opUpdateStage c)

/-- UPDATE_ACTIVATE, opcode 0x112 (R476). -/
def execUpdateActivate (c : Cmd) (s : State) : Host.Outcome State Fault Refusal := .next (s.arrive opUpdateActivate c)

/-- UPDATE_COMMIT, opcode 0x113 (R476). -/
def execUpdateCommit (c : Cmd) (s : State) : Host.Outcome State Fault Refusal := .next (s.arrive opUpdateCommit c)

/-- CLAIM, opcode 0x201 (R457). -/
def execClaim (c : Cmd) (s : State) : Host.Outcome State Fault Refusal := .next (s.arrive opClaim c)

/-- OWNER_TRANSFER, opcode 0x202 (R458). -/
def execOwnerTransfer (c : Cmd) (s : State) : Host.Outcome State Fault Refusal := .next (s.arrive opOwnerTransfer c)

/-- SESSION_HELLO, opcode 0x203 (R468). -/
def execSessionHello (c : Cmd) (s : State) : Host.Outcome State Fault Refusal := .next (s.arrive opSessionHello c)

/-- SESSION_AUTH, opcode 0x204 (R468). -/
def execSessionAuth (c : Cmd) (s : State) : Host.Outcome State Fault Refusal := .next (s.arrive opSessionAuth c)

/-- ATTEST, opcode 0x205 (R460). -/
def execAttest (c : Cmd) (s : State) : Host.Outcome State Fault Refusal := .next (s.arrive opAttest c)

/-- KEY_LOAD, opcode 0x206 (R463). -/
def execKeyLoad (c : Cmd) (s : State) : Host.Outcome State Fault Refusal := .next (s.arrive opKeyLoad c)

/-- KEY_DROP, opcode 0x207 (R464). -/
def execKeyDrop (c : Cmd) (s : State) : Host.Outcome State Fault Refusal := .next (s.arrive opKeyDrop c)

/-- PROVISION, opcode 0x208 (R461). -/
def execProvision (c : Cmd) (s : State) : Host.Outcome State Fault Refusal := .next (s.arrive opProvision c)

/-- DEBUG_UNLOCK, opcode 0x209 (R471). -/
def execDebugUnlock (c : Cmd) (s : State) : Host.Outcome State Fault Refusal := .next (s.arrive opDebugUnlock c)

/-- FLOOR_SET, opcode 0x20A (R455). -/
def execFloorSet (c : Cmd) (s : State) : Host.Outcome State Fault Refusal := .next (s.arrive opFloorSet c)

/-- SESSION_CLOSE, opcode 0x20B (R468). -/
def execSessionClose (c : Cmd) (s : State) : Host.Outcome State Fault Refusal := .next (s.arrive opSessionClose c)

/-- POLICY_SET, opcode 0x20C (R472). -/
def execPolicySet (c : Cmd) (s : State) : Host.Outcome State Fault Refusal := .next (s.arrive opPolicySet c)

/-- TIME_SCHEDULE, opcode 0x401 (R363). -/
def execTimeSchedule (c : Cmd) (s : State) : Host.Outcome State Fault Refusal := .next (s.arrive opTimeSchedule c)

/-- TIME_PHASE, opcode 0x402 (R367). -/
def execTimePhase (c : Cmd) (s : State) : Host.Outcome State Fault Refusal := .next (s.arrive opTimePhase c)

/-- TIME_ADJUST, opcode 0x403 (R352). -/
def execTimeAdjust (c : Cmd) (s : State) : Host.Outcome State Fault Refusal := .next (s.arrive opTimeAdjust c)

/-- LINK_WAKE, opcode 0x501 (R277). -/
def execLinkWake (c : Cmd) (s : State) : Host.Outcome State Fault Refusal := .next (s.arrive opLinkWake c)

/-- LINK_CENSUS, opcode 0x502 (R289). -/
def execLinkCensus (c : Cmd) (s : State) : Host.Outcome State Fault Refusal := .next (s.arrive opLinkCensus c)

/-- MEM_WRITE, opcode 0x601 (R394). -/
def execMemWrite (c : Cmd) (s : State) : Host.Outcome State Fault Refusal := .next (s.arrive opMemWrite c)

/-- MEM_READ, opcode 0x602 (R394). -/
def execMemRead (c : Cmd) (s : State) : Host.Outcome State Fault Refusal := .next (s.arrive opMemRead c)

/-- ENCODE_SPY_SUB, opcode 0x801 (R345). -/
def execEncodeSpySub (c : Cmd) (s : State) : Host.Outcome State Fault Refusal := .next (s.arrive opEncodeSpySub c)

/-- KILN_COMMIT, opcode 0x904 (R30). -/
def execKilnCommit (c : Cmd) (s : State) : Host.Outcome State Fault Refusal := .next (s.arrive opKilnCommit c)

/-- KILN_LUT_LOAD, opcode 0x905 (R124). -/
def execKilnLutLoad (c : Cmd) (s : State) : Host.Outcome State Fault Refusal := .next (s.arrive opKilnLutLoad c)

/-- KILN_RELEASE, opcode 0x906 (R148). -/
def execKilnRelease (c : Cmd) (s : State) : Host.Outcome State Fault Refusal := .next (s.arrive opKilnRelease c)

/-- KILN_SURF_DEFINE, opcode 0x907 (R146). -/
def execKilnSurfDefine (c : Cmd) (s : State) : Host.Outcome State Fault Refusal := .next (s.arrive opKilnSurfDefine c)

/-- GLAZE_LUT_LOAD, opcode 0xA01 (R178). -/
def execGlazeLutLoad (c : Cmd) (s : State) : Host.Outcome State Fault Refusal := .next (s.arrive opGlazeLutLoad c)

/-- GLAZE_SET_LOAD, opcode 0xA02 (R179). -/
def execGlazeSetLoad (c : Cmd) (s : State) : Host.Outcome State Fault Refusal := .next (s.arrive opGlazeSetLoad c)

/-- GLAZE_CTX_LOAD, opcode 0xA03 (R175). -/
def execGlazeCtxLoad (c : Cmd) (s : State) : Host.Outcome State Fault Refusal := .next (s.arrive opGlazeCtxLoad c)

/-- GLAZE_CTX_READ, opcode 0xA04 (R176). -/
def execGlazeCtxRead (c : Cmd) (s : State) : Host.Outcome State Fault Refusal := .next (s.arrive opGlazeCtxRead c)

/-- CAL_LOSS_LOAD, opcode 0xA05 (R188). -/
def execCalLossLoad (c : Cmd) (s : State) : Host.Outcome State Fault Refusal := .next (s.arrive opCalLossLoad c)

/-- CAL_RUN, opcode 0xA06 (R196). -/
def execCalRun (c : Cmd) (s : State) : Host.Outcome State Fault Refusal := .next (s.arrive opCalRun c)

/-- CAL_SAVE, opcode 0xA07 (R201). -/
def execCalSave (c : Cmd) (s : State) : Host.Outcome State Fault Refusal := .next (s.arrive opCalSave c)

/-- EMIT_FAULT_READ, opcode 0xB01 (R251). -/
def execEmitFaultRead (c : Cmd) (s : State) : Host.Outcome State Fault Refusal := .next (s.arrive opEmitFaultRead c)

/-- EMIT_FAULT_CLEAR, opcode 0xB02 (R251). -/
def execEmitFaultClear (c : Cmd) (s : State) : Host.Outcome State Fault Refusal := .next (s.arrive opEmitFaultClear c)

/-- STAMP_GO, opcode 0xC01 (R484). -/
def execStampGo (c : Cmd) (s : State) : Host.Outcome State Fault Refusal := .next (s.arrive opStampGo c)

/-- STAMP_ABORT, opcode 0xC02 (R486). -/
def execStampAbort (c : Cmd) (s : State) : Host.Outcome State Fault Refusal := .next (s.arrive opStampAbort c)

/-- DEFLATE_JOB, opcode 0xD01 (R491). -/
def execDeflateJob (c : Cmd) (s : State) : Host.Outcome State Fault Refusal := .next (s.arrive opDeflateJob c)

/-- DEFLATE_SUPPLY, opcode 0xD02 (R493). -/
def execDeflateSupply (c : Cmd) (s : State) : Host.Outcome State Fault Refusal := .next (s.arrive opDeflateSupply c)

/-- DEFLATE_ABORT, opcode 0xD03 (R493). -/
def execDeflateAbort (c : Cmd) (s : State) : Host.Outcome State Fault Refusal := .next (s.arrive opDeflateAbort c)

/-- SEALED_CMD, opcode 0x210 (R469). -/
def execSealedCmd (c : Cmd) (s : State) : Host.Outcome State Fault Refusal := .next (s.arrive opSealedCmd c)

end Sys2Proof.Machine
end

