-- ==== Sys2Proof/Machine/MgrPeer.lean ====
section
/-! DEFINITION. The pair of managers: renewals and missed ticks, bridging, the claim, stepping down, the mirror, the hand-back
(R314–R323). -/

namespace Sys2Proof.Machine

/-! ### Peer messages (R315) -/

/-- The paths of PATHS: bit 2 mesh, bit 1 UDP, bit 0 pins. -/
def State.paths (s : State) : Nat := s.r Reg.MGR_CTRL_PATHS
def State.pathOn (s : State) (b : Nat) : Bool := s.paths.testBit b

/-- The fence value a manager puts into Q1: its own while it holds the peel, else the highest it has seen. -/
def State.ownFence (s : State) : Nat := if s.peelHeld then s.mgr.fence else peelValue s.regs

/-- Q0–Q4. -/
def State.peerHead (s : State) (msg q4 : Nat) : List Word :=
  [pack [(32, msg), (31, b2n s.peelHeld), (30, b2n (s.r Reg.MGR_PAIR_STATUS_STATE = 4)), (29, s.r Reg.MGR_CTRL_IDX)],
   fenceWord s.ownFence, word (s.time.last / 2 ^ 36), word s.time.last, word q4]

/-- A peer message leaves on every enabled message path. -/
def State.sendPeer (s : State) (q : List Word) : State :=
  let s := if s.pathOn 2 then s.sendMgr 0 (1 - s.r Reg.MGR_CTRL_IDX) (fenceWord s.ownFence :: q) else s
  if s.pathOn 1 then s.emit .peer ([1, s.r Reg.MGR_NET_PEER_PORT] ++ s.netTag) q else s

/-- A fence value seen in a peer message is kept as any other (R313). -/
def State.noteFence (s : State) (v : Nat) : State :=
  if !s.rb Reg.LINK_PEEL_SEEN then (if v = 0 then s else s.storeFence v)
  else if peelValue s.regs < v then (s.storeFence v).raise 319 (fenceDetail v) else s

/-! ### The mirror sent (R321)

The layout of the mirror body is between KQ-3640 devices only and the spec does not give it; the one here is the model's (assumption
log 37). A mirror is a list of parts by kind: 1 census, 2 wall map, 3 routes, 4 servos and tick phase, 5 bakes, 6 scheduled
changes, 7 expected stamps, 8 groups, 9 flows, 10 addresses. -/

/-- A worker in the census part: position, rotation, port, NONCE, Δ, next offset, RTP sequence number, SSRC, stream state. -/
def Worker.words (w : Worker) : List Word :=
  [pack [(29, w.x), (22, w.y), (20, w.rot), (18, w.port), (17, b2n w.ssrc.isSome), (16, b2n w.sync), (15, b2n w.head.isSome)],
   word w.nonce, word w.delta, word w.nextOff, word w.rtpNext, word (w.ssrc.getD 0), word w.skip, w.head.getD 0, word w.left]

/-- A worker read back; what the mirror does not carry stays as `old` has it. -/
def Worker.ofWords (old : Worker) (l : List Word) : Worker :=
  let a := nthW l 0
  { old with
    x := bits a 35 29, y := bits a 28 22, rot := bits a 21 20, port := bits a 19 18, nonce := (nthW l 1).toNat
    ssrc := if old.ssrc.isSome then old.ssrc else if bit a 17 then some (nthW l 5).toNat else none
    rtpNext := if old.ssrc.isSome then old.rtpNext else bits (nthW l 4) 15 0 }

/-- A bake in its part, and the bakes of a part. -/
def SentBake.words (b : SentBake) : List Word :=
  [word b.epoch] ++ split48 b.k ++ [b.route, word b.writes.length] ++ b.writes.flatMap (fun p => [word p.1, p.2])

def bakesOf : Nat → List Word → List SentBake
  | 0, _ => []
  | n + 1, l =>
    if l.length < 5 then []
    else
      let k := (nthW l 4).toNat
      ⟨(nthW l 0).toNat, join48 (nthW l 1) (nthW l 2), nthW l 3,
        (List.range k).map (fun i => ((nthW l (5 + 2 * i)).toNat, nthW l (6 + 2 * i))), true⟩ :: bakesOf n (l.drop (5 + 2 * k))

/-- A pending schedule in its part, and read back. -/
def Sched.words (c : Sched) : List Word := split48 c.k ++ [pack [(35, b2n c.setAnchor), (17, c.num), (4, c.den)]] ++ numWords c.time

def Sched.ofWords (l : List Word) : Sched :=
  let a := nthW l 2
  ⟨join48 (nthW l 0) (nthW l 1), bit a 35, ((l.drop 3).take 4).foldl (fun x y => x * 2 ^ 36 + y.toNat) 0, bits a 34 17, bits a 16 4⟩

/-- ROUTE_SET commands in their part, and read back. -/
def routeWords (l : List (Word × List Word)) : List Word := l.flatMap (fun r => [r.1, word r.2.length] ++ r.2)

def routesOf : Nat → List Word → List (Word × List Word)
  | 0, _ => []
  | n + 1, l =>
    if l.length < 2 then []
    else
      let k := (nthW l 1).toNat
      (nthW l 0, (l.drop 2).take k) :: routesOf n (l.drop (2 + k))

/-- The register words of the groups with their sources, of the flows, and of the addresses. -/
def groupAddrs : List Nat := (List.range 80).map (fun k => 0x52040 + k) ++ (List.range 256).map (fun k => 0x52400 + k)
def flowAddrs : List Nat := [0x52010, 0x52011, 0x52012, 0x52014, 0x52015, 0x52016]
def ownAddrs : List Nat := (List.range 7).map (fun k => 0x52004 + k)

/-- The servo of a base: phase, integral, counts of offsets below and above its limits. -/
def State.servoWords (s : State) (b : Nat) : List Word :=
  numWords (nth s.time.tb b) ++ split72 (twos 72 (s.time.integ.getD b 0)) ++ [pack [(18, nth s.time.good b), (0, nth s.time.bad b)]]

/-- The pending TIME_PHASE of a mirror (R366), and read back. -/
def State.phaseWords (s : State) : List Word :=
  match s.time.phase with
  | some (k, phi, tgt) => [1] ++ split48 k ++ [word (twos 36 phi), word (twos 36 tgt)]
  | none => [0, 0, 0, 0, 0]

def phaseOf (l : List Word) : Option (Nat × Int × Int) :=
  if nthW l 0 = 1 then some (join48 (nthW l 1) (nthW l 2), sext 36 (nthW l 3).toNat, sext 36 (nthW l 4).toNat) else none

/-- The mirror as it stands. -/
def State.mirrorNow (s : State) : List (Nat × List Word) :=
  [(1, word s.mgr.censusNum :: s.mgr.workers.flatMap Worker.words), (2, word (s.r Reg.MGMT_BAKE_EPOCH_EPOCH) :: s.link.map),
   (3, routeWords s.mgr.routes), (4, s.servoWords 0 ++ s.servoWords 1 ++ numWords (twos 144 (s.sched s.time.last))),
   (5, s.mgr.bakes.flatMap SentBake.words), (6, s.phaseWords ++ s.time.scheds.flatMap Sched.words),
   (7, s.mgr.shared.flatMap (fun p => [word p.1, word p.2])), (8, groupAddrs.map (wordOf s.regs)), (9, flowAddrs.map (wordOf s.regs)),
   (10, ownAddrs.map (wordOf s.regs))]

/-- A part of a mirror. -/
def mirrorPart (m : List (Nat × List Word)) (k : Nat) : List Word := (sfind m k).getD []

/-- The header F0–F15 of the firmware image that runs: its digest stands in it (R472). -/
def State.fwIdentity (s : State) : List Word := flashWords s.flash (slotBase (s.rb Reg.MGMT_FW_0150_ACTIVE)) 16

/-- MIRROR messages of a generation: the parts that differ from the acknowledged mirror, in pieces of 900 words; each says whether it is the
last, whether the mirror is whole, its number, and the generation it builds on. -/
def State.mirrorMessages (s : State) (now : List (Nat × List Word)) : List (List Word) :=
  let base := s.mgr.mirrorBase
  let diff := match base with
    | none => now
    | some b => now.filter (fun p => mirrorPart b.2 p.1 ≠ p.2)
  let l := diff.flatMap (fun p => pack [(32, p.1), (0, p.2.length)] :: p.2)
  let ps := cutEvery 900 (l.length / 900) l
  ps.mapIdx (fun i p => s.peerHead 2 s.mgr.gen ++ s.fwIdentity
    ++ [pack [(35, b2n (i + 1 = ps.length)), (34, b2n base.isNone), (0, i)], word ((base.map Prod.fst).getD 0)] ++ p)

/-- The active manager's mirror of a tick, the next generation. -/
def State.sendMirror (s : State) : State :=
  let s := s.setMgr { s.mgr with gen := s.mgr.gen + 1 }
  let now := s.mirrorNow
  let out := s.mgr.mirrorsOut ++ [(s.mgr.gen, now)]
  (s.mirrorMessages now).foldl (fun (x : State) q => x.sendPeer q) (s.setMgr { s.mgr with mirrorsOut := out.drop (out.length - 8) })

/-- ACK of a generation by the standby; generation 0 asks for a whole mirror. -/
def State.mirrorAck (s : State) (g : Nat) : State :=
  let m := s.mgr
  if g = 0 then s.setMgr { m with mirrorBase := none }
  else s.setMgr { m with acked := g, mirrorsOut := m.mirrorsOut.filter (fun p => g < p.1)
                         mirrorBase := (m.mirrorsOut.find? (fun p => p.1 = g)).orElse (fun _ => m.mirrorBase) }

/-! ### The claim (R317, R318) -/

/-- Every Δ restarts at 0, with a restart packet to the worker (R318). -/
def State.restartDeltas (s : State) : State :=
  (List.range s.mgr.workers.length).foldl (fun (x : State) i =>
    match x.mgr.workers[i]? with
    | none => x
    | some w =>
      let off := (w.nextOff + 2 ^ 36 - w.delta % 2 ^ 36) % 2 ^ 36
      (x.sendStream w off []).setWorker i { w with delta := 0, nextOff := off, sync := false, skip := 0, head := none, left := 0 }) s

/-- The schedule in force goes to every tile (R363). -/
def State.sendSchedule (s : State) : State :=
  let w (f : Fld) : Word := word (s.r f)
  s.sendCmd 0x401 toAll
    [pack [(35, 1), (0, s.r Reg.TIME_ANCHOR_0029_ANCHOR_TICK_HI)], w Reg.TIME_ANCHOR_002A_ANCHOR_TICK_LO,
     pack [(17, s.num), (4, s.den)], w Reg.TIME_ANCHOR_002B_ANCHOR_TIME, w Reg.TIME_ANCHOR_002C_ANCHOR_TIME,
     w Reg.TIME_ANCHOR_002D_ANCHOR_TIME]

/-- TAKEOVER goes to all, and the schedule after it (R317, R363). -/
def State.sendTakeover (s : State) : State :=
  ((s.setMgr { s.mgr with claimAfterCensus := false }).sendCmd 0x00D toAll [fenceWord s.mgr.fence]).sendSchedule

/-- The manager claims the peel: fence value, event 317, TAKEOVER, or a census first where the mirror is not in sync; layers and Δ
restart, and host sessions end (R317, R318, R468). -/
def State.claim (s : State) : State :=
  let v := (peelValue s.regs / 2 + 1) * 2 + s.r Reg.MGR_CTRL_IDX
  let ok := s.rb Reg.MGR_PAIR_STATUS_MIRROR_OK
  let s := (s.setMgr { s.mgr with fence := v, missed := 0, handback := none, released := false, mirrorsOut := [], mirrorBase := none }).storeFence v
  let s := (s.ws [(Reg.MGR_PAIR_STATUS_STATE, 0, 3), (Reg.MGR_PAIR_STATUS_MISSED, 0, 0), (Reg.MGR_PAIR_STATUS_CLEAN, 0, 0)]).raise 317 0
  let s := s.endSessions
  let s := if ok then s.sendTakeover else ((s.setMgr { s.mgr with claimAfterCensus := true }).raise 322 0).startCensus none
  let s := (List.range 2).foldl (fun (x : State) l => if rget x.enc.regs Reg.ENCODE_LAYER_W0_EN l ≠ 0 then x.restartLayer l else x) s
  s.restartDeltas

/-! ### Bridging (R316) -/

/-- Held words from the first batch marker whose frame's commit window is still open: offset and word, one by one. -/
def State.fromOpenBatch (s : State) : List (Nat × Word) → List (Nat × Word)
  | [] => []
  | p :: t =>
    let f := match t with
      | a :: b :: _ => frameOf a.2 b.2
      | _ => 0
    if p.2 = batchMarker && 1 ≤ f && s.tb3 < s.plannedAt (f - 1) - us 250 then p :: t else s.fromOpenBatch t

/-- Runs of words at consecutive offsets. -/
def runsOf : List (Nat × Word) → List (Nat × List Word)
  | [] => []
  | p :: t =>
    match runsOf t with
    | (o, ws) :: r => if (p.1 + 1) % 2 ^ 36 = o then (p.1, p.2 :: ws) :: r else (p.1, [p.2]) :: (o, ws) :: r
    | [] => [(p.1, [p.2])]

/-- Bridging starts: each worker's held words go out, then every later word as it comes. -/
def State.startBridge (s : State) : State :=
  let s := (s.w Reg.MGR_PAIR_STATUS_STATE 2).raise 315 0
  (List.range s.mgr.workers.length).foldl (fun (x : State) i =>
    match x.mgr.workers[i]? with
    | none => x
    | some w =>
      let l := (w.held.filter (fun h => x.time.last ≤ h.1 + 2)).flatMap (fun h =>
        h.2.2.mapIdx (fun k v => ((h.2.1 + k) % 2 ^ 36, v)))
      let r := (runsOf (x.fromOpenBatch l)).foldl (fun (q : Worker × State) run => q.2.passOn q.1 run.1 run.2) ({ w with held := [] }, x)
      r.2.setWorker i r.1) s

/-! ### Ticks and renewals (R314, R320, R323) -/

/-- The mirror's sync at RENEW_WAIT: the active compares what was acknowledged, the standby what it acknowledged (R321). -/
def State.mirrorWait (s : State) : State :=
  let m := s.mgr
  let good := if s.peelHeld then m.acked = m.gen && m.gen ≠ 0 else m.acked ≠ m.gen
  let was := s.rb Reg.MGR_PAIR_STATUS_MIRROR_OK
  let n := if good then 0 else satN 4 (m.unacked + 1)
  let s := s.setMgr { m with unacked := n, gen := if s.peelHeld then m.gen else m.acked }
  if good && !was then (s.w Reg.MGR_PAIR_STATUS_MIRROR_OK 1).raise 321 0
  else if n = 4 && was then ((s.setMgr { s.mgr with mirror := none }).w Reg.MGR_PAIR_STATUS_MIRROR_OK 0).raise 322 0
  else s

/-- A clean synchronised tick of the standby, counted (R323). -/
def State.countClean (s : State) : State :=
  let ok := s.rb Reg.MGR_PAIR_STATUS_MIRROR_OK && s.paths &&& s.mgr.heard = s.paths && s.rb Reg.TIME_BASE_W5_LOCKED s.src
    && !s.mgr.portFell
  let n := if ok then satN 1024 (s.r Reg.MGR_PAIR_STATUS_CLEAN + 1) else 0
  let was := s.r Reg.MGR_PAIR_STATUS_CLEAN
  let s := (s.setMgr { s.mgr with portFell := false }).w Reg.MGR_PAIR_STATUS_CLEAN n
  if n = 1024 && was = 1023 && s.role = 2 && s.r Reg.MGR_CTRL_RETURN = 1 then s.sendPeer (s.peerHead 3 0) else s

/-- The preferred manager holds the acknowledged HANDBACK and the RELEASE renewal of tick H, and tick H has come (R323). -/
def State.handbackReady (s : State) : Bool :=
  s.isMgr && !s.peelHeld && s.mgr.released && s.mgr.handback.any (fun h => h.2 && decide (h.1 ≤ s.time.last))

/-- It claims: event 323 after event 317. -/
def State.handbackClaim (s : State) : State := s.claim.raise 323 0

/-- RENEW_WAIT has passed after the last tick, once for each tick. -/
def State.renewWait (s : State) : State :=
  if !s.isMgr || s.stage ≠ 2 || !s.time.ticked || s.mgr.waited = some s.time.last then s
  else
    let m := s.mgr
    let s := (s.setMgr { m with waited := some s.time.last }).w Reg.MGR_PAIR_STATUS_HEARD m.heard
    let s := s.mirrorWait
    let st := s.r Reg.MGR_PAIR_STATUS_STATE
    if 3 ≤ st then s
    else
      let s := s.countClean
      if s.handbackReady then s.handbackClaim
      else if m.heard ≠ 0 then
        let s := (s.setMgr { s.mgr with missed := 0 }).ws [(Reg.MGR_PAIR_STATUS_MISSED, 0, 0), (Reg.MGR_PAIR_STATUS_STATE, 0, 1)]
        s.raiseIf (st = 2) 316 0
      else
        let n := m.missed + 1
        let s := ((s.setMgr { s.mgr with missed := n }).w Reg.MGR_PAIR_STATUS_MISSED (satN 15 n)).raiseIf (n = 1) 314 0
        if s.r Reg.MGR_CTRL_LEASE + s.r Reg.MGR_CTRL_GUARD ≤ n && !m.sameIdx then s.claim
        else if st = 1 && s.r Reg.MGR_CTRL_BRIDGE ≤ n then s.startBridge
        else s

/-- RENEW_WAIT_EXPIRY. -/
def execRenewWaitExpiry (s : State) : Host.Outcome State Fault Refusal :=
  if !s.isMgr || !s.time.ticked || s.mgr.waited = some s.time.last then .next (s.pass 0)
  else .next (s.goto (s.sched s.time.last + us (s.r Reg.MGR_CTRL_RENEW_WAIT))).renewWait

/-- A renewal on a path counts for the last tick while RENEW_WAIT runs (R314). -/
def State.renewed (s : State) (path : Nat) : State :=
  if s.pathOn path && s.mgr.waited ≠ some s.time.last && s.tb3 ≤ s.sched s.time.last + us (s.r Reg.MGR_CTRL_RENEW_WAIT) then
    s.setMgr { s.mgr with heard := s.mgr.heard ||| 2 ^ path }
  else s

/-- PEER_ALIVE_IN_TOGGLE: a renewal while the peer's last RENEW had ACTIVE = 1. -/
def execPeerAliveInToggle (dt : Nat) (s : State) : Host.Outcome State Fault Refusal :=
  let s := s.pass dt
  if s.isMgr && s.mgr.peer.any (fun p => p.1) then .next (s.renewed 0) else .next s

/-- A manager's tick (R314, R321, R323): PEER_ALIVE_OUT, RENEW, and MIRROR where it is active; at tick H it releases. -/
def State.mgrTick (s : State) (n : Nat) : State :=
  if !s.isMgr || s.stage ≠ 2 then s
  else
    let s := s.setMgr { s.mgr with heard := 0 }
    let rel := s.r Reg.MGR_PAIR_STATUS_STATE = 3 && s.mgr.handback.any (fun h => decide (h.1 ≤ n))
    let s := if rel then s.w Reg.MGR_PAIR_STATUS_STATE 4 else s
    let s := { s with pins := { s.pins with alive := !s.pins.alive } }.emit .pin [95] [word (b2n (!s.pins.alive))]
    let s := s.sendPeer (s.peerHead 1 s.mgr.gen)
    if s.peelHeld then s.sendMirror else s

/-! ### Messages received -/

/-- The parts of a mirror from its words. -/
def partsOf : Nat → List Word → List (Nat × List Word)
  | 0, _ => []
  | n + 1, l =>
    match l with
    | [] => []
    | h :: t => (bits h 35 32, t.take (bits h 31 0)) :: partsOf n (t.drop (bits h 31 0))

/-- Parts that came over those held. -/
def mirrorWith (old new : List (Nat × List Word)) : List (Nat × List Word) := new.foldl (fun m p => sput m p.1 p.2) old

/-- A mirror whole and complete comes into force at the standby (R321): workers, map, routes, bakes, scheduled changes, expected stamps,
group and flow registers. Servo state, tick phase and the peer's addresses are held. -/
def State.takeMirror (s : State) (m : List (Nat × List Word)) : State :=
  let c := mirrorPart m 1
  let old := s.mgr.workers
  let ws := ((cutEvery 9 ((c.length - 1) / 9) (c.drop 1)).filter (fun l => l.length = 9)).map (fun l =>
    let a := nthW l 0
    Worker.ofWords ((old.find? (fun (w : Worker) => w.x = bits a 35 29 && w.y = bits a 28 22)).getD Worker.reset) l)
  let later := (mirrorPart m 6).drop 5
  let scheds := ((cutEvery 7 (later.length / 7) later).filter (fun l => l.length = 7)).map Sched.ofWords
  let stamps := ((cutEvery 2 ((mirrorPart m 7).length / 2) (mirrorPart m 7)).filter (fun l => l.length = 2)).map (fun l =>
    ((nthW l 0).toNat, (nthW l 1).toNat))
  let s := s.setMgr { s.mgr with
    workers := ws, censusNum := (nthW c 0).toNat, mirror := some m, shared := stamps
    routes := routesOf (mirrorPart m 3).length (mirrorPart m 3), bakes := bakesOf (mirrorPart m 5).length (mirrorPart m 5) }
  let before := s.regs
  let put (as : List Nat) (k : Nat) (r : RegFile) : RegFile := (as.zip (mirrorPart m k)).foldl (fun (r : RegFile) p => writeRaw r p.1 p.2) r
  let s := { s with
    link := { s.link with map := (mirrorPart m 2).drop 1 }
    time := { s.time with scheds := scheds, phase := phaseOf (mirrorPart m 6) }
    regs := put flowAddrs 9 (put groupAddrs 8 s.regs) }
  (List.range 16).foldl (fun (x : State) g => x.groupWritten before g) (s.w Reg.LINK_POS_SECT (mapSect s.link.map))

/-- A MIRROR message of generation `g` (R315, R321): its pieces come in order; with the last one it is taken and acknowledged where it is whole
or builds on the mirror held, else a whole one is asked for. -/
def State.mirrorMessage (s : State) (g : Nat) (q : List Word) : State :=
  let f := nthW q 21
  let m := s.mgr
  let part := bits f 31 0
  if (q.drop 5).take 16 ≠ s.fwIdentity then s.raise 325 0
  else if s.peelHeld then s
  else if !bit f 34 && m.mirror.isSome && m.acked = g then s.sendPeer (s.peerHead 5 g)
  else if part ≠ 0 && (m.mirrorIn.1 ≠ g || m.mirrorIn.2.1 ≠ part) then s
  else
    let l := (if part = 0 then [] else m.mirrorIn.2.2) ++ q.drop 23
    let s := s.setMgr { m with mirrorIn := (g, part + 1, l) }
    if !bit f 35 then s
    else
      let new := partsOf l.length l
      match (if bit f 34 then some [] else if m.acked = (nthW q 22).toNat then m.mirror else none) with
      | some old =>
        let s := s.takeMirror (mirrorWith old new)
        let s := s.setMgr { s.mgr with acked := g }
        s.sendPeer (s.peerHead 5 g)
      | none => s.sendPeer (s.peerHead 5 0)

/-- RENEW (R314, R319, R320, R323). -/
def State.takeRenew (s : State) (path : Nat) (active release : Bool) (idx v tick : Nat) : State :=
  let same := idx = s.r Reg.MGR_CTRL_IDX
  let s := (s.setMgr { s.mgr with peer := some (active, release, v, tick), sameIdx := same }).raiseIf (same && !s.mgr.sameIdx) 325 0
  let s := s.yieldTo v
  let s := if release && s.mgr.handback.any (fun h => h.1 = tick) then s.setMgr { s.mgr with released := true } else s
  if active then s.renewed path else s

/-- A peer message: path 0 mesh, 1 UDP. -/
def State.peerMessage (s : State) (path : Nat) (q : List Word) : State :=
  let bitNo := 2 - path
  let q0 := nthW q 0
  let v := fenceValue (nthW q 1)
  let h := (nthW q 5).toNat * 2 ^ 36 + (nthW q 6).toNat
  let q4 := (nthW q 4).toNat
  if !s.isMgr || 1 < path || !s.pathOn bitNo then s
  else
    let s := s.noteFence v
    match bits q0 35 32 with
    | 1 => s.takeRenew bitNo (bit q0 31) (bit q0 30) (bits q0 29 29) v (join48 (nthW q 2) (nthW q 3))
    | 2 => s.mirrorMessage q4 q
    | 3 =>
      if s.r Reg.MGR_PAIR_STATUS_STATE ≠ 3 then s
      else if s.role = 2 && s.r Reg.MGR_CTRL_RETURN = 1 then s.raise 325 0
      else
        let n := s.time.last + 16
        let s := s.setMgr { s.mgr with handback := some (n, false) }
        s.sendPeer (s.peerHead 4 s.mgr.gen ++ [word (n / 2 ^ 36), word n])
    | 4 =>
      if s.peelHeld then s
      else (s.setMgr { s.mgr with handback := some (h, true), released := false }).sendPeer (s.peerHead 5 (h % 2 ^ 36))
    | 5 =>
      let m := s.mgr
      if m.handback.any (fun x => x.1 % 2 ^ 36 = q4) then s.setMgr { m with handback := m.handback.map (fun x => (x.1, true)) }
      else if s.peelHeld then s.mirrorAck q4 else s
    | _ => s

/-- PEER_MESSAGE_RECEIVE: `head` is Q0 to Q4, `body` what follows (R315). -/
def execPeerMessageReceive (path : Nat) (head body : List Word) (dt : Nat) (s : State) : Host.Outcome State Fault Refusal :=
  .next ((s.pass dt).peerMessage path (head ++ body))

/-! ### Hand-back (R323) -/

/-- HANDBACK_TICK: the preferred manager claims; one that has not by RENEW_WAIT claims then. -/
def execHandbackTick (s : State) : Host.Outcome State Fault Refusal :=
  let s := s.pass 0
  if s.handbackReady then .next s.handbackClaim else .next s

/-- Commands queued during the hand-back go on. -/
def State.sendHeld (s : State) : State :=
  s.mgr.held.foldl (fun (x : State) (p : Nat × Cmd) => x.forwardCmd p.1 p.2) (s.setMgr { s.mgr with held := [] })

/-- The hand-back has failed: the peel stays where it is, event 324. -/
def State.handbackFails (s : State) : State :=
  let s := s.setMgr { s.mgr with handback := none, released := false }
  let s := if s.r Reg.MGR_PAIR_STATUS_STATE = 4 then (s.w Reg.MGR_PAIR_STATUS_STATE 3).sendHeld else s
  (s.w Reg.MGR_PAIR_STATUS_CLEAN 0).raise 324 0

/-- HANDBACK_TIMEOUT: no TAKEOVER by tick H + 2. -/
def execHandbackTimeout (s : State) : Host.Outcome State Fault Refusal :=
  match s.mgr.handback with
  | none => .next (s.pass 0)
  | some (h, _) => if s.isMgr then .next (s.goto (s.sched (h + 2))).handbackFails else .next (s.pass 0)

end Sys2Proof.Machine
end

