-- ==== Sys2Proof/Machine/LinkRx.lean ====
section
/-! DEFINITION. What arrives on the Cawell links and what leaves on the lanes (R257, R262, R274–R287), delivery of packets (R285, R426,
R436), and the time exchange (R296–R298). -/

namespace Sys2Proof.Machine

/-! ### CTRL superblocks (R274, R276, R287, R292) -/

/-- A port whose lanes both run locked leaves DOWN (R274). -/
def State.portTry (s : State) (p : Nat) : State :=
  if s.r Reg.LINK_PORT_W1_STATE p = 0 && s.rb Reg.LINK_PORT_W0_EN p && !s.rb Reg.LINK_PORT_W0_SLEEP p
      && s.laneState (2 * p) = 4 && s.laneState (2 * p + 1) = 4 then
    (s.setPort p { s.port p with hello := 0, ctrlAt := s.now }).w Reg.LINK_PORT_W1_STATE 1 p
  else s

/-- Both lanes of a port reach LOCKED: SLEEP is cleared (R518). -/
def State.wakeIfLocked (s : State) (p : Nat) (was : Bool) : State :=
  if !was && s.laneState (2 * p) = 4 && s.laneState (2 * p + 1) = 4 then s.hw Reg.LINK_PORT_W0_SLEEP 0 p else s

/-- The section this device belongs to: of its position, or of a manager's map. -/
def State.ownSect (s : State) : Nat := s.r Reg.LINK_POS_SECT

/-- Acknowledgement and NAK of a CTRL superblock (R276, R281, R282). -/
def State.takeAck (s : State) (p : Nat) (c0 : Word) : State :=
  let v := s.port p
  let left := if bit c0 23 then ackReplay v.replay (bits c0 31 24) else v.replay
  let s := if left.length < v.replay.length then s.setPort p { v with replay := left, ackAt := s.now, replays := 0 } else s
  if bit c0 22 then s.replay p else s

/-- What a far end says of itself (R276, R287). -/
def State.takeFar (s : State) (p : Nat) (ws : List Word) : State :=
  let c6 := nthW ws 6
  let border := s.ownSect ≠ 0 && bits c6 14 7 ≠ 0 && bits c6 14 7 ≠ s.ownSect
  (s.setPort p { s.port p with far := (ws.drop 6).take 6 }).ws
    [(Reg.LINK_PORT_W1_FAR, p, if border then 3 else if bits c6 35 34 = 0 then 1 else 2),
     (Reg.LINK_PORT_W1_FAR_PORT, p, bits c6 33 32), (Reg.LINK_PORT_W1_FAR_PLACED, p, b2n (bit c6 31)),
     (Reg.LINK_PORT_W1_FAR_X, p, bits c6 30 24), (Reg.LINK_PORT_W1_FAR_Y, p, bits c6 23 17),
     (Reg.LINK_PORT_W1_FAR_SECT, p, bits c6 14 7)]

/-- An undamaged CTRL superblock. -/
def State.ctrlSeen (s : State) (p : Nat) (ws : List Word) : State :=
  let st := s.r Reg.LINK_PORT_W1_STATE p
  if st = 0 || bits (nthW ws 0) 35 32 ≠ 1 then s
  else
    let v := s.port p
    let s := s.setPort p { v with ctrlAt := s.now, hello := v.hello + 1, cred := (List.range 5).map (fun c => bits (nthW ws (1 + c)) 19 0) }
    let s := s.takeFar p ws
    if bits (nthW ws 6) 6 4 = 4 then (s.portDown p).hw Reg.LINK_PORT_W0_SLEEP 1 p
    else
      let up := st = 1 && 1 ≤ v.hello
      let s := if up then ((s.w Reg.LINK_PORT_W1_STATE 2 p).raise 256 p).sessionUp p else s
      let s := if s.isWorker && s.rb Reg.LINK_POS_PLACED
          && s.contradicts (s.r Reg.LINK_POS_X) (s.r Reg.LINK_POS_Y) (s.r Reg.LINK_POS_ROT) p then s.raiseTick 266 p p else s
      if st = 2 then s.takeAck p (nthW ws 0) else s

/-- CTRL_SUPERBLOCK_RECEIVE: the 64 words. -/
def execCtrlSuperblockReceive (port : Nat) (words : List Word) (dt : Nat) (s : State) : Host.Outcome State Fault Refusal :=
  .next ((s.pass dt).ctrlSeen (port % 4) words)

/-- PORT_HELLO_TIMEOUT (R274, R275): 1 ms without an undamaged CTRL superblock. -/
def execPortHelloTimeout (port : Nat) (s : State) : Host.Outcome State Fault Refusal :=
  let p := port % 4
  if s.r Reg.LINK_PORT_W1_STATE p = 0 then .next (s.pass 0)
  else .next ((s.gotoNow ((s.port p).ctrlAt + cyclesUs 1000)).portDown p)

/-- REPLAY_TIMEOUT (R281). -/
def execReplayTimeout (port : Nat) (s : State) : Host.Outcome State Fault Refusal :=
  let p := port % 4
  if (s.port p).replay.isEmpty || !s.portUp p then .next (s.pass 0)
  else .next ((s.gotoNow ((s.port p).ackAt + cyclesUs 20)).replay p)

/-! ### The time exchange (R296–R298) -/


/-- The time-upstream port: UP_SEL, or the way to the manager holding the peel; it is up, AUTH and no border (R298, R466). -/
def State.upstream (s : State) : Option Nat :=
  let sel := s.r Reg.LINK_TIME_CTRL_UP_SEL
  let p := if sel = 0 then s.peelPort else some (sel % 4)
  p.filter (fun p => s.portOpen p && s.r Reg.SECURE_LINK_STATE p = 1)

/-- P0 of a TIME packet: MSG, V1 and V0, the exchange number. -/
def timeP0 (msg : Nat) (v : List Bool) (num : Nat) : Word :=
  pack [(32, msg), (17, b2n (v.getD 1 false)), (16, b2n (v.getD 0 false)), (0, num)]

/-- TIME_EXCHANGE_START (R298): `dt` cycles after the step before, and not before 2^−INTERVAL s after the last exchange was begun,
T_REQ goes out and t1 is stamped (again as its superblock leaves). -/
def execTimeExchangeStart (dt : Nat) (s : State) : Host.Outcome State Fault Refusal :=
  let s := (s.pass dt).gotoNow (s.link.exchBegan + 100000000 / 2 ^ s.r Reg.LINK_TIME_CTRL_INTERVAL)
  let s := { s with link := { s.link with exchBegan := s.now } }
  match if s.isWorker then s.upstream else none with
  | none => .next s
  | some p =>
    let n := s.link.exchNum
    let s := { s with link := { s.link with
      exchNum := (n + 1) % 65536
      exchange := some ⟨p, n, s.bases, [], [], [], [false, false], none⟩
      delays := if s.link.delayPort = p then s.link.delays else []
      delayPort := p } }
    .next (s.originate p 2 0 [timeP0 1 [] n])

/-- V0 and V1 of an answer: VALID of the base; a manager's base that holds over still counts, so that its section stays locked to it (R356,
R359; DEDUCED, assumption log 72). -/
def State.tellsValid (s : State) (b : Nat) : Bool := s.valid b || (s.isMgr && s.rb Reg.TIME_BASE_W5_HOLDOVER b)

/-- A T_REQ is answered: T_RESP with t2 within 20 µs, `resp` cycles after its arrival, then T_FUP with t3. -/
def State.answerReq (s : State) (p : Nat) (ws : List Word) (resp : Nat) : State :=
  if !s.portUp p then s
  else
    let n := bits (nthW ws 0) 15 0
    let v := [s.tellsValid 0, s.tellsValid 1]
    let t2 := s.bases
    let o := s.out
    let s := { s.pass (min resp (cyclesUs 20)) with out := o }
    let t3 := s.bases
    let times (t : List Nat) : List Word := wordsOfTime (nth t 0) ++ wordsOfTime (nth t 1)
    (s.originate p 2 0 (timeP0 2 v n :: times t2)).originate p 2 0 (timeP0 3 v n :: times t3)

/-- T_REQ_RECEIVE. -/
def execTReqReceive (port : Nat) (words : List Word) (resp dt : Nat) (s : State) : Host.Outcome State Fault Refusal :=
  .next ((s.pass dt).answerReq (port % 4) words resp)

/-- The exchange in progress, where a packet on a port belongs to it. -/
def State.exchOf (s : State) (p : Nat) (ws : List Word) : Option Exchange :=
  s.link.exchange.filter (fun x => x.port = p && x.num = bits (nthW ws 0) 15 0)

/-- Two times of a payload. -/
def timesOf (ws : List Word) : List Nat :=
  [timeOfWords (nthW ws 1) (nthW ws 2) (nthW ws 3), timeOfWords (nthW ws 4) (nthW ws 5) (nthW ws 6)]

def State.noExchange (s : State) : State := { s with link := { s.link with exchange := none } }

/-- T_RESP arrives: t4, t2, the responder's validity. -/
def State.takeResp (s : State) (p : Nat) (ws : List Word) (retry : Bool) : State :=
  match s.exchOf p ws with
  | none => s
  | some x =>
    if retry then s.noExchange
    else
      let y : Exchange := { x with t2 := timesOf ws, t4 := s.bases, v := [bit (nthW ws 0) 16, bit (nthW ws 0) 17], respAt := some s.now }
      { s with link := { s.link with exchange := some y } }

/-- T_RESP_RECEIVE: the payload, and RETRY of its trailer. -/
def execTRespReceive (port : Nat) (words : List Word) (retry : Bool) (dt : Nat) (s : State) : Host.Outcome State Fault Refusal :=
  .next ((s.pass dt).takeResp (port % 4) words retry)

/-- Delay and offset of a base in 1/16 ns (R298). -/
def exchDelay (x : Exchange) (b : Nat) : Int :=
  halfTo16 (((nth x.t4 b : Int) - nth x.t1 b) - ((nth x.t3 b : Int) - nth x.t2 b))
def exchOffset (x : Exchange) (b : Nat) (asym : Int) : Int :=
  sat16 (halfTo16 (((nth x.t2 b : Int) - nth x.t1 b) - ((nth x.t4 b : Int) - nth x.t3 b)) - asym)

/-- The servos take an accepted exchange (R298, R350, R357). -/
def State.feedBoth (s : State) (x : Exchange) : State :=
  (List.range 2).foldl (fun (y : State) b =>
    if x.v.getD b false then
      let y := if y.servo b then y.feed b (exchOffset x b (y.ri Reg.LINK_PORT_W4_ASYM x.port)) else y
      y.setRef b true
    else y.setRef b false) s

/-- The mean of the delays kept. -/
def meanDelay (l : List Int) : Int := if l.isEmpty then 0 else l.foldl (· + ·) 0 / (l.length : Int)

/-- T_FUP completes the exchange (R298): late, repeated or with a delay that jumps it is discarded. -/
def State.takeFup (s : State) (p : Nat) (ws : List Word) (retry : Bool) : State :=
  match s.exchOf p ws with
  | none => s
  | some x =>
    let x := { x with t3 := timesOf ws, v := [x.v.getD 0 false && bit (nthW ws 0) 16, x.v.getD 1 false && bit (nthW ws 0) 17] }
    let s := s.noExchange
    match x.respAt with
    | none => s
    | some t =>
      if retry || t + cyclesUs 100 < s.now then s
      else
        let b := if x.v.getD 0 false || !x.v.getD 1 false then 0 else 1
        let d := exchDelay x b
        let old := s.link.delays
        let jump := !old.isEmpty && (80 < d - meanDelay old || 80 < meanDelay old - d)
        let l := (d :: old).take 16
        let s := { s with link := { s.link with delays := l } }.w Reg.LINK_PORT_W3_DELAY (satN 65535 (meanDelay l).toNat) p
        if jump then s.raise 271 p
        else { s with link := { s.link with exchAt := s.now } }.feedBoth x

/-- T_FUP_RECEIVE. -/
def execTFupReceive (port : Nat) (words : List Word) (retry : Bool) (dt : Nat) (s : State) : Host.Outcome State Fault Refusal :=
  .next ((s.pass dt).takeFup (port % 4) words retry)

/-- T_FUP_LATE: 100 µs after T_RESP. -/
def execTFupLate (s : State) : Host.Outcome State Fault Refusal :=
  match s.link.exchange.bind (fun x => x.respAt) with
  | none => .next (s.pass 0)
  | some t => .next (s.gotoNow (t + cyclesUs 100)).noExchange

/-- TIME_LOST_TIMEOUT: no exchange succeeds for 1 s (R298, R357). -/
def execTimeLostTimeout (s : State) : Host.Outcome State Fault Refusal :=
  if !s.isWorker then .next (s.pass 0)
  else
    let s := (s.gotoNow (s.link.exchAt + cyclesS 1)).raise 270 0
    .next (({ s with link := { s.link with exchAt := s.now } }.setRef 0 false).setRef 1 false)

/-- A TIME packet's payload is consumed by its port. -/
def State.timePacket (s : State) (p : Nat) (ws : List Word) (retry : Bool) : State :=
  match bits (nthW ws 0) 35 32 with
  | 1 => s.answerReq p ws 0
  | 2 => s.takeResp p ws retry
  | 3 => s.takeFup p ws retry
  | 8 => s.sessionHello p (ws.drop 1)
  | 9 => s.sessionProof p (ws.drop 1)
  | 10 => s.sessionNocred p
  | _ => s

/-! ### Delivery (R285, R426, R436) -/

/-- A command from a manager reaches a worker (R312, R426). -/
def State.cawellCommand (s : State) (p : Nat) (h0 h1 : Word) (ps : List Word) : State :=
  let w0 := nthW ps 1
  let n := bits w0 35 24
  let src : Source := ⟨.cawell, h0X h0 % 2, 0, 0, []⟩
  if s.role = 3 || s.restricted p n then s
  else if ps.length ≠ 3 + bits w0 11 0 || 1018 < bits w0 11 0 then
    if ps.length < 2 then s else s.sendReply s src n (bits w0 23 12) .badLength
  else s.take (opFind n) n ⟨src, bits w0 23 12, h1, ps.drop 3, some (nthW ps 0), p, 0⟩

/-- A worker's reply reaches the manager (R312): it goes to whoever sent the command; a census report is kept; a STALE_EPOCH makes a
manager step down (R288, R319). -/
def State.workerReply (s : State) (h0 : Word) (ps : List Word) : State :=
  let w0 := nthW ps 0
  let code := bits (nthW ps 1) 35 28
  let s := if bits w0 35 24 = 0x00A && code = 0 && s.mgr.censusOpen && ps.length = 12 then
      s.setMgr { s.mgr with reports := s.mgr.reports ++ [⟨(h0X h0, h0Y h0), ps.drop 2⟩] }
    else s
  let s := match s.liveTags.find? (fun t => t.1 = bits w0 23 12) with
    | some t => s.sealedSend s t.2.1 t.2.1.seals ps
    | none => s
  if code = 0x32 then s.stepDown else s

/-- What the manager holding the peel does on an event packet of a worker (R289, R341, R447, R465). -/
def State.reactEvent (s : State) (i : Option Nat) (e : Nat) : State :=
  match e with
  | 256 => s.startCensus none
  | 69 => if s.sec.censusAt.isSome then s else { s with sec := { s.sec with censusAt := some s.now } }
  | 560 => match i with
    | some k => s.intraReq k
    | none => s
  | 12 => match i with
    | some k => s.resend k (((s.mgr.workers[k]?).bind (fun (w : Worker) => w.beacon.map (fun b => b.2.1))).getD 0)
    | none => s
  | _ => s

/-- A BEACON packet of a worker reaches the manager (R435, R436, R446). -/
def State.beaconPacket (s : State) (h0 : Word) (ps : List Word) : State :=
  if !s.peelHeld || h0Mgr h0 then s
  else
    let x := h0X h0
    let y := h0Y h0
    let e0 := nthW ps 0
    let seq := bits e0 15 0
    let i := s.mgr.workers.findIdx? (fun (w : Worker) => w.x = x && w.y = y)
    let old := ((i.bind (fun k => s.mgr.workers[k]?)).map (fun (w : Worker) => w.seq)).getD 0
    let gap := old ≠ 0 && seq ≠ nextSeq old
    let s := match i.bind (fun k => (s.mgr.workers[k]?).map (fun w => (k, w))) with
      | some (k, w) => s.setWorker k { w with seq := seq }
      | none => s
    if bits e0 35 32 = 1 then ((s.eventDatagrams false x y gap ps).reactEvent i (bits e0 25 16))
    else if bits e0 35 32 = 2 then s.takeBeacon x y ps
    else s

/-- A packet for this device. -/
def State.deliver (s : State) (p : Nat) (h0 h1 : Word) (ps : List Word) : State :=
  match h0Vc h0 with
  | 0 =>
    if h0Mgr h0 then
      if s.isMgr && h1Type h1 = 3 then s.peerMessage 0 (ps.drop 1) else s.cawellCommand p h0 h1 ps
    else if s.isMgr then s.workerReply h0 ps
    else s
  | 1 => if s.isWorker then s.streamPacket ps else s
  | 3 => if s.isMgr then s.beaconPacket h0 ps else s
  | 4 => if s.isMgr then s.relaySpy ps else s
  | _ => s

/-! ### Packets (R278–R287, R466) -/

/-- A packet accepted by its port: passed on and delivered by its route (R284–R287). -/
def State.routePacket (s : State) (p : Nat) (ws : List Word) : State :=
  let r := s.relay p ws false
  if r.1 then r.2.deliver p (nthW ws 0) (nthW ws 1) (ws.drop 2) else r.2

/-- A whole packet, its trailer included, on a port (R278–R281, R287); `damaged` says that a superblock that carried it was. -/
def State.packetSeen (s : State) (p : Nat) (ws : List Word) (damaged : Bool) : State :=
  let h0 := nthW ws 0
  let vc := h0Vc h0
  let n := 3 + h0Len h0
  let body := ws.take (n - 1)
  let t := nthW ws (n - 1)
  let bad := damaged || ws.length < n || bits t 31 0 ≠ crcWords body
  if !s.portUp p then s
  else if 5 ≤ vc || 1021 < h0Len h0 then s
  else
    let v := s.port p
    if bad || bit t 35 then (if bad && vcRetry vc then s.setPort p { v with nak := true } else s).discard p ws
    else
      let d := seqAhead (h0Seq h0) v.rxSeq
      if vcRetry vc && d ≠ 0 then (if d < 128 then s else s.setPort p { v with nak := true }).freeWords p vc n
      else
        let s := if vcRetry vc then s.setPort p { v with rxSeq := (v.rxSeq + 1) % 256, rxAny := true, nak := false, owe := true } else s
        if vc = 2 then (s.freeWords p vc n).timePacket p (body.drop 2) (bit t 34)
        else if s.border p then (s.freeWords p vc n).raise 263 p
        else s.routePacket p body

/-! ### Superblocks (R262, R273, R278) -/

/-- A port superblock: its marker type and words. -/
def State.portBlock (s : State) (p ty : Nat) (ws : List Word) : State :=
  match ty with
  | 0x0AA => s.ctrlSeen p ws
  | 0x0D2 => s.lresetSeen p
  | 0x066 | 0x099 =>
    if !s.portUp p then s
    else
      let v := s.port p
      -- a HEAD before the open packet's end leaves that packet damaged
      let s := if ty = 0x066 && !v.rxWords.isEmpty then (s.setPort p { v with rxWords := [] }).packetSeen p v.rxWords true else s
      let v := s.port p
      if ty = 0x099 && v.rxWords.isEmpty then s
      else
        let all := if ty = 0x066 then ws else v.rxWords ++ ws
        let n := 3 + h0Len (nthW all 0)
        if n ≤ all.length then (s.setPort p { v with rxWords := [] }).packetSeen p (all.take n) false
        else s.setPort p { v with rxWords := all }
  | _ => s

/-- A damaged port superblock ends the open packet (R279, R281). -/
def State.blockLost (s : State) (p : Nat) : State :=
  let v := s.port p
  if v.rxWords.isEmpty then s else (s.setPort p { v with rxWords := [] }).packetSeen p v.rxWords true

/-- A slot of a lane (R262, R263, R273, R230): tile lanes join their halves, echo lanes carry READBACK and FAULT_MAP. -/
def State.slotReceive (s : State) (l : Nat) (line : List Word) : State :=
  let p := l / 2
  let was := s.laneState (2 * p) = 4 && s.laneState (2 * p + 1) = 4
  let r := if 8 ≤ l && l < 28 then (.nothing, s) else s.laneReceive l ((line.flatMap (fun w => bitList 36 w.toNat)).take slotBits)
  let s := r.2
  if 8 ≤ l then
    match r.1 with
    | .block ty ws => if ty = 0x066 then (s.readback ws).faultMap ws else s
    | _ => s
  else
    let s := (s.wakeIfLocked p was).portTry p
    let j := match r.1 with
      | .nothing => (none, s)
      | .damaged => s.joinHalves l none
      | .block ty ws => s.joinHalves l (some (ty, ws))
    match j.1 with
    | none => j.2
    | some none => j.2.blockLost p
    | some (some b) => j.2.portBlock p b.1 b.2

/-! ### Transmission -/

/-- A TIME packet leaves with its HEAD superblock (R297): the instant is t1 of the exchange in progress for its T_REQ, and t3 in the T_FUP
that follows a T_RESP. -/
def State.stampSent (s : State) (p ty : Nat) (ws : List Word) : State :=
  if ty ≠ 0x066 || h0Vc (nthW ws 0) ≠ 2 then s
  else if bits (nthW ws 2) 35 32 = 1 then
    match s.link.exchange with
    | some x =>
      if x.port = p && nthW ws 2 = timeP0 1 [] x.num then { s with link := { s.link with exchange := some { x with t1 := s.bases } } } else s
    | none => s
  else if bits (nthW ws 2) 35 32 = 2 then
    let v := s.port p
    let fup (q : Queued) : Queued :=
      if q.vc = 2 && q.seq.isNone && bits (nthW q.words 2) 35 32 = 3 && bits (nthW q.words 2) 15 0 = bits (nthW ws 2) 15 0 then
        { q with words := q.words.take 3 ++ wordsOfTime (s.base 0) ++ wordsOfTime (s.base 1) }
      else q
    s.setPort p { v with txq := v.txq.map fup }
  else s

/-- H0 with another LEN. -/
def withLen (h0 : Word) (n : Nat) : Word := (h0 &&& ~~~(pack [(23, 1023)])) ||| pack [(23, n % 1024)]

/-- Runs of the words left when some of them are lost: their offsets and words. -/
def keptRuns (off : Nat) : List (Word × Bool) → List (Nat × List Word)
  | [] => []
  | (w, lost) :: t =>
    let r := keptRuns (off + 1) t
    if lost then r
    else match r with
      | (o, ws) :: u => if o = off + 1 then (off, w :: ws) :: u else (off, [w]) :: r
      | [] => [(off, [w])]

/-- Sectors of a forwarding queue that fail as the stream packet to leave next is read (R393): `pos` is the place of a sector's first
word among its stream words; its seven words are lost, and what stays goes on at its own offsets (R306, R307). -/
def State.queueFails (s : State) (p : Nat) (errs : List ReadErr) : State :=
  let v := s.port p
  match v.txq.find? (fun q => q.vc = 1 && q.seq.isNone && q.buf.isNone && 3 < q.words.length) with
  | none => s
  | some q =>
    if !s.isMgr || !v.sending.isEmpty || errs.isEmpty then s
    else
      let n := q.words.length - 3
      let r := s.readFails 7 (errs.filter (fun e => e.pos < n))
      let lost (i : Nat) : Bool := r.2.any (fun e => e.pos ≤ i && i < e.pos + 7)
      let runs := keptRuns (nthW q.words 2).toNat ((q.words.drop 3).zipIdx.map (fun x => (x.1, lost x.2)))
      let packet (o : Nat) (ws : List Word) : List Word :=
        withLen (nthW q.words 0) (ws.length + 1) :: nthW q.words 1 :: word (o % 2 ^ 36) :: ws
      let made := runs.map (fun x => { q with words := packet x.1 x.2 })
      if r.2.isEmpty then r.1
      else r.1.setPort p { v with txq := v.txq.flatMap (fun x => if x = q then made else [x]) }

/-- SUPERBLOCK_SLOT_SEND: a tile lane's port sends its next port superblock on both lanes (R276); an emitter lane sends its next one: ALIGN
after its start, the HEAD and BODY superblocks of its packets, IDLE otherwise (R226, R227, R265). -/
def execSuperblockSlotSend (lane dt : Nat) (s : State) (errs : List ReadErr := []) : Host.Outcome State Fault Refusal :=
  let s := (s.pass dt).wakesDone
  if lane < 8 then
    let p := lane / 2
    if s.laneState (2 * p) = 0 || s.laneState (2 * p + 1) = 0
        || (s.rb Reg.LINK_PORT_W0_SLEEP p && (s.port p).wakeEnd.isNone) then .next s
    else
      let s := s.flushBeacons.queueFails p errs
      let q := s.slotOf p
      .next (((s.sendPort p).stampSent p q.1 q.2.1).resetWaiting p)
  else if 12 ≤ lane && lane < 28 then .next (s.emitterSlot (lane - 12) errs).2
  else .next s

/-! ### Rows of the line -/

/-- SUPERBLOCK_RECEIVE: a lane takes the 35 words of one slot as the line delivered them (R262, R263). -/
def execSuperblockReceive (lane : Nat) (line : List Word) (dt : Nat) (s : State) : Host.Outcome State Fault Refusal :=
  .next ((s.pass dt).slotReceive (lane % 32) line)

/-- CAWELL_PACKET_RECEIVE: one Cawell packet of a port, or the damaged words of one (R280, R281, R282, R286). -/
def execCawellPacketReceive (port : Nat) (words : List Word) (damaged : Bool) (dt : Nat) (s : State) :
    Host.Outcome State Fault Refusal :=
  .next ((s.pass dt).packetSeen (port % 4) words damaged)

end Sys2Proof.Machine
end

