-- ==== Sys2Proof/Machine/MgrCensus.lean ====
section
/-! DEFINITION. What a manager computes from a census (R20, R23, R289–R292, R465) and its network record (R302). -/

namespace Sys2Proof.Machine

/-! ### Reports (R288) -/

def Report.nonce (r : Report) : Nat := (nthW r.words 0).toNat

/-- What a report says of port `q`: kind, far port, far manager index, far manager port, far nonce. -/
def Report.kind (r : Report) (q : Nat) : Nat := bits (nthW r.words (2 + 2 * q)) 35 33
def Report.farPort (r : Report) (q : Nat) : Nat := bits (nthW r.words (2 + 2 * q)) 32 31
def Report.farIdx (r : Report) (q : Nat) : Nat := bits (nthW r.words (2 + 2 * q)) 20 20
def Report.farMport (r : Report) (q : Nat) : Nat := bits (nthW r.words (2 + 2 * q)) 19 18
def Report.farNonce (r : Report) (q : Nat) : Nat := (nthW r.words (3 + 2 * q)).toNat

/-- One report of each worker, the first. -/
def oncePerNonce (l : List Report) : List Report :=
  l.foldl (fun acc r => if acc.any (fun (x : Report) => x.nonce = r.nonce) then acc else acc ++ [r]) []

/-! ### Placing (R289, R290) -/

/-- Where the walk puts a worker: nonce, position, rotation, the manager's port behind which it was reached. -/
structure Placed where
  nonce : Nat
  x : Int
  y : Int
  rot : Nat
  port : Nat
  deriving DecidableEq, Repr

/-- The worker an attachment names. -/
def seedOf (rs : List Report) (a : Attach) : Option Placed :=
  (rs.find? (fun r => r.kind a.tport = 2 && r.farIdx a.tport = a.mgr && r.farMport a.tport = a.mport)).map (fun r =>
    ⟨r.nonce, a.x, a.y, (a.dir + 4 - a.tport) % 4, a.mport⟩)

/-- What port `q` of a placed worker says of the worker at its far end. -/
def farOf (w : Placed) (r : Report) (q : Nat) : Placed :=
  let d := (q + w.rot) % 4
  let p := stepDir w.x w.y d
  ⟨r.farNonce q, p.1, p.2, (d + 2 + 4 - r.farPort q) % 4, w.port⟩

/-- The walk, breadth first: workers still to look at, workers reached so far in order. -/
def walk (rs : List Report) : Nat → List Placed → List Placed → List Placed
  | 0, _, done => done
  | _ + 1, [], done => done
  | n + 1, w :: t, done =>
    match rs.find? (fun r => r.nonce = w.nonce) with
    | none => walk rs n t done
    | some r =>
      let new := ((List.range 4).filter (fun q => r.kind q = 1)).foldl (fun (acc : List Placed) q =>
        let v := farOf w r q
        if (done ++ acc).any (fun p => p.nonce = v.nonce) || !rs.any (fun x => x.nonce = v.nonce) then acc else acc ++ [v]) []
      walk rs n (t ++ new) (done ++ new)

/-- Every worker that the walk reaches, from this manager's own attachments first. -/
def reachAll (rs : List Report) (atts : List Attach) (idx : Nat) : List Placed :=
  let put (done : List Placed) (l : List Attach) : List Placed :=
    let new := (l.filterMap (seedOf rs)).foldl (fun (acc : List Placed) p =>
      if (done ++ acc).any (fun x => x.nonce = p.nonce) then acc else acc ++ [p]) []
    walk rs (rs.length + 1) new (done ++ new)
  put (put [] (atts.filter (fun a => a.mgr = idx))) (atts.filter (fun a => a.mgr ≠ idx))

/-- Every reported link of a worker, and its attachment, yields the position and rotation it was given. -/
def agrees (rs : List Report) (atts : List Attach) (all : List Placed) (w : Placed) : Bool :=
  match rs.find? (fun r => r.nonce = w.nonce) with
  | none => false
  | some r => (List.range 4).all (fun q =>
      if r.kind q = 1 then
        let v := farOf w r q
        all.all (fun p => p.nonce ≠ v.nonce || (p.x = v.x && p.y = v.y && p.rot = v.rot))
      else if r.kind q = 2 then
        atts.all (fun a => !(a.mgr = r.farIdx q && a.mport = r.farMport q && a.tport = q)
          || ((a.x : Int) = w.x && (a.y : Int) = w.y && (a.dir + 4 - q) % 4 = w.rot))
      else true)

/-- The workers that meet every condition of R290 but its limits. -/
def sound (rs : List Report) (m : List Word) (all : List Placed) : List Placed :=
  let tiles := mapTiles m
  let atts := mapAttachments m
  all.filter (fun w => agrees rs atts all w
    && tiles.any (fun t => (t.1 : Int) = w.x && (t.2.1 : Int) = w.y && t.2.2 = w.rot)
    && all.all (fun p => p.nonce = w.nonce || p.x ≠ w.x || p.y ≠ w.y))

/-- The limits of R20: 256 workers, 64 behind a port. -/
def withinLimits (l : List Placed) : List Placed :=
  l.foldl (fun (acc : List Placed) w =>
    if acc.length < 256 && (acc.filter (fun p => p.port = w.port)).length < 64 then acc ++ [w] else acc) []

/-! ### Paths (R20, R23) -/

/-- The node of a manager among the nodes of the mesh; a worker's node is its nonce. -/
def mgrNode (i : Nat) : Nat := 2 ^ 36 + i

/-- The links of the placed workers, from both sides. -/
def meshLinks (rs : List Report) (ps : List Placed) : List (Nat × Nat) :=
  (rs.filter (fun r => ps.any (fun p => p.nonce = r.nonce))).flatMap (fun r =>
    (List.range 4).flatMap (fun q =>
      if r.kind q = 1 && ps.any (fun p => p.nonce = r.farNonce q) then [(r.nonce, r.farNonce q)]
      else if r.kind q = 2 then [(r.nonce, mgrNode (r.farIdx q)), (mgrNode (r.farIdx q), r.nonce)] else []))

/-- Nodes within `n` links of those in a list; a manager other than the starting node passes nothing on. -/
def within (links : List (Nat × Nat)) (start : Nat) : Nat → List Nat → List Nat
  | 0, l => l
  | n + 1, l =>
    let next := (links.filter (fun e => l.contains e.1 && (e.1 < 2 ^ 36 || e.1 = start))).map (fun e => e.2)
    within links start n (l ++ (next.filter (fun x => !l.contains x)).eraseDups)

/-- Two paths, to the one manager and to the other, share no link and no tile: no single node parts the worker from both (R20). -/
def twoPaths (links : List (Nat × Nat)) (ps : List Placed) (w : Placed) : Bool :=
  ((mgrNode 0 :: mgrNode 1 :: ps.map (fun p => p.nonce)).filter (fun v => v ≠ w.nonce)).all (fun v =>
    let l := within (links.filter (fun e => e.1 ≠ v && e.2 ≠ v)) w.nonce (ps.length + 2) [w.nonce]
    l.contains (mgrNode 0) || l.contains (mgrNode 1))

/-- Every worker lies within 20 hops of its manager whichever single link fails (R23). -/
def twentyHops (links : List (Nat × Nat)) (idx : Nat) (w : Placed) : Bool :=
  links.all (fun f =>
    (within (links.filter (fun e => !(e = f || e = (f.2, f.1)))) (mgrNode idx) 20 [mgrNode idx]).contains w.nonce)

/-! ### Routes (R293) -/

/-- The word of LINK_ROUTE that the routes install in a worker, 0 where none does. -/
def installed (routes : List (Word × List Word)) (w : Placed) (k : Nat) : Word :=
  match routes.find? (fun r => r.1 = toTile w.x.toNat w.y.toNat && bits (nthW r.2 0) 35 34 = 0 && bits (nthW r.2 0) 33 23 ≤ k
      && k < bits (nthW r.2 0) 33 23 + bits (nthW r.2 0) 22 11) with
  | some r => nthW r.2 (1 + k - bits (nthW r.2 0) 33 23)
  | none => 0

/-- PRI and ALT that the routes give worker `w` toward worker `d`. -/
def installedPair (routes : List (Word × List Word)) (w d : Placed) : Nat × Nat :=
  let i := 128 * d.y.toNat + d.x.toNat
  let v := (installed routes w (i / 8)).toNat
  let j := i % 8
  (bitsN v (31 - 4 * j) (30 - 4 * j), bitsN v (29 - 4 * j) (28 - 4 * j))

/-- The worker at the far end of port `q` of a worker, while the link to it has not failed. -/
def farWorker (rs : List Report) (ps : List Placed) (failed : Option (Nat × Nat)) (w : Placed) (q : Nat) : Option Placed :=
  (rs.find? (fun r => r.nonce = w.nonce && r.kind q = 1)).bind (fun r =>
    if failed = some (w.nonce, r.farNonce q) || failed = some (r.farNonce q, w.nonce) then none
    else ps.find? (fun p => p.nonce = r.farNonce q))

/-- A packet at worker `w` reaches worker `d` over at most `n` more links, by PRI, or by ALT where PRI is down. -/
def reaches (rs : List Report) (ps : List Placed) (routes : List (Word × List Word)) (failed : Option (Nat × Nat)) (d : Placed) :
    Nat → Placed → Bool
  | 0, w => w.nonce = d.nonce
  | n + 1, w =>
    w.nonce = d.nonce
    || (let r := installedPair routes w d
        match (farWorker rs ps failed w r.1).orElse (fun _ => farWorker rs ps failed w r.2) with
        | some v => reaches rs ps routes failed d n v
        | none => false)

/-- Whichever single link between workers fails, the routes bring a packet from the worker behind the manager's port to worker `d` within 20
hops, the manager's own link counted (R293). -/
def routeOk (rs : List Report) (ps : List Placed) (routes : List (Word × List Word)) (idx : Nat) (d : Placed) : Bool :=
  (none :: ((meshLinks rs ps).filter (fun e => e.1 < 2 ^ 36 && e.2 < 2 ^ 36)).map some).all (fun f =>
    match rs.find? (fun r => (List.range 4).any (fun q => r.kind q = 2 && r.farIdx q = idx && r.farMport q = d.port)) with
    | some r =>
      match ps.find? (fun p => p.nonce = r.nonce) with
      | some w => reaches rs ps routes f d 19 w
      | none => false
    | none => false)

/-! ### The end of a census (R289–R292) -/

/-- The manager's view of its workers after a census: what it holds of a position stays with it. -/
def State.takeWorkers (s : State) (ps : List Placed) : State :=
  let old := s.mgr.workers
  let ws := ps.map (fun p =>
    let x := p.x.toNat
    let y := p.y.toNat
    let w := (old.find? (fun (w : Worker) => w.x = x && w.y = y)).getD { Worker.reset with filled := s.now }
    ({ w with x := x, y := y, rot := p.rot, nonce := p.nonce, port := p.port, tile := none } : Worker))
  let s := s.setMgr { s.mgr with workers := ws }
  (List.range 256).foldl (fun (t : State) i =>
    match ws[i]? with
    | some w => (t.ws [(Reg.MGR_WORKER_W0_VALID, i, 1), (Reg.MGR_WORKER_W0_X, i, w.x), (Reg.MGR_WORKER_W0_Y, i, w.y)]).showSplice i
    | none => t.ws [(Reg.MGR_WORKER_W0_VALID, i, 0), (Reg.MGR_WORKER_W0_X, i, 0), (Reg.MGR_WORKER_W0_Y, i, 0),
        (Reg.MGR_WORKER_W0_SPLICE, i, 0)]) s

/-- Map and positions go out, then the routes that firmware worked out, then the schedule (R292, R293, R363). How firmware finds routes is
not told: they are the row's, and only routes that reach every worker whose links allow it, as R293 has them, are installed. -/
def State.install (s : State) (ps : List Placed) (routes : List (Word × List Word)) : State :=
  let s := s.setMgr { s.mgr with routes := routes }
  let s := s.sendCmd 0x00C toAll s.link.map
  let s := s.sendCmd 0x00B toAll (word s.mgr.censusNum :: ps.flatMap (fun p =>
    [word p.nonce, pack [(29, p.x.toNat), (22, p.y.toNat), (20, p.rot)]]))
  (routes.foldl (fun (x : State) r => x.sendCmd 0x005 r.1 r.2) s).sendSchedule

/-- The census is computed and ends. -/
def State.censusEnd (s : State) (routes : List (Word × List Word)) : State :=
  let rs := oncePerNonce s.mgr.reports
  let m := s.link.map
  let good := sound rs m (reachAll rs (mapAttachments m) (s.r Reg.MGR_CTRL_IDX))
  let ps := withinLimits good
  let links := meshLinks rs ps
  let s := s.raises ((rs.filter (fun r => !ps.any (fun p => p.nonce = r.nonce))).map (fun _ => (290, 0)))
  let s := s.raises ((good.filter (fun p => !ps.contains p)).map (fun _ => (291, 0)))
  let s := s.raises (((mapTiles m).filter (fun t => !ps.any (fun p => p.x = t.1 && p.y = t.2.1))).map (fun _ => (292, 0)))
  let s := s.raises ((ps.filter (fun p => !(twoPaths links ps p && twentyHops links (s.r Reg.MGR_CTRL_IDX) p))).map (fun _ => (293, 0)))
  let s := (s.raise 289 0).takeWorkers ps
  let idx := s.r Reg.MGR_CTRL_IDX
  let sound_ := (ps.filter (fun p => twoPaths links ps p && twentyHops links idx p)).all (routeOk rs ps routes idx)
  let s := if m.isEmpty then s else s.install ps (if sound_ then routes else [])
  let s := if s.mgr.claimAfterCensus then s.sendTakeover else s
  let q := s.mgr.censusReq
  (s.setMgr { s.mgr with censusOpen := false, censusReq := none, reports := [] }).completeOpt q .done

/-- CENSUS_COMPUTE: 5 ms after the call. `routes` are the ROUTE_SET commands that firmware works out for the census (R293): route word
and parameters. -/
def execCensusCompute (routes : List (Word × List Word)) (s : State) : Host.Outcome State Fault Refusal :=
  if !s.isMgr || !s.mgr.censusOpen then .next (s.pass 0)
  else .next ((s.gotoNow (s.mgr.censusAt + cyclesUs 5000)).censusEnd routes)

/-- CENSUS_AFTER_LINK_AUTH: SESSION_GRACE after the first report of event 69. -/
def execCensusAfterLinkAuth (s : State) : Host.Outcome State Fault Refusal :=
  match s.sec.censusAt with
  | none => .next (s.pass 0)
  | some t =>
    let s := s.gotoNow (t + 100000 * s.r Reg.SECURE_CTRL_SESSION_GRACE)
    let s := { s with sec := { s.sec with censusAt := none } }
    if s.peelHeld then .next (s.startCensus none) else .next s

/-! ### The network record (R302) -/

/-- Word offset and value of a register write of the record, from its head to its signature block. -/
def recordWrites : List Word → List (Nat × Word)
  | a :: v :: t => if a = blockTag then [] else (a.toNat, v) :: recordWrites t
  | _ => []

/-- The record of the flash: as many pairs as stand before a signature block, and the block. -/
def netRecord (f : List Host.Cell) : List Word × List Word :=
  let ws := flashWords f 0x1600000 14562
  let n := 2 * (recordWrites ws).length
  (ws.take n, (ws.drop n).take (sigLen (ws.drop n)))

/-- The words R302 lets a record write. -/
def recordAddr (a : Nat) : Bool := (0x52000 ≤ a && a ≤ 0x520FF) || (0x52400 ≤ a && a ≤ 0x524FF)

/-- Every write of a record names a word that R302 lets it write and lies in its fields' ranges, and the configuration they lead to keeps the
limits of R24 and R26 (assumption log 67). -/
def State.recordOk (s : State) (l : List (Nat × Word)) : Bool :=
  let r := l.foldl (fun (g : RegFile) (p : Nat × Word) => writeRaw g p.1 p.2) s.regs
  l.all (fun p => recordAddr p.1 && wordInRange p.1 p.2 && s.jointOk p.1 r)

/-- A record applied at the start of a manager: its writes in order where it verifies, else a random locally administered unicast
MAC address, no IP address, and event 306. -/
def State.applyRecord (s : State) : State :=
  let r := netRecord s.flash
  let tagged := nthW r.2 0 = blockTag
  let c := if tagged then s.checkBlock 0 r.1 r.2 else (false, s)
  let ok := c.1 && s.recordOk (recordWrites r.1)
  let s := c.2
  let s := if ok then { s with regs := (recordWrites r.1).foldl (fun (g : RegFile) (p : Nat × Word) => writeRaw g p.1 p.2) s.regs }
    else
      let v := s.draw % 2 ^ 48
      let hi := v / 4096 % 2 ^ 28 + 2 ^ 28 * (2 + v / 2 ^ 42 * 4)
      (((s.drew 1).ws [(Reg.MGR_ADDR_2004_MAC_HI, 0, hi), (Reg.MGR_ADDR_2005_MAC_LO, 0, v % 4096), (Reg.MGR_ADDR_2006_IPV4, 0, 0),
        (Reg.MGR_ADDR_2007_IPV6_A, 0, 0), (Reg.MGR_ADDR_2008_IPV6_B, 0, 0), (Reg.MGR_ADDR6_2009_IPV6_C, 0, 0),
        (Reg.MGR_ADDR6_200A_IPV6_D, 0, 0)]).raise 306 0)
  s.setMgr { s.mgr with netDone := true }

/-- NET_RECORD_APPLY: once at a manager's start, when its firmware runs. -/
def execNetRecordApply (s : State) : Host.Outcome State Fault Refusal :=
  let s := s.pass 0
  if !s.isMgr || !s.mp || s.mgr.netDone then .next s else .next s.applyRecord

end Sys2Proof.Machine
end

