-- ==== Sys2Proof/Machine/Tick.lean ====
section
/-! DEFINITION. The tick (R27, R28, R49–R57, R149, R170, R231, R247, R329, R360–R369, R443–R446, R505): what is overdue of the period that
ends, the change from one frame to the next, and everything that a tick does. -/

namespace Sys2Proof.Machine

/-! ### What is overdue (R29, R33, R46, R52, R211, R224, R243, R250, R314) -/

/-- Time goes on to an instant of TB3, not past the next tick, which a jump may have brought forward; what was sent out stays. -/
def State.onTo (s : State) (t : Int) : State := { s.goto (min t (s.sched s.nextTick)) with out := s.out }

/-- Read-backs, reports and fallbacks whose time is over. -/
def State.lateEchoes (s : State) : State :=
  let s := (s.emit_.echo.filter (fun e => e.at_ + cyclesUs 200 ≤ s.now)).foldl State.echoLate s
  let s := if s.es Reg.EMIT_HEAD_CTRL_ECHO_EN = 0 || !s.scanOn then s
    else (s.geo.lanes.filter (fun l => !s.emit_.reported.getD l true)).foldl State.reportMissing s
  ((s.emit_.fallback.filter (fun p => p.2 + s.fallbackWait ≤ s.now)).map Prod.fst).foldl State.fallBack s

/-- The steps of the period that have not been taken on their own are taken at their instants, in the order of the period. -/
def State.overdue (s : State) : State :=
  if !s.time.ticked then s
  else
    let n := s.time.last
    let s := if s.isMgr then (s.onTo (s.sched n + us (s.r Reg.MGR_CTRL_RENEW_WAIT))).renewWait else s
    if !s.isWorker then s
    else
      -- R174: the copy of the context banks takes at most 100 µs
      let s := s.copyDone
      let s := if s.fire.firing then (s.onTo (s.sched n + us (s.es Reg.KILN_FRAME_CTRL_READY_GRACE))).readiness else s
      let s := if s.emit_.await.isSome || s.emit_.bisAwait then
          (s.onTo (s.sched n + us (s.es Reg.EMIT_HEAD_CTRL_TE_TIMEOUT))).deadline else s
      let s := if s.fire.firing then
          ((s.onTo (s.winEnd - us (s.r Reg.KILN_LIVE_CTRL_LIVE_TAIL))).cutoff.onTo s.winEnd).windowOver else s
      ((s.onTo (s.windowEnd (n + 2))).windowClose).lateEchoes

/-! ### The frame whose period ends (R36, R38, R55, R100, R211) -/

/-- What a frame does to the held count of a slot of its slot set (R36): `some true` advances it, `some false` clears it. A dropped slot's
frame does neither (R127), nor one that shows a tainted held picture under TAINT_OMIT (R113), nor a live picture completed by held rows
(R47); a live picture without a single row is a held one (DESIGN CHOICE, assumption log 24). A torn surface under HOLD counts (R152). -/
def State.heldBy (s : State) (f : FireFrame) (i : Nat) : Option Bool :=
  let u := f.uses.getD i SlotUse.fresh
  let c := f.copy
  let none_ := u.rows && f.cut && sget 0 f.live i = 0
  let hides := rget c Reg.KILN_SLOT_W0_TAINT i ≠ 0 && s.backTainted u
  if u.dropped then none
  else if (if u.rows then f.cut && s.liveWhole f i else u.ready) then some false
  else if f.repeated then (if slotPolicy c i = 2 && (if u.rows then none_ else !u.ready) then some true else none)
  else if u.rows then (if none_ && u.colour.isSome && !hides then some true else none)
  else if u.pic = 2 && !u.transparent then some true
  else if u.torn && slotSrc c i && slotPolicy c i = 0 && !s.overLimit c i then some true
  else none

/-- The counts of held frames after a frame (R36): one that is fired, or repeated for a slot that was not ready. -/
def State.countHeld (s : State) (f : FireFrame) : State :=
  if f.stopped || (f.repeated && !f.late) then s
  else
    (slotSet f.copy).foldl (fun (x : State) i =>
      match s.heldBy f i with
      | some true => x.count Reg.KILN_SLOT_W8_HELD i
      | some false => x.w Reg.KILN_SLOT_W8_HELD 0 i
      | none => x) s

/-- Frame `n` is due at its tick: it awaits its swap, or it was repeated; frames that a jump has passed over go. -/
def State.closeFrame (s : State) (n : Nat) : State :=
  let frame := if s.fire.firing then s.fireFrame n else none
  let s := s.ws [(Reg.KILN_FRAME_STATUS_REPEATED, 0, b2n (frame.any (fun f => f.repeated || f.stopped))),
    (Reg.KILN_REFIRE_COUNT_BANDS_LAST, 0, satN 4095 s.fire.refired)]
  let s := { s with
    fire := { s.fire with refired := 0 }
    emit_ := { s.emit_ with edges := 0 }
    stream := { s.stream with parsed := s.stream.parsed.filter (fun k => n < k) } }
  let drop (x : State) (keep : Nat → Bool) : State :=
    { x with fire := { x.fire with frames := x.fire.frames.filter (fun f => n < f.frame || keep f.frame) } }
  match frame with
  | none => ((drop s (fun _ => false)).clearFrm n).tellOutcome n 0
  | some f =>
    let s := s.countHeld f
    let shown := !f.repeated && !f.stopped
    let other := f.stopped || (f.repeated && s.r Reg.HEARTH_PLAN_STATUS_RUNG ≠ 5)
    let s := if shown then s.stepChange f else s
    let s := { s with hearth := { s.hearth with
      plan := { s.hearth.plan with other := other }
      lastBrt := if !shown then s.hearth.lastBrt else (f.set.map (fun (g : GlazeSet) => g.brtIn)).orElse (fun _ => s.hearth.lastBrt) } }
    if f.repeated then ((drop s (fun _ => false)).clearFrm n).tellOutcome n 5
    else
      let s := (drop s (fun k => k = n)).clearFrm (n - 1)
      { s with emit_ := { s.emit_ with await := some n } }

/-! ### Settings taken at a tick (R57, R207, R231, R372) -/

/-- The words whose writes take effect at the next tick: EMIT_SCAN_CTRL, EMIT_HEAD_CTRL and EMIT_DRAW_REGION (R231),
KILN_FRAME_CTRL (spec/02), DECODE_STREAM_CTRL (spec/03), the pool registers (R102), KILN_BAND_CTRL (spec/05) and CAL_WT
(spec/08). -/
def scanWord (a : Nat) : Bool :=
  a = 0xB0000 || a = 0xB0001 || (0xB0040 ≤ a && a < 0xB0080) || a = Reg.KILN_FRAME_CTRL_MODE.addr
  || a = Reg.DECODE_STREAM_CTRL_HORIZON.addr || a = Reg.DECODE_POOL_CTRL_BUF_COUNT.addr || a = Reg.DECODE_POOL_BASE_POOL_BASE.addr || a = Reg.KILN_BAND_CTRL_BAND_MAX.addr
  || (Reg.CAL_WT_WT.elem? a).isSome

/-- What makes SYN-F relock when it changes. -/
def State.synfKey (s : State) : List Nat :=
  [s.num, s.den, s.es Reg.EMIT_SCAN_CTRL_LINE_CLKS, s.geo.subs, s.geo.commons]

/-- SYN-F relocks, the heads dark until it has (R372). -/
def State.synfRelock (s : State) : State :=
  { s.w Reg.CLOCK_SYN_W0_LOCKED 0 3 with
    time := { s.time with blank := true, relocking := setNth s.time.relocking 3 true } }.dropAligned

/-- Settings that wait for the tick take effect (R231); `was` is what SYN-F ran on, `slip` says that the scan error exceeds one line time (R372). -/
def State.takeScan (s : State) (was : List Nat) (slip : Bool) : State :=
  let ran := s.scanOn
  let s := { s with emit_ := { s.emit_ with scan := s.regs.filter (fun p => scanWord (p.1 / 64)) } }
  let s := if s.scanOn && s.rb Reg.CLOCK_SYN_W0_LOCKED 3 && s.synfKey ≠ was && ran then s.synfRelock else s
  let s := if s.scanOn && slip then { s with time := { s.time with blankNext := true } }.raise 196 0 else s
  let s := if s.scanOn && !ran then { s with emit_ := { s.emit_ with lineFrom := s.emit_.lineDue } } else s
  s.driveBlank

/-- A change between ray-buffer and direct firing mode (R56, R57): event 741; nothing fired in the other mode is used. -/
def State.takeMode (s : State) : State :=
  let d := directAt s.regs (gradeNow s.regs)
  if d = s.direct then s
  else
    ({ s with fire := { s.fire with frames := s.fire.frames.map (fun (f : FireFrame) =>
        if s.time.last < f.frame then { f with bands := [], rows := 0, queue := [] } else f), shelf := [] } }.w
      Reg.KILN_FRAME_STATUS_DIRECT (b2n d)).raise 741 0

/-- A string's report period begins (R242). -/
def State.reportTick (s : State) : State :=
  if s.es Reg.EMIT_HEAD_CTRL_ECHO_EN = 0 || !s.scanOn then s
  else
    s.geo.lanes.foldl (fun (x : State) l =>
      let k := nth x.emit_.periods l + 1
      let due := x.geo.subs = 32 || k % 2 = 0
      let sent := !(x.emit_.config.getD l []).isEmpty
      { x with emit_ := { x.emit_ with
        periods := setNth x.emit_.periods l k
        reported := if due && sent then setNth x.emit_.reported l false else x.emit_.reported
        maps := if due then x.emit_.maps.filter (fun m => m.1 ≠ l) else x.emit_.maps } }) s

/-! ### The frame whose period begins (R28, R49–R54, R125, R170, R247) -/

/-- Frames are fired in the period that begins (R501, R505, R507, R514, R515): firing begins when every condition of R501 holds
and goes on when one is lost later. While a partial reset holds firing, the frames are repeats (R512). -/
def State.fires (s : State) : Bool :=
  s.isWorker && !s.rb Reg.MGMT_BISQUE_SHOWING
  && ((s.stage = 1 && (s.glostReady || s.fire.firing)) || s.stage = 2
    || (s.stage = 3 && s.start.exitTick.any (fun k => decide (k + 2 ≤ s.curFrame))))

/-- DEPTH_LIMIT as the registers show it: R51 and the ladder. -/
def State.showDepth (s : State) (copy : RegFile) : State :=
  let limit := s.depthLimit
  let rung := s.r Reg.HEARTH_PLAN_STATUS_RUNG
  let left := (slotSet copy).length - (planDrops copy limit rung s.hearth.plan.cap).length
  s.w Reg.KILN_FRAME_STATUS_DEPTH_LIMIT (if rung < 3 then limit else min limit left)

/-- The copy of the frame that begins comes into force. -/
def State.takeCopy (s : State) (n : Nat) (copy : RegFile) : State :=
  let p := s.fire
  ({ s with
    inForce := copy
    fire := { p with prev := s.inForce, gens := s.gensFor n, inputs := p.inputs.filter (fun (i : FrameInput) => n < i.frame), winAt := s.tb3 } }).sealFor copy n

/-- The record of the frame that begins, with the copy it is fired from. -/
def State.newFrame (s : State) (n : Nat) (copy : RegFile) (batch : Bool) : FireFrame :=
  let g : FireFrame := s.frameOr n
  { g with copy := copy, gens := s.gensFor n, batch := batch, decided := g.repeated }

/-- The plan of the frame that begins; with rung 5 it is repeated. -/
def State.planFrame (s : State) (copy : RegFile) (f : FireFrame) (items : List PlanItem) : State :=
  let b := s.buildPlan f items
  let s : State := b.2.showDepth copy
  if s.r Reg.HEARTH_PLAN_STATUS_RUNG = 5 then s.repeatFrame b.1 else s.setFrame b.1

/-- The copy in force for the frame, its plan and its Glaze set; with rung 5 it is repeated. -/
def State.openFrame (s : State) (items : List PlanItem) : State :=
  let n := s.curFrame
  let copy := s.copyFor n
  let f := s.newFrame n copy ((inputFor s.fire.inputs n).entries.isSome)
  let a := (s.takeCopy n copy).fixSet f
  let s : State := (a.2.planFrame copy a.1 items).recheckFrame n
  if s.es Reg.KILN_FRAME_CTRL_READY_GRACE = 0 then s.readiness else s

/-- The stream's end reaches the frame that begins (R70): event 466, which names the last batch (R543). -/
def State.streamEnd (s : State) : State :=
  match s.stream.endAt with
  | none => s
  | some e =>
    if s.curFrame < e.1 then s
    else { s with stream := { s.stream with endAt := none } }.raise 466 (e.2 % 2 ^ 28)

/-- No frame is fired, as on a manager: a plan without a frame still serves the other work. -/
def State.idlePlan (s : State) (items : List PlanItem) : State := (s.buildPlan (FireFrame.fresh s.curFrame [] []) items).2

/-! ### Bisque frames (R505) -/

/-- The sequencer shows the image of flash: in bisque with a valid image, or while SHOW is in force. -/
def State.bisqueOn (s : State) : Bool :=
  s.isWorker && s.scanOn && !s.fire.firing
  && ((s.stage = 1 && s.start.bisque.isSome) || (s.stage = 2 && s.rb Reg.MGMT_BISQUE_SHOWING))

/-- The step of bisque output: BSTEP, 0 while the damper caps. -/
def State.bisqueStep (s : State) : Nat :=
  if 2 ≤ s.r Reg.HEARTH_DAMP_STATUS_STATE then 0 else s.start.bisque.getD 0

/-- The ray words of a bisque frame: the palette through the pattern stage. -/
def State.bisqueRays (s : State) (q : Geo) (fs : FaultSet) (n : Nat) : List (Nat × Word) :=
  (List.range (q.g.hw * q.g.hh)).foldl (fun l i =>
    let px := i % q.g.hw
    let py := i / q.g.hw
    let c := nthW fs.palette (sget 0 s.start.bisMap i)
    let l := (List.range (q.g.vw * q.g.vh)).foldl (fun l v => sset 0 l (rayNo q.g px py (v % q.g.vw) (v / q.g.vw)) c) l
    stageHogel q fs (s.r Reg.EMIT_FAULT_CTRL_FILL_SHARE) n s.glaze.ctx px py l) []

/-- A bisque frame is sent whole. -/
def State.sendBisque (s : State) (n : Nat) : State :=
  let s := { s with emit_ := { s.emit_ with darkHold := s.hardCause } }.driveBlank
  let q := s.geo
  let fs := s.bisqueFaults n
  let cones := (List.range 16).map (fun z => s.r Reg.HEARTH_ZONE_CONE z)
  let s := s.sendSetup [] cones s.bisqueStep n
  let rays := s.bisqueRays q fs n
  let s := (List.range q.g.hh).foldl (fun (x : State) py =>
    (List.range q.nl).foldl (fun (y : State) i =>
      let lane := 8 * q.headOf py + i
      y.putLong lane (rowWords q rays lane n py)) x) s
  { s with emit_ := { s.emit_ with bisAwait := true, shown := s.bisqueStep :: cones, blankT := blankOf [] cones } }

/-! ### Decoder load (R96) -/

/-- DECODE_LOAD for the tick that ends. -/
def State.showLoad (s : State) : State :=
  let pct := s.dec.positions * 100 * s.num / (2400000000 * s.den)
  let open_ := (s.dec.prog.filterMap id).map (fun (p : Prog) => p.head.width * p.head.height - p.done.length * p.head.ctu * p.head.ctu)
  let waits (q : Nat) : Nat :=
    let frames := ((s.stream.queue.filter (fun (i : DecItem) => i.seq = q)).map (fun i => i.frame)).eraseDups
    let begun := (s.dec.prog.getD q none).map (fun (p : Prog) => p.frame)
    let size := match s.latest q with | some p => p.width * p.height | none => 0
    (frames.filter (fun k => begun ≠ some k)).length * size
  let rest := open_.foldl (· + ·) 0 + ((List.range 8).map waits).foldl (· + ·) 0
  { s with dec := { s.dec with positions := 0 } }.ws
    [(Reg.DECODE_LOAD_LOAD_PCT, 0, satN 255 pct), (Reg.DECODE_LOAD_BACKLOG, 0, satN (2 ^ 28 - 1) (rest / 1024))]

/-! ### The tick itself -/

/-- TIME_PHASE of a manager that holds the peel (R366): sent to all, and taken by the manager itself. -/
def State.tellPhase (s : State) (n : Nat) : State :=
  match s.phaseToSend n with
  | none => s
  | some (k, phi, tgt) =>
    let s := { s with time := { s.time with phase := some (k, phi, tgt), sentD := some (tgt, n) } }
    s.sendCmd 0x402 toAll (split48 k ++ [word (twos 36 phi), word (twos 36 tgt)])

/-- A manager at a tick: plan, stage, peel, encoder, phase. -/
def State.tickMgr (s : State) (n : Nat) (items : List PlanItem) : State :=
  if !s.isMgr then s
  else
    let s := s.idlePlan items
    let s := if s.stage = 1 && s.glostReady then s.enterGlost else s
    let s := s.mgrTick n
    let s := match s.mgr.handback with
      | some (h, _) => if h + 2 ≤ n then s.handbackFails else s
      | none => s
    let s := s.setEnc { s.enc with noKey := [], backlog := false }
    (s.takeEncode.owedIntra).tellPhase n

/-- A worker at a tick: the frame that begins, or bisque output. -/
def State.tickWorker (s : State) (n : Nat) (items : List PlanItem) : State :=
  if !s.isWorker then s
  else
    let s := s.takeMode
    let s := s.evalGroups.latchFaults (n + 2)
    let s := { s with fire := { s.fire with firing := s.fires } }
    let s := (s.checkEpochs s.curFrame).streamEnd
    let s := if s.softHolds then s.repeatNext else s
    let s := if s.fire.firing then s.openFrame items
      else { s.idlePlan items with glaze := { (s.idlePlan items).glaze with lastCones := [], lastK := none } }
    let s := s.ambTick n
    let s := s.intraAsk n
    let s := s.calTick (s.classIn 6) (2 ≤ s.r Reg.HEARTH_PLAN_STATUS_RUNG)
    let s := if s.bisqueOn then s.sendBisque n else s
    let fs := s.faultsFor n
    let s := if s.scanOn then s else s.putAux fs.pats fs.palette n
    (s.reportTick.sendProbes.release).showFire

/-- What a tick changes once time, power and resets are settled. -/
def State.tickWork (s : State) (n : Nat) (items : List PlanItem) (slip : Bool) (was : List Nat) : State :=
  let s := s.showStep.takeScan was slip
  let s := s.poolReset.liftSeals.writesDue.swapCtx s.curFrame
  let s := (s.bakeTick n).geomChange
  let s := s.showStage
  let s := ((s.tickMgr n items).tickWorker n items).runLoads
  let s := s.enginePause.settleDomains
  let s := s.stampTick n
  let s := if n % 16 = 0 then s.beaconTick n else s
  ((s.neighbourTick n).auditTick n).flushBeacons.wakesDone.secureDue.showLoad

/-- Whether the frame of the period that begins is fired, told before the changes that repeat it (R364). -/
def State.takeFiring (s : State) : State :=
  let s := s.showStage
  { s with fire := { s.fire with firing := s.fires } }

/-- What happens once per tick at most is counted anew (R433). -/
def State.freshTick (s : State) : State :=
  { s with evt := { s.evt with once := [], sent := [], logged := [], dropped := false } }

/-- A change of geometry takes effect at tick `n` (R117): one that waits, or that the bake of the tick brings. -/
def State.geomDue (s : State) (n : Nat) : Bool :=
  let l := s.bake.writes
  let baked := s.rb Reg.MGMT_BAKE_PEND_0116_CLOSED && s.bakeK ≤ n && (s.bakeBad (bakeFile s.planned l) 0 l).isNone
  let r := if baked then bakeFile s.planned l else s.planned
  wordOf r 0x90020 ≠ wordOf s.regs 0x90020 || wordOf r 0x90021 ≠ wordOf s.regs 0x90021

/-- Frame `n` is repeated at its tick (R117, R512). -/
def State.repeatAt (s : State) (n : Nat) : State :=
  if s.fire.firing then
    match s.fireFrame n with
    | some f => s.repeatFrame f
    | none => s
  else s

/-- Tick `n`: TB3 has reached S(n). -/
def State.atTick (s : State) (n : Nat) (acts : List (Nat × Nat)) (items : List PlanItem) (slip : Bool) : State :=
  let was := s.synfKey
  let planned := s.time.ticked
  let s := { s.freshTick with time := { s.time with last := n, ticked := true } }
  let s := { s with emit_ := { s.emit_ with lineDue := s.sched n + us (s.es Reg.EMIT_SCAN_CTRL_SCAN_PHASE) } }
  let s := (if s.geomDue n || s.softStarts n then s.repeatAt n else s).closeFrame n
  let s := ((if planned then s.closePlan acts else s).takeFiring).tickTime n
  let s := s.softDue
  if !s.time.ticked then s
  else
    let s := s.softBack.bankedDue.exitDue
    match s.start.power with
    | some (2, k, snap) => if k ≤ n then s.coldEntry snap else s.tickWork n items slip was
    | _ => s.tickWork n items slip was

/-- TICK (R360, R361): time goes on to the next tick. `acts` are the ledger's counts of the tick that ends (R414), `items` the work
that the planner estimates for the period that begins (R49); `slip`: the scan error exceeds one line time (R372). -/
def execTick (acts : List (Nat × Nat)) (items : List PlanItem) (slip : Bool) (s : State) : Host.Outcome State Fault Refusal :=
  if !s.alive then .next (s.pass 0)
  else
    let s := { s with out := [] }.overdue
    let n := s.nextTick
    .next ((s.onTo (s.sched n)).atTick n acts items slip)

end Sys2Proof.Machine
end

