-- ==== Sys2Proof/Machine/Transport.lean ====
section
/-! DEFINITION. Commands on UDP (R312, R425) and on the SPI port (R427). -/

namespace Sys2Proof.Machine

/-- Bytes that carry `n` words in word-pair packing (R60). -/
def packedLen (n : Nat) : Nat := 9 * cdiv n 2

/-- Words of bytes in word-pair packing, the last pair filled with zero bytes. -/
def wordsOfBytes (bs : List Byte) : List Word := unpackBytes (bs ++ List.replicate ((9 - bs.length % 9) % 9) 0)

/-- A packet's bytes at the interpreter: BAD_LENGTH where they are not those of 2 + COUNT words (R419). -/
def State.packetBytes (s : State) (src : Source) (bs : List Byte) : State :=
  let ws := wordsOfBytes bs
  let n := bits (nthW ws 0) 35 24
  let tag := bits (nthW ws 0) 23 12
  let k := bits (nthW ws 0) 11 0
  if bs.length ≠ packedLen (2 + k) || 1018 < k then s.sendReply s src n tag .badLength
  else s.take (opFind n) n ⟨src, tag, nthW ws 1, (ws.drop 2).take k, none, 0, 0⟩

/-- A UDP source as a command's source; an IPv6 address stands above every IPv4 address. -/
def Datagram.source (d : Datagram) : Source := ⟨.udp, if d.v6 then 2 ^ 128 + d.src else d.src, d.sport, d.eth, []⟩

/-- UDP_COMMAND_DATAGRAM: a datagram to the manager's unicast address on CMD_PORT (R312, R425). A datagram shorter than 9 bytes
is dropped. -/
def execUdpCommandDatagram (ip : IpHead) (ports : Nat × Nat) (bytes : List Byte) (dt : Nat) (s : State) (eth : Nat := 0)
    (vid : Option Nat := none) (good : Bool := true) : Host.Outcome State Fault Refusal :=
  let d := Datagram.of eth vid good ip ports bytes
  let s := (s.pass dt).wakesDone
  if !s.alive || !s.udpHeard d || !s.ownAddr d || d.dport ≠ s.r Reg.MGR_NET_CMD_PORT || d.bytes.length < 9 then .next s
  else .next (s.packetBytes d.source d.bytes)

/-- SPI_COMMAND: the bytes after 0xC1. A packet whose word 0 did not arrive whole is discarded. -/
def execSpiCommand (bytes : List Byte) (dt : Nat) (s : State) : Host.Outcome State Fault Refusal :=
  let s := (s.pass dt).wakesDone
  if !s.alive || bytes.length < 5 then .next s else .next (s.packetBytes ⟨.spi, 0, 0, 0, []⟩ bytes)

/-- What the REPLY transaction clocks out (R427): the status pair, then the oldest reply. -/
def spiAnswer (q : List (List Word)) : List Byte :=
  let old := q.head?.getD []
  packBytes [pack [(35, b2n (!q.isEmpty)), (30, q.length), (0, bits (nthW old 0) 11 0)], 0] ++ packBytes old

/-- SPI_REPLY_READ: `count` bytes are clocked out after 0xC2; the reply leaves the queue when all of its bytes are. -/
def execSpiReplyRead (count : Nat) (s : State) : Host.Outcome State Fault Refusal :=
  let s := s.pass 0
  if !s.alive then .next s
  else
    let a := spiAnswer s.cmd.spiQ
    let out := (a ++ List.replicate (count - a.length) 0).take count
    let s := s.emit .spi [] (out.map (fun b => word b.toNat))
    if !s.cmd.spiQ.isEmpty && a.length ≤ count then .next { s with cmd := { s.cmd with spiQ := s.cmd.spiQ.drop 1 } } else .next s

end Sys2Proof.Machine
end

