-- ==== Sys2Proof/Machine/Dispatch.lean ====
section
/-! DEFINITION. exec: one arm for every constructor of Instr, each one direct call of its meaning. -/

namespace Sys2Proof.Machine

def exec (i : Instr) (s : State) : Host.Outcome State Fault Refusal :=
  match i with
  | .powerOnReset => Sys2Proof.Machine.execPowerOnReset s
  | .rstNAssert => Sys2Proof.Machine.execRstNAssert s
  | .pgoodFall rail => Sys2Proof.Machine.execPgoodFall rail s
  | .strapSample role board claim flashOk => Sys2Proof.Machine.execStrapSample role board claim flashOk s
  | .bootSlotSelect => Sys2Proof.Machine.execBootSlotSelect s
  | .bisqueImageVerified flashOk dt => Sys2Proof.Machine.execBisqueImageVerified flashOk dt s
  | .mpRunning dt => Sys2Proof.Machine.execMpRunning dt s
  | .calStoreLoad => Sys2Proof.Machine.execCalStoreLoad s
  | .glostTimeout => Sys2Proof.Machine.execGlostTimeout s
  | .timeWaitExpiry => Sys2Proof.Machine.execTimeWaitExpiry s
  | .watchdogExpiry dt => Sys2Proof.Machine.execWatchdogExpiry dt s
  | .softReset c => Sys2Proof.Machine.execSoftReset c s
  | .softResetExecute => Sys2Proof.Machine.execSoftResetExecute s
  | .powerState c => Sys2Proof.Machine.execPowerState c s
  | .bankedEntry => Sys2Proof.Machine.execBankedEntry s
  | .bankedExit => Sys2Proof.Machine.execBankedExit s
  | .wakePinLow => Sys2Proof.Machine.execWakePinLow s
  | .coldStandbyEntry => Sys2Proof.Machine.execColdStandbyEntry s
  | .coldStandbyWake src => Sys2Proof.Machine.execColdStandbyWake src s
  | .linkActivityWake port => Sys2Proof.Machine.execLinkActivityWake port s
  | .bisqueLoad c => Sys2Proof.Machine.execBisqueLoad c s
  | .bisqueWrite c => Sys2Proof.Machine.execBisqueWrite c s
  | .bisqueWriteDone fail => Sys2Proof.Machine.execBisqueWriteDone fail s
  | .udpCommandDatagram ip ports bytes dt eth vid good => Sys2Proof.Machine.execUdpCommandDatagram ip ports bytes dt s eth vid good
  | .spiCommand bytes dt => Sys2Proof.Machine.execSpiCommand bytes dt s
  | .spiReplyRead count => Sys2Proof.Machine.execSpiReplyRead count s
  | .ping c => Sys2Proof.Machine.execPing c s
  | .readReg c => Sys2Proof.Machine.execReadReg c s
  | .writeReg c => Sys2Proof.Machine.execWriteReg c s
  | .safeDark c => Sys2Proof.Machine.execSafeDark c s
  | .routeSet c => Sys2Proof.Machine.execRouteSet c s
  | .timeRead c => Sys2Proof.Machine.execTimeRead c s
  | .stageStatus c => Sys2Proof.Machine.execStageStatus c s
  | .linkReset c => Sys2Proof.Machine.execLinkReset c s
  | .lresetReceive port => Sys2Proof.Machine.execLresetReceive port s
  | .censusCall c => Sys2Proof.Machine.execCensusCall c s
  | .censusReply => Sys2Proof.Machine.execCensusReply s
  | .linkCensus c => Sys2Proof.Machine.execLinkCensus c s
  | .censusCompute routes => Sys2Proof.Machine.execCensusCompute routes s
  | .place c => Sys2Proof.Machine.execPlace c s
  | .mapSend c => Sys2Proof.Machine.execMapSend c s
  | .takeover c => Sys2Proof.Machine.execTakeover c s
  | .bakeOpen c => Sys2Proof.Machine.execBakeOpen c s
  | .bakeWrite c => Sys2Proof.Machine.execBakeWrite c s
  | .bakeClose c => Sys2Proof.Machine.execBakeClose c s
  | .bakeAbort c => Sys2Proof.Machine.execBakeAbort c s
  | .bakeApply => Sys2Proof.Machine.execBakeApply s
  | .logRead c => Sys2Proof.Machine.execLogRead c s
  | .logFlush fail => Sys2Proof.Machine.execLogFlush fail s
  | .auditAccept c => Sys2Proof.Machine.execAuditAccept c s
  | .ownerFlashWrite c => Sys2Proof.Machine.execOwnerFlashWrite c s
  | .ownerFlashWriteDone fail => Sys2Proof.Machine.execOwnerFlashWriteDone fail s
  | .claim c => Sys2Proof.Machine.execClaim c s
  | .ownerTransfer c => Sys2Proof.Machine.execOwnerTransfer c s
  | .sessionHello c => Sys2Proof.Machine.execSessionHello c s
  | .sessionAuth c => Sys2Proof.Machine.execSessionAuth c s
  | .attest c => Sys2Proof.Machine.execAttest c s
  | .keyLoad c => Sys2Proof.Machine.execKeyLoad c s
  | .keyDrop c => Sys2Proof.Machine.execKeyDrop c s
  | .provision c => Sys2Proof.Machine.execProvision c s
  | .debugUnlock c => Sys2Proof.Machine.execDebugUnlock c s
  | .floorSet c => Sys2Proof.Machine.execFloorSet c s
  | .sessionClose c => Sys2Proof.Machine.execSessionClose c s
  | .policySet c => Sys2Proof.Machine.execPolicySet c s
  | .sealedCmd c => Sys2Proof.Machine.execSealedCmd c s
  | .updateStage c => Sys2Proof.Machine.execUpdateStage c s
  | .updateStageDone fail => Sys2Proof.Machine.execUpdateStageDone fail s
  | .updateActivate c => Sys2Proof.Machine.execUpdateActivate c s
  | .updateCommit c => Sys2Proof.Machine.execUpdateCommit c s
  | .commitHoursExpiry => Sys2Proof.Machine.execCommitHoursExpiry s
  | .lHelloReceive port words => Sys2Proof.Machine.execLHelloReceive port words s
  | .lProofReceive port words => Sys2Proof.Machine.execLProofReceive port words s
  | .lNocredReceive port => Sys2Proof.Machine.execLNocredReceive port s
  | .sessionGraceExpiry port => Sys2Proof.Machine.execSessionGraceExpiry port s
  | .censusAfterLinkAuth => Sys2Proof.Machine.execCensusAfterLinkAuth s
  | .rekeyExpiry port => Sys2Proof.Machine.execRekeyExpiry port s
  | .hostSessionExpiry entry => Sys2Proof.Machine.execHostSessionExpiry entry s
  | .keyUntilExpiry entry => Sys2Proof.Machine.execKeyUntilExpiry entry s
  | .credExpiryCheck => Sys2Proof.Machine.execCredExpiryCheck s
  | .ephemeralKeyExpiry => Sys2Proof.Machine.execEphemeralKeyExpiry s
  | .claimNChange low => Sys2Proof.Machine.execClaimNChange low s
  | .timeSchedule c => Sys2Proof.Machine.execTimeSchedule c s
  | .scheduleChangeApply => Sys2Proof.Machine.execScheduleChangeApply s
  | .timePhase c => Sys2Proof.Machine.execTimePhase c s
  | .phaseCommandApply => Sys2Proof.Machine.execPhaseCommandApply s
  | .timeAdjust c => Sys2Proof.Machine.execTimeAdjust c s
  | .linkWake c => Sys2Proof.Machine.execLinkWake c s
  | .memWrite c => Sys2Proof.Machine.execMemWrite c s
  | .memRead c => Sys2Proof.Machine.execMemRead c s
  | .encodeSpySub c => Sys2Proof.Machine.execEncodeSpySub c s
  | .spySubExpiry => Sys2Proof.Machine.execSpySubExpiry s
  | .kilnCommit c => Sys2Proof.Machine.execKilnCommit c s
  | .kilnLutLoad c => Sys2Proof.Machine.execKilnLutLoad c s
  | .tableLoadQueuedRun => Sys2Proof.Machine.execTableLoadQueuedRun s
  | .kilnRelease c => Sys2Proof.Machine.execKilnRelease c s
  | .kilnSurfDefine c => Sys2Proof.Machine.execKilnSurfDefine c s
  | .sealLift => Sys2Proof.Machine.execSealLift s
  | .glazeLutLoad c => Sys2Proof.Machine.execGlazeLutLoad c s
  | .glazeSetLoad c => Sys2Proof.Machine.execGlazeSetLoad c s
  | .glazeCtxLoad c => Sys2Proof.Machine.execGlazeCtxLoad c s
  | .ctxBankSwap => Sys2Proof.Machine.execCtxBankSwap s
  | .ctxBankCopyDone => Sys2Proof.Machine.execCtxBankCopyDone s
  | .glazeCtxRead c => Sys2Proof.Machine.execGlazeCtxRead c s
  | .calLossLoad c => Sys2Proof.Machine.execCalLossLoad c s
  | .calRun c => Sys2Proof.Machine.execCalRun c s
  | .calSave c => Sys2Proof.Machine.execCalSave c s
  | .calSaveDone fail => Sys2Proof.Machine.execCalSaveDone fail s
  | .snapshotTimer => Sys2Proof.Machine.execSnapshotTimer s
  | .calPeriodExpiry => Sys2Proof.Machine.execCalPeriodExpiry s
  | .emitFaultRead c => Sys2Proof.Machine.execEmitFaultRead c s
  | .emitFaultClear c => Sys2Proof.Machine.execEmitFaultClear c s
  | .stampGo c => Sys2Proof.Machine.execStampGo c s
  | .stampJobHead => Sys2Proof.Machine.execStampJobHead s
  | .stampJobDone => Sys2Proof.Machine.execStampJobDone s
  | .stampAbort c => Sys2Proof.Machine.execStampAbort c s
  | .deflateJob c => Sys2Proof.Machine.execDeflateJob c s
  | .deflateSupply c => Sys2Proof.Machine.execDeflateSupply c s
  | .deflateAbort c => Sys2Proof.Machine.execDeflateAbort c s
  | .deflateBufferExhausted => Sys2Proof.Machine.execDeflateBufferExhausted s
  | .deflateJobDone => Sys2Proof.Machine.execDeflateJobDone s
  | .registerWrite a v => Sys2Proof.Machine.execRegisterWrite a v s
  | .latchingRead a n => Sys2Proof.Machine.execLatchingRead a n s
  | .captureFifoRead el => Sys2Proof.Machine.execCaptureFifoRead el s
  | .fullNextWrite => Sys2Proof.Machine.execFullNextWrite s
  | .eyeStart lane => Sys2Proof.Machine.execEyeStart lane s
  | .eyeMeasureDone h v => Sys2Proof.Machine.execEyeMeasureDone h v s
  | .eyeAutoSchedule => Sys2Proof.Machine.execEyeAutoSchedule s
  | .synRelockWrite n => Sys2Proof.Machine.execSynRelockWrite n s
  | .ckoArm j => Sys2Proof.Machine.execCkoArm j s
  | .ckoAlignEdge src dt => Sys2Proof.Machine.execCkoAlignEdge src dt s
  | .offsetInWrite b v => Sys2Proof.Machine.execOffsetInWrite b v s
  | .phaseTargetWrite v => Sys2Proof.Machine.execPhaseTargetWrite v s
  | .laneHoldWrite lane hold => Sys2Proof.Machine.execLaneHoldWrite lane hold s
  | .laneEqWrite lane v => Sys2Proof.Machine.execLaneEqWrite lane v s
  | .spSelWrite sp => Sys2Proof.Machine.execSpSelWrite sp s
  | .scanConfigWrite head v => Sys2Proof.Machine.execScanConfigWrite head v s
  | .kilnGridWrite v => Sys2Proof.Machine.execKilnGridWrite v s
  | .kilnMountWrite v => Sys2Proof.Machine.execKilnMountWrite v s
  | .geometryChange => Sys2Proof.Machine.execGeometryChange s
  | .slotDescriptorWrite j w v => Sys2Proof.Machine.execSlotDescriptorWrite j w v s
  | .slotSetWrite v => Sys2Proof.Machine.execSlotSetWrite v s
  | .decodePoolWrite base v => Sys2Proof.Machine.execDecodePoolWrite base v s
  | .poolReset => Sys2Proof.Machine.execPoolReset s
  | .driveConeWrite c w v => Sys2Proof.Machine.execDriveConeWrite c w v s
  | .liveFlowWrite j w v => Sys2Proof.Machine.execLiveFlowWrite j w v s
  | .encodeMapWrite j v => Sys2Proof.Machine.execEncodeMapWrite j v s
  | .groupEntryWrite g w v => Sys2Proof.Machine.execGroupEntryWrite g w v s
  | .tick acts items slip => Sys2Proof.Machine.execTick acts items slip s
  | .ledgerReconcile => Sys2Proof.Machine.execLedgerReconcile s
  | .commitWindowClose => Sys2Proof.Machine.execCommitWindowClose s
  | .readinessDecision => Sys2Proof.Machine.execReadinessDecision s
  | .liveCutoff => Sys2Proof.Machine.execLiveCutoff s
  | .firingWindowEnd => Sys2Proof.Machine.execFiringWindowEnd s
  | .planProjection acts done dt => Sys2Proof.Machine.execPlanProjection acts done dt s
  | .shelfWindowLoaded frame band errs => Sys2Proof.Machine.execShelfWindowLoaded frame band s errs
  | .bandFireComplete frame band => Sys2Proof.Machine.execBandFireComplete frame band s
  | .rectPacketSent lane errs => Sys2Proof.Machine.execRectPacketSent lane s errs
  | .glazeRay parity => Sys2Proof.Machine.execGlazeRay parity s
  | .teEdge input dt => Sys2Proof.Machine.execTeEdge input dt s
  | .swapDeadline => Sys2Proof.Machine.execSwapDeadline s
  | .scanLineStart => Sys2Proof.Machine.execScanLineStart s
  | .readbackReceive words => Sys2Proof.Machine.execReadbackReceive words s
  | .readbackTimeout lane => Sys2Proof.Machine.execReadbackTimeout lane s
  | .faultMapReceive words => Sys2Proof.Machine.execFaultMapReceive words s
  | .faultReportMissing lane => Sys2Proof.Machine.execFaultReportMissing lane s
  | .probeLine head low => Sys2Proof.Machine.execProbeLine head low s
  | .failDarkFallback group => Sys2Proof.Machine.execFailDarkFallback group s
  | .laneStart lane => Sys2Proof.Machine.execLaneStart lane s
  | .laneStartFail lane => Sys2Proof.Machine.execLaneStartFail lane s
  | .superblockReceive lane line dt => Sys2Proof.Machine.execSuperblockReceive lane line dt s
  | .ctrlSuperblockReceive port words dt => Sys2Proof.Machine.execCtrlSuperblockReceive port words dt s
  | .portHelloTimeout port => Sys2Proof.Machine.execPortHelloTimeout port s
  | .cawellPacketReceive port words damaged dt => Sys2Proof.Machine.execCawellPacketReceive port words damaged dt s
  | .intraHoldoffExpiry => Sys2Proof.Machine.execIntraHoldoffExpiry s
  | .replayTimeout port => Sys2Proof.Machine.execReplayTimeout port s
  | .timeExchangeStart dt => Sys2Proof.Machine.execTimeExchangeStart dt s
  | .tReqReceive port words resp dt => Sys2Proof.Machine.execTReqReceive port words resp dt s
  | .tRespReceive port words retry dt => Sys2Proof.Machine.execTRespReceive port words retry dt s
  | .tFupReceive port words retry dt => Sys2Proof.Machine.execTFupReceive port words retry dt s
  | .timeLostTimeout => Sys2Proof.Machine.execTimeLostTimeout s
  | .ethLinkChange port up dt => Sys2Proof.Machine.execEthLinkChange port up dt s
  | .netRecordApply => Sys2Proof.Machine.execNetRecordApply s
  | .networkControlPacket pkt dt => Sys2Proof.Machine.execNetworkControlPacket pkt dt s
  | .rtpSlabPacket eth vid good ip ports bytes dt => Sys2Proof.Machine.execRtpSlabPacket eth vid good ip ports bytes dt s
  | .liveFlowPacket eth vid good ip ports bytes dt => Sys2Proof.Machine.execLiveFlowPacket eth vid good ip ports bytes dt s
  | .ingestWindowEnd rows => Sys2Proof.Machine.execIngestWindowEnd rows s
  | .ctuRowEncoded layer row dt => Sys2Proof.Machine.execCtuRowEncoded layer row dt s
  | .spyPictureCoded frame bytes coded => Sys2Proof.Machine.execSpyPictureCoded frame bytes coded s
  | .ptpMessageReceive msg dt => Sys2Proof.Machine.execPtpMessageReceive msg dt s
  | .ptpDelayReqSend b dt => Sys2Proof.Machine.execPtpDelayReqSend b dt s
  | .ptpTimeout b => Sys2Proof.Machine.execPtpTimeout b s
  | .baseValidityTimeout b => Sys2Proof.Machine.execBaseValidityTimeout b s
  | .commandTagExpiry => Sys2Proof.Machine.execCommandTagExpiry s
  | .peerMessageReceive path head body dt => Sys2Proof.Machine.execPeerMessageReceive path head body dt s
  | .peerAliveInToggle dt => Sys2Proof.Machine.execPeerAliveInToggle dt s
  | .renewWaitExpiry => Sys2Proof.Machine.execRenewWaitExpiry s
  | .handbackTick => Sys2Proof.Machine.execHandbackTick s
  | .handbackTimeout => Sys2Proof.Machine.execHandbackTimeout s
  | .streamPacketReceive words => Sys2Proof.Machine.execStreamPacketReceive words s
  | .batchHeaderParse errs => Sys2Proof.Machine.execBatchHeaderParse s errs
  | .chunkReceive errs => Sys2Proof.Machine.execChunkReceive s errs
  | .liveParcelReceive errs => Sys2Proof.Machine.execLiveParcelReceive s errs
  | .pictureBegin seq head => Sys2Proof.Machine.execPictureBegin seq head s
  | .sliceSegmentDecoded seq out => Sys2Proof.Machine.execSliceSegmentDecoded seq out s
  | .pictureEnd seq sei => Sys2Proof.Machine.execPictureEnd seq sei s
  | .housekeepingRound h => Sys2Proof.Machine.execHousekeepingRound h s
  | .damperGraceExpiry => Sys2Proof.Machine.execDamperGraceExpiry s
  | .damperStepExpiry => Sys2Proof.Machine.execDamperStepExpiry s
  | .dieComparatorTrip dt => Sys2Proof.Machine.execDieComparatorTrip dt s
  | .dieShutdownRestart => Sys2Proof.Machine.execDieShutdownRestart s
  | .domainRampTimeout d => Sys2Proof.Machine.execDomainRampTimeout d s
  | .domainRetry d => Sys2Proof.Machine.execDomainRetry d s
  | .dramTrainingStart dt => Sys2Proof.Machine.execDramTrainingStart dt s
  | .dramTrainingDone ok g0 g1 density ranks same dt => Sys2Proof.Machine.execDramTrainingDone ok g0 g1 density ranks same dt s
  | .oscCheck ch drift dt => Sys2Proof.Machine.execOscCheck ch drift dt s
  | .retrainBurst dt => Sys2Proof.Machine.execRetrainBurst dt s
  | .speedSwitch dt => Sys2Proof.Machine.execSpeedSwitch dt s
  | .refreshDue ch idle dt => Sys2Proof.Machine.execRefreshDue ch idle dt s
  | .mr4Read ch rate hot dt => Sys2Proof.Machine.execMr4Read ch rate hot dt s
  | .selfRefreshEntry ch cancelled => Sys2Proof.Machine.execSelfRefreshEntry ch cancelled s
  | .syncInEdge falling dt => Sys2Proof.Machine.execSyncInEdge falling dt s
  | .syncInLost => Sys2Proof.Machine.execSyncInLost s
  | .captureEdge el falling dt => Sys2Proof.Machine.execCaptureEdge el falling dt s
  | .refclkLoss ppm dt => Sys2Proof.Machine.execRefclkLoss ppm dt s
  | .refclkReturn ppm dt => Sys2Proof.Machine.execRefclkReturn ppm dt s
  | .synLockLoss n dt => Sys2Proof.Machine.execSynLockLoss n dt s
  | .synRelockDone n band us dt => Sys2Proof.Machine.execSynRelockDone n band us dt s
  | .bandSearchRetry n => Sys2Proof.Machine.execBandSearchRetry n s
  | .rstNRelease => Sys2Proof.Machine.execRstNRelease s
  | .pgoodRise rail dt => Sys2Proof.Machine.execPgoodRise rail dt s
  | .vddAonLoss => Sys2Proof.Machine.execVddAonLoss s
  | .domainPowerGood d dt => Sys2Proof.Machine.execDomainPowerGood d dt s
  | .superblockSlotSend lane dt errs => Sys2Proof.Machine.execSuperblockSlotSend lane dt s errs
  | .tFupLate => Sys2Proof.Machine.execTFupLate s

end Sys2Proof.Machine
end

