-- ==== Sys2Proof/Machine/Flags.lean ====
section
/-! DEFINITION. The levels of the status and interrupt balls as functions of the state, and the flags a word shows that no single
field holds: EVT_N (R434), THERM_N and FAULT_N (R405), COM_BLANK (R236, R498), PEER_ALIVE_OUT (R314), DRAM_RESET_N (R529). -/

namespace Sys2Proof.Machine

/-- Event source `e` takes part in EVT_N: PIN = 1, MASK = 0 and its latch set (R434). -/
def State.pinSource (s : State) (e : Nat) : Bool :=
  s.rb Reg.MGMT_EVT_PIN e && !s.rb Reg.MGMT_EVT_MASK e && s.rb Reg.MGMT_EVT_LATCH e

/-- EVT_N is an input: element 1 of TIME_CAPTURE has EN = 1 (R354, R434). -/
def State.evtNInput (s : State) : Bool := s.rb Reg.TIME_CAPTURE_W0_EN 1

/-- The device pulls EVT_N low (R434): some source takes part and the ball is no input. -/
def State.evtNLow (s : State) : Bool := !s.evtNInput && (List.range 1024).any s.pinSource

/-- THERM_N is low (R405): HEARTH_HK_STATUS.THERM. -/
def State.thermNLow (s : State) : Bool := s.rb Reg.HEARTH_HK_STATUS_THERM

/-- FAULT_N is low (R405): HEARTH_HK_STATUS.FAULT. -/
def State.faultNLow (s : State) : Bool := s.rb Reg.HEARTH_HK_STATUS_FAULT

/-- COM_BLANK of head `h` is high (R236, R498, R529). -/
def State.comBlank (s : State) (h : Nat) : Bool := s.pins.aonBlank || s.emit_.blank.getD h true

/-- The level of PEER_ALIVE_OUT (R314). -/
def State.peerAliveOut (s : State) : Bool := s.pins.alive

/-- DRAM_RESET_N is low (R529). -/
def State.dramResetNLow (s : State) : Bool := s.pins.dramReset

/-- Every power-good input is high (R526, R527). -/
def State.powerGood (s : State) : Bool := s.pins.pgood.all id

/-- The miss bit of a block (R435). -/
def State.missBit (s : State) (b : Nat) : Bool := bitsN (s.r Reg.MGMT_EVT_MISS_MISS) b b ≠ 0

end Sys2Proof.Machine
end

