-- ==== Sys2Proof/Machine/Package.lean ====
section
/-! DEFINITION. The balls of the package and the rails (R522–R525): what stands on each ball, and the operating range of each rail.
Rows are numbered 1 to 38 from A to AY. -/

namespace Sys2Proof.Machine

/-- The row letters in order (R522). -/
def ballRows : List String :=
  ["A", "B", "C", "D", "E", "F", "G", "H", "J", "K", "L", "M", "N", "P", "T", "U", "V", "W", "Y"]
  ++ ["AA", "AB", "AC", "AD", "AE", "AF", "AG", "AH", "AJ", "AK", "AL", "AM", "AN", "AP", "AT", "AU", "AV", "AW", "AY"]

/-- A signal ball: its signal, the signal's index, its row and column. -/
structure Ball where
  signal : String
  index : Nat
  row : Nat
  col : Nat
  deriving DecidableEq, Repr

/-- A run of balls in one row: `n` indices from `k` on, the first at column `c`, `step` columns apart. -/
def ballRun (signal : String) (row c k n step : Nat) : List Ball :=
  (List.range n).map (fun i => ⟨signal, k + i, row, c + step * i⟩)

/-- A DRAM channel (R523): channel 1 lies 19 columns on, channel 2 in rows AY, AW and AV, channel 3 both. -/
def dramBalls (ch : Nat) : List Ball :=
  let x := 19 * (ch % 2)
  let ra := if ch < 2 then 1 else 38
  let rb := if ch < 2 then 2 else 37
  let rc := if ch < 2 then 3 else 36
  ballRun "DDR_DQ" ra (2 + x) 0 8 1 ++ ballRun "DDR_DMI" ra (10 + x) 0 1 1 ++ ballRun "DDR_DQ" ra (11 + x) 8 8 1
  ++ ballRun "DDR_RDQS" rb (2 + x) 0 2 1 ++ ballRun "DDR_WCK" rb (4 + x) 0 2 1 ++ ballRun "DDR_DMI" rb (11 + x) 1 1 1
  ++ ballRun "DDR_WCK" rb (14 + x) 2 2 1 ++ ballRun "DDR_RDQS" rb (16 + x) 2 2 1
  ++ ballRun "DDR_CA" rc (2 + x) 0 7 1 ++ ballRun "DDR_CK" rc (9 + x) 0 2 1 ++ ballRun "DDR_CS" rc (11 + x) 0 2 1

/-- Lane pairs at the edges (R523): index `i` of the list of rows, _P at column `p` and _N at column `n`. -/
def laneBalls (signal : String) (rows : List Nat) (p n : Nat) : List Ball :=
  (List.range rows.length).flatMap (fun i => [⟨signal ++ "_P", i, nth rows i, p⟩, ⟨signal ++ "_N", i, nth rows i, n⟩])

/-- Common drive, lamps, sync, clock outputs and clock inputs (R523). -/
def driveBalls : List Ball :=
  ballRun "COM_SEL_A" 5 8 0 6 1 ++ ballRun "COM_STB_A" 5 14 0 1 1 ++ ballRun "COM_BLANK_A" 5 15 0 1 1 ++ ballRun "TE_IN_A" 5 16 0 1 1
  ++ ballRun "COM_SEL_B" 5 18 0 6 1 ++ ballRun "COM_STB_B" 5 24 0 1 1 ++ ballRun "COM_BLANK_B" 5 25 0 1 1 ++ ballRun "TE_IN_B" 5 26 0 1 1
  ++ ballRun "AUX" 6 8 0 8 1 ++ ballRun "SYNC_IN" 6 18 0 1 1 ++ ballRun "CKO_P" 6 20 0 4 3 ++ ballRun "CKO_N" 6 21 0 4 3
  ++ ballRun "REFCLK_P" 7 18 0 1 1 ++ ballRun "REFCLK_N" 7 19 0 1 1 ++ ballRun "XTAL_IN" 7 22 0 1 1 ++ ballRun "XTAL_OUT" 7 23 0 1 1
  ++ ballRun "DRAM_RESET_N" 7 30 0 1 1

/-- Straps, control, power-good, serial buses and sensors (R523). -/
def controlBalls : List Ball :=
  ballRun "ROLE" 31 8 0 2 1 ++ ballRun "BOARD_TYPE" 31 11 0 4 1 ++ ballRun "CLAIM_N" 31 16 0 1 1 ++ ballRun "RST_N" 31 18 0 1 1
  ++ ballRun "WAKE" 31 19 0 1 1 ++ ballRun "EVT_N" 31 21 0 1 1 ++ ballRun "FAULT_N" 31 22 0 1 1 ++ ballRun "THERM_N" 31 23 0 1 1
  ++ ballRun "PEER_ALIVE_IN" 31 25 0 1 1 ++ ballRun "PEER_ALIVE_OUT" 31 26 0 1 1 ++ ballRun "PGOOD" 31 28 0 4 1
  ++ ballRun "QSPI_CS_N" 32 8 0 1 1 ++ ballRun "QSPI_SCK" 32 9 0 1 1 ++ ballRun "QSPI_IO" 32 10 0 4 1
  ++ ballRun "SPI" 32 15 0 4 1 ++ ballRun "I2C" 32 20 0 2 1 ++ ballRun "JTAG" 32 23 0 5 1
  ++ ballRun "TS" 33 8 0 16 1 ++ ballRun "PHOTO" 33 25 0 3 1 ++ ballRun "AMB" 33 29 0 1 1

/-- All signal balls (R523). PGOOD stands for IO, CORE, LANE, DRAM in that order; SPI for CS_N, SCK, MOSI, MISO; I2C for SCL, SDA;
JTAG for TCK, TMS, TDI, TDO, TRST_N; PHOTO for RED, GREEN, BLUE; the two balls of a DRAM pair are its _T and _C. -/
def signalBalls : List Ball :=
  (List.range 4).flatMap dramBalls ++ driveBalls ++ controlBalls
  ++ laneBalls "TL_TX" [4, 8, 12, 16, 20, 24, 28, 32] 1 2
  ++ laneBalls "TL_RX" [6, 10, 14, 18, 22, 26, 30, 34] 1 2
  ++ laneBalls "ETH_TX" [8, 16, 24, 32] 4 5 ++ laneBalls "ETH_RX" [10, 18, 26, 34] 4 5
  ++ laneBalls "EM_TX" [4, 6, 8, 10, 12, 14, 16, 18, 20, 22, 24, 26, 28, 30, 32, 34] 38 37
  ++ laneBalls "EC_RX" [8, 16, 24, 32] 35 34

/-- The signal on a ball, if it is a signal ball. -/
def signalAt (row col : Nat) : Option Ball := signalBalls.find? (fun b => b.row = row && b.col = col)

/-- The supplies of R524. -/
inductive Supply where
  | vddCore | vss | vddq | vdd2 | vddSram | vddLane | vddhLane | vddIo | vddAna | vddAon
  deriving DecidableEq, Repr

/-- The supply of a ball that R523 does not name: the first rule of R524 that matches. -/
def supplyRule (row col : Nat) : Supply :=
  let mid := decide (8 ≤ col ∧ col ≤ 31)
  let ends := decide ((2 ≤ col ∧ col ≤ 18) ∨ (21 ≤ col ∧ col ≤ 37))
  if 8 ≤ row ∧ row ≤ 30 ∧ mid then (if (row + col) % 2 = 0 then .vddCore else .vss)
  else if (row = 2 ∨ row = 37) ∧ ends then .vddq
  else if (row = 3 ∨ row = 36) ∧ ends then .vdd2
  else if (row = 4 ∨ row = 35) ∧ mid then .vddSram
  else if (col = 3 ∨ col = 36) ∧ 4 ≤ row ∧ row ≤ 34 then (if row % 2 = 0 then .vddLane else .vddhLane)
  else if (row = 5 ∨ row = 6 ∨ row = 31 ∨ row = 32) ∧ mid then .vddIo
  else if (row = 7 ∨ row = 33) ∧ mid then .vddAna
  else if (row = 1 ∨ row = 38) ∧ (col = 19 ∨ col = 20) then .vddAon
  else .vss

/-- What a ball carries: a signal, or a supply (R523, R524). -/
def ballAt (row col : Nat) : Ball ⊕ Supply :=
  match signalAt row col with
  | some b => .inl b
  | none => .inr (supplyRule row col)

/-- A rail (R525): nominal voltage in mV, operating range in per mille, maximum and typical current in mA. -/
structure Rail where
  name : String
  mv : Nat
  tol : Nat
  maxMa : Nat
  typMa : Nat
  deriving DecidableEq, Repr

/-- The rails (R525). -/
def rails : List Rail :=
  [⟨"VDD_AON", 800, 30, 150, 80⟩, ⟨"VDD_CORE", 750, 30, 32000, 20000⟩, ⟨"VDD_SRAM", 800, 30, 4000, 2000⟩,
   ⟨"VDD_LANE", 900, 30, 3000, 1800⟩, ⟨"VDDH_LANE", 1200, 30, 1000, 500⟩, ⟨"VDD2", 1050, 30, 2000, 1200⟩,
   ⟨"VDDQ", 500, 30, 1500, 1000⟩, ⟨"VDD_IO", 1800, 50, 300, 100⟩, ⟨"VDD_ANA", 1800, 30, 200, 100⟩]

/-- A voltage in µV lies in the operating range of a rail (R525). -/
def Rail.within (x : Rail) (uv : Nat) : Bool :=
  x.mv * (1000 - x.tol) ≤ uv && uv ≤ x.mv * (1000 + x.tol)

end Sys2Proof.Machine
end

