-- ==== Sys2Proof/WellFormed.lean ====
section
/-! DEFINITION. Well-formed commands: every operand lies in the range the spec gives what it names (ports, lanes, elements, domains,
packet lengths). exec is total on ill-formed ones too; what lies outside the range has no effect there. -/

namespace Sys2Proof
open Machine

/-- A number that may be absent lies below a bound. -/
def optLt (n : Nat) : Option Nat → Bool
  | none => true
  | some k => k < n

/-- A command packet (R419): a 12-bit tag, at most 1,018 parameters, a Cawell port. -/
def cmdWf (c : Cmd) : Bool := c.tag < 4096 && c.params.length ≤ 1018 && c.inPort < 4

/-- A UDP datagram (R301, R303): one of four ports, a 12-bit VLAN, addresses of its family, 16-bit ports, at most what IP carries. -/
def dgramWf (d : Datagram) : Bool :=
  d.eth < 4 && optLt 4096 d.vid && d.dst < (if d.v6 then 2 ^ 128 else 2 ^ 32) && d.src < (if d.v6 then 2 ^ 128 else 2 ^ 32)
  && d.sport < 65536 && d.dport < 65536 && d.bytes.length ≤ 65507

/-- A read of a sector (R140): 28-bit sector number. -/
def readErrWf (e : ReadErr) : Bool := e.sector < 2 ^ 28

/-- A plan item (R49): one of nine classes, one of eight units, a rate its unit has, elements of R414, a slot of 32. -/
def planWf (i : PlanItem) : Bool :=
  1 ≤ i.cls && i.cls ≤ 9 && i.unit < 8 && optLt 32 i.slot && i.acts.all (fun a => a.1 < 12)
  && (match i.unit with
    | 4 => i.mode < 32
    | 5 => i.mode < 5
    | 6 => i.mode = 1 || i.mode = 4
    | 7 => i.mode = 200 || i.mode = 400 || i.mode = 800
    | _ => i.mode = 0)

/-- An activity the block is told of (R414): 12 × class + element, a class 1–9 or the refire of class 2 (0) or 4 (10); the elements
that it does not count itself: DRAM sectors, pixels coded, STAMP words, DEFLATE bytes. -/
def actWf (a : Nat × Nat) : Bool := a.1 < 132 && (a.1 % 12 = 4 || a.1 % 12 = 5 || a.1 % 12 = 10 || a.1 % 12 = 11)

/-- The command's operands lie in their ranges. -/
def Instr.wf (i : Instr) : Bool :=
  match i with
  | .powerOnReset => true
  | .rstNAssert => true
  | .pgoodFall rail => rail < 4
  | .strapSample role board _ _ => role < 4 && board < 16
  | .bootSlotSelect => true
  | .bisqueImageVerified _ _ => true
  | .mpRunning _ => true
  | .calStoreLoad => true
  | .glostTimeout => true
  | .timeWaitExpiry => true
  | .watchdogExpiry _ => true
  | .softReset c => cmdWf c
  | .softResetExecute => true
  | .powerState c => cmdWf c
  | .bankedEntry => true
  | .bankedExit => true
  | .wakePinLow => true
  | .coldStandbyEntry => true
  | .coldStandbyWake src => src < 8
  | .linkActivityWake port => port < 4
  | .bisqueLoad c => cmdWf c
  | .bisqueWrite c => cmdWf c
  | .bisqueWriteDone fail => optLt (2 ^ 28) fail
  | .udpCommandDatagram ip ports bytes _ eth vid good => dgramWf (Datagram.of eth vid good ip ports bytes)
  | .spiCommand bytes _ => bytes.length ≤ 4608
  | .spiReplyRead count => count ≤ 1024
  | .ping c => cmdWf c
  | .readReg c => cmdWf c
  | .writeReg c => cmdWf c
  | .safeDark c => cmdWf c
  | .routeSet c => cmdWf c
  | .timeRead c => cmdWf c
  | .stageStatus c => cmdWf c
  | .linkReset c => cmdWf c
  | .lresetReceive port => port < 4
  | .censusCall c => cmdWf c
  | .censusReply => true
  | .linkCensus c => cmdWf c
  | .censusCompute routes => routes.length ≤ 256 && routes.all (fun r => r.2.length ≤ 63)
  | .place c => cmdWf c
  | .mapSend c => cmdWf c
  | .takeover c => cmdWf c
  | .bakeOpen c => cmdWf c
  | .bakeWrite c => cmdWf c
  | .bakeClose c => cmdWf c
  | .bakeAbort c => cmdWf c
  | .bakeApply => true
  | .logRead c => cmdWf c
  | .logFlush _ => true
  | .auditAccept c => cmdWf c
  | .ownerFlashWrite c => cmdWf c
  | .ownerFlashWriteDone fail => optLt (2 ^ 28) fail
  | .claim c => cmdWf c
  | .ownerTransfer c => cmdWf c
  | .sessionHello c => cmdWf c
  | .sessionAuth c => cmdWf c
  | .attest c => cmdWf c
  | .keyLoad c => cmdWf c
  | .keyDrop c => cmdWf c
  | .provision c => cmdWf c
  | .debugUnlock c => cmdWf c
  | .floorSet c => cmdWf c
  | .sessionClose c => cmdWf c
  | .policySet c => cmdWf c
  | .sealedCmd c => cmdWf c
  | .updateStage c => cmdWf c
  | .updateStageDone fail => optLt (2 ^ 28) fail
  | .updateActivate c => cmdWf c
  | .updateCommit c => cmdWf c
  | .commitHoursExpiry => true
  | .lHelloReceive port words => port < 4 && words.length ≤ 1021
  | .lProofReceive port words => port < 4 && words.length ≤ 1021
  | .lNocredReceive port => port < 4
  | .sessionGraceExpiry port => port < 4
  | .censusAfterLinkAuth => true
  | .rekeyExpiry port => port < 4
  | .hostSessionExpiry entry => entry < 16
  | .keyUntilExpiry entry => entry < 64
  | .credExpiryCheck => true
  | .ephemeralKeyExpiry => true
  | .claimNChange _ => true
  | .timeSchedule c => cmdWf c
  | .scheduleChangeApply => true
  | .timePhase c => cmdWf c
  | .phaseCommandApply => true
  | .timeAdjust c => cmdWf c
  | .linkWake c => cmdWf c
  | .memWrite c => cmdWf c
  | .memRead c => cmdWf c
  | .encodeSpySub c => cmdWf c
  | .spySubExpiry => true
  | .kilnCommit c => cmdWf c
  | .kilnLutLoad c => cmdWf c
  | .tableLoadQueuedRun => true
  | .kilnRelease c => cmdWf c
  | .kilnSurfDefine c => cmdWf c
  | .sealLift => true
  | .glazeLutLoad c => cmdWf c
  | .glazeSetLoad c => cmdWf c
  | .glazeCtxLoad c => cmdWf c
  | .ctxBankSwap => true
  | .ctxBankCopyDone => true
  | .glazeCtxRead c => cmdWf c
  | .calLossLoad c => cmdWf c
  | .calRun c => cmdWf c
  | .calSave c => cmdWf c
  | .calSaveDone fail => optLt (2 ^ 28) fail
  | .snapshotTimer => true
  | .calPeriodExpiry => true
  | .emitFaultRead c => cmdWf c
  | .emitFaultClear c => cmdWf c
  | .stampGo c => cmdWf c
  | .stampJobHead => true
  | .stampJobDone => true
  | .stampAbort c => cmdWf c
  | .deflateJob c => cmdWf c
  | .deflateSupply c => cmdWf c
  | .deflateAbort c => cmdWf c
  | .deflateBufferExhausted => true
  | .deflateJobDone => true
  | .registerWrite a _ => a < 2 ^ 20
  | .latchingRead a n => a < 2 ^ 20 && 1 ≤ n && n ≤ 1018
  | .captureFifoRead el => el < 2
  | .fullNextWrite => true
  | .eyeStart lane => lane < 32
  | .eyeMeasureDone h v => h < 64 && v < 32
  | .eyeAutoSchedule => true
  | .synRelockWrite n => n < 4
  | .ckoArm i => i < 4
  | .ckoAlignEdge src _ => src < 4
  | .offsetInWrite b _ => b < 3
  | .phaseTargetWrite _ => true
  | .laneHoldWrite lane _ => lane < 16
  | .laneEqWrite lane _ => lane < 32
  | .spSelWrite sp => sp < 2
  | .scanConfigWrite _ _ => true
  | .kilnGridWrite _ => true
  | .kilnMountWrite _ => true
  | .geometryChange => true
  | .slotDescriptorWrite i w _ => i < 32 && w < 11
  | .slotSetWrite _ => true
  | .decodePoolWrite _ _ => true
  | .poolReset => true
  | .driveConeWrite c w _ => c < 16 && w < 18
  | .liveFlowWrite i w _ => i < 2 && w < 4
  | .encodeMapWrite i _ => i < 256
  | .groupEntryWrite g w _ => g < 16 && w < 5
  | .tick acts items _ => acts.all actWf && items.all planWf
  | .ledgerReconcile => true
  | .commitWindowClose => true
  | .readinessDecision => true
  | .liveCutoff => true
  | .firingWindowEnd => true
  | .planProjection acts _ _ => acts.all actWf
  | .shelfWindowLoaded frame band errs => frame < 2 ^ 48 && band < 256 && errs.all (fun e => e.1 < 2 ^ 28)
  | .bandFireComplete frame band => frame < 2 ^ 48 && band < 256
  | .rectPacketSent lane errs => lane < 16 && errs.all readErrWf
  | .glazeRay parity => parity.all (fun w => w < 786432)
  | .teEdge input _ => input < 2
  | .swapDeadline => true
  | .scanLineStart => true
  | .readbackReceive words => words.length ≤ 1024
  | .readbackTimeout lane => lane < 16
  | .faultMapReceive words => words.length ≤ 1024
  | .faultReportMissing lane => lane < 16
  | .probeLine head _ => head < 2
  | .failDarkFallback group => group < 16
  | .laneStart lane => lane < 32
  | .laneStartFail lane => lane < 32
  | .superblockReceive lane line _ => lane < 32 && line.length ≤ 35
  | .ctrlSuperblockReceive port words _ => port < 4 && words.length ≤ 32
  | .portHelloTimeout port => port < 4
  | .cawellPacketReceive port words _ _ => port < 4 && words.length ≤ 1021
  | .intraHoldoffExpiry => true
  | .replayTimeout port => port < 4
  | .timeExchangeStart _ => true
  | .tReqReceive port words _ _ => port < 4 && words.length ≤ 32
  | .tRespReceive port words _ _ => port < 4 && words.length ≤ 32
  | .tFupReceive port words _ _ => port < 4 && words.length ≤ 32
  | .timeLostTimeout => true
  | .ethLinkChange port _ _ => port < 4
  | .netRecordApply => true
  | .networkControlPacket pkt _ => pkt.port < 4
  | .rtpSlabPacket eth vid good ip ports bytes _ => dgramWf (Datagram.of eth vid good ip ports bytes)
  | .liveFlowPacket eth vid good ip ports bytes _ => dgramWf (Datagram.of eth vid good ip ports bytes)
  | .ingestWindowEnd rows => rows.length ≤ 2
  | .ctuRowEncoded layer _ _ => layer < 2
  | .spyPictureCoded frame _ _ => frame < 2 ^ 48
  | .ptpMessageReceive msg _ => msg.type < 16 && msg.seq < 65536 && msg.domain < 256
  | .ptpDelayReqSend b _ => b < 2
  | .ptpTimeout b => b < 2
  | .baseValidityTimeout b => b < 3
  | .commandTagExpiry => true
  | .peerMessageReceive path head body _ => path < 3 && head.length = 5 && body.length ≤ 1016
  | .peerAliveInToggle _ => true
  | .renewWaitExpiry => true
  | .handbackTick => true
  | .handbackTimeout => true
  | .streamPacketReceive words => words.length ≤ 1021
  | .batchHeaderParse errs => errs.all readErrWf
  | .chunkReceive errs => errs.all readErrWf
  | .liveParcelReceive errs => errs.all readErrWf
  | .pictureBegin seq head => seq < 8 && (head.ctu = 16 || head.ctu = 32 || head.ctu = 64)
  | .sliceSegmentDecoded seq _ => seq < 8
  | .pictureEnd seq _ => seq < 8
  | .housekeepingRound h => h.ts.length = 16 && h.die.length = 8 && h.rails.length = 12 && h.photo.length = 3 && h.pm.length = 8
  | .damperGraceExpiry => true
  | .damperStepExpiry => true
  | .dieComparatorTrip _ => true
  | .dieShutdownRestart => true
  | .domainRampTimeout d => 1 ≤ d && d < 84
  | .domainRetry d => 1 ≤ d && d < 84
  | .dramTrainingStart _ => true
  | .dramTrainingDone ok g0 g1 density ranks _ _ => ok < 16 && optLt 4 g0 && optLt 4 g1 && density < 16 && ranks ≤ 2
  | .oscCheck ch _ _ => ch < 4
  | .retrainBurst _ => true
  | .speedSwitch _ => true
  | .refreshDue ch _ _ => ch < 4
  | .mr4Read ch rate _ _ => ch < 4 && rate < 32
  | .selfRefreshEntry ch _ => ch < 4
  | .syncInEdge _ _ => true
  | .syncInLost => true
  | .captureEdge el _ _ => el < 2
  | .refclkLoss _ _ => true
  | .refclkReturn _ _ => true
  | .synLockLoss n _ => n < 4
  | .synRelockDone n _ _ _ => n < 10
  | .bandSearchRetry n => n < 4
  | .rstNRelease => true
  | .pgoodRise rail _ => rail < 4
  | .vddAonLoss => true
  | .domainPowerGood d _ => 1 ≤ d && d < 84
  | .superblockSlotSend lane _ errs => lane < 32 && errs.all readErrWf
  | .tFupLate => true

end Sys2Proof
end

