-- ==== Sys2Proof/Safety.lean ====
section
/-! DEFINITION. What a sound state is, and when a command packet is served, in the terms the statements use: memories in their canonical
form, queues within the depths the spec gives them, the checks of R421 passed, the state that an opcode meets and the one its answer
leaves. -/

namespace Sys2Proof.Machine

/-! ### Sound states -/

/-- A memory is in its canonical form: addresses strictly rising, no byte listed that equals what an unlisted one reads. -/
def Memory.wf (d : Nat → Byte) (m : List Host.Cell) : Bool := swf d m

/-- DRAM and flash are in their canonical form. -/
def State.memOk (s : State) : Bool := Memory.wf dramByte0 s.dram && Memory.wf (fun _ => 0xFF) s.flash

/-- The queues hold at most what the spec gives them: 64 reply-cache entries (R423), 16 SPI replies (R427), 64 BEACON packets
(R435). -/
def State.queuesOk (s : State) : Bool :=
  decide (s.cmd.cache.length ≤ 64) && decide (s.cmd.spiQ.length ≤ 16) && decide (s.evt.beaconQ.length ≤ 64)

/-- A step goes on: it answers a next state. -/
def goesOn (o : Host.Outcome State Fault Refusal) : Prop := ∃ t, o = .next t

/-- A step goes on to a state of which something holds. -/
def goesTo (o : Host.Outcome State Fault Refusal) (P : State → Prop) : Prop := ∃ t, o = .next t ∧ P t

/-- Every field of the field tables. -/
def allFields : List Fld := (List.range 14).flatMap blockFields

/-- Byte `a` of DRAM, and of flash, as it reads. -/
def State.dramAt (s : State) (a : Nat) : Byte := sget (dramByte0 a) s.dram a
def State.flashAt (s : State) (a : Nat) : Byte := sget 0xFF s.flash a

/-- An event is latched (R432). -/
def State.latched (s : State) (e : Nat) : Bool := s.r Reg.MGMT_EVT_LATCH e = 1

/-- A field is one that an occurrence of an event may change: LATCH, COUNT, SEQ, MISS, DROPPED, LSEQ (R432, R435, R437). -/
def Fld.ofFabric (f : Fld) : Bool :=
  f = Reg.MGMT_EVT_LATCH || f = Reg.MGMT_EVT_COUNT || f = Reg.MGMT_EVT_MISS_SEQ || f = Reg.MGMT_EVT_MISS_MISS
  || f = Reg.MGMT_LOG_0131_DROPPED || f = Reg.MGMT_LOG_0132_LSEQ

/-- Wherever `P` holds, the command answers a next state, the one that `A` gives: what `A` does not change stays as it was. -/
def Runs (e : Instr) (P : State → Prop) (A : State → State) : Prop := ∀ s, P s → exec e s = .next (A s)

/-- The instant of the next retraining burst (R386): the tail's start, or 200 µs after the burst before. -/
def State.atBurst (s : State) : State :=
  match s.mem.burstAt with
  | some t => s.toTail.gotoNow (t + 20000)
  | none => s.toTail

/-- A burst of a channel's sequence runs at that instant (R386, R388): no switch is due, the plan lets it run, the tail has not ended, and
no sequence was discarded in it. -/
def State.mayBurst (s : State) (ch : Nat) : Bool :=
  !s.rb Reg.MEM_STATUS_SWITCHING && s.tailLets ch
  && (!s.fire.firing || (decide (s.atBurst.tb3 < s.sched (s.time.last + 1)) && s.mem.spoilt != some s.time.last))

/-! ### A command packet at the interpreter (R421) -/

/-- The state in which a command packet is judged: the time before it has passed. -/
def State.arrived (s : State) (c : Cmd) : State := (s.pass c.dt).wakesDone

/-- The same after the fence check (R313), where the packet carries a fence word. -/
def State.fenced (s : State) (c : Cmd) : State :=
  match c.fence with
  | none => s.arrived c
  | some w => ((s.arrived c).fenceCheck w).2

/-- The packet comes to this device's interpreter by its transport (R15, R425–R427, R466), and is not one that a manager sends on (R312). -/
def State.heard (s : State) (n : Nat) (c : Cmd) : Bool :=
  s.alive
  && (match c.src.via with
      | .spi => true
      | .udp => s.isMgr
      | .cawell => s.role ≠ 3 && s.routeHits c.route && !s.restricted c.inPort n && !s.isMgr)
  && !(s.isMgr && toTiles c.route && c.src.via ≠ .cawell)

/-- The packet passes the fence check (R313). -/
def State.fencePasses (s : State) (c : Cmd) : Bool :=
  match c.fence with
  | none => true
  | some w => (s.fenceCheck w).1.isNone

/-- A command packet is served: every check of R421 passes, and the reply cache holds no entry for it (R423). -/
def State.served (s : State) (o : OpSpec) (c : Cmd) : Bool :=
  let u := s.arrived c
  let t := s.fenced c
  u.heard o.opcode c && decide (c.params.length ≤ 1018) && u.fencePasses c && (u.cacheHit o.opcode c).isNone
  && (t.admission c.src o.opcode).isNone && !t.roleBar o.opcode c.params && (t.stageBar o.opcode c.params).isNone
  && decide (o.low ≤ c.params.length) && decide (c.params.length ≤ o.high) && !sealTooLong o.opcode c

/-- The state that the opcode meets: its packet is the newest entry of the reply cache. -/
def State.handed (s : State) (o : OpSpec) (c : Cmd) : State :=
  let t := s.fenced c
  t.refresh.cacheAdd ⟨c.src.key, o.opcode, c.tag, crcWords c.params, t.now, 0x100, 0, [], false⟩

/-- The state after the opcode has answered `a` and left `t`: the answer is kept in the reply cache and sent to the source. -/
def State.answered (s : State) (o : OpSpec) (c : Cmd) (a : Ans) (t : State) : State :=
  (t.cached c.src o.opcode c.tag a.code a.detail a.words).sendReply (s.fenced c).refresh c.src o.opcode c.tag a

/-- A forced write tears the frames of the sealed surfaces it covers (R151). -/
def State.forced (s : State) (force : Bool) (ids : List Nat) : State :=
  if force then s.tear (ids.filter (fun k => s.rb Reg.KILN_SURF_W3_SEALED k)) else s

/-- `n` words have been stored at word address `a` and DRAM is `d`: the channels reached are awake, and the surfaces covered are no
longer INVALID (R151, R391). -/
def State.stored (s : State) (a n : Nat) (d : List Host.Cell) (ids : List Nat) : State :=
  { s.writeChannels a n with dram := d }.surfsAfter ids false

/-- A register write is let through: role, stage and power hold nothing against it, and no rule refuses the word (R17, R5, R7). -/
abbrev State.lets (s : State) (a : Nat) (v : Word) : Prop := s.rowOpen a 1 = true ∧ s.writeBar a v = none

/-- A register write whose word does nothing beyond its fields has been made (R5, R7, R540): the word is stored and its commit-class fields
count as written. -/
def State.wrote (s : State) (a : Nat) (v : Word) : State :=
  let t := s.pass 0
  { t with
    regs := s.written a v
    fire := { s.fire with touched := (commitFields a).foldl touch s.fire.touched } }

/-- What the opcode knows of its packet. -/
def Cmd.ctx (c : Cmd) (o : OpSpec) : Ctx := ⟨o.opcode, c.src, c.tag, c.route, c.inPort⟩

/-- Whenever its packet is served and `P` holds of packet and state, the command answers a next state: the one that its answer, sent and
kept in the reply cache, leaves of the state `A` gives. `A` names the whole effect: what it does not change stays as it was. -/
def Completes (e : Cmd → Instr) (o : OpSpec) (P : Cmd → State → Prop) (A : Cmd → State → Ans × State) : Prop :=
  ∀ (c : Cmd) (s : State), s.served o c = true → P c (s.handed o c) →
    exec (e c) s = .next (s.answered o c (A c (s.handed o c)).1 (A c (s.handed o c)).2)

/-- The same for a command that is answered by a later step: the next state is the one `A` gives. -/
def Waits (e : Cmd → Instr) (o : OpSpec) (P : Cmd → State → Prop) (A : Cmd → State → State) : Prop :=
  ∀ (c : Cmd) (s : State), s.served o c = true → P c (s.handed o c) → exec (e c) s = .next (A c (s.handed o c))

end Sys2Proof.Machine
end

