-- ==== Sys2Proof/Certificates/Slice0/Obligations.lean ====
section
/-! DEFINITION. The statements about the model, for the provers: one definition each, listed in OBLIGATIONS.json. -/

open Sys2Proof Sys2Proof.Machine

/-- A step takes the command at the front of the queue and executes it on the state with the queue's rest (R21: one at a time, in the
order of arrival). -/
def Obligations.StepRunsFrontCommand : Prop :=
  ∀ (c : Instr) (rest : List Instr) (s : State), step { s with pending := c :: rest } = exec c { s with pending := rest }

/-- With no command waiting a step leaves the state as it is: the model's choice (assumption log 2). -/
def Obligations.EmptyQueueIdles : Prop :=
  ∀ s : State, s.pending = [] → step s = .next s

/-- The reset state's memories are in canonical form and its queues within the depths of R423, R427 and R435. -/
def Obligations.ResetMemoryCanonical : Prop :=
  State.reset.memOk = true ∧ State.reset.queuesOk = true

/-- Every step keeps DRAM and flash in their canonical form: addresses rising, no byte listed that an unlisted one reads as. -/
def Obligations.StepKeepsMemoryCanonical : Prop :=
  ∀ s t : State, s.memOk = true → step s = .next t → t.memOk = true

/-- A superblock slot as it is sent, read by a receiver whose descrambler holds the sender's state, gives the words, the marker type
and the sender's state after it, whatever was stuffed and padded (R257–R262). -/
def Obligations.SlotRoundTrip : Prop :=
  ∀ (st : Nat) (ws : List Word) (ty : Nat), ws.length = 32 → ty < 512 →
    (encodeSlot st ws ty).1.length = slotBits ∧ slotMarker (encodeSlot st ws ty).1 = some ty
    ∧ decodeData st (encodeSlot st ws ty).1 = (some ws, (encodeSlot st ws ty).2)

/-- Words taken in pairs in stream order, each pair as nine bytes, most significant first; an odd last word is paired with a zero word;
and the words come back from the bytes (R60). -/
def Obligations.WordPairPacking : Prop :=
  ∀ ws : List Word, (packBytes ws).length = 9 * ((ws.length + 1) / 2)
    ∧ (∀ k, 2 * k < ws.length →
        bytesBE (((packBytes ws).drop (9 * k)).take 9) = (nthW ws (2 * k)).toNat * 2 ^ 36 + (nthW ws (2 * k + 1)).toNat)
    ∧ (unpackBytes (packBytes ws)).take ws.length = ws
    ∧ (ws.length % 2 = 1 → unpackBytes (packBytes ws) = ws ++ [0])

/-- A run of words stored (R140, R141, R383): it reads back, its sectors pass their checks, the other words of its sectors and every byte
outside them are as before. -/
def Obligations.StoreReadsBack : Prop :=
  ∀ (d d' : List Host.Cell) (a : Nat) (ws : List Word), storeRun (ws.length + 1) d a ws = (d', none) →
    dramWords d' a ws.length = ws
    ∧ (∀ i, i < ws.length → sectorGood d' ((a + i) / 7) = true)
    ∧ (∀ b, b < a ∨ a + ws.length ≤ b → dramWord d' b = dramWord d b)
    ∧ (∀ x, (∀ i, i < ws.length → x / 32 ≠ (a + i) / 7) → sget (dramByte0 x) d' x = sget (dramByte0 x) d x)

/-- What raising an event does and leaves alone (R432): LATCH and COUNT; no latch is lost; no register outside the fabric, no memory and
no other part of the state changes. -/
def Obligations.EventRaised : Prop :=
  ∀ (s : State) (e d : Nat), e < 1024 →
    (s.raise e d).latched e = true
    ∧ (e ≠ 24 → e ≠ 25 → s.r Reg.MGMT_EVT_COUNT e < 4096 →
        (s.raise e d).r Reg.MGMT_EVT_COUNT e = min 4095 (s.r Reg.MGMT_EVT_COUNT e + 1))
    ∧ (∀ x, x < 1024 → s.latched x = true → (s.raise e d).latched x = true)
    ∧ (∀ (f : Fld) (i : Nat), f ∈ allFields → i < f.count → f.ofFabric = false → (s.raise e d).r f i = s.r f i)
    ∧ { s.raise e d with regs := s.regs, evt := s.evt } = s

/-- PING (R428), STAGE_STATUS (R428), TIME_READ (R352), READ_REG (R429) and LOG_READ (R437), once served: the reply words, and no change
but what a latching read latches. -/
def Obligations.StatusCommandsAnswer : Prop :=
  Completes .ping opPing (fun _ _ => True) (fun _ h =>
    (.reply [pack [(34, h.role), (31, h.stageCode), (30, b2n (h.rb Reg.LINK_POS_PLACED)), (23, h.r Reg.LINK_POS_X), (16, h.r Reg.LINK_POS_Y)],
      word h.time.last], h))
  ∧ Completes .stageStatus opStageStatus (fun _ _ => True) (fun _ h => (.reply [h.wordView Reg.MGMT_STAGE_STAGE.addr], h))
  ∧ Completes .timeRead opTimeRead (fun _ _ => True) (fun c h =>
      let b := bits (nthW c.params 0) 1 0
      let f := h.baseFlags b
      (.reply (wordsOfTime (h.baseAny b) ++ [pack [(35, b2n f.1), (34, b2n f.2.1), (33, b2n f.2.2)]] ++ split48 h.time.last), h))
  ∧ Completes .readReg opReadReg
      (fun c _ => rangeOk (bits (nthW c.params 0) 19 0) (bits (nthW c.params 0) 31 20) = true ∧ bits (nthW c.params 0) 31 20 ≤ 1018)
      (fun c h =>
        let r := h.readRun (bits (nthW c.params 0) 19 0) (bits (nthW c.params 0) 31 20)
        (.reply r.1, r.2))
  ∧ Completes .logRead opLogRead
      (fun c h => h.dramUp = true ∧ bits (nthW c.params 1) 7 0 ≠ 0 ∧ bits (nthW c.params 1) 7 0 ≠ 255)
      (fun c h =>
        let all := (logEntries h.flash).map Prod.snd ++ h.evt.logQ.map LogEntry.flashWords
        let l := (all.filter (fun ws => decide ((nthW c.params 0).toNat ≤ (nthW ws 1).toNat))).take (bits (nthW c.params 1) 7 0)
        (.reply l.flatten l.length, h))

/-- WRITE_REG (R430), SAFE_DARK (R428) and ROUTE_SET (R293), once served. -/
def Obligations.RegisterCommandsTakeEffect : Prop :=
  Completes .writeReg opWriteReg
      (fun c h =>
        let a := bits (nthW c.params 0) 19 0
        let v := nthW c.params 1
        c.params.length = 2 ∧ bits (nthW c.params 0) 31 20 = 1 ∧ bit (nthW c.params 0) 34 = false ∧ rangeOk a 1 = true
        ∧ h.rb Reg.MGMT_BAKE_CTRL_STRICT = false ∧ base3 a = false ∧ (fieldsAt a).isEmpty = false
        ∧ Reg.TIME_BASE_W7_OFFSET_IN.elem? a = none ∧ h.writeBar a (h.masked a (BitVec.allOnes 36) v) = none)
      (fun c h =>
        let a := bits (nthW c.params 0) 19 0
        (.done 1, h.storeReg a (h.masked a (BitVec.allOnes 36) (nthW c.params 1))))
  ∧ Completes .safeDark opSafeDark (fun _ h => h.isMgr = false)
      (fun c h =>
        let t := { h with cmd := { h.cmd with darkNext := some (bit (nthW c.params 0) 0) } }
        (.done, if h.scanOn && (h.stage = 1 || h.stage = 2) then t else t.lineStart.driveBlank))
  ∧ Completes .safeDark opSafeDark (fun _ h => h.isMgr = true) (fun _ h => (.done, h))
  ∧ Completes .routeSet opRouteSet
      (fun c _ =>
        let w := nthW c.params 0
        bits w 35 34 = 0 ∧ 1 ≤ bits w 22 11 ∧ bits w 22 11 ≤ 1017 ∧ c.params.length = bits w 22 11 + 1
        ∧ bits w 33 23 + bits w 22 11 ≤ 2048)
      (fun c h => (.done, h.ws ((c.params.drop 1).mapIdx (fun i v =>
        (Reg.LINK_ROUTE_ROUTES, bits (nthW c.params 0) 33 23 + i, bits v 31 0)))))
  ∧ Completes .routeSet opRouteSet
      (fun c _ =>
        let w := nthW c.params 0
        bits w 35 34 = 1 ∧ 1 ≤ bits w 22 11 ∧ bits w 22 11 ≤ 1017 ∧ c.params.length = bits w 22 11 + 1)
      (fun c h => (.done, { h with regs := writeRaw h.regs Reg.LINK_MGR_ROUTE_VALID.addr (nthW c.params 1) }))

/-- PLACE and MAP_SEND (R292), TAKEOVER (R317, R313) and LINK_RESET (R294, R295), once served. -/
def Obligations.PlacementCommandsTakeEffect : Prop :=
  (∀ x y rot : Nat, Completes .place opPlace
      (fun c h =>
        c.params.length % 2 = 1 ∧ (placeEntries (c.params.drop 1)).find? (fun e => decide (e.1 = h.link.nonce)) = some (h.link.nonce, x, y, rot)
        ∧ h.link.mapBad = false ∧ h.link.map.isEmpty = false ∧ h.newCall c.src.addr (bits (nthW c.params 0) 15 0) = false
        ∧ (mapTiles h.link.map).contains (x, y, rot) = true ∧ ∀ p, p < 4 → h.contradicts x y rot p = false)
      (fun _ h =>
        (.done, (h.ws [(Reg.LINK_POS_PLACED, 0, 1), (Reg.LINK_POS_X, 0, x), (Reg.LINK_POS_Y, 0, y), (Reg.LINK_POS_ROT, 0, rot),
          (Reg.LINK_POS_SECT, 0, mapSect h.link.map), (Reg.MGMT_STAGE_PLACED, 0, 1)]).raise 265 0)))
  ∧ Completes .place opPlace
      (fun c h => c.params.length % 2 = 1 ∧ (placeEntries (c.params.drop 1)).find? (fun e => decide (e.1 = h.link.nonce)) = none)
      (fun _ h => (.done, h))
  ∧ Completes .mapSend opMapSend (fun c _ => mapFormOk c.params = true)
      (fun c h =>
        if h.blockOk (some 0) (c.params.take (mapLen c.params)) (c.params.drop (mapLen c.params)) then
          let t := { h with link := { h.link with map := c.params, mapBad := false } }
          (.done, if h.isMgr then t.w Reg.LINK_POS_SECT (mapSect c.params) else t)
        else
          let t := (h.raiseFw 75 0).raise 267 0
          (.denied, { t with link := { t.link with mapBad := true } }))
  ∧ Completes .takeover opTakeover
      (fun c h => h.rb Reg.LINK_PEEL_SEEN = true ∧ peelValue h.regs < fenceValue (nthW c.params 0))
      (fun c h => (.done, (h.storeFence (fenceValue (nthW c.params 0))).raise 319 (fenceDetail (fenceValue (nthW c.params 0)))))
  ∧ Completes .takeover opTakeover (fun _ h => h.rb Reg.LINK_PEEL_SEEN = false)
      (fun c h => (.done, h.storeFence (fenceValue (nthW c.params 0))))
  ∧ Completes .takeover opTakeover
      (fun c h => h.rb Reg.LINK_PEEL_SEEN = true ∧ peelValue h.regs = fenceValue (nthW c.params 0)) (fun _ h => (.done, h))
  ∧ Completes .linkReset opLinkReset (fun c _ => c.src.via ≠ .cawell)
      (fun c h => (.done, ((List.range 4).filter (fun p => bit (nthW c.params 0) p)).foldl State.resetPort h))
  ∧ Completes .linkReset opLinkReset
      (fun c _ => c.src.via = .cawell ∧ c.inPort < 4 ∧ ∀ q, q < 4 → (bit (nthW c.params 0) q = true ↔ q = c.inPort))
      (fun c h => (.done, h.setPort c.inPort { h.port c.inPort with resetDue := true }))

/-- CENSUS_CALL (R288), LINK_CENSUS (R289) and LINK_WAKE (R277), once served. -/
def Obligations.CensusCommandsTakeEffect : Prop :=
  Waits .censusCall opCensusCall
      (fun c h => h.newCall (c.src.addr % 2) (bits (nthW c.params 0) 15 0) = true)
      (fun c h =>
        let h := if c.src.via = .cawell then
            h.w (if c.src.addr % 2 = 0 then Reg.LINK_MGR_ROUTE_UP_PRI else Reg.LINK_MGR_ROUTE_UP_PRI_B) c.inPort
          else h
        { h with
          sec := { h.sec with draws := h.sec.draws + 1 }
          link := { h.link with
            cnum := h.link.cnum.set (c.src.addr % 2) (some (bits (nthW c.params 0) 15 0))
            nonce := Config.random h.sec.draws % 2 ^ 36
            census := some ((c.ctx opCensusCall).req, h1Hops c.route, h.now + 100000) } }.raise 264 0)
  ∧ Completes .linkCensus opLinkCensus (fun _ h => h.peelHeld = true ∧ h.mgr.censusOpen = false)
      (fun c h => (.accepted, h.startCensus (some (c.ctx opLinkCensus).req)))
  ∧ Waits .censusCall opCensusCall
      (fun c h => h.newCall (c.src.addr % 2) (bits (nthW c.params 0) 15 0) = false) (fun _ h => h)
  ∧ Waits .linkWake opLinkWake
      (fun c _ => (List.range 4).filter (fun p => bit (nthW c.params 0) p) ≠ [])
      (fun c h =>
        let ports := (List.range 4).filter (fun p => bit (nthW c.params 0) p)
        ports.foldl (fun (x : State) p => x.setPort p { x.port p with wakeEnd := some (h.now + 100000,
          if p = ports.headD 0 then some (c.ctx opLinkWake).req else none) }) h)

/-- BAKE_OPEN, BAKE_WRITE, BAKE_ABORT (R438), BAKE_CLOSE (R440) and AUDIT_ACCEPT (R446), once served. -/
def Obligations.BakeCommandsTakeEffect : Prop :=
  Completes .bakeOpen opBakeOpen
      (fun c h =>
        let k := join48 (nthW c.params 1) (nthW c.params 2)
        (nthW c.params 0).toNat ≠ 0 ∧ h.r Reg.MGMT_BAKE_EPOCH_EPOCH ≤ (nthW c.params 0).toNat ∧ h.nextTick + 1 ≤ k
        ∧ k ≤ h.nextTick + 65536 ∧ h.rb Reg.MGMT_BAKE_PEND_0116_OPEN = false ∧ h.rb Reg.MGMT_BAKE_PEND_0116_CLOSED = false)
      (fun c h =>
        let k := join48 (nthW c.params 1) (nthW c.params 2)
        (.done k, { h with bake := { h.bake with writes := [] } }.ws
          [(Reg.MGMT_BAKE_PEND_0116_OPEN, 0, 1), (Reg.MGMT_BAKE_PEND_0116_WRITES, 0, 0),
           (Reg.MGMT_BAKE_PEND_0116_K_HI, 0, k / 2 ^ 36), (Reg.MGMT_BAKE_PEND_0117_K_LO, 0, k % 2 ^ 36),
           (Reg.MGMT_BAKE_PEND_0118_EPOCH, 0, (nthW c.params 0).toNat)]))
  ∧ Completes .bakeWrite opBakeWrite
      (fun c h =>
        h.rb Reg.MGMT_BAKE_PEND_0116_OPEN = true ∧ c.params ≠ [] ∧ c.params.length % 2 = 0
        ∧ (∀ p ∈ bakePairs c.params, h.bakeWriteOk p = true) ∧ h.bake.writes.length + c.params.length / 2 ≤ 4096)
      (fun c h =>
        let n := h.bake.writes.length + (bakePairs c.params).length
        (.done n, { h with bake := { h.bake with writes := h.bake.writes ++ bakePairs c.params } }.w Reg.MGMT_BAKE_PEND_0116_WRITES n))
  ∧ Completes .bakeClose opBakeClose
      (fun _ h => h.rb Reg.MGMT_BAKE_PEND_0116_OPEN = true ∧ h.bakeLate h.bakeK = false)
      (fun c h => (.accepted h.bakeK, { h with bake := { h.bake with req := some (c.ctx opBakeClose).req } }.ws
        [(Reg.MGMT_BAKE_PEND_0116_OPEN, 0, 0), (Reg.MGMT_BAKE_PEND_0116_CLOSED, 0, 1)]))
  ∧ Completes .bakeClose opBakeClose
      (fun _ h => h.rb Reg.MGMT_BAKE_PEND_0116_OPEN = true ∧ h.bakeLate h.bakeK = true)
      (fun _ h => (.late, h.clearBake.raise 9 0))
  ∧ Completes .bakeAbort opBakeAbort (fun _ _ => True)
      (fun _ h => (.done, { h with bake := { h.bake with writes := [], req := none } }.ws
        [(Reg.MGMT_BAKE_PEND_0116_OPEN, 0, 0), (Reg.MGMT_BAKE_PEND_0116_CLOSED, 0, 0), (Reg.MGMT_BAKE_PEND_0116_WRITES, 0, 0),
         (Reg.MGMT_BAKE_PEND_0116_K_HI, 0, 0), (Reg.MGMT_BAKE_PEND_0117_K_LO, 0, 0), (Reg.MGMT_BAKE_PEND_0118_EPOCH, 0, 0)]))
  ∧ Completes .auditAccept opAuditAccept (fun _ h => h.peelHeld = true)
      (fun _ h => (.done, { h with mgr := { h.mgr with
        workers := h.mgr.workers.map (fun (w : Worker) => { w with tile := (w.beacon.map (fun b => b.2.2.2)).orElse (fun _ => w.tile) }) } }))

/-- POWER_STATE (R513), SOFT_RESET (R511), BISQUE_LOAD (R507), BISQUE_WRITE (R508) and OWNER_FLASH_WRITE (R537), once served. -/
def Obligations.PowerCommandsTakeEffect : Prop :=
  Completes .powerState opPowerState
      (fun c h =>
        let st := bits (nthW c.params 0) 1 0
        h.isMgr = false ∧ st ≠ 3 ∧ (h.stage = 3 ∨ (h.stage = 2 ∧ st ≠ 0)) ∧ h.eng.stamp = [] ∧ h.eng.deflate = []
        ∧ h.rb Reg.MGMT_BAKE_PEND_0116_OPEN = false ∧ h.rb Reg.MGMT_BAKE_PEND_0116_CLOSED = false ∧ h.sec.staging = none
        ∧ h.periodAhead (join48 (nthW c.params 1) (nthW c.params 2)) = true)
      (fun c h =>
        let st := bits (nthW c.params 0) 1 0
        (.done, { h with start := { h.start with
          power := some (st, join48 (nthW c.params 1) (nthW c.params 2), bit (nthW c.params 0) 2) } }.w Reg.MGMT_POWER_PENDING
            (if st = 0 then 3 else st)))
  ∧ Completes .softReset opSoftReset
      (fun c h =>
        let m := bits (nthW c.params 0) 13 0
        m ≠ 0 ∧ (m = 0x3FFF ∨ (m.testBit 2 = false ∧ m.testBit 3 = false ∧ m.testBit 4 = false ∧ m.testBit 6 = false))
        ∧ (bit (nthW c.params 0) 35 = true ∨ h.periodAhead (join48 (nthW c.params 1) (nthW c.params 2)) = true))
      (fun c h =>
        let f := if bit (nthW c.params 0) 35 then h.nextTick else join48 (nthW c.params 1) (nthW c.params 2)
        (.done f, { h with start := { h.start with soft := some (bits (nthW c.params 0) 13 0, f) } }))
  ∧ Completes .bisqueLoad opBisqueLoad
      (fun c h => bits (nthW c.params 0) 1 0 = 2 ∧ h.rb Reg.MGMT_BISQUE_SHOWING = true)
      (fun _ h => (.done, { h with start := { h.start with showNext := some false } }))
  ∧ Completes .bisqueLoad opBisqueLoad
      (fun c h => bits (nthW c.params 0) 1 0 = 1 ∧ h.stage = 2 ∧ h.isMgr = false)
      (fun _ h =>
        match h.bisqueError h.bisqueImage with
        | some k => (.fault k, h.bisqueFails (some k))
        | none =>
          let t := h.takeBisque h.bisqueImage true
          (.done, { t with start := { t.start with showNext := some true } }))
  ∧ Completes .bisqueLoad opBisqueLoad
      (fun c _ => bits (nthW c.params 0) 1 0 = 0)
      (fun _ h =>
        let e := h.bisqueError h.bisqueImage
        ((match e with | none => .done h.bisqueImage.length | some k => .fault k), (h.showBisque h.bisqueImage e).bisqueFails e))
  ∧ Completes .bisqueWrite opBisqueWrite
      (fun c h =>
        h.start.bisWrite = none ∧ bits (nthW c.params 2) 27 0 ≠ 0
        ∧ h.imageOk (bits (nthW c.params 1) 27 0) (bits (nthW c.params 2) 27 0) = true)
      (fun c h => (.accepted, { h with start := { h.start with bisWrite := some (bits (nthW c.params 0) 0 0,
        bits (nthW c.params 1) 27 0, bits (nthW c.params 2) 27 0, (c.ctx opBisqueWrite).req) } }))
  ∧ Completes .ownerFlashWrite opOwnerFlashWrite
      (fun c h =>
        let off := bits (nthW c.params 0) 27 0
        let n := bits (nthW c.params 2) 27 0
        bit (nthW c.params 0) 35 = false ∧ h.dramUp = true ∧ off % 4096 = 0
        ∧ 0x1600000 + off + n ≤ flashEnd ∧ h.imageOk (bits (nthW c.params 1) 27 0) (pairWords n) = true)
      (fun c h => (.accepted, { h with start := { h.start with ownFlash := h.start.ownFlash ++ [⟨false, bits (nthW c.params 0) 27 0,
        bits (nthW c.params 1) 27 0, bits (nthW c.params 2) 27 0, [], false, (c.ctx opOwnerFlashWrite).req⟩] } }))
  ∧ (∀ ids, Completes .ownerFlashWrite opOwnerFlashWrite
      (fun c h =>
        let off := bits (nthW c.params 0) 27 0
        let sector := bits (nthW c.params 1) 27 0
        let n := bits (nthW c.params 2) 27 0
        bit (nthW c.params 0) 35 = true ∧ h.dramUp = true ∧ off % 4096 = 0
        ∧ 0x1600000 + off + n ≤ flashEnd ∧ sector + sectorsOf (7 * sector) (pairWords n) ≤ h.installed
        ∧ h.gate (7 * sector) (pairWords n) false false = .go ids)
      (fun c h =>
        let t := h.markWriting ids true false
        (.accepted, { t with start := { t.start with ownFlash := t.start.ownFlash ++ [⟨true, bits (nthW c.params 0) 27 0,
          bits (nthW c.params 1) 27 0, bits (nthW c.params 2) 27 0, ids, false, (c.ctx opOwnerFlashWrite).req⟩] } })))

/-- UPDATE_STAGE (R475), UPDATE_ACTIVATE and UPDATE_COMMIT (R476), once served. -/
def Obligations.UpdateCommandsTakeEffect : Prop :=
  Completes .updateStage opUpdateStage
      (fun c h =>
        h.sec.boot.trial = false ∧ h.sec.staging = none ∧ 9 * cdiv (bits (nthW c.params 1) 27 0) 2 ≤ 4194304
        ∧ h.imageOk (bits (nthW c.params 0) 27 0) (bits (nthW c.params 1) 27 0) = true)
      (fun c h => (.accepted, { h with sec := { h.sec with staging := some (bits (nthW c.params 0) 27 0, bits (nthW c.params 1) 27 0,
        (c.ctx opUpdateStage).req) } }.w Reg.MGMT_FW_0150_STAGING 1))
  ∧ Completes .updateActivate opUpdateActivate
      (fun c h => h.sec.boot.trial = false ∧ bit (nthW c.params 0) 12 = false)
      (fun _ h =>
        if h.slotOk (!h.sec.boot.active) then
          (.done, { h with sec := { h.sec with boot := ⟨!h.sec.boot.active, true, 0, h.sec.boot.seq + 1⟩ } })
        else (.denied, h))
  ∧ Completes .updateActivate opUpdateActivate
      (fun c h => h.sec.boot.trial = false ∧ bit (nthW c.params 0) 12 = true
        ∧ h.periodAhead (join48 (nthW c.params 0) (nthW c.params 1)) = true)
      (fun c h =>
        if h.slotOk (!h.sec.boot.active) then
          (.done, { h with
            sec := { h.sec with boot := ⟨!h.sec.boot.active, true, 0, h.sec.boot.seq + 1⟩ }
            start := { h.start with soft := some (0x3FFF, join48 (nthW c.params 0) (nthW c.params 1)) } })
        else (.denied, h))
  ∧ Completes .updateCommit opUpdateCommit (fun _ h => h.rb Reg.MGMT_FW_0150_TRIAL = true) (fun _ h => (.done, h.commitTrial))
  ∧ Completes .updateCommit opUpdateCommit (fun _ h => h.rb Reg.MGMT_FW_0150_TRIAL = false) (fun _ h => (.done, h))

/-- TIME_SCHEDULE (R363), TIME_PHASE (R367) and TIME_ADJUST (R352), once served. -/
def Obligations.TimeCommandsTakeEffect : Prop :=
  Completes .timeSchedule opTimeSchedule
      (fun c h =>
        let num := bits (nthW c.params 2) 35 17
        let den := bits (nthW c.params 2) 16 4
        let t := timeOfWords (nthW c.params 3) (nthW c.params 4) (nthW c.params 5)
        bit (nthW c.params 0) 35 = true ∧ timeOk (nthW c.params 4) (nthW c.params 5) = true ∧ rateRange num den = true
        ∧ rateChecks (h.rb Reg.EMIT_HEAD_CTRL_SCAN_EN) h.lowGrade
            (h.setSchedule (join48 (nthW c.params 0) (nthW c.params 1)) t num den).planned = true)
      (fun c h =>
        (.done, ((h.setSchedule (join48 (nthW c.params 0) (nthW c.params 1))
          (timeOfWords (nthW c.params 3) (nthW c.params 4) (nthW c.params 5)) (bits (nthW c.params 2) 35 17)
          (bits (nthW c.params 2) 16 4)).rephase h 4).showTime))
  ∧ Completes .timeSchedule opTimeSchedule
      (fun c h =>
        let k := join48 (nthW c.params 0) (nthW c.params 1)
        let num := bits (nthW c.params 2) 35 17
        let den := bits (nthW c.params 2) 16 4
        let t := timeOfWords (nthW c.params 3) (nthW c.params 4) (nthW c.params 5)
        let d := ((t : Int) - h.plannedAt k) * num
        let p : Int := (den * secUnits : Nat)
        bit (nthW c.params 0) 35 = false ∧ (bit (nthW c.params 0) 34 = true → p ≤ 2 * d ∧ d ≤ 2 * p)
        ∧ timeOk (nthW c.params 4) (nthW c.params 5) = true ∧ rateRange num den = true
        ∧ rateChecks (h.rb Reg.EMIT_HEAD_CTRL_SCAN_EN) h.lowGrade (h.setSchedule k t num den).planned = true
        ∧ (h.time.ticked = true → h.time.last < k) ∧ (h.den * secUnits : Nat) ≤ (h.plannedAt k - h.tb3) * h.num
        ∧ h.time.scheds.length < 8)
      (fun c h =>
        let x : Sched := ⟨join48 (nthW c.params 0) (nthW c.params 1), bit (nthW c.params 0) 34,
          timeOfWords (nthW c.params 3) (nthW c.params 4) (nthW c.params 5), bits (nthW c.params 2) 35 17, bits (nthW c.params 2) 16 4⟩
        (.done, { h with time := { h.time with scheds := putSched h.time.scheds x } }))
  ∧ Completes .timePhase opTimePhase (fun _ h => h.rb Reg.TIME_TICK_CTRL_BOUNDARY = false)
      (fun c h =>
        let k := join48 (nthW c.params 0) (nthW c.params 1)
        (if h.time.ticked && k ≤ h.time.last then .late else .done,
          { h with time := { h.time with phase := some (k, sext 36 (nthW c.params 2).toNat, sext 36 (nthW c.params 3).toNat) } }))
  ∧ Completes .timeAdjust opTimeAdjust
      (fun c h => bits (nthW c.params 0) 1 0 ≠ 3 ∧ h.servo (bits (nthW c.params 0) 1 0) = false)
      (fun c h => (.done, h.stepBase (bits (nthW c.params 0) 1 0)
        (sext 72 ((nthW c.params 1).toNat * 2 ^ 36 + (nthW c.params 2).toNat) * 2 ^ 18)))

/-- CLAIM (R456, R457), OWNER_TRANSFER (R458), FLOOR_SET (R455) and POLICY_SET (R472), once served; whether a block verifies is decided by
the configuration's cryptography, so that both outcomes are stated. -/
def Obligations.OwnerCommandsTakeEffect : Prop :=
  Completes .claim opClaim
      (fun c h => c.src.via = .spi ∧ c.src.seals = [] ∧ h.rb Reg.MGMT_STRAPS_CLAIM = true ∧ h.sec.slots.length < 8)
      (fun c h =>
        let root := Config.sha384 (bytesOf 96 c.params)
        if h.ownerSlot.map h.slotHash = some root then (.done (h.ownerSlot.getD 0 + 1), h)
        else
          let t := h.setStore { SealedStore.empty with seq := h.sec.store.seq }
          let n := h.sec.slots.length + 1
          let spoilt := decide (h.free 456 % 2 = 1)
          let u := { t.drawn with sec := { t.sec with slots := h.sec.slots ++ [(⟨root, !spoilt⟩ : OwnerSlot)] } }.showOtp
          let v := u.raiseIf (decide (7 ≤ n)) 66 0
          if spoilt then (.fault n, v) else (.done n, v.raise 64 0))
  ∧ Completes .ownerTransfer opOwnerTransfer (fun _ h => h.sec.slots.length < 8)
      (fun c h =>
        let b := c.params.drop 22
        if blockSigner b = 2 ∧ blockCerts b = 0 ∧ h.blockOk none (c.params.take 22) b = true then
          let spoilt := decide (h.free 456 % 2 = 1)
          let n := h.sec.slots.length + 1
          let o : OwnerSlot := ⟨Config.sha384 (bytesOf 96 (c.params.take 22)), !spoilt⟩
          let p := { h.drawn with sec := { h.sec with slots := h.sec.slots ++ [o] } }.showOtp.raiseIf (decide (7 ≤ n)) 66 0
          if spoilt then (.fault n, p)
          else (.done n, ((p.setStore { p.sec.store with
            keys := [], floors := SealedStore.empty.floors, cosign := false, transferred := true
            creds := p.sec.store.creds.map (fun (x : Cred) => { x with legacy := true }) }).endSessions).raise 65 0)
        else (.denied, h.raiseFw 75 0))
  ∧ Completes .floorSet opFloorSet (fun c _ => bits (nthW c.params 0) 3 0 ≤ 8)
      (fun c h =>
        let role := bits (nthW c.params 0) 3 0
        let gen := bits (nthW c.params 1) 35 20
        if h.blockOk (some 8) (c.params.take 2) (c.params.drop 2) then
          (.done, if nth h.sec.store.floors role < gen then
              (h.setStore { h.sec.store with floors := setNth h.sec.store.floors role gen }).raise 80 0
            else h)
        else (.denied, h.raiseFw 75 8))
  ∧ Completes .policySet opPolicySet (fun _ _ => True)
      (fun c h =>
        if h.blockOk (some 5) (c.params.take 1) (c.params.drop 1) then
          (.done, h.setStore { h.sec.store with cosign := bit (nthW c.params 0) 0 })
        else (.denied, h.raiseFw 75 5))

/-- SESSION_HELLO, SESSION_AUTH, SESSION_CLOSE (R468) and SEALED_CMD (R469), once served. -/
def Obligations.SessionCommandsTakeEffect : Prop :=
  Completes .sessionHello opSessionHello (fun _ _ => True)
      (fun c h =>
        let i := h.sessionSlot
        let h := h.endSession i
        let sid := h.newSid 203
        let h1 := (h.drawn).drew 1
        let qd := wordsOf (Config.ecPublic h.draw)
        let cred := (h1.sec.store.presented h1.isMgr).filter (fun x => !x.legacy)
        let block := match cred with
          | some x => h1.makeBlock 2 x.chain x.key (pack [(20, sid)] :: c.params.take 22 ++ qd)
          | none => [0]
        let h2 := if cred.isSome then h1.drew 1 else h1
        let e : HostSession := ⟨true, c.params.take 22, qd, h.draw, 0, 0, h2.now, h2.now⟩
        (.reply (pack [(20, sid)] :: qd ++ block),
          ((h2.setHost i e).ws [(Reg.SECURE_SESSION_STATE, i, 1), (Reg.SECURE_SESSION_SID, i, sid)]).showIdle))
  ∧ (∀ i, Completes .sessionAuth opSessionAuth (fun c h => h.sessionOf (bits (nthW c.params 0) 35 20) = some i)
      (fun c h =>
        let b := c.params.drop 1
        let role := if (blockChain b).all (fun x => (certRoles x).testBit 3) then 3 else 4
        let t := h.useSession i
        if t.blockOk (some role) (sessionWords (bits (nthW c.params 0) 35 20) (h.hostSession i)) b then
          (.done role, (t.w Reg.SECURE_SESSION_STATE (role - 1) i).raise 72 0)
        else (.denied, (t.raiseFw 75 role).raise 73 0)))
  ∧ (∀ i, Completes .sessionClose opSessionClose (fun c h => h.sessionOf (bits (nthW c.params 0) 35 20) = some i)
      (fun _ h => (.done, (h.setHost i HostSession.reset).ws
        [(Reg.SECURE_SESSION_STATE, i, 0), (Reg.SECURE_SESSION_SID, i, 0), (Reg.SECURE_SESSION_IDLE, i, 0)])))
  ∧ (∀ (c : Cmd) (s : State), s.served opSealedCmd c = true →
      exec (.sealedCmd c) s = .next
        (match if toTiles c.route then .inl .badParam else (s.handed opSealedCmd c).openSealed c with
        | .inl a =>
          let t := (s.handed opSealedCmd c).raiseIf (a = .denied 3) 74 0
          (t.cached c.src 0x210 c.tag a.code a.detail a.words).sendReply t c.src 0x210 c.tag a
        | .inr (i, ws) =>
          let h := s.handed opSealedCmd c
          let t := (h.setHost i { h.hostSession i with ctrUp := (nthW c.params 1).toNat + 1 }).useSession i
          let m := bits (nthW ws 0) 35 24
          let src : Source := { c.src with seals := (bits (nthW c.params 0) 35 20, c.tag) :: c.src.seals }
          let inner : Cmd := { c with src := src, tag := bits (nthW ws 0) 23 12, route := nthW ws 1
                                      params := (ws.drop 2).take (bits (nthW ws 0) 11 0), fence := none }
          if innerOk ws then t.interpret (c.params.length - 1) (opFind m) m inner else t.sendReply t src m inner.tag .badLength))

/-- ATTEST (R460), PROVISION (R461, R462), KEY_LOAD (R463), KEY_DROP (R464) and DEBUG_UNLOCK (R471), once served. -/
def Obligations.TrustCommandsTakeEffect : Prop :=
  Completes .attest opAttest (fun _ _ => True)
      (fun c h =>
        let eph := bit (nthW c.params 12) 0
        let h1 := h.drew 1
        let rep := h1.attestReport (c.params.take 12) (if eph then wordsOf (Config.ecPublic h.draw) else List.replicate 22 0)
        let locked := h1.r Reg.SECURE_STATUS_DEBUG = 0 && !h1.sec.pathsOff
        let h2 := if locked then h1.drew 1 else h1
        (.reply (rep ++ if locked then h1.makeBlock 1 attestWords Config.attestKey rep else [0]),
          { h2 with sec := { h2.sec with eph := if eph then some ⟨h.draw, rep, h.now⟩ else none } }))
  ∧ (∀ e, Completes .provision opProvision
      (fun c h =>
        let n := bits (nthW c.params 0) 33 32
        bits (nthW c.params 0) 35 34 ≤ 1 ∧ (n = 1 ∨ n = 2) ∧ c.params.length = 64 + 47 * n
        ∧ (bits (nthW c.params 0) 35 34 = 1 → h.isMgr = true) ∧ h.ephHeld = some e)
      (fun c h =>
        let t := { h with sec := { h.sec with eph := none } }
        match h.provisioned e c.params with
        | none => (.denied 2, t.raise 68 0)
        | some x => (.done x.gen, (t.setStore { t.sec.store with creds := installCred t.sec.store.creds x }).raise 67 0)))
  ∧ Completes .keyLoad opKeyLoad
      (fun c h =>
        let m := 31 + 10 * bits (nthW c.params 1) 35 32
        nthW c.params 0 = 0x4E7B0D001 ∧ bits (nthW c.params 1) 35 32 ≠ 0 ∧ m + 1 ≤ c.params.length
        ∧ (bits (nthW c.params 1) 35 32 + h.sec.store.keys.length ≤ 64))
      (fun c h =>
        let n := bits (nthW c.params 1) 35 32
        let m := 31 + 10 * n
        let e := bytesOf 96 ((c.params.drop 2).take 22)
        if h.blockOk (some 6) (c.params.take m) (c.params.drop m) then
          match h.fleetKey with
          | none => (.denied, h)
          | some x =>
            match Config.gcmOpen (derive (Config.ecdh x.key e) (labelKeys ++ hashBytes (Config.sha384 e)))
                (be32 ((c.params.drop 24).take 3)) (packBytes (c.params.take 24)) (packBytes ((c.params.drop 27).take (10 * n)))
                (be32 ((c.params.drop (27 + 10 * n)).take 4)) with
            | none => (.denied, h)
            | some p =>
              let new := (List.range n).map (bundleEntry (unpackBytes p))
              let all := loadKeys h.sec.store.keys new
              if ∃ k ∈ new, k.keyId = 0 then (.badParam, h)
              else (.done all.length, (h.setStore { h.sec.store with keys := all }).raise 76 0)
        else (.denied, h.raiseFw 75 6))
  ∧ Completes .keyDrop opKeyDrop (fun _ _ => True)
      (fun c h =>
        let id := bits (nthW c.params 0) 11 0
        (.done, if ∃ k ∈ h.sec.store.keys, k.keyId = id then
            h.setStore { h.sec.store with keys := h.sec.store.keys.filter (fun k => k.keyId ≠ id) }
          else h))
  ∧ (∀ e, Completes .debugUnlock opDebugUnlock (fun _ h => h.ephHeld = some e)
      (fun c h =>
        let level := bits (nthW c.params 0) 0 0
        if h.debugOk level e.report (c.params.drop 1) then
          let t := { h with
            cmd := { h.cmd with dark := true, darkNext := none }
            sec := { h.sec with eph := none, pathsOff := true, links := List.replicate 4 { LinkSession.reset with since := h.now } }
            fire := { h.fire with frames := h.fire.frames.map (fun (f : FireFrame) => { f with rays := [] }) }
            dec := { h.dec with
              pics := h.dec.pics.map (fun (p : Pic) => { p with samples := [] })
              prog := h.dec.prog.map (fun (g : Option Prog) => g.map (fun (x : Prog) => { x with samples := [] })) }
            dram := [] }
          let u := ((t.setStore { SealedStore.empty with seq := h.sec.store.seq }).endSessions).ws
            ((Reg.SECURE_STATUS_DEBUG, 0, level + 1) :: (List.range 4).flatMap (fun p =>
              [(Reg.SECURE_LINK_STATE, p, 0), (Reg.SECURE_LINK_FAR_ROLE, p, 0), (Reg.SECURE_LINK_FAR_GEN, p, 0)]))
          (.done, (u.driveBlank.driveAux.raise 79 0).raise 78 0)
        else (.denied, h.raiseFw 75 7)))

/-- MEM_WRITE and MEM_READ (R394, R143, R149–R151), once served: what is stored, and that a read stores nothing. -/
def Obligations.MemoryCommandsTakeEffect : Prop :=
  (∀ ids d, Completes .memWrite opMemWrite
      (fun c h =>
        let a := bits (nthW c.params 1) 30 0
        let n := c.params.length - 2
        (nthW c.params 0).toNat < 4 ∧ 3 ≤ c.params.length ∧ c.params.length ≤ 1018
        ∧ h.gate a n (bit (nthW c.params 0) 1) (bit (nthW c.params 0) 0) = .go ids
        ∧ storeRun (n + 1) h.dram a (c.params.drop 2) = (d, none))
      (fun c h =>
        let n := c.params.length - 2
        (.done n, (h.forced (bit (nthW c.params 0) 0) ids).stored (bits (nthW c.params 1) 30 0) n d ids)))
  ∧ (∀ ids d k, Completes .memWrite opMemWrite
      (fun c h =>
        let a := bits (nthW c.params 1) 30 0
        let n := c.params.length - 2
        (nthW c.params 0).toNat < 4 ∧ 3 ≤ c.params.length ∧ c.params.length ≤ 1018
        ∧ h.gate a n (bit (nthW c.params 0) 1) (bit (nthW c.params 0) 0) = .go ids
        ∧ storeRun (n + 1) h.dram a (c.params.drop 2) = (d, some k))
      (fun c h =>
        let a := bits (nthW c.params 1) 30 0
        let n := c.params.length - 2
        (.fault k, ({ (h.forced (bit (nthW c.params 0) 0) ids).writeChannels a n with dram := d }.sectorFail 5 k).surfsAfter ids true)))
  ∧ (∀ ids, Completes .memWrite opMemWrite
      (fun c h =>
        (nthW c.params 0).toNat < 4 ∧ 3 ≤ c.params.length ∧ c.params.length ≤ 1018
        ∧ h.gate (bits (nthW c.params 1) 30 0) (c.params.length - 2) (bit (nthW c.params 0) 1) (bit (nthW c.params 0) 0) = .queue ids)
      (fun c h => (.accepted, h.queueWrite (c.ctx opMemWrite) ids c.params (bit (nthW c.params 0) 1) (bit (nthW c.params 0) 0))))
  ∧ Completes .memRead opMemRead
      (fun c h =>
        let a := bits (nthW c.params 1) 30 0
        let n := bits (nthW c.params 2) 9 0
        1 ≤ n ∧ n ≤ 1016 ∧ a / 7 + sectorsOf a n ≤ h.installed ∧ h.owned (a / 7) (sectorsOf a n) = false)
      (fun c h =>
        let a := bits (nthW c.params 1) 30 0
        let n := bits (nthW c.params 2) 9 0
        match firstBad h.dram a n with
        | none => (.reply (dramWords h.dram a n) n, h.wakeChannels a n)
        | some k => (.fault k, (h.wakeChannels a n).sectorFail 5 k))

/-- KILN_COMMIT (R30), KILN_LUT_LOAD (R124), KILN_RELEASE (R148) and KILN_SURF_DEFINE (R144, R146), once served. -/
def Obligations.KilnCommandsTakeEffect : Prop :=
  Completes .kilnCommit opKilnCommit
      (fun c h => bit (nthW c.params 0) 12 = true ∨ join48 (nthW c.params 0) (nthW c.params 1) ≤ h.earliestOpen + 8)
      (fun c h =>
        let e := h.earliestOpen
        let f := join48 (nthW c.params 0) (nthW c.params 1)
        if bit (nthW c.params 0) 12 then (.done e, h.bindCommit e)
        else if e ≤ f then (.done f, h.bindCommit f)
        else (.late e, (h.bindCommit e).raise 736 (e % 2 ^ 28)))
  ∧ Completes .kilnLutLoad opKilnLutLoad
      (fun c h =>
        let sector := bits (nthW c.params 1) 27 0
        bit (nthW c.params 0) 7 = false ∧ h.imageOk sector 768 = true ∧ h.tableUsed 0 (bits (nthW c.params 0) 3 0) = false
        ∧ firstBad h.dram (7 * sector) 768 = none)
      (fun c h =>
        let t := bits (nthW c.params 0) 3 0
        let a := 7 * bits (nthW c.params 1) 27 0
        let u := h.wakeChannels a 768
        (.done t, { u with fire := { u.fire with pre := takePre h.fire.pre t (dramWords h.dram a 768) } }.showTables))
  ∧ Completes .kilnLutLoad opKilnLutLoad
      (fun c h =>
        let t := bits (nthW c.params 0) 3 0
        bit (nthW c.params 0) 7 = false ∧ bit (nthW c.params 0) 6 = true ∧ h.imageOk (bits (nthW c.params 1) 27 0) 768 = true
        ∧ h.tableUsed 0 t = true ∧ h.fire.loads.find? (fun (l : TableLoad) => decide (l.kind = 0) && decide (l.table = t)) = none)
      (fun c h =>
        let t := bits (nthW c.params 0) 3 0
        let l : TableLoad := ⟨0, t, c.params, (c.ctx opKilnLutLoad).req⟩
        (.accepted t, { h with fire := { h.fire with
          loads := h.fire.loads.filter (fun (l : TableLoad) => !(decide (l.kind = 0) && decide (l.table = t))) ++ [l] } }.showTables))
  ∧ (∀ ids d, Completes .kilnLutLoad opKilnLutLoad
      (fun c h =>
        let a := 7 * bits (nthW c.params 1) 27 0
        let ws := preImage h.fire.pre (bits (nthW c.params 0) 3 0)
        bit (nthW c.params 0) 7 = true ∧ h.gate a 768 (bit (nthW c.params 0) 6) false = .go ids ∧ storeRun 769 h.dram a ws = (d, none))
      (fun c h => (.done (bits (nthW c.params 0) 3 0), h.stored (7 * bits (nthW c.params 1) 27 0) 768 d ids)))
  ∧ Completes .kilnRelease opKilnRelease
      (fun c h =>
        let i := bits (nthW c.params 0) 7 0
        h.rb Reg.KILN_SURF_W3_DEFINED i = true ∧ h.rb Reg.KILN_SURF_W3_SEALED i = false ∧ namesSurf h.regs i = false
        ∧ h.rb Reg.KILN_SURF_W3_RELEASING i = false)
      (fun c h =>
        let i := bits (nthW c.params 0) 7 0
        (.done i, if bit (nthW c.params 0) 8 then h.undefine i else h))
  ∧ Completes .kilnRelease opKilnRelease
      (fun c h =>
        let i := bits (nthW c.params 0) 7 0
        h.rb Reg.KILN_SURF_W3_DEFINED i = true ∧ h.rb Reg.KILN_SURF_W3_SEALED i = true ∧ namesSurf h.regs i = false
        ∧ h.rb Reg.KILN_SURF_W3_RELEASING i = false)
      (fun c h =>
        let i := bits (nthW c.params 0) 7 0
        let free : SurfX := ⟨0, 0, none⟩
        let x := sget free h.fire.surf i
        let y : SurfX := { x with release := some ((c.ctx opKilnRelease).req, bit (nthW c.params 0) 8) }
        (.accepted x.last, { h with fire := { h.fire with surf := sset free h.fire.surf i y } }.w Reg.KILN_SURF_W3_RELEASING 1 i))
  ∧ Completes .kilnSurfDefine opKilnSurfDefine
      (fun c h =>
        let i := bits (nthW c.params 0) 7 0
        let base := bits (nthW c.params 1) 27 0
        let wm := bits (nthW c.params 2) 34 22
        let hm := bits (nthW c.params 2) 21 9
        let st := bits (nthW c.params 3) 35 23
        let n := bits (nthW c.params 3) 22 0
        n ≠ 0 ∧ hm ≤ 4351 ∧ base + n ≤ h.installed ∧ h.owned base n = false ∧ (∀ j ∈ h.surfsOf base n, j = i)
        ∧ (bit (nthW c.params 0) 8 = true → crumbBlocks (wm + 1) (hm + 1) ≤ 7 * n)
        ∧ (bit (nthW c.params 0) 8 = false → wm ≤ st ∧ cdiv ((st + 1) * (hm + 1)) 7 ≤ n)
        ∧ h.rb Reg.KILN_SURF_W3_SEALED i = false ∧ h.rb Reg.KILN_SURF_W3_RELEASING i = false ∧ h.surfBusy i = false)
      (fun c h =>
        let i := bits (nthW c.params 0) 7 0
        (.done i, h.ws [(Reg.KILN_SURF_W0_BASE, i, bits (nthW c.params 1) 27 0),
          (Reg.KILN_SURF_W1_CRUMB, i, b2n (bit (nthW c.params 0) 8)), (Reg.KILN_SURF_W1_W_M1, i, bits (nthW c.params 2) 34 22),
          (Reg.KILN_SURF_W1_H_M1, i, bits (nthW c.params 2) 21 9),
          (Reg.KILN_SURF_W2_STRIDE_M1, i, if bit (nthW c.params 0) 8 then 0 else bits (nthW c.params 3) 35 23),
          (Reg.KILN_SURF_W2_SECTORS, i, bits (nthW c.params 3) 22 0), (Reg.KILN_SURF_W3_DEFINED, i, 1),
          (Reg.KILN_SURF_W3_INVALID, i, 0)]))

/-- GLAZE_LUT_LOAD (R178), GLAZE_SET_LOAD (R179), GLAZE_CTX_LOAD (R174, R175) and GLAZE_CTX_READ (R176, R177), once served. -/
def Obligations.GlazeCommandsTakeEffect : Prop :=
  Completes .glazeLutLoad opGlazeLutLoad
      (fun c h =>
        let sector := bits (nthW c.params 1) 27 0
        h.imageOk sector 1539 = true ∧ h.tableUsed 1 (bits (nthW c.params 0) 1 0) = false
        ∧ firstBad h.dram (7 * sector) 1539 = none)
      (fun c h =>
        let t := bits (nthW c.params 0) 1 0
        let a := 7 * bits (nthW c.params 1) 27 0
        let u := h.wakeChannels a 1539
        (.done t, { u with glaze := { u.glaze with post := takePost h.glaze.post t (dramWords h.dram a 1539) } }.showTables))
  ∧ Completes .glazeSetLoad opGlazeSetLoad
      (fun c h =>
        let n := 5 * (bits (nthW c.params 1) 11 0 + 1)
        let sector := bits (nthW c.params 2) 27 0
        h.imageOk sector n = true ∧ h.tableUsed 2 (bits (nthW c.params 0) 2 0) = false ∧ firstBad h.dram (7 * sector) n = none)
      (fun c h =>
        let t := bits (nthW c.params 0) 2 0
        let count := bits (nthW c.params 1) 11 0 + 1
        let a := 7 * bits (nthW c.params 2) 27 0
        let u := h.wakeChannels a (5 * count)
        (.done t, ({ u with glaze := { u.glaze with mats := takeMats h.glaze.mats t count (dramWords h.dram a (5 * count)) } }.ws
          [(Reg.GLAZE_SLOT_LOADED, t, 1), (Reg.GLAZE_SLOT_COUNT_M1, t, count - 1)]).showTables))
  ∧ Completes .glazeLutLoad opGlazeLutLoad
      (fun c h =>
        let t := bits (nthW c.params 0) 1 0
        bit (nthW c.params 0) 6 = true ∧ h.imageOk (bits (nthW c.params 1) 27 0) 1539 = true ∧ h.tableUsed 1 t = true
        ∧ h.fire.loads.find? (fun (l : TableLoad) => decide (l.kind = 1) && decide (l.table = t)) = none)
      (fun c h =>
        let t := bits (nthW c.params 0) 1 0
        let l : TableLoad := ⟨1, t, c.params, (c.ctx opGlazeLutLoad).req⟩
        (.accepted t, { h with fire := { h.fire with
          loads := h.fire.loads.filter (fun (l : TableLoad) => !(decide (l.kind = 1) && decide (l.table = t))) ++ [l] } }.showTables))
  ∧ Completes .glazeSetLoad opGlazeSetLoad
      (fun c h =>
        let t := bits (nthW c.params 0) 2 0
        bit (nthW c.params 0) 6 = true ∧ h.tableUsed 2 t = true
        ∧ h.imageOk (bits (nthW c.params 2) 27 0) (5 * (bits (nthW c.params 1) 11 0 + 1)) = true
        ∧ h.fire.loads.find? (fun (l : TableLoad) => decide (l.kind = 2) && decide (l.table = t)) = none)
      (fun c h =>
        let t := bits (nthW c.params 0) 2 0
        let l : TableLoad := ⟨2, t, c.params, (c.ctx opGlazeSetLoad).req⟩
        (.accepted t, { h with fire := { h.fire with
          loads := h.fire.loads.filter (fun (l : TableLoad) => !(decide (l.kind = 2) && decide (l.table = t))) ++ [l] } }.showTables))
  ∧ Completes .glazeCtxLoad opGlazeCtxLoad
      (fun c h =>
        let first := bits (nthW c.params 2) 15 0
        let count := bits (nthW c.params 3) 15 0
        let n := (if bit (nthW c.params 0) 13 then 8 else 2) * count
        let sector := bits (nthW c.params 4) 27 0
        h.fire.firing = false ∧ count ≠ 0 ∧ first + count ≤ 49152 ∧ h.imageOk sector n = true
        ∧ firstBad h.dram (7 * sector) n = none)
      (fun c h =>
        let first := bits (nthW c.params 2) 15 0
        let count := bits (nthW c.params 3) 15 0
        let stride := if bit (nthW c.params 0) 13 then 8 else 2
        let a := 7 * bits (nthW c.params 4) 27 0
        let ws := dramWords h.dram a (stride * count)
        let u := h.wakeChannels a (stride * count)
        (.done count, { u with glaze := { u.glaze with
          ctx := putCtx h.glaze.ctx first count stride ws
          staged := putCtx h.glaze.staged first count stride ws
          ages := if bit (nthW c.params 0) 13 then putAges h.glaze.ages first count ws else h.glaze.ages
          parity := clearParity h.glaze.parity first count stride
          parityStaged := clearParity h.glaze.parityStaged first count 2 } }))
  ∧ Completes .glazeCtxLoad opGlazeCtxLoad
      (fun c h =>
        let count := bits (nthW c.params 3) 15 0
        let sector := bits (nthW c.params 4) 27 0
        h.fire.firing = true ∧ bit (nthW c.params 0) 13 = false ∧ bit (nthW c.params 0) 12 = true ∧ count ≠ 0
        ∧ bits (nthW c.params 2) 15 0 + count ≤ 49152 ∧ h.imageOk sector (2 * count) = true
        ∧ h.glaze.loads = [] ∧ h.glaze.waiting = [] ∧ h.rb Reg.GLAZE_CTX_STATUS_COPYING = false
        ∧ firstBad h.dram (7 * sector) (2 * count) = none)
      (fun c h =>
        let first := bits (nthW c.params 2) 15 0
        let count := bits (nthW c.params 3) 15 0
        let a := 7 * bits (nthW c.params 4) 27 0
        let ws := dramWords h.dram a (2 * count)
        let u := h.wakeChannels a (2 * count)
        let l : CtxLoad := ⟨h.earliestOpen, first, ws, false, (c.ctx opGlazeCtxLoad).req⟩
        (.accepted h.earliestOpen, { u with glaze := { u.glaze with
          staged := putCtx h.glaze.staged first count 2 ws
          parityStaged := clearParity h.glaze.parityStaged first count 2, loads := [l] } }.showCtx))
  ∧ (∀ ids d, Completes .glazeCtxRead opGlazeCtxRead
      (fun c h =>
        let first := bits (nthW c.params 1) 15 0
        let count := bits (nthW c.params 2) 15 0
        let a := 7 * bits (nthW c.params 3) 27 0
        let bank := if bit (nthW c.params 0) 2 then h.glaze.staged else h.glaze.ctx
        let ws := (List.range count).flatMap (fun i => h.ctxImage bank (first + i))
        count ≠ 0 ∧ first + count ≤ 49152
        ∧ h.gate a ws.length (bit (nthW c.params 0) 1) (bit (nthW c.params 0) 0) = .go ids
        ∧ storeRun (ws.length + 1) h.dram a ws = (d, none))
      (fun c h =>
        let first := bits (nthW c.params 1) 15 0
        let count := bits (nthW c.params 2) 15 0
        let bad := h.parityIn (bit (nthW c.params 0) 2) first count
        let u := bad.foldl (fun (x : State) p => x.parityHit p) (h.forced (bit (nthW c.params 0) 0) ids)
        let v := { u.writeChannels (7 * bits (nthW c.params 3) 27 0) (8 * count) with dram := d }
        ((match bad.head? with | some p => .fault p | none => .done), v.surfsAfter ids (!bad.isEmpty))))

/-- CAL_LOSS_LOAD (R188), CAL_RUN (R196), CAL_SAVE (R201), EMIT_FAULT_READ and EMIT_FAULT_CLEAR (R251) and ENCODE_SPY_SUB (R345), once
served. -/
def Obligations.CalibrationCommandsTakeEffect : Prop :=
  Completes .calLossLoad opCalLossLoad
      (fun c h =>
        let sector := bits (nthW c.params 1) 27 0
        bit (nthW c.params 0) 0 = false ∧ h.imageOk sector 99 = true ∧ firstBad h.dram (7 * sector) 99 = none
        ∧ ∀ w, w < 99 → lossWordBad (dramWords h.dram (7 * sector) 99) w = false)
      (fun c h =>
        let a := 7 * bits (nthW c.params 1) 27 0
        let u := h.wakeChannels a 99
        (.done, { u with cal := { u.cal with loss := takeLoss (dramWords h.dram a 99) } }))
  ∧ (∀ ids d, Completes .calLossLoad opCalLossLoad
      (fun c h =>
        let a := 7 * bits (nthW c.params 1) 27 0
        bit (nthW c.params 0) 0 = true ∧ h.gate a 99 false false = .go ids ∧ storeRun 100 h.dram a (lossImage h.cal.loss) = (d, none))
      (fun c h => (.done, h.stored (7 * bits (nthW c.params 1) 27 0) 99 d ids)))
  ∧ Completes .calRun opCalRun
      (fun c h =>
        h.rb Reg.CAL_TTH_TTH_EN = true ∧ h.fire.firing = true
        ∧ (bit (nthW c.params 0) 3 = true → bits (nthW c.params 0) 2 0 ≤ 5))
      (fun c h =>
        let e := if bit (nthW c.params 0) 3 then some (bits (nthW c.params 0) 2 0) else none
        (.accepted, { h with cal := { h.cal with reqs := h.cal.reqs ++ [(e, (c.ctx opCalRun).req)] } }.w Reg.CAL_RUN_STATUS_PENDING 1))
  ∧ Completes .calSave opCalSave
      (fun c h => h.dramUp = true ∧ h.cal.save = none ∧ (bit (nthW c.params 0) 0 = false → h.snapWait = 0))
      (fun c h => (.accepted, h.saveStart (bit (nthW c.params 0) 0) (some (c.ctx opCalSave).req)))
  ∧ (∀ ids d, Completes .emitFaultRead opEmitFaultRead
      (fun c h =>
        let a := 7 * bits (nthW c.params 1) 27 0
        let n := h.emit_.faults.length
        h.gate a n (bit (nthW c.params 0) 1) (bit (nthW c.params 0) 0) = .go ids
        ∧ storeRun (n + 1) h.dram a (h.emit_.faults.map FaultEntry.word) = (d, none))
      (fun c h =>
        let n := h.emit_.faults.length
        (.done n, (h.forced (bit (nthW c.params 0) 0) ids).stored (7 * bits (nthW c.params 1) 27 0) n d ids)))
  ∧ Completes .emitFaultClear opEmitFaultClear (fun _ _ => True)
      (fun c h =>
        let t := if bit (nthW c.params 0) 16 then
            { h.w Reg.EMIT_FAULT_STATUS_STRING_FAILED 0 with emit_ := { h.emit_ with
              faults := [], missed := List.replicate 16 0, badEcho := List.replicate 16 0 } }
          else h
        let clear (x : State) (g : Nat) : State :=
          if x.groupCauses g = 0 then
            { x.ws [(Reg.EMIT_FD_GROUP_DARK, g, 0), (Reg.EMIT_FD_GROUP_BLANKING, g, 0)] with
              emit_ := { x.emit_ with fallback := x.emit_.fallback.filter (fun p => p.1 ≠ g) } }
          else x
        (.done, ((((List.range 16).filter (fun g => bit (nthW c.params 0) g)).foldl clear t).showFaults).evalGroups))
  ∧ Completes .encodeSpySub opEncodeSpySub
      (fun c h =>
        let w := nthW c.params 0
        let same (q : SpySub) : Bool := q.addr = c.src.addr && q.port = c.src.port && q.all = bit w 35
          && (q.all || (q.x = bits w 34 28 && q.y = bits w 27 21))
        h.peelHeld = true ∧ (bits w 15 0 = 0 ∨ (h.enc.subs.filter (fun q => !same q && decide (h.now < q.until_))).length < 16))
      (fun c h =>
        let w := nthW c.params 0
        let same (q : SpySub) : Bool := q.addr = c.src.addr && q.port = c.src.port && q.all = bit w 35
          && (q.all || (q.x = bits w 34 28 && q.y = bits w 27 21))
        let x : SpySub := ⟨bit w 35, bits w 34 28, bits w 27 21, c.src.addr, c.src.port, h.now + cyclesS (bits w 15 0)⟩
        let l := h.enc.subs.filter (fun q => !same q && decide (h.now < q.until_)) ++ if bits w 15 0 = 0 then [] else [x]
        (.done l.length, { h with enc := { h.enc with subs := l } }))

/-- STAMP_GO (R484), STAMP_ABORT (R486), DEFLATE_JOB (R491), DEFLATE_SUPPLY and DEFLATE_ABORT (R493), once served. -/
def Obligations.EngineCommandsTakeEffect : Prop :=
  Completes .stampGo opStampGo
      (fun c h =>
        let j : StampJob := ⟨(List.range 13).map (fun i => wordOf h.regs (0xC0000 + i)), (c.ctx opStampGo).req, false, false, [], []⟩
        j.formsOk h.regs = true ∧ h.operandOk j.src j.w j.h = true ∧ h.operandOk j.dst j.w j.h = true ∧ j.wholeOk h.regs = true
        ∧ (j.wait = false ∨ j.force = false) ∧ h.eng.stamp.length < 4
        ∧ ∀ r ∈ j.dst.runs h.regs j.w j.h, h.owned (r.1 / 7) (sectorsOf r.1 r.2) = false)
      (fun c h =>
        let j : StampJob := ⟨(List.range 13).map (fun i => wordOf h.regs (0xC0000 + i)), (c.ctx opStampGo).req, false, false, [], []⟩
        (.accepted, { h with eng := { h.eng with stamp := h.eng.stamp ++ [j] } }.showStamp))
  ∧ Completes .stampAbort opStampAbort (fun _ _ => True)
      (fun _ h =>
        let q := h.fire.waitQ.filter (fun x => x.opcode ≠ 0xC01)
        let t := { h with fire := { h.fire with waitQ := q } }.w Reg.KILN_WRITE_QUEUE_QUEUED (waitWrites q)
        (.done h.eng.stamp.length,
          (h.eng.stamp.foldl (fun (x : State) j => x.stampFault j (x.eng.stamp.drop 1) 5 0) t).writesDue))
  ∧ Completes .deflateJob opDeflateJob
      (fun c h =>
        let n := bits (nthW c.params 0) 21 18
        let inp := (bits (nthW c.params 1) 30 0, bits (nthW c.params 2) 31 0)
        bits (nthW c.params 0) 34 33 ≠ 3 ∧ 8 ≤ bits (nthW c.params 0) 30 27 ∧ n ≤ 8 ∧ c.params.length = 5 + 2 * n
        ∧ h.rangeOk inp = true ∧ (∀ b ∈ buffersOf c.params n, b.2 ≠ 0 ∧ h.rangeOk b = true ∧ h.rangeOwned b = false)
        ∧ apart (inp :: buffersOf c.params n) = true ∧ (bit (nthW c.params 0) 24 = false ∨ bit (nthW c.params 0) 23 = false)
        ∧ h.eng.deflate.length < 4)
      (fun c h =>
        let w0 := nthW c.params 0
        let inp := (bits (nthW c.params 1) 30 0, bits (nthW c.params 2) 31 0)
        let num := ((List.range 4).find? (fun n => !(h.eng.deflate.map (fun (x : DefJob) => x.num)).contains n)).getD 0
        let j : DefJob := ⟨num, w0, bits (nthW c.params 3) 31 0, bits (nthW c.params 4) 31 0, [inp], [], bit w0 17,
          buffersOf c.params (bits w0 21 18), 0, 0, 0, false, [], (c.ctx opDeflateJob).req⟩
        let t := { h with eng := { h.eng with deflate := h.eng.deflate ++ [j] } }.showDeflate
        (.accepted num, if h.eng.deflate = [] then t.deflateNext else t))
  ∧ (∀ j : DefJob, Completes .deflateSupply opDeflateSupply
      (fun c h =>
        let rng := (bits (nthW c.params 1) 30 0, bits (nthW c.params 2) 31 0)
        h.eng.deflate.find? (fun (x : DefJob) => decide (x.num = bits (nthW c.params 0) 1 0)) = some j
        ∧ (∀ b ∈ j.inputs ++ j.bufs, rangesMeet rng b = false) ∧ h.rangeOk rng = true
        ∧ (bit (nthW c.params 0) 2 = false → j.unused < 8 ∧ rng.2 ≠ 0 ∧ rng.2 ≤ 268435455 ∧ h.rangeOwned rng = false))
      (fun c h =>
        let inDir := bit (nthW c.params 0) 2
        let last := bit (nthW c.params 0) 3
        let rng := (bits (nthW c.params 1) 30 0, bits (nthW c.params 2) 31 0)
        let y : DefJob := if inDir then { j with inputs := j.inputs ++ [rng] } else { j with bufs := j.bufs ++ [rng] }
        let z : DefJob := { y with more := j.more && !last }
        let st := h.r Reg.DEFLATE_STATUS_STATE
        let t := { h with eng := { h.eng with
          deflate := h.eng.deflate.map (fun (x : DefJob) => if x.num = j.num then z else x) } }.showDeflate
        (.done, if (h.eng.deflate.head?.map (fun (x : DefJob) => x.num)) = some j.num
              ∧ ((st = 2 ∧ inDir = false) ∨ (st = 3 ∧ (inDir = true ∨ last = true))) then
            t.w Reg.DEFLATE_STATUS_STATE (if h.hearth.plan.deferred.contains 8 then 4 else 1)
          else t)))
  ∧ (∀ j : DefJob, Completes .deflateAbort opDeflateAbort
      (fun c h => h.eng.deflate.find? (fun (x : DefJob) => decide (x.num = bits (nthW c.params 0) 1 0)) = some j)
      (fun _ h =>
        let head := h.eng.deflate.head?.any (fun (x : DefJob) => decide (x.num = j.num))
        let l := if head then h.fire.waitQ.filter (fun q => q.opcode ≠ 0xD01) else h.fire.waitQ
        let t := { h with fire := { h.fire with waitQ := l } }.w Reg.KILN_WRITE_QUEUE_QUEUED (waitWrites l)
        let at_ := if head then t.r Reg.DEFLATE_IN_IN_DONE else 0
        (.done, (t.defFault j 0x11 at_ at_).writesDue)))

/-- POWER_ON_RESET, RST_N, the rails (R499, R509, R526, R527), the die comparator (R404), the watchdog (R510), a full soft reset (R511). -/
def Obligations.ResetRowsTakeEffect : Prop :=
  Runs .powerOnReset (fun _ => True) (fun s =>
    { s.pass 0 with regs := [], inForce := []
                    start := { s.start with powered := true, held := s.pins.rst, railFell := false, cold := false } }.deviceReset 0)
  ∧ Runs .vddAonLoss (fun _ => True) (fun s =>
    let t := s.pass 0
    { State.reset with
      now := s.now, freeCtr := s.freeCtr, flash := s.flash, pending := s.pending
      pins := { s.pins with alive := false, aonBlank := false, dramReset := true }
      sec := { SecState.reset with revoked := t.sec.revoked, slots := t.sec.slots, svnBits := t.sec.svnBits, store := t.sec.store
                                   boot := t.sec.boot, draws := t.sec.draws }
      cal := { CalState.reset with logPlace := s.cal.logPlace }
      start := { StartState.reset with powered := false } })
  ∧ Runs .rstNAssert (fun s => s.start.powered = true) (fun s =>
    { s.pass 100 with pins := { s.pins with rst := true }, start := { s.start with held := true, cold := false } }.deviceReset 1)
  ∧ Runs .rstNRelease (fun s => s.start.powered = true ∧ s.start.held = true ∧ s.start.railFell = false) (fun s =>
    { s.pass 0 with pins := { s.pins with rst := false }, start := { s.start with held := false, began := s.now } }.settleDomains)
  ∧ (∀ rail, rail < 4 → Runs (.pgoodFall rail) (fun s => s.start.powered = true ∧ s.pins.pgood.getD rail true = true) (fun s =>
    { s.pass 100 with pins := { s.pins with pgood := setNth s.pins.pgood rail false }
                      start := { s.start with held := true, railFell := true, cold := false } }.deviceReset 1))
  ∧ (∀ rail dt, rail < 4 → Runs (.pgoodRise rail dt)
      (fun s => s.start.powered = true ∧ s.start.railFell = true ∧ (setNth s.pins.pgood rail true).all id = true ∧ s.pins.rst = false)
      (fun s => { s.pass dt with pins := { s.pins with pgood := setNth s.pins.pgood rail true }
                                 start := { s.start with held := false, railFell := false, began := s.now + dt } }.settleDomains))
  ∧ (∀ rail dt, rail < 3 → Runs (.pgoodRise rail dt)
      (fun s => s.start.powered = true ∧ s.start.railFell = false ∧ s.stage = 0 ∧ s.start.held = false)
      (fun s => { s.pass dt with pins := { s.pins with pgood := setNth s.pins.pgood rail true }
                                 start := { s.start with began := max s.start.began (s.now + dt - railTime rail) } }))
  ∧ (∀ dt, Runs (.dieComparatorTrip dt) (fun s => s.start.powered = true ∧ s.hearth.shutdown = false ∧ s.start.cold = false) (fun s =>
    let t := { s.pass dt with pins := { s.pins with aonBlank := true }, hearth := { s.hearth with shutdown := true } }
    let t := ((t.count Reg.HEARTH_SHUTDOWN_COUNT).flag Reg.HEARTH_SHUTDOWN_LAST 1).w Reg.HEARTH_HK_STATUS_THERM 1
    let t := (List.range 4).foldl (fun (x : State) p => if x.r Reg.LINK_PORT_W1_STATE p = 0 then x else x.portDown p) t
    { t with dram := [] }.driveBlank.driveAux.settleDomains))
  ∧ Runs .dieShutdownRestart (fun s => s.hearth.shutdown = true) (fun s =>
    let t := (s.pass 100000000).deviceReset 5
    { t with start := { t.start with dieStart := true } })
  ∧ (∀ dt, Runs (.watchdogExpiry dt) (fun s => s.mp = true) (fun s => (s.pass dt).deviceReset 2))
  ∧ (∀ k, Runs .softResetExecute (fun s => s.start.soft = some (0x3FFF, k) ∧ s.time.ticked = true ∧ k ≤ s.time.last) (fun s =>
    let t := (s.pass 0).deviceReset 4
    { t with start := { t.start with softOut := 0x3FFF } }.softBack))
  ∧ (∀ m k, m ≠ 0x3FFF → Runs .softResetExecute (fun s => s.start.soft = some (m, k) ∧ s.time.ticked = true ∧ k ≤ s.time.last)
      (fun s => ({ s.pass 0 with start := { s.start with soft := none } }.partialReset m).softBack))

/-- What every reset of the device leaves and keeps (R509, R519): the stage, its cause and its count; lost memories and jobs; OTP, flash
and the store. -/
def Obligations.DeviceResetKeeps : Prop :=
  ∀ (s : State) (cause : Nat), cause < 8 →
    let t := s.deviceReset cause
    t.stage = 0 ∧ t.r Reg.MGMT_STAGE_CAUSE = cause ∧ t.mp = false ∧ t.dramUp = false
    ∧ t.dram = [] ∧ t.flash = s.flash ∧ t.now = s.now ∧ t.pending = s.pending
    ∧ t.sec.slots = s.sec.slots ∧ t.sec.revoked = s.sec.revoked ∧ t.sec.svnBits = s.sec.svnBits ∧ t.sec.store = s.sec.store
    ∧ t.sec.boot = s.sec.boot ∧ t.sec.hosts = List.replicate 16 HostSession.reset ∧ t.sec.eph = none
    ∧ t.fire.frames = [] ∧ t.eng.stamp = [] ∧ t.eng.deflate = [] ∧ t.bake = BakeState.reset
    ∧ t.pins.aonBlank = true ∧ t.pins.dramReset = true ∧ t.time.ticked = false

/-- The rows of the start-up timeline (R13, R474, R499–R504, R302) and the ends of flash writes (R475, R476, R508, R537). -/
def Obligations.StartRowsTakeEffect : Prop :=
  (∀ role board claim, Runs (.strapSample role board claim true) (fun s => s.alive = true ∧ s.start.sampled = false ∧ s.railsUp 1 = true)
    (fun s =>
      let t := s.gotoNow (s.start.began + 200000)
      let t := { t with pins := { t.pins with role := role % 4, board := board % 16, claim := claim }
                        start := { t.start with sampled := true } }
      ((t.ws [(Reg.MGMT_STRAPS_ROLE, 0, role), (Reg.MGMT_STRAPS_BOARD_TYPE, 0, board),
        (Reg.MGMT_STRAPS_CLAIM, 0, b2n claim)]).readLaneTable).settleDomains))
  ∧ Runs .bootSlotSelect (fun s => s.alive = true ∧ s.mp = false ∧ s.stage ≠ 0 ∧ s.start.bootOk = false) (fun s => (s.pass 0).bootSelect)
  ∧ (∀ ok dt, Runs (.bisqueImageVerified ok dt)
      (fun s => s.alive = true ∧ s.start.sampled = true ∧ s.stage = 0 ∧ s.role ≠ 3 ∧ s.railsUp 3 = true)
      (fun s => (s.pass dt).bisqueVerified ok))
  ∧ (∀ dt, Runs (.mpRunning dt) (fun s => s.alive = true ∧ s.mp = false ∧ s.start.bootOk = true ∧ s.stage ≠ 0) (fun s =>
      let t := s.pass dt
      let p := logNext s.flash
      let t := { t with start := { t.start with mpAt := t.now }, evt := { t.evt with logPlace := p.1 } }
      let t := (t.w Reg.MGMT_STAGE_MP 1).w Reg.MGMT_LOG_0132_LSEQ p.2
      let t := ((t.raise 34 0).raise 37 (t.r Reg.MGMT_STAGE_CAUSE)).raises (s.sec.bootEvents.map (fun e => (e, 0)))
      let t := (t.raiseIf s.start.woke 38 (t.r Reg.MGMT_POWER_WAKE_SRC)).raiseIf s.start.dieStart 153 0
      { t with start := { t.start with woke := false, dieStart := false }, sec := { t.sec with bootEvents := [] } }.settleDomains))
  ∧ Runs .calStoreLoad (fun s => s.dramUp = true ∧ s.mp = true ∧ s.cal.loaded = false ∧ s.isWorker = true)
      (fun s => (s.pass 0).storeLoad)
  ∧ Runs .glostTimeout (fun s => s.alive = true ∧ s.stage < 2 ∧ s.role ≠ 3 ∧ s.start.late = false) (fun s =>
      let t := (s.gotoNow (s.start.began + 800000000)).showStage
      { t with start := { t.start with late := true } }.raise 35 t.unmet)
  ∧ Runs .timeWaitExpiry
      (fun s => s.alive = true ∧ s.mp = true ∧ s.r Reg.MGMT_POWER_TIME_WAIT ≠ 0 ∧ s.validSource = false ∧ s.stage < 2)
      (fun s => (s.gotoNow (s.start.mpAt + 100000000 * s.r Reg.MGMT_POWER_TIME_WAIT)).w Reg.MGMT_STAGE_TIME_WAITED 1)
  ∧ (∀ part sector n q fail, Runs (.bisqueWriteDone fail)
      (fun s => s.start.bisWrite = some (part, sector, n, q) ∧ firstBad s.dram (7 * sector) n = none)
      (fun s =>
        let t := (s.pass 0).wakeChannels (7 * sector) n
        let ws := dramWords s.dram (7 * sector) n
        let at_ := if part = 0 then 0 else (nthW (flashWords s.flash 0 4) 2).toNat
        let bytes := cdiv (9 * n) 2
        let err :=
          if part = 0 then
            match t.bisqueError ws with
            | some e => some e
            | none => if laneDigestOk s.flash ws then none else some 2
          else if laneTableOk ws = false then some 1 else if at_ + 2394 ≤ 0x100000 then none else some 6
        let done (x : State) (a : Ans) : State := { x with start := { x.start with bisWrite := none } }.complete q a
        match err with
        | some e => done (if part = 0 then t.bisqueSig err else t) (.denied e)
        | none =>
          let base := at_ / 4096 * 4096
          let len := 4096 * cdiv (at_ % 4096 + bytes) 4096
          let front := flashBytes s.flash base (at_ - base)
          let back := flashBytes s.flash (at_ + bytes) (base + len - at_ - bytes)
          let erased := flashErase s.flash base len
          match fail with
          | some o => done { t with flash := erased } (.fault o)
          | none => (done { t with flash := flashWrite erased base (front ++ (packBytes ws).take bytes ++ back) } .done).raise 40 0))
  ∧ (∀ (j : OwnFlash) fail, Runs (.ownerFlashWriteDone fail)
      (fun s => s.start.ownFlash.find? (fun x => !x.waits) = some j ∧ j.toDram = false
        ∧ firstBad s.dram (7 * j.sector) (pairWords j.bytes) = none)
      (fun s =>
        let a := 0x1600000 + j.off
        let u := s.pass 0
        let t := { u with start := { s.start with ownFlash := s.start.ownFlash.erase j } }.wakeChannels (7 * j.sector) (pairWords j.bytes)
        let bytes := (packBytes (dramWords s.dram (7 * j.sector) (pairWords j.bytes))).take j.bytes
        let erased := flashErase s.flash a (4096 * cdiv j.bytes 4096)
        match fail with
        | some o => ({ t with flash := erased }.complete j.req (.fault o)).writesDue
        | none => ({ t with flash := flashWrite erased a bytes }.complete j.req (.done j.bytes)).writesDue))
  ∧ (∀ j : OwnFlash, Runs (.ownerFlashWriteDone none)
      (fun s => s.start.ownFlash.find? (fun x => !x.waits) = some j ∧ j.toDram = true)
      (fun s =>
        let u := s.pass 0
        let t := { u with start := { s.start with ownFlash := s.start.ownFlash.erase j } }.markWriting j.ids false false
        let w := t.putBytes (7 * j.sector) 0 (flashBytes s.flash (0x1600000 + j.off) j.bytes)
        match w.2 with
        | some k => ((w.1.surfsAfter j.ids true).complete j.req (.fault k)).writesDue
        | none => ((w.1.surfsAfter j.ids false).complete j.req (.done j.bytes)).writesDue))
  ∧ (∀ sector n q fail, Runs (.updateStageDone fail)
      (fun s => s.sec.staging = some (sector, n, q) ∧ firstBad s.dram (7 * sector) n = none)
      (fun s =>
        let t := (s.pass 0).wakeChannels (7 * sector) n
        let ws := dramWords s.dram (7 * sector) n
        match t.fwError (fwParts ws) with
        | some e => ((if t.fwSigFails (fwParts ws) e then t.raiseFw 75 5 else t).raise 49 0).staged q (.denied e)
        | none =>
          let base := slotBase (!t.sec.boot.active)
          let erased := flashErase s.flash base 0x400000
          match fail with
          | some o => ({ t with flash := erased }.showFw).staged q (.fault o)
          | none => ({ t with flash := flashWrite erased base (packBytes ws) }.showFw.raise 48 0).staged q (.done (fwParts ws).svn)))
  ∧ Runs .commitHoursExpiry
      (fun s => s.r Reg.MGMT_FW_0151_COMMIT_HOURS ≠ 0 ∧ s.rb Reg.MGMT_FW_0150_TRIAL = true ∧ s.stage = 2)
      (fun s => (s.pass (360000000000 * s.r Reg.MGMT_FW_0151_COMMIT_HOURS - s.sec.trialGlost)).commitTrial)
  ∧ Runs .netRecordApply (fun s => s.isMgr = true ∧ s.mp = true ∧ s.mgr.netDone = false) (fun s => (s.pass 0).applyRecord)

/-- The rows of low power (R513–R518, R277) and of the power domains (R397–R399). -/
def Obligations.PowerRowsTakeEffect : Prop :=
  (∀ k snap, Runs .bankedEntry (fun s => s.start.power = some (1, k, snap) ∧ s.time.ticked = true ∧ k ≤ s.time.last) (fun s =>
    let u := (s.pass 0).stopFrames
    let t := { u with
      start := { u.start with power := none, exitTick := none }
      hearth := { u.hearth with skip := true }
      pins := { u.pins with aonBlank := true } }
    let t := (((t.w Reg.MGMT_POWER_PENDING 0).w Reg.MEM_STATUS_IN_SR (t.r Reg.MEM_STATUS_CH_OK)).setStage 3).driveBlank.driveAux
    let t := t.settleDomains
    if snap then t.autoSnap else t))
  ∧ (∀ k snap, Runs .bankedExit
      (fun s => s.stage = 3 ∧ s.start.exitTick = none ∧ s.start.power = some (0, k, snap) ∧ s.time.ticked = true ∧ k ≤ s.time.last)
      (fun s => (s.pass 0).bankedExit k 6))
  ∧ (∀ k, Runs .bankedExit
      (fun s => s.stage = 3 ∧ s.start.exitTick = none ∧ s.start.power = none ∧ s.start.wakeExit = some k ∧ s.time.ticked = true
        ∧ k ≤ s.time.last)
      (fun s => (s.pass 0).bankedExit k 1))
  ∧ Runs .wakePinLow
      (fun s => s.start.powered = true ∧ s.start.cold = false ∧ s.rb Reg.MGMT_POWER_WAKE_PIN = true ∧ s.stage = 3
        ∧ s.start.exitTick = none ∧ s.start.wakeExit = none)
      (fun s =>
        let t := s.pass 100000
        { t with start := { t.start with wakeExit := some (t.nextTick + 1) } }.w Reg.MGMT_POWER_PENDING 3)
  ∧ Runs .wakePinLow (fun s => s.start.powered = true ∧ s.start.cold = true ∧ s.rb Reg.MGMT_POWER_WAKE_PIN = true)
      (fun s => (s.pass 100000).coldWake 1)
  ∧ (∀ k snap, Runs .coldStandbyEntry (fun s => s.start.power = some (2, k, snap) ∧ s.time.ticked = true ∧ k ≤ s.time.last)
      (fun s => (s.pass 0).coldEntry snap))
  ∧ (∀ src, Runs (.coldStandbyWake src) (fun s => s.start.powered = true ∧ s.start.cold = true ∧ s.wakeEnabled src = true) (fun s =>
      let t := ((s.pass 0).deviceReset 6).w Reg.MGMT_POWER_WAKE_SRC src
      { t with start := { t.start with woke := true } }))
  ∧ (∀ port, port < 4 → Runs (.linkActivityWake port)
      (fun s => s.start.powered = true ∧ s.start.cold = true ∧ s.rb Reg.MGMT_POWER_WAKE_LINK = true) (fun s =>
        let t := (((s.pass 0).pass 20000).deviceReset 6).w Reg.MGMT_POWER_WAKE_SRC (port + 2)
        { t with start := { t.start with woke := true } }))
  ∧ (∀ d dt, Runs (.domainPowerGood d dt) (fun s => ∃ x ∈ s.hearth.ramps, x.1 = d) (fun s =>
      let t := { s.pass dt with hearth := { s.hearth with ramps := s.hearth.ramps.filter (fun (x : Nat × Nat × Bool) => x.1 ≠ d) } }
      ((t.setDomain d 2).settleDomains).softBack))
  ∧ (∀ d at_, Runs (.domainRampTimeout d)
      (fun s => s.hearth.ramps.find? (fun (x : Nat × Nat × Bool) => decide (x.1 = d)) = some (d, at_, false)) (fun s =>
        let t := (s.pass 0).gotoNow (at_ + 2000)
        let t := { t with hearth := { t.hearth with
          ramps := s.hearth.ramps.filter (fun (x : Nat × Nat × Bool) => x.1 ≠ d)
          retries := s.hearth.retries ++ [(d, t.now)] } }.w Reg.HEARTH_DOMAIN_FAILS (min 2 (s.r Reg.HEARTH_DOMAIN_FAILS d + 1)) d
        (t.setDomain d 0).settleDomains))
  ∧ (∀ d at_, Runs (.domainRampTimeout d)
      (fun s => s.hearth.ramps.find? (fun (x : Nat × Nat × Bool) => decide (x.1 = d)) = some (d, at_, true)) (fun s =>
        let t := (s.pass 0).gotoNow (at_ + 2000)
        let t := { t with hearth := { t.hearth with
          ramps := s.hearth.ramps.filter (fun (x : Nat × Nat × Bool) => x.1 ≠ d)
          failed := d :: s.hearth.failed } }.w Reg.HEARTH_DOMAIN_FAILS (min 2 (s.r Reg.HEARTH_DOMAIN_FAILS d + 1)) d
        ((t.setDomain d 3).raise 172 0).settleDomains))
  ∧ (∀ d at_, Runs (.domainRetry d)
      (fun s => s.hearth.retries.find? (fun (x : Nat × Nat) => decide (x.1 = d)) = some (d, at_) ∧ s.wantOn d = true ∧ s.hearth.ramps.length < 4) (fun s =>
        let t := (s.pass 0).gotoNow (at_ + 10000)
        let t := { t with hearth := { t.hearth with retries := s.hearth.retries.filter (fun (x : Nat × Nat) => x.1 ≠ d) } }.setDomain d 1
        { t with hearth := { t.hearth with ramps := t.hearth.ramps ++ [(d, t.now, true)] } }))

/-- REFCLK (R370), synthesisers and DLLs (R371, R373, R374), clock outputs (R376). -/
def Obligations.ClockRowsTakeEffect : Prop :=
  (∀ ppm dt, Runs (.refclkLoss ppm dt) (fun s => s.time.stopped = false) (fun s =>
    let t := { s.pass dt with time := { (s.pass dt).time with blank := true, stopped := true } }
    let t := (t.w Reg.CLOCK_REF_REF_OK 0).wi Reg.CLOCK_REF_REF_PPM (satS 12 ppm)
    let t := t.ws ((List.range 4).map (fun n => (Reg.CLOCK_SYN_W0_LOCKED, n, 0)))
    (t.raise 198 0).driveBlank))
  ∧ (∀ ppm dt, Runs (.refclkReturn ppm dt) (fun s => s.time.stopped = true) (fun s =>
    ((((s.pass dt).pass 1000000).deviceReset 3).w Reg.CLOCK_REF_REF_OK 1).wi Reg.CLOCK_REF_REF_PPM (satS 12 ppm)))
  ∧ (∀ n dt, n < 4 → Runs (.synLockLoss n dt) (fun s => s.rb Reg.CLOCK_SYN_W0_LOCKED n = true) (fun s =>
    ((((s.pass dt).count Reg.CLOCK_SYN_W0_LOSSES n).synStop n).raise (if n = 0 then 192 else if n = 3 then 194 else 193) 0).driveBlank))
  ∧ (∀ n dt, 4 ≤ n → n < 10 → Runs (.synLockLoss n dt) (fun s => (s.r Reg.CLOCK_DLL_LOCKED).testBit (n - 4) = true) (fun s =>
    (((s.pass dt).w Reg.CLOCK_DLL_LOCKED (s.r Reg.CLOCK_DLL_LOCKED - 2 ^ (n - 4))).raise 197 0).driveBlank))
  ∧ (∀ n band us dt, 4 ≤ n → n < 10 → Runs (.synRelockDone n band us dt)
      (fun s => s.time.stopped = false ∧ (s.r Reg.CLOCK_DLL_LOCKED).testBit (n - 4) = false) (fun s =>
    ((s.pass dt).w Reg.CLOCK_DLL_LOCKED (s.r Reg.CLOCK_DLL_LOCKED + 2 ^ (n - 4))).raise 195 0))
  ∧ (∀ n band us dt, n < 4 → Runs (.synRelockDone n band us dt)
      (fun s => s.time.stopped = false ∧ s.rb Reg.CLOCK_SYN_W0_LOCKED n = false) (fun s =>
    let t := { s.pass dt with time := { (s.pass dt).time with relocking := s.time.relocking.set n false } }
    let t := (t.ws [(Reg.CLOCK_SYN_W0_LOCKED, n, 1), (Reg.CLOCK_SYN_W0_BAND, n, band),
      (Reg.CLOCK_SYN_W0_LOCK_US, n, min 4095 us)]).raise 195 0
    if n = 0 ∧ s.time.relocking.getD 0 false = true then t.deviceReset 3 else t.settleDomains))
  ∧ (∀ n, n < 4 → Runs (.synRelockWrite n) (fun _ => True) (fun s => ((s.pass 0).synStop n).driveBlank))
  ∧ (∀ n, n < 4 → Runs (.bandSearchRetry n) (fun s => s.time.relocking.getD n false = true)
      (fun s => ((s.pass 0).raise 200 0).pass 1000000))
  ∧ (∀ j, j < 4 → Runs (.ckoArm j) (fun _ => True) (fun s =>
    { s.pass 0 with time := { (s.pass 0).time with armed := s.time.armed.set j true } }.w Reg.CLOCK_CKO_ALIGNED 0 j))
  ∧ (∀ src dt, Runs (.ckoAlignEdge src dt)
      (fun s => s.time.armed = [true, false, false, false] ∧ s.r Reg.CLOCK_CKO_ALIGN_SRC 0 = src
        ∧ s.time.realign = [false, false, false, false])
      (fun s => ({ s.pass dt with time := { (s.pass dt).time with
        armed := [false, false, false, false] } }.w Reg.CLOCK_CKO_ALIGNED 1 0).raise 199 0))

/-- Schedule and phase (R363, R367), OFFSET_IN (R350), SYNC_IN (R366), capture (R354), the time exchange (R296–R298, R357). -/
def Obligations.TimeRowsTakeEffect : Prop :=
  (∀ c, Runs .scheduleChangeApply (fun s => s.time.ticked = true ∧ s.time.scheds = [c] ∧ c.k ≤ s.time.last) (fun s =>
    let t := { s.pass 0 with time := { (s.pass 0).time with scheds := [] } }
    (((t.applySched c).raise 246 0).repeatNext).showTime))
  ∧ (∀ k p g, Runs .phaseCommandApply (fun s => s.time.ticked = true ∧ s.time.phase = some (k, p, g) ∧ k ≤ s.time.last) (fun s =>
    (((s.pass 0).phaseStep s.time.last).slewStep false).showTime))
  ∧ (∀ b v, b < 3 → Runs (.offsetInWrite b v) (fun s => s.servo b = true) (fun s =>
    ((s.pass 0).feed b (sext 36 v.toNat)).emit .reply [] [0]))
  ∧ (∀ dt, Runs (.syncInEdge false dt)
      (fun s => s.rb Reg.TIME_TICK_CTRL_BOUNDARY = true ∧ s.rb Reg.TIME_CAPTURE_W0_EN 0 = false
        ∧ (∀ n, n < 4 → s.r Reg.CLOCK_CKO_ALIGN_SRC n ≠ 0) ∧ 0 ≤ (s.pass dt).nearSync (s.pass dt).tb3
        ∧ s.time.syncK ≠ some ((s.pass dt).nearSync (s.pass dt).tb3).toNat)
      (fun s =>
        let t := s.pass dt
        let k := (t.nearSync t.tb3).toNat
        let e := to16 ((stampOf t.tb3.toNat : Int) - t.sched k - 1024 * t.ri Reg.TIME_SYNC_OFFSET_SYNC_OFFSET)
        { t with time := { t.time with demand := some (sat16 (t.phi + e)), syncK := some k, syncLost := false } }.w
          Reg.TIME_TICK_STATUS_SYNC_OK 1))
  ∧ Runs .syncInLost (fun s => s.rb Reg.TIME_TICK_CTRL_BOUNDARY = true ∧ s.time.syncLost = false) (fun s =>
    let t := s.pass 0
    let div := s.r Reg.TIME_TICK_CTRL_SYNC_DIV
    let k := s.time.syncK.getD (s.time.last / div * div)
    let t := t.goto (s.sched (k + 3 * div) + 1024 * s.ri Reg.TIME_SYNC_OFFSET_SYNC_OFFSET + (div * s.period / 2 : Nat))
    ({ t with time := { t.time with syncLost := true } }.w Reg.TIME_TICK_STATUS_SYNC_OK 0).raise 240 0)
  ∧ (∀ el falling dt, el < 2 → Runs (.captureEdge el falling dt)
      (fun s => s.rb Reg.TIME_CAPTURE_W0_EN el = true ∧ s.rb Reg.TIME_CAPTURE_W0_FALLING el = falling
        ∧ (s.time.capAt.getD el none).all (fun a => decide (a + 10 ≤ s.now + dt)) = true ∧ (s.time.fifo.getD el []).length < 16)
      (fun s =>
        let t := s.pass dt
        let q := s.time.fifo.getD el []
        { t with time := { t.time with
          capAt := s.time.capAt.set el (some t.now)
          fifo := s.time.fifo.set el (q ++ [t.stamp (s.r Reg.TIME_CAPTURE_W0_BASE el)]) } }.w Reg.TIME_CAPTURE_W0_DEPTH (q.length + 1) el))
  ∧ (∀ el falling dt, el < 2 → Runs (.captureEdge el falling dt)
      (fun s => s.rb Reg.TIME_CAPTURE_W0_EN el = true ∧ s.rb Reg.TIME_CAPTURE_W0_FALLING el = falling
        ∧ (s.time.capAt.getD el none).all (fun a => decide (a + 10 ≤ s.now + dt)) = true ∧ 16 ≤ (s.time.fifo.getD el []).length)
      (fun s =>
        let t := s.pass dt
        ({ t with time := { t.time with capAt := s.time.capAt.set el (some t.now) } }.flag Reg.TIME_CAPTURE_W0_LOST 1 el).raise 247 0))
  ∧ (∀ el t rest, el < 2 → Runs (.captureFifoRead el) (fun s => s.time.fifo.getD el [] = t :: rest) (fun s =>
    ({ s.pass 0 with time := { (s.pass 0).time with fifo := s.time.fifo.set el rest } }.ws
      [(Reg.TIME_CAPTURE_W1_STAMP, el, (nthW (wordsOfTime t) 0).toNat), (Reg.TIME_CAPTURE_W2_STAMP, el, (nthW (wordsOfTime t) 1).toNat),
       (Reg.TIME_CAPTURE_W3_STAMP, el, (nthW (wordsOfTime t) 2).toNat)]).w Reg.TIME_CAPTURE_W0_DEPTH rest.length el))
  ∧ (∀ p dt, Runs (.timeExchangeStart dt) (fun s => s.isWorker = true ∧ s.upstream = some p) (fun s =>
    let t := (s.pass dt).gotoNow (s.link.exchBegan + 100000000 / 2 ^ s.r Reg.LINK_TIME_CTRL_INTERVAL)
    let n := s.link.exchNum
    let x : Exchange := ⟨p, n, t.bases, [], [], [], [false, false], none⟩
    { t with link := { t.link with
      exchBegan := t.now
      exchNum := (n + 1) % 65536
      exchange := some x
      delays := if s.link.delayPort = p then s.link.delays else []
      delayPort := p } }.originate p 2 0 [timeP0 1 [] n]))
  ∧ (∀ port words resp dt, port < 4 → Runs (.tReqReceive port words resp dt) (fun s => s.portUp port = true) (fun s =>
    let t := s.pass dt
    let v := [t.tellsValid 0, t.tellsValid 1]
    let n := bits (nthW words 0) 15 0
    let u := { t.pass (min resp 2000) with out := t.out }
    let times (x : List Nat) : List Word := wordsOfTime (nth x 0) ++ wordsOfTime (nth x 1)
    (u.originate port 2 0 (timeP0 2 v n :: times t.bases)).originate port 2 0 (timeP0 3 v n :: times u.bases)))
  ∧ (∀ port words dt x, port < 4 → Runs (.tRespReceive port words false dt)
      (fun s => s.link.exchange = some x ∧ x.port = port ∧ x.num = bits (nthW words 0) 15 0) (fun s =>
        let t := s.pass dt
        { t with link := { t.link with exchange := some { x with
          t2 := timesOf words, t4 := t.bases, v := [bit (nthW words 0) 16, bit (nthW words 0) 17], respAt := some t.now } } }))
  ∧ (∀ port words dt x, port < 4 → Runs (.tFupReceive port words false dt)
      (fun s => s.link.exchange = some x ∧ x.port = port ∧ x.num = bits (nthW words 0) 15 0 ∧ s.link.delays = []
        ∧ x.respAt.any (fun r => decide (s.now + dt ≤ r + 10000)) = true)
      (fun s =>
        let t := s.pass dt
        let y : Exchange := { x with
          t3 := timesOf words, v := [x.v.getD 0 false && bit (nthW words 0) 16, x.v.getD 1 false && bit (nthW words 0) 17] }
        let b := if y.v.getD 0 false = false ∧ y.v.getD 1 false = true then 1 else 0
        let u := { t with link := { t.link with exchange := none, delays := [exchDelay y b] } }.w Reg.LINK_PORT_W3_DELAY
          (min 65535 (meanDelay [exchDelay y b]).toNat) port
        { u with link := { u.link with exchAt := u.now } }.feedBoth y))
  ∧ (∀ x t, Runs .tFupLate (fun s => s.link.exchange = some x ∧ x.respAt = some t) (fun s =>
    let u := s.gotoNow (t + 10000)
    { u with link := { u.link with exchange := none } }))
  ∧ Runs .timeLostTimeout (fun s => s.isWorker = true) (fun s =>
    let t := (s.gotoNow (s.link.exchAt + 100000000)).raise 270 0
    ({ t with link := { t.link with exchAt := t.now } }.setRef 0 false).setRef 1 false)

/-- Training (R385), retraining (R386), speed switches (R387), refresh (R384), self-refresh (R390, R391). -/
def Obligations.MemoryRowsTakeEffect : Prop :=
  (∀ dt, Runs (.dramTrainingStart dt) (fun s => s.trainReady = true) (fun s =>
    { s.pass dt with mem := { s.mem with training := true }, pins := { s.pins with dramReset := false } }))
  ∧ (∀ ok g0 g1 density ranks dt, ok % 16 = 15 → capacityOk density ranks = true →
    Runs (.dramTrainingDone ok (some g0) (some g1) density ranks true dt) (fun s => s.mem.training = true) (fun s =>
      let t := { s.pass dt with mem := { s.mem with training := false } }
      let t := t.ws [(Reg.MEM_STATUS_CH_OK, 0, 15), (Reg.MEM_STATUS_DENSITY, 0, density), (Reg.MEM_STATUS_RANKS, 0, ranks)]
      let a := min g0 (s.r Reg.MEM_CTRL_SP0_GRADE)
      let b := min g1 (s.r Reg.MEM_CTRL_SP1_GRADE)
      let sp := s.r Reg.MEM_CTRL_SP_SEL
      let t := { t with mem := { t.mem with grades := [a, b], idleAt := List.replicate 4 t.now, toSp := sp, oscAt := List.replicate 4 t.now } }
      let t := t.ws [(Reg.MEM_STATUS_TRAINED, 0, 1), (Reg.MEM_STATUS_SP, 0, sp), (Reg.MEM_STATUS_GRADE, 0, nth [a, b] sp)]
      (t.allocate.w Reg.MGMT_STAGE_DRAM 1).raise 384 0))
  ∧ (∀ ok g1 density ranks same dt, Runs (.dramTrainingDone ok none g1 density ranks same dt) (fun s => s.mem.training = true) (fun s =>
      ({ s.pass dt with mem := { s.mem with training := false } }.ws
        [(Reg.MEM_STATUS_CH_OK, 0, ok % 16), (Reg.MEM_STATUS_DENSITY, 0, density), (Reg.MEM_STATUS_RANKS, 0, ranks)]).raise 385 0))
  ∧ (∀ ch drift dt, ch < 4 → Runs (.oscCheck ch drift dt)
      (fun s => s.rb Reg.MEM_STATUS_TRAINED = true ∧ s.tailLets ch = true ∧ s.rb Reg.MEM_STATUS_SWITCHING = false
        ∧ drift ≤ s.r Reg.MEM_CTRL_DRIFT_LIM)
      (fun s =>
        let t := ((s.pass dt).gotoNow (nth s.mem.oscAt ch + 100000 * s.r Reg.MEM_CTRL_RETRAIN_MS)).toTail
        { t with mem := { t.mem with oscAt := s.mem.oscAt.set ch t.now } }.w Reg.MEM_CHAN_W0_DRIFT (min 255 drift) ch))
  ∧ (∀ ch drift dt, ch < 4 → Runs (.oscCheck ch drift dt)
      (fun s => s.rb Reg.MEM_STATUS_TRAINED = true ∧ s.tailLets ch = true ∧ s.rb Reg.MEM_STATUS_SWITCHING = false
        ∧ s.r Reg.MEM_CTRL_DRIFT_LIM < drift ∧ drift ≤ 2 * s.r Reg.MEM_CTRL_DRIFT_LIM ∧ ∀ q ∈ s.mem.seqs, q.1 ≠ ch)
      (fun s =>
        let t := ((s.pass dt).gotoNow (nth s.mem.oscAt ch + 100000 * s.r Reg.MEM_CTRL_RETRAIN_MS)).toTail
        let t := { t with mem := { t.mem with oscAt := s.mem.oscAt.set ch t.now } }.w Reg.MEM_CHAN_W0_DRIFT (min 255 drift) ch
        { t with mem := { t.mem with seqs := s.mem.seqs ++ [(ch, 0)] } }.showSeqs))
  ∧ (∀ ch drift dt, ch < 4 → Runs (.oscCheck ch drift dt)
      (fun s => s.rb Reg.MEM_STATUS_TRAINED = true ∧ s.tailLets ch = true ∧ s.rb Reg.MEM_STATUS_SWITCHING = false
        ∧ 2 * s.r Reg.MEM_CTRL_DRIFT_LIM < drift ∧ s.mem.hard = [] ∧ ∃ q ∈ s.mem.seqs, q.1 = ch)
      (fun s =>
        let t := ((s.pass dt).gotoNow (nth s.mem.oscAt ch + 100000 * s.r Reg.MEM_CTRL_RETRAIN_MS)).toTail
        let t := { t with mem := { t.mem with oscAt := s.mem.oscAt.set ch t.now } }.w Reg.MEM_CHAN_W0_DRIFT (min 255 drift) ch
        { t with mem := { t.mem with hard := [ch] } }.raise 388 0))
  ∧ (∀ ch n rest dt, Runs (.retrainBurst dt)
      (fun s => s.mem.seqs = (ch, n) :: rest ∧ (s.pass dt).mayBurst ch = true ∧ n < 5)
      (fun s =>
        let t := (s.pass dt).atBurst
        { t with mem := { t.mem with burstAt := some t.now, seqs := (ch, n + 1) :: rest } }))
  ∧ (∀ ch n rest dt, Runs (.retrainBurst dt)
      (fun s => s.mem.seqs = (ch, n) :: rest ∧ (s.pass dt).mayBurst ch = true ∧ 5 ≤ n)
      (fun s =>
        let t := (s.pass dt).atBurst
        let t := { t with mem := { t.mem with
          burstAt := some t.now, seqs := rest, hard := s.mem.hard.filter (· ≠ ch) } }.showSeqs
        (t.count Reg.MEM_CHAN_W2_RETRAINS ch).raise 386 0))
  ∧ (∀ dt, Runs (.speedSwitch dt) (fun s => s.rb Reg.MEM_STATUS_SWITCHING = true ∧ ∀ q ∈ s.mem.seqs, q.2 = 0) (fun s =>
      ((s.pass dt).toTail.ws [(Reg.MEM_STATUS_SP, 0, s.mem.toSp), (Reg.MEM_STATUS_GRADE, 0, nth s.mem.grades s.mem.toSp),
        (Reg.MEM_STATUS_SWITCHING, 0, 0)]).raise 389 0))
  ∧ (∀ ch n dt, Runs (.speedSwitch dt) (fun s => s.rb Reg.MEM_STATUS_SWITCHING = true ∧ s.mem.seqs = [(ch, n + 1)]) (fun s =>
      let t := (s.pass dt).toTail
      let t := { t with mem := { t.mem with seqs := [(ch, 0)], spoilt := some s.time.last } }.raise 387 0
      (t.ws [(Reg.MEM_STATUS_SP, 0, s.mem.toSp), (Reg.MEM_STATUS_GRADE, 0, nth s.mem.grades s.mem.toSp),
        (Reg.MEM_STATUS_SWITCHING, 0, 0)]).raise 389 0))
  ∧ (∀ ch idle dt, ch < 4 → Runs (.refreshDue ch idle dt)
      (fun s => s.rb Reg.MEM_STATUS_TRAINED = true ∧ (s.r Reg.MEM_STATUS_IN_SR).testBit ch = false
        ∧ s.r Reg.MEM_CHAN_W0_POSTPONED ch + 1 ≤ 8 + idle)
      (fun s => (s.pass dt).w Reg.MEM_CHAN_W0_POSTPONED (s.r Reg.MEM_CHAN_W0_POSTPONED ch + 1 - idle) ch))
  ∧ (∀ ch idle dt, ch < 4 → Runs (.refreshDue ch idle dt)
      (fun s => s.rb Reg.MEM_STATUS_TRAINED = true ∧ (s.r Reg.MEM_STATUS_IN_SR).testBit ch = false
        ∧ 8 + idle < s.r Reg.MEM_CHAN_W0_POSTPONED ch + 1)
      (fun s => (((s.pass dt).w Reg.MEM_CHAN_W0_POSTPONED 8 ch).count Reg.MEM_CHAN_W2_FORCED ch).raiseTick 393 0 0))
  ∧ (∀ ch rate hot dt, ch < 4 → Runs (.mr4Read ch rate hot dt) (fun s => s.rb Reg.MEM_STATUS_TRAINED = true) (fun s =>
      ({ s.pass dt with mem := { s.mem with hot := s.mem.hot.set ch hot } }.w Reg.MEM_CHAN_W0_REF_RATE rate ch).raiseIf
        (hot && !s.mem.hot.getD ch false) 392 0))
  ∧ (∀ ch, ch < 4 → Runs (.selfRefreshEntry ch false)
      (fun s => s.rb Reg.MEM_STATUS_TRAINED = true ∧ (s.stage = 3 ∨ s.rb Reg.MEM_CTRL_IDLE_SR = true
          ∧ max s.now (nth s.mem.idleAt ch + 100 * s.r Reg.MEM_CTRL_SR_IDLE)
            < nth s.mem.oscAt ch + 100000 * s.r Reg.MEM_CTRL_RETRAIN_MS)
        ∧ (s.r Reg.MEM_STATUS_IN_SR).testBit ch = false
        ∧ s.rb Reg.MEM_CHAN_W0_POSTPONED ch = false ∧ ∀ q ∈ s.mem.seqs, q.1 ≠ ch)
      (fun s => (((s.pass 0).gotoNow (nth s.mem.idleAt ch + 100 * s.r Reg.MEM_CTRL_SR_IDLE)).w Reg.MEM_STATUS_IN_SR
        (s.r Reg.MEM_STATUS_IN_SR + 2 ^ ch)).count Reg.MEM_CHAN_W1_SR_ENTRIES ch))
  ∧ (∀ ch, ch < 4 → Runs (.selfRefreshEntry ch true)
      (fun s => s.rb Reg.MEM_STATUS_TRAINED = true ∧ (s.stage = 3 ∨ s.rb Reg.MEM_CTRL_IDLE_SR = true
          ∧ max s.now (nth s.mem.idleAt ch + 100 * s.r Reg.MEM_CTRL_SR_IDLE)
            < nth s.mem.oscAt ch + 100000 * s.r Reg.MEM_CTRL_RETRAIN_MS)
        ∧ (s.r Reg.MEM_STATUS_IN_SR).testBit ch = false
        ∧ s.rb Reg.MEM_CHAN_W0_POSTPONED ch = false ∧ ∀ q ∈ s.mem.seqs, q.1 ≠ ch)
      (fun s =>
        let t := (s.pass 0).gotoNow (nth s.mem.idleAt ch + 100 * s.r Reg.MEM_CTRL_SR_IDLE)
        { t with mem := { t.mem with idleAt := s.mem.idleAt.set ch t.now } }.count Reg.MEM_CHAN_W1_SR_CANCELS ch))

/-- Housekeeping (R399), the damper (R409, R411), the ledger (R414–R417) and the planner's projection (R50). -/
def Obligations.HeatRowsTakeEffect : Prop :=
  (∀ x : HkInput, Runs (.housekeepingRound x) (fun s => s.domain 4 = 2) (fun s =>
    ((s.gotoNow (s.hearth.hkAt + 1000000)).hkRound x).settleDomains))
  ∧ Runs .damperGraceExpiry (fun s => s.r Reg.HEARTH_DAMP_STATUS_STATE = 1 ∧ s.anyCause = true) (fun s =>
    let t := (s.pass 0).gotoNow (s.hearth.easeAt + 10000000 * s.r Reg.HEARTH_DAMP_CTRL_GRACE)
    let p := s.meanPower
    let cap := max (s.r Reg.HEARTH_DAMP_CTRL_FLOOR_W) (min (s.r Reg.HEARTH_PLAN_CTRL_POWER_CAP) p - s.r Reg.HEARTH_DAMP_CTRL_STEP_W)
    let t := t.ws [(Reg.HEARTH_DAMP_STATUS_STATE, 0, 2), (Reg.HEARTH_DAMP_STATUS_P_ENG, 0, min 1023 p),
      (Reg.HEARTH_DAMP_BRT_B_ENG, 0, s.hearth.lastBrt.getD 65535)]
    (({ t with hearth := { t.hearth with stepAt := t.now } }.setCap cap).raise 155 0).requestSp 1)
  ∧ Runs .damperStepExpiry
      (fun s => s.r Reg.HEARTH_DAMP_STATUS_STATE = 2 ∧ s.anyCause = true
        ∧ s.r Reg.HEARTH_DAMP_CTRL_FLOOR_W < s.r Reg.HEARTH_DAMP_STATUS_T_CAP ∧ 0 < s.r Reg.HEARTH_DAMP_CTRL_STEP_W)
      (fun s =>
        let t := (s.pass 0).gotoNow (s.hearth.stepAt + if s.hardCause then 10000000 else 10000000 * s.r Reg.HEARTH_DAMP_CTRL_STEP_TIME)
        let cap := max (s.r Reg.HEARTH_DAMP_CTRL_FLOOR_W) (s.r Reg.HEARTH_DAMP_STATUS_T_CAP - s.r Reg.HEARTH_DAMP_CTRL_STEP_W)
        ({ t with hearth := { t.hearth with stepAt := t.now } }.setCap cap).raise 155 0)
  ∧ Runs .damperStepExpiry (fun s => s.r Reg.HEARTH_DAMP_STATUS_STATE = 2 ∧ s.anyCause = false) (fun s =>
      (((s.pass 0).gotoNow (s.hearth.quietAt + 10000000 * s.r Reg.HEARTH_DAMP_CTRL_STEP_TIME)).w Reg.HEARTH_DAMP_STATUS_STATE 3).capUp)
  ∧ Runs .damperStepExpiry (fun s => s.r Reg.HEARTH_DAMP_STATUS_STATE = 3) (fun s =>
      ((s.pass 0).gotoNow (s.hearth.stepAt + 10000000 * s.r Reg.HEARTH_DAMP_CTRL_STEP_TIME)).capUp)
  ∧ Runs .ledgerReconcile (fun _ => True) (fun s => (s.pass 0).reconcile)
  ∧ (∀ acts done dt, Runs (.planProjection acts done dt) (fun _ => True) (fun s =>
      let t := s.pass dt
      let p := s.hearth.plan
      let left := p.items.filter (fun (x : PlanWork) => !done.contains x.id)
      let projected := t.ledger (t.allActs acts) + (left.map (fun (x : PlanWork) => x.uj)).foldl (· + ·) 0
      let gone := withdraw p.budget (withdrawOrder (!s.mem.hard.isEmpty) p.items done) projected
      let ids := gone.map (fun (x : PlanWork) => x.id)
      let q := { p with
        items := p.items.filter (fun (x : PlanWork) => !ids.contains x.id)
        deferred := gone.map (fun (x : PlanWork) => x.cls) ++ p.deferred }
      { t with hearth := { t.hearth with plan := q } }.enginePause))

/-- Lane start (R264, R265), reception (R262, R263, R273), transmission (R265, R276), the eye monitor (R270). -/
def Obligations.LaneRowsTakeEffect : Prop :=
  (∀ lane, Runs (.laneStart lane) (fun s => s.laneMay lane = true ∧ s.laneState lane = 0) (fun s =>
    let t := ((s.pass 0).setLane lane { LaneX.reset with startAt := some s.now, scrTx := 0x2B3C4D5E, align := 16 }).w
      Reg.LINK_LANE_W1_STATE (if laneRx lane then 2 else 4) lane
    let t := if laneRx lane = true then t else t.driveBlank
    if lane < 8 ∧ lane % 2 = 0 then t.setPort (lane / 2) { t.port (lane / 2) with align := 16 } else t))
  ∧ (∀ lane t, Runs (.laneStartFail lane)
      (fun s => (s.laneX lane).startAt = some t ∧ laneRx lane = true ∧ s.rxLocked lane = false ∧ s.laneState lane ≠ 0
        ∧ (s.laneX lane).told = false)
      (fun s => ((s.gotoNow (t + 1000000)).setLane lane { s.laneX lane with told := true }).laneEvent 375 lane lane))
  ∧ (∀ lane line dt, 28 ≤ lane → lane < 32 → Runs (.superblockReceive lane line dt) (fun s => s.laneState lane = 2) (fun s =>
      let raw := (s.laneX lane).line ++ (line.flatMap (fun w => bitList 36 w.toNat)).take 1237
      match findMarker raw with
      | some rest => ((s.pass dt).setLane lane { s.laneX lane with line := rest, good := 0, miss := 0 }).w Reg.LINK_LANE_W1_STATE 3 lane
      | none =>
        ((s.pass dt).setLane lane { s.laneX lane with line := raw.drop (raw.length - 35), good := 0 }).w Reg.LINK_LANE_W1_STATE 2 lane))
  ∧ (∀ lane line dt ws st, 28 ≤ lane → lane < 32 →
      let raw (s : State) : List Bool := (s.laneX lane).line ++ (line.flatMap (fun w => bitList 36 w.toNat)).take 1237
      Runs (.superblockReceive lane line dt)
        (fun s => s.laneState lane = 4 ∧ 1237 ≤ (raw s).length ∧ slotMarker ((raw s).take 1237) = some 0x066
          ∧ decodeData (s.laneX lane).scrRx ((raw s).take 1237) = (some ws, st))
        (fun s => (((s.pass dt).setLane lane { s.laneX lane with line := (raw s).drop 1237, scrRx := st, miss := 0 }).readback
          ws).faultMap ws))
  ∧ (∀ p line dt ws st ty g, p < 4 → markerTypes.contains ty = true →
      let l := 2 * p + 1
      let raw (s : State) : List Bool := (s.laneX l).line ++ (line.flatMap (fun w => bitList 36 w.toNat)).take 1237
      Runs (.superblockReceive l line dt)
        (fun s => s.laneState (2 * p) = 4 ∧ s.laneState l = 4 ∧ s.r Reg.LINK_PORT_W1_STATE p ≠ 0
          ∧ 1237 ≤ (raw s).length ∧ slotMarker ((raw s).take 1237) = some ty
          ∧ (s.laneX (2 * p)).held = some (some (ty, g)) ∧ s.lane.lanes.length = 32
          ∧ decodeData (s.laneX l).scrRx ((raw s).take 1237) = (some ws, st))
        (fun s =>
          let t := (s.pass dt).setLane l { s.laneX l with line := (raw s).drop 1237, scrRx := st, miss := 0 }
          (t.setLane (2 * p) { s.laneX (2 * p) with held := none }).portBlock p ty
            ((List.range 64).map (fun w => nthW (if w % 2 = 0 then g else ws) (w / 2)))))
  ∧ (∀ lane errs dt, lane < 8 → Runs (.superblockSlotSend lane dt errs)
      (fun s => ((s.pass dt).wakesDone).laneState (2 * (lane / 2)) ≠ 0 ∧ ((s.pass dt).wakesDone).laneState (2 * (lane / 2) + 1) ≠ 0
        ∧ (((s.pass dt).wakesDone).rb Reg.LINK_PORT_W0_SLEEP (lane / 2) = false
          ∨ (((s.pass dt).wakesDone).port (lane / 2)).wakeEnd.isSome = true))
      (fun s =>
        let t := ((s.pass dt).wakesDone).flushBeacons.queueFails (lane / 2) errs
        let q := t.slotOf (lane / 2)
        ((t.sendPort (lane / 2)).stampSent (lane / 2) q.1 q.2.1).resetWaiting (lane / 2)))
  ∧ (∀ lane errs dt, 12 ≤ lane → lane < 28 → Runs (.superblockSlotSend lane dt errs)
      (fun s => ((s.pass dt).wakesDone).laneState lane ≠ 0)
      (fun s =>
        let t := (s.pass dt).wakesDone
        let x := t.laneX lane
        let b := t.nextBlock (lane - 12) errs
        if x.align ≠ 0 then (t.setLane lane { x with align := x.align - 1 }).sendLane lane 0x0E1 []
        else if b.1.1 = 0x055 then b.2.sendLane lane 0x055 b.1.2
        else (b.2.emit .emit [lane - 12, b.1.1] b.1.2).sendLane lane b.1.1 b.1.2))
  ∧ (∀ h v lane auto, Runs (.eyeMeasureDone h v) (fun s => s.lane.eye = some (lane, auto)) (fun s =>
      let t := s.gotoNow (s.lane.eyeAt + s.eyeTime lane)
      let t := { t with lane := { s.lane with eye := none } }.ws
        [(Reg.LINK_EYE_CTRL_BUSY, 0, 0), (Reg.LINK_LANE_W3_EYE_VALID, lane, 1), (Reg.LINK_LANE_W3_EYE_H, lane, h),
         (Reg.LINK_LANE_W3_EYE_V, lane, v)]
      let t := t.laneEvent 374 lane lane
      if auto = true ∧ (h < s.r Reg.LINK_EYE_CTRL_MIN_H ∨ v < s.r Reg.LINK_EYE_CTRL_MIN_V) then t.laneEvent 373 lane lane else t))
  ∧ (∀ lane, Runs .eyeAutoSchedule
      (fun s => s.rb Reg.LINK_EYE_CTRL_AUTO = true ∧ s.lane.eye = none
        ∧ ((List.range 32).map (fun n => (s.lane.autoNext + n) % 32)).find? (fun l => laneRx l && s.rxLocked l) = some lane)
      (fun s =>
        let t := s.gotoNow (s.lane.autoAt + 6000000000)
        { t with lane := { t.lane with autoAt := t.now, autoNext := (lane + 1) % 32, eye := some (lane, true), eyeAt := t.now } }.ws
          [(Reg.LINK_EYE_CTRL_BUSY, 0, 1), (Reg.LINK_EYE_CTRL_ERROR, 0, 0)]))

/-- Ports and packets (R274–R276, R278–R287, R294). -/
def Obligations.PortRowsTakeEffect : Prop :=
  (∀ port words dt, port < 4 → bits (nthW words 0) 35 32 = 1 → bits (nthW words 6) 6 4 ≠ 4 → Runs (.ctrlSuperblockReceive port words dt)
    (fun s => s.r Reg.LINK_PORT_W1_STATE port = 1 ∧ 1 ≤ (s.port port).hello)
    (fun s =>
      let t := s.pass dt
      let v := s.port port
      let t := (t.setPort port { v with ctrlAt := t.now, hello := v.hello + 1
                                        cred := (List.range 5).map (fun c => bits (nthW words (1 + c)) 19 0) }).takeFar port words
      let t := ((t.w Reg.LINK_PORT_W1_STATE 2 port).raise 256 port).sessionUp port
      if t.isWorker && t.rb Reg.LINK_POS_PLACED
          && t.contradicts (t.r Reg.LINK_POS_X) (t.r Reg.LINK_POS_Y) (t.r Reg.LINK_POS_ROT) port then t.raiseTick 266 port port
      else t))
  ∧ (∀ port, port < 4 → Runs (.portHelloTimeout port) (fun s => s.r Reg.LINK_PORT_W1_STATE port ≠ 0)
      (fun s => (s.gotoNow ((s.port port).ctrlAt + 100000)).portDown port))
  ∧ (∀ port, port < 4 → Runs (.lresetReceive port) (fun s => (s.port port).lreset = 0 ∧ s.r Reg.LINK_PORT_W1_STATE port ≠ 0)
      (fun s => ((s.pass 0).resetPort port).raise 273 port))
  ∧ (∀ port, port < 4 → Runs (.replayTimeout port)
      (fun s => (s.port port).replay ≠ [] ∧ s.portUp port = true ∧ (s.port port).replays < 8
        ∧ ∀ q ∈ (s.port port).replay, isTReq q = false)
      (fun s =>
        let t := s.gotoNow ((s.port port).ackAt + 2000)
        let v := s.port port
        ((t.setPort port { v with txq := v.replay ++ v.txq, replay := [], replays := v.replays + 1, ackAt := t.now }).count
          Reg.LINK_PORT_W2_REPLAYS port).raiseTick 259 port port))
  ∧ (∀ port, port < 4 → Runs (.replayTimeout port)
      (fun s => (s.port port).replay ≠ [] ∧ s.portUp port = true ∧ 8 ≤ (s.port port).replays)
      (fun s => ((s.gotoNow ((s.port port).ackAt + 2000)).raise 260 port).portDown port))
  ∧ (∀ port words dt, port < 4 →
      let h0 := nthW words 0
      let n := 3 + h0Len h0
      let body := words.take (n - 1)
      n ≤ words.length → bits (nthW words (n - 1)) 31 0 = crcWords body → bit (nthW words (n - 1)) 35 = false → h0Len h0 ≤ 1021 →
      (h0Vc h0 = 1 ∨ h0Vc h0 = 4 →
        Runs (.cawellPacketReceive port words false dt) (fun s => s.portUp port = true ∧ s.border port = false)
          (fun s => (s.pass dt).routePacket port body))
      ∧ (h0Vc h0 = 0 ∨ h0Vc h0 = 3 →
        Runs (.cawellPacketReceive port words false dt)
          (fun s => s.portUp port = true ∧ s.border port = false ∧ seqAhead (h0Seq h0) (s.port port).rxSeq = 0)
          (fun s =>
            let v := s.port port
            ((s.pass dt).setPort port { v with rxSeq := (v.rxSeq + 1) % 256, rxAny := true, nak := false, owe := true }).routePacket
              port body))
      ∧ (h0Vc h0 = 2 →
        Runs (.cawellPacketReceive port words false dt)
          (fun s => s.portUp port = true ∧ seqAhead (h0Seq h0) (s.port port).rxSeq = 0)
          (fun s =>
            let v := s.port port
            (((s.pass dt).setPort port { v with rxSeq := (v.rxSeq + 1) % 256, rxAny := true, nak := false, owe := true }).freeWords
              port 2 n).timePacket port (body.drop 2) (bit (nthW words (n - 1)) 34))))
  ∧ (∀ port words dt, port < 4 → h0Vc (nthW words 0) = 2 → h0Len (nthW words 0) ≤ 1021 → Runs (.cawellPacketReceive port words true dt)
      (fun s => s.portUp port = true)
      (fun s =>
        let t := (s.pass dt).setPort port { s.port port with nak := true }
        ((t.count Reg.LINK_PORT_W2_DAMAGED port).raiseTick 258 port port).freeWords port 2 (3 + h0Len (nthW words 0))))

/-- Link sessions (R465, R467), host sessions (R466), keys (R460, R464), credentials (R463), the CLAIM pin (R14). -/
def Obligations.SecureRowsTakeEffect : Prop :=
  (∀ port words, port < 4 → Runs (.lHelloReceive port words)
    (fun s => s.portUp port = true ∧ s.linksRun = true ∧ (s.link_ port).begun = true ∧ (s.link_ port).far = none)
    (fun s => ((s.pass 0).setLink port { s.link_ port with far := some (bytesBE (bytesOf 48 words)) }).sendProof port))
  ∧ (∀ port words n, port < 4 → Runs (.lHelloReceive port words)
    (fun s => s.portUp port = true ∧ s.linksRun = true ∧ (s.link_ port).begun = true ∧ (s.link_ port).far = some n)
    (fun s =>
      let t := ((s.pass 0).setLink port { s.link_ port with begun := true }).sessionRun port
      (t.setLink port { t.link_ port with far := some (bytesBE (bytesOf 48 words)) }).sendProof port))
  ∧ (∀ port words, port < 4 → Runs (.lHelloReceive port words) (fun s => s.portUp port = true ∧ s.linksRun = false)
    (fun s => (s.pass 0).setLink port { s.link_ port with far := some (bytesBE (bytesOf 48 words)) }))
  ∧ (∀ port words role gen, port < 4 → Runs (.lProofReceive port words)
    (fun s => s.portUp port = true ∧ (s.link_ port).begun = true ∧ (s.pass 0).proofOf port words = some (role, gen))
    (fun s => ((s.pass 0).ws [(Reg.SECURE_LINK_STATE, port, 1), (Reg.SECURE_LINK_FAR_ROLE, port, if role = 1 then 2 else 1),
      (Reg.SECURE_LINK_FAR_GEN, port, gen)]).raise 69 port))
  ∧ (∀ port words, port < 4 → Runs (.lProofReceive port words)
    (fun s => s.portUp port = true ∧ (s.link_ port).begun = true ∧ (s.pass 0).proofOf port words = none)
    (fun s => ((((s.pass 0).raise 75 (if s.isMgr = true ∧ s.farMgr port = true then 1 else 2)).ws
      [(Reg.SECURE_LINK_STATE, port, 3), (Reg.SECURE_LINK_FAR_ROLE, port, 0),
      (Reg.SECURE_LINK_FAR_GEN, port, 0)]).count Reg.SECURE_LINK_REFUSALS port).raise 70 port))
  ∧ (∀ port, port < 4 → Runs (.lNocredReceive port) (fun s => s.portUp port = true ∧ (s.link_ port).begun = true)
    (fun s => ((s.pass 0).ws [(Reg.SECURE_LINK_STATE, port, 2), (Reg.SECURE_LINK_FAR_ROLE, port, 0),
      (Reg.SECURE_LINK_FAR_GEN, port, 0)]).raise 71 port))
  ∧ (∀ port, port < 4 → Runs (.sessionGraceExpiry port) (fun s => s.portUp port = true ∧ s.r Reg.SECURE_LINK_STATE port = 0)
    (fun s =>
      let t := s.gotoNow ((s.link_ port).since + 100000 * s.r Reg.SECURE_CTRL_SESSION_GRACE)
      ((t.ws [(Reg.SECURE_LINK_STATE, port, 3), (Reg.SECURE_LINK_FAR_ROLE, port, 0),
        (Reg.SECURE_LINK_FAR_GEN, port, 0)]).count Reg.SECURE_LINK_REFUSALS port).raise 70 port))
  ∧ (∀ port, port < 4 → Runs (.rekeyExpiry port)
    (fun s => s.portUp port = true ∧ (s.link_ port).begun = true ∧ s.r Reg.SECURE_LINK_STATE port ≠ 0)
    (fun s =>
      let t := s.gotoNow ((s.link_ port).since + 6000000000 * s.r Reg.SECURE_CTRL_REKEY)
      let own := t.draw % 2 ^ 384
      ((t.drew 1).setLink port ⟨true, own, none, t.now⟩).sendSession port 8 (nonceWords own)))
  ∧ (∀ entry, entry < 16 → Runs (.hostSessionExpiry entry) (fun s => s.r Reg.SECURE_SESSION_STATE entry ≠ 0)
    (fun s =>
      let h := s.hostSession entry
      let t := s.gotoNow (min (h.lastUse + 100000000 * s.r Reg.SECURE_CTRL_SESSION_IDLE) (h.opened + 8640000000000))
      (t.setHost entry HostSession.reset).ws
        [(Reg.SECURE_SESSION_STATE, entry, 0), (Reg.SECURE_SESSION_SID, entry, 0), (Reg.SECURE_SESSION_IDLE, entry, 0)]))
  ∧ (∀ entry k, Runs (.keyUntilExpiry entry)
    (fun s => s.sec.store.keys[entry]? = some k ∧ k.untilSec ≠ 0
      ∧ (s.goto (((k.untilSec + 1) * secUnits : Nat) : Int)).tb3Valid = true
      ∧ k.untilSec < (s.goto (((k.untilSec + 1) * secUnits : Nat) : Int)).second % 2 ^ 36)
    (fun s =>
      let t := s.goto (((k.untilSec + 1) * secUnits : Nat) : Int)
      (t.setStore { s.sec.store with keys := s.sec.store.keys.filter (fun (x : ContentKey) => x.keyId ≠ k.keyId) }).raise 77 0))
  ∧ Runs .credExpiryCheck
    (fun s => s.tb3Valid = true ∧ (∃ c ∈ s.sec.store.creds, c.notAfter ≠ 0 ∧ c.notAfter < s.second % 2 ^ 36 + 2592000)
      ∧ ∀ c ∈ s.sec.store.creds, c.legacy = false)
    (fun s => (s.pass 0).raise 81 0)
  ∧ (∀ e, Runs .ephemeralKeyExpiry (fun s => s.sec.eph = some e) (fun s =>
      let t := s.gotoNow (e.at_ + 6000000000)
      { t with sec := { t.sec with eph := none } }))
  ∧ (∀ low, Runs (.claimNChange low) (fun s => s.start.powered = true) (fun s =>
      { s.pass 0 with pins := { s.pins with claim := low } }.w Reg.MGMT_STRAPS_CLAIM (b2n low)))

/-- The transports (R419, R425, R427), the census (R289–R291, R465). -/
def Obligations.TransportRowsTakeEffect : Prop :=
  (∀ (d : Datagram) dt, 9 ≤ d.bytes.length → Runs (.udpCommandDatagram d.ip d.ports d.bytes dt d.eth d.vid d.good)
    (fun s =>
      let t := (s.pass dt).wakesDone
      t.alive = true ∧ t.isMgr = true ∧ t.udpHeard d = true ∧ t.ownAddr d = true ∧ d.dport = t.r Reg.MGR_NET_CMD_PORT
      ∧ d.bytes.length = packedLen (2 + bits (nthW (wordsOfBytes d.bytes) 0) 11 0)
      ∧ bits (nthW (wordsOfBytes d.bytes) 0) 11 0 ≤ 1018)
    (fun s =>
      let ws := wordsOfBytes d.bytes
      let n := bits (nthW ws 0) 35 24
      let ps := (ws.drop 2).take (bits (nthW ws 0) 11 0)
      ((s.pass dt).wakesDone).interpret ps.length (opFind n) n ⟨d.source, bits (nthW ws 0) 23 12, nthW ws 1, ps, none, 0, 0⟩))
  ∧ (∀ (d : Datagram) dt, Runs (.udpCommandDatagram d.ip d.ports d.bytes dt d.eth d.vid d.good)
    (fun s => ((s.pass dt).wakesDone).udpHeard d = false ∨ ((s.pass dt).wakesDone).ownAddr d = false ∨ d.bytes.length < 9)
    (fun s => (s.pass dt).wakesDone))
  ∧ (∀ bytes dt, 5 ≤ bytes.length → Runs (.spiCommand bytes dt)
    (fun s =>
      ((s.pass dt).wakesDone).alive = true
      ∧ bytes.length = packedLen (2 + bits (nthW (wordsOfBytes bytes) 0) 11 0) ∧ bits (nthW (wordsOfBytes bytes) 0) 11 0 ≤ 1018)
    (fun s =>
      let ws := wordsOfBytes bytes
      let n := bits (nthW ws 0) 35 24
      let ps := (ws.drop 2).take (bits (nthW ws 0) 11 0)
      ((s.pass dt).wakesDone).interpret ps.length (opFind n) n
        ⟨⟨.spi, 0, 0, 0, []⟩, bits (nthW ws 0) 23 12, nthW ws 1, ps, none, 0, 0⟩))
  ∧ (∀ bytes dt, 5 ≤ bytes.length → Runs (.spiCommand bytes dt)
    (fun s =>
      ((s.pass dt).wakesDone).alive = true
      ∧ bytes.length ≠ packedLen (2 + bits (nthW (wordsOfBytes bytes) 0) 11 0))
    (fun s =>
      let t := (s.pass dt).wakesDone
      let w := nthW (wordsOfBytes bytes) 0
      t.sendReply t ⟨.spi, 0, 0, 0, []⟩ (bits w 35 24) (bits w 23 12) .badLength))
  ∧ (∀ n, Runs (.spiReplyRead n)
    (fun s => s.alive = true ∧ s.cmd.spiQ ≠ [] ∧ (spiAnswer s.cmd.spiQ).length = n)
    (fun s =>
      let t := (s.pass 0).emit .spi [] ((spiAnswer s.cmd.spiQ).map (fun b => word b.toNat))
      { t with cmd := { s.cmd with spiQ := s.cmd.spiQ.drop 1 } }))
  ∧ (∀ q hops due, Runs .censusReply (fun s => s.link.census = some (q, hops, due)) (fun s =>
      let t := s.gotoNow due
      let u := { t with link := { t.link with census := none } }
      let a : Ans := .reply (t.censusReport hops)
      (u.cached q.src q.opcode q.tag a.code a.detail a.words).sendReply u q.src q.opcode q.tag a))
  ∧ (∀ routes, Runs (.censusCompute routes) (fun s => s.isMgr = true ∧ s.mgr.censusOpen = true) (fun s =>
      let idx := s.r Reg.MGR_CTRL_IDX
      let m := s.link.map
      let reports := oncePerNonce s.mgr.reports
      let good := sound reports m (reachAll reports (mapAttachments m) idx)
      let placed := withinLimits good
      let links := meshLinks reports placed
      let safe (w : Placed) : Bool := twoPaths links placed w && twentyHops links idx w
      let unplaced := reports.filter (fun r => !placed.any (fun p => p.nonce = r.nonce))
      let beyond := good.filter (fun p => !placed.contains p)
      let unreported := (mapTiles m).filter (fun x => !placed.any (fun p => p.x = x.1 && p.y = x.2.1))
      let onePath := placed.filter (fun p => !safe p)
      let t := s.gotoNow (s.mgr.censusAt + 500000)
      let t := t.raises (unplaced.map (fun _ => (290, 0)))
      let t := t.raises (beyond.map (fun _ => (291, 0)))
      let t := t.raises (unreported.map (fun _ => (292, 0)))
      let t := t.raises (onePath.map (fun _ => (293, 0)))
      let t := (t.raise 289 0).takeWorkers placed
      let reached := (placed.filter safe).all (routeOk reports placed routes idx)
      let t := if m = [] then t else t.install placed (if reached = true then routes else [])
      let t := if t.mgr.claimAfterCensus = true then t.sendTakeover else t
      (t.setMgr { t.mgr with censusOpen := false, censusReq := none, reports := [] }).completeOpt t.mgr.censusReq .done))
  ∧ (∀ routes, Runs (.censusCompute routes)
    (fun s => s.isMgr = true ∧ s.mgr.censusOpen = true ∧ s.mgr.reports = [] ∧ s.link.map = [] ∧ s.mgr.claimAfterCensus = false)
    (fun s =>
      let t := ((s.gotoNow (s.mgr.censusAt + 500000)).raise 289 0).takeWorkers []
      (t.setMgr { t.mgr with censusOpen := false, censusReq := none, reports := [] }).completeOpt t.mgr.censusReq .done))
  ∧ (∀ routes, Runs (.censusCompute routes) (fun s => s.isMgr = false ∨ s.mgr.censusOpen = false) (fun s => s.pass 0))
  ∧ (∀ n, Runs .censusAfterLinkAuth (fun s => s.sec.censusAt = some n ∧ s.peelHeld = true) (fun s =>
      let t := s.gotoNow (n + 100000 * s.r Reg.SECURE_CTRL_SESSION_GRACE)
      let t := { t with sec := { t.sec with censusAt := none } }
      let k := (s.mgr.censusNum + 1) % 65536
      (t.setMgr { s.mgr with censusNum := k, censusOpen := true, censusAt := t.now, reports := [] }).sendCmd 0x00A toAll
        [pack [(16, mapSect s.link.map), (0, k)]]))

/-- Register writes (R5, R7, R102, R115–R118, R137, R216, R232, R239, R269–R271, R303, R310, R329, R365, R387, R389, R542) and reads (R429). -/
def Obligations.WriteRowsTakeEffect : Prop :=
  (∀ a v e, Runs (.registerWrite a v) (fun s => s.alive = true ∧ s.rowBar a 1 = some e)
    (fun s => (s.pass 0).emit .reply [] [pack [(28, e.code), (0, e.detail)]]))
  ∧ (∀ a v, (fieldsAt a).isEmpty = true → base3 a = false →
    Runs (.registerWrite a v) (fun s => s.rowOpen a 1 = true) (fun s => (s.pass 0).emit .reply [] [0]))
  ∧ (∀ a v code det, base3 a = false → (fieldsAt a).isEmpty = false → Reg.TIME_BASE_W7_OFFSET_IN.elem? a = none →
    Runs (.registerWrite a v) (fun s => s.rowOpen a 1 = true ∧ s.writeBar a v = some (code, det))
      (fun s => (s.pass 0).emit .reply [] [pack [(28, code), (0, det)]]))
  ∧ (∀ a v, base3 a = false → (fieldsAt a).isEmpty = false → Reg.TIME_BASE_W7_OFFSET_IN.elem? a = none →
    Runs (.registerWrite a v) (fun s => s.lets a v) (fun s => ((s.pass 0).storeReg a v).emit .reply [] [0]))
  ∧ (∀ a, rangeOk a 1 = true → Runs (.latchingRead a 1) (fun s => s.rowOpen a 1 = true) (fun s =>
      let t := (s.pass 0).readLatch a
      t.emit .reply [] [{ t with regs := t.planned }.wordView a]))
  ∧ (∀ a n, n ≤ 1016 → rangeOk a (n + 2) = true → Runs (.latchingRead a (n + 2)) (fun s => s.rowOpen a (n + 2) = true) (fun s =>
      let t := (s.pass 0).readLatch a
      let u := t.readRun (a + 1) (n + 1)
      u.2.emit .reply [] ({ t with regs := t.planned }.wordView a :: u.1)))
  ∧ (let v (s : State) : Word := rwWord s.regs 0xB0002 ||| pack [(30, 1)]
     Runs .fullNextWrite (fun s => s.lets 0xB0002 (v s))
      (fun s => ((s.wrote 0xB0002 (v s)).dropCells (fun _ => true)).emit .reply [] [0]))
  ∧ (∀ lane,
      let v (s : State) : Word := maskedValue (rwWord s.regs 0x50881) (pack [(35, 1), (28, 31)]) (pack [(35, 1), (28, lane)])
      lane < 32 → laneRx lane = true → Runs (.eyeStart lane)
        (fun s => s.lets 0x50881 (v s) ∧ s.lane.eye = none ∧ (s.wrote 0x50881 (v s)).rxLocked lane = true)
        (fun s =>
          let t := s.wrote 0x50881 (v s)
          ({ t with lane := { s.lane with eye := some (lane, false), eyeAt := s.now } }.ws
            [(Reg.LINK_EYE_CTRL_BUSY, 0, 1), (Reg.LINK_EYE_CTRL_ERROR, 0, 0)]).emit .reply [] [0]))
  ∧ (∀ v, Runs (.phaseTargetWrite v) (fun s => s.lets 0x40026 v) (fun s => (s.wrote 0x40026 v).emit .reply [] [0]))
  ∧ (∀ lane, lane < 32 →
      let a := Reg.LINK_LANE_W1_HOLD.at lane
      let v : Word := pack [(35, 1)]
      Runs (.laneHoldWrite lane true)
        (fun s => s.lets a v ∧ s.rb Reg.LINK_LANE_W1_HOLD lane = false
          ∧ (s.wrote a v).rb Reg.LINK_LANE_W1_HOLD lane = true ∧ (s.wrote a v).laneState lane ≠ 0)
        (fun s =>
          let t := ((s.wrote a v).laneLost lane 0).setLane lane LaneX.reset
          (if laneRx lane = true then t else t.driveBlank).emit .reply [] [0]))
  ∧ (∀ lane v, lane < 32 → Runs (.laneEqWrite lane v) (fun s => s.lets (Reg.LINK_LANE_W0_TX_INV.at lane) v)
      (fun s => (s.wrote (Reg.LINK_LANE_W0_TX_INV.at lane) v).emit .reply [] [0]))
  ∧ (∀ sp,
      let v (s : State) : Word := maskedValue (rwWord s.regs 0x60000) (pack [(29, 1)]) (pack [(29, sp)])
      sp < 2 → Runs (.spSelWrite sp)
        (fun s => s.lets 0x60000 (v s) ∧ s.r Reg.MEM_CTRL_SP_SEL ≠ sp ∧ (s.wrote 0x60000 (v s)).r Reg.MEM_CTRL_SP_SEL = sp)
        (fun s => ((s.wrote 0x60000 (v s)).askSp sp).emit .reply [] [0]))
  ∧ (∀ v, Runs (.scanConfigWrite false v) (fun s => s.lets 0xB0000 v) (fun s => (s.wrote 0xB0000 v).emit .reply [] [0]))
  ∧ (∀ v, Runs (.scanConfigWrite true v) (fun s => s.lets 0xB0001 v) (fun s =>
      let t := s.wrote 0xB0001 v
      (t.w Reg.MGMT_STAGE_SCAN (t.r Reg.EMIT_HEAD_CTRL_SCAN_EN)).emit .reply [] [0]))
  ∧ (let g (s : State) (a : Nat) (v : Word) : State :=
      let r := writeRaw s.planned a v
      let w := [(wordOf r 0x90020).toNat, (wordOf r 0x90021).toNat]
      let t := s.pass 0
      { t with fire := { s.fire with
        geom := if w = [(wordOf s.regs 0x90020).toNat, (wordOf s.regs 0x90021).toNat] then none else some w } }.emit .reply [] [0]
    (∀ v, Runs (.kilnGridWrite v) (fun s => s.lets 0x90020 v) (fun s => g s 0x90020 v))
    ∧ (∀ v, Runs (.kilnMountWrite v) (fun s => s.lets 0x90021 v) (fun s => g s 0x90021 v)))
  ∧ (∀ w, Runs .geometryChange (fun s => s.fire.geom = some w) (fun s =>
      let n := s.time.last
      let t := (s.pass 0).repeatDue
      let t := { t with
        regs := t.planned
        fire := { t.fire with
          geom := none
          shelf := []
          frames := t.fire.frames.map (fun (f : FireFrame) =>
            if n < f.frame then { f with bands := [], rows := 0, queue := [], seen := [] } else f) } }
      (t.raise 745 (n % 2 ^ 28)).dropCells (fun _ => true)))
  ∧ (∀ j w v, j < 32 → w < 8 → Runs (.slotDescriptorWrite j w v) (fun s => s.lets (0x90100 + 16 * j + w) v)
      (fun s => (s.wrote (0x90100 + 16 * j + w) v).emit .reply [] [0]))
  ∧ (∀ v, Runs (.slotSetWrite v) (fun s => s.lets 0x90010 v) (fun s => (s.wrote 0x90010 v).emit .reply [] [0]))
  ∧ (∀ base v, Runs (.decodePoolWrite base v) (fun s => s.lets (if base then 0x70012 else 0x70011) v) (fun s =>
      let t := s.wrote (if base then 0x70012 else 0x70011) v
      { t with dec := { s.dec with poolPend := true } }.emit .reply [] [0]))
  ∧ Runs .poolReset (fun s => s.dec.poolPend = true) (fun s =>
      let t := (s.pass 0).takePool
      let t := { t with dec := { t.dec with
        poolPend := false
        synths := []
        pics := (t.dec.pics.filter t.sealedPic).map (fun (p : Pic) =>
          { p with old := true, ref := false, latest := false, comp := false, frm := false })
        prog := t.dec.prog.map (fun (p : Option Prog) => p.map (fun (q : Prog) => { q with dropped := true })) } }
      ((t.needIrap 0).raise 475 0).showPool)
  ∧ (∀ c w v, c < 16 → w < 18 → Runs (.driveConeWrite c w v)
      (fun s => s.lets (Reg.EMIT_DRIVE_CONE_W0_BLANK_CLKS.at c + w) v)
      (fun s => (s.wrote (Reg.EMIT_DRIVE_CONE_W0_BLANK_CLKS.at c + w) v).emit .reply [] [0]))
  ∧ (∀ j w v, j < 2 → w < 4 → Runs (.liveFlowWrite j w v) (fun s => s.lets (0x52010 + 4 * j + w) v)
      (fun s => (s.wrote (0x52010 + 4 * j + w) v).emit .reply [] [0]))
  ∧ (∀ j v, j < 256 → Runs (.encodeMapWrite j v) (fun s => s.lets (0x80100 + j) v)
      (fun s => (s.wrote (0x80100 + j) v).emit .reply [] [0]))
  ∧ (∀ g w v, g < 16 → w < 5 → Runs (.groupEntryWrite g w v) (fun s => s.lets (0x52040 + 5 * g + w) v)
      (fun s => ((s.wrote (0x52040 + 5 * g + w) v).groupWritten s.regs g).emit .reply [] [0]))
  ∧ (∀ g v, g < 16 → Runs (.groupEntryWrite g 0 v)
      (fun s => s.lets (0x52040 + 5 * g) v ∧ s.rb Reg.MGR_GROUP_W0_EN g = false
        ∧ (s.wrote (0x52040 + 5 * g) v).rb Reg.MGR_GROUP_W0_EN g = true
        ∧ (s.wrote (0x52040 + 5 * g) v).ethPorts = 1 ∧ (s.wrote (0x52040 + 5 * g) v).r Reg.MGR_ETH_CTRL_UP = 1)
      (fun s => ((s.wrote (0x52040 + 5 * g) v).report (s.wrote (0x52040 + 5 * g) v).regs g 0 true).emit .reply [] [0]))

/-- Ethernet (R300, R303), slab streams (R304–R307), live flows (R310, R311), PTP (R355, R357), command tags (R312). -/
def Obligations.NetworkRowsTakeEffect : Prop :=
  (∀ port dt, Runs (.ethLinkChange port true dt)
    (fun s => s.isMgr = true ∧ port < s.ethPorts ∧ bitsN (s.r Reg.MGR_ETH_CTRL_UP) port port ≠ 1)
    (fun s =>
      let t := ((s.pass dt).w Reg.MGR_ETH_CTRL_UP (s.r Reg.MGR_ETH_CTRL_UP + 2 ^ port)).raise 304 port
      (joinedGroups t.regs).foldl (fun (x : State) g => x.report t.regs g port true) t))
  ∧ (∀ port dt, Runs (.ethLinkChange port false dt)
    (fun s => s.isMgr = true ∧ port < s.ethPorts ∧ bitsN (s.r Reg.MGR_ETH_CTRL_UP) port port = 1)
    (fun s =>
      (({ s.pass dt with mgr := { s.mgr with portFell := true } }.w Reg.MGR_ETH_CTRL_UP (s.r Reg.MGR_ETH_CTRL_UP - 2 ^ port)).raise 305
        port).eyeStops port))
  ∧ (∀ (p : NetPkt) dt, p.broken = false → p.kind < 4 →
    let own (s : State) : Nat := if p.kind = 1 ∨ p.kind = 3 then ownIp6 s.regs else ownIp4 s.regs
    Runs (.networkControlPacket p dt)
      (fun s => s.frameHeard p.port p.vid p.good = true ∧ own s ≠ 0 ∧ p.target = own s)
      (fun s => (s.pass dt).emit .net ([p.kind, p.sender, p.port] ++ s.netTag)
        (if p.kind < 2 then numWords (s.r Reg.MGR_ADDR_2004_MAC_HI * 4096 + s.r Reg.MGR_ADDR_2005_MAC_LO) else p.data)))
  ∧ (∀ (p : NetPkt) dt, p.broken = false → p.kind = 4 ∨ p.kind = 5 → Runs (.networkControlPacket p dt)
      (fun s => s.frameHeard p.port p.vid p.good = true)
      (fun s =>
        let asked := (joinedGroups s.regs).filter (fun g =>
          s.rb Reg.MGR_GROUP_W0_V6 g = decide (p.kind = 5) && (p.target = 0 || groupIp s.regs g = p.target))
        asked.foldl (fun (x : State) g => x.report s.regs g p.port true) (s.pass dt)))
  ∧ (∀ (d : Datagram) (r : Rtp) dt, rtpParse d.bytes = some r → r.payload.length % 9 = 0 →
    let words := unpackBytes r.payload
    let n := bits (nthW words 0) 11 0
    bits (nthW words 0) 35 32 = 1 → 0 < n → words.length = n + 2 + n % 2 →
    let heard (s : State) : Prop :=
      s.udpHeard d = true ∧ (s.ownAddr d = true ∨ s.groupAddr 0 d = true) ∧ d.dport = s.r Reg.MGR_STREAM_STREAM_PORT
        ∧ r.pt = s.r Reg.MGR_STREAM_PT_SLAB
    Runs (.rtpSlabPacket d.eth d.vid d.good d.ip d.ports d.bytes dt) (fun s => heard s ∧ s.mgr.workers = []) (fun s => (s.pass dt).raiseTick 307 0 0)
    ∧ ∀ w, n ≤ 1020 → Runs (.rtpSlabPacket d.eth d.vid d.good d.ip d.ports d.bytes dt)
      (fun s => heard s ∧ s.mgr.workers = [w] ∧ w.x = bits (nthW words 0) 31 25 ∧ w.y = bits (nthW words 0) 24 18
        ∧ w.slow = 94371840 ∧ w.fast = 1474200 ∧ (s.pass dt).queuedFor w.x w.y + n ≤ 131072 ∧ w.ssrc = some r.ssrc
        ∧ w.rtpNext = r.seq ∧ r.seq < 65536 ∧ w.window = [] ∧ w.parcels = []
        ∧ w.nextOff = ((nthW words 1).toNat + w.delta) % 2 ^ 36 ∧ s.peelHeld = true)
      (fun s =>
        let t := s.pass dt
        let ps := (words.drop 2).take n
        let v := { w with filled := t.now, slow := 94371840 - 360 * n, fast := 1474200 - 360 * n, held := [],
                          window := [], rtpNext := (r.seq + 1) % 65536 }
        (t.sendStream v w.nextOff ps).setWorker 0 { ps.foldl Worker.track v with nextOff := (w.nextOff + ps.length) % 2 ^ 36 }))
  ∧ (∀ (d : Datagram) (r : Rtp) flow dt, rtpParse d.bytes = some r →
    let heard (s : State) : Prop := s.udpHeard d = true ∧ s.flowOf d = some flow ∧ r.pt = s.r Reg.MGR_STREAM_PT_LIVE
    (∀ segs, liveSegs r.payload = some segs →
      (r.marker = false → Runs (.liveFlowPacket d.eth d.vid d.good d.ip d.ports d.bytes dt)
        (fun s => heard s ∧ (s.flow flow).rtpTime = some r.ts ∧ (s.flow flow).ended = false
          ∧ ∀ g ∈ segs, g.1 < flowH s.regs flow ∧ g.2.1 + 2 * g.2.2.length ≤ flowW s.regs flow ∧ g.2.1 % 2 = 0)
        (fun s =>
          let f := s.flow flow
          let w := flowW s.regs flow
          let new := segs.flatMap (fun g => segGroups w g.1 g.2.1 g.2.2)
          let gs := segs.foldl (fun l g => (segGroups w g.1 g.2.1 g.2.2).foldl (fun a p => sput a p.1 p.2) l) f.groups
          let pics := match f.bound with
            | some n => sput f.pics n (new.foldl (fun a p => sput a p.1 p.2) ((sfind f.pics n).getD []))
            | none => f.pics
          let lines := segs.foldl (fun m g => max m (if g.2.1 + 2 * g.2.2.length = w then g.1 + 1 else g.1)) 0
          ((s.pass dt).setFlow flow { f with groups := gs, pics := pics }).markRows flow
            (if lines = flowH s.regs flow then cdiv (flowH s.regs flow) 32 else lines / 32)))
      ∧ Runs (.liveFlowPacket d.eth d.vid d.good d.ip d.ports d.bytes dt) (fun s => heard s ∧ ∃ g ∈ segs, flowH s.regs flow ≤ g.1) (fun s => (s.pass dt).raiseTick 313 0 0))
    ∧ (liveSegs r.payload = none → Runs (.liveFlowPacket d.eth d.vid d.good d.ip d.ports d.bytes dt) heard (fun s => (s.pass dt).raiseTick 313 0 0)))
  ∧ (∀ (m : PtpMsg) dt, m.type = 0 → m.version = 2 → m.minor ≤ 1 → m.v6 = false → -7 ≤ m.interval → m.interval ≤ 1 →
    Runs (.ptpMessageReceive m dt)
    (fun s => s.isMgr = true ∧ s.rb Reg.TIME_PTP_PTP_EN = true ∧ s.rb Reg.TIME_PTP_PTP_V6 = false ∧ ptpDomain s.regs 0 = m.domain
      ∧ s.mgr.master.getD 0 none = some m.sender)
    (fun s =>
      let t := s.pass dt
      (t.setMgr { s.mgr with
        sync := s.mgr.sync.set 0 (some ⟨m.seq, if m.twoStep then none else some m.time, t.stamp 0, m.corr⟩)
        syncAt := s.mgr.syncAt.set 0 t.now }).setRef 0 true))
  ∧ (∀ (m : PtpMsg) dt t1 t2 t3 corr, m.type = 9 → m.mine = true → m.version = 2 → m.minor ≤ 1 → m.v6 = false →
    -7 ≤ m.interval → m.interval ≤ 5 → Runs (.ptpMessageReceive m dt)
    (fun s => s.isMgr = true ∧ s.rb Reg.TIME_PTP_PTP_EN = true ∧ s.rb Reg.TIME_PTP_PTP_V6 = false ∧ ptpDomain s.regs 0 = m.domain
      ∧ s.mgr.master.getD 0 none = some m.sender ∧ s.mgr.delayReq.getD 0 none = some (m.seq, t3)
      ∧ ∃ n, s.mgr.sync.getD 0 none = some ⟨n, some t1, t2, corr⟩)
    (fun s =>
      let t := (s.pass dt).setMgr { s.mgr with delayLog := s.mgr.delayLog.set 0 (logCycles m.interval) }
      let t4 := ((m.time : Int) - m.corr).toNat
      let o := ((t2 : Int) - t1 - corr) - ((t4 : Int) - t3)
      let u := (t.offsetIn 0 (word (twos 36 (halfTo16 (-o))))).2
      u.setMgr { u.mgr with delayReq := s.mgr.delayReq.set 0 none }))
  ∧ (∀ b dt id q x, b < 2 → Runs (.ptpDelayReqSend b dt)
    (fun s => s.isMgr = true ∧ s.mgr.master.getD b none = some id ∧ s.rb Reg.TIME_PTP_PTP_EN = true
      ∧ s.mgr.delayReq.getD b none = some (q, x))
    (fun s =>
      let t := s.pass dt
      (t.setMgr { s.mgr with delayReq := s.mgr.delayReq.set b (some ((q + 1) % 65536, t.stamp b)) }).emit .net
        ([3, ptpDomain s.regs b] ++ s.netTag) [word ((q + 1) % 65536)]))
  ∧ (∀ b id (f : Foreign), b < 2 → Runs (.ptpTimeout b)
    (fun s => s.mgr.master.getD b none = some id
      ∧ s.mgr.foreign.find? (fun (x : Foreign) => x.dom = b && x.id = id) = some f)
    (fun s => ((s.pass 0).gotoNow (nth s.mgr.announceAt b + 3 * f.interval)).ptpLost b))
  ∧ (∀ b id, b < 2 → Runs (.baseValidityTimeout b) (fun s => s.isMgr = true ∧ s.mgr.master.getD b none = some id)
    (fun s => (((s.pass 0).gotoNow (nth s.mgr.syncAt b + 100000000)).setRef b false).raise 245 0))
  ∧ (∀ t, Runs .commandTagExpiry (fun s => s.mgr.tags = [t]) (fun s =>
      (s.gotoNow (t.2.2 + 100000000)).setMgr { s.mgr with tags := (s.gotoNow (t.2.2 + 100000000)).liveTags }))

/-- The pair (R313–R323). -/
def Obligations.PairRowsTakeEffect : Prop :=
  (∀ words dt, bits (nthW words 0) 35 32 = 1 → Runs (.peerMessageReceive 1 (words.take 5) (words.drop 5) dt)
    (fun s => s.isMgr = true ∧ s.pathOn 1 = true ∧ s.rb Reg.LINK_PEEL_SEEN = true ∧ fenceValue (nthW words 1) = peelValue s.regs)
    (fun s => (s.pass dt).takeRenew 1 (bit (nthW words 0) 31) (bit (nthW words 0) 30) (bits (nthW words 0) 29 29)
      (fenceValue (nthW words 1)) (join48 (nthW words 2) (nthW words 3))))
  ∧ (∀ words dt, bits (nthW words 0) 35 32 = 2 →
    let hears (s : State) : Prop :=
      s.isMgr = true ∧ s.pathOn 1 = true ∧ s.rb Reg.LINK_PEEL_SEEN = true ∧ fenceValue (nthW words 1) = peelValue s.regs
    let g := (nthW words 4).toNat
    let f := nthW words 21
    Runs (.peerMessageReceive 1 (words.take 5) (words.drop 5) dt) (fun s => hears s ∧ (words.drop 5).take 16 ≠ s.fwIdentity) (fun s => (s.pass dt).raise 325 0)
    ∧ (bit f 34 = true → bit f 35 = true → bits f 31 0 = 0 → Runs (.peerMessageReceive 1 (words.take 5) (words.drop 5) dt)
      (fun s => hears s ∧ (words.drop 5).take 16 = s.fwIdentity ∧ s.peelHeld = false)
      (fun s =>
        let l := words.drop 23
        let t := ((s.pass dt).setMgr { s.mgr with mirrorIn := (g, 1, l) }).takeMirror (mirrorWith [] (partsOf l.length l))
        let t := t.setMgr { t.mgr with acked := g }
        t.sendPeer (t.peerHead 5 g)))
    ∧ (bit f 34 = false → bit f 35 = true → bits f 31 0 = 0 → Runs (.peerMessageReceive 1 (words.take 5) (words.drop 5) dt)
      (fun s => hears s ∧ (words.drop 5).take 16 = s.fwIdentity ∧ s.peelHeld = false ∧ s.mgr.acked ≠ g
        ∧ s.mgr.acked ≠ (nthW words 22).toNat)
      (fun s =>
        let t := (s.pass dt).setMgr { s.mgr with mirrorIn := (g, 1, words.drop 23) }
        t.sendPeer (t.peerHead 5 0))))
  ∧ (∀ words dt, bits (nthW words 0) 35 32 = 3 → Runs (.peerMessageReceive 1 (words.take 5) (words.drop 5) dt)
    (fun s => s.isMgr = true ∧ s.pathOn 1 = true ∧ s.rb Reg.LINK_PEEL_SEEN = true ∧ fenceValue (nthW words 1) = peelValue s.regs
      ∧ s.r Reg.MGR_PAIR_STATUS_STATE = 3 ∧ s.role = 1)
    (fun s =>
      let n := s.time.last + 16
      let t := (s.pass dt).setMgr { s.mgr with handback := some (n, false) }
      t.sendPeer (t.peerHead 4 s.mgr.gen ++ [word (n / 2 ^ 36), word n])))
  ∧ (∀ words dt, bits (nthW words 0) 35 32 = 4 → Runs (.peerMessageReceive 1 (words.take 5) (words.drop 5) dt)
    (fun s => s.isMgr = true ∧ s.pathOn 1 = true ∧ s.rb Reg.LINK_PEEL_SEEN = true ∧ fenceValue (nthW words 1) = peelValue s.regs
      ∧ s.peelHeld = false)
    (fun s =>
      let h := (nthW words 5).toNat * 2 ^ 36 + (nthW words 6).toNat
      let t := (s.pass dt).setMgr { s.mgr with handback := some (h, true), released := false }
      t.sendPeer (t.peerHead 5 (h % 2 ^ 36))))
  ∧ (∀ words dt, bits (nthW words 0) 35 32 = 5 → (nthW words 4).toNat ≠ 0 → Runs (.peerMessageReceive 1 (words.take 5) (words.drop 5) dt)
    (fun s => s.isMgr = true ∧ s.pathOn 1 = true ∧ s.rb Reg.LINK_PEEL_SEEN = true ∧ fenceValue (nthW words 1) = peelValue s.regs
      ∧ s.peelHeld = true ∧ s.mgr.handback = none)
    (fun s =>
      let g := (nthW words 4).toNat
      (s.pass dt).setMgr { s.mgr with
        acked := g
        mirrorsOut := s.mgr.mirrorsOut.filter (fun p => g < p.1)
        mirrorBase := (s.mgr.mirrorsOut.find? (fun p => p.1 = g)).orElse (fun _ => s.mgr.mirrorBase) }))
  ∧ (∀ dt p, Runs (.peerAliveInToggle dt)
    (fun s => s.isMgr = true ∧ s.mgr.peer = some (true, p) ∧ s.pathOn 0 = true ∧ s.mgr.waited ≠ some s.time.last
      ∧ (s.pass dt).tb3 ≤ s.sched s.time.last + us (s.r Reg.MGR_CTRL_RENEW_WAIT))
    (fun s => (s.pass dt).setMgr { s.mgr with heard := s.mgr.heard ||| 2 ^ 0 }))
  ∧ Runs .renewWaitExpiry
    (fun s => s.isMgr = true ∧ s.stage = 2 ∧ s.time.ticked = true ∧ s.mgr.waited ≠ some s.time.last ∧ s.mgr.heard = 0
      ∧ s.mgr.missed = 0 ∧ s.r Reg.MGR_PAIR_STATUS_STATE = 1 ∧ 2 ≤ s.r Reg.MGR_CTRL_LEASE ∧ 2 ≤ s.r Reg.MGR_CTRL_BRIDGE
      ∧ s.rb Reg.MGR_PAIR_STATUS_MIRROR_OK = false ∧ s.mgr.acked = s.mgr.gen ∧ s.mgr.unacked = 0 ∧ s.mgr.portFell = false
      ∧ s.mgr.handback = none)
    (fun s =>
      let t := s.goto (s.sched s.time.last + us (s.r Reg.MGR_CTRL_RENEW_WAIT))
      let t := (t.setMgr { s.mgr with waited := some s.time.last }).w Reg.MGR_PAIR_STATUS_HEARD 0
      let t := (t.setMgr { s.mgr with waited := some s.time.last, unacked := 1 }).w Reg.MGR_PAIR_STATUS_CLEAN 0
      ((t.setMgr { t.mgr with missed := 1 }).w Reg.MGR_PAIR_STATUS_MISSED 1).raise 314 0)
  ∧ (∀ h, Runs .handbackTick
    (fun s => s.isMgr = true ∧ s.peelHeld = false ∧ s.mgr.handback = some (h, true) ∧ h ≤ s.time.last ∧ s.mgr.released = true)
    (fun s => (s.pass 0).claim.raise 323 0))
  ∧ (∀ h a, Runs .handbackTimeout
    (fun s => s.isMgr = true ∧ s.mgr.handback = some (h, a) ∧ s.r Reg.MGR_PAIR_STATUS_STATE ≠ 4)
    (fun s => (((s.goto (s.sched (h + 2))).setMgr { s.mgr with handback := none, released := false }).w
      Reg.MGR_PAIR_STATUS_CLEAN 0).raise 324 0))

/-- Streams (R59–R88), the slab decoder (R91–R113). What a restart discards and how a packet that the FIFO cannot take counts are the
model's choices (assumption log 11, 70). -/
def Obligations.StreamRowsTakeEffect : Prop :=
  (let came (s : State) : State := (s.pass 0).dramUsed true (s.r Reg.MEM_MAP_0004_SYS_BASE)
   (∀ off ws, Runs (.streamPacketReceive (off :: ws)) (fun s => ((came s).stream.started = false ∨ ws = []) ∧ (came s).stream.seqs = [])
    (fun s =>
      let t := came s
      ({ t with
        stream := { t.stream with started := true, lossSearch := false, batch := none, fifo := (ws.take 524288).map StreamItem.word }
        regs := rset (rset t.regs Reg.DECODE_STREAM_STATUS_ALIGNED 0 0) Reg.DECODE_STREAM_OFFSET_EXPECTED 0
          (off.toNat + min ws.length 524288) }.raiseIf (524288 < ws.length) 456 0).settle))
   ∧ (∀ off ws, ws ≠ [] → Runs (.streamPacketReceive (off :: ws))
    (fun s => (came s).stream.started = true ∧ off.toNat = (came s).r Reg.DECODE_STREAM_OFFSET_EXPECTED)
    (fun s =>
      let t := came s
      let kept := ws.take (524288 - itemWords t.stream.fifo)
      ({ t with
        stream := { t.stream with fifo := t.stream.fifo ++ kept.map StreamItem.word }
        regs := rset t.regs Reg.DECODE_STREAM_OFFSET_EXPECTED 0 (off.toNat + kept.length) }.raiseIf (kept.length < ws.length) 456 0).settle))
   ∧ (∀ off ws d, ws ≠ [] → 0 < d → d < 2 ^ 35 → Runs (.streamPacketReceive (off :: ws))
    (fun s => (came s).stream.started = true
      ∧ (off.toNat + 2 ^ 36 - (came s).r Reg.DECODE_STREAM_OFFSET_EXPECTED) % 2 ^ 36 = d)
    (fun s =>
      let t := came s
      let u := { t with stream := { t.stream with fifo := t.stream.fifo ++ [StreamItem.gap d] } }.raise 455 (satN 0xFFFFFFF d)
      let kept := ws.take (524288 - itemWords u.stream.fifo)
      ({ u with
        stream := { u.stream with fifo := u.stream.fifo ++ kept.map StreamItem.word }
        regs := rset u.regs Reg.DECODE_STREAM_OFFSET_EXPECTED 0 (off.toNat + kept.length) }.raiseIf (kept.length < ws.length) 456 0).settle))
   ∧ (∀ off ws, ws ≠ [] → Runs (.streamPacketReceive (off :: ws))
    (fun s => (came s).stream.started = true ∧ 2 ^ 35 ≤ (off.toNat + 2 ^ 36 - (came s).r Reg.DECODE_STREAM_OFFSET_EXPECTED) % 2 ^ 36)
    (fun s => came s)))
  ∧ (let arrived (s : State) (ws : List Word) (rest : List StreamItem) : Prop :=
      s.rb Reg.DECODE_STREAM_STATUS_ALIGNED = true ∧ s.stream.fifo = ws.map StreamItem.word ++ rest ∧ nthW ws 0 = batchMarker
      ∧ ws.length = 7 + 7 * entryCount (nthW ws 1) ∧ s.stream.seqs = []
     let front (s : State) (rest : List StreamItem) : State :=
      let t := s.pass 0
      { t with stream := { s.stream with fifo := rest, batch := none } }
     let ends (s a : State) : State :=
      ((((a.fire.inputs.filter (fun (i : FrameInput) => i.entries.isSome && !s.fire.inputs.contains i)).map (fun (i : FrameInput) => i.frame)).foldl
        (fun (x : State) n => x.atlasCheck n []) a).sealBound).recheck;
     (∀ ws rest, Runs (.batchHeaderParse []) (fun s => arrived s ws rest ∧ headerOk ws = false) (fun s =>
        let n := frameOf (nthW ws 1) (nthW ws 2)
        let t := (front s rest).raise 454 (n % 2 ^ 28)
        ends s { t with stream := { t.stream with batch := some ⟨n, none, false⟩ } }.settle))
     ∧ (∀ ws rest l, Runs (.batchHeaderParse [])
        (fun s => arrived s ws rest ∧ headerOk ws = true ∧ s.stream.last = some l ∧ frameOf (nthW ws 1) (nthW ws 2) ≤ l
          ∧ bits (nthW ws 1) 23 12 ≠ 0)
        (fun s =>
          let n := frameOf (nthW ws 1) (nthW ws 2)
          let t := (front s rest).raise 449 (n % 2 ^ 28)
          ends s { t with stream := { t.stream with batch := some ⟨n, some (bits (nthW ws 1) 23 12), true⟩ } }.settle))
     ∧ (∀ ws rest, Runs (.batchHeaderParse [])
        (fun s => arrived s ws rest ∧ headerOk ws = true ∧ s.stream.last = none
          ∧ (front s rest).curFrame + s.es Reg.DECODE_STREAM_CTRL_HORIZON < frameOf (nthW ws 1) (nthW ws 2)
          ∧ bits (nthW ws 1) 23 12 ≠ 0)
        (fun s =>
          let n := frameOf (nthW ws 1) (nthW ws 2)
          let t := (front s rest).raise 450 (n % 2 ^ 28)
          ends s { t with stream := { t.stream with batch := some ⟨n, some (bits (nthW ws 1) 23 12), true⟩ } }.settle))
     ∧ (∀ ws rest, Runs (.batchHeaderParse [])
        (fun s =>
          let n := frameOf (nthW ws 1) (nthW ws 2)
          arrived s ws rest ∧ headerOk ws = true ∧ s.stream.last = none ∧ (front s rest).windowOpen n = true
          ∧ n ≤ (front s rest).curFrame + s.es Reg.DECODE_STREAM_CTRL_HORIZON
          ∧ bit (nthW ws 1) 25 = false ∧ bit (nthW ws 1) 24 = false ∧ nthW ws 3 = 0
          ∧ s.es Reg.DECODE_STREAM_CTRL_PRESENT_TOL = 0 ∧ bits (nthW ws 1) 23 12 ≠ 0
          ∧ entriesBad (nthW ws 1) (entriesOf (entryCount (nthW ws 1)) (ws.drop 6)) = false)
        (fun s =>
          let n := frameOf (nthW ws 1) (nthW ws 2)
          let es := entriesOf (entryCount (nthW ws 1)) (ws.drop 6)
          let t := front s rest
          let u := { t with stream := { t.stream with last := some n, parsed := s.stream.parsed ++ [n] } }
          let v := { u with
            fire := { s.fire with inputs := putInput s.fire.inputs { inputFor s.fire.inputs n with entries := some es, epoch := some 0 } } }
          ends s { v with stream := { v.stream with batch := some ⟨n, some (bits (nthW ws 1) 23 12), false⟩ } }.settle))
     ∧ (∀ ws rest, Runs (.batchHeaderParse [])
        (fun s =>
          let n := frameOf (nthW ws 1) (nthW ws 2)
          arrived s ws rest ∧ headerOk ws = true ∧ s.stream.last = none ∧ (front s rest).windowOpen n = false
          ∧ n ≤ (front s rest).curFrame + s.es Reg.DECODE_STREAM_CTRL_HORIZON
          ∧ bit (nthW ws 1) 25 = false ∧ bit (nthW ws 1) 24 = false ∧ nthW ws 3 = 0
          ∧ s.es Reg.DECODE_STREAM_CTRL_PRESENT_TOL = 0 ∧ bits (nthW ws 1) 23 12 ≠ 0
          ∧ entriesBad (nthW ws 1) (entriesOf (entryCount (nthW ws 1)) (ws.drop 6)) = false)
        (fun s =>
          let n := frameOf (nthW ws 1) (nthW ws 2)
          let t := front s rest
          let u := { t with stream := { t.stream with last := some n, parsed := s.stream.parsed ++ [n] } }.raise 740 (n % 2 ^ 28)
          ends s { u with stream := { u.stream with batch := some ⟨n, some (bits (nthW ws 1) 23 12), false⟩ } }.settle)))
  ∧ (∀ (b : OpenBatch) k ws rest, Runs (.chunkReceive [])
    (fun s => s.stream.batch = some b ∧ s.rb Reg.DECODE_STREAM_STATUS_ALIGNED = true ∧ chunkAt s.stream.fifo = .whole ws rest
      ∧ b.skip = false ∧ b.left = some (k + 2) ∧ bits (nthW ws 0) 35 32 = 1 ∧ bits (nthW ws 0) 23 12 = 0
      ∧ s.es Reg.DECODE_STREAM_CTRL_CLEAR_OK ≠ 0 ∧ s.stream.seqs = [] ∧ bits (nthW ws 0) 11 0 = 0 ∧ bit (nthW ws 0) 28 = false)
    (fun s =>
      let q := bits (nthW ws 0) 31 30 * 2 + bits (nthW ws 0) 29 29
      let got := (ws.drop 5).take (bits (nthW ws 1) 13 0)
      let t := s.pass 0
      { t with stream := { s.stream with
        fifo := rest
        batch := some { b with left := some (k + 1) }
        seqs := [⟨q, b.frame, false, 1, false⟩]
        queue := s.stream.queue ++ [(⟨q, b.frame, false, false, false, true, nalUnits (packBytes got)⟩ : DecItem)] } }.settle))
  ∧ (∀ hd ws rest r, hd.length = 4 → nthW hd 0 = parcelMarker → headerOk hd = true → bits (nthW hd 1) 35 32 = 1 →
    chunkAt rest = .whole ws r → bits (nthW ws 0) 35 32 = 1 → bits (nthW ws 0) 23 12 = 0 → bits (nthW ws 0) 11 0 = 0 →
    bit (nthW ws 0) 28 = true → Runs (.liveParcelReceive [])
    (fun s => s.stream.fifo = hd.map StreamItem.word ++ rest ∧ s.rb Reg.DECODE_STREAM_STATUS_ALIGNED = true
      ∧ s.es Reg.DECODE_STREAM_CTRL_CLEAR_OK ≠ 0 ∧ s.stream.seqs = [])
    (fun s =>
      let q := bits (nthW ws 0) 31 30 * 2 + bits (nthW ws 0) 29 29
      let n := frameOf (nthW hd 1) (nthW hd 2)
      let got := (ws.drop 5).take (bits (nthW ws 1) 13 0)
      let t := { s.pass 0 with stream := { s.stream with fifo := r } }
      let u := if t.presented n then t.raise 463 (n % 2 ^ 28) else t
      { u with stream := { u.stream with
        queue := u.stream.queue ++ [(⟨q, n, true, true, false, true, nalUnits (packBytes got)⟩ : DecItem)] } }.settle))
  ∧ (∀ q head i u us, Runs (.pictureBegin q head)
    (fun s => (s.pass 0).nextItem = some i ∧ i.lost = false ∧ i.nals = u :: us ∧ badNal u = false ∧ sliceNal u = true ∧ i.seq = q
      ∧ s.dec.prog.getD q none = none)
    (fun s => (((s.pass 0).beginPic q head i (nalType u)).atlasSize q).recheck))
  ∧ (∀ q head i u us p, Runs (.pictureBegin q head)
    (fun s => (s.pass 0).nextItem = some i ∧ i.lost = false ∧ i.nals = u :: us ∧ badNal u = false ∧ sliceNal u = true ∧ i.seq = q
      ∧ s.dec.prog.getD q none = some p ∧ p.ending = false ∧ firstSlice u = true)
    (fun s => (((((s.pass 0).decErr 0x0B q p.frame 0).finishPic q p none).beginPic q head i (nalType u)).atlasSize q).recheck))
  ∧ (let came (s : State) : State := (s.pass 0).dramUsed true (s.r Reg.DECODE_POOL_BASE_POOL_BASE)
     ∀ q (o : SliceOut) i u us p, o.err = none → o.reads = [] → Runs (.sliceSegmentDecoded q o)
    (fun s => (came s).nextItem = some i ∧ i.lost = false ∧ i.nals = u :: us ∧ badNal u = false ∧ sliceNal u = true ∧ i.seq = q
      ∧ (came s).dec.prog.getD q none = some p ∧ p.ending = false)
    (fun s =>
      let t := came s
      let g := sliceInto p o
      let n := (g.done.length - p.done.length) * p.head.ctu * p.head.ctu
      let v := ((t.setItem i (some { i with nals := us })).setProg q (some g)).act (t.decodeClass i) 2 n
      { v with dec := { v.dec with positions := v.dec.positions + n } }.drain.recheck.release))
  ∧ (∀ q sei p, Runs (.pictureEnd q sei)
    (fun s => (s.pass 0).drain.dec.prog.getD q none = some p ∧ p.ending = true)
    (fun s => ((s.pass 0).drain.finishPic q p sei).recheck.release))

/-- Frames (R27–R57), bands (R133, R217), rays (R157), packets (R219), the swap (R210, R211), the scan (R207, R208), banks (R174). -/
def Obligations.FrameRowsTakeEffect : Prop :=
  (∀ acts items slip, Runs (.tick acts items slip) (fun s => s.alive = true) (fun s =>
    let o := { s with out := [] }.overdue
    let n := o.nextTick
    let u := o.onTo (o.sched n)
    let a := { u.freshTick with time := { u.freshTick.time with last := n, ticked := true } }
    let b := { a with emit_ := { a.emit_ with lineDue := a.sched n + us (a.es Reg.EMIT_SCAN_CTRL_SCAN_PHASE) } }
    let v := (if b.geomDue n || b.softStarts n then b.repeatAt n else b).closeFrame n
    let w := (((if u.time.ticked then v.closePlan acts else v).takeFiring).tickTime n).softDue
    if w.time.ticked then
      let x := w.softBack.bankedDue.exitDue
      match x.start.power with
      | some (2, k, snap) => if k ≤ n then x.coldEntry snap else x.tickWork n items slip u.synfKey
      | _ => x.tickWork n items slip u.synfKey
    else w))
  ∧ (∀ acts items slip, Runs (.tick acts items slip) (fun s => s.alive = false) (fun s => s.pass 0))
  ∧ Runs .commitWindowClose
    (fun s => s.time.ticked = true ∧ s.fire.closed ≠ some (s.time.last + 2))
    (fun s =>
      let n := s.time.last + 2
      let t := s.goto (s.windowEnd n)
      let u := { t with fire := { t.fire with closed := some n } }
      (if u.isWorker = true ∧ u.stage ≠ 0 ∧ s.stream.parsed.contains n = false then u.raise 448 (n % 2 ^ 28) else u).release)
  ∧ Runs .commitWindowClose (fun s => s.time.ticked = false ∨ s.fire.closed = some (s.time.last + 2)) (fun s => s.pass 0)
  ∧ (∀ f, Runs .readinessDecision
    (fun s =>
      let t := s.goto (s.sched s.time.last + us (s.es Reg.KILN_FRAME_CTRL_READY_GRACE))
      s.time.ticked = true ∧ t.fire.firing = true ∧ t.fireFrame t.curFrame = some f ∧ f.decided = false ∧ f.repeated = false)
    (fun s =>
      let t := s.goto (s.sched s.time.last + us (s.es Reg.KILN_FRAME_CTRL_READY_GRACE))
      ((((t.decideFrame f).recheckFrame f.frame).release).fireNext).showFire))
  ∧ Runs .liveCutoff (fun s => s.time.ticked = true ∧ s.fire.firing = true)
    (fun s => (s.goto (s.winEnd - us (s.r Reg.KILN_LIVE_CTRL_LIVE_TAIL))).cutoff.release.fireNext.showFire)
  ∧ Runs .liveCutoff (fun s => s.time.ticked = false ∨ s.fire.firing = false) (fun s => s.pass 0)
  ∧ (∀ f, Runs .liveCutoff
    (fun s =>
      let t := s.goto (s.winEnd - us (s.r Reg.KILN_LIVE_CTRL_LIVE_TAIL))
      s.time.ticked = true ∧ s.fire.firing = true ∧ t.fireFrame t.curFrame = some f ∧ f.cut = false ∧ f.repeated = false ∧ f.decided = true)
    (fun s =>
      let t := s.goto (s.winEnd - us (s.r Reg.KILN_LIVE_CTRL_LIVE_TAIL))
      let short := f.sampled.filter (fun i => f.rowSlot i && !t.liveWhole f i)
      let rows := ((slotSet f.copy).filter f.rowSlot).foldl (fun l i => sset 0 l i (t.liveLines f.copy i f.frame)) []
      let wait := short.any (fun i => slotPolicy f.copy i = 2 && sget 0 rows i = 0 && !t.overLimit f.copy i)
      let g := { f with cut := true, live := rows, late := wait }
      let u := (t.setFrame g).raises (short.flatMap (fun i => [(743, i), (608 + 4 * i, i)]))
      (if wait then u.repeatFrame g else u.recheckFrame f.frame).release.fireNext.showFire))
  ∧ (∀ f, Runs .firingWindowEnd
    (fun s =>
      let t := s.goto s.winEnd
      s.time.ticked = true ∧ s.fire.firing = true ∧ t.fireFrame t.curFrame = some f ∧ f.repeated = false
      ∧ (f.bands = [] ∨ ∃ b ∈ f.bands, b.fired = false ∨ b.stale = true))
    (fun s =>
      let t := s.goto s.winEnd
      let u := if f.once.contains 742 then t.setFrame f else (t.raise 742 (f.frame % 2 ^ 28)).setFrame { f with once := 742 :: f.once }
      { u with hearth := { u.hearth with plan := { u.hearth.plan with late := true } } }))
  ∧ (∀ f, Runs .firingWindowEnd
    (fun s =>
      let t := s.goto s.winEnd
      s.time.ticked = true ∧ s.fire.firing = true ∧ t.fireFrame t.curFrame = some f
      ∧ (f.repeated = true ∨ (f.bands ≠ [] ∧ ∀ b ∈ f.bands, b.fired = true ∧ b.stale = false)))
    (fun s => s.goto s.winEnd))
  ∧ (let came (s : State) (n : Nat) : State :=
      let u := (s.pass 0).fireNext
      if n = u.curFrame + 1 ∧ (u.fireFrame n).isNone = true ∧ u.fire.firing = true then (u.setFrame (u.frameOr n)).renew n else u
     ∀ n b errs f, Runs (.shelfWindowLoaded n b errs)
    (fun s =>
      let t := came s n
      let r := t.laidOut f
      t.fireFrame n = some f ∧ (t.isFired f = true ∨ n = t.curFrame + 1) ∧ (r.2.nextBands r.1).contains b = true
      ∧ r.2.fire.shelf.length < r.2.shelfRoom ∧ r.2.bandOpen r.1 b = true)
    (fun s =>
      let r := (came s n).laidOut f
      let l := (r.2.setFrame r.1).loadWindows r.1 b errs
      ({ l.1 with fire := { l.1.fire with shelf := l.1.fire.shelf ++ [(⟨n, b, l.1.bandInputs r.1 b, l.2⟩ : Half)] } }.fireNext).showFire))
  ∧ (∀ n b f x, Runs (.bandFireComplete n b)
    (fun s => (s.pass 0).fireFrame n = some f ∧ f.bands.find? (fun (x : Band) => x.idx = b) = some x ∧ x.left = 0 ∧ x.fired = false
      ∧ x.inputs.isEmpty = false)
    (fun s =>
      let t := s.pass 0
      let q := t.geo
      let fs := f.faults.getD t.faultSet
      let bank := ((t.setFor f).map t.bankOf).getD t.glaze.ctx
      let rays := (bandHogels q.g f.rows b).foldl
        (fun l (p : Nat × Nat) => stageHogel q fs (t.r Reg.EMIT_FAULT_CTRL_FILL_SHARE) n bank p.1 p.2 l) f.rays
      let g := { f with
        rays := rays
        advanced := f.advanced ++ (t.regionsAdvanced f b).filter (fun (k : Nat) => !f.advanced.contains k)
        bands := f.bands.map (fun (y : Band) => if y.idx = b then { y with fired := true } else y) }
      let u := (if t.direct then t else t.dramUsed true (t.r Reg.MEM_MAP_0003_RAY_BASE)).setFrame g
      let v := if x.again then
          ({ u with fire := { u.fire with refired := u.fire.refired + 1 } }.count Reg.KILN_REFIRE_COUNT_TOTAL).raiseTick 737 0 0
        else u
      v.release.fireNext.showFire))
  ∧ (∀ lane errs, Runs (.rectPacketSent lane errs)
    (fun s => lane < 16 ∧ ((s.pass 0).emitterSlot lane errs).1 = true) (fun s => ((s.pass 0).emitterSlot lane errs).2))
  ∧ (∀ lane errs, Runs (.rectPacketSent lane errs)
    (fun s => lane < 16 ∧ ((s.pass 0).emitterSlot lane errs).1 = false)
    (fun s => State.laneRun errs ((s.pass 0).slotsLeft lane - 1) lane ((s.pass 0).emitterSlot lane errs).2))
  ∧ (let came (s : State) : State := match s.pacedTo with
      | some t => (s.goto t).fireNext
      | none => s.pass 0
     ∀ parity f q t, Runs (.glazeRay parity)
    (fun s => (came s).fire.frames.find? (fun (x : FireFrame) => !x.queue.isEmpty) = some f ∧ f.queue = q :: t)
    (fun s =>
      let u := came s
      let r := u.passRay { f with queue := t } q parity
      let g := { r.1 with bands := r.1.bands.map (fun (x : Band) => if x.idx = q.band then { x with left := x.left - 1 } else x) }
      let v := r.2.act (u.fireClass f.frame (f.bands.any (fun (x : Band) => x.idx = q.band && x.again))) 3 1
      let last := r.1.hogels ≠ f.hogels && r.1.hogels = (gridOf u.regs).hw * (gridOf u.regs).hh
      let lane := u.es Reg.EMIT_HEAD_CTRL_TTH_LANE
      (match last && u.rb Reg.CAL_TTH_TTH_EN, v.cal.rec_ with
        | true, some (w, cs) =>
          let k := v.clampStep (bits cs 3 0)
          k.2.setFrame { g with packets := g.packets ++ [(lane, testWords w (bits cs 7 4) k.1 lane f.frame)] }
        | _, _ => v.setFrame g).fireNext))
  ∧ (∀ input dt n, input < 2 → Runs (.teEdge input dt)
    (fun s => (s.pass dt).scanOn = true ∧ s.es Reg.EMIT_HEAD_CTRL_TE_SEL = input ∧ s.emit_.bisAwait = false
      ∧ s.emit_.await = some n)
    (fun s =>
      let t := s.pass dt
      if t.transfersDone n then (if t.emit_.edges = 0 then t.swap n 1 else (t.swap n 2).raise 832 (n % 2 ^ 28))
      else { t with emit_ := { t.emit_ with edges := t.emit_.edges + 1 } }))
  ∧ (∀ n, Runs .swapDeadline
    (fun s => s.emit_.bisAwait = false ∧ s.emit_.await = some n
      ∧ (s.goto (s.sched s.time.last + us (s.es Reg.EMIT_HEAD_CTRL_TE_TIMEOUT))).transfersDone n = true)
    (fun s => ((s.goto (s.sched s.time.last + us (s.es Reg.EMIT_HEAD_CTRL_TE_TIMEOUT))).swap n 3).raise 833 (n % 2 ^ 28)))
  ∧ (∀ n, Runs .swapDeadline
    (fun s => s.emit_.bisAwait = false ∧ s.emit_.await = some n
      ∧ (s.goto (s.sched s.time.last + us (s.es Reg.EMIT_HEAD_CTRL_TE_TIMEOUT))).transfersDone n = false)
    (fun s => (s.goto (s.sched s.time.last + us (s.es Reg.EMIT_HEAD_CTRL_TE_TIMEOUT))).abandon n))
  ∧ Runs .swapDeadline
    (fun s => s.emit_.bisAwait = true)
    (fun s =>
      let t := s.goto (s.sched s.time.last + us (s.es Reg.EMIT_HEAD_CTRL_TE_TIMEOUT))
      if t.bisqueSent then (t.bisqueSwap 3).raise 833 (t.time.last % 2 ^ 28) else t.bisqueAbandon)
  ∧ (let from_ (s : State) : Int := s.emit_.lineFrom
     let lines (s : State) : Nat := s.geo.subs * s.geo.commons
     let due (s : State) : Int :=
      if from_ s < s.emit_.lineDue then s.emit_.lineDue else s.sched s.nextTick + us (s.es Reg.EMIT_SCAN_CTRL_SCAN_PHASE)
     let j (s : State) : Int := (s.tb3 - from_ s) * lines s / (max 1 s.period : Nat) + 1
     let at_ (s : State) : Int := from_ s + j s * s.period / (lines s : Int)
     let starts (s : State) (line : Nat) : State :=
      let u := ({ s with emit_ := { s.emit_ with line := line } }.synfLine line).lineStart
      (s.geo.heads.filter (fun h => !u.headOff h)).foldl (fun (x : State) h =>
        x.emit .pin [92 + h] [word (line % s.geo.commons), word (b2n (x.emit_.blank.getD h true)), word x.emit_.blankT]) u
     Runs .scanLineStart (fun s => s.scanOn = true ∧ from_ s ≤ s.tb3 ∧ j s < lines s ∧ at_ s < due s)
      (fun s => starts (s.goto (at_ s)) (j s).toNat)
     ∧ Runs .scanLineStart
      (fun s => s.scanOn = true ∧ from_ s ≤ s.tb3 ∧ (lines s ≤ j s ∨ due s ≤ at_ s) ∧ s.time.blankNext = false)
      (fun s => let t := s.goto (due s); starts { t with emit_ := { t.emit_ with lineFrom := due s } } 0)
     ∧ Runs .scanLineStart (fun s => s.scanOn = true ∧ s.tb3 < from_ s) (fun s => starts (s.goto (from_ s)) 0)
     ∧ Runs .scanLineStart
      (fun s => s.scanOn = true ∧ from_ s ≤ s.tb3 ∧ (lines s ≤ j s ∨ due s ≤ at_ s) ∧ s.time.blankNext = true ∧ s.time.blank = false
        ∧ from_ s + s.period < due s)
      (fun s => let t := s.goto (from_ s + s.period); { t with time := { t.time with blank := true } }.driveBlank))
  ∧ Runs .scanLineStart (fun s => s.scanOn = false) (fun s => s.pass 0)
  ∧ (∀ l, Runs .tableLoadQueuedRun (fun s => s.fire.loads = [l] ∧ (s.pass 0).tableUsed l.kind l.table = false) (fun s =>
    let t := { s.pass 0 with fire := { s.fire with loads := [] } }
    let r := t.runLoad l.kind l.params
    (r.2.complete l.req r.1).showTables))
  ∧ (∀ n, Runs .sealLift (fun s => (s.pass 0).surfsDue = [n]
      ∧ (sget (⟨0, 0, none⟩ : SurfX) s.fire.surf n).release = none) (fun s =>
    let x := sget (⟨0, 0, none⟩ : SurfX) s.fire.surf n
    let t := { s.pass 0 with
      fire := { s.fire with surf := sset (⟨0, 0, none⟩ : SurfX) s.fire.surf n (⟨x.gen, 0, none⟩ : SurfX) }
      regs := rsets s.regs [(Reg.KILN_SURF_W3_SEALED, n, 0), (Reg.KILN_SURF_W3_LAST_USE, n, 0), (Reg.KILN_SURF_W3_RELEASING, n, 0)] }
    (({ t with dec := { t.dec with
      pics := t.dec.pics.map (fun (p : Pic) => { p with sealAt := p.sealAt.filter (fun (y : Nat) => !t.sealDue y) }) } }.prune).showPool).writesDue))
  ∧ (∀ l, Runs .ctxBankSwap (fun s => s.glaze.loads = [l] ∧ l.frame ≤ s.curFrame) (fun s =>
    let n := s.curFrame
    let t := { s.pass 0 with glaze := { s.glaze with
      ctx := s.glaze.staged, prev := s.glaze.ctx, bankNo := s.glaze.bankNo + 1, loads := []
      parity := s.glaze.parity.filter (fun (k : Nat) => 2 ≤ k % 8) ++ s.glaze.parityStaged
      parityPrev := s.glaze.parity.filter (fun (k : Nat) => k % 8 < 2) } }
    (((t.w Reg.GLAZE_CTX_STATUS_COPYING 1).showCtx).complete l.req (if l.late then .late l.frame else .done l.frame)).raise 774
      (n % 2 ^ 28)))
  ∧ Runs .ctxBankCopyDone (fun s => s.rb Reg.GLAZE_CTX_STATUS_COPYING = true ∧ s.glaze.waiting = []) (fun s =>
    { (s.pass 0).w Reg.GLAZE_CTX_STATUS_COPYING 0 with
      glaze := { s.glaze with staged := s.glaze.ctx, parityStaged := [], waiting := [] } }.showCtx)

/-- Read-back (R224, R230), fault maps (R242, R243), probes (R244, R245), the fallback (R250). -/
def Obligations.FaultRowsTakeEffect : Prop :=
  (∀ words e, bits (nthW words 0) 35 32 = 1 → Runs (.readbackReceive words)
    (fun s => s.emit_.echo.find? (fun (x : Echo) => x.lane = bits (nthW words 0) 31 28 && x.frame = bits (nthW words 0) 27 0) = some e
      ∧ bits (nthW words 1) 31 0 = e.crc ∧ bits (nthW words 2) 22 0 = e.count ∧ bit (nthW words 2) 23 = e.abandon)
    (fun s => { s.pass 0 with emit_ := { s.emit_ with
      echo := s.emit_.echo.filter (fun (x : Echo) => x ≠ e)
      badEcho := setNth s.emit_.badEcho (bits (nthW words 0) 31 28) 0 } }))
  ∧ (∀ words e, bits (nthW words 0) 35 32 = 1 → bits (nthW words 1) 31 0 ≠ e.crc → Runs (.readbackReceive words)
    (fun s => s.emit_.echo.find? (fun (x : Echo) => x.lane = bits (nthW words 0) 31 28 && x.frame = bits (nthW words 0) 27 0) = some e
      ∧ nth s.emit_.badEcho e.lane = 0)
    (fun s =>
      let t := { s.pass 0 with emit_ := { s.emit_ with
        echo := s.emit_.echo.filter (fun (x : Echo) => x ≠ e)
        badEcho := setNth s.emit_.badEcho e.lane 1 } }.flag Reg.EMIT_READBACK_MISMATCH (2 ^ e.lane)
      (t.dropString e.lane).raise 839 e.frame))
  ∧ (∀ lane e, Runs (.readbackTimeout lane)
    (fun s => s.emit_.echo.find? (fun (x : Echo) => x.lane = lane) = some e ∧ nth s.emit_.badEcho e.lane = 0)
    (fun s =>
      let t := s.gotoNow (e.at_ + 20000)
      let u := { t with emit_ := { s.emit_ with
        echo := s.emit_.echo.filter (fun (x : Echo) => x ≠ e)
        badEcho := setNth s.emit_.badEcho e.lane 1 } }.flag Reg.EMIT_READBACK_MISMATCH (2 ^ e.lane)
      (u.dropString e.lane).raise 840 e.frame))
  ∧ (∀ lane e, Runs (.readbackTimeout lane)
    (fun s => s.emit_.echo.find? (fun (x : Echo) => x.lane = lane) = some e ∧ nth s.emit_.badEcho e.lane = 2)
    (fun s =>
      let t := s.gotoNow (e.at_ + 20000)
      let u := { t with emit_ := { s.emit_ with
        echo := s.emit_.echo.filter (fun (x : Echo) => x ≠ e)
        badEcho := setNth s.emit_.badEcho e.lane 3 } }.flag Reg.EMIT_READBACK_MISMATCH (2 ^ e.lane)
      ((((u.dropString e.lane).raise 840 e.frame).flag Reg.EMIT_READBACK_FAILED (2 ^ e.lane)).raise 841 e.frame |>.failString e.lane).evalGroups))
  ∧ (let entries (words : List Word) : List FaultEntry := ((words.drop 2).take (bits (nthW words 1) 4 0)).map (fun w =>
      (⟨bits (nthW words 0) 31 28, bits w 35 34, bits w 33 32, bit w 31, bits w 24 0, 0⟩ : FaultEntry))
     let heard (s : State) (words : List Word) : Prop := bits (nthW words 0) 35 32 = 2
      ∧ (s.pass 0).geo.lanes.contains (bits (nthW words 0) 31 28) = true ∧ s.es Reg.EMIT_HEAD_CTRL_ECHO_EN ≠ 0 ∧ s.emit_.maps = []
     (∀ words, Runs (.faultMapReceive words) (fun s => heard s words ∧ bits (nthW words 1) 12 10 = 0)
      (fun s => (s.pass 0).takeReport (bits (nthW words 0) 31 28) (entries words) (bit (nthW words 1) 9)))
     ∧ (∀ words, Runs (.faultMapReceive words) (fun s => heard s words ∧ 0 < bits (nthW words 1) 12 10)
      (fun s => { s.pass 0 with emit_ := { s.emit_ with
        maps := [(bits (nthW words 0) 31 28, [bits (nthW words 1) 15 13], entries words)] } })))
  ∧ (∀ lane, Runs (.faultReportMissing lane)
    (fun s => s.es Reg.EMIT_HEAD_CTRL_ECHO_EN ≠ 0 ∧ s.scanOn = true ∧ s.emit_.reported.getD lane true = false
      ∧ s.geo.lanes.contains lane = true ∧ nth s.emit_.missed lane < 2)
    (fun s =>
      let t := s.goto (s.sched s.time.last + us (s.es Reg.EMIT_SCAN_CTRL_SCAN_PHASE + 400))
      { t with emit_ := { s.emit_ with
        missed := setNth s.emit_.missed lane (nth s.emit_.missed lane + 1)
        reported := setNth s.emit_.reported lane true
        maps := s.emit_.maps.filter (fun (m : Nat × List Nat × List FaultEntry) => m.1 ≠ lane) } }.raise 867 0))
  ∧ (∀ head p, Runs (.probeLine head true)
    (fun s => s.emit_.probes[head]? = some p ∧ p.asked = true ∧ s.scanOn = true ∧ p.solo = [] ∧ p.sure = false
      ∧ p.range.1 ≠ p.range.2)
    (fun s =>
      let t := s.goto (s.sched s.time.last + s.probeOffset)
      { t with emit_ := { s.emit_ with
        probes := setNth s.emit_.probes head { p with asked := false, sure := true } } }.showFaults))
  ∧ (∀ head p, Runs (.probeLine head false)
    (fun s => s.emit_.probes[head]? = some p ∧ p.asked = true ∧ s.scanOn = true ∧ p.solo = [] ∧ p.sure = false)
    (fun s =>
      let t := s.goto (s.sched s.time.last + s.probeOffset)
      let r := t.endTurn head { p with asked := false, heard := true }
      { r.2 with emit_ := { r.2.emit_ with probes := setNth r.2.emit_.probes head r.1 } }.showFaults))
  ∧ (∀ group p, Runs (.failDarkFallback group)
    (fun s => s.emit_.fallback.find? (fun (x : Nat × Nat) => x.1 = group) = some p)
    (fun s =>
      let t := s.gotoNow (p.2 + s.fallbackWait)
      (({ t with emit_ := { s.emit_ with fallback := s.emit_.fallback.filter (fun (x : Nat × Nat) => x.1 ≠ group) } }.w
        Reg.EMIT_FD_GROUP_BLANKING 1 group).raise 871 group).driveBlank))

/-- Layers (R331, R332), extractions (R341), the spyhole (R342–R345). That a row which ENCODE would not code so has no effect is the
model's choice (assumption log 36). -/
def Obligations.EncodeRowsTakeEffect : Prop :=
  (let begun (s : State) (l row dt : Nat) (rep : Bool) : State := if row = 0 then (s.pass dt).beginPicture l rep else s.pass dt
   let ready (s : State) (l f row : Nat) (rep : Bool) (rest : List (Nat × Nat × Bool)) : Prop :=
    (s.layer l).work = (f, row, rep) :: rest ∧ s.peelHeld = true ∧ rget s.enc.regs Reg.ENCODE_LAYER_W0_EN l ≠ 0
   let held (s : State) (l f row : Nat) : Option (Nat × Nat × Nat) :=
    (s.mgr.flows.getD (rget s.enc.regs Reg.ENCODE_LAYER_W0_FLOW l) Flow.reset).rows.find? (fun (p : Nat × Nat × Nat) => p.1 = f && p.2.1 = row)
   let coded (s : State) (l f row dt : Nat) (rep : Bool) (rest : List (Nat × Nat × Bool)) (c : CodedRow) : State :=
    let t := (begun s l row dt rep).codeRow l f row rep c
    t.setLayer l { t.layer l with
      work := if row + 1 < (tileRows s.enc.regs l).foldl (· + ·) 0 then (f, row + 1, rep) :: rest else rest };
   (∀ l c dt f row rest, Runs (.ctuRowEncoded l c dt)
    (fun s => ready s l f row true rest ∧ held s l f row = none ∧ (begun s l row dt true).rowOk l f row true c = true)
    (fun s => coded s l f row dt true rest c))
   ∧ (∀ l c dt f row rest a, Runs (.ctuRowEncoded l c dt)
    (fun s => ready s l f row false rest ∧ held s l f row = some a ∧ s.now + dt ≤ a.2.2 + 70000
      ∧ (begun s l row dt false).rowOk l f row false c = true)
    (fun s => coded s l f row dt false rest c))
   ∧ (∀ l c dt f row rest a, Runs (.ctuRowEncoded l c dt)
    (fun s => ready s l f row false rest ∧ held s l f row = some a ∧ a.2.2 + 70000 < s.now + dt
      ∧ (coded s l f row dt false rest c).enc.backlog = false ∧ (begun s l row dt false).rowOk l f row false c = true)
    (fun s => let t := coded s l f row dt false rest c; (t.setEnc { t.enc with backlog := true }).raise 550 0))
   ∧ (∀ l c dt f row rest, Runs (.ctuRowEncoded l c dt)
    (fun s => ready s l f row false rest ∧ held s l f row = none) (fun s => s.pass dt))
   ∧ (∀ l c dt f row rep rest, Runs (.ctuRowEncoded l c dt)
    (fun s => ready s l f row rep rest ∧ (begun s l row dt rep).rowOk l f row rep c = false) (fun s => s.pass dt)))
  ∧ (let due (s : State) (k : Nat) : Prop := s.enc.winEnd = some k ∧ s.tb3 ≤ s.ingestOpen (k + 2)
      ∧ rget s.enc.regs Reg.ENCODE_LAYER_W0_EN 0 ≠ 0 ∧ rget s.enc.regs Reg.ENCODE_LAYER_W0_EN 1 = 0 ∧ s.peelHeld = true
      ∧ (s.layer 0).bound = some k
     let at_ (s : State) (k : Nat) : State := (s.goto (s.ingestOpen (k + 2))).setEnc { s.enc with winEnd := some (k + 1) };
     (∀ k, Runs (.ingestWindowEnd [])
      (fun s => due s k ∧ (tileRows s.enc.regs 0).foldl (· + ·) 0 ≠ 0)
      (fun s =>
        (((at_ s k).setLayer 0 { s.layer 0 with bound := some (k + 1), work := (s.layer 0).work ++ [(k + 1, 0, true)] }).count
          Reg.ENCODE_LAYER_STATUS_W1_DROPS 0).raise 546 ((k + 1) % 2 ^ 28)))
     ∧ (∀ k rows (u : State → State), Runs (.ingestWindowEnd [rows])
      (fun s => due s k ∧ (s.layer 0).work = []
        ∧ ((at_ s k).setLayer 0 { s.layer 0 with bound := some (k + 1) }).repeatRows 0 (k + 1) 0 rows = some (u s)
        ∧ rget (u s).enc.regs Reg.ENCODE_LAYER_W0_EN 1 = 0)
      (fun s => ((u s).count Reg.ENCODE_LAYER_STATUS_W1_DROPS 0).raise 546 ((k + 1) % 2 ^ 28))))
  ∧ (∀ j n (x : Extr), Runs .intraHoldoffExpiry
    (fun s => s.enc.extr = [(j, x)] ∧ x.served = some n ∧ x.owed = true ∧ n + s.r Reg.ENCODE_CTRL_INTRA_HOLDOFF ≤ s.time.last
      ∧ s.peelHeld = true)
    (fun s => (s.pass 0).serveIntra j))
  ∧ (let due (s : State) (f : Nat) : Prop := s.isWorker = true ∧ s.rb Reg.ENCODE_SPY_CTRL_SPY_EN = true
      ∧ f % (s.r Reg.ENCODE_SPY_CTRL_SPY_DIV_M1 + 1) = 0 ∧ s.enc.spyFrame ≠ some f
     let budget (s : State) : Nat :=
      tileBudget (s.r Reg.ENCODE_SPY_CTRL_SPY_KBPS) s.num (s.den * (s.r Reg.ENCODE_SPY_CTRL_SPY_DIV_M1 + 1)) 1 1
     let ran (s : State) (g : Grid) (pic : List (List Nat)) (idr skip : Bool) (c : CodedSpy) : TileRc × Bool × Bool :=
      let w := (spyCoded g).1
      let h := (spyCoded g).2
      let tile : Rect4 := ⟨0, 0, w, h⟩
      spyRows (fun past => ⟨idr, past, skip, 0⟩)
        (fun m r x => tileRowOk m w h true tile (tile.ctuRow r) (fun x y => nth (pic.getD 0 []) (y * w + x)) (lumaOf s.enc.spyRef)
          s.enc.spyPus x) (cdiv h 32) 0 c.rows
        ({ s.enc.spyRc with intra := idr }.begin_ (budget s) (s.r Reg.ENCODE_CTRL_INTRA_BOOST), false, true)
     let good (s : State) (g : Grid) (idr : Bool) (r : TileRc × Bool × Bool) (c : CodedSpy) : Prop :=
      r.2.2 = true ∧ c.rows.length = cdiv (spyCoded g).2 32 ∧ c.segs = 1 ∧ c.nal = (if idr then 20 else 1)
      ∧ c.head = (if idr then some ((s.pass 0).spyHead g) else none) ∧ c.hash = s.rb Reg.ENCODE_CTRL_HASH ∧ c.fails = [];
     (∀ f bytes c, Runs (.spyPictureCoded f bytes c) (fun s => due s f ∧ (s.pass 0).classIn 7 = false)
      (fun s => (((s.pass 0).setEnc { s.enc with spyFrame := some f, spyIdr := true }).count Reg.ENCODE_SPY_STATUS_SKIPPED).raise 552
        (f % 2 ^ 28)))
     ∧ (∀ f bytes c x, Runs (.spyPictureCoded f bytes c)
      (fun s => due s f ∧ (s.pass 0).classIn 7 = true ∧ (s.pass 0).spyFrame f = some x ∧ s.enc.spyIdr = true
        ∧ good s (gridOf x.copy) true (ran s (gridOf x.copy) (spyPicture (gridOf x.copy) x.rays) true false c) c)
      (fun s =>
        let r := ran s (gridOf x.copy) (spyPicture (gridOf x.copy) x.rays) true false c
        let t := (s.pass 0).setEnc { s.enc with
          spyFrame := some f, spyIdr := false, spyCount := 1, spyRc := r.1, spyPic := spyPicture (gridOf x.copy) x.rays
          spyRef := c.recon, spyPus := c.rows.flatMap (fun (y : CodedTile) => y.pus) }
        ((if r.2.1 then t.raise 544 0 else t).count Reg.ENCODE_SPY_STATUS_SENT).sendSpy f bytes))
     ∧ (∀ f bytes c, Runs (.spyPictureCoded f bytes c)
      (fun s => due s f ∧ (s.pass 0).classIn 7 = true ∧ (s.pass 0).spyFrame f = none ∧ s.enc.spyIdr = false
        ∧ s.enc.spyCount < s.r Reg.ENCODE_SPY_CTRL_SPY_IDR
        ∧ good s (gridOf s.inForce) false (ran s (gridOf s.inForce) s.enc.spyPic false true c) c)
      (fun s =>
        let r := ran s (gridOf s.inForce) s.enc.spyPic false true c
        let t := (s.pass 0).setEnc { s.enc with
          spyFrame := some f, spyIdr := false, spyCount := s.enc.spyCount + 1, spyRc := r.1
          spyRef := c.recon, spyPus := c.rows.flatMap (fun (y : CodedTile) => y.pus) }
        ((if r.2.1 then t.raise 544 0 else t).count Reg.ENCODE_SPY_STATUS_SENT).sendSpy f bytes)))
  ∧ (∀ q, Runs .spySubExpiry (fun s => s.enc.subs = [q]) (fun s =>
      (s.gotoNow q.until_).setEnc { s.enc with subs := [] }))

/-- STAMP (R485), DEFLATE (R491–R496), calibration (R191, R201), bakes (R439), the log (R437). -/
def Obligations.EngineRowsTakeEffect : Prop :=
  (∀ j t ids, Runs .stampJobHead
    (fun s => s.eng.stamp = j :: t ∧ j.started = false ∧ j.waits = false
      ∧ (s.pass 0).gateRuns (j.dst.runs s.regs j.w j.h) j.wait j.force = .go ids)
    (fun s => (s.pass 0).stampStart j t ids))
  ∧ (∀ j t, Runs .stampJobHead
    (fun s => s.eng.stamp = j :: t ∧ j.started = false ∧ j.waits = false
      ∧ (s.pass 0).gateRuns (j.dst.runs s.regs j.w j.h) j.wait j.force = .denied)
    (fun s => ((((s.pass 0).setStamp t).prune.showPool).complete j.req .denied)))
  ∧ (∀ j t r n, Runs .stampJobDone
    (fun s => s.eng.stamp = j :: t ∧ j.started = true ∧ s.hearth.plan.deferred.contains 8 = false
      ∧ j.dst.format s.regs true ≠ 4 ∧ bit j.ctrl 27 = false
      ∧ (s.pass 0).stampRows j (List.range j.h) ⟨s.dram, [], false, none, 0⟩ 0 = (r, n) ∧ r.err = none ∧ r.hazard = false)
    (fun s =>
      let u := (j.dst.runs s.regs j.w j.h).foldl (fun (x : State) (a : Nat × Nat) => x.writeChannels a.1 a.2)
        ({ s.pass 0 with dram := r.d }.drawn.act 8 10 r.moved)
      let v := (u.w Reg.STAMP_PROGRESS_ROWS n).raises (watermarks j.step j.h n)
      let w := (v.markWriting j.ids false false).surfsAfter j.ids false
      (((w.setStamp t).prune.showPool).complete j.req (.done 0)).writesDue))
  ∧ (∀ j t, Runs .deflateBufferExhausted
    (fun s => s.eng.deflate = j :: t ∧ s.r Reg.DEFLATE_STATUS_STATE = 1 ∧ j.inputs = [] ∧ j.bufs = [] ∧ j.fill = 0
      ∧ (j.stream false j.outDone).stop = 0x100)
    (fun s =>
      let d := j.stream false j.outDone
      let t := ((s.pass 0).setHead j d.eaten).act 8 11 (if j.compress then d.eaten - s.r Reg.DEFLATE_IN_IN_DONE else 0)
      ((t.w Reg.DEFLATE_STATUS_STATE 2).raise 1009 0).writesDue))
  ∧ (∀ j t, Runs .deflateJobDone
    (fun s => s.eng.deflate = j :: t ∧ s.r Reg.DEFLATE_STATUS_STATE = 1 ∧ j.inputs = [] ∧ j.bufs = [] ∧ j.fill = 0
      ∧ (j.stream false j.outDone).stop = 0)
    (fun s =>
      let d := j.stream false j.outDone
      let t := ((s.pass 0).setHead j d.eaten).act 8 11 (if j.compress then d.eaten - s.r Reg.DEFLATE_IN_IN_DONE else 0)
      (t.defEnd j false (.reply (j.report d))).writesDue))
  ∧ (∀ static area n ws req, Runs (.calSaveDone none) (fun s => s.cal.save = some (static, area, n, ws, req)) (fun s =>
      let t := { s.pass 0 with cal := { s.cal with save := none, timerAt := (s.pass 0).glostTime } }.w Reg.CAL_STORE_STATUS_SAVING 0
      let a := nth (calAreas static) area
      let t := { t with flash := flashWrite (flashErase s.flash a 0x180000) a (packBytes ws) }
      let t := if static then t.w Reg.CAL_STORE_STATUS_STATIC_SIDE area
        else { t with cal := { t.cal with lastSnap := some t.now } }.ws
          [(Reg.CAL_STORE_STATUS_SNAP_SLOT, 0, area), (Reg.CAL_STORE_STATUS_SNAP_SEQ, 0, n), (Reg.CAL_STORE_STATUS_SINCE, 0, 0)]
      (t.raise 182 0).completeOpt req (.done (n % 2 ^ 28))))
  ∧ (∀ o static area n ws req, Runs (.calSaveDone (some o)) (fun s => s.cal.save = some (static, area, n, ws, req)) (fun s =>
      let t := { s.pass 0 with cal := { s.cal with save := none, timerAt := (s.pass 0).glostTime } }.w Reg.CAL_STORE_STATUS_SAVING 0
      ({ t with flash := flashErase s.flash (nth (calAreas static) area) 0x180000 }.raise 183 0).completeOpt req (.fault o)))
  ∧ Runs .snapshotTimer (fun s => s.stage = 2 ∧ s.isWorker = true) (fun s =>
      (s.gotoNow (s.now + (s.cal.timerAt + 6000000000 * s.r Reg.CAL_CTRL_SAVE_PERIOD - s.glostTime))).showSince.autoSnap)
  ∧ Runs .calPeriodExpiry
    (fun s => s.stage = 2 ∧ s.isWorker = true ∧ s.r Reg.CAL_CTRL_CAL_PERIOD ≠ 0 ∧ s.cal.run = none)
    (fun s =>
      let t := s.gotoNow (s.now + (s.cal.lastRunG + 360000000000 * s.r Reg.CAL_CTRL_CAL_PERIOD - s.glostTime))
      if s.rb Reg.CAL_TTH_TTH_EN then t.w Reg.CAL_RUN_STATUS_PENDING 1 else t)
  ∧ Runs .bakeApply
    (fun s => s.time.ticked = true ∧ s.rb Reg.MGMT_BAKE_PEND_0116_CLOSED = true ∧ s.bakeK ≤ s.time.last
      ∧ (s.pass 0).bakeBad (bakeFile s.planned s.bake.writes) 0 s.bake.writes = none)
    (fun s =>
      let l := s.bake.writes
      let t := l.foldl (fun (x : State) (p : Nat × Word) => x.storeReg p.1 p.2) (s.pass 0)
      let t := { t with inForce := applyCommit t.inForce (bakeCommits l), fire := { t.fire with touched := s.fire.touched } }
      (((t.clearBake).w Reg.MGMT_BAKE_EPOCH_EPOCH (s.r Reg.MGMT_BAKE_PEND_0118_EPOCH)).raise 8 0).completeOpt s.bake.req
        (.done (s.r Reg.MGMT_BAKE_PEND_0118_EPOCH)))
  ∧ (∀ k, Runs .bakeApply
    (fun s => s.time.ticked = true ∧ s.rb Reg.MGMT_BAKE_PEND_0116_CLOSED = true ∧ s.bakeK ≤ s.time.last
      ∧ (s.pass 0).bakeBad (bakeFile s.planned s.bake.writes) 0 s.bake.writes = some k)
    (fun s => ((s.pass 0).clearBake.raise 10 0).completeOpt s.bake.req (.fault k)))
  ∧ (∀ e, Runs (.logFlush false) (fun s => s.evt.logQ = [e]) (fun s =>
      let p := s.evt.logPlace
      let t := s.pass 0
      let f := if p % 227 = 0 then flashErase s.flash (logBase + p / 227 * 4096) 4096 else s.flash
      { t with
        flash := flashWrite f (logAddr p) ((packBytes e.flashWords).take 18)
        evt := { s.evt with logQ := [], logPlace := (p + 1) % logPlaces } }))
  ∧ Runs (.logFlush true) (fun s => s.evt.logQ ≠ []) (fun s =>
      { s.pass 0 with evt := { s.evt with logPlace := (s.evt.logPlace / 227 + 1) * 227 % logPlaces } }.raise 26 0)

/-- Reserved bits of a word written are ignored, are no ground of refusal, and read 0 (R7). -/
def Obligations.ReservedBits : Prop :=
  (∀ (s : State) (a : Nat) (v w : Word), (∀ p ∈ fieldsAt a, bits v p.1.hi p.1.lo = bits w p.1.hi p.1.lo) →
    writeRaw s.regs a v = writeRaw s.regs a w ∧ s.written a v = s.written a w ∧ s.writeBar a v = s.writeBar a w)
  ∧ (∀ (s : State) (a j : Nat), j < 36 → (∀ p ∈ fieldsAt a, j < p.1.lo ∨ p.1.hi < j) → (s.wordView a).getLsbD j = false)
  ∧ (∀ p ∈ fieldsAt (Reg.MEM_ARB_CAP.at 3), p.1 ≠ Reg.MEM_ARB_CAP)
  ∧ ∃ p ∈ fieldsAt (Reg.MEM_ARB_CAP.at 2), p.1 = Reg.MEM_ARB_CAP

/-- A register word written (R5, R6), and its frame: fields of other addresses. What a write of a WO field triggers is said row by row. -/
def Obligations.FieldWrites : Prop :=
  ∀ (s : State) (a : Nat) (v : Word),
    (∀ p ∈ fieldsAt a,
      (p.1.acc = .RW → rget (s.written a v) p.1 p.2 = if s.hwDone p.1 p.2 = 0 then bits v p.1.hi p.1.lo else rget s.regs p.1 p.2)
      ∧ (p.1.acc = .RO ∨ p.1.acc = .WO → rget (s.written a v) p.1 p.2 = rget s.regs p.1 p.2)
      ∧ (p.1.acc = .W1C → s.hwDone p.1 p.2 = 0 ∨ flagField p.1 = true → ∀ k, k < p.1.width →
          (rget (s.written a v) p.1 p.2).testBit k
            = ((s.hwDone p.1 p.2).testBit k || ((rget s.regs p.1 p.2).testBit k && !(bits v p.1.hi p.1.lo).testBit k)))
      ∧ (p.1.acc = .W1C → s.hwDone p.1 p.2 ≠ 0 → flagField p.1 = false →
          let was := rget s.regs p.1 p.2 - s.hwDone p.1 p.2
          rget (s.written a v) p.1 p.2
            = min (2 ^ p.1.width - 1) (was - (was &&& bits v p.1.hi p.1.lo) + s.hwDone p.1 p.2)))
    ∧ (∀ f ∈ allFields, ∀ j, j < f.count → f.at j ≠ a → rget (s.written a v) f j = rget s.regs f j)

/-- The frame of the writes that do nothing beyond their word (R5, R30): other fields, memories, units. -/
def Obligations.WriteFrame : Prop :=
  let leaves (e : Instr) (a : Nat) (v : Word) : Prop := ∀ s : State, s.lets a v →
    ∃ t, exec e s = .next t
      ∧ (∀ f ∈ allFields, ∀ j, j < f.count → f.at j ≠ a → t.r f j = s.r f j)
      ∧ (∀ x, t.dramAt x = s.dramAt x) ∧ (∀ x, t.flashAt x = s.flashAt x) ∧ t.pending = s.pending ∧ t.evt = s.evt
      ∧ t.inForce = s.inForce ∧ t.link = s.link ∧ t.mgr = s.mgr ∧ t.stream = s.stream ∧ t.dec = s.dec ∧ t.glaze = s.glaze
      ∧ t.emit_ = s.emit_ ∧ t.enc = s.enc ∧ t.eng = s.eng ∧ t.cal = s.cal ∧ { t.fire with touched := s.fire.touched } = s.fire
  (∀ v, leaves (.slotSetWrite v) 0x90010 v) ∧ (∀ v, leaves (.phaseTargetWrite v) 0x40026 v) ∧ (∀ v, leaves (.scanConfigWrite false v) 0xB0000 v)
  ∧ (∀ j w v, j < 32 → w < 8 → leaves (.slotDescriptorWrite j w v) (0x90100 + 16 * j + w) v)
  ∧ (∀ j v, j < 256 → leaves (.encodeMapWrite j v) (0x80100 + j) v)
  ∧ (∀ j w v, j < 16 → w < 18 → leaves (.driveConeWrite j w v) (Reg.EMIT_DRIVE_CONE_W0_BLANK_CLKS.at j + w) v)
  ∧ (∀ j w v, j < 2 → w < 4 → leaves (.liveFlowWrite j w v) (0x52010 + 4 * j + w) v)
  ∧ (∀ l v, l < 32 → leaves (.laneEqWrite l v) (Reg.LINK_LANE_W0_TX_INV.at l) v)

/-- The frame of commands that store nothing (R352, R421, R439, and the opcode table of R421's chapter): memories and units. -/
def Obligations.CommandFrame : Prop :=
  let leaves (e : Cmd → Instr) (o : OpSpec) : Prop := ∀ (c : Cmd) (s : State), s.served o c = true →
    ∃ t, exec (e c) s = .next t
      ∧ (∀ x, t.dramAt x = s.dramAt x) ∧ (∀ x, t.flashAt x = s.flashAt x) ∧ t.pending = s.pending ∧ t.inForce = s.inForce
      ∧ t.fire = s.fire ∧ t.stream = s.stream ∧ t.dec = s.dec ∧ t.glaze = s.glaze ∧ t.emit_ = s.emit_ ∧ t.enc = s.enc
      ∧ t.eng = s.eng ∧ t.cal = s.cal ∧ t.mem = s.mem
  leaves .ping opPing ∧ leaves .stageStatus opStageStatus ∧ leaves .timeRead opTimeRead ∧ leaves .routeSet opRouteSet
  ∧ leaves .bakeOpen opBakeOpen ∧ leaves .bakeWrite opBakeWrite ∧ leaves .bakeAbort opBakeAbort

/-- The reply cache holds 64 commands (R423) and the SPI queue 16 replies (R427), around every opcode. -/
def Obligations.CommandQueues : Prop :=
  (∀ (s : State) (o : OpSpec) (c : Cmd), s.queuesOk = true → (s.handed o c).queuesOk = true)
  ∧ (∀ (s : State) (o : OpSpec) (c : Cmd) (a : Ans) (t : State), t.queuesOk = true → (s.answered o c a t).queuesOk = true)

/-- The level of EVT_N (R434). -/
def Obligations.EventPin : Prop :=
  ∀ s : State,
    (s.evtNLow = true ↔ s.rb Reg.TIME_CAPTURE_W0_EN 1 = false
      ∧ ∃ e, e < 1024 ∧ s.rb Reg.MGMT_EVT_PIN e = true ∧ s.rb Reg.MGMT_EVT_MASK e = false ∧ s.rb Reg.MGMT_EVT_LATCH e = true)
    ∧ ((∀ e, e < 1024 → s.rb Reg.MGMT_EVT_LATCH e = false) → s.evtNLow = false)
    ∧ (∀ e, e < 1024 → (s.w Reg.TIME_CAPTURE_W0_EN 1 1).r Reg.MGMT_EVT_LATCH e = s.r Reg.MGMT_EVT_LATCH e)
    ∧ (s.w Reg.TIME_CAPTURE_W0_EN 1 1).evtNLow = false

/-- Conversion of codes (R479). -/
def Obligations.CodeConversion : Prop :=
  (∀ b, b < 256 → code9 b = (b <<< 1) ||| (b >>> 7) ∧ code9 b < 512 ∧ code8 (code9 b) = b) ∧ ∀ c, code8 c = c >>> 1

/-- The ROP row of the operations of STAMP, and the codes named under it (R481). -/
def Obligations.RasterOperations : Prop :=
  ∀ s d : Word,
    (∀ rop k, rop < 16 → k < 36 → (ropWord rop s d).getLsbD k = rop.testBit (2 * b2n (s.getLsbD k) + b2n (d.getLsbD k)))
    ∧ ropWord 0xC s d = s ∧ ropWord 0xA s d = d ∧ ropWord 0x6 s d = s ^^^ d ∧ ropWord 0x8 s d = s &&& d
    ∧ ropWord 0xE s d = s ||| d ∧ ropWord 0x3 s d = ~~~s

/-- MIRROR and ROT (R118) are one to one between the physical and the scene grid. -/
def Obligations.SceneCoordinates : Prop :=
  ∀ g : Grid, g.rot < 4 →
    (∀ px py vx vy, px < g.hw → py < g.hh → vx < g.vw → vy < g.vh →
      let q := sceneOf g px py vx vy
      q.1 < g.sw ∧ q.2.1 < g.sh ∧ q.2.2.1 < g.svw ∧ q.2.2.2 < g.svh ∧ physOf g q.1 q.2.1 q.2.2.1 q.2.2.2 = (px, py, vx, vy))
    ∧ (∀ hx hy vx vy, hx < g.sw → hy < g.sh → vx < g.svw → vy < g.svh →
      let p := physOf g hx hy vx vy
      p.1 < g.hw ∧ p.2.1 < g.hh ∧ p.2.2.1 < g.vw ∧ p.2.2.2 < g.vh ∧ sceneOf g p.1 p.2.1 p.2.2.1 p.2.2.2 = (hx, hy, vx, vy))

/-- The order in which what is bound to one frame applies (R31). -/
def Obligations.CommitOrder : Prop :=
  (∀ (copy : RegFile) (i : FrameInput) (c : List (Fld × Nat × Nat)),
    applyInput copy { i with commits := i.commits ++ [c] } = applyCommit (applyInput copy i) c)
  ∧ (∀ (copy : RegFile) (c : List (Fld × Nat × Nat)) (f : Fld) (j v : Nat), rget (applyCommit copy (c ++ [(f, j, v)])) f j = v % 2 ^ f.width)
  ∧ (∀ (copy : RegFile) (i : FrameInput), applyInput copy i = i.commits.foldl applyCommit (applyInput copy { i with commits := [] }))
  ∧ (∀ (l : List FrameInput) (i : FrameInput), inputFor (putInput l i) i.frame = i
      ∧ ∀ m, m ≠ i.frame → inputFor (putInput l i) m = inputFor l m)
  ∧ (∀ (s : State) (n : Nat), s.bindCommit n =
    (({ s with fire := { s.fire with
        inputs := putInput s.fire.inputs { inputFor s.fire.inputs n with
          commits := (inputFor s.fire.inputs n).commits ++ [s.fire.touched.map (fun (p : Fld × Nat) => (p.1, p.2, rget s.regs p.1 p.2))] }
        touched := [] } }.atlasCheck n (s.atlasesOut (s.copyFor n) n (fun _ => true))).sealBound).recheck)
  ∧ (∀ (s : State) (n : Nat) (e : Option Nat) (es : List (List Word)), s.bindEntries n e es =
    { s with fire := { s.fire with
      inputs := putInput s.fire.inputs { inputFor s.fire.inputs n with entries := some es, epoch := e } } })

/-- Time bases (R349) and the frame of time passing. -/
def Obligations.BasesAdvance : Prop :=
  (∀ (s : State) (dt b : Nat), s.time.stopped = false → b < 3 →
    nth (s.pass dt).time.tb b = nth s.time.tb b + dt * s.r Reg.TIME_BASE_W3_INCR b ∧ (s.pass dt).base b = nth (s.pass dt).time.tb b / 2 ^ 18)
  ∧ (∀ (s : State) (dt : Nat), (s.pass dt).now = s.now + dt ∧ (s.pass dt).out = []
    ∧ { s.pass dt with now := s.now, time := s.time, sec := s.sec, out := s.out } = s
    ∧ { (s.pass dt).time with tb := s.time.tb } = s.time ∧ { (s.pass dt).sec with trialGlost := s.sec.trialGlost } = s.sec)
  ∧ ∀ b, b < 3 → State.reset.r Reg.TIME_BASE_W3_INCR b = 0xA00000000

/-- Where a device without a place sends a packet on (R286, R288). -/
def Obligations.UnplacedForwarding : Prop :=
  ∀ (s : State) (h0 h1 : Word) (q : Nat), s.isMgr = false → s.rb Reg.LINK_POS_PLACED = false →
    (h1Type h1 = 0 ∨ h1Type h1 = 3 → s.portOpen ((q + 2) % 4) = true → s.onward h0 h1 q false = ([(q + 2) % 4], s))
    ∧ (h1Type h1 = 0 ∨ h1Type h1 = 3 → s.portOpen ((q + 2) % 4) = false →
        s.onward h0 h1 q false = ([], s.raise 261 ((q + 2) % 4)))
    ∧ (h1Type h1 = 1 ∨ h1Type h1 = 2 → s.onward h0 h1 q false = ([], s))
    ∧ (∀ p, p ∈ (s.onward h0 h1 q true).1 ↔ p < 4 ∧ s.portOpen p = true ∧ p ≠ q)

/-- Plain surfaces (R145, R140). -/
def Obligations.PlainTexels : Prop :=
  ∀ (r : RegFile) (n : Nat) (d : List Host.Cell), rget r Reg.KILN_SURF_W1_CRUMB n = 0 →
    let base := rget r Reg.KILN_SURF_W0_BASE n
    let stride := rget r Reg.KILN_SURF_W2_STRIDE_M1 n + 1
    (∀ x y, (surfOf r n).texel d x y =
      if sectorGood d (base + (y * stride + x) / 7) then dramWord d (7 * base + (y * stride + x)) else 0)
    ∧ (∀ x0 w rows k, x0 + w ≤ rget r Reg.KILN_SURF_W1_W_M1 n + 1 → k ∈ (surfOf r n).windowWords d x0 w rows →
        ∃ y ∈ rows, ∃ x, x ≤ rget r Reg.KILN_SURF_W1_W_M1 n ∧ k = y * stride + x)

/-- The state right after reset: registers by their Reset column (R9), memories, queue. -/
def Obligations.ResetRegisters : Prop :=
  let s := State.reset
  (∀ f ∈ allFields, ∀ j, s.r f j = f.rst j ∧ rget s.inForce f j = f.rst j)
  ∧ s.r Reg.KILN_FRAME_CTRL_RUNAHEAD_EN = 1 ∧ s.r Reg.KILN_FRAME_CTRL_READY_GRACE = 0 ∧ s.r Reg.KILN_BLEND_CTRL_TERM_SHIFT = 10
  ∧ s.r Reg.MGR_CTRL_LEASE = 8 ∧ s.r Reg.HEARTH_PLAN_CTRL_FIRE_WINDOW = 85 ∧ s.r Reg.DECODE_STREAM_CTRL_HORIZON = 4
  ∧ s.r Reg.EMIT_HEAD_CTRL_TE_TIMEOUT = 200 ∧ s.r Reg.HEARTH_DAMP_CTRL_STEP_TIME = 50 ∧ s.r Reg.SECURE_CTRL_SESSION_GRACE = 200
  ∧ s.r Reg.SECURE_CTRL_REKEY = 60 ∧ s.r Reg.MEM_CTRL_DRIFT_LIM = 20 ∧ s.r Reg.TIME_TICK_RATE_NUM = 120 ∧ s.r Reg.TIME_TICK_RATE_DEN = 1
  ∧ s.stage = 0 ∧ s.dram = [] ∧ s.flash = [] ∧ s.pending = [] ∧ s.out = []

/-- The block takes commands, not words: R419 and R420 give packets, and no row of the opcode table has bits. -/
def Obligations.NoWordSpellsACommand : Prop :=
  ∀ (s : State) (nbits w : Nat), decodeTableWord nbits w = none ∧ s.withFetchWord nbits w = s
end

