-- ==== Sys2Proof/Laws/Sparse.lean ====
section
/-! SUPPORT. The laws of sparse arrays: what a read gives after a write, and that a write keeps the canonical form. -/

namespace Sys2Proof.Machine

variable {α : Type}

@[simp] theorem sfind_nil (k : Nat) : sfind ([] : List (Nat × α)) k = none := rfl

@[simp] theorem sget_nil (d : α) (k : Nat) : sget d [] k = d := rfl

theorem sfind_sput_same (l : List (Nat × α)) (k : Nat) (v : α) : sfind (sput l k v) k = some v := by
  induction l with
  | nil => simp [sput, sfind]
  | cons p t ih =>
    simp only [sput]
    split
    · simp [sfind]
    · split
      · simp [sfind]
      · rename_i _ h; simp [sfind, h, ih]

theorem sfind_sput_other (l : List (Nat × α)) {k j : Nat} (v : α) (h : j ≠ k) : sfind (sput l k v) j = sfind l j := by
  induction l with
  | nil => simp [sput, sfind, Ne.symm h]
  | cons p t ih =>
    simp only [sput]
    split
    · simp [sfind, Ne.symm h]
    · split
      · rename_i _ e; simp [sfind, e, Ne.symm h]
      · simp only [sfind, ih]

theorem sfind_sdel_same (l : List (Nat × α)) (k : Nat) : sfind (sdel l k) k = none := by
  induction l with
  | nil => rfl
  | cons p t ih =>
    simp only [sdel, List.filter_cons] at ih ⊢
    split
    · rename_i e
      simp only [bne_iff_ne, ne_eq] at e
      simp [sfind, e, ih]
    · exact ih

theorem sfind_sdel_other (l : List (Nat × α)) {k j : Nat} (h : j ≠ k) : sfind (sdel l k) j = sfind l j := by
  induction l with
  | nil => rfl
  | cons p t ih =>
    simp only [sdel, List.filter_cons] at ih ⊢
    split
    · simp only [sfind, ih]
    · rename_i e
      simp only [bne_iff_ne, ne_eq, not_not] at e
      have : ¬ p.1 = j := fun q => h (q.symm.trans e)
      simp only [sfind, this, if_false, ih]

section
variable [DecidableEq α]

/-- A read of the key written gives the value written. -/
@[simp] theorem sget_sset_same (d : α) (l : List (Nat × α)) (k : Nat) (v : α) : sget d (sset d l k v) k = v := by
  unfold sset
  split
  · rename_i e; simp [sget, sfind_sdel_same, e]
  · simp [sget, sfind_sput_same]

/-- A read of another key gives what it gave, whatever the two keys' defaults. -/
theorem sget_sset_other (d e : α) (l : List (Nat × α)) {k j : Nat} (v : α) (h : j ≠ k) :
    sget d (sset e l k v) j = sget d l j := by
  unfold sset
  split
  · simp [sget, sfind_sdel_other l h]
  · simp [sget, sfind_sput_other l v h]

omit [DecidableEq α] in
theorem sput_sput_same (l : List (Nat × α)) (k : Nat) (v w : α) : sput (sput l k v) k w = sput l k w := by
  induction l with
  | nil => simp [sput]
  | cons p t ih =>
    simp only [sput]
    split
    · simp [sput]
    · split
      · simp [sput]
      · rename_i h1 h2; simp only [sput, h1, h2, if_false, ih]

/-- The same value written twice is written once. -/
theorem sset_sset_same (d : α) (l : List (Nat × α)) (k : Nat) (v : α) :
    sset d (sset d l k v) k v = sset d l k v := by
  unfold sset
  split
  · simp [sdel, List.filter_filter]
  · exact sput_sput_same _ _ _ _

/-- A read outside a run gives what it gave. -/
theorem sget_ssetRun_out (d : Nat → α) (e : α) (vs : List α) : ∀ (l : List (Nat × α)) (k j : Nat),
    (j < k ∨ k + vs.length ≤ j) → sget e (ssetRun d l k vs) j = sget e l j := by
  induction vs with
  | nil => intro l k j _; rfl
  | cons v t ih =>
    intro l k j h
    simp only [ssetRun, List.length_cons] at h ⊢
    rw [ih _ _ _ (by omega), sget_sset_other]
    omega

/-- A read inside a run gives the value written there. -/
theorem sget_ssetRun_in (d : Nat → α) (vs : List α) : ∀ (l : List (Nat × α)) (k i : Nat) (h : i < vs.length),
    sget (d (k + i)) (ssetRun d l k vs) (k + i) = vs[i] := by
  induction vs with
  | nil => intro l k i h; simp at h
  | cons v t ih =>
    intro l k i h
    simp only [ssetRun]
    cases i with
    | zero =>
      rw [sget_ssetRun_out _ _ _ _ _ _ (by omega)]
      simp
    | succ i =>
      have := ih (sset (d k) l k v) (k + 1) i (by simpa using h)
      rw [show k + 1 + i = k + (i + 1) by omega] at this
      simpa using this

end

/-! ### The canonical form -/

theorem sascend_weaken {l : List (Nat × α)} {a b : Nat} (h : sascend (some b) l = true) (hab : a ≤ b) :
    sascend (some a) l = true := by
  cases l with
  | nil => rfl
  | cons p t =>
    simp only [sascend, Bool.and_eq_true, decide_eq_true_eq] at h ⊢
    exact ⟨by omega, h.2⟩

theorem sascend_none {l : List (Nat × α)} {b : Option Nat} (h : sascend b l = true) : sascend none l = true := by
  cases l with
  | nil => rfl
  | cons p t =>
    cases b with
    | none => exact h
    | some b => simp only [sascend, Bool.and_eq_true] at h ⊢; exact h.2

theorem sascend_filter (f : Nat × α → Bool) : ∀ (l : List (Nat × α)) (b : Option Nat),
    sascend b l = true → sascend b (l.filter f) = true := by
  intro l
  induction l with
  | nil => intro b _; cases b <;> rfl
  | cons p t ih =>
    intro b h
    simp only [List.filter_cons]
    cases b with
    | none =>
      simp only [sascend] at h
      split
      · simpa [sascend] using ih _ h
      · exact sascend_none (ih _ h)
    | some b =>
      simp only [sascend, Bool.and_eq_true, decide_eq_true_eq] at h
      split
      · simp only [sascend, Bool.and_eq_true, decide_eq_true_eq]; exact ⟨h.1, ih _ h.2⟩
      · exact sascend_weaken (ih _ h.2) (by omega)

theorem sascend_sput (k : Nat) (v : α) : ∀ (l : List (Nat × α)) (b : Option Nat),
    sascend b l = true → (∀ x, b = some x → x < k) → sascend b (sput l k v) = true := by
  intro l
  induction l with
  | nil => intro b _ hk; cases b <;> simp_all [sput, sascend]
  | cons p t ih =>
    intro b h hk
    have tail : ∀ x, p.1 = x → sascend (some x) t = true := by
      intro x hx
      cases b <;> simp only [sascend, Bool.and_eq_true] at h
      · exact hx ▸ h
      · exact hx ▸ h.2
    have head : ∀ x, b = some x → x < p.1 := by
      intro x hx; subst hx
      simp only [sascend, Bool.and_eq_true, decide_eq_true_eq] at h
      exact h.1
    simp only [sput]
    split
    · rename_i e
      cases b <;> simp_all [sascend]
    · split
      · rename_i _ e
        have := tail k e
        cases b <;> simp_all [sascend]
      · rename_i e1 e2
        have := ih (some p.1) (tail _ rfl) (by intro x hx; cases hx; omega)
        cases b <;> simp_all [sascend]

theorem mem_sput {l : List (Nat × α)} {k : Nat} {v : α} {p : Nat × α} (h : p ∈ sput l k v) : p = (k, v) ∨ p ∈ l := by
  induction l with
  | nil => simpa [sput] using h
  | cons q t ih =>
    simp only [sput] at h
    split at h
    · simpa using h
    · split at h
      · rcases List.mem_cons.mp h with h | h
        · exact .inl h
        · exact .inr (List.mem_cons_of_mem _ h)
      · rcases List.mem_cons.mp h with h | h
        · exact .inr (h ▸ List.mem_cons_self)
        · rcases ih h with h | h
          · exact .inl h
          · exact .inr (List.mem_cons_of_mem _ h)

section
variable [DecidableEq α]

theorem swf_nil (d : Nat → α) : swf d [] = true := rfl

/-- Dropping entries keeps the canonical form. -/
theorem swf_filter (d : Nat → α) (f : Nat × α → Bool) {l : List (Nat × α)} (h : swf d l = true) : swf d (l.filter f) = true := by
  simp only [swf, Bool.and_eq_true, List.all_eq_true, decide_eq_true_eq] at h ⊢
  exact ⟨sascend_filter f _ _ h.1, fun p hp => h.2 p (List.mem_filter.mp hp).1⟩

/-- A write keeps the canonical form. -/
theorem swf_sset (d : Nat → α) {l : List (Nat × α)} (k : Nat) (v : α) (h : swf d l = true) : swf d (sset (d k) l k v) = true := by
  unfold sset
  split
  · exact swf_filter d _ h
  · rename_i e
    simp only [swf, Bool.and_eq_true, List.all_eq_true, decide_eq_true_eq] at h ⊢
    refine ⟨sascend_sput k v _ _ h.1 (by simp), fun p hp => ?_⟩
    rcases mem_sput hp with hp | hp
    · subst hp; exact e
    · exact h.2 p hp

/-- A run of writes keeps the canonical form. -/
theorem swf_ssetRun (d : Nat → α) (vs : List α) : ∀ (l : List (Nat × α)) (k : Nat), swf d l = true →
    swf d (ssetRun d l k vs) = true := by
  induction vs with
  | nil => intro l k h; exact h
  | cons v t ih => intro l k h; exact ih _ _ (swf_sset d k v h)

end

end Sys2Proof.Machine
end

