-- ==== Sys2Proof/Laws/State.lean ====
section
/-! SUPPORT. What each of the shared updates of the state leaves alone, one lemma per field per update, and what it sets. -/

namespace Sys2Proof.Machine

/-! ### State.w -/

@[simp] theorem State.w_inForce (s : State) (f : Fld) (v i : Nat) : (s.w f v i).inForce = s.inForce := rfl
@[simp] theorem State.w_now (s : State) (f : Fld) (v i : Nat) : (s.w f v i).now = s.now := rfl
@[simp] theorem State.w_freeCtr (s : State) (f : Fld) (v i : Nat) : (s.w f v i).freeCtr = s.freeCtr := rfl
@[simp] theorem State.w_pins (s : State) (f : Fld) (v i : Nat) : (s.w f v i).pins = s.pins := rfl
@[simp] theorem State.w_cmd (s : State) (f : Fld) (v i : Nat) : (s.w f v i).cmd = s.cmd := rfl
@[simp] theorem State.w_evt (s : State) (f : Fld) (v i : Nat) : (s.w f v i).evt = s.evt := rfl
@[simp] theorem State.w_bake (s : State) (f : Fld) (v i : Nat) : (s.w f v i).bake = s.bake := rfl
@[simp] theorem State.w_start (s : State) (f : Fld) (v i : Nat) : (s.w f v i).start = s.start := rfl
@[simp] theorem State.w_sec (s : State) (f : Fld) (v i : Nat) : (s.w f v i).sec = s.sec := rfl
@[simp] theorem State.w_time (s : State) (f : Fld) (v i : Nat) : (s.w f v i).time = s.time := rfl
@[simp] theorem State.w_mem (s : State) (f : Fld) (v i : Nat) : (s.w f v i).mem = s.mem := rfl
@[simp] theorem State.w_hearth (s : State) (f : Fld) (v i : Nat) : (s.w f v i).hearth = s.hearth := rfl
@[simp] theorem State.w_lane (s : State) (f : Fld) (v i : Nat) : (s.w f v i).lane = s.lane := rfl
@[simp] theorem State.w_link (s : State) (f : Fld) (v i : Nat) : (s.w f v i).link = s.link := rfl
@[simp] theorem State.w_mgr (s : State) (f : Fld) (v i : Nat) : (s.w f v i).mgr = s.mgr := rfl
@[simp] theorem State.w_stream (s : State) (f : Fld) (v i : Nat) : (s.w f v i).stream = s.stream := rfl
@[simp] theorem State.w_dec (s : State) (f : Fld) (v i : Nat) : (s.w f v i).dec = s.dec := rfl
@[simp] theorem State.w_fire (s : State) (f : Fld) (v i : Nat) : (s.w f v i).fire = s.fire := rfl
@[simp] theorem State.w_glaze (s : State) (f : Fld) (v i : Nat) : (s.w f v i).glaze = s.glaze := rfl
@[simp] theorem State.w_cal (s : State) (f : Fld) (v i : Nat) : (s.w f v i).cal = s.cal := rfl
@[simp] theorem State.w_emit_ (s : State) (f : Fld) (v i : Nat) : (s.w f v i).emit_ = s.emit_ := rfl
@[simp] theorem State.w_enc (s : State) (f : Fld) (v i : Nat) : (s.w f v i).enc = s.enc := rfl
@[simp] theorem State.w_eng (s : State) (f : Fld) (v i : Nat) : (s.w f v i).eng = s.eng := rfl
@[simp] theorem State.w_dram (s : State) (f : Fld) (v i : Nat) : (s.w f v i).dram = s.dram := rfl
@[simp] theorem State.w_flash (s : State) (f : Fld) (v i : Nat) : (s.w f v i).flash = s.flash := rfl
@[simp] theorem State.w_out (s : State) (f : Fld) (v i : Nat) : (s.w f v i).out = s.out := rfl
@[simp] theorem State.w_pending (s : State) (f : Fld) (v i : Nat) : (s.w f v i).pending = s.pending := rfl

/-! ### State.wi -/

@[simp] theorem State.wi_inForce (s : State) (f : Fld) (v : Int) (i : Nat) : (s.wi f v i).inForce = s.inForce := rfl
@[simp] theorem State.wi_now (s : State) (f : Fld) (v : Int) (i : Nat) : (s.wi f v i).now = s.now := rfl
@[simp] theorem State.wi_freeCtr (s : State) (f : Fld) (v : Int) (i : Nat) : (s.wi f v i).freeCtr = s.freeCtr := rfl
@[simp] theorem State.wi_pins (s : State) (f : Fld) (v : Int) (i : Nat) : (s.wi f v i).pins = s.pins := rfl
@[simp] theorem State.wi_cmd (s : State) (f : Fld) (v : Int) (i : Nat) : (s.wi f v i).cmd = s.cmd := rfl
@[simp] theorem State.wi_evt (s : State) (f : Fld) (v : Int) (i : Nat) : (s.wi f v i).evt = s.evt := rfl
@[simp] theorem State.wi_bake (s : State) (f : Fld) (v : Int) (i : Nat) : (s.wi f v i).bake = s.bake := rfl
@[simp] theorem State.wi_start (s : State) (f : Fld) (v : Int) (i : Nat) : (s.wi f v i).start = s.start := rfl
@[simp] theorem State.wi_sec (s : State) (f : Fld) (v : Int) (i : Nat) : (s.wi f v i).sec = s.sec := rfl
@[simp] theorem State.wi_time (s : State) (f : Fld) (v : Int) (i : Nat) : (s.wi f v i).time = s.time := rfl
@[simp] theorem State.wi_mem (s : State) (f : Fld) (v : Int) (i : Nat) : (s.wi f v i).mem = s.mem := rfl
@[simp] theorem State.wi_hearth (s : State) (f : Fld) (v : Int) (i : Nat) : (s.wi f v i).hearth = s.hearth := rfl
@[simp] theorem State.wi_lane (s : State) (f : Fld) (v : Int) (i : Nat) : (s.wi f v i).lane = s.lane := rfl
@[simp] theorem State.wi_link (s : State) (f : Fld) (v : Int) (i : Nat) : (s.wi f v i).link = s.link := rfl
@[simp] theorem State.wi_mgr (s : State) (f : Fld) (v : Int) (i : Nat) : (s.wi f v i).mgr = s.mgr := rfl
@[simp] theorem State.wi_stream (s : State) (f : Fld) (v : Int) (i : Nat) : (s.wi f v i).stream = s.stream := rfl
@[simp] theorem State.wi_dec (s : State) (f : Fld) (v : Int) (i : Nat) : (s.wi f v i).dec = s.dec := rfl
@[simp] theorem State.wi_fire (s : State) (f : Fld) (v : Int) (i : Nat) : (s.wi f v i).fire = s.fire := rfl
@[simp] theorem State.wi_glaze (s : State) (f : Fld) (v : Int) (i : Nat) : (s.wi f v i).glaze = s.glaze := rfl
@[simp] theorem State.wi_cal (s : State) (f : Fld) (v : Int) (i : Nat) : (s.wi f v i).cal = s.cal := rfl
@[simp] theorem State.wi_emit_ (s : State) (f : Fld) (v : Int) (i : Nat) : (s.wi f v i).emit_ = s.emit_ := rfl
@[simp] theorem State.wi_enc (s : State) (f : Fld) (v : Int) (i : Nat) : (s.wi f v i).enc = s.enc := rfl
@[simp] theorem State.wi_eng (s : State) (f : Fld) (v : Int) (i : Nat) : (s.wi f v i).eng = s.eng := rfl
@[simp] theorem State.wi_dram (s : State) (f : Fld) (v : Int) (i : Nat) : (s.wi f v i).dram = s.dram := rfl
@[simp] theorem State.wi_flash (s : State) (f : Fld) (v : Int) (i : Nat) : (s.wi f v i).flash = s.flash := rfl
@[simp] theorem State.wi_out (s : State) (f : Fld) (v : Int) (i : Nat) : (s.wi f v i).out = s.out := rfl
@[simp] theorem State.wi_pending (s : State) (f : Fld) (v : Int) (i : Nat) : (s.wi f v i).pending = s.pending := rfl

/-! ### State.ws -/

@[simp] theorem State.ws_inForce (s : State) (l : List (Fld × Nat × Nat)) : (s.ws l).inForce = s.inForce := rfl
@[simp] theorem State.ws_now (s : State) (l : List (Fld × Nat × Nat)) : (s.ws l).now = s.now := rfl
@[simp] theorem State.ws_freeCtr (s : State) (l : List (Fld × Nat × Nat)) : (s.ws l).freeCtr = s.freeCtr := rfl
@[simp] theorem State.ws_pins (s : State) (l : List (Fld × Nat × Nat)) : (s.ws l).pins = s.pins := rfl
@[simp] theorem State.ws_cmd (s : State) (l : List (Fld × Nat × Nat)) : (s.ws l).cmd = s.cmd := rfl
@[simp] theorem State.ws_evt (s : State) (l : List (Fld × Nat × Nat)) : (s.ws l).evt = s.evt := rfl
@[simp] theorem State.ws_bake (s : State) (l : List (Fld × Nat × Nat)) : (s.ws l).bake = s.bake := rfl
@[simp] theorem State.ws_start (s : State) (l : List (Fld × Nat × Nat)) : (s.ws l).start = s.start := rfl
@[simp] theorem State.ws_sec (s : State) (l : List (Fld × Nat × Nat)) : (s.ws l).sec = s.sec := rfl
@[simp] theorem State.ws_time (s : State) (l : List (Fld × Nat × Nat)) : (s.ws l).time = s.time := rfl
@[simp] theorem State.ws_mem (s : State) (l : List (Fld × Nat × Nat)) : (s.ws l).mem = s.mem := rfl
@[simp] theorem State.ws_hearth (s : State) (l : List (Fld × Nat × Nat)) : (s.ws l).hearth = s.hearth := rfl
@[simp] theorem State.ws_lane (s : State) (l : List (Fld × Nat × Nat)) : (s.ws l).lane = s.lane := rfl
@[simp] theorem State.ws_link (s : State) (l : List (Fld × Nat × Nat)) : (s.ws l).link = s.link := rfl
@[simp] theorem State.ws_mgr (s : State) (l : List (Fld × Nat × Nat)) : (s.ws l).mgr = s.mgr := rfl
@[simp] theorem State.ws_stream (s : State) (l : List (Fld × Nat × Nat)) : (s.ws l).stream = s.stream := rfl
@[simp] theorem State.ws_dec (s : State) (l : List (Fld × Nat × Nat)) : (s.ws l).dec = s.dec := rfl
@[simp] theorem State.ws_fire (s : State) (l : List (Fld × Nat × Nat)) : (s.ws l).fire = s.fire := rfl
@[simp] theorem State.ws_glaze (s : State) (l : List (Fld × Nat × Nat)) : (s.ws l).glaze = s.glaze := rfl
@[simp] theorem State.ws_cal (s : State) (l : List (Fld × Nat × Nat)) : (s.ws l).cal = s.cal := rfl
@[simp] theorem State.ws_emit_ (s : State) (l : List (Fld × Nat × Nat)) : (s.ws l).emit_ = s.emit_ := rfl
@[simp] theorem State.ws_enc (s : State) (l : List (Fld × Nat × Nat)) : (s.ws l).enc = s.enc := rfl
@[simp] theorem State.ws_eng (s : State) (l : List (Fld × Nat × Nat)) : (s.ws l).eng = s.eng := rfl
@[simp] theorem State.ws_dram (s : State) (l : List (Fld × Nat × Nat)) : (s.ws l).dram = s.dram := rfl
@[simp] theorem State.ws_flash (s : State) (l : List (Fld × Nat × Nat)) : (s.ws l).flash = s.flash := rfl
@[simp] theorem State.ws_out (s : State) (l : List (Fld × Nat × Nat)) : (s.ws l).out = s.out := rfl
@[simp] theorem State.ws_pending (s : State) (l : List (Fld × Nat × Nat)) : (s.ws l).pending = s.pending := rfl

/-! ### State.count -/

@[simp] theorem State.count_inForce (s : State) (f : Fld) (i n : Nat) : (s.count f i n).inForce = s.inForce := rfl
@[simp] theorem State.count_now (s : State) (f : Fld) (i n : Nat) : (s.count f i n).now = s.now := rfl
@[simp] theorem State.count_freeCtr (s : State) (f : Fld) (i n : Nat) : (s.count f i n).freeCtr = s.freeCtr := rfl
@[simp] theorem State.count_pins (s : State) (f : Fld) (i n : Nat) : (s.count f i n).pins = s.pins := rfl
@[simp] theorem State.count_cmd (s : State) (f : Fld) (i n : Nat) : (s.count f i n).cmd = s.cmd := rfl
@[simp] theorem State.count_evt (s : State) (f : Fld) (i n : Nat) : (s.count f i n).evt = s.evt := rfl
@[simp] theorem State.count_bake (s : State) (f : Fld) (i n : Nat) : (s.count f i n).bake = s.bake := rfl
@[simp] theorem State.count_start (s : State) (f : Fld) (i n : Nat) : (s.count f i n).start = s.start := rfl
@[simp] theorem State.count_sec (s : State) (f : Fld) (i n : Nat) : (s.count f i n).sec = s.sec := rfl
@[simp] theorem State.count_time (s : State) (f : Fld) (i n : Nat) : (s.count f i n).time = s.time := rfl
@[simp] theorem State.count_mem (s : State) (f : Fld) (i n : Nat) : (s.count f i n).mem = s.mem := rfl
@[simp] theorem State.count_hearth (s : State) (f : Fld) (i n : Nat) : (s.count f i n).hearth = s.hearth := rfl
@[simp] theorem State.count_lane (s : State) (f : Fld) (i n : Nat) : (s.count f i n).lane = s.lane := rfl
@[simp] theorem State.count_link (s : State) (f : Fld) (i n : Nat) : (s.count f i n).link = s.link := rfl
@[simp] theorem State.count_mgr (s : State) (f : Fld) (i n : Nat) : (s.count f i n).mgr = s.mgr := rfl
@[simp] theorem State.count_stream (s : State) (f : Fld) (i n : Nat) : (s.count f i n).stream = s.stream := rfl
@[simp] theorem State.count_dec (s : State) (f : Fld) (i n : Nat) : (s.count f i n).dec = s.dec := rfl
@[simp] theorem State.count_fire (s : State) (f : Fld) (i n : Nat) : (s.count f i n).fire = s.fire := rfl
@[simp] theorem State.count_glaze (s : State) (f : Fld) (i n : Nat) : (s.count f i n).glaze = s.glaze := rfl
@[simp] theorem State.count_cal (s : State) (f : Fld) (i n : Nat) : (s.count f i n).cal = s.cal := rfl
@[simp] theorem State.count_emit_ (s : State) (f : Fld) (i n : Nat) : (s.count f i n).emit_ = s.emit_ := rfl
@[simp] theorem State.count_enc (s : State) (f : Fld) (i n : Nat) : (s.count f i n).enc = s.enc := rfl
@[simp] theorem State.count_eng (s : State) (f : Fld) (i n : Nat) : (s.count f i n).eng = s.eng := rfl
@[simp] theorem State.count_dram (s : State) (f : Fld) (i n : Nat) : (s.count f i n).dram = s.dram := rfl
@[simp] theorem State.count_flash (s : State) (f : Fld) (i n : Nat) : (s.count f i n).flash = s.flash := rfl
@[simp] theorem State.count_out (s : State) (f : Fld) (i n : Nat) : (s.count f i n).out = s.out := rfl
@[simp] theorem State.count_pending (s : State) (f : Fld) (i n : Nat) : (s.count f i n).pending = s.pending := rfl

/-! ### State.raise -/

@[simp] theorem State.raise_inForce (s : State) (e d : Nat) : (s.raise e d).inForce = s.inForce := by unfold State.raise State.putEvt; rfl
@[simp] theorem State.raise_now (s : State) (e d : Nat) : (s.raise e d).now = s.now := by unfold State.raise State.putEvt; rfl
@[simp] theorem State.raise_freeCtr (s : State) (e d : Nat) : (s.raise e d).freeCtr = s.freeCtr := by unfold State.raise State.putEvt; rfl
@[simp] theorem State.raise_pins (s : State) (e d : Nat) : (s.raise e d).pins = s.pins := by unfold State.raise State.putEvt; rfl
@[simp] theorem State.raise_cmd (s : State) (e d : Nat) : (s.raise e d).cmd = s.cmd := by unfold State.raise State.putEvt; rfl
@[simp] theorem State.raise_bake (s : State) (e d : Nat) : (s.raise e d).bake = s.bake := by unfold State.raise State.putEvt; rfl
@[simp] theorem State.raise_start (s : State) (e d : Nat) : (s.raise e d).start = s.start := by unfold State.raise State.putEvt; rfl
@[simp] theorem State.raise_sec (s : State) (e d : Nat) : (s.raise e d).sec = s.sec := by unfold State.raise State.putEvt; rfl
@[simp] theorem State.raise_time (s : State) (e d : Nat) : (s.raise e d).time = s.time := by unfold State.raise State.putEvt; rfl
@[simp] theorem State.raise_mem (s : State) (e d : Nat) : (s.raise e d).mem = s.mem := by unfold State.raise State.putEvt; rfl
@[simp] theorem State.raise_hearth (s : State) (e d : Nat) : (s.raise e d).hearth = s.hearth := by unfold State.raise State.putEvt; rfl
@[simp] theorem State.raise_lane (s : State) (e d : Nat) : (s.raise e d).lane = s.lane := by unfold State.raise State.putEvt; rfl
@[simp] theorem State.raise_link (s : State) (e d : Nat) : (s.raise e d).link = s.link := by unfold State.raise State.putEvt; rfl
@[simp] theorem State.raise_mgr (s : State) (e d : Nat) : (s.raise e d).mgr = s.mgr := by unfold State.raise State.putEvt; rfl
@[simp] theorem State.raise_stream (s : State) (e d : Nat) : (s.raise e d).stream = s.stream := by unfold State.raise State.putEvt; rfl
@[simp] theorem State.raise_dec (s : State) (e d : Nat) : (s.raise e d).dec = s.dec := by unfold State.raise State.putEvt; rfl
@[simp] theorem State.raise_fire (s : State) (e d : Nat) : (s.raise e d).fire = s.fire := by unfold State.raise State.putEvt; rfl
@[simp] theorem State.raise_glaze (s : State) (e d : Nat) : (s.raise e d).glaze = s.glaze := by unfold State.raise State.putEvt; rfl
@[simp] theorem State.raise_cal (s : State) (e d : Nat) : (s.raise e d).cal = s.cal := by unfold State.raise State.putEvt; rfl
@[simp] theorem State.raise_emit_ (s : State) (e d : Nat) : (s.raise e d).emit_ = s.emit_ := by unfold State.raise State.putEvt; rfl
@[simp] theorem State.raise_enc (s : State) (e d : Nat) : (s.raise e d).enc = s.enc := by unfold State.raise State.putEvt; rfl
@[simp] theorem State.raise_eng (s : State) (e d : Nat) : (s.raise e d).eng = s.eng := by unfold State.raise State.putEvt; rfl
@[simp] theorem State.raise_dram (s : State) (e d : Nat) : (s.raise e d).dram = s.dram := by unfold State.raise State.putEvt; rfl
@[simp] theorem State.raise_flash (s : State) (e d : Nat) : (s.raise e d).flash = s.flash := by unfold State.raise State.putEvt; rfl
@[simp] theorem State.raise_out (s : State) (e d : Nat) : (s.raise e d).out = s.out := by unfold State.raise State.putEvt; rfl
@[simp] theorem State.raise_pending (s : State) (e d : Nat) : (s.raise e d).pending = s.pending := by unfold State.raise State.putEvt; rfl

/-! ### State.emit -/

@[simp] theorem State.emit_regs (s : State) (k : OutKind) (dst : List Nat) (ws : List Word) : (s.emit k dst ws).regs = s.regs := rfl
@[simp] theorem State.emit_inForce (s : State) (k : OutKind) (dst : List Nat) (ws : List Word) : (s.emit k dst ws).inForce = s.inForce := rfl
@[simp] theorem State.emit_now (s : State) (k : OutKind) (dst : List Nat) (ws : List Word) : (s.emit k dst ws).now = s.now := rfl
@[simp] theorem State.emit_freeCtr (s : State) (k : OutKind) (dst : List Nat) (ws : List Word) : (s.emit k dst ws).freeCtr = s.freeCtr := rfl
@[simp] theorem State.emit_pins (s : State) (k : OutKind) (dst : List Nat) (ws : List Word) : (s.emit k dst ws).pins = s.pins := rfl
@[simp] theorem State.emit_cmd (s : State) (k : OutKind) (dst : List Nat) (ws : List Word) : (s.emit k dst ws).cmd = s.cmd := rfl
@[simp] theorem State.emit_evt (s : State) (k : OutKind) (dst : List Nat) (ws : List Word) : (s.emit k dst ws).evt = s.evt := rfl
@[simp] theorem State.emit_bake (s : State) (k : OutKind) (dst : List Nat) (ws : List Word) : (s.emit k dst ws).bake = s.bake := rfl
@[simp] theorem State.emit_start (s : State) (k : OutKind) (dst : List Nat) (ws : List Word) : (s.emit k dst ws).start = s.start := rfl
@[simp] theorem State.emit_sec (s : State) (k : OutKind) (dst : List Nat) (ws : List Word) : (s.emit k dst ws).sec = s.sec := rfl
@[simp] theorem State.emit_time (s : State) (k : OutKind) (dst : List Nat) (ws : List Word) : (s.emit k dst ws).time = s.time := rfl
@[simp] theorem State.emit_mem (s : State) (k : OutKind) (dst : List Nat) (ws : List Word) : (s.emit k dst ws).mem = s.mem := rfl
@[simp] theorem State.emit_hearth (s : State) (k : OutKind) (dst : List Nat) (ws : List Word) : (s.emit k dst ws).hearth = s.hearth := rfl
@[simp] theorem State.emit_lane (s : State) (k : OutKind) (dst : List Nat) (ws : List Word) : (s.emit k dst ws).lane = s.lane := rfl
@[simp] theorem State.emit_link (s : State) (k : OutKind) (dst : List Nat) (ws : List Word) : (s.emit k dst ws).link = s.link := rfl
@[simp] theorem State.emit_mgr (s : State) (k : OutKind) (dst : List Nat) (ws : List Word) : (s.emit k dst ws).mgr = s.mgr := rfl
@[simp] theorem State.emit_stream (s : State) (k : OutKind) (dst : List Nat) (ws : List Word) : (s.emit k dst ws).stream = s.stream := rfl
@[simp] theorem State.emit_dec (s : State) (k : OutKind) (dst : List Nat) (ws : List Word) : (s.emit k dst ws).dec = s.dec := rfl
@[simp] theorem State.emit_fire (s : State) (k : OutKind) (dst : List Nat) (ws : List Word) : (s.emit k dst ws).fire = s.fire := rfl
@[simp] theorem State.emit_glaze (s : State) (k : OutKind) (dst : List Nat) (ws : List Word) : (s.emit k dst ws).glaze = s.glaze := rfl
@[simp] theorem State.emit_cal (s : State) (k : OutKind) (dst : List Nat) (ws : List Word) : (s.emit k dst ws).cal = s.cal := rfl
@[simp] theorem State.emit_emit_ (s : State) (k : OutKind) (dst : List Nat) (ws : List Word) : (s.emit k dst ws).emit_ = s.emit_ := rfl
@[simp] theorem State.emit_enc (s : State) (k : OutKind) (dst : List Nat) (ws : List Word) : (s.emit k dst ws).enc = s.enc := rfl
@[simp] theorem State.emit_eng (s : State) (k : OutKind) (dst : List Nat) (ws : List Word) : (s.emit k dst ws).eng = s.eng := rfl
@[simp] theorem State.emit_dram (s : State) (k : OutKind) (dst : List Nat) (ws : List Word) : (s.emit k dst ws).dram = s.dram := rfl
@[simp] theorem State.emit_flash (s : State) (k : OutKind) (dst : List Nat) (ws : List Word) : (s.emit k dst ws).flash = s.flash := rfl
@[simp] theorem State.emit_pending (s : State) (k : OutKind) (dst : List Nat) (ws : List Word) : (s.emit k dst ws).pending = s.pending := rfl

/-! ### State.drawn -/

@[simp] theorem State.drawn_regs (s : State) : (s.drawn).regs = s.regs := rfl
@[simp] theorem State.drawn_inForce (s : State) : (s.drawn).inForce = s.inForce := rfl
@[simp] theorem State.drawn_now (s : State) : (s.drawn).now = s.now := rfl
@[simp] theorem State.drawn_pins (s : State) : (s.drawn).pins = s.pins := rfl
@[simp] theorem State.drawn_cmd (s : State) : (s.drawn).cmd = s.cmd := rfl
@[simp] theorem State.drawn_evt (s : State) : (s.drawn).evt = s.evt := rfl
@[simp] theorem State.drawn_bake (s : State) : (s.drawn).bake = s.bake := rfl
@[simp] theorem State.drawn_start (s : State) : (s.drawn).start = s.start := rfl
@[simp] theorem State.drawn_sec (s : State) : (s.drawn).sec = s.sec := rfl
@[simp] theorem State.drawn_time (s : State) : (s.drawn).time = s.time := rfl
@[simp] theorem State.drawn_mem (s : State) : (s.drawn).mem = s.mem := rfl
@[simp] theorem State.drawn_hearth (s : State) : (s.drawn).hearth = s.hearth := rfl
@[simp] theorem State.drawn_lane (s : State) : (s.drawn).lane = s.lane := rfl
@[simp] theorem State.drawn_link (s : State) : (s.drawn).link = s.link := rfl
@[simp] theorem State.drawn_mgr (s : State) : (s.drawn).mgr = s.mgr := rfl
@[simp] theorem State.drawn_stream (s : State) : (s.drawn).stream = s.stream := rfl
@[simp] theorem State.drawn_dec (s : State) : (s.drawn).dec = s.dec := rfl
@[simp] theorem State.drawn_fire (s : State) : (s.drawn).fire = s.fire := rfl
@[simp] theorem State.drawn_glaze (s : State) : (s.drawn).glaze = s.glaze := rfl
@[simp] theorem State.drawn_cal (s : State) : (s.drawn).cal = s.cal := rfl
@[simp] theorem State.drawn_emit_ (s : State) : (s.drawn).emit_ = s.emit_ := rfl
@[simp] theorem State.drawn_enc (s : State) : (s.drawn).enc = s.enc := rfl
@[simp] theorem State.drawn_eng (s : State) : (s.drawn).eng = s.eng := rfl
@[simp] theorem State.drawn_dram (s : State) : (s.drawn).dram = s.dram := rfl
@[simp] theorem State.drawn_flash (s : State) : (s.drawn).flash = s.flash := rfl
@[simp] theorem State.drawn_out (s : State) : (s.drawn).out = s.out := rfl
@[simp] theorem State.drawn_pending (s : State) : (s.drawn).pending = s.pending := rfl

/-! ### State.pass -/

@[simp] theorem State.pass_regs (s : State) (dt : Nat) : (s.pass dt).regs = s.regs := rfl
@[simp] theorem State.pass_inForce (s : State) (dt : Nat) : (s.pass dt).inForce = s.inForce := rfl
@[simp] theorem State.pass_freeCtr (s : State) (dt : Nat) : (s.pass dt).freeCtr = s.freeCtr := rfl
@[simp] theorem State.pass_pins (s : State) (dt : Nat) : (s.pass dt).pins = s.pins := rfl
@[simp] theorem State.pass_cmd (s : State) (dt : Nat) : (s.pass dt).cmd = s.cmd := rfl
@[simp] theorem State.pass_evt (s : State) (dt : Nat) : (s.pass dt).evt = s.evt := rfl
@[simp] theorem State.pass_bake (s : State) (dt : Nat) : (s.pass dt).bake = s.bake := rfl
@[simp] theorem State.pass_start (s : State) (dt : Nat) : (s.pass dt).start = s.start := rfl
@[simp] theorem State.pass_mem (s : State) (dt : Nat) : (s.pass dt).mem = s.mem := rfl
@[simp] theorem State.pass_hearth (s : State) (dt : Nat) : (s.pass dt).hearth = s.hearth := rfl
@[simp] theorem State.pass_lane (s : State) (dt : Nat) : (s.pass dt).lane = s.lane := rfl
@[simp] theorem State.pass_link (s : State) (dt : Nat) : (s.pass dt).link = s.link := rfl
@[simp] theorem State.pass_mgr (s : State) (dt : Nat) : (s.pass dt).mgr = s.mgr := rfl
@[simp] theorem State.pass_stream (s : State) (dt : Nat) : (s.pass dt).stream = s.stream := rfl
@[simp] theorem State.pass_dec (s : State) (dt : Nat) : (s.pass dt).dec = s.dec := rfl
@[simp] theorem State.pass_fire (s : State) (dt : Nat) : (s.pass dt).fire = s.fire := rfl
@[simp] theorem State.pass_glaze (s : State) (dt : Nat) : (s.pass dt).glaze = s.glaze := rfl
@[simp] theorem State.pass_cal (s : State) (dt : Nat) : (s.pass dt).cal = s.cal := rfl
@[simp] theorem State.pass_emit_ (s : State) (dt : Nat) : (s.pass dt).emit_ = s.emit_ := rfl
@[simp] theorem State.pass_enc (s : State) (dt : Nat) : (s.pass dt).enc = s.enc := rfl
@[simp] theorem State.pass_eng (s : State) (dt : Nat) : (s.pass dt).eng = s.eng := rfl
@[simp] theorem State.pass_dram (s : State) (dt : Nat) : (s.pass dt).dram = s.dram := rfl
@[simp] theorem State.pass_flash (s : State) (dt : Nat) : (s.pass dt).flash = s.flash := rfl
@[simp] theorem State.pass_pending (s : State) (dt : Nat) : (s.pass dt).pending = s.pending := rfl

/-! ### State.goto -/

@[simp] theorem State.goto_regs (s : State) (t : Int) : (s.goto t).regs = s.regs := rfl
@[simp] theorem State.goto_inForce (s : State) (t : Int) : (s.goto t).inForce = s.inForce := rfl
@[simp] theorem State.goto_freeCtr (s : State) (t : Int) : (s.goto t).freeCtr = s.freeCtr := rfl
@[simp] theorem State.goto_pins (s : State) (t : Int) : (s.goto t).pins = s.pins := rfl
@[simp] theorem State.goto_cmd (s : State) (t : Int) : (s.goto t).cmd = s.cmd := rfl
@[simp] theorem State.goto_evt (s : State) (t : Int) : (s.goto t).evt = s.evt := rfl
@[simp] theorem State.goto_bake (s : State) (t : Int) : (s.goto t).bake = s.bake := rfl
@[simp] theorem State.goto_start (s : State) (t : Int) : (s.goto t).start = s.start := rfl
@[simp] theorem State.goto_mem (s : State) (t : Int) : (s.goto t).mem = s.mem := rfl
@[simp] theorem State.goto_hearth (s : State) (t : Int) : (s.goto t).hearth = s.hearth := rfl
@[simp] theorem State.goto_lane (s : State) (t : Int) : (s.goto t).lane = s.lane := rfl
@[simp] theorem State.goto_link (s : State) (t : Int) : (s.goto t).link = s.link := rfl
@[simp] theorem State.goto_mgr (s : State) (t : Int) : (s.goto t).mgr = s.mgr := rfl
@[simp] theorem State.goto_stream (s : State) (t : Int) : (s.goto t).stream = s.stream := rfl
@[simp] theorem State.goto_dec (s : State) (t : Int) : (s.goto t).dec = s.dec := rfl
@[simp] theorem State.goto_fire (s : State) (t : Int) : (s.goto t).fire = s.fire := rfl
@[simp] theorem State.goto_glaze (s : State) (t : Int) : (s.goto t).glaze = s.glaze := rfl
@[simp] theorem State.goto_cal (s : State) (t : Int) : (s.goto t).cal = s.cal := rfl
@[simp] theorem State.goto_emit_ (s : State) (t : Int) : (s.goto t).emit_ = s.emit_ := rfl
@[simp] theorem State.goto_enc (s : State) (t : Int) : (s.goto t).enc = s.enc := rfl
@[simp] theorem State.goto_eng (s : State) (t : Int) : (s.goto t).eng = s.eng := rfl
@[simp] theorem State.goto_dram (s : State) (t : Int) : (s.goto t).dram = s.dram := rfl
@[simp] theorem State.goto_flash (s : State) (t : Int) : (s.goto t).flash = s.flash := rfl
@[simp] theorem State.goto_pending (s : State) (t : Int) : (s.goto t).pending = s.pending := rfl

/-! ### State.gotoNow -/

@[simp] theorem State.gotoNow_regs (s : State) (n : Nat) : (s.gotoNow n).regs = s.regs := rfl
@[simp] theorem State.gotoNow_inForce (s : State) (n : Nat) : (s.gotoNow n).inForce = s.inForce := rfl
@[simp] theorem State.gotoNow_freeCtr (s : State) (n : Nat) : (s.gotoNow n).freeCtr = s.freeCtr := rfl
@[simp] theorem State.gotoNow_pins (s : State) (n : Nat) : (s.gotoNow n).pins = s.pins := rfl
@[simp] theorem State.gotoNow_cmd (s : State) (n : Nat) : (s.gotoNow n).cmd = s.cmd := rfl
@[simp] theorem State.gotoNow_evt (s : State) (n : Nat) : (s.gotoNow n).evt = s.evt := rfl
@[simp] theorem State.gotoNow_bake (s : State) (n : Nat) : (s.gotoNow n).bake = s.bake := rfl
@[simp] theorem State.gotoNow_start (s : State) (n : Nat) : (s.gotoNow n).start = s.start := rfl
@[simp] theorem State.gotoNow_mem (s : State) (n : Nat) : (s.gotoNow n).mem = s.mem := rfl
@[simp] theorem State.gotoNow_hearth (s : State) (n : Nat) : (s.gotoNow n).hearth = s.hearth := rfl
@[simp] theorem State.gotoNow_lane (s : State) (n : Nat) : (s.gotoNow n).lane = s.lane := rfl
@[simp] theorem State.gotoNow_link (s : State) (n : Nat) : (s.gotoNow n).link = s.link := rfl
@[simp] theorem State.gotoNow_mgr (s : State) (n : Nat) : (s.gotoNow n).mgr = s.mgr := rfl
@[simp] theorem State.gotoNow_stream (s : State) (n : Nat) : (s.gotoNow n).stream = s.stream := rfl
@[simp] theorem State.gotoNow_dec (s : State) (n : Nat) : (s.gotoNow n).dec = s.dec := rfl
@[simp] theorem State.gotoNow_fire (s : State) (n : Nat) : (s.gotoNow n).fire = s.fire := rfl
@[simp] theorem State.gotoNow_glaze (s : State) (n : Nat) : (s.gotoNow n).glaze = s.glaze := rfl
@[simp] theorem State.gotoNow_cal (s : State) (n : Nat) : (s.gotoNow n).cal = s.cal := rfl
@[simp] theorem State.gotoNow_emit_ (s : State) (n : Nat) : (s.gotoNow n).emit_ = s.emit_ := rfl
@[simp] theorem State.gotoNow_enc (s : State) (n : Nat) : (s.gotoNow n).enc = s.enc := rfl
@[simp] theorem State.gotoNow_eng (s : State) (n : Nat) : (s.gotoNow n).eng = s.eng := rfl
@[simp] theorem State.gotoNow_dram (s : State) (n : Nat) : (s.gotoNow n).dram = s.dram := rfl
@[simp] theorem State.gotoNow_flash (s : State) (n : Nat) : (s.gotoNow n).flash = s.flash := rfl
@[simp] theorem State.gotoNow_pending (s : State) (n : Nat) : (s.gotoNow n).pending = s.pending := rfl

/-! ### What they set -/

@[simp] theorem State.w_regs (s : State) (f : Fld) (v i : Nat) : (s.w f v i).regs = rset s.regs f i v := rfl
@[simp] theorem State.wi_regs (s : State) (f : Fld) (v : Int) (i : Nat) : (s.wi f v i).regs = rset s.regs f i (twos f.width v) := rfl
@[simp] theorem State.ws_regs (s : State) (l : List (Fld × Nat × Nat)) : (s.ws l).regs = rsets s.regs l := rfl
@[simp] theorem State.count_regs (s : State) (f : Fld) (i n : Nat) : (s.count f i n).regs = rcount s.regs f i n := rfl
@[simp] theorem State.pass_now (s : State) (dt : Nat) : (s.pass dt).now = s.now + dt := rfl
@[simp] theorem State.pass_out (s : State) (dt : Nat) : (s.pass dt).out = [] := rfl
@[simp] theorem State.emit_out (s : State) (k : OutKind) (dst : List Nat) (ws : List Word) :
    (s.emit k dst ws).out = s.out ++ [⟨k, dst, ws⟩] := rfl
@[simp] theorem State.drawn_freeCtr (s : State) : s.drawn.freeCtr = s.freeCtr + 1 := rfl

/-- Time never goes back while it passes to an instant. -/
theorem State.gotoNow_now (s : State) (n : Nat) : (s.gotoNow n).now = max s.now n := by
  simp only [State.gotoNow, State.pass_now]; omega

theorem State.goto_now (s : State) (t : Int) : s.now ≤ (s.goto t).now := by
  simp [State.goto]

/-! ### Conditional and repeated events -/

/-- An event raised under a condition is raised or not. -/
theorem State.raiseIf_cases (s : State) (c : Bool) (e d : Nat) :
    s.raiseIf c e d = s ∨ s.raiseIf c e d = s.raise e d := by
  cases c <;> simp only [State.raiseIf] <;> simp

@[simp] theorem State.raiseIf_inForce (s : State) (c : Bool) (e d : Nat) : (s.raiseIf c e d).inForce = s.inForce := by
  cases c
  · rfl
  · exact State.raise_inForce s e d

@[simp] theorem State.raises_inForce (l : List (Nat × Nat)) : ∀ s : State, (s.raises l).inForce = s.inForce := by
  induction l with
  | nil => intro s; rfl
  | cons p t ih => intro s; exact (ih _).trans (State.raise_inForce s _ _)

@[simp] theorem State.raiseIf_now (s : State) (c : Bool) (e d : Nat) : (s.raiseIf c e d).now = s.now := by
  cases c
  · rfl
  · exact State.raise_now s e d

@[simp] theorem State.raises_now (l : List (Nat × Nat)) : ∀ s : State, (s.raises l).now = s.now := by
  induction l with
  | nil => intro s; rfl
  | cons p t ih => intro s; exact (ih _).trans (State.raise_now s _ _)

@[simp] theorem State.raiseIf_freeCtr (s : State) (c : Bool) (e d : Nat) : (s.raiseIf c e d).freeCtr = s.freeCtr := by
  cases c
  · rfl
  · exact State.raise_freeCtr s e d

@[simp] theorem State.raises_freeCtr (l : List (Nat × Nat)) : ∀ s : State, (s.raises l).freeCtr = s.freeCtr := by
  induction l with
  | nil => intro s; rfl
  | cons p t ih => intro s; exact (ih _).trans (State.raise_freeCtr s _ _)

@[simp] theorem State.raiseIf_pins (s : State) (c : Bool) (e d : Nat) : (s.raiseIf c e d).pins = s.pins := by
  cases c
  · rfl
  · exact State.raise_pins s e d

@[simp] theorem State.raises_pins (l : List (Nat × Nat)) : ∀ s : State, (s.raises l).pins = s.pins := by
  induction l with
  | nil => intro s; rfl
  | cons p t ih => intro s; exact (ih _).trans (State.raise_pins s _ _)

@[simp] theorem State.raiseIf_cmd (s : State) (c : Bool) (e d : Nat) : (s.raiseIf c e d).cmd = s.cmd := by
  cases c
  · rfl
  · exact State.raise_cmd s e d

@[simp] theorem State.raises_cmd (l : List (Nat × Nat)) : ∀ s : State, (s.raises l).cmd = s.cmd := by
  induction l with
  | nil => intro s; rfl
  | cons p t ih => intro s; exact (ih _).trans (State.raise_cmd s _ _)

@[simp] theorem State.raiseIf_bake (s : State) (c : Bool) (e d : Nat) : (s.raiseIf c e d).bake = s.bake := by
  cases c
  · rfl
  · exact State.raise_bake s e d

@[simp] theorem State.raises_bake (l : List (Nat × Nat)) : ∀ s : State, (s.raises l).bake = s.bake := by
  induction l with
  | nil => intro s; rfl
  | cons p t ih => intro s; exact (ih _).trans (State.raise_bake s _ _)

@[simp] theorem State.raiseIf_start (s : State) (c : Bool) (e d : Nat) : (s.raiseIf c e d).start = s.start := by
  cases c
  · rfl
  · exact State.raise_start s e d

@[simp] theorem State.raises_start (l : List (Nat × Nat)) : ∀ s : State, (s.raises l).start = s.start := by
  induction l with
  | nil => intro s; rfl
  | cons p t ih => intro s; exact (ih _).trans (State.raise_start s _ _)

@[simp] theorem State.raiseIf_sec (s : State) (c : Bool) (e d : Nat) : (s.raiseIf c e d).sec = s.sec := by
  cases c
  · rfl
  · exact State.raise_sec s e d

@[simp] theorem State.raises_sec (l : List (Nat × Nat)) : ∀ s : State, (s.raises l).sec = s.sec := by
  induction l with
  | nil => intro s; rfl
  | cons p t ih => intro s; exact (ih _).trans (State.raise_sec s _ _)

@[simp] theorem State.raiseIf_time (s : State) (c : Bool) (e d : Nat) : (s.raiseIf c e d).time = s.time := by
  cases c
  · rfl
  · exact State.raise_time s e d

@[simp] theorem State.raises_time (l : List (Nat × Nat)) : ∀ s : State, (s.raises l).time = s.time := by
  induction l with
  | nil => intro s; rfl
  | cons p t ih => intro s; exact (ih _).trans (State.raise_time s _ _)

@[simp] theorem State.raiseIf_mem (s : State) (c : Bool) (e d : Nat) : (s.raiseIf c e d).mem = s.mem := by
  cases c
  · rfl
  · exact State.raise_mem s e d

@[simp] theorem State.raises_mem (l : List (Nat × Nat)) : ∀ s : State, (s.raises l).mem = s.mem := by
  induction l with
  | nil => intro s; rfl
  | cons p t ih => intro s; exact (ih _).trans (State.raise_mem s _ _)

@[simp] theorem State.raiseIf_hearth (s : State) (c : Bool) (e d : Nat) : (s.raiseIf c e d).hearth = s.hearth := by
  cases c
  · rfl
  · exact State.raise_hearth s e d

@[simp] theorem State.raises_hearth (l : List (Nat × Nat)) : ∀ s : State, (s.raises l).hearth = s.hearth := by
  induction l with
  | nil => intro s; rfl
  | cons p t ih => intro s; exact (ih _).trans (State.raise_hearth s _ _)

@[simp] theorem State.raiseIf_lane (s : State) (c : Bool) (e d : Nat) : (s.raiseIf c e d).lane = s.lane := by
  cases c
  · rfl
  · exact State.raise_lane s e d

@[simp] theorem State.raises_lane (l : List (Nat × Nat)) : ∀ s : State, (s.raises l).lane = s.lane := by
  induction l with
  | nil => intro s; rfl
  | cons p t ih => intro s; exact (ih _).trans (State.raise_lane s _ _)

@[simp] theorem State.raiseIf_link (s : State) (c : Bool) (e d : Nat) : (s.raiseIf c e d).link = s.link := by
  cases c
  · rfl
  · exact State.raise_link s e d

@[simp] theorem State.raises_link (l : List (Nat × Nat)) : ∀ s : State, (s.raises l).link = s.link := by
  induction l with
  | nil => intro s; rfl
  | cons p t ih => intro s; exact (ih _).trans (State.raise_link s _ _)

@[simp] theorem State.raiseIf_mgr (s : State) (c : Bool) (e d : Nat) : (s.raiseIf c e d).mgr = s.mgr := by
  cases c
  · rfl
  · exact State.raise_mgr s e d

@[simp] theorem State.raises_mgr (l : List (Nat × Nat)) : ∀ s : State, (s.raises l).mgr = s.mgr := by
  induction l with
  | nil => intro s; rfl
  | cons p t ih => intro s; exact (ih _).trans (State.raise_mgr s _ _)

@[simp] theorem State.raiseIf_stream (s : State) (c : Bool) (e d : Nat) : (s.raiseIf c e d).stream = s.stream := by
  cases c
  · rfl
  · exact State.raise_stream s e d

@[simp] theorem State.raises_stream (l : List (Nat × Nat)) : ∀ s : State, (s.raises l).stream = s.stream := by
  induction l with
  | nil => intro s; rfl
  | cons p t ih => intro s; exact (ih _).trans (State.raise_stream s _ _)

@[simp] theorem State.raiseIf_dec (s : State) (c : Bool) (e d : Nat) : (s.raiseIf c e d).dec = s.dec := by
  cases c
  · rfl
  · exact State.raise_dec s e d

@[simp] theorem State.raises_dec (l : List (Nat × Nat)) : ∀ s : State, (s.raises l).dec = s.dec := by
  induction l with
  | nil => intro s; rfl
  | cons p t ih => intro s; exact (ih _).trans (State.raise_dec s _ _)

@[simp] theorem State.raiseIf_fire (s : State) (c : Bool) (e d : Nat) : (s.raiseIf c e d).fire = s.fire := by
  cases c
  · rfl
  · exact State.raise_fire s e d

@[simp] theorem State.raises_fire (l : List (Nat × Nat)) : ∀ s : State, (s.raises l).fire = s.fire := by
  induction l with
  | nil => intro s; rfl
  | cons p t ih => intro s; exact (ih _).trans (State.raise_fire s _ _)

@[simp] theorem State.raiseIf_glaze (s : State) (c : Bool) (e d : Nat) : (s.raiseIf c e d).glaze = s.glaze := by
  cases c
  · rfl
  · exact State.raise_glaze s e d

@[simp] theorem State.raises_glaze (l : List (Nat × Nat)) : ∀ s : State, (s.raises l).glaze = s.glaze := by
  induction l with
  | nil => intro s; rfl
  | cons p t ih => intro s; exact (ih _).trans (State.raise_glaze s _ _)

@[simp] theorem State.raiseIf_cal (s : State) (c : Bool) (e d : Nat) : (s.raiseIf c e d).cal = s.cal := by
  cases c
  · rfl
  · exact State.raise_cal s e d

@[simp] theorem State.raises_cal (l : List (Nat × Nat)) : ∀ s : State, (s.raises l).cal = s.cal := by
  induction l with
  | nil => intro s; rfl
  | cons p t ih => intro s; exact (ih _).trans (State.raise_cal s _ _)

@[simp] theorem State.raiseIf_emit_ (s : State) (c : Bool) (e d : Nat) : (s.raiseIf c e d).emit_ = s.emit_ := by
  cases c
  · rfl
  · exact State.raise_emit_ s e d

@[simp] theorem State.raises_emit_ (l : List (Nat × Nat)) : ∀ s : State, (s.raises l).emit_ = s.emit_ := by
  induction l with
  | nil => intro s; rfl
  | cons p t ih => intro s; exact (ih _).trans (State.raise_emit_ s _ _)

@[simp] theorem State.raiseIf_enc (s : State) (c : Bool) (e d : Nat) : (s.raiseIf c e d).enc = s.enc := by
  cases c
  · rfl
  · exact State.raise_enc s e d

@[simp] theorem State.raises_enc (l : List (Nat × Nat)) : ∀ s : State, (s.raises l).enc = s.enc := by
  induction l with
  | nil => intro s; rfl
  | cons p t ih => intro s; exact (ih _).trans (State.raise_enc s _ _)

@[simp] theorem State.raiseIf_eng (s : State) (c : Bool) (e d : Nat) : (s.raiseIf c e d).eng = s.eng := by
  cases c
  · rfl
  · exact State.raise_eng s e d

@[simp] theorem State.raises_eng (l : List (Nat × Nat)) : ∀ s : State, (s.raises l).eng = s.eng := by
  induction l with
  | nil => intro s; rfl
  | cons p t ih => intro s; exact (ih _).trans (State.raise_eng s _ _)

@[simp] theorem State.raiseIf_dram (s : State) (c : Bool) (e d : Nat) : (s.raiseIf c e d).dram = s.dram := by
  cases c
  · rfl
  · exact State.raise_dram s e d

@[simp] theorem State.raises_dram (l : List (Nat × Nat)) : ∀ s : State, (s.raises l).dram = s.dram := by
  induction l with
  | nil => intro s; rfl
  | cons p t ih => intro s; exact (ih _).trans (State.raise_dram s _ _)

@[simp] theorem State.raiseIf_flash (s : State) (c : Bool) (e d : Nat) : (s.raiseIf c e d).flash = s.flash := by
  cases c
  · rfl
  · exact State.raise_flash s e d

@[simp] theorem State.raises_flash (l : List (Nat × Nat)) : ∀ s : State, (s.raises l).flash = s.flash := by
  induction l with
  | nil => intro s; rfl
  | cons p t ih => intro s; exact (ih _).trans (State.raise_flash s _ _)

@[simp] theorem State.raiseIf_out (s : State) (c : Bool) (e d : Nat) : (s.raiseIf c e d).out = s.out := by
  cases c
  · rfl
  · exact State.raise_out s e d

@[simp] theorem State.raises_out (l : List (Nat × Nat)) : ∀ s : State, (s.raises l).out = s.out := by
  induction l with
  | nil => intro s; rfl
  | cons p t ih => intro s; exact (ih _).trans (State.raise_out s _ _)

@[simp] theorem State.raiseIf_pending (s : State) (c : Bool) (e d : Nat) : (s.raiseIf c e d).pending = s.pending := by
  cases c
  · rfl
  · exact State.raise_pending s e d

@[simp] theorem State.raises_pending (l : List (Nat × Nat)) : ∀ s : State, (s.raises l).pending = s.pending := by
  induction l with
  | nil => intro s; rfl
  | cons p t ih => intro s; exact (ih _).trans (State.raise_pending s _ _)

end Sys2Proof.Machine
end

