-- ==== Sys2Proof/Laws/Regs.lean ====
section
/-! SUPPORT. The laws of the register file: what a field reads after a write to it, and that a write to another key leaves it. -/

namespace Sys2Proof.Machine

/-- A field reads what was written to it, held to its width. -/
@[simp] theorem rget_rset_same (r : RegFile) (f : Fld) (i v : Nat) : rget (rset r f i v) f i = v % 2 ^ f.width := by
  simp [rget, rset]

/-- A write to one key leaves every other key. -/
theorem rget_rset_other (r : RegFile) (f g : Fld) (i j v : Nat) (h : g.key j ≠ f.key i) :
    rget (rset r f i v) g j = rget r g j := by
  simp only [rget, rset]
  rw [sget_sset_other _ _ _ _ h]

/-- An unlisted file reads reset values (R9). -/
@[simp] theorem rget_nil (f : Fld) (i : Nat) : rget [] f i = f.rst i % 2 ^ f.width := rfl

/-- A field reads a value of its width. -/
theorem rget_lt (r : RegFile) (f : Fld) (i : Nat) : rget r f i < 2 ^ f.width := Nat.mod_lt _ (Nat.two_pow_pos _)

/-- Two elements of a field, or two fields, at different words have different keys. -/
theorem key_ne_of_at {f g : Fld} {i j : Nat} (hf : f.lo < 64) (hg : g.lo < 64) (h : g.at j ≠ f.at i) : g.key j ≠ f.key i := by
  simp only [Fld.key, fieldKey]
  omega

/-- Two fields of different lowest bits have different keys. -/
theorem key_ne_of_lo {f g : Fld} {i j : Nat} (hf : f.lo < 64) (hg : g.lo < 64) (h : g.lo ≠ f.lo) : g.key j ≠ f.key i := by
  simp only [Fld.key, fieldKey]
  omega

theorem rcount_same (r : RegFile) (f : Fld) (i n : Nat) :
    rget (rcount r f i n) f i = satN (2 ^ f.width - 1) (rget r f i + n) % 2 ^ f.width := by
  simp [rcount]

theorem rget_rcount_other (r : RegFile) (f g : Fld) (i j n : Nat) (h : g.key j ≠ f.key i) :
    rget (rcount r f i n) g j = rget r g j := rget_rset_other _ _ _ _ _ _ h

@[simp] theorem rsets_nil (r : RegFile) : rsets r [] = r := rfl
@[simp] theorem rsets_cons (r : RegFile) (p : Fld × Nat × Nat) (t : List (Fld × Nat × Nat)) :
    rsets r (p :: t) = rsets (rset r p.1 p.2.1 p.2.2) t := rfl

/-- Writes to other keys leave a field. -/
theorem rget_rsets_other (g : Fld) (j : Nat) : ∀ (l : List (Fld × Nat × Nat)) (r : RegFile),
    (∀ p ∈ l, g.key j ≠ p.1.key p.2.1) → rget (rsets r l) g j = rget r g j := by
  intro l
  induction l with
  | nil => intro r _; rfl
  | cons p t ih =>
    intro r h
    rw [rsets_cons, ih _ (fun q hq => h q (List.mem_cons_of_mem _ hq)),
      rget_rset_other _ _ _ _ _ _ (h p List.mem_cons_self)]

/-! ### The same for the state -/

theorem State.w_same (s : State) (f : Fld) (v i : Nat) : (s.w f v i).r f i = v % 2 ^ f.width := by
  simp [State.r]

theorem State.w_other (s : State) (f g : Fld) (v i j : Nat) (h : g.key j ≠ f.key i) : (s.w f v i).r g j = s.r g j := by
  simp only [State.r, State.w_regs]
  exact rget_rset_other _ _ _ _ _ _ h

theorem State.ws_other (s : State) (g : Fld) (j : Nat) (l : List (Fld × Nat × Nat))
    (h : ∀ p ∈ l, g.key j ≠ p.1.key p.2.1) : (s.ws l).r g j = s.r g j := by
  simp only [State.r, State.ws_regs]
  exact rget_rsets_other g j l _ h

/-- The state's registers read alike where the files are alike. -/
theorem State.r_congr {s t : State} (h : s.regs = t.regs) (f : Fld) (i : Nat) : s.r f i = t.r f i := by
  simp only [State.r, h]

@[simp] theorem State.pass_r (s : State) (dt : Nat) (f : Fld) (i : Nat) : (s.pass dt).r f i = s.r f i := rfl
@[simp] theorem State.goto_r (s : State) (t : Int) (f : Fld) (i : Nat) : (s.goto t).r f i = s.r f i := rfl
@[simp] theorem State.gotoNow_r (s : State) (n : Nat) (f : Fld) (i : Nat) : (s.gotoNow n).r f i = s.r f i := rfl
@[simp] theorem State.pass_rb (s : State) (dt : Nat) (f : Fld) (i : Nat) : (s.pass dt).rb f i = s.rb f i := rfl
@[simp] theorem State.goto_rb (s : State) (t : Int) (f : Fld) (i : Nat) : (s.goto t).rb f i = s.rb f i := rfl
@[simp] theorem State.gotoNow_rb (s : State) (n : Nat) (f : Fld) (i : Nat) : (s.gotoNow n).rb f i = s.rb f i := rfl

end Sys2Proof.Machine
end

