-- ==== Sys2Proof/Laws/Event.lean ====
section
/-! SUPPORT. The laws of the event fabric (R432–R437): an occurrence sets its latch, keeps every latch that is set, and touches no
register but the fabric's own. -/

namespace Sys2Proof.Machine

/-- The key of a register field that an occurrence may change: LATCH and COUNT of an event, SEQ and MISS, DROPPED, LSEQ. -/
def evtKey (k : Nat) : Bool :=
  k = 0x130 * 64 + 6 || k = 0x130 * 64 + 22 || k = 0x131 * 64 || k = 0x132 * 64
  || (0x1000 * 64 ≤ k && k < 0x1400 * 64 && (k % 64 = 35 || k % 64 = 19))

theorem evtKey_of_high {k : Nat} (h : 0x1400 * 64 ≤ k) : evtKey k = false := by
  simp only [evtKey, Bool.or_eq_false_iff, Bool.and_eq_false_iff, decide_eq_false_iff_not]
  omega

theorem evtKey_latch (e : Nat) (h : e < 1024) : evtKey (Reg.MGMT_EVT_LATCH.key e) = true := by
  simp [evtKey, Fld.key, Fld.at, fieldKey, Reg.MGMT_EVT_LATCH]
  omega

theorem evtKey_count (e : Nat) (h : e < 1024) : evtKey (Reg.MGMT_EVT_COUNT.key e) = true := by
  simp [evtKey, Fld.key, Fld.at, fieldKey, Reg.MGMT_EVT_COUNT]
  omega

/-- What holds of the file after an occurrence's first two writes and is kept by every write of the fabric but a latch's own holds
of the file after the occurrence. -/
theorem occur_ind (P : RegFile → Prop) (h1 : ∀ r v, P r → P (rset r Reg.MGMT_LOG_0132_LSEQ 0 v))
    (h2 : ∀ r v, P r → P (rset r Reg.MGMT_LOG_0131_DROPPED 0 v)) (h3 : ∀ r v, P r → P (rset r Reg.MGMT_EVT_MISS_SEQ 0 v))
    (h4 : ∀ r v, P r → P (rset r Reg.MGMT_EVT_MISS_MISS 0 v))
    (h5 : ∀ r e, e < 1024 → P r → P (rset r Reg.MGMT_EVT_LATCH e 1))
    (h6 : ∀ r e v, e < 1024 → P r → P (rset r Reg.MGMT_EVT_COUNT e v)) (a : EvtAt) :
    ∀ (n e d : Nat) (p : RegFile × EvtState), e < 1024 → P p.1 → P (occur n a e d p).1 := by
  intro n
  induction n with
  | zero => intro e d p _ h; exact h
  | succ n ih =>
    intro e d p he h
    have hr : P (occCount p.1 e) := h6 _ _ _ he (h5 _ _ he h)
    have hl : ∀ r v, P r → P (occLog a e r v).1 := by
      intro r v hr
      unfold occLog
      split
      · split
        · exact h1 _ _ hr
        · exact h2 _ _ hr
      · exact hr
    have hs : ∀ r v, P r → P (occSend a e d r v).1 := by
      intro r v hr
      unfold occSend
      split
      · split
        · exact hr
        · exact h3 _ _ hr
      · exact hr
    have hm : ∀ b c r, P r → P (occMiss b c r).1 := by
      intro b c r hr
      simp only [occMiss]
      split
      · exact h4 _ _ hr
      · exact hr
    have h0 : P (occOnce a e d p).regs := hm _ _ _ (hs _ _ (hl _ _ hr))
    rw [occur]
    split
    · refine ih _ _ _ (by omega) ?_
      split
      · exact ih _ _ _ (by omega) h0
      · exact h0
    · split
      · exact ih _ _ _ (by omega) h0
      · exact h0

/-- An occurrence leaves every register that is not the fabric's own. -/
theorem occur_other (n : Nat) (a : EvtAt) (e d : Nat) (p : RegFile × EvtState) (f : Fld) (i : Nat) (he : e < 1024)
    (h : evtKey (f.key i) = false) : rget (occur n a e d p).1 f i = rget p.1 f i := by
  refine occur_ind (fun r => rget r f i = rget p.1 f i) ?_ ?_ ?_ ?_ ?_ ?_ a n e d p he rfl
  all_goals intro r
  · intro v hr; rw [rget_rset_other, hr]; intro q; rw [q] at h; exact absurd h (by decide)
  · intro v hr; rw [rget_rset_other, hr]; intro q; rw [q] at h; exact absurd h (by decide)
  · intro v hr; rw [rget_rset_other, hr]; intro q; rw [q] at h; exact absurd h (by decide)
  · intro v hr; rw [rget_rset_other, hr]; intro q; rw [q] at h; exact absurd h (by decide)
  · intro x hx hr; rw [rget_rset_other, hr]; intro q; rw [q, evtKey_latch x hx] at h; exact absurd h (by decide)
  · intro x v hx hr; rw [rget_rset_other, hr]; intro q; rw [q, evtKey_count x hx] at h; exact absurd h (by decide)

/-- A latch that is set stays set through an occurrence. -/
theorem occur_latch_keeps (n : Nat) (a : EvtAt) (e d : Nat) (p : RegFile × EvtState) (x : Nat) (he : e < 1024)
    (h : rget p.1 Reg.MGMT_EVT_LATCH x = 1) : rget (occur n a e d p).1 Reg.MGMT_EVT_LATCH x = 1 := by
  refine occur_ind (fun r => rget r Reg.MGMT_EVT_LATCH x = 1) ?_ ?_ ?_ ?_ ?_ ?_ a n e d p he h
  all_goals intro r
  · intro v hr; rw [rget_rset_other, hr]; exact key_ne_of_lo (by decide) (by decide) (by decide)
  · intro v hr; rw [rget_rset_other, hr]; exact key_ne_of_lo (by decide) (by decide) (by decide)
  · intro v hr; rw [rget_rset_other, hr]; exact key_ne_of_lo (by decide) (by decide) (by decide)
  · intro v hr; rw [rget_rset_other, hr]; exact key_ne_of_lo (by decide) (by decide) (by decide)
  · intro y _ hr
    by_cases q : x = y
    · subst q; rw [rget_rset_same]; decide
    · rw [rget_rset_other, hr]
      refine key_ne_of_at (by decide) (by decide) ?_
      simp only [Fld.at, Reg.MGMT_EVT_LATCH]; omega
  · intro y v _ hr; rw [rget_rset_other, hr]; exact key_ne_of_lo (by decide) (by decide) (by decide)

/-- What the fabric does after LATCH and COUNT keeps a latch that is set: an occurrence sets its latch (R432). -/
theorem occur_latch (n : Nat) (a : EvtAt) (e d : Nat) (p : RegFile × EvtState) (he : e < 1024) :
    rget (occur (n + 1) a e d p).1 Reg.MGMT_EVT_LATCH e = 1 := by
  have h : rget (rset p.1 Reg.MGMT_EVT_LATCH e 1) Reg.MGMT_EVT_LATCH e = 1 := by rw [rget_rset_same]; decide
  have hh : rset (rset p.1 Reg.MGMT_EVT_LATCH e 1) Reg.MGMT_EVT_LATCH e 1 = rset p.1 Reg.MGMT_EVT_LATCH e 1 := by
    simp only [rset]; exact sset_sset_same _ _ _ _
  have := occur_latch_keeps (n + 1) a e d (rset p.1 Reg.MGMT_EVT_LATCH e 1, p.2) e he h
  have once : occOnce a e d (rset p.1 Reg.MGMT_EVT_LATCH e 1, p.2) = occOnce a e d p := by
    have hc : occCount (rset p.1 Reg.MGMT_EVT_LATCH e 1) e = occCount p.1 e := by simp only [occCount, hh]
    simp only [occOnce]
    rw [hc]
  rw [occur] at this ⊢
  rw [once] at this
  exact this

/-! ### The same for the state -/

/-- An event raised leaves every register that is not the fabric's own. -/
theorem State.raise_other (s : State) (e d : Nat) (f : Fld) (i : Nat) (he : e < 1024) (h : evtKey (f.key i) = false) :
    (s.raise e d).r f i = s.r f i := occur_other 5 _ e d _ f i he h

/-- An event raised has its latch set (R432). -/
theorem State.raise_latch (s : State) (e d : Nat) (he : e < 1024) : (s.raise e d).r Reg.MGMT_EVT_LATCH e = 1 :=
  occur_latch 4 _ e d _ he

/-- A latch that is set stays set when an event is raised. -/
theorem State.raise_latch_keeps (s : State) (e d x : Nat) (he : e < 1024) (h : s.r Reg.MGMT_EVT_LATCH x = 1) :
    (s.raise e d).r Reg.MGMT_EVT_LATCH x = 1 := occur_latch_keeps 5 _ e d _ x he h

theorem State.raiseIf_other (s : State) (c : Bool) (e d : Nat) (f : Fld) (i : Nat) (he : e < 1024)
    (h : evtKey (f.key i) = false) : (s.raiseIf c e d).r f i = s.r f i := by
  cases c
  · rfl
  · exact s.raise_other e d f i he h

theorem State.raiseIf_latch_keeps (s : State) (c : Bool) (e d x : Nat) (he : e < 1024) (h : s.r Reg.MGMT_EVT_LATCH x = 1) :
    (s.raiseIf c e d).r Reg.MGMT_EVT_LATCH x = 1 := by
  cases c
  · exact h
  · exact s.raise_latch_keeps e d x he h

/-- A register that is not the fabric's own reads as before through a list of events. -/
theorem State.raises_other (f : Fld) (i : Nat) (h : evtKey (f.key i) = false) : ∀ (l : List (Nat × Nat)) (s : State),
    (∀ p ∈ l, p.1 < 1024) → (s.raises l).r f i = s.r f i := by
  intro l
  induction l with
  | nil => intro s _; rfl
  | cons p t ih =>
    intro s hl
    exact (ih _ (fun q hq => hl q (List.mem_cons_of_mem _ hq))).trans
      (s.raise_other _ _ f i (hl p List.mem_cons_self) h)

end Sys2Proof.Machine
end

