-- ==== Sys2Proof/Laws/Command.lean ====
section
/-! SUPPORT. What a served command does: its opcode runs on the state it is handed, and its answer is sent. -/

namespace Sys2Proof.Machine

/-! The completion code of each answer (R422). -/

@[simp] theorem Ans.done_code (d : Nat) : (Ans.done d).code = 0x00 := rfl
@[simp] theorem Ans.reply_code (ws : List Word) (d : Nat) : (Ans.reply ws d).code = 0x00 := rfl
@[simp] theorem Ans.accepted_code (d : Nat) : (Ans.accepted d).code = 0x01 := rfl
@[simp] theorem Ans.busy_code : (Ans.busy).code = 0x10 := rfl
@[simp] theorem Ans.sealed_code (d : Nat) : (Ans.sealed d).code = 0x11 := rfl
@[simp] theorem Ans.stage_code : (Ans.stage).code = 0x12 := rfl
@[simp] theorem Ans.late_code (d : Nat) : (Ans.late d).code = 0x13 := rfl
@[simp] theorem Ans.badOpcode_code : (Ans.badOpcode).code = 0x20 := rfl
@[simp] theorem Ans.badParam_code (d : Nat) : (Ans.badParam d).code = 0x21 := rfl
@[simp] theorem Ans.badLength_code : (Ans.badLength).code = 0x22 := rfl
@[simp] theorem Ans.denied_code (d : Nat) : (Ans.denied d).code = 0x30 := rfl
@[simp] theorem Ans.noSession_code : (Ans.noSession).code = 0x31 := rfl
@[simp] theorem Ans.stale_code (d : Nat) : (Ans.stale d).code = 0x32 := rfl
@[simp] theorem Ans.fault_code (d : Nat) : (Ans.fault d).code = 0x40 := rfl
@[simp] theorem Ans.resource_code : (Ans.resource).code = 0x41 := rfl
@[simp] theorem Ans.wait_code : (Ans.wait).code = 0x100 := rfl

/-- A served command of any opcode but SEALED_CMD is executed. -/
theorem arrive_execute {s : State} {o : OpSpec} {c : Cmd} (h : s.served o c = true) (hn : o.opcode ≠ 0x210) :
    s.arrive o c = (s.fenced c).execute o c := by
  simp only [State.served, Bool.and_eq_true, decide_eq_true_eq, Bool.not_eq_true', Option.isNone_iff_eq_none] at h
  obtain ⟨⟨⟨⟨⟨⟨⟨⟨⟨hh, hl⟩, hf⟩, hc⟩, ha⟩, hr⟩, hs⟩, h1⟩, h2⟩, h3⟩ := h
  have hi : ∀ n, (s.arrived c).interpret n (some o) o.opcode c = (s.fenced c).execute o c := by
    intro n
    have hj : (s.arrived c).judgeCmd (some o) o.opcode c = (none, s.fenced c) := by
      unfold State.judgeCmd
      rw [if_neg (by omega)]
      unfold State.fencePasses at hf
      unfold State.fenced at ha hr hs ⊢
      cases hw : c.fence with
      | none =>
        simp only [hw] at ha hr hs ⊢
        rw [hc]
        simp [ha, hr, hs]
      | some w =>
        simp only [hw, Option.isNone_iff_eq_none] at ha hr hs hf ⊢
        rw [hf]
        simp only []
        rw [hc]
        simp [ha, hr, hs]
    unfold State.heard at hh
    simp only [Bool.and_eq_true, Bool.not_eq_true'] at hh
    rw [State.interpret.eq_def]
    have hg : ((s.arrived c).isMgr && toTiles c.route && decide (c.src.via ≠ Transport.cawell) && decide (o.opcode ≠ 0x210)) = false := by
      rw [hh.2]; rfl
    rw [hg, hj]
    simp [hn]
  unfold State.heard at hh
  simp only [Bool.and_eq_true] at hh
  have hal := hh.1.1
  have hv := hh.1.2
  unfold State.arrive State.take
  change (if (!(s.arrived c).alive) = true then s.arrived c else _) = _
  rw [hal]
  simp only [Bool.not_true, Bool.false_eq_true, if_false]
  split
  · exact hi _
  · rename_i hvia
    simp only [hvia] at hv
    change (if (s.arrived c).isMgr = true then (s.arrived c).interpret _ _ _ _ else _) = _
    rw [if_pos hv]; exact hi _
  · rename_i hvia
    simp only [hvia, Bool.and_eq_true, Bool.not_eq_true', decide_eq_true_eq] at hv
    change (if (decide ((s.arrived c).role = 3) || !(s.arrived c).routeHits c.route) = true then _ else
      if (s.arrived c).restricted _ _ = true then _ else if (s.arrived c).isMgr = true then _ else _) = _
    rw [decide_eq_false hv.1.1.1, hv.1.1.2, hv.1.2, hv.2]
    exact hi _

/-- A served command is answered as its opcode answers. -/
theorem arrive_served {s : State} {o : OpSpec} {c : Cmd} (h : s.served o c = true) (hn : o.opcode ≠ 0x210) {a : Ans} {t : State}
    (hr : o.run (c.ctx o) c.params (s.handed o c) = (a, t)) (ha : a.code ≠ 0x100) : s.arrive o c = s.answered o c a t := by
  rw [arrive_execute h hn]
  simp only [State.served, Bool.and_eq_true, decide_eq_true_eq, Bool.not_eq_true', Option.isNone_iff_eq_none] at h
  have hg : (decide (c.params.length < o.low) || decide (o.high < c.params.length) || sealTooLong o.opcode c) = false := by
    simp only [h.2, Bool.or_false, Bool.or_eq_false_iff, decide_eq_false_iff_not]
    omega
  unfold State.execute
  rw [hg]
  simp only [Bool.false_eq_true, if_false]
  simp only [State.handed, Cmd.ctx] at hr
  rw [hr]
  simp only [ha, if_false]
  rfl

/-- A served command that is answered later leaves the state its opcode leaves. -/
theorem arrive_waits {s : State} {o : OpSpec} {c : Cmd} (h : s.served o c = true) (hn : o.opcode ≠ 0x210) {a : Ans} {t : State}
    (hr : o.run (c.ctx o) c.params (s.handed o c) = (a, t)) (ha : a.code = 0x100) : s.arrive o c = t := by
  rw [arrive_execute h hn]
  simp only [State.served, Bool.and_eq_true, decide_eq_true_eq, Bool.not_eq_true', Option.isNone_iff_eq_none] at h
  have hg : (decide (c.params.length < o.low) || decide (o.high < c.params.length) || sealTooLong o.opcode c) = false := by
    simp only [h.2, Bool.or_false, Bool.or_eq_false_iff, decide_eq_false_iff_not]
    omega
  unfold State.execute
  rw [hg]
  simp only [Bool.false_eq_true, if_false]
  simp only [State.handed, Cmd.ctx] at hr
  rw [hr]
  simp only [ha, if_true]

/-- A command completes as its opcode does on every state and packet that `P` holds of. -/
theorem completes_of {e : Cmd → Instr} {o : OpSpec} {P : Cmd → State → Prop} {A : Cmd → State → Ans × State}
    (he : ∀ c s, exec (e c) s = .next (s.arrive o c)) (hn : o.opcode ≠ 0x210)
    (hr : ∀ c h, o.low ≤ c.params.length → c.params.length ≤ o.high → P c h →
      o.run (c.ctx o) c.params h = A c h ∧ (A c h).1.code ≠ 0x100) : Completes e o P A := by
  intro c s hs hp
  have hl : o.low ≤ c.params.length ∧ c.params.length ≤ o.high := by
    simp only [State.served, Bool.and_eq_true, decide_eq_true_eq] at hs
    exact ⟨hs.1.1.2, hs.1.2⟩
  have h := hr c _ hl.1 hl.2 hp
  rw [he, arrive_served hs hn (a := (A c (s.handed o c)).1) (t := (A c (s.handed o c)).2) h.1 h.2]

/-- The same for a command that is answered later. -/
theorem waits_of {e : Cmd → Instr} {o : OpSpec} {P : Cmd → State → Prop} {A : Cmd → State → State}
    (he : ∀ c s, exec (e c) s = .next (s.arrive o c)) (hn : o.opcode ≠ 0x210)
    (hr : ∀ c h, o.low ≤ c.params.length → c.params.length ≤ o.high → P c h →
      (o.run (c.ctx o) c.params h).2 = A c h ∧ (o.run (c.ctx o) c.params h).1.code = 0x100) : Waits e o P A := by
  intro c s hs hp
  have hl : o.low ≤ c.params.length ∧ c.params.length ≤ o.high := by
    simp only [State.served, Bool.and_eq_true, decide_eq_true_eq] at hs
    exact ⟨hs.1.1.2, hs.1.2⟩
  have h := hr c _ hl.1 hl.2 hp
  rw [he, arrive_waits hs hn (a := (o.run (c.ctx o) c.params (s.handed o c)).1) (t := A c (s.handed o c)) (by rw [← h.1]) h.2]

end Sys2Proof.Machine
end

