-- ==== Sys2Proof/Laws/Dram.lean ====
section
/-! SUPPORT. What waking DRAM channels leaves alone (R390, R391): everything but the registers and the controller's own state; and what the
shared reading and loading operations answer. -/

namespace Sys2Proof.Machine

@[simp] theorem State.wakeChannels_inForce (s : State) (a n : Nat) : (s.wakeChannels a n).inForce = s.inForce := rfl
@[simp] theorem State.wakeChannels_clk (s : State) (a n : Nat) : (s.wakeChannels a n).clk = s.clk := rfl
@[simp] theorem State.wakeChannels_now (s : State) (a n : Nat) : (s.wakeChannels a n).now = s.now := rfl
@[simp] theorem State.wakeChannels_freeCtr (s : State) (a n : Nat) : (s.wakeChannels a n).freeCtr = s.freeCtr := rfl
@[simp] theorem State.wakeChannels_pins (s : State) (a n : Nat) : (s.wakeChannels a n).pins = s.pins := rfl
@[simp] theorem State.wakeChannels_cmd (s : State) (a n : Nat) : (s.wakeChannels a n).cmd = s.cmd := rfl
@[simp] theorem State.wakeChannels_evt (s : State) (a n : Nat) : (s.wakeChannels a n).evt = s.evt := rfl
@[simp] theorem State.wakeChannels_bake (s : State) (a n : Nat) : (s.wakeChannels a n).bake = s.bake := rfl
@[simp] theorem State.wakeChannels_start (s : State) (a n : Nat) : (s.wakeChannels a n).start = s.start := rfl
@[simp] theorem State.wakeChannels_sec (s : State) (a n : Nat) : (s.wakeChannels a n).sec = s.sec := rfl
@[simp] theorem State.wakeChannels_time (s : State) (a n : Nat) : (s.wakeChannels a n).time = s.time := rfl
@[simp] theorem State.wakeChannels_hearth (s : State) (a n : Nat) : (s.wakeChannels a n).hearth = s.hearth := rfl
@[simp] theorem State.wakeChannels_lane (s : State) (a n : Nat) : (s.wakeChannels a n).lane = s.lane := rfl
@[simp] theorem State.wakeChannels_link (s : State) (a n : Nat) : (s.wakeChannels a n).link = s.link := rfl
@[simp] theorem State.wakeChannels_mgr (s : State) (a n : Nat) : (s.wakeChannels a n).mgr = s.mgr := rfl
@[simp] theorem State.wakeChannels_stream (s : State) (a n : Nat) : (s.wakeChannels a n).stream = s.stream := rfl
@[simp] theorem State.wakeChannels_dec (s : State) (a n : Nat) : (s.wakeChannels a n).dec = s.dec := rfl
@[simp] theorem State.wakeChannels_fire (s : State) (a n : Nat) : (s.wakeChannels a n).fire = s.fire := rfl
@[simp] theorem State.wakeChannels_glaze (s : State) (a n : Nat) : (s.wakeChannels a n).glaze = s.glaze := rfl
@[simp] theorem State.wakeChannels_cal (s : State) (a n : Nat) : (s.wakeChannels a n).cal = s.cal := rfl
@[simp] theorem State.wakeChannels_emit_ (s : State) (a n : Nat) : (s.wakeChannels a n).emit_ = s.emit_ := rfl
@[simp] theorem State.wakeChannels_enc (s : State) (a n : Nat) : (s.wakeChannels a n).enc = s.enc := rfl
@[simp] theorem State.wakeChannels_eng (s : State) (a n : Nat) : (s.wakeChannels a n).eng = s.eng := rfl
@[simp] theorem State.wakeChannels_dram (s : State) (a n : Nat) : (s.wakeChannels a n).dram = s.dram := rfl
@[simp] theorem State.wakeChannels_flash (s : State) (a n : Nat) : (s.wakeChannels a n).flash = s.flash := rfl
@[simp] theorem State.wakeChannels_out (s : State) (a n : Nat) : (s.wakeChannels a n).out = s.out := rfl
@[simp] theorem State.wakeChannels_pending (s : State) (a n : Nat) : (s.wakeChannels a n).pending = s.pending := rfl
@[simp] theorem State.writeChannels_inForce (s : State) (a n : Nat) : (s.writeChannels a n).inForce = s.inForce := rfl
@[simp] theorem State.writeChannels_clk (s : State) (a n : Nat) : (s.writeChannels a n).clk = s.clk := rfl
@[simp] theorem State.writeChannels_now (s : State) (a n : Nat) : (s.writeChannels a n).now = s.now := rfl
@[simp] theorem State.writeChannels_freeCtr (s : State) (a n : Nat) : (s.writeChannels a n).freeCtr = s.freeCtr := rfl
@[simp] theorem State.writeChannels_pins (s : State) (a n : Nat) : (s.writeChannels a n).pins = s.pins := rfl
@[simp] theorem State.writeChannels_cmd (s : State) (a n : Nat) : (s.writeChannels a n).cmd = s.cmd := rfl
@[simp] theorem State.writeChannels_evt (s : State) (a n : Nat) : (s.writeChannels a n).evt = s.evt := rfl
@[simp] theorem State.writeChannels_bake (s : State) (a n : Nat) : (s.writeChannels a n).bake = s.bake := rfl
@[simp] theorem State.writeChannels_start (s : State) (a n : Nat) : (s.writeChannels a n).start = s.start := rfl
@[simp] theorem State.writeChannels_sec (s : State) (a n : Nat) : (s.writeChannels a n).sec = s.sec := rfl
@[simp] theorem State.writeChannels_time (s : State) (a n : Nat) : (s.writeChannels a n).time = s.time := rfl
@[simp] theorem State.writeChannels_hearth (s : State) (a n : Nat) : (s.writeChannels a n).hearth = s.hearth := rfl
@[simp] theorem State.writeChannels_lane (s : State) (a n : Nat) : (s.writeChannels a n).lane = s.lane := rfl
@[simp] theorem State.writeChannels_link (s : State) (a n : Nat) : (s.writeChannels a n).link = s.link := rfl
@[simp] theorem State.writeChannels_mgr (s : State) (a n : Nat) : (s.writeChannels a n).mgr = s.mgr := rfl
@[simp] theorem State.writeChannels_stream (s : State) (a n : Nat) : (s.writeChannels a n).stream = s.stream := rfl
@[simp] theorem State.writeChannels_dec (s : State) (a n : Nat) : (s.writeChannels a n).dec = s.dec := rfl
@[simp] theorem State.writeChannels_fire (s : State) (a n : Nat) : (s.writeChannels a n).fire = s.fire := rfl
@[simp] theorem State.writeChannels_glaze (s : State) (a n : Nat) : (s.writeChannels a n).glaze = s.glaze := rfl
@[simp] theorem State.writeChannels_cal (s : State) (a n : Nat) : (s.writeChannels a n).cal = s.cal := rfl
@[simp] theorem State.writeChannels_emit_ (s : State) (a n : Nat) : (s.writeChannels a n).emit_ = s.emit_ := rfl
@[simp] theorem State.writeChannels_enc (s : State) (a n : Nat) : (s.writeChannels a n).enc = s.enc := rfl
@[simp] theorem State.writeChannels_eng (s : State) (a n : Nat) : (s.writeChannels a n).eng = s.eng := rfl
@[simp] theorem State.writeChannels_dram (s : State) (a n : Nat) : (s.writeChannels a n).dram = s.dram := rfl
@[simp] theorem State.writeChannels_flash (s : State) (a n : Nat) : (s.writeChannels a n).flash = s.flash := rfl
@[simp] theorem State.writeChannels_out (s : State) (a n : Nat) : (s.writeChannels a n).out = s.out := rfl
@[simp] theorem State.writeChannels_pending (s : State) (a n : Nat) : (s.writeChannels a n).pending = s.pending := rfl

/-- A run without a failing sector is read as it stands (R142). -/
theorem State.readWords_good {s : State} {req a n : Nat} (h : firstBad s.dram a n = none) :
    s.readWords req a n = (.ok (dramWords s.dram a n), s.wakeChannels a n) := by
  unfold State.readWords
  simp only [State.wakeChannels_dram, h]

/-- A run with a failing sector is not read: the sector, and what a failed sector leaves (R393). -/
theorem State.readWords_bad {s : State} {req a n k : Nat} (h : firstBad s.dram a n = some k) :
    s.readWords req a n = (.bad k, (s.wakeChannels a n).sectorFail req k) := by
  unfold State.readWords
  simp only [State.wakeChannels_dram, h]

/-- A command's image that the gate lets go is stored (R149–R151): the answer, or the first sector that fails. -/
theorem State.writeCmd_go {s : State} {c : Ctx} {ps : List Word} {i : Img} {ids : List Nat} (hi : s.imageFor c.opcode ps = some i)
    (hg : s.gate i.addr i.words.length i.wait i.force = .go ids) : s.writeCmd c ps = s.putImage i ids := by
  unfold State.writeCmd
  simp only [hi, hg]

/-- A command's image that the gate holds back is queued (R149, R150). -/
theorem State.writeCmd_queue {s : State} {c : Ctx} {ps : List Word} {i : Img} {ids : List Nat} (hi : s.imageFor c.opcode ps = some i)
    (hg : s.gate i.addr i.words.length i.wait i.force = .queue ids) :
    s.writeCmd c ps = (.accepted, s.queueWrite c ids ps i.wait i.force) := by
  unfold State.writeCmd
  simp only [hi, hg]

/-- A run stored without meeting a bad sector (R141, R394). -/
theorem State.store_good {s : State} {req a : Nat} {ws : List Word} {d : List Host.Cell}
    (h : storeRun (ws.length + 1) s.dram a ws = (d, none)) :
    s.store req a ws = ({ s.writeChannels a ws.length with dram := d }, none) := by
  unfold State.store
  simp only [h]

/-- A run that meets a bad sector stops there (R142, R393, R394). -/
theorem State.store_bad {s : State} {req a k : Nat} {ws : List Word} {d : List Host.Cell}
    (h : storeRun (ws.length + 1) s.dram a ws = (d, some k)) :
    s.store req a ws = ({ s.writeChannels a ws.length with dram := d }.sectorFail req k, some k) := by
  unfold State.store
  simp only [h]

end Sys2Proof.Machine
end

