-- ==== Sys2Proof/Laws/Memory.lean ====
section
/-! SUPPORT. Every operation over DRAM and flash keeps the canonical form (R141, R394): addresses rising, no byte listed that equals what an
unlisted one reads; what a stored run leaves alone, and when it is stored whole. -/

namespace Sys2Proof.Machine

/-- A fold whose every step keeps the canonical form keeps it. -/
theorem wf_foldl {β : Type} {b : Nat → Byte} (f : List Host.Cell → β → List Host.Cell)
    (hf : ∀ d x, Memory.wf b d = true → Memory.wf b (f d x) = true) :
    ∀ (l : List β) (d : List Host.Cell), Memory.wf b d = true → Memory.wf b (l.foldl f d) = true
  | [], _, h => h
  | x :: t, d, h => wf_foldl f hf t (f d x) (hf d x h)

/-- The whole memory empty. -/
theorem wf_nil (b : Nat → Byte) : Memory.wf b [] = true := rfl

/-- A sector written. -/
theorem wf_writeSector {d : List Host.Cell} (n : Nat) (ws : List Word) (h : Memory.wf dramByte0 d = true) :
    Memory.wf dramByte0 (writeSector d n ws) = true := swf_ssetRun _ _ _ _ h

/-- A run of words stored, whether or not it meets a bad sector. -/
theorem wf_storeRun : ∀ (fuel : Nat) (d : List Host.Cell) (a : Nat) (ws : List Word), Memory.wf dramByte0 d = true →
    Memory.wf dramByte0 (storeRun fuel d a ws).1 = true
  | 0, _, _, _, h => h
  | n + 1, d, a, ws, h => by
    rw [storeRun]
    dsimp only
    split
    · exact h
    · split
      · exact wf_storeRun n _ _ _ (wf_writeSector _ _ h)
      · split
        · exact wf_storeRun n _ _ _ (wf_writeSector _ _ h)
        · exact h

/-- A picture put into its buffer. -/
theorem wf_putRun {d : List Host.Cell} (a : Nat) (ws : List Word) (h : Memory.wf dramByte0 d = true) :
    Memory.wf dramByte0 (putRun d a ws) = true := wf_foldl _ (fun _ _ k => wf_writeSector _ _ k) _ _ h

/-- Sectors that fail. -/
theorem wf_spoilSectors {d : List Host.Cell} (ns : List Nat) (h : Memory.wf dramByte0 d = true) :
    Memory.wf dramByte0 (spoilSectors d ns) = true := by
  refine wf_foldl _ (fun d n k => ?_) _ _ h
  split
  · exact swf_ssetRun _ _ _ _ k
  · exact k

/-- Flash programmed. -/
theorem wf_flashWrite {f : List Host.Cell} (a : Nat) (l : List Byte) (h : Memory.wf (fun _ => 0xFF) f = true) :
    Memory.wf (fun _ => 0xFF) (flashWrite f a l) = true := swf_ssetRun _ _ _ _ h

/-- Flash erased. -/
theorem wf_flashErase {f : List Host.Cell} (a n : Nat) (h : Memory.wf (fun _ => 0xFF) f = true) :
    Memory.wf (fun _ => 0xFF) (flashErase f a n) = true := swf_filter _ _ h

/-- What a sector reads as depends on its own 32 bytes. -/
theorem sectorBits_congr {d e : List Host.Cell} {n m : Nat} (h : ∀ k, k < 32 → sget (0 : Byte) d (32 * n + k) = sget 0 e (32 * m + k)) :
    sectorBits d n = sectorBits e m := by
  have : ∀ l : List Nat, (∀ k ∈ l, k < 32) →
      l.foldr (fun k a => a * 256 + (sget (dramByte0 (32 * n + k)) d (32 * n + k)).toNat) 0
        = l.foldr (fun k a => a * 256 + (sget (dramByte0 (32 * m + k)) e (32 * m + k)).toNat) 0 := by
    intro l
    induction l with
    | nil => intro _; rfl
    | cons k t ih =>
      intro hl
      simp only [List.foldr_cons]
      rw [ih (fun x hx => hl x (List.mem_cons_of_mem _ hx)),
        show sget (dramByte0 (32 * n + k)) d (32 * n + k) = _ from h k (hl k List.mem_cons_self)]
      rfl
  exact this _ (fun k hk => List.mem_range.mp hk)

/-- A sector written leaves every other one. -/
theorem sectorBits_writeSector_other {d : List Host.Cell} {n m : Nat} (ws : List Word) (h : m ≠ n) :
    sectorBits (writeSector d n ws) m = sectorBits d m :=
  sectorBits_congr (fun k hk => sget_ssetRun_out _ _ _ _ _ _ (by simp only [sectorBytes, List.length_map, List.length_range]; omega))

/-- What a sector reads as after it was written does not depend on what was there, nor on which one it is. -/
theorem sectorBits_writeSector_same (d : List Host.Cell) (n : Nat) (ws : List Word) :
    sectorBits (writeSector d n ws) n = sectorBits (writeSector [] 0 ws) 0 :=
  sectorBits_congr (fun k hk => by
    have hl : k < (sectorBytes (sectorOf ws)).length := by simp only [sectorBytes, List.length_map, List.length_range]; omega
    exact (sget_ssetRun_in dramByte0 _ d (32 * n) k hl).trans (sget_ssetRun_in dramByte0 _ [] (32 * 0) k hl).symm)

/-- A run of words is stored whole where every sector it touches is good (R141, R394). -/
theorem storeRun_done : ∀ (fuel : Nat) (d : List Host.Cell) (a : Nat) (ws : List Word),
    (∀ i, i < ws.length → sectorGood d ((a + i) / 7) = true) → (storeRun fuel d a ws).2 = none
  | 0, _, _, _, _ => rfl
  | fuel + 1, d, a, ws, h => by
    rw [storeRun]
    dsimp only
    split
    · rfl
    · rename_i hw
      have hl : 0 < ws.length := by cases ws with
        | nil => simp at hw
        | cons _ _ => simp
      have next : ∀ (v : List Word) (k : Nat), 7 ≤ a % 7 + k ∨ ws.length ≤ k →
          ∀ i, i < (ws.drop k).length → sectorGood (writeSector d (a / 7) v) ((a + k + i) / 7) = true := by
        intro v k hk i hi
        rw [List.length_drop] at hi
        have hs := h (k + i) (by omega)
        rw [sectorGood, sectorBits_writeSector_other _ (by omega), ← sectorGood, Nat.add_assoc]
        exact hs
      split
      · rename_i hk
        exact storeRun_done fuel _ _ _ (next _ 7 (by omega))
      · split
        · exact storeRun_done fuel _ _ _ (next _ _ (by omega))
        · rename_i hg
          exact absurd (h 0 hl) hg

end Sys2Proof.Machine
end

