-- ==== Sys2Proof/Laws/Pass.lean ====
section
/-! SUPPORT. What the passing of time leaves alone: of the security state all but the glost time of a trial (R476), of the time state
all but the three bases (R349), and every view of registers, lanes and ports. -/

namespace Sys2Proof.Machine

@[simp] theorem State.pass_sec_revoked (s : State) (dt : Nat) : (s.pass dt).sec.revoked = s.sec.revoked := rfl
@[simp] theorem State.pass_sec_slots (s : State) (dt : Nat) : (s.pass dt).sec.slots = s.sec.slots := rfl
@[simp] theorem State.pass_sec_svnBits (s : State) (dt : Nat) : (s.pass dt).sec.svnBits = s.sec.svnBits := rfl
@[simp] theorem State.pass_sec_store (s : State) (dt : Nat) : (s.pass dt).sec.store = s.sec.store := rfl
@[simp] theorem State.pass_sec_eph (s : State) (dt : Nat) : (s.pass dt).sec.eph = s.sec.eph := rfl
@[simp] theorem State.pass_sec_links (s : State) (dt : Nat) : (s.pass dt).sec.links = s.sec.links := rfl
@[simp] theorem State.pass_sec_hosts (s : State) (dt : Nat) : (s.pass dt).sec.hosts = s.sec.hosts := rfl
@[simp] theorem State.pass_sec_pathsOff (s : State) (dt : Nat) : (s.pass dt).sec.pathsOff = s.sec.pathsOff := rfl
@[simp] theorem State.pass_sec_boot (s : State) (dt : Nat) : (s.pass dt).sec.boot = s.sec.boot := rfl
@[simp] theorem State.pass_sec_staging (s : State) (dt : Nat) : (s.pass dt).sec.staging = s.sec.staging := rfl
@[simp] theorem State.pass_sec_bootEvents (s : State) (dt : Nat) : (s.pass dt).sec.bootEvents = s.sec.bootEvents := rfl
@[simp] theorem State.pass_sec_censusAt (s : State) (dt : Nat) : (s.pass dt).sec.censusAt = s.sec.censusAt := rfl
@[simp] theorem State.pass_sec_draws (s : State) (dt : Nat) : (s.pass dt).sec.draws = s.sec.draws := rfl
@[simp] theorem State.pass_time_integ (s : State) (dt : Nat) : (s.pass dt).time.integ = s.time.integ := rfl
@[simp] theorem State.pass_time_hist (s : State) (dt : Nat) : (s.pass dt).time.hist = s.time.hist := rfl
@[simp] theorem State.pass_time_good (s : State) (dt : Nat) : (s.pass dt).time.good = s.time.good := rfl
@[simp] theorem State.pass_time_bad (s : State) (dt : Nat) : (s.pass dt).time.bad = s.time.bad := rfl
@[simp] theorem State.pass_time_refOk (s : State) (dt : Nat) : (s.pass dt).time.refOk = s.time.refOk := rfl
@[simp] theorem State.pass_time_fedAt (s : State) (dt : Nat) : (s.pass dt).time.fedAt = s.time.fedAt := rfl
@[simp] theorem State.pass_time_last (s : State) (dt : Nat) : (s.pass dt).time.last = s.time.last := rfl
@[simp] theorem State.pass_time_ticked (s : State) (dt : Nat) : (s.pass dt).time.ticked = s.time.ticked := rfl
@[simp] theorem State.pass_time_stepped (s : State) (dt : Nat) : (s.pass dt).time.stepped = s.time.stepped := rfl
@[simp] theorem State.pass_time_scheds (s : State) (dt : Nat) : (s.pass dt).time.scheds = s.time.scheds := rfl
@[simp] theorem State.pass_time_jump (s : State) (dt : Nat) : (s.pass dt).time.jump = s.time.jump := rfl
@[simp] theorem State.pass_time_phase (s : State) (dt : Nat) : (s.pass dt).time.phase = s.time.phase := rfl
@[simp] theorem State.pass_time_tb0Run (s : State) (dt : Nat) : (s.pass dt).time.tb0Run = s.time.tb0Run := rfl
@[simp] theorem State.pass_time_split (s : State) (dt : Nat) : (s.pass dt).time.split = s.time.split := rfl
@[simp] theorem State.pass_time_demand (s : State) (dt : Nat) : (s.pass dt).time.demand = s.time.demand := rfl
@[simp] theorem State.pass_time_syncK (s : State) (dt : Nat) : (s.pass dt).time.syncK = s.time.syncK := rfl
@[simp] theorem State.pass_time_sentD (s : State) (dt : Nat) : (s.pass dt).time.sentD = s.time.sentD := rfl
@[simp] theorem State.pass_time_fifo (s : State) (dt : Nat) : (s.pass dt).time.fifo = s.time.fifo := rfl
@[simp] theorem State.pass_time_armed (s : State) (dt : Nat) : (s.pass dt).time.armed = s.time.armed := rfl
@[simp] theorem State.pass_time_realign (s : State) (dt : Nat) : (s.pass dt).time.realign = s.time.realign := rfl
@[simp] theorem State.pass_time_relocking (s : State) (dt : Nat) : (s.pass dt).time.relocking = s.time.relocking := rfl
@[simp] theorem State.pass_time_blank (s : State) (dt : Nat) : (s.pass dt).time.blank = s.time.blank := rfl
@[simp] theorem State.pass_time_stopped (s : State) (dt : Nat) : (s.pass dt).time.stopped = s.time.stopped := rfl
@[simp] theorem State.pass_time_ever (s : State) (dt : Nat) : (s.pass dt).time.ever = s.time.ever := rfl
@[simp] theorem State.pass_time_capAt (s : State) (dt : Nat) : (s.pass dt).time.capAt = s.time.capAt := rfl
@[simp] theorem State.pass_time_syncLost (s : State) (dt : Nat) : (s.pass dt).time.syncLost = s.time.syncLost := rfl
@[simp] theorem State.pass_time_pullTo (s : State) (dt : Nat) : (s.pass dt).time.pullTo = s.time.pullTo := rfl

@[simp] theorem State.pass_laneX (s : State) (dt l : Nat) : (s.pass dt).laneX l = s.laneX l := rfl
@[simp] theorem State.pass_laneState (s : State) (dt l : Nat) : (s.pass dt).laneState l = s.laneState l := rfl
@[simp] theorem State.pass_port (s : State) (dt p : Nat) : (s.pass dt).port p = s.port p := rfl
@[simp] theorem State.pass_portUp (s : State) (dt p : Nat) : (s.pass dt).portUp p = s.portUp p := rfl
@[simp] theorem State.pass_link_ (s : State) (dt p : Nat) : (s.pass dt).link_ p = s.link_ p := rfl
@[simp] theorem State.pass_hostSession (s : State) (dt j : Nat) : (s.pass dt).hostSession j = s.hostSession j := rfl
@[simp] theorem State.pass_planned (s : State) (dt : Nat) : (s.pass dt).planned = s.planned := rfl
@[simp] theorem State.pass_writeBar (s : State) (dt a : Nat) (v : Word) : (s.pass dt).writeBar a v = s.writeBar a v := rfl
@[simp] theorem State.pass_stage (s : State) (dt : Nat) : (s.pass dt).stage = s.stage := rfl
@[simp] theorem State.pass_alive (s : State) (dt : Nat) : (s.pass dt).alive = s.alive := rfl
@[simp] theorem State.pass_isMgr (s : State) (dt : Nat) : (s.pass dt).isMgr = s.isMgr := rfl
@[simp] theorem State.pass_role (s : State) (dt : Nat) : (s.pass dt).role = s.role := rfl
@[simp] theorem State.pass_mp (s : State) (dt : Nat) : (s.pass dt).mp = s.mp := rfl
@[simp] theorem State.pass_isWorker (s : State) (dt : Nat) : (s.pass dt).isWorker = s.isWorker := rfl
@[simp] theorem State.pass_dramUp (s : State) (dt : Nat) : (s.pass dt).dramUp = s.dramUp := rfl
@[simp] theorem State.pass_validSource (s : State) (dt : Nat) : (s.pass dt).validSource = s.validSource := rfl
@[simp] theorem State.pass_scanOn (s : State) (dt : Nat) : (s.pass dt).scanOn = s.scanOn := rfl
@[simp] theorem State.pass_direct (s : State) (dt : Nat) : (s.pass dt).direct = s.direct := rfl
@[simp] theorem State.pass_peelHeld (s : State) (dt : Nat) : (s.pass dt).peelHeld = s.peelHeld := rfl
@[simp] theorem State.pass_geo (s : State) (dt : Nat) : (s.pass dt).geo = s.geo := rfl
@[simp] theorem State.pass_period (s : State) (dt : Nat) : (s.pass dt).period = s.period := rfl
@[simp] theorem State.pass_stageCode (s : State) (dt : Nat) : (s.pass dt).stageCode = s.stageCode := rfl
@[simp] theorem State.pass_unmet (s : State) (dt : Nat) : (s.pass dt).unmet = s.unmet := rfl
@[simp] theorem State.pass_installed (s : State) (dt : Nat) : (s.pass dt).installed = s.installed := rfl
@[simp] theorem State.pass_ri (s : State) (dt : Nat) (f : Fld) (i : Nat) : (s.pass dt).ri f i = s.ri f i := rfl
@[simp] theorem State.pass_es (s : State) (dt : Nat) (f : Fld) (i : Nat) : (s.pass dt).es f i = s.es f i := rfl
@[simp] theorem State.pass_railsUp (s : State) (dt : Nat) (n : Nat) : (s.pass dt).railsUp n = s.railsUp n := rfl
@[simp] theorem State.pass_wantOn (s : State) (dt : Nat) (d : Nat) : (s.pass dt).wantOn d = s.wantOn d := rfl
@[simp] theorem State.pass_domain (s : State) (dt : Nat) (d : Nat) : (s.pass dt).domain d = s.domain d := rfl
@[simp] theorem State.pass_fireFrame (s : State) (dt : Nat) (n : Nat) : (s.pass dt).fireFrame n = s.fireFrame n := rfl
@[simp] theorem State.pass_wakeEnabled (s : State) (dt : Nat) (n : Nat) : (s.pass dt).wakeEnabled n = s.wakeEnabled n := rfl
@[simp] theorem State.pass_sched (s : State) (dt : Nat) (n : Nat) : (s.pass dt).sched n = s.sched n := rfl
@[simp] theorem State.pass_servo (s : State) (dt : Nat) (b : Nat) : (s.pass dt).servo b = s.servo b := rfl
@[simp] theorem State.pass_valid (s : State) (dt : Nat) (b : Nat) : (s.pass dt).valid b = s.valid b := rfl
@[simp] theorem State.pass_src (s : State) (dt : Nat) : (s.pass dt).src = s.src := rfl
@[simp] theorem State.pass_standsIn (s : State) (dt : Nat) : (s.pass dt).standsIn = s.standsIn := rfl
@[simp] theorem State.pass_trainReady (s : State) (dt : Nat) : (s.pass dt).trainReady = s.trainReady := rfl
@[simp] theorem State.pass_tailLets (s : State) (dt : Nat) (ch : Nat) : (s.pass dt).tailLets ch = s.tailLets ch := rfl
@[simp] theorem State.pass_winEnd (s : State) (dt : Nat) : (s.pass dt).winEnd = s.winEnd := rfl
@[simp] theorem State.pass_classIn (s : State) (dt : Nat) (c : Nat) : (s.pass dt).classIn c = s.classIn c := rfl
@[simp] theorem State.pass_causes (s : State) (dt : Nat) : (s.pass dt).causes = s.causes := rfl
@[simp] theorem State.pass_anyCause (s : State) (dt : Nat) : (s.pass dt).anyCause = s.anyCause := rfl
@[simp] theorem State.pass_hardCause (s : State) (dt : Nat) : (s.pass dt).hardCause = s.hardCause := rfl
@[simp] theorem State.pass_meanPower (s : State) (dt : Nat) : (s.pass dt).meanPower = s.meanPower := rfl
@[simp] theorem State.pass_upstream (s : State) (dt : Nat) : (s.pass dt).upstream = s.upstream := rfl
@[simp] theorem State.pass_tellsValid (s : State) (dt : Nat) (b : Nat) : (s.pass dt).tellsValid b = s.tellsValid b := rfl
@[simp] theorem State.pass_phi (s : State) (dt : Nat) : (s.pass dt).phi = s.phi := rfl
@[simp] theorem State.pass_target (s : State) (dt : Nat) : (s.pass dt).target = s.target := rfl
@[simp] theorem State.pass_slew (s : State) (dt : Nat) : (s.pass dt).slew = s.slew := rfl
@[simp] theorem State.pass_heldPics (s : State) (dt : Nat) : (s.pass dt).heldPics = s.heldPics := rfl
@[simp] theorem State.pass_waitPending (s : State) (dt : Nat) (f : FireFrame) : (s.pass dt).waitPending f = s.waitPending f := rfl
@[simp] theorem State.pass_liveShort (s : State) (dt : Nat) : (s.pass dt).liveShort = s.liveShort := rfl

end Sys2Proof.Machine
end

