-- ==== Sys2Proof/Laws/Rows.lean ====
section
/-! SUPPORT. What the rows that are register accesses of their own do once they are let through (R5, R17, R429). -/

namespace Sys2Proof.Machine

/-- An access that is let through runs. -/
theorem State.atRow_open {s : State} {a n : Nat} (h : s.rowOpen a n = true) (f : State → State) : (s.pass 0).atRow a n f = f (s.pass 0) := by
  have h1 : s.alive = true ∧ s.rowBar a n = none := by simpa [State.rowOpen] using h
  have h2 : (s.pass 0).rowBar a n = none := h1.2
  simp [State.atRow, h1.1, h2]

/-- A register write that is let through stores its word and answers DONE. -/
theorem State.writeTold_stored {s : State} {a : Nat} {v : Word} (h : s.lets a v) (hb : base3 a = false)
    (hf : (fieldsAt a).isEmpty = false) (ho : Reg.TIME_BASE_W7_OFFSET_IN.elem? a = none) :
    s.writeTold a v = ((s.pass 0).storeReg a v).emit .reply [] [0] := by
  have hw : (s.pass 0).writeReg a v = (none, (s.pass 0).storeReg a v) := by
    simp only [State.writeReg, hb, hf, ho, State.pass_writeBar, h.2]
    rfl
  rw [State.writeTold, State.atRow_open h.1, hw]
  have h0 : pack [(28, 0), (0, 0)] = 0 := by decide
  show ((s.pass 0).storeReg a v).emit .reply [] [pack [(28, 0), (0, 0)]] = _
  rw [h0]

/-- The word at an address has fields, none of which does more when written than hold its value. -/
def quietAddr (a : Nat) : Bool :=
  !base3 a && !(fieldsAt a).isEmpty && a ≠ 0x90020 && a ≠ 0x90021
  && [Reg.TIME_BASE_W7_OFFSET_IN, Reg.TIME_BASE_W3_INCR, Reg.LINK_LANE_W1_HOLD, Reg.LINK_PORT_W0_EN, Reg.CLOCK_SYN_W0_RELOCK,
      Reg.TIME_BASE_W4_MODE, Reg.CLOCK_CKO_FORMAT].all (fun f => (f.elem? a).isNone)
  && [Reg.EMIT_HEAD_CTRL_SCAN_EN, Reg.MEM_CTRL_SP_SEL, Reg.EMIT_UPDATE_CTRL_FULL_NEXT, Reg.CAL_AMB_CTRL_AMB_EN, Reg.LINK_EYE_CTRL_START,
      Reg.DECODE_POOL_CTRL_BUF_COUNT, Reg.DECODE_POOL_BASE_POOL_BASE].all (fun f => a ≠ f.addr)
  && !(0x52040 ≤ a && a < 0x52090) && !(0x52400 ≤ a && a < 0x52500)

/-- A write of such a word that is let through does nothing beyond its fields. -/
theorem State.writeTold_quiet {s : State} {a : Nat} {v : Word} (h : s.lets a v) (hq : quietAddr a = true) :
    s.writeTold a v = (s.wrote a v).emit .reply [] [0] := by
  simp only [quietAddr, List.all_cons, List.all_nil, Bool.and_eq_true, Bool.not_eq_true', decide_eq_true_eq, Option.isNone_iff_eq_none,
    ne_eq, Bool.and_true] at hq
  obtain ⟨⟨⟨⟨⟨⟨⟨hb, hf⟩, hg⟩, hm⟩, ho, hi, hh, hp, hr, hw, hc⟩, h1, h2, h3, h4, h5, h6, h7⟩, h8⟩, h9⟩ := hq
  rw [State.writeTold_stored h hb hf ho]
  simp [State.storeReg, State.writeAfter, State.wrote, hg, hm, hi, hh, hp, hr, hw, hc, h1, h2, h3, h4, h5, h6, h7]
  simp only [Bool.and_eq_false_iff, decide_eq_false_iff_not] at h8 h9
  rw [if_neg (by omega), if_neg (by omega)]
  rfl

end Sys2Proof.Machine
end

