-- ==== Sys2Proof/Tests/Slice0.lean ====
section
/-! SUPPORT. Tests: terms that `Instr.wf` refuses, the spec's worked examples, and for every obligation with hypotheses a state and operands
that meet them. Expected values are the spec's. -/

namespace Sys2Proof.Machine

/-! ### A device to test on -/

set_option Elab.async false
set_option linter.unusedVariables false

/-- A command as it comes over SPI. -/
def tCmd (ps : List Word) : Cmd := ⟨⟨.spi, 0, 0, 0, []⟩, 1, 0, ps, none, 0, 0⟩
/-- A command to the manager itself. -/
def mCmd (ps : List Word) : Cmd := { tCmd ps with route := 0xC00000000 }
/-- A command to every tile, as it comes over Cawell. -/
def wCmd (ps : List Word) : Cmd := { tCmd ps with src := ⟨.cawell, 0, 0, 0, []⟩, route := 0x800000000 }
/-- A claimed device in glost, its DRAM trained and a domain of every block up. -/
def tDev (role : Nat) : State :=
  { State.reset with
    regs := (Reg.MGMT_STRAPS_CLAIM.key 0, 1) :: (if role = 0 then [] else [(Reg.MGMT_STRAPS_ROLE.key 0, role)])
      ++ [(Reg.MGMT_STAGE_DRAM.key 0, 1), (Reg.MGMT_STAGE_MP.key 0, 1), (Reg.MGMT_STAGE_STAGE.key 0, 2), (Reg.SECURE_LINK_STATE.key 0, 1)]
      ++ ([1, 2, 3, 4, 5, 6, 7, 8, 9, 10, 11, 12, 25, 26, 27, 28, 29, 33, 36, 68, 69, 70, 71, 72, 82, 83].map (fun d => (Reg.HEARTH_DOMAIN_STATE.key d, 2)))
      ++ [(Reg.MEM_STATUS_TRAINED.key 0, 1), (Reg.MEM_MAP_0002_OWNER_TOP.key 0, 100000)]
    start := { StartState.reset with powered := true, sampled := true } }
/-- Sectors of zeros that pass their check. -/
def tFill (n k : Nat) : List Host.Cell := (List.range' n k).map (fun i => (32 * i + 31, 0xF0))
/-- The worker with a DRAM. -/
def tHas (d : List Host.Cell) : State := { tDev 0 with dram := d }

theorem tFill_get (n x : Nat) : ∀ k, sget (0 : Byte) (tFill n k) x = if x % 32 = 31 ∧ n ≤ x / 32 ∧ x / 32 < n + k then 0xF0 else 0 := by
  intro k
  induction k generalizing n with
  | zero => rw [if_neg (by omega)]; rfl
  | succ k ih =>
    simp only [tFill, List.range'_succ, List.map_cons, sget, sfind] at ih ⊢
    split
    · rw [if_pos (by omega)]; rfl
    · rw [ih (n + 1)]
      congr 1
      apply propext
      omega

theorem tFill_good {n k i : Nat} (h : n ≤ i) (h' : i < n + k) : sectorGood (tFill n k) i = true := by
  rw [sectorGood, sectorBits_congr (e := tFill 0 1) (m := 0)
    (fun j hj => by rw [tFill_get, tFill_get]; congr 1; apply propext; omega)]
  decide +kernel

theorem tFill_firstBad {n k a c : Nat} (h : 7 * n ≤ a) (h' : a + c ≤ 7 * (n + k)) : firstBad (tFill n k) a c = none := by
  unfold firstBad
  split
  · rfl
  · rw [List.find?_eq_none]
    intro i hi
    rw [List.mem_range'_1] at hi
    simp [tFill_good (n := n) (k := k) (i := i) (by omega) (by omega)]

theorem tFill_store {n k a fuel : Nat} {ws : List Word} (h : 7 * n ≤ a) (h' : a + ws.length ≤ 7 * (n + k)) :
    ∃ d, storeRun fuel (tFill n k) a ws = (d, none) :=
  ⟨_, Prod.ext rfl (storeRun_done _ _ _ _ (fun i hi => tFill_good (n := n) (k := k) (by omega) (by omega)))⟩

/-- Sectors of words that are legal in a loss table. -/
def tLoss (n : Nat) : Nat → List Host.Cell
  | 0 => []
  | k + 1 => writeSector (tLoss n k) (n + k) (List.replicate 7 0x200008000)

theorem tLoss_bits (n : Nat) : ∀ k i, n ≤ i → i < n + k →
    sectorBits (tLoss n k) i = sectorBits (writeSector [] 0 (List.replicate 7 0x200008000)) 0
  | 0, _, _, _ => by omega
  | k + 1, i, h, h' => by
    rw [tLoss]
    by_cases e : i = n + k
    · rw [e, sectorBits_writeSector_same]
    · rw [sectorBits_writeSector_other _ e, tLoss_bits n k i h (by omega)]

theorem tLoss_firstBad {n k a c : Nat} (h : 7 * n ≤ a) (h' : a + c ≤ 7 * (n + k)) : firstBad (tLoss n k) a c = none := by
  unfold firstBad
  split
  · rfl
  · rw [List.find?_eq_none]
    intro i hi
    rw [List.mem_range'_1] at hi
    rw [sectorGood, tLoss_bits n k i (by omega) (by omega)]
    decide +kernel

theorem tLoss_words {n k a c : Nat} (h : 7 * n ≤ a) (h' : a + c ≤ 7 * (n + k)) :
    dramWords (tLoss n k) a c = List.replicate c 0x200008000 := by
  refine List.ext_getElem (by simp [dramWords]) (fun i hi _ => ?_)
  simp only [dramWords, List.length_map, List.length_range] at hi
  simp only [dramWords, List.getElem_map, List.getElem_range, List.getElem_replicate, dramWord]
  rw [tLoss_bits n k ((a + i) / 7) (by omega) (by omega)]
  have : ∀ j, j < 7 → nthW (sectorWords (sectorBits (writeSector [] 0 (List.replicate 7 0x200008000)) 0)) j = 0x200008000 := by
    decide +kernel
  exact this _ (by omega)

/-- Fifteen sectors of words that are legal in a loss table. -/
@[irreducible] def tLossCells : List Host.Cell := tLoss 2 15

theorem tLossCells_firstBad {a c : Nat} (h : 14 ≤ a) (h' : a + c ≤ 119) : firstBad tLossCells a c = none := by
  unfold tLossCells
  exact tLoss_firstBad (by omega) (by omega)

theorem tLossCells_good {a : Nat} (h : 14 ≤ a) (h' : a + 99 ≤ 119) (w : Nat) (hw : w < 99) :
    lossWordBad (dramWords tLossCells a 99) w = false := by
  unfold tLossCells
  rw [tLoss_words (by omega) (by omega)]
  exact (by decide +kernel : ∀ w, w < 99 → lossWordBad (List.replicate 99 0x200008000) w = false) w hw

/-- The head of a picture. -/
def tHead : PicHead :=
  { profile := 1, wpp := false, sepPlanes := false, extPrec := false, bypassAlign := false, dpb := 1, output := true, poc := 0, uses := [],
    keeps := [], width := 16, height := 16, chroma := 1, depth := 8, ctu := 16, full := false, matrix := none }

/-! ### Ill-formed commands -/

/-- Ill-formed commands: no such port. -/
theorem test_refuses_ports : List.any (α := Instr)
    [.linkActivityWake 4, .lresetReceive 4, .sessionGraceExpiry 4, .rekeyExpiry 4, .lNocredReceive 4, .lHelloReceive 4 [],
     .lProofReceive 4 [], .ctrlSuperblockReceive 4 [] 0, .portHelloTimeout 4, .cawellPacketReceive 4 [] false 0, .replayTimeout 4,
     .tReqReceive 4 [] 0 0, .tRespReceive 4 [] false 0, .tFupReceive 4 [] false 0, .ethLinkChange 4 true 0,
     .networkControlPacket ⟨0, 4, 0, 0, true, false, none, []⟩ 0]
    Instr.wf = false := by decide +kernel

/-- Ill-formed commands: no such lane, head or group. -/
theorem test_refuses_lanes : List.any (α := Instr)
    [.eyeStart 32, .laneEqWrite 32 0, .laneHoldWrite 16 true, .rectPacketSent 16 [], .readbackTimeout 16, .faultReportMissing 16,
     .laneStart 32, .laneStartFail 32, .superblockReceive 32 [] 0, .superblockSlotSend 32 0, .probeLine 2 true, .failDarkFallback 16]
    Instr.wf = false := by decide +kernel

/-- Ill-formed commands: no such element. -/
theorem test_refuses_elements : List.any (α := Instr)
    [.pgoodFall 4, .pgoodRise 4 0, .strapSample 4 0 true true, .strapSample 0 16 true true, .coldStandbyWake 8, .hostSessionExpiry 16,
     .keyUntilExpiry 64, .captureFifoRead 2, .synRelockWrite 4, .ckoArm 4, .ckoAlignEdge 4 0, .offsetInWrite 3 0, .spSelWrite 2,
     .slotDescriptorWrite 32 0 0, .slotDescriptorWrite 0 11 0, .driveConeWrite 16 0 0, .driveConeWrite 0 18 0, .liveFlowWrite 2 0 0,
     .liveFlowWrite 0 4 0, .encodeMapWrite 256 0, .groupEntryWrite 16 0 0, .groupEntryWrite 0 5 0, .teEdge 2 0,
     .ctuRowEncoded 2 ⟨[], [], [], []⟩ 0, .ptpDelayReqSend 2 0, .ptpTimeout 2, .baseValidityTimeout 3,
     .peerMessageReceive 3 (List.replicate 5 0) [] 0, .sliceSegmentDecoded 8 ⟨[], [], none, false, false, []⟩, .pictureEnd 8 none,
     .domainRampTimeout 0, .domainRampTimeout 84, .domainRetry 0, .domainRetry 84, .domainPowerGood 0 0, .domainPowerGood 84 0,
     .dramTrainingDone 16 none none 0 0 false 0, .dramTrainingDone 0 (some 4) none 0 0 false 0,
     .dramTrainingDone 0 none (some 4) 0 0 false 0, .dramTrainingDone 0 none none 16 0 false 0,
     .dramTrainingDone 0 none none 0 3 false 0, .oscCheck 4 0 0, .refreshDue 4 0 0, .mr4Read 4 0 false 0, .mr4Read 0 32 false 0,
     .selfRefreshEntry 4 false, .captureEdge 2 true 0, .synLockLoss 4 0, .synRelockDone 10 0 0 0, .bandSearchRetry 4,
     .eyeMeasureDone 64 0, .eyeMeasureDone 0 32]
    Instr.wf = false := by decide +kernel

/-- Ill-formed commands: a number or a length out of range. -/
theorem test_refuses_sizes : List.any (α := Instr)
    [.ping { tCmd [] with tag := 4096 }, .ping (tCmd (List.replicate 1019 0)), .ping { tCmd [] with inPort := 4 },
     .registerWrite (2 ^ 20) 0, .latchingRead (2 ^ 20) 1, .latchingRead 0 0, .latchingRead 0 1019, .bisqueWriteDone (some (2 ^ 28)),
     .ownerFlashWriteDone (some (2 ^ 28)), .updateStageDone (some (2 ^ 28)), .calSaveDone (some (2 ^ 28)),
     .spiCommand (List.replicate 4609 0) 0, .spiReplyRead 1025, .shelfWindowLoaded (2 ^ 48) 0 [], .shelfWindowLoaded 0 256 [],
     .shelfWindowLoaded 0 0 [(2 ^ 28, false)], .bandFireComplete (2 ^ 48) 0, .bandFireComplete 0 256,
     .rectPacketSent 0 [⟨0, 2 ^ 28, false⟩], .glazeRay [786432], .readbackReceive (List.replicate 1025 0),
     .faultMapReceive (List.replicate 1025 0), .superblockReceive 0 (List.replicate 36 0) 0,
     .ctrlSuperblockReceive 0 (List.replicate 33 0) 0, .cawellPacketReceive 0 (List.replicate 1022 0) false 0,
     .lHelloReceive 0 (List.replicate 1022 0), .lProofReceive 0 (List.replicate 1022 0), .tReqReceive 0 (List.replicate 33 0) 0 0,
     .tRespReceive 0 (List.replicate 33 0) false 0, .tFupReceive 0 (List.replicate 33 0) false 0, .ingestWindowEnd [[], [], []],
     .spyPictureCoded (2 ^ 48) [] ⟨[], none, 0, 0, false, [], []⟩, .peerMessageReceive 0 (List.replicate 6 0) [] 0,
     .peerMessageReceive 0 (List.replicate 5 0) (List.replicate 1017 0) 0, .streamPacketReceive (List.replicate 1022 0),
     .batchHeaderParse [⟨0, 2 ^ 28, false⟩], .chunkReceive [⟨0, 2 ^ 28, false⟩], .liveParcelReceive [⟨0, 2 ^ 28, false⟩],
     .superblockSlotSend 0 0 [⟨0, 2 ^ 28, false⟩], .censusCompute (List.replicate 257 (0, [])),
     .censusCompute [(0, List.replicate 64 0)]]
    Instr.wf = false := by decide +kernel

/-- Ill-formed commands: a part out of range. -/
theorem test_refuses_contents : List.any (α := Instr)
    [.tick [(132, 0)] [] false, .tick [(0, 0)] [] false, .tick [] [⟨0, 0, 0, 0, [], none⟩] false,
     .tick [] [⟨10, 0, 0, 0, [], none⟩] false, .tick [] [⟨1, 8, 0, 0, [], none⟩] false, .tick [] [⟨1, 0, 0, 0, [], some 32⟩] false,
     .tick [] [⟨1, 0, 0, 0, [(12, 0)], none⟩] false, .tick [] [⟨1, 4, 32, 0, [], none⟩] false,
     .tick [] [⟨1, 5, 5, 0, [], none⟩] false, .tick [] [⟨1, 6, 2, 0, [], none⟩] false, .tick [] [⟨1, 7, 100, 0, [], none⟩] false,
     .tick [] [⟨1, 0, 1, 0, [], none⟩] false, .planProjection [(1, 0)] [] 0,
     .udpCommandDatagram ⟨false, false, 0, 0⟩ (0, 0) [] 0 4 none true,
     .udpCommandDatagram ⟨false, false, 0, 0⟩ (0, 0) [] 0 0 (some 4096) true,
     .udpCommandDatagram ⟨false, false, 2 ^ 32, 0⟩ (0, 0) [] 0 0 none true,
     .rtpSlabPacket 0 none true ⟨false, true, 2 ^ 128, 0⟩ (0, 0) [] 0,
     .rtpSlabPacket 0 none true ⟨false, false, 0, 2 ^ 32⟩ (0, 0) [] 0,
     .rtpSlabPacket 0 none true ⟨false, true, 0, 2 ^ 128⟩ (0, 0) [] 0,
     .liveFlowPacket 0 none true ⟨false, false, 0, 0⟩ (65536, 0) [] 0,
     .liveFlowPacket 0 none true ⟨false, false, 0, 0⟩ (0, 65536) [] 0,
     .ptpMessageReceive ⟨16, 2, 0, 0, 0, 0, false, 0, 0, 0, [], true, false⟩ 0,
     .ptpMessageReceive ⟨0, 2, 0, 256, 0, 0, false, 0, 0, 0, [], true, false⟩ 0,
     .ptpMessageReceive ⟨0, 2, 0, 0, 0, 65536, false, 0, 0, 0, [], true, false⟩ 0, .pictureBegin 8 tHead,
     .pictureBegin 0 { tHead with ctu := 8 },
     .housekeepingRound ⟨[], List.replicate 8 0, List.replicate 12 0, [0, 0, 0], 0, List.replicate 8 none⟩,
     .housekeepingRound ⟨List.replicate 16 none, [], List.replicate 12 0, [0, 0, 0], 0, List.replicate 8 none⟩,
     .housekeepingRound ⟨List.replicate 16 none, List.replicate 8 0, [], [0, 0, 0], 0, List.replicate 8 none⟩,
     .housekeepingRound ⟨List.replicate 16 none, List.replicate 8 0, List.replicate 12 0, [], 0, List.replicate 8 none⟩,
     .housekeepingRound ⟨List.replicate 16 none, List.replicate 8 0, List.replicate 12 0, [0, 0, 0], 0, []⟩]
    Instr.wf = false := by decide +kernel

theorem test_refuses_longDatagram :
    (Instr.udpCommandDatagram ⟨false, false, 0, 0⟩ (0, 0) (List.replicate 65508 0) 0).wf = false := by
  simp [Instr.wf, dgramWf, Datagram.of, -List.reduceReplicate]

/-! ### Statements about all states, operations or words: a state and operands that meet their hypotheses -/

theorem witness_EmptyQueueIdles : (tDev 0).pending = [] := rfl

theorem witness_StepKeepsMemoryCanonical :
    ∃ t, State.memOk { tDev 0 with pending := [.sealLift] } = true ∧ step { tDev 0 with pending := [.sealLift] } = .next t :=
  ⟨_, rfl, rfl⟩

theorem witness_SlotRoundTrip : (List.replicate 32 (5 : Word)).length = 32 ∧ 0x066 < 512 := by decide

theorem witness_WordPairPacking : 2 * 1 < ([1, 2, 3] : List Word).length ∧ ([1, 2, 3] : List Word).length % 2 = 1 := by decide

theorem witness_StoreReadsBack : ∃ d, storeRun (([1, 2] : List Word).length + 1) (tFill 2 1) 15 [1, 2] = (d, none)
    ∧ (∃ i, i < ([1, 2] : List Word).length) ∧ ∃ b : Nat, b < 15 := by
  obtain ⟨d, h⟩ := tFill_store (n := 2) (k := 1) (a := 15) (fuel := _) (ws := [1, 2]) (by decide) (by decide)
  exact ⟨d, h, ⟨1, by decide⟩, ⟨3, by decide⟩⟩

theorem witness_EventRaised : 65 < 1024 ∧ 65 ≠ 24 ∧ 65 ≠ 25 ∧ ((tDev 0).raise 70 0).r Reg.MGMT_EVT_COUNT 65 < 4096
    ∧ ((tDev 0).raise 70 0).latched 70 = true ∧ Reg.MGMT_STRAPS_ROLE ∈ allFields ∧ 0 < Reg.MGMT_STRAPS_ROLE.count
    ∧ Reg.MGMT_STRAPS_ROLE.ofFabric = false := by
  and_intros <;> decide +kernel

theorem witness_DeviceResetKeeps : 7 < 8 := by decide

/-- A field of each access at an address, with and without an update of the same clock; a field at another address. -/
theorem witness_FieldWrites :
    ((Reg.EMIT_HEAD_CTRL_TE_SEL, 0) ∈ fieldsAt 0xB0001 ∧ Reg.EMIT_HEAD_CTRL_TE_SEL.acc = .RW
      ∧ (tDev 0).hwDone Reg.EMIT_HEAD_CTRL_TE_SEL 0 = 0)
    ∧ ((Reg.MGMT_STRAPS_ROLE, 0) ∈ fieldsAt 0x10 ∧ Reg.MGMT_STRAPS_ROLE.acc = .RO)
    ∧ ((Reg.EMIT_READBACK_MISMATCH, 0) ∈ fieldsAt 0xB00A1 ∧ Reg.EMIT_READBACK_MISMATCH.acc = .W1C
      ∧ ((tDev 0).flag Reg.EMIT_READBACK_MISMATCH 4).hwDone Reg.EMIT_READBACK_MISMATCH 0 ≠ 0
      ∧ flagField Reg.EMIT_READBACK_MISMATCH = true)
    ∧ ((Reg.LINK_PORT_W2_DAMAGED, 1) ∈ fieldsAt (Reg.LINK_PORT_W2_DAMAGED.at 1) ∧ Reg.LINK_PORT_W2_DAMAGED.acc = .W1C
      ∧ ((tDev 0).count Reg.LINK_PORT_W2_DAMAGED 1).hwDone Reg.LINK_PORT_W2_DAMAGED 1 ≠ 0
      ∧ flagField Reg.LINK_PORT_W2_DAMAGED = false)
    ∧ (Reg.MGMT_STRAPS_ROLE ∈ allFields ∧ 0 < Reg.MGMT_STRAPS_ROLE.count ∧ Reg.MGMT_STRAPS_ROLE.at 0 ≠ 0xB0001) := by
  and_intros <;> decide +kernel

theorem witness_WriteFrame :
    (tDev 0).lets 0x90010 (rwWord (tDev 0).regs 0x90010) ∧ (tDev 0).lets 0x40026 (rwWord (tDev 0).regs 0x40026)
    ∧ (tDev 0).lets 0xB0000 (rwWord (tDev 0).regs 0xB0000) ∧ (tDev 0).lets 0x90131 (rwWord (tDev 0).regs 0x90131)
    ∧ (tDev 1).lets 0x80103 (rwWord (tDev 1).regs 0x80103)
    ∧ (tDev 0).lets (Reg.EMIT_DRIVE_CONE_W0_BLANK_CLKS.at 3 + 1) (rwWord (tDev 0).regs (Reg.EMIT_DRIVE_CONE_W0_BLANK_CLKS.at 3 + 1))
    ∧ (tDev 1).lets 0x52015 (rwWord (tDev 1).regs 0x52015)
    ∧ ((tDev 0).w Reg.LINK_LANE_W1_HOLD 1 3).lets (Reg.LINK_LANE_W0_TX_INV.at 3) 0 := by
  and_intros <;> decide +kernel

theorem witness_CommandFrame :
    (tDev 0).served opPing (tCmd []) = true ∧ (tDev 0).served opStageStatus (tCmd []) = true
    ∧ (tDev 0).served opTimeRead (tCmd [0]) = true
    ∧ (tDev 0).served opRouteSet (tCmd [BitVec.ofNat 36 (2046 * 2 ^ 23 + 2 * 2 ^ 11), 5, 6]) = true
    ∧ (tDev 0).served opBakeOpen (tCmd [1, 0, 9]) = true ∧ (tDev 0).served opBakeWrite (tCmd [0xB0000, 0]) = true
    ∧ (tDev 0).served opBakeAbort (tCmd []) = true := by
  and_intros <;> decide +kernel

theorem witness_EventPin : ∀ e, e < 1024 → State.reset.rb Reg.MGMT_EVT_LATCH e = false := by decide +kernel

theorem witness_RasterOperations : 6 < 16 ∧ 35 < 36 := by decide

theorem witness_SceneCoordinates :
    let g : Grid := gridOf (rset (rset [] Reg.KILN_GRID_HW_M1 0 191) Reg.KILN_MOUNT_ROT 0 1)
    g.rot < 4 ∧ 191 < g.hw ∧ 0 < g.hh ∧ 0 < g.vw ∧ 0 < g.vh ∧ 0 < g.sw ∧ 0 < g.sh ∧ 0 < g.svw ∧ 0 < g.svh := by
  and_intros <;> decide +kernel

theorem witness_UnplacedForwarding :
    let s := (tDev 0).w Reg.LINK_PORT_W1_STATE 2 2
    s.isMgr = false ∧ s.rb Reg.LINK_POS_PLACED = false ∧ h1Type 0 = 0 ∧ h1Type (pack [(34, 3)]) = 3 ∧ h1Type (pack [(34, 1)]) = 1
    ∧ h1Type (pack [(34, 2)]) = 2 ∧ s.portOpen ((0 + 2) % 4) = true ∧ s.portOpen ((1 + 2) % 4) = false := by
  and_intros <;> decide +kernel

theorem witness_PlainTexels :
    let r : RegFile := rsets [] [(Reg.KILN_SURF_W1_W_M1, 3, 15), (Reg.KILN_SURF_W2_STRIDE_M1, 3, 15)]
    rget r Reg.KILN_SURF_W1_CRUMB 3 = 0 ∧ 4 + 8 ≤ rget r Reg.KILN_SURF_W1_W_M1 3 + 1
    ∧ 2 * 16 + 5 ∈ (surfOf r 3).windowWords [] 4 8 [2] := by
  and_intros <;> decide +kernel

/-- Words that differ in reserved bits alone; a reserved bit. -/
theorem witness_ReservedBits :
    (∀ p ∈ fieldsAt 0x10, bits (0 : Word) p.1.hi p.1.lo = bits (1 : Word) p.1.hi p.1.lo) ∧ 0 < 36
    ∧ ∀ p ∈ fieldsAt 0x10, 0 < p.1.lo ∨ p.1.hi < 0 := by
  and_intros <;> decide +kernel

theorem witness_CommandQueues : (tDev 0).queuesOk = true := by decide +kernel

theorem witness_CodeConversion : 255 < 256 := by decide

theorem witness_CommitOrder : (4 : Nat) ≠ 3 := by decide

theorem witness_BasesAdvance : (tDev 0).time.stopped = false ∧ 2 < 3 := by decide +kernel

/-- The premises of the clause of `Obligations.SecureRowsTakeEffect` on a proof that is accepted, but for the signature: whether one
verifies is `Config.ecdsaVerify`, which has no body. -/
theorem witness_acceptedProof (role gen : Nat) (words : List Word)
    (h : (((tDev 0).w Reg.LINK_PORT_W1_STATE 2 1).setLink 1 ⟨true, 0, some 5, 0⟩ |>.pass 0).proofOf 1 words = some (role, gen)) :
    let s := ((tDev 0).w Reg.LINK_PORT_W1_STATE 2 1).setLink 1 ⟨true, 0, some 5, 0⟩
    1 < 4 ∧ s.portUp 1 = true ∧ (s.link_ 1).begun = true ∧ (s.pass 0).proofOf 1 words = some (role, gen) :=
  ⟨by decide, by decide +kernel, by decide +kernel, h⟩

/-! ### Worked examples of the spec -/

/-- spec/04: one texel of the pennant atlas. -/
theorem test_atlas_texel :
    toRgb 1 false 600 400 700 = [964, 549, 389] ∧ texel (to9 964) (to9 549) (to9 389) (to9 812) = 0xF144D8796 := by decide +kernel

/-- spec/05: the fringe tap of slot 5, its filter, the three slots blended. -/
theorem test_pennant_ray :
    alpha18 40 = 20520 ∧ alpha18 255 = 130815
    ∧ filterTaps 160 64 [198100, 2367, 4419, 262144] [198100, 2367, 4419, 262144] [198100, 2367, 4419, 262144]
        [98856, 1181, 2205, 130815] = [182593, 2182, 4073, 241624]
    ∧ blendRay 10 [9, 9, 9] [[6357, 7328, 9494, 20520], [182593, 2182, 4073, 241624], [10816, 33287, 5747, 262144]]
        = ⟨0, 175437, 11741, 13663, 3, false, true⟩ := by decide +kernel

/-- spec/06: word 1 and the first texel of a delta block. -/
theorem test_delta_block :
    texel 120 200 90 511 = 0x3C320B5FF
    ∧ deltaTexel 0x3C320B5FF 0x000002320 (fun i => if i = 0 then pack [(29, 0x38)] else 0) 0 = texel 121 198 90 511
    ∧ crumbBlocks 448 256 = 1792 := by decide +kernel

/-- spec/07: stages 3 to 7 of the pennant ray. -/
theorem test_glaze_ray :
    gain 40804 32112 = 39987 ∧ gain 39987 33784 = 41227 ∧ brtEff 39321 = 39322 ∧ dimSplit 39322 0 0 = (9, 62915)
    ∧ dither true true 2000000 100 20 90 1 = 14 ∧ stage7 39578 14 = 2474 ∧ rayWord 2474 104 213 = 0x9AA0680D5 := by decide +kernel

/-- spec/08: the hogel on 1 June. -/
theorem test_hogel_gain :
    logCode 45000000000000000 = 14143 ∧ tableGain [(31, 34406), (32, 35062)] 0 45000000000000000 = 34729
    ∧ scaledGain 16384 34729 = 34729 ∧ scaledGain 16640 35497 = 35540 ∧ agingInc 1200 15 6922 256 = 132902400 := by decide +kernel

/-- spec/09, spec/10: the store address of the pennant ray and of the open die. -/
theorem test_store_address :
    let g : Grid := gridOf (writeRaw (writeRaw [] 0x90020 0x005FB5DF5) 0x90021 0)
    let q := geoOf (writeRaw [] 0x90020 0x005FB5DF5) (rsets [] [(Reg.EMIT_HEAD_CTRL_HEAD_B, 0, 1), (Reg.EMIT_HEAD_CTRL_NL_M1, 0, 7),
      (Reg.EMIT_SCAN_CTRL_COMMONS_M1, 0, 31), (Reg.EMIT_SCAN_CTRL_SUB32, 0, 1)])
    (g.hw, g.hh, g.vw, g.vh) = (192, 108, 96, 6) ∧ q.laneOf 100 20 = 4 ∧ q.addr 100 20 90 1 = 708553 ∧ q.addr 100 20 89 1 = 685237 := by
  decide +kernel

/-- spec/10: the map entry, and the neighbour's word under FILL. -/
theorem test_fill :
    FaultEntry.word ⟨4, 0, 1, false, 685237, 0⟩ = 0x4100A74B5
    ∧ fillWord [(89, 1, 0)] 128 96 (fun x _ => if x = 89 then rayWord 2466 104 213 else 0x9AA0680D5) 90 1 = 0xE7B0680D5 := by
  decide +kernel

/-- spec/14: the crowd camera's budgets. -/
theorem test_row_budgets :
    tileBudget 60000 120 1 61440 2073600 = 14814
    ∧ (List.range 6).map (rowBudget 14814 [4000, 3000, 2400, 2000, 1800, 1600] 6) = [3236, 2735, 2435, 2235, 2135, 2035]
    ∧ (TileRc.begin_ ⟨[], [], 0, 0, 490, 0, false, false⟩ 14814 4).budget = 14324 := by decide +kernel

/-! ### Commands that complete: for each clause of a statement a state and operands that meet its premises -/

/-- Each clause of `Obligations.StatusCommandsAnswer` has its premises met. -/
theorem witness_StatusCommandsAnswer :
    (let cm : Cmd := tCmd []; let st : State := tDev 0; st.served opPing cm = true)
    ∧ (let cm : Cmd := tCmd []; let st : State := tDev 0; st.served opStageStatus cm = true)
    ∧ (let cm : Cmd := tCmd [0]; let st : State := tDev 0; st.served opTimeRead cm = true)
    ∧ (let cm : Cmd := tCmd [0x100100002]; let st : State := tDev 0; st.served opReadReg cm = true ∧ ((fun c _ => rangeOk (bits (nthW c.params 0) 19 0) (bits (nthW c.params 0) 31 20) = true ∧ bits (nthW c.params 0) 31 20 ≤ 1018) : Cmd → State → Prop) cm (st.handed opReadReg cm))
    ∧ (let cm : Cmd := tCmd [0, 5]; let st : State := tDev 0; st.served opLogRead cm = true ∧ ((fun c h => h.dramUp = true ∧ bits (nthW c.params 1) 7 0 ≠ 0 ∧ bits (nthW c.params 1) 7 0 ≠ 255) : Cmd → State → Prop) cm (st.handed opLogRead cm)) := by
  and_intros <;> decide +kernel

/-- Each clause of `Obligations.RegisterCommandsTakeEffect` has its premises met. -/
theorem witness_RegisterCommandsTakeEffect :
    (let cm : Cmd := tCmd [0x100000 + BitVec.ofNat 36 (Reg.DECODE_CTRL_HASH_CHECK.at 0), 7]; let st : State := tDev 0; st.served opWriteReg cm = true ∧ (
      (fun c h =>
        let a := bits (nthW c.params 0) 19 0
        let v := nthW c.params 1
        c.params.length = 2 ∧ bits (nthW c.params 0) 31 20 = 1 ∧ bit (nthW c.params 0) 34 = false ∧ rangeOk a 1 = true
        ∧ h.rb Reg.MGMT_BAKE_CTRL_STRICT = false ∧ base3 a = false ∧ (fieldsAt a).isEmpty = false
        ∧ Reg.TIME_BASE_W7_OFFSET_IN.elem? a = none ∧ h.writeBar a (h.masked a (BitVec.allOnes 36) v) = none) : Cmd → State → Prop) cm (st.handed opWriteReg cm))
    ∧ (let cm : Cmd := tCmd [1]; let st : State := tDev 0; st.served opSafeDark cm = true ∧ ((fun _ h => h.isMgr = false) : Cmd → State → Prop) cm (st.handed opSafeDark cm))
    ∧ (let cm : Cmd := mCmd [1]; let st : State := tDev 1; st.served opSafeDark cm = true ∧ ((fun _ h => h.isMgr = true) : Cmd → State → Prop) cm (st.handed opSafeDark cm))
    ∧ (let cm : Cmd := tCmd [BitVec.ofNat 36 (2046 * 2 ^ 23 + 2 * 2 ^ 11), 5, 6]; let st : State := tDev 0; st.served opRouteSet cm = true ∧ (
      (fun c _ =>
        let w := nthW c.params 0
        bits w 35 34 = 0 ∧ 1 ≤ bits w 22 11 ∧ bits w 22 11 ≤ 1017 ∧ c.params.length = bits w 22 11 + 1
        ∧ bits w 33 23 + bits w 22 11 ≤ 2048) : Cmd → State → Prop) cm (st.handed opRouteSet cm))
    ∧ (let cm : Cmd := mCmd [BitVec.ofNat 36 (2 ^ 34 + 1 * 2 ^ 11), 5]; let st : State := tDev 1; st.served opRouteSet cm = true ∧ (
      (fun c _ =>
        let w := nthW c.params 0
        bits w 35 34 = 1 ∧ 1 ≤ bits w 22 11 ∧ bits w 22 11 ≤ 1017 ∧ c.params.length = bits w 22 11 + 1) : Cmd → State → Prop) cm (st.handed opRouteSet cm)) := by
  and_intros <;> decide +kernel

/-- Each clause of `Obligations.PlacementCommandsTakeEffect` has its premises met. -/
theorem witness_PlacementCommandsTakeEffect :
    (let x : Nat := 3; let y : Nat := 4; let rot : Nat := 1; let cm : Cmd := tCmd [6, 99, BitVec.ofNat 36 (3 * 2 ^ 29 + 4 * 2 ^ 22 + 1 * 2 ^ 20)]; let st : State := { tDev 0 with link := { (tDev 0).link with nonce := 99, cnum := [some 6, none], map := ([0x3A11E5A9B, BitVec.ofNat 36 (2 ^ 32 + 7 * 2 ^ 24 + 1 * 2 ^ 15 + 1 * 2 ^ 11), 0, 0, BitVec.ofNat 36 (3 * 2 ^ 26 + 4 * 2 ^ 19), BitVec.ofNat 36 (3 * 2 ^ 29 + 4 * 2 ^ 22 + 1 * 2 ^ 20)] : List Word) } }; st.served opPlace cm = true ∧ (
      (fun c h =>
        c.params.length % 2 = 1 ∧ (placeEntries (c.params.drop 1)).find? (fun e => decide (e.1 = h.link.nonce)) = some (h.link.nonce, x, y, rot)
        ∧ h.link.mapBad = false ∧ h.link.map.isEmpty = false ∧ h.newCall c.src.addr (bits (nthW c.params 0) 15 0) = false
        ∧ (mapTiles h.link.map).contains (x, y, rot) = true ∧ ∀ p, p < 4 → h.contradicts x y rot p = false) : Cmd → State → Prop) cm (st.handed opPlace cm))
    ∧ (let cm : Cmd := tCmd [6, 99, BitVec.ofNat 36 (3 * 2 ^ 29 + 4 * 2 ^ 22 + 1 * 2 ^ 20)]; let st : State := tDev 0; st.served opPlace cm = true ∧ ((fun c h => c.params.length % 2 = 1 ∧ (placeEntries (c.params.drop 1)).find? (fun e => decide (e.1 = h.link.nonce)) = none) : Cmd → State → Prop) cm (st.handed opPlace cm))
    ∧ (let cm : Cmd := mCmd (([0x3A11E5A9B, BitVec.ofNat 36 (2 ^ 32 + 7 * 2 ^ 24 + 1 * 2 ^ 15 + 1 * 2 ^ 11), 0, 0, BitVec.ofNat 36 (3 * 2 ^ 26 + 4 * 2 ^ 19), BitVec.ofNat 36 (3 * 2 ^ 29 + 4 * 2 ^ 22 + 1 * 2 ^ 20)] : List Word) ++ [0]); let st : State := tDev 1; st.served opMapSend cm = true ∧ ((fun c _ => mapFormOk c.params = true) : Cmd → State → Prop) cm (st.handed opMapSend cm))
    ∧ (let cm : Cmd := tCmd [16]; let st : State := (tDev 0).w Reg.LINK_PEEL_SEEN 1; st.served opTakeover cm = true ∧ ((fun c h => h.rb Reg.LINK_PEEL_SEEN = true ∧ peelValue h.regs < fenceValue (nthW c.params 0)) : Cmd → State → Prop) cm (st.handed opTakeover cm))
    ∧ (let cm : Cmd := tCmd [16]; let st : State := tDev 0; st.served opTakeover cm = true ∧ ((fun _ h => h.rb Reg.LINK_PEEL_SEEN = false) : Cmd → State → Prop) cm (st.handed opTakeover cm))
    ∧ (let cm : Cmd := tCmd [16]; let st : State := ((tDev 0).w Reg.LINK_PEEL_SEEN 1).w Reg.LINK_PEEL_EPOCH 1; st.served opTakeover cm = true ∧ ((fun c h => h.rb Reg.LINK_PEEL_SEEN = true ∧ peelValue h.regs = fenceValue (nthW c.params 0)) : Cmd → State → Prop) cm (st.handed opTakeover cm))
    ∧ (let cm : Cmd := tCmd [5]; let st : State := tDev 0; st.served opLinkReset cm = true ∧ ((fun c _ => c.src.via ≠ .cawell) : Cmd → State → Prop) cm (st.handed opLinkReset cm))
    ∧ (let cm : Cmd := wCmd [1]; let st : State := tDev 0; st.served opLinkReset cm = true ∧ ((fun c _ => c.src.via = .cawell ∧ c.inPort < 4 ∧ ∀ q, q < 4 → (bit (nthW c.params 0) q = true ↔ q = c.inPort)) : Cmd → State → Prop) cm (st.handed opLinkReset cm)) := by
  and_intros <;> decide +kernel

/-- Each clause of `Obligations.CensusCommandsTakeEffect` has its premises met. -/
theorem witness_CensusCommandsTakeEffect :
    (let cm : Cmd := wCmd [6]; let st : State := tDev 0; st.served opCensusCall cm = true ∧ ((fun c h => h.newCall (c.src.addr % 2) (bits (nthW c.params 0) 15 0) = true) : Cmd → State → Prop) cm (st.handed opCensusCall cm))
    ∧ (let cm : Cmd := mCmd []; let st : State := (tDev 1).w Reg.MGR_PAIR_STATUS_STATE 3; st.served opLinkCensus cm = true ∧ ((fun _ h => h.peelHeld = true ∧ h.mgr.censusOpen = false) : Cmd → State → Prop) cm (st.handed opLinkCensus cm))
    ∧ (let cm : Cmd := wCmd [6]; let st : State := { tDev 0 with link := { (tDev 0).link with cnum := [some 6, none] } }; st.served opCensusCall cm = true ∧ ((fun c h => h.newCall (c.src.addr % 2) (bits (nthW c.params 0) 15 0) = false) : Cmd → State → Prop) cm (st.handed opCensusCall cm))
    ∧ (let cm : Cmd := tCmd [5]; let st : State := tDev 0; st.served opLinkWake cm = true ∧ ((fun c _ => (List.range 4).filter (fun p => bit (nthW c.params 0) p) ≠ []) : Cmd → State → Prop) cm (st.handed opLinkWake cm)) := by
  and_intros <;> decide +kernel

/-- Each clause of `Obligations.BakeCommandsTakeEffect` has its premises met. -/
theorem witness_BakeCommandsTakeEffect :
    (let cm : Cmd := tCmd [1, 0, 9]; let st : State := tDev 0; st.served opBakeOpen cm = true ∧ (
      (fun c h =>
        let k := join48 (nthW c.params 1) (nthW c.params 2)
        (nthW c.params 0).toNat ≠ 0 ∧ h.r Reg.MGMT_BAKE_EPOCH_EPOCH ≤ (nthW c.params 0).toNat ∧ h.nextTick + 1 ≤ k
        ∧ k ≤ h.nextTick + 65536 ∧ h.rb Reg.MGMT_BAKE_PEND_0116_OPEN = false ∧ h.rb Reg.MGMT_BAKE_PEND_0116_CLOSED = false) : Cmd → State → Prop) cm (st.handed opBakeOpen cm))
    ∧ (let cm : Cmd := tCmd [BitVec.ofNat 36 (Reg.DECODE_CTRL_HASH_CHECK.at 0), 7]; let st : State := (tDev 0).ws [(Reg.MGMT_BAKE_PEND_0116_OPEN, 0, 1), (Reg.MGMT_BAKE_PEND_0117_K_LO, 0, 60)]; st.served opBakeWrite cm = true ∧ (
      (fun c h =>
        h.rb Reg.MGMT_BAKE_PEND_0116_OPEN = true ∧ c.params ≠ [] ∧ c.params.length % 2 = 0
        ∧ (∀ p ∈ bakePairs c.params, h.bakeWriteOk p = true) ∧ h.bake.writes.length + c.params.length / 2 ≤ 4096) : Cmd → State → Prop) cm (st.handed opBakeWrite cm))
    ∧ (let cm : Cmd := tCmd []; let st : State := (tDev 0).ws [(Reg.MGMT_BAKE_PEND_0116_OPEN, 0, 1), (Reg.MGMT_BAKE_PEND_0117_K_LO, 0, 60)]; st.served opBakeClose cm = true ∧ ((fun _ h => h.rb Reg.MGMT_BAKE_PEND_0116_OPEN = true ∧ h.bakeLate h.bakeK = false) : Cmd → State → Prop) cm (st.handed opBakeClose cm))
    ∧ (let cm : Cmd := tCmd []; let st : State := (tDev 0).ws [(Reg.MGMT_BAKE_PEND_0116_OPEN, 0, 1)]; st.served opBakeClose cm = true ∧ ((fun _ h => h.rb Reg.MGMT_BAKE_PEND_0116_OPEN = true ∧ h.bakeLate h.bakeK = true) : Cmd → State → Prop) cm (st.handed opBakeClose cm))
    ∧ (let cm : Cmd := tCmd []; let st : State := (tDev 0).ws [(Reg.MGMT_BAKE_PEND_0116_OPEN, 0, 1), (Reg.MGMT_BAKE_PEND_0117_K_LO, 0, 60)]; st.served opBakeAbort cm = true)
    ∧ (let cm : Cmd := mCmd []; let st : State := (tDev 1).w Reg.MGR_PAIR_STATUS_STATE 3; st.served opAuditAccept cm = true ∧ ((fun _ h => h.peelHeld = true) : Cmd → State → Prop) cm (st.handed opAuditAccept cm)) := by
  and_intros <;> decide +kernel

/-- Each clause of `Obligations.PowerCommandsTakeEffect` has its premises met. -/
theorem witness_PowerCommandsTakeEffect :
    (let cm : Cmd := tCmd [1, 0, 99]; let st : State := tDev 0; st.served opPowerState cm = true ∧ (
      (fun c h =>
        let st := bits (nthW c.params 0) 1 0
        h.isMgr = false ∧ st ≠ 3 ∧ (h.stage = 3 ∨ (h.stage = 2 ∧ st ≠ 0)) ∧ h.eng.stamp = [] ∧ h.eng.deflate = []
        ∧ h.rb Reg.MGMT_BAKE_PEND_0116_OPEN = false ∧ h.rb Reg.MGMT_BAKE_PEND_0116_CLOSED = false ∧ h.sec.staging = none
        ∧ h.periodAhead (join48 (nthW c.params 1) (nthW c.params 2)) = true) : Cmd → State → Prop) cm (st.handed opPowerState cm))
    ∧ (let cm : Cmd := tCmd [0x3FFF, 0, 99]; let st : State := tDev 0; st.served opSoftReset cm = true ∧ (
      (fun c h =>
        let m := bits (nthW c.params 0) 13 0
        m ≠ 0 ∧ (m = 0x3FFF ∨ (m.testBit 2 = false ∧ m.testBit 3 = false ∧ m.testBit 4 = false ∧ m.testBit 6 = false))
        ∧ (bit (nthW c.params 0) 35 = true ∨ h.periodAhead (join48 (nthW c.params 1) (nthW c.params 2)) = true)) : Cmd → State → Prop) cm (st.handed opSoftReset cm))
    ∧ (let cm : Cmd := tCmd [2]; let st : State := (tDev 0).w Reg.MGMT_BISQUE_SHOWING 1; st.served opBisqueLoad cm = true ∧ ((fun c h => bits (nthW c.params 0) 1 0 = 2 ∧ h.rb Reg.MGMT_BISQUE_SHOWING = true) : Cmd → State → Prop) cm (st.handed opBisqueLoad cm))
    ∧ (let cm : Cmd := tCmd [1]; let st : State := tDev 0; st.served opBisqueLoad cm = true ∧ ((fun c h => bits (nthW c.params 0) 1 0 = 1 ∧ h.stage = 2 ∧ h.isMgr = false) : Cmd → State → Prop) cm (st.handed opBisqueLoad cm))
    ∧ (let cm : Cmd := tCmd [0]; let st : State := tDev 0; st.served opBisqueLoad cm = true ∧ ((fun c _ => bits (nthW c.params 0) 1 0 = 0) : Cmd → State → Prop) cm (st.handed opBisqueLoad cm))
    ∧ (let cm : Cmd := tCmd [1, 0, 5]; let st : State := tDev 0; st.served opBisqueWrite cm = true ∧ (
      (fun c h =>
        h.start.bisWrite = none ∧ bits (nthW c.params 2) 27 0 ≠ 0
        ∧ h.imageOk (bits (nthW c.params 1) 27 0) (bits (nthW c.params 2) 27 0) = true) : Cmd → State → Prop) cm (st.handed opBisqueWrite cm))
    ∧ (let cm : Cmd := tCmd [0, 0, 5]; let st : State := tDev 0; st.served opOwnerFlashWrite cm = true ∧ (
      (fun c h =>
        let off := bits (nthW c.params 0) 27 0
        let n := bits (nthW c.params 2) 27 0
        bit (nthW c.params 0) 35 = false ∧ h.dramUp = true ∧ off % 4096 = 0
        ∧ 0x1600000 + off + n ≤ flashEnd ∧ h.imageOk (bits (nthW c.params 1) 27 0) (pairWords n) = true) : Cmd → State → Prop) cm (st.handed opOwnerFlashWrite cm))
    ∧ (let ids := ([] : List Nat); let cm : Cmd := tCmd [0x800000000, 0, 5]; let st : State := tDev 0; st.served opOwnerFlashWrite cm = true ∧ (
      (fun c h =>
        let off := bits (nthW c.params 0) 27 0
        let sector := bits (nthW c.params 1) 27 0
        let n := bits (nthW c.params 2) 27 0
        bit (nthW c.params 0) 35 = true ∧ h.dramUp = true ∧ off % 4096 = 0
        ∧ 0x1600000 + off + n ≤ flashEnd ∧ sector + sectorsOf (7 * sector) (pairWords n) ≤ h.installed
        ∧ h.gate (7 * sector) (pairWords n) false false = .go ids) : Cmd → State → Prop) cm (st.handed opOwnerFlashWrite cm)) := by
  and_intros <;> decide +kernel

/-- Each clause of `Obligations.UpdateCommandsTakeEffect` has its premises met. -/
theorem witness_UpdateCommandsTakeEffect :
    (let cm : Cmd := tCmd [0, 5]; let st : State := tDev 0; st.served opUpdateStage cm = true ∧ (
      (fun c h =>
        h.sec.boot.trial = false ∧ h.sec.staging = none ∧ 9 * cdiv (bits (nthW c.params 1) 27 0) 2 ≤ 4194304
        ∧ h.imageOk (bits (nthW c.params 0) 27 0) (bits (nthW c.params 1) 27 0) = true) : Cmd → State → Prop) cm (st.handed opUpdateStage cm))
    ∧ (let cm : Cmd := tCmd [0, 9]; let st : State := tDev 0; st.served opUpdateActivate cm = true ∧ ((fun c h => h.sec.boot.trial = false ∧ bit (nthW c.params 0) 12 = false) : Cmd → State → Prop) cm (st.handed opUpdateActivate cm))
    ∧ (let cm : Cmd := tCmd [0x1000, 99]; let st : State := tDev 0; st.served opUpdateActivate cm = true ∧ (
      (fun c h => h.sec.boot.trial = false ∧ bit (nthW c.params 0) 12 = true
        ∧ h.periodAhead (join48 (nthW c.params 0) (nthW c.params 1)) = true) : Cmd → State → Prop) cm (st.handed opUpdateActivate cm))
    ∧ (let cm : Cmd := tCmd []; let st : State := (tDev 0).w Reg.MGMT_FW_0150_TRIAL 1; st.served opUpdateCommit cm = true ∧ ((fun _ h => h.rb Reg.MGMT_FW_0150_TRIAL = true) : Cmd → State → Prop) cm (st.handed opUpdateCommit cm))
    ∧ (let cm : Cmd := tCmd []; let st : State := tDev 0; st.served opUpdateCommit cm = true ∧ ((fun _ h => h.rb Reg.MGMT_FW_0150_TRIAL = false) : Cmd → State → Prop) cm (st.handed opUpdateCommit cm)) := by
  and_intros <;> decide +kernel

/-- Each clause of `Obligations.TimeCommandsTakeEffect` has its premises met. -/
theorem witness_TimeCommandsTakeEffect :
    (let cm : Cmd := tCmd [0x800000000, 9, BitVec.ofNat 36 (30 * 2 ^ 17 + 1 * 2 ^ 4), 0, 0, 0]; let st : State := tDev 0; st.served opTimeSchedule cm = true ∧ (
      (fun c h =>
        let num := bits (nthW c.params 2) 35 17
        let den := bits (nthW c.params 2) 16 4
        let t := timeOfWords (nthW c.params 3) (nthW c.params 4) (nthW c.params 5)
        bit (nthW c.params 0) 35 = true ∧ timeOk (nthW c.params 4) (nthW c.params 5) = true ∧ rateRange num den = true
        ∧ rateChecks (h.rb Reg.EMIT_HEAD_CTRL_SCAN_EN) h.lowGrade
            (h.setSchedule (join48 (nthW c.params 0) (nthW c.params 1)) t num den).planned = true) : Cmd → State → Prop) cm (st.handed opTimeSchedule cm))
    ∧ (let cm : Cmd := tCmd [0, 99, BitVec.ofNat 36 (30 * 2 ^ 17 + 1 * 2 ^ 4), 0, 0, 0]; let st : State := tDev 0; st.served opTimeSchedule cm = true ∧ (
      (fun c h =>
        let k := join48 (nthW c.params 0) (nthW c.params 1)
        let num := bits (nthW c.params 2) 35 17
        let den := bits (nthW c.params 2) 16 4
        let t := timeOfWords (nthW c.params 3) (nthW c.params 4) (nthW c.params 5)
        let d := ((t : Int) - h.plannedAt k) * num
        let p : Int := (den * secUnits : Nat)
        bit (nthW c.params 0) 35 = false ∧ (bit (nthW c.params 0) 34 = true → p ≤ 2 * d ∧ d ≤ 2 * p)
        ∧ timeOk (nthW c.params 4) (nthW c.params 5) = true ∧ rateRange num den = true
        ∧ rateChecks (h.rb Reg.EMIT_HEAD_CTRL_SCAN_EN) h.lowGrade (h.setSchedule k t num den).planned = true
        ∧ (h.time.ticked = true → h.time.last < k) ∧ (h.den * secUnits : Nat) ≤ (h.plannedAt k - h.tb3) * h.num
        ∧ h.time.scheds.length < 8) : Cmd → State → Prop) cm (st.handed opTimeSchedule cm))
    ∧ (let cm : Cmd := tCmd [0, 9, 1, 2]; let st : State := tDev 0; st.served opTimePhase cm = true ∧ ((fun _ h => h.rb Reg.TIME_TICK_CTRL_BOUNDARY = false) : Cmd → State → Prop) cm (st.handed opTimePhase cm))
    ∧ (let cm : Cmd := tCmd [1, 0, 9]; let st : State := (tDev 0).w Reg.TIME_BASE_W4_MODE 0 1; st.served opTimeAdjust cm = true ∧ ((fun c h => bits (nthW c.params 0) 1 0 ≠ 3 ∧ h.servo (bits (nthW c.params 0) 1 0) = false) : Cmd → State → Prop) cm (st.handed opTimeAdjust cm)) := by
  and_intros <;> decide +kernel

/-- Each clause of `Obligations.OwnerCommandsTakeEffect` has its premises met. -/
theorem witness_OwnerCommandsTakeEffect :
    (let cm : Cmd := tCmd (List.replicate 22 0); let st : State := tDev 0; st.served opClaim cm = true ∧ ((fun c h => c.src.via = .spi ∧ c.src.seals = [] ∧ h.rb Reg.MGMT_STRAPS_CLAIM = true ∧ h.sec.slots.length < 8) : Cmd → State → Prop) cm (st.handed opClaim cm))
    ∧ (let cm : Cmd := tCmd (List.replicate 68 0); let st : State := tDev 0; st.served opOwnerTransfer cm = true ∧ ((fun _ h => h.sec.slots.length < 8) : Cmd → State → Prop) cm (st.handed opOwnerTransfer cm))
    ∧ (let cm : Cmd := tCmd [3, 0, 0]; let st : State := tDev 0; st.served opFloorSet cm = true ∧ ((fun c _ => bits (nthW c.params 0) 3 0 ≤ 8) : Cmd → State → Prop) cm (st.handed opFloorSet cm))
    ∧ (let cm : Cmd := tCmd [1, 0]; let st : State := tDev 0; st.served opPolicySet cm = true) := by
  and_intros <;> decide +kernel

/-- Each clause of `Obligations.SessionCommandsTakeEffect` has its premises met. -/
theorem witness_SessionCommandsTakeEffect :
    (let cm : Cmd := tCmd (List.replicate 22 0); let st : State := tDev 0; st.served opSessionHello cm = true)
    ∧ (let i := 2; let cm : Cmd := tCmd (BitVec.ofNat 36 (77 * 2 ^ 20) :: [0]); let st : State := (tDev 0).ws [(Reg.SECURE_SESSION_STATE, 2, 2), (Reg.SECURE_SESSION_SID, 2, 77)]; st.served opSessionAuth cm = true ∧ ((fun c h => h.sessionOf (bits (nthW c.params 0) 35 20) = some i) : Cmd → State → Prop) cm (st.handed opSessionAuth cm))
    ∧ (let i := 2; let cm : Cmd := tCmd [BitVec.ofNat 36 (77 * 2 ^ 20)]; let st : State := (tDev 0).ws [(Reg.SECURE_SESSION_STATE, 2, 2), (Reg.SECURE_SESSION_SID, 2, 77)]; st.served opSessionClose cm = true ∧ ((fun c h => h.sessionOf (bits (nthW c.params 0) 35 20) = some i) : Cmd → State → Prop) cm (st.handed opSessionClose cm))
    ∧ (let s : State := (tDev 0).ws [(Reg.SECURE_SESSION_STATE, 2, 2), (Reg.SECURE_SESSION_SID, 2, 77)]; let cm : Cmd := tCmd [BitVec.ofNat 36 (77 * 2 ^ 20), 0, 0, 0, 0, 0, 0, 0, 0]; s.served opSealedCmd cm = true) := by
  and_intros <;> decide +kernel

/-- Each clause of `Obligations.TrustCommandsTakeEffect` has its premises met. -/
theorem witness_TrustCommandsTakeEffect :
    (let cm : Cmd := tCmd (List.replicate 13 0); let st : State := tDev 0; st.served opAttest cm = true)
    ∧ (let e := (⟨5, [], 0⟩ : Ephemeral); let cm : Cmd := tCmd (BitVec.ofNat 36 (2 ^ 32) :: List.replicate 110 0); let st : State := { tDev 0 with sec := { (tDev 0).sec with eph := some ⟨5, [], 0⟩ } }; st.served opProvision cm = true ∧ (
      (fun c h =>
        let n := bits (nthW c.params 0) 33 32
        bits (nthW c.params 0) 35 34 ≤ 1 ∧ (n = 1 ∨ n = 2) ∧ c.params.length = 64 + 47 * n
        ∧ (bits (nthW c.params 0) 35 34 = 1 → h.isMgr = true) ∧ h.ephHeld = some e) : Cmd → State → Prop) cm (st.handed opProvision cm))
    ∧ (let cm : Cmd := tCmd (0x4E7B0D001 :: 0x100000000 :: List.replicate 40 0); let st : State := tDev 0; st.served opKeyLoad cm = true ∧ (
      (fun c h =>
        let m := 31 + 10 * bits (nthW c.params 1) 35 32
        nthW c.params 0 = 0x4E7B0D001 ∧ bits (nthW c.params 1) 35 32 ≠ 0 ∧ m + 1 ≤ c.params.length
        ∧ (bits (nthW c.params 1) 35 32 + h.sec.store.keys.length ≤ 64)) : Cmd → State → Prop) cm (st.handed opKeyLoad cm))
    ∧ (let cm : Cmd := tCmd [5]; let st : State := tDev 0; st.served opKeyDrop cm = true)
    ∧ (let e := (⟨5, [], 0⟩ : Ephemeral); let cm : Cmd := tCmd (0 :: List.replicate 47 0); let st : State := { tDev 0 with sec := { (tDev 0).sec with eph := some ⟨5, [], 0⟩ } }; st.served opDebugUnlock cm = true ∧ ((fun _ h => h.ephHeld = some e) : Cmd → State → Prop) cm (st.handed opDebugUnlock cm)) := by
  and_intros <;> decide +kernel

/-- Each clause of `Obligations.MemoryCommandsTakeEffect` has its premises met. -/
theorem witness_MemoryCommandsTakeEffect :
    (let ids := ([] : List Nat); let d := (storeRun 3 (tFill 2 1) 15 [1, 2]).1; let cm : Cmd := tCmd [0, 15, 1, 2]; let st : State := tHas (tFill 2 1); st.served opMemWrite cm = true ∧ (
      (fun c h =>
        let a := bits (nthW c.params 1) 30 0
        let n := c.params.length - 2
        (nthW c.params 0).toNat < 4 ∧ 3 ≤ c.params.length ∧ c.params.length ≤ 1018
        ∧ h.gate a n (bit (nthW c.params 0) 1) (bit (nthW c.params 0) 0) = .go ids
        ∧ storeRun (n + 1) h.dram a (c.params.drop 2) = (d, none)) : Cmd → State → Prop) cm (st.handed opMemWrite cm))
    ∧ (let ids := ([] : List Nat); let d := ([] : List Host.Cell); let k := 2; let cm : Cmd := tCmd [0, 15, 1, 2]; let st : State := tDev 0; st.served opMemWrite cm = true ∧ (
      (fun c h =>
        let a := bits (nthW c.params 1) 30 0
        let n := c.params.length - 2
        (nthW c.params 0).toNat < 4 ∧ 3 ≤ c.params.length ∧ c.params.length ≤ 1018
        ∧ h.gate a n (bit (nthW c.params 0) 1) (bit (nthW c.params 0) 0) = .go ids
        ∧ storeRun (n + 1) h.dram a (c.params.drop 2) = (d, some k)) : Cmd → State → Prop) cm (st.handed opMemWrite cm))
    ∧ (let ids := [3]; let cm : Cmd := tCmd [2, 15, 1, 2]; let st : State := (tDev 0).ws [(Reg.KILN_SURF_W3_DEFINED, 3, 1), (Reg.KILN_SURF_W3_SEALED, 3, 1), (Reg.KILN_SURF_W2_SECTORS, 3, 9)]; st.served opMemWrite cm = true ∧ (
      (fun c h =>
        (nthW c.params 0).toNat < 4 ∧ 3 ≤ c.params.length ∧ c.params.length ≤ 1018
        ∧ h.gate (bits (nthW c.params 1) 30 0) (c.params.length - 2) (bit (nthW c.params 0) 1) (bit (nthW c.params 0) 0) = .queue ids) : Cmd → State → Prop) cm (st.handed opMemWrite cm))
    ∧ (let cm : Cmd := tCmd [0, 15, 3]; let st : State := tHas (tFill 2 1); st.served opMemRead cm = true ∧ (
      (fun c h =>
        let a := bits (nthW c.params 1) 30 0
        let n := bits (nthW c.params 2) 9 0
        1 ≤ n ∧ n ≤ 1016 ∧ a / 7 + sectorsOf a n ≤ h.installed ∧ h.owned (a / 7) (sectorsOf a n) = false) : Cmd → State → Prop) cm (st.handed opMemRead cm)) := by
  and_intros <;> decide +kernel

/-- Each clause of `Obligations.KilnCommandsTakeEffect` has its premises met. -/
theorem witness_KilnCommandsTakeEffect :
    (let cm : Cmd := tCmd [0, 2]; let st : State := tDev 0; st.served opKilnCommit cm = true ∧ ((fun c h => bit (nthW c.params 0) 12 = true ∨ join48 (nthW c.params 0) (nthW c.params 1) ≤ h.earliestOpen + 8) : Cmd → State → Prop) cm (st.handed opKilnCommit cm))
    ∧ ((tHas (tFill 2 110)).served opKilnLutLoad (tCmd [5, 2]) = true ∧ (
      (fun c h =>
        let sector := bits (nthW c.params 1) 27 0
        bit (nthW c.params 0) 7 = false ∧ h.imageOk sector 768 = true ∧ h.tableUsed 0 (bits (nthW c.params 0) 3 0) = false
        ∧ firstBad h.dram (7 * sector) 768 = none) : Cmd → State → Prop) (tCmd [5, 2]) ((tHas (tFill 2 110)).handed opKilnLutLoad (tCmd [5, 2])))
    ∧ (let cm : Cmd := tCmd [0x45, 2]; let st : State := (tDev 0).ws [(Reg.KILN_SLOT_SET_SET, 0, 1), (Reg.KILN_SLOT_W2_PRE_LUT, 0, 5), (Reg.KILN_SLOT_W2_PRE_LUT, 31, 5)]; st.served opKilnLutLoad cm = true ∧ (
      (fun c h =>
        let t := bits (nthW c.params 0) 3 0
        bit (nthW c.params 0) 7 = false ∧ bit (nthW c.params 0) 6 = true ∧ h.imageOk (bits (nthW c.params 1) 27 0) 768 = true
        ∧ h.tableUsed 0 t = true ∧ h.fire.loads.find? (fun (l : TableLoad) => decide (l.kind = 0) && decide (l.table = t)) = none) : Cmd → State → Prop) cm (st.handed opKilnLutLoad cm))
    ∧ (let ids := ([] : List Nat); (tHas (tFill 2 110)).served opKilnLutLoad (tCmd [0x85, 2]) = true ∧ (
      (fun c h =>
        let a := 7 * bits (nthW c.params 1) 27 0
        let ws := preImage h.fire.pre (bits (nthW c.params 0) 3 0)
        bit (nthW c.params 0) 7 = true ∧ h.gate a 768 (bit (nthW c.params 0) 6) false = .go ids ∧ ∃ d, storeRun 769 h.dram a ws = (d, none)) : Cmd → State → Prop) (tCmd [0x85, 2]) ((tHas (tFill 2 110)).handed opKilnLutLoad (tCmd [0x85, 2])))
    ∧ (let cm : Cmd := tCmd [0x103]; let st : State := (tDev 0).w Reg.KILN_SURF_W3_DEFINED 1 3; st.served opKilnRelease cm = true ∧ (
      (fun c h =>
        let i := bits (nthW c.params 0) 7 0
        h.rb Reg.KILN_SURF_W3_DEFINED i = true ∧ h.rb Reg.KILN_SURF_W3_SEALED i = false ∧ namesSurf h.regs i = false
        ∧ h.rb Reg.KILN_SURF_W3_RELEASING i = false) : Cmd → State → Prop) cm (st.handed opKilnRelease cm))
    ∧ (let cm : Cmd := tCmd [0x103]; let st : State := (tDev 0).ws [(Reg.KILN_SURF_W3_DEFINED, 3, 1), (Reg.KILN_SURF_W3_SEALED, 3, 1), (Reg.KILN_SURF_W2_SECTORS, 3, 9)]; st.served opKilnRelease cm = true ∧ (
      (fun c h =>
        let i := bits (nthW c.params 0) 7 0
        h.rb Reg.KILN_SURF_W3_DEFINED i = true ∧ h.rb Reg.KILN_SURF_W3_SEALED i = true ∧ namesSurf h.regs i = false
        ∧ h.rb Reg.KILN_SURF_W3_RELEASING i = false) : Cmd → State → Prop) cm (st.handed opKilnRelease cm))
    ∧ (let cm : Cmd := tCmd [7, 20, 0, 4]; let st : State := tDev 0; st.served opKilnSurfDefine cm = true ∧ (
      (fun c h =>
        let i := bits (nthW c.params 0) 7 0
        let base := bits (nthW c.params 1) 27 0
        let wm := bits (nthW c.params 2) 34 22
        let hm := bits (nthW c.params 2) 21 9
        let st := bits (nthW c.params 3) 35 23
        let n := bits (nthW c.params 3) 22 0
        n ≠ 0 ∧ hm ≤ 4351 ∧ base + n ≤ h.installed ∧ h.owned base n = false ∧ (∀ j ∈ h.surfsOf base n, j = i)
        ∧ (bit (nthW c.params 0) 8 = true → crumbBlocks (wm + 1) (hm + 1) ≤ 7 * n)
        ∧ (bit (nthW c.params 0) 8 = false → wm ≤ st ∧ cdiv ((st + 1) * (hm + 1)) 7 ≤ n)
        ∧ h.rb Reg.KILN_SURF_W3_SEALED i = false ∧ h.rb Reg.KILN_SURF_W3_RELEASING i = false ∧ h.surfBusy i = false) : Cmd → State → Prop) cm (st.handed opKilnSurfDefine cm)) := ⟨by decide +kernel,
    ⟨by decide +kernel, by decide +kernel, by decide +kernel, by decide +kernel, tFill_firstBad (n := 2) (k := 110) (by decide +kernel) (by decide +kernel)⟩,
    by decide +kernel,
    ⟨by decide +kernel, by decide +kernel, by decide +kernel, tFill_store (n := 2) (k := 110) (by decide +kernel) (by simp only [preImage, List.length_map, List.length_range]; decide +kernel)⟩,
    by decide +kernel,
    by decide +kernel,
    by decide +kernel⟩

/-- Each clause of `Obligations.GlazeCommandsTakeEffect` has its premises met. -/
theorem witness_GlazeCommandsTakeEffect :
    ((tHas (tFill 2 220)).served opGlazeLutLoad (tCmd [1, 2]) = true ∧ (
      (fun c h =>
        let sector := bits (nthW c.params 1) 27 0
        h.imageOk sector 1539 = true ∧ h.tableUsed 1 (bits (nthW c.params 0) 1 0) = false
        ∧ firstBad h.dram (7 * sector) 1539 = none) : Cmd → State → Prop) (tCmd [1, 2]) ((tHas (tFill 2 220)).handed opGlazeLutLoad (tCmd [1, 2])))
    ∧ (let cm : Cmd := tCmd [1, 0, 2]; let st : State := tHas (tFill 2 1); st.served opGlazeSetLoad cm = true ∧ (
      (fun c h =>
        let n := 5 * (bits (nthW c.params 1) 11 0 + 1)
        let sector := bits (nthW c.params 2) 27 0
        h.imageOk sector n = true ∧ h.tableUsed 2 (bits (nthW c.params 0) 2 0) = false ∧ firstBad h.dram (7 * sector) n = none) : Cmd → State → Prop) cm (st.handed opGlazeSetLoad cm))
    ∧ (let cm : Cmd := tCmd [0x40, 2]; let st : State := tDev 0; st.served opGlazeLutLoad cm = true ∧ (
      (fun c h =>
        let t := bits (nthW c.params 0) 1 0
        bit (nthW c.params 0) 6 = true ∧ h.imageOk (bits (nthW c.params 1) 27 0) 1539 = true ∧ h.tableUsed 1 t = true
        ∧ h.fire.loads.find? (fun (l : TableLoad) => decide (l.kind = 1) && decide (l.table = t)) = none) : Cmd → State → Prop) cm (st.handed opGlazeLutLoad cm))
    ∧ (let cm : Cmd := tCmd [0x45, 0, 2]; let st : State := (tDev 0).ws [(Reg.GLAZE_SETLIST_EN, 2, 1), (Reg.GLAZE_SETLIST_SLOT, 2, 5)]; st.served opGlazeSetLoad cm = true ∧ (
      (fun c h =>
        let t := bits (nthW c.params 0) 2 0
        bit (nthW c.params 0) 6 = true ∧ h.tableUsed 2 t = true
        ∧ h.imageOk (bits (nthW c.params 2) 27 0) (5 * (bits (nthW c.params 1) 11 0 + 1)) = true
        ∧ h.fire.loads.find? (fun (l : TableLoad) => decide (l.kind = 2) && decide (l.table = t)) = none) : Cmd → State → Prop) cm (st.handed opGlazeSetLoad cm))
    ∧ (let cm : Cmd := tCmd [0, 0, 5, 2, 2]; let st : State := tHas (tFill 2 1); st.served opGlazeCtxLoad cm = true ∧ (
      (fun c h =>
        let first := bits (nthW c.params 2) 15 0
        let count := bits (nthW c.params 3) 15 0
        let n := (if bit (nthW c.params 0) 13 then 8 else 2) * count
        let sector := bits (nthW c.params 4) 27 0
        h.fire.firing = false ∧ count ≠ 0 ∧ first + count ≤ 49152 ∧ h.imageOk sector n = true
        ∧ firstBad h.dram (7 * sector) n = none) : Cmd → State → Prop) cm (st.handed opGlazeCtxLoad cm))
    ∧ (let cm : Cmd := tCmd [0x1000, 0, 5, 2, 2]; let st : State := let t := tHas (tFill 2 1); { t with fire := { t.fire with firing := true } }; st.served opGlazeCtxLoad cm = true ∧ (
      (fun c h =>
        let count := bits (nthW c.params 3) 15 0
        let sector := bits (nthW c.params 4) 27 0
        h.fire.firing = true ∧ bit (nthW c.params 0) 13 = false ∧ bit (nthW c.params 0) 12 = true ∧ count ≠ 0
        ∧ bits (nthW c.params 2) 15 0 + count ≤ 49152 ∧ h.imageOk sector (2 * count) = true
        ∧ h.glaze.loads = [] ∧ h.glaze.waiting = [] ∧ h.rb Reg.GLAZE_CTX_STATUS_COPYING = false
        ∧ firstBad h.dram (7 * sector) (2 * count) = none) : Cmd → State → Prop) cm (st.handed opGlazeCtxLoad cm))
    ∧ (let ids := ([] : List Nat); let d := (storeRun 9 (tFill 3 1) 14 ((tDev 0).ctxImage [] 5)).1; let cm : Cmd := tCmd [0, 5, 1, 2]; let st : State := tHas (tFill 3 1); st.served opGlazeCtxRead cm = true ∧ (
      (fun c h =>
        let first := bits (nthW c.params 1) 15 0
        let count := bits (nthW c.params 2) 15 0
        let a := 7 * bits (nthW c.params 3) 27 0
        let bank := if bit (nthW c.params 0) 2 then h.glaze.staged else h.glaze.ctx
        let ws := (List.range count).flatMap (fun i => h.ctxImage bank (first + i))
        count ≠ 0 ∧ first + count ≤ 49152
        ∧ h.gate a ws.length (bit (nthW c.params 0) 1) (bit (nthW c.params 0) 0) = .go ids
        ∧ storeRun (ws.length + 1) h.dram a ws = (d, none)) : Cmd → State → Prop) cm (st.handed opGlazeCtxRead cm)) := ⟨⟨by decide +kernel, by decide +kernel, by decide +kernel, tFill_firstBad (n := 2) (k := 220) (by decide +kernel) (by decide +kernel)⟩,
    by decide +kernel,
    by decide +kernel,
    by decide +kernel,
    by decide +kernel,
    by decide +kernel,
    by decide +kernel⟩

/-- Each clause of `Obligations.CalibrationCommandsTakeEffect` has its premises met. -/
theorem witness_CalibrationCommandsTakeEffect :
    ((tHas tLossCells).served opCalLossLoad (tCmd [0, 2]) = true ∧ (
      (fun c h =>
        let sector := bits (nthW c.params 1) 27 0
        bit (nthW c.params 0) 0 = false ∧ h.imageOk sector 99 = true ∧ firstBad h.dram (7 * sector) 99 = none
        ∧ ∀ w, w < 99 → lossWordBad (dramWords h.dram (7 * sector) 99) w = false) : Cmd → State → Prop) (tCmd [0, 2]) ((tHas tLossCells).handed opCalLossLoad (tCmd [0, 2])))
    ∧ (let ids := ([] : List Nat); (tHas (tFill 2 15)).served opCalLossLoad (tCmd [1, 2]) = true ∧ (
      (fun c h =>
        let a := 7 * bits (nthW c.params 1) 27 0
        bit (nthW c.params 0) 0 = true ∧ h.gate a 99 false false = .go ids ∧ ∃ d, storeRun 100 h.dram a (lossImage h.cal.loss) = (d, none)) : Cmd → State → Prop) (tCmd [1, 2]) ((tHas (tFill 2 15)).handed opCalLossLoad (tCmd [1, 2])))
    ∧ (let cm : Cmd := tCmd [8]; let st : State := let t := (tDev 0).w Reg.CAL_TTH_TTH_EN 1; { t with fire := { t.fire with firing := true } }; st.served opCalRun cm = true ∧ (
      (fun c h =>
        h.rb Reg.CAL_TTH_TTH_EN = true ∧ h.fire.firing = true
        ∧ (bit (nthW c.params 0) 3 = true → bits (nthW c.params 0) 2 0 ≤ 5)) : Cmd → State → Prop) cm (st.handed opCalRun cm))
    ∧ (let cm : Cmd := tCmd [1]; let st : State := tDev 0; st.served opCalSave cm = true ∧ ((fun c h => h.dramUp = true ∧ h.cal.save = none ∧ (bit (nthW c.params 0) 0 = false → h.snapWait = 0)) : Cmd → State → Prop) cm (st.handed opCalSave cm))
    ∧ (let ids := ([] : List Nat); let d := (storeRun 2 (tFill 2 1) 14 [FaultEntry.word ⟨1, 0, 2, false, 9, 0⟩]).1; let cm : Cmd := tCmd [0, 2]; let st : State := let t := tHas (tFill 2 1); { t with emit_ := { t.emit_ with faults := [⟨1, 0, 2, false, 9, 0⟩] } }; st.served opEmitFaultRead cm = true ∧ (
      (fun c h =>
        let a := 7 * bits (nthW c.params 1) 27 0
        let n := h.emit_.faults.length
        h.gate a n (bit (nthW c.params 0) 1) (bit (nthW c.params 0) 0) = .go ids
        ∧ storeRun (n + 1) h.dram a (h.emit_.faults.map FaultEntry.word) = (d, none)) : Cmd → State → Prop) cm (st.handed opEmitFaultRead cm))
    ∧ (let cm : Cmd := tCmd [0x10001]; let st : State := tDev 0; st.served opEmitFaultClear cm = true)
    ∧ (let cm : Cmd := mCmd [0x800000005]; let st : State := (tDev 1).w Reg.MGR_PAIR_STATUS_STATE 3; st.served opEncodeSpySub cm = true ∧ (
      (fun c h =>
        let w := nthW c.params 0
        let same (q : SpySub) : Bool := q.addr = c.src.addr && q.port = c.src.port && q.all = bit w 35
          && (q.all || (q.x = bits w 34 28 && q.y = bits w 27 21))
        h.peelHeld = true ∧ (bits w 15 0 = 0 ∨ (h.enc.subs.filter (fun q => !same q && decide (h.now < q.until_))).length < 16)) : Cmd → State → Prop) cm (st.handed opEncodeSpySub cm)) := ⟨⟨by decide +kernel, by decide +kernel, by decide +kernel, tLossCells_firstBad (by decide +kernel) (by decide +kernel), fun w hw => tLossCells_good (by decide +kernel) (by decide +kernel) w hw⟩,
    ⟨by decide +kernel, by decide +kernel, by decide +kernel, tFill_store (n := 2) (k := 15) (by decide +kernel) (by simp only [lossImage, List.length_map, List.length_range]; decide +kernel)⟩,
    by decide +kernel,
    by decide +kernel,
    by decide +kernel,
    by decide +kernel,
    by decide +kernel⟩

/-- Each clause of `Obligations.EngineCommandsTakeEffect` has its premises met. -/
theorem witness_EngineCommandsTakeEffect :
    (let cm : Cmd := tCmd []; let st : State := { tDev 0 with regs := writeList (tDev 0).regs [(0xC0000, 0xC00000000), (0xC0004, 0x400), (0xC0005, 70)] }; st.served opStampGo cm = true ∧ (
      (fun c h =>
        let j : StampJob := ⟨(List.range 13).map (fun i => wordOf h.regs (0xC0000 + i)), (c.ctx opStampGo).req, false, false, [], []⟩
        j.formsOk h.regs = true ∧ h.operandOk j.src j.w j.h = true ∧ h.operandOk j.dst j.w j.h = true ∧ j.wholeOk h.regs = true
        ∧ (j.wait = false ∨ j.force = false) ∧ h.eng.stamp.length < 4
        ∧ ∀ r ∈ j.dst.runs h.regs j.w j.h, h.owned (r.1 / 7) (sectorsOf r.1 r.2) = false) : Cmd → State → Prop) cm (st.handed opStampGo cm))
    ∧ (let cm : Cmd := tCmd []; let st : State := tDev 0; st.served opStampAbort cm = true)
    ∧ (let cm : Cmd := tCmd [BitVec.ofNat 36 (8 * 2 ^ 27 + 1 * 2 ^ 18), 14, 9, 0, 0, 70, 9]; let st : State := tDev 0; st.served opDeflateJob cm = true ∧ (
      (fun c h =>
        let n := bits (nthW c.params 0) 21 18
        let inp := (bits (nthW c.params 1) 30 0, bits (nthW c.params 2) 31 0)
        bits (nthW c.params 0) 34 33 ≠ 3 ∧ 8 ≤ bits (nthW c.params 0) 30 27 ∧ n ≤ 8 ∧ c.params.length = 5 + 2 * n
        ∧ h.rangeOk inp = true ∧ (∀ b ∈ buffersOf c.params n, b.2 ≠ 0 ∧ h.rangeOk b = true ∧ h.rangeOwned b = false)
        ∧ apart (inp :: buffersOf c.params n) = true ∧ (bit (nthW c.params 0) 24 = false ∨ bit (nthW c.params 0) 23 = false)
        ∧ h.eng.deflate.length < 4) : Cmd → State → Prop) cm (st.handed opDeflateJob cm))
    ∧ (let j : DefJob := (⟨2, 0, 0, 0, [(14, 9)], [], true, [(70, 9)], 0, 0, 0, false, [], ⟨⟨.spi, 0, 0, 0, []⟩, 0, 1⟩⟩ : DefJob); let cm : Cmd := tCmd [2, 700, 9]; let st : State := let t := tDev 0; { t with eng := { t.eng with deflate := [(⟨2, 0, 0, 0, [(14, 9)], [], true, [(70, 9)], 0, 0, 0, false, [], ⟨⟨.spi, 0, 0, 0, []⟩, 0, 1⟩⟩ : DefJob)] } }; st.served opDeflateSupply cm = true ∧ (
      (fun c h =>
        let rng := (bits (nthW c.params 1) 30 0, bits (nthW c.params 2) 31 0)
        h.eng.deflate.find? (fun (x : DefJob) => decide (x.num = bits (nthW c.params 0) 1 0)) = some j
        ∧ (∀ b ∈ j.inputs ++ j.bufs, rangesMeet rng b = false) ∧ h.rangeOk rng = true
        ∧ (bit (nthW c.params 0) 2 = false → j.unused < 8 ∧ rng.2 ≠ 0 ∧ rng.2 ≤ 268435455 ∧ h.rangeOwned rng = false)) : Cmd → State → Prop) cm (st.handed opDeflateSupply cm))
    ∧ (let j : DefJob := (⟨2, 0, 0, 0, [(14, 9)], [], true, [(70, 9)], 0, 0, 0, false, [], ⟨⟨.spi, 0, 0, 0, []⟩, 0, 1⟩⟩ : DefJob); let cm : Cmd := tCmd [2]; let st : State := let t := tDev 0; { t with eng := { t.eng with deflate := [(⟨2, 0, 0, 0, [(14, 9)], [], true, [(70, 9)], 0, 0, 0, false, [], ⟨⟨.spi, 0, 0, 0, []⟩, 0, 1⟩⟩ : DefJob)] } }; st.served opDeflateAbort cm = true ∧ ((fun c h => h.eng.deflate.find? (fun (x : DefJob) => decide (x.num = bits (nthW c.params 0) 1 0)) = some j) : Cmd → State → Prop) cm (st.handed opDeflateAbort cm)) := by
  and_intros <;> decide +kernel

/-- Each clause of `Obligations.ResetRowsTakeEffect` has its premises met. -/
theorem witness_ResetRowsTakeEffect :
    (let st : State := tDev 0; ((fun s => s.start.powered = true) : State → Prop) st)
    ∧ (let st : State := let t : State := tDev 0; { t with start := { t.start with held := true } }; ((fun s => s.start.powered = true ∧ s.start.held = true ∧ s.start.railFell = false) : State → Prop) st)
    ∧ (let rail : Nat := 2; let st : State := tDev 0; (rail < 4) ∧ ((fun s => s.start.powered = true ∧ s.pins.pgood.getD rail true = true) : State → Prop) st)
    ∧ (let rail : Nat := 2; let dt : Nat := 9; let st : State := let t : State := tDev 0; { t with start := { t.start with railFell := true, held := true }, pins := { t.pins with pgood := [true, true, false, true] } }; (rail < 4) ∧ ((fun s => s.start.powered = true ∧ s.start.railFell = true ∧ (setNth s.pins.pgood rail true).all id = true ∧ s.pins.rst = false) : State → Prop) st)
    ∧ (let rail : Nat := 2; let dt : Nat := 9; let st : State := let t : State := tDev 0 |>.w Reg.MGMT_STAGE_STAGE 0; { t with pins := { t.pins with pgood := [true, true, false, true] } }; (rail < 3) ∧ ((fun s => s.start.powered = true ∧ s.start.railFell = false ∧ s.stage = 0 ∧ s.start.held = false) : State → Prop) st)
    ∧ (let dt : Nat := 9; let st : State := tDev 0; ((fun s => s.start.powered = true ∧ s.hearth.shutdown = false ∧ s.start.cold = false) : State → Prop) st)
    ∧ (let st : State := let t : State := tDev 0; { t with hearth := { t.hearth with shutdown := true } }; ((fun s => s.hearth.shutdown = true) : State → Prop) st)
    ∧ (let dt : Nat := 9; let st : State := tDev 0; ((fun s => s.mp = true) : State → Prop) st)
    ∧ (let k := 7; let st : State := let t : State := tDev 0; { t with start := { t.start with soft := some (0x3FFF, 7) }, time := { t.time with ticked := true, last := 7 } }; ((fun s => s.start.soft = some (0x3FFF, k) ∧ s.time.ticked = true ∧ k ≤ s.time.last) : State → Prop) st)
    ∧ (let m := 0x21; let k := 7; let st : State := let t : State := tDev 0; { t with start := { t.start with soft := some (0x21, 7) }, time := { t.time with ticked := true, last := 7 } }; (m ≠ 0x3FFF) ∧ ((fun s => s.start.soft = some (m, k) ∧ s.time.ticked = true ∧ k ≤ s.time.last) : State → Prop) st) := by
  and_intros <;> decide +kernel

/-- Each clause of `Obligations.StartRowsTakeEffect` has its premises met. -/
theorem witness_StartRowsTakeEffect :
    (let role : Nat := 1; let board : Nat := 5; let claim : Bool := true; let st : State := let t : State := (tDev 0).w Reg.MGMT_STAGE_STAGE 0; { t with start := { t.start with sampled := false } }; ((fun s => s.alive = true ∧ s.start.sampled = false ∧ s.railsUp 1 = true) : State → Prop) st)
    ∧ (let st : State := (tDev 0).ws [(Reg.MGMT_STAGE_MP, 0, 0), (Reg.MGMT_STAGE_STAGE, 0, 1)]; ((fun s => s.alive = true ∧ s.mp = false ∧ s.stage ≠ 0 ∧ s.start.bootOk = false) : State → Prop) st)
    ∧ (let ok : Bool := true; let dt : Nat := 9; let st : State := (tDev 0).w Reg.MGMT_STAGE_STAGE 0; ((fun s => s.alive = true ∧ s.start.sampled = true ∧ s.stage = 0 ∧ s.role ≠ 3 ∧ s.railsUp 3 = true) : State → Prop) st)
    ∧ (let dt : Nat := 9; let st : State := let t : State := (tDev 0).ws [(Reg.MGMT_STAGE_MP, 0, 0)]; { t with start := { t.start with bootOk := true, woke := true }, sec := { t.sec with bootEvents := [46] } }; ((fun s => s.alive = true ∧ s.mp = false ∧ s.start.bootOk = true ∧ s.stage ≠ 0) : State → Prop) st)
    ∧ (let st : State := tDev 0; ((fun s => s.dramUp = true ∧ s.mp = true ∧ s.cal.loaded = false ∧ s.isWorker = true) : State → Prop) st)
    ∧ (let st : State := (tDev 0).w Reg.MGMT_STAGE_STAGE 1; ((fun s => s.alive = true ∧ s.stage < 2 ∧ s.role ≠ 3 ∧ s.start.late = false) : State → Prop) st)
    ∧ (let st : State := (tDev 0).ws [(Reg.MGMT_STAGE_STAGE, 0, 1), (Reg.MGMT_POWER_TIME_WAIT, 0, 3)]; ((fun s => s.alive = true ∧ s.mp = true ∧ s.r Reg.MGMT_POWER_TIME_WAIT ≠ 0 ∧ s.validSource = false ∧ s.stage < 2) : State → Prop) st)
    ∧ (let part := 0; let sector := 2; let n := 5; let q := (⟨⟨.spi, 0, 0, 0, []⟩, 0x109, 1⟩ : Req); let fail : Option Nat := (none : Option Nat); let st : State := let t : State := tHas (tFill 2 1); { t with start := { t.start with bisWrite := some (0, 2, 5, (⟨⟨.spi, 0, 0, 0, []⟩, 0x109, 1⟩ : Req)) } }; ((fun s => s.start.bisWrite = some (part, sector, n, q) ∧ firstBad s.dram (7 * sector) n = none) : State → Prop) st)
    ∧ (let j : OwnFlash := (⟨false, 4096, 2, 9, [], false, (⟨⟨.spi, 0, 0, 0, []⟩, 0x109, 1⟩ : Req)⟩ : OwnFlash); let fail : Option Nat := (none : Option Nat); let st : State := let t : State := tHas (tFill 2 1); { t with start := { t.start with ownFlash := [(⟨false, 4096, 2, 9, [], false, (⟨⟨.spi, 0, 0, 0, []⟩, 0x109, 1⟩ : Req)⟩ : OwnFlash)] } }; ((fun s => s.start.ownFlash.find? (fun x => !x.waits) = some j ∧ j.toDram = false
        ∧ firstBad s.dram (7 * j.sector) (pairWords j.bytes) = none) : State → Prop) st)
    ∧ (let j : OwnFlash := (⟨true, 4096, 2, 9, [], false, (⟨⟨.spi, 0, 0, 0, []⟩, 0x109, 1⟩ : Req)⟩ : OwnFlash); let st : State := let t : State := tHas (tFill 2 1); { t with start := { t.start with ownFlash := [(⟨true, 4096, 2, 9, [], false, (⟨⟨.spi, 0, 0, 0, []⟩, 0x109, 1⟩ : Req)⟩ : OwnFlash)] } }; ((fun s => s.start.ownFlash.find? (fun x => !x.waits) = some j ∧ j.toDram = true) : State → Prop) st)
    ∧ (let sector := 2; let n := 5; let q := (⟨⟨.spi, 0, 0, 0, []⟩, 0x109, 1⟩ : Req); let fail : Option Nat := (some 3 : Option Nat); let st : State := let t : State := tHas (tFill 2 1); { t with sec := { t.sec with staging := some (2, 5, (⟨⟨.spi, 0, 0, 0, []⟩, 0x109, 1⟩ : Req)) } }; ((fun s => s.sec.staging = some (sector, n, q) ∧ firstBad s.dram (7 * sector) n = none) : State → Prop) st)
    ∧ (let st : State := (tDev 0).ws [(Reg.MGMT_FW_0151_COMMIT_HOURS, 0, 3), (Reg.MGMT_FW_0150_TRIAL, 0, 1)]; ((fun s => s.r Reg.MGMT_FW_0151_COMMIT_HOURS ≠ 0 ∧ s.rb Reg.MGMT_FW_0150_TRIAL = true ∧ s.stage = 2) : State → Prop) st)
    ∧ (let st : State := tDev 1; ((fun s => s.isMgr = true ∧ s.mp = true ∧ s.mgr.netDone = false) : State → Prop) st) := by
  and_intros <;> decide +kernel

/-- Each clause of `Obligations.PowerRowsTakeEffect` has its premises met. -/
theorem witness_PowerRowsTakeEffect :
    (let k := 7; let snap := true; let st : State := let t : State := tDev 0; { t with start := { t.start with power := some (1, 7, true) }, time := { t.time with ticked := true, last := 7 } }; ((fun s => s.start.power = some (1, k, snap) ∧ s.time.ticked = true ∧ k ≤ s.time.last) : State → Prop) st)
    ∧ (let k := 7; let snap := true; let st : State := let t : State := (tDev 0).w Reg.MGMT_STAGE_STAGE 3; { t with start := { t.start with power := some (0, 7, true) }, time := { t.time with ticked := true, last := 7 } }; ((fun s => s.stage = 3 ∧ s.start.exitTick = none ∧ s.start.power = some (0, k, snap) ∧ s.time.ticked = true ∧ k ≤ s.time.last) : State → Prop) st)
    ∧ (let k := 7; let st : State := let t : State := (tDev 0).w Reg.MGMT_STAGE_STAGE 3; { t with start := { t.start with wakeExit := some 7 }, time := { t.time with ticked := true, last := 7 } }; ((fun s => s.stage = 3 ∧ s.start.exitTick = none ∧ s.start.power = none ∧ s.start.wakeExit = some k ∧ s.time.ticked = true
        ∧ k ≤ s.time.last) : State → Prop) st)
    ∧ (let st : State := ((tDev 0).w Reg.MGMT_STAGE_STAGE 3).ws [(Reg.MGMT_POWER_WAKE_PIN, 0, 1)]; ((fun s => s.start.powered = true ∧ s.start.cold = false ∧ s.rb Reg.MGMT_POWER_WAKE_PIN = true ∧ s.stage = 3
        ∧ s.start.exitTick = none ∧ s.start.wakeExit = none) : State → Prop) st)
    ∧ (let st : State := let t : State := ((tDev 0).w Reg.MGMT_STAGE_STAGE 3).ws [(Reg.MGMT_POWER_WAKE_PIN, 0, 1)]; { t with start := { t.start with cold := true } }; ((fun s => s.start.powered = true ∧ s.start.cold = true ∧ s.rb Reg.MGMT_POWER_WAKE_PIN = true) : State → Prop) st)
    ∧ (let k := 7; let snap := false; let st : State := let t : State := tDev 0; { t with start := { t.start with power := some (2, 7, false) }, time := { t.time with ticked := true, last := 7 } }; ((fun s => s.start.power = some (2, k, snap) ∧ s.time.ticked = true ∧ k ≤ s.time.last) : State → Prop) st)
    ∧ (let src : Nat := 1; let st : State := let t : State := ((tDev 0).w Reg.MGMT_STAGE_STAGE 3).ws [(Reg.MGMT_POWER_WAKE_PIN, 0, 1)]; { t with start := { t.start with cold := true } }; ((fun s => s.start.powered = true ∧ s.start.cold = true ∧ s.wakeEnabled src = true) : State → Prop) st)
    ∧ (let port : Nat := 3; let st : State := let t : State := ((tDev 0).w Reg.MGMT_STAGE_STAGE 3).ws [(Reg.MGMT_POWER_WAKE_LINK, 0, 1)]; { t with start := { t.start with cold := true } }; (port < 4) ∧ ((fun s => s.start.powered = true ∧ s.start.cold = true ∧ s.rb Reg.MGMT_POWER_WAKE_LINK = true) : State → Prop) st)
    ∧ (let d : Nat := 40; let dt : Nat := 9; let st : State := let t : State := tDev 0; { t with hearth := { t.hearth with ramps := [(40, 3, false)] } }; ((fun s => ∃ x ∈ s.hearth.ramps, x.1 = d) : State → Prop) st)
    ∧ (let d : Nat := 40; let at_ := 3; let st : State := let t : State := tDev 0; { t with hearth := { t.hearth with ramps := [(40, 3, false)] } }; ((fun s => s.hearth.ramps.find? (fun (x : Nat × Nat × Bool) => decide (x.1 = d)) = some (d, at_, false)) : State → Prop) st)
    ∧ (let d : Nat := 40; let at_ := 3; let st : State := let t : State := tDev 0; { t with hearth := { t.hearth with ramps := [(40, 3, true)] } }; ((fun s => s.hearth.ramps.find? (fun (x : Nat × Nat × Bool) => decide (x.1 = d)) = some (d, at_, true)) : State → Prop) st)
    ∧ (let d : Nat := 40; let at_ := 3; let st : State := let t : State := tDev 0; { t with hearth := { t.hearth with retries := [(40, 3)] } }; ((fun s => s.hearth.retries.find? (fun (x : Nat × Nat) => decide (x.1 = d)) = some (d, at_) ∧ s.wantOn d = true ∧ s.hearth.ramps.length < 4) : State → Prop) st) := by
  and_intros <;> decide +kernel

/-- Each clause of `Obligations.ClockRowsTakeEffect` has its premises met. -/
theorem witness_ClockRowsTakeEffect :
    (let ppm : Int := -3; let dt : Nat := 9; let st : State := tDev 0; ((fun s => s.time.stopped = false) : State → Prop) st)
    ∧ (let ppm : Int := -3; let dt : Nat := 9; let st : State := let t : State := tDev 0; { t with time := { t.time with stopped := true } }; ((fun s => s.time.stopped = true) : State → Prop) st)
    ∧ (let n : Nat := 1; let dt : Nat := 9; let st : State := (tDev 0).ws [(Reg.CLOCK_SYN_W0_LOCKED, 1, 1), (Reg.CLOCK_SYN_W0_LOCKED, 0, 1), (Reg.CLOCK_DLL_LOCKED, 0, 4)]; (n < 4) ∧ ((fun s => s.rb Reg.CLOCK_SYN_W0_LOCKED n = true) : State → Prop) st)
    ∧ (let n : Nat := 6; let dt : Nat := 9; let st : State := (tDev 0).ws [(Reg.CLOCK_SYN_W0_LOCKED, 1, 1), (Reg.CLOCK_SYN_W0_LOCKED, 0, 1), (Reg.CLOCK_DLL_LOCKED, 0, 4)]; (4 ≤ n) ∧ (n < 10) ∧ ((fun s => (s.r Reg.CLOCK_DLL_LOCKED).testBit (n - 4) = true) : State → Prop) st)
    ∧ (let n : Nat := 7; let band : Nat := 5; let us : Nat := 99; let dt : Nat := 9; let st : State := (tDev 0).ws [(Reg.CLOCK_SYN_W0_LOCKED, 1, 1), (Reg.CLOCK_SYN_W0_LOCKED, 0, 1), (Reg.CLOCK_DLL_LOCKED, 0, 4)]; (4 ≤ n) ∧ (n < 10) ∧ ((fun s => s.time.stopped = false ∧ (s.r Reg.CLOCK_DLL_LOCKED).testBit (n - 4) = false) : State → Prop) st)
    ∧ (let n : Nat := 0; let band : Nat := 5; let us : Nat := 99; let dt : Nat := 9; let st : State := tDev 0; (n < 4) ∧ ((fun s => s.time.stopped = false ∧ s.rb Reg.CLOCK_SYN_W0_LOCKED n = false) : State → Prop) st)
    ∧ (let n : Nat := 3; let st : State := tDev 0; (n < 4) ∧ ((fun _ => True) : State → Prop) st)
    ∧ (let n : Nat := 1; let st : State := let t : State := tDev 0; { t with time := { t.time with relocking := [false, true, false, false] } }; (n < 4) ∧ ((fun s => s.time.relocking.getD n false = true) : State → Prop) st)
    ∧ (let j : Nat := 3; let st : State := tDev 0; (j < 4) ∧ ((fun _ => True) : State → Prop) st)
    ∧ (let src : Nat := 0; let dt : Nat := 9; let st : State := let t : State := tDev 0; { t with time := { t.time with armed := [true, false, false, false] } }; ((fun s => s.time.armed = [true, false, false, false] ∧ s.r Reg.CLOCK_CKO_ALIGN_SRC 0 = src
        ∧ s.time.realign = [false, false, false, false]) : State → Prop) st) := by
  and_intros <;> decide +kernel

/-- Each clause of `Obligations.TimeRowsTakeEffect` has its premises met. -/
theorem witness_TimeRowsTakeEffect :
    (let c := (⟨7, true, 0, 30, 1⟩ : Sched); let st : State := let t : State := tDev 0; { t with time := { t.time with ticked := true, last := 7, scheds := [(⟨7, true, 0, 30, 1⟩ : Sched)] } }; ((fun s => s.time.ticked = true ∧ s.time.scheds = [c] ∧ c.k ≤ s.time.last) : State → Prop) st)
    ∧ (let k := 7; let p := 5; let g := 9; let st : State := let t : State := tDev 0; { t with time := { t.time with ticked := true, last := 7, phase := some (7, 5, 9) } }; ((fun s => s.time.ticked = true ∧ s.time.phase = some (k, p, g) ∧ k ≤ s.time.last) : State → Prop) st)
    ∧ (let b : Nat := 2; let v : Word := 0xFFFFFFFF0; let st : State := (tDev 0).ws [(Reg.TIME_BASE_W4_MODE, 2, 1)]; (b < 3) ∧ ((fun s => s.servo b = true) : State → Prop) st)
    ∧ (let dt : Nat := 9000000; let st : State := (tDev 0).ws [(Reg.TIME_TICK_CTRL_BOUNDARY, 0, 1), (Reg.TIME_TICK_CTRL_SYNC_DIV, 0, 1), (Reg.CLOCK_CKO_ALIGN_SRC, 0, 1), (Reg.CLOCK_CKO_ALIGN_SRC, 1, 1), (Reg.CLOCK_CKO_ALIGN_SRC, 2, 1), (Reg.CLOCK_CKO_ALIGN_SRC, 3, 1)]; ((fun s => s.rb Reg.TIME_TICK_CTRL_BOUNDARY = true ∧ s.rb Reg.TIME_CAPTURE_W0_EN 0 = false
        ∧ (∀ n, n < 4 → s.r Reg.CLOCK_CKO_ALIGN_SRC n ≠ 0) ∧ 0 ≤ (s.pass dt).nearSync (s.pass dt).tb3
        ∧ s.time.syncK ≠ some ((s.pass dt).nearSync (s.pass dt).tb3).toNat) : State → Prop) st)
    ∧ (let st : State := (tDev 0).ws [(Reg.TIME_TICK_CTRL_BOUNDARY, 0, 1), (Reg.TIME_TICK_CTRL_SYNC_DIV, 0, 1)]; ((fun s => s.rb Reg.TIME_TICK_CTRL_BOUNDARY = true ∧ s.time.syncLost = false) : State → Prop) st)
    ∧ (let el : Nat := 1; let falling : Bool := true; let dt : Nat := 15; let st : State := let t : State := (tDev 0).ws [(Reg.TIME_CAPTURE_W0_EN, 1, 1), (Reg.TIME_CAPTURE_W0_FALLING, 1, 1)]; { t with time := { t.time with capAt := [none, some 5] } }; (el < 2) ∧ ((fun s => s.rb Reg.TIME_CAPTURE_W0_EN el = true ∧ s.rb Reg.TIME_CAPTURE_W0_FALLING el = falling
        ∧ (s.time.capAt.getD el none).all (fun a => decide (a + 10 ≤ s.now + dt)) = true ∧ (s.time.fifo.getD el []).length < 16) : State → Prop) st)
    ∧ (let el : Nat := 1; let falling : Bool := true; let dt : Nat := 15; let st : State := let t : State := (tDev 0).ws [(Reg.TIME_CAPTURE_W0_EN, 1, 1), (Reg.TIME_CAPTURE_W0_FALLING, 1, 1)]; { t with time := { t.time with fifo := [[], List.replicate 16 0] } }; (el < 2) ∧ ((fun s => s.rb Reg.TIME_CAPTURE_W0_EN el = true ∧ s.rb Reg.TIME_CAPTURE_W0_FALLING el = falling
        ∧ (s.time.capAt.getD el none).all (fun a => decide (a + 10 ≤ s.now + dt)) = true ∧ 16 ≤ (s.time.fifo.getD el []).length) : State → Prop) st)
    ∧ (let el : Nat := 1; let t := 70; let rest := [80]; let st : State := let t : State := tDev 0; { t with time := { t.time with fifo := [[], [70, 80]] } }; (el < 2) ∧ ((fun s => s.time.fifo.getD el [] = t :: rest) : State → Prop) st)
    ∧ (let p := 2; let dt : Nat := 9; let st : State := (tDev 0).ws [(Reg.LINK_TIME_CTRL_UP_SEL, 0, 6), (Reg.LINK_PORT_W1_STATE, 2, 2), (Reg.SECURE_LINK_STATE, 2, 1)]; ((fun s => s.isWorker = true ∧ s.upstream = some p) : State → Prop) st)
    ∧ (let port : Nat := 2; let words : List Word := [0x100000007]; let resp : Nat := 50; let dt : Nat := 9; let st : State := (tDev 0).ws [(Reg.LINK_TIME_CTRL_UP_SEL, 0, 6), (Reg.LINK_PORT_W1_STATE, 2, 2), (Reg.SECURE_LINK_STATE, 2, 1)]; (port < 4) ∧ ((fun s => s.portUp port = true) : State → Prop) st)
    ∧ (let port : Nat := 2; let words : List Word := [0x400030007]; let dt : Nat := 9; let x := (⟨2, 7, [0, 0], [], [], [], [false, false], none⟩ : Exchange); let st : State := let t : State := (tDev 0).ws [(Reg.LINK_TIME_CTRL_UP_SEL, 0, 6), (Reg.LINK_PORT_W1_STATE, 2, 2), (Reg.SECURE_LINK_STATE, 2, 1)]; { t with link := { t.link with exchange := some (⟨2, 7, [0, 0], [], [], [], [false, false], none⟩ : Exchange) } }; (port < 4) ∧ ((fun s => s.link.exchange = some x ∧ x.port = port ∧ x.num = bits (nthW words 0) 15 0) : State → Prop) st)
    ∧ (let port : Nat := 2; let words : List Word := [0x500030007]; let dt : Nat := 9; let x := (⟨2, 7, [0, 0], [5, 5], [], [9, 9], [true, true], some 3⟩ : Exchange); let st : State := let t : State := (tDev 0).ws [(Reg.LINK_TIME_CTRL_UP_SEL, 0, 6), (Reg.LINK_PORT_W1_STATE, 2, 2), (Reg.SECURE_LINK_STATE, 2, 1)]; { t with link := { t.link with exchange := some (⟨2, 7, [0, 0], [5, 5], [], [9, 9], [true, true], some 3⟩ : Exchange) } }; (port < 4) ∧ ((fun s => s.link.exchange = some x ∧ x.port = port ∧ x.num = bits (nthW words 0) 15 0 ∧ s.link.delays = []
        ∧ x.respAt.any (fun r => decide (s.now + dt ≤ r + 10000)) = true) : State → Prop) st)
    ∧ (let x := (⟨2, 7, [0, 0], [5, 5], [], [9, 9], [true, true], some 3⟩ : Exchange); let t := 3; let st : State := let t : State := (tDev 0).ws [(Reg.LINK_TIME_CTRL_UP_SEL, 0, 6), (Reg.LINK_PORT_W1_STATE, 2, 2), (Reg.SECURE_LINK_STATE, 2, 1)]; { t with link := { t.link with exchange := some (⟨2, 7, [0, 0], [5, 5], [], [9, 9], [true, true], some 3⟩ : Exchange) } }; ((fun s => s.link.exchange = some x ∧ x.respAt = some t) : State → Prop) st)
    ∧ (let st : State := tDev 0; ((fun s => s.isWorker = true) : State → Prop) st) := by
  and_intros <;> decide +kernel

/-- Each clause of `Obligations.MemoryRowsTakeEffect` has its premises met. -/
theorem witness_MemoryRowsTakeEffect :
    (let dt : Nat := 9; let st : State := (tDev 0).ws [(Reg.MEM_STATUS_TRAINED, 0, 0), (Reg.CLOCK_SYN_W0_LOCKED, 0, 1)]; ((fun s => s.trainReady = true) : State → Prop) st)
    ∧ (let ok : Nat := 15; let g0 := 2; let g1 := 1; let density : Nat := 1; let ranks : Nat := 0; let dt : Nat := 9; let st : State := let t : State := (tDev 0).ws [(Reg.MEM_STATUS_TRAINED, 0, 0), (Reg.CLOCK_SYN_W0_LOCKED, 0, 1)]; { t with mem := { t.mem with training := true } }; (ok % 16 = 15) ∧ (capacityOk density ranks = true) ∧ ((fun s => s.mem.training = true) : State → Prop) st)
    ∧ (let ok : Nat := 15; let g1 : Option Nat := (some 1 : Option Nat); let density : Nat := 1; let ranks : Nat := 0; let same : Bool := true; let dt : Nat := 9; let st : State := let t : State := (tDev 0).ws [(Reg.MEM_STATUS_TRAINED, 0, 0), (Reg.CLOCK_SYN_W0_LOCKED, 0, 1)]; { t with mem := { t.mem with training := true } }; ((fun s => s.mem.training = true) : State → Prop) st)
    ∧ (let ch : Nat := 3; let drift : Nat := 4; let dt : Nat := 9; let st : State := (tDev 0).ws [(Reg.MEM_CTRL_DRIFT_LIM, 0, 4)]; (ch < 4) ∧ ((fun s => s.rb Reg.MEM_STATUS_TRAINED = true ∧ s.tailLets ch = true ∧ s.rb Reg.MEM_STATUS_SWITCHING = false
        ∧ drift ≤ s.r Reg.MEM_CTRL_DRIFT_LIM) : State → Prop) st)
    ∧ (let ch : Nat := 2; let drift : Nat := 8; let dt : Nat := 9; let st : State := (tDev 0).ws [(Reg.MEM_CTRL_DRIFT_LIM, 0, 4)]; (ch < 4) ∧ ((fun s => s.rb Reg.MEM_STATUS_TRAINED = true ∧ s.tailLets ch = true ∧ s.rb Reg.MEM_STATUS_SWITCHING = false
        ∧ s.r Reg.MEM_CTRL_DRIFT_LIM < drift ∧ drift ≤ 2 * s.r Reg.MEM_CTRL_DRIFT_LIM ∧ ∀ q ∈ s.mem.seqs, q.1 ≠ ch) : State → Prop) st)
    ∧ (let ch : Nat := 2; let drift : Nat := 9; let dt : Nat := 9; let st : State := let t : State := (tDev 0).ws [(Reg.MEM_CTRL_DRIFT_LIM, 0, 4)]; { t with mem := { t.mem with seqs := [(2, 1)] } }; (ch < 4) ∧ ((fun s => s.rb Reg.MEM_STATUS_TRAINED = true ∧ s.tailLets ch = true ∧ s.rb Reg.MEM_STATUS_SWITCHING = false
        ∧ 2 * s.r Reg.MEM_CTRL_DRIFT_LIM < drift ∧ s.mem.hard = [] ∧ ∃ q ∈ s.mem.seqs, q.1 = ch) : State → Prop) st)
    ∧ (let ch := 2; let n := 4; let rest := [(3, 0)]; let dt : Nat := 9; let st : State := let t : State := tDev 0; { t with mem := { t.mem with seqs := [(2, 4), (3, 0)] } }; ((fun s => s.mem.seqs = (ch, n) :: rest ∧ (s.pass dt).mayBurst ch = true ∧ n < 5) : State → Prop) st)
    ∧ (let ch := 2; let n := 5; let rest := [(3, 0)]; let dt : Nat := 9; let st : State := let t : State := tDev 0; { t with mem := { t.mem with seqs := [(2, 5), (3, 0)] } }; ((fun s => s.mem.seqs = (ch, n) :: rest ∧ (s.pass dt).mayBurst ch = true ∧ 5 ≤ n) : State → Prop) st)
    ∧ (let dt : Nat := 9; let st : State := let t : State := (tDev 0).ws [(Reg.MEM_STATUS_SWITCHING, 0, 1)]; { t with mem := { t.mem with toSp := 1, seqs := [(1, 0)] } }; ((fun s => s.rb Reg.MEM_STATUS_SWITCHING = true ∧ ∀ q ∈ s.mem.seqs, q.2 = 0) : State → Prop) st)
    ∧ (let ch := 1; let n := 2; let dt : Nat := 9; let st : State := let t : State := (tDev 0).ws [(Reg.MEM_STATUS_SWITCHING, 0, 1)]; { t with mem := { t.mem with toSp := 1, seqs := [(1, 3)] } }; ((fun s => s.rb Reg.MEM_STATUS_SWITCHING = true ∧ s.mem.seqs = [(ch, n + 1)]) : State → Prop) st)
    ∧ (let ch : Nat := 2; let idle : Nat := 0; let dt : Nat := 9; let st : State := (tDev 0).ws [(Reg.MEM_CHAN_W0_POSTPONED, 2, 7)]; (ch < 4) ∧ ((fun s => s.rb Reg.MEM_STATUS_TRAINED = true ∧ (s.r Reg.MEM_STATUS_IN_SR).testBit ch = false
        ∧ s.r Reg.MEM_CHAN_W0_POSTPONED ch + 1 ≤ 8 + idle) : State → Prop) st)
    ∧ (let ch : Nat := 2; let idle : Nat := 0; let dt : Nat := 9; let st : State := (tDev 0).ws [(Reg.MEM_CHAN_W0_POSTPONED, 2, 8)]; (ch < 4) ∧ ((fun s => s.rb Reg.MEM_STATUS_TRAINED = true ∧ (s.r Reg.MEM_STATUS_IN_SR).testBit ch = false
        ∧ 8 + idle < s.r Reg.MEM_CHAN_W0_POSTPONED ch + 1) : State → Prop) st)
    ∧ (let ch : Nat := 3; let rate : Nat := 3; let hot : Bool := true; let dt : Nat := 9; let st : State := tDev 0; (ch < 4) ∧ ((fun s => s.rb Reg.MEM_STATUS_TRAINED = true) : State → Prop) st)
    ∧ (let ch : Nat := 2; let st : State := (tDev 0).ws [(Reg.MEM_CTRL_IDLE_SR, 0, 1)]; (ch < 4) ∧ ((fun s => s.rb Reg.MEM_STATUS_TRAINED = true ∧ (s.stage = 3 ∨ s.rb Reg.MEM_CTRL_IDLE_SR = true
          ∧ max s.now (nth s.mem.idleAt ch + 100 * s.r Reg.MEM_CTRL_SR_IDLE)
            < nth s.mem.oscAt ch + 100000 * s.r Reg.MEM_CTRL_RETRAIN_MS)
        ∧ (s.r Reg.MEM_STATUS_IN_SR).testBit ch = false
        ∧ s.rb Reg.MEM_CHAN_W0_POSTPONED ch = false ∧ ∀ q ∈ s.mem.seqs, q.1 ≠ ch) : State → Prop) st)
    ∧ (let ch : Nat := 3; let st : State := (tDev 0).ws [(Reg.MEM_CTRL_IDLE_SR, 0, 1)]; (ch < 4) ∧ ((fun s => s.rb Reg.MEM_STATUS_TRAINED = true ∧ (s.stage = 3 ∨ s.rb Reg.MEM_CTRL_IDLE_SR = true
          ∧ max s.now (nth s.mem.idleAt ch + 100 * s.r Reg.MEM_CTRL_SR_IDLE)
            < nth s.mem.oscAt ch + 100000 * s.r Reg.MEM_CTRL_RETRAIN_MS)
        ∧ (s.r Reg.MEM_STATUS_IN_SR).testBit ch = false
        ∧ s.rb Reg.MEM_CHAN_W0_POSTPONED ch = false ∧ ∀ q ∈ s.mem.seqs, q.1 ≠ ch) : State → Prop) st) := by
  and_intros <;> decide +kernel

/-- Each clause of `Obligations.HeatRowsTakeEffect` has its premises met. -/
theorem witness_HeatRowsTakeEffect :
    (let x : HkInput := (⟨[], [], [], [], 0, []⟩ : HkInput); let st : State := tDev 0; ((fun s => s.domain 4 = 2) : State → Prop) st)
    ∧ (let st : State := (tDev 0).ws [(Reg.HEARTH_DAMP_STATUS_STATE, 0, 1), (Reg.HEARTH_DIE_CAUSE, 0, 1)]; ((fun s => s.r Reg.HEARTH_DAMP_STATUS_STATE = 1 ∧ s.anyCause = true) : State → Prop) st)
    ∧ (let st : State := (tDev 0).ws [(Reg.HEARTH_DAMP_STATUS_STATE, 0, 2), (Reg.HEARTH_DIE_CAUSE, 0, 1), (Reg.HEARTH_DAMP_STATUS_T_CAP, 0, 150), (Reg.HEARTH_DAMP_CTRL_STEP_W, 0, 5)]; ((fun s => s.r Reg.HEARTH_DAMP_STATUS_STATE = 2 ∧ s.anyCause = true
        ∧ s.r Reg.HEARTH_DAMP_CTRL_FLOOR_W < s.r Reg.HEARTH_DAMP_STATUS_T_CAP ∧ 0 < s.r Reg.HEARTH_DAMP_CTRL_STEP_W) : State → Prop) st)
    ∧ (let st : State := (tDev 0).ws [(Reg.HEARTH_DAMP_STATUS_STATE, 0, 2)]; ((fun s => s.r Reg.HEARTH_DAMP_STATUS_STATE = 2 ∧ s.anyCause = false) : State → Prop) st)
    ∧ (let st : State := (tDev 0).ws [(Reg.HEARTH_DAMP_STATUS_STATE, 0, 3)]; ((fun s => s.r Reg.HEARTH_DAMP_STATUS_STATE = 3) : State → Prop) st) := by
  and_intros <;> decide +kernel

/-- Each clause of `Obligations.LaneRowsTakeEffect` has its premises met. -/
theorem witness_LaneRowsTakeEffect :
    (let lane : Nat := 0; let st : State := (tDev 0).ws [(Reg.LINK_LANE_W0_FITTED, 0, 1), (Reg.LINK_PORT_W0_EN, 0, 1)]; ((fun s => s.laneMay lane = true ∧ s.laneState lane = 0) : State → Prop) st)
    ∧ (let lane : Nat := 2; let t := 0; let st : State := let t : State := (tDev 0).ws [(Reg.LINK_LANE_W1_STATE, 2, 2)]; t.setLane 2 { t.laneX 2 with startAt := some 0 }; ((fun s => (s.laneX lane).startAt = some t ∧ laneRx lane = true ∧ s.rxLocked lane = false ∧ s.laneState lane ≠ 0
        ∧ (s.laneX lane).told = false) : State → Prop) st)
    ∧ (let lane : Nat := 28; let line : List Word := [5]; let dt : Nat := 9; let st : State := (tDev 0).ws [(Reg.LINK_LANE_W1_STATE, 28, 2)]; (28 ≤ lane) ∧ (lane < 32) ∧ ((fun s => s.laneState lane = 2) : State → Prop) st)
    ∧ (let lane : Nat := 28;
let dt : Nat := 9;
let line : List Word := (List.range 35).map (fun i => word (listNat ((((encodeSlot 0 [1, 2, 3] 0x066).1 ++ List.replicate 40 false).drop (36 * i)).take 36)));
let ws : List Word := (decodeData 0 (encodeSlot 0 [1, 2, 3] 0x066).1).1.getD [];
let st := (decodeData 0 (encodeSlot 0 [1, 2, 3] 0x066).1).2;
let s0 : State := let t : State := (tDev 0).ws [(Reg.LINK_LANE_W1_STATE, 28, 4)]; t.setLane 28 { t.laneX 28 with scrRx := 0 };
      let raw (s : State) : List Bool := (s.laneX lane).line ++ (line.flatMap (fun w => bitList 36 w.toNat)).take 1237;
(28 ≤ lane ∧ lane < 32) ∧ ((fun s => s.laneState lane = 4 ∧ 1237 ≤ (raw s).length ∧ slotMarker ((raw s).take 1237) = some 0x066
          ∧ decodeData (s.laneX lane).scrRx ((raw s).take 1237) = (some ws, st)) : State → Prop) s0)
    ∧ (let p : Nat := 1;
let dt : Nat := 9;
let ty := 0x066;
let g := ([] : List Word);
let line : List Word := (List.range 35).map (fun i => word (listNat ((((encodeSlot 0 [1, 2, 3] 0x066).1 ++ List.replicate 40 false).drop (36 * i)).take 36)));
let ws : List Word := (decodeData 0 (encodeSlot 0 [1, 2, 3] 0x066).1).1.getD [];
let st := (decodeData 0 (encodeSlot 0 [1, 2, 3] 0x066).1).2;
let s0 : State := let t : State := let t : State := (tDev 0).ws [(Reg.LINK_LANE_W1_STATE, 2, 4), (Reg.LINK_LANE_W1_STATE, 3, 4), (Reg.LINK_PORT_W1_STATE, 1, 2)]; t.setLane 3 { t.laneX 3 with scrRx := 0 }; t.setLane 2 { t.laneX 2 with held := some (some (0x066, [])) };
      let l := 2 * p + 1;
      let raw (s : State) : List Bool := (s.laneX l).line ++ (line.flatMap (fun w => bitList 36 w.toNat)).take 1237;
(p < 4) ∧ (markerTypes.contains ty = true) ∧ ((fun s => s.laneState (2 * p) = 4 ∧ s.laneState l = 4 ∧ s.r Reg.LINK_PORT_W1_STATE p ≠ 0
          ∧ 1237 ≤ (raw s).length ∧ slotMarker ((raw s).take 1237) = some ty
          ∧ (s.laneX (2 * p)).held = some (some (ty, g)) ∧ s.lane.lanes.length = 32
          ∧ decodeData (s.laneX l).scrRx ((raw s).take 1237) = (some ws, st)) : State → Prop) s0)
    ∧ (let lane : Nat := 2; let errs : List ReadErr := []; let dt : Nat := 9; let st : State := (tDev 0).ws [(Reg.LINK_LANE_W1_STATE, 2, 4), (Reg.LINK_LANE_W1_STATE, 3, 4)]; (lane < 8) ∧ ((fun s => ((s.pass dt).wakesDone).laneState (2 * (lane / 2)) ≠ 0 ∧ ((s.pass dt).wakesDone).laneState (2 * (lane / 2) + 1) ≠ 0
        ∧ (((s.pass dt).wakesDone).rb Reg.LINK_PORT_W0_SLEEP (lane / 2) = false
          ∨ (((s.pass dt).wakesDone).port (lane / 2)).wakeEnd.isSome = true)) : State → Prop) st)
    ∧ (let lane : Nat := 14; let errs : List ReadErr := []; let dt : Nat := 9; let st : State := (tDev 0).ws [(Reg.LINK_LANE_W1_STATE, 14, 1)]; (12 ≤ lane) ∧ (lane < 28) ∧ ((fun s => ((s.pass dt).wakesDone).laneState lane ≠ 0) : State → Prop) st)
    ∧ (let h : Nat := 9; let v : Nat := 7; let lane := 3; let auto := true; let st : State := let t : State := tDev 0; { t with lane := { t.lane with eye := some (3, true) } }; ((fun s => s.lane.eye = some (lane, auto)) : State → Prop) st)
    ∧ (let lane := 5; let st : State := (tDev 0).ws [(Reg.LINK_EYE_CTRL_AUTO, 0, 1), (Reg.LINK_LANE_W1_STATE, 5, 4)]; ((fun s => s.rb Reg.LINK_EYE_CTRL_AUTO = true ∧ s.lane.eye = none
        ∧ ((List.range 32).map (fun n => (s.lane.autoNext + n) % 32)).find? (fun l => laneRx l && s.rxLocked l) = some lane) : State → Prop) st) := by
  and_intros <;> decide +kernel

/-- Each clause of `Obligations.PortRowsTakeEffect` has its premises met. -/
theorem witness_PortRowsTakeEffect :
    (let port : Nat := 1; let words : List Word := [0x100000000]; let dt : Nat := 9; let st : State := let t : State := (tDev 0).ws [(Reg.LINK_PORT_W1_STATE, 1, 1)]; t.setPort 1 { t.port 1 with hello := 1 }; (port < 4) ∧ (bits (nthW words 0) 35 32 = 1) ∧ (bits (nthW words 6) 6 4 ≠ 4) ∧ ((fun s => s.r Reg.LINK_PORT_W1_STATE port = 1 ∧ 1 ≤ (s.port port).hello) : State → Prop) st)
    ∧ (let port : Nat := 1; let st : State := (tDev 0).ws [(Reg.LINK_PORT_W1_STATE, 1, 2), (Reg.SECURE_LINK_STATE, 1, 1)]; (port < 4) ∧ ((fun s => s.r Reg.LINK_PORT_W1_STATE port ≠ 0) : State → Prop) st)
    ∧ (let port : Nat := 1; let st : State := (tDev 0).ws [(Reg.LINK_PORT_W1_STATE, 1, 2), (Reg.SECURE_LINK_STATE, 1, 1)]; (port < 4) ∧ ((fun s => (s.port port).lreset = 0 ∧ s.r Reg.LINK_PORT_W1_STATE port ≠ 0) : State → Prop) st)
    ∧ (let port : Nat := 1; let st : State := let t : State := (tDev 0).ws [(Reg.LINK_PORT_W1_STATE, 1, 2), (Reg.SECURE_LINK_STATE, 1, 1)]; t.setPort 1 { t.port 1 with replay := [(⟨0, [0], 0, some 0, false, none⟩ : Queued)] }; (port < 4) ∧ ((fun s => (s.port port).replay ≠ [] ∧ s.portUp port = true ∧ (s.port port).replays < 8
        ∧ ∀ q ∈ (s.port port).replay, isTReq q = false) : State → Prop) st)
    ∧ (let port : Nat := 1; let st : State := let t : State := (tDev 0).ws [(Reg.LINK_PORT_W1_STATE, 1, 2), (Reg.SECURE_LINK_STATE, 1, 1)]; t.setPort 1 { t.port 1 with replay := [(⟨0, [0], 0, some 0, false, none⟩ : Queued)], replays := 8 }; (port < 4) ∧ ((fun s => (s.port port).replay ≠ [] ∧ s.portUp port = true ∧ 8 ≤ (s.port port).replays) : State → Prop) st)
    ∧ (let port : Nat := 1;
let dt : Nat := 9;
let words : List Word := (let b : List Word := [word (1 * 2 ^ 33 + 2 ^ 23), 7, 8]; b ++ [word (crcWords b)]);
let s0 : State := (tDev 0).ws [(Reg.LINK_PORT_W1_STATE, 1, 2), (Reg.SECURE_LINK_STATE, 1, 1)];
      let h0 := nthW words 0;
      let n := 3 + h0Len h0;
      let body := words.take (n - 1);
(n ≤ words.length) ∧ (bits (nthW words (n - 1)) 31 0 = crcWords body) ∧ (bit (nthW words (n - 1)) 35 = false) ∧ (h0Len h0 ≤ 1021) ∧ (h0Vc h0 = 1) ∧ ((fun s => s.portUp port = true ∧ s.border port = false) : State → Prop) s0)
    ∧ (let port : Nat := 1;
let dt : Nat := 9;
let words : List Word := (let b : List Word := [word (3 * 2 ^ 33 + 2 ^ 23), 7, 8]; b ++ [word (crcWords b)]);
let s0 : State := (tDev 0).ws [(Reg.LINK_PORT_W1_STATE, 1, 2), (Reg.SECURE_LINK_STATE, 1, 1)];
      let h0 := nthW words 0;
      let n := 3 + h0Len h0;
      let body := words.take (n - 1);
(n ≤ words.length) ∧ (bits (nthW words (n - 1)) 31 0 = crcWords body) ∧ (bit (nthW words (n - 1)) 35 = false) ∧ (h0Len h0 ≤ 1021) ∧ (h0Vc h0 = 3) ∧ ((fun s => s.portUp port = true ∧ s.border port = false ∧ seqAhead (h0Seq h0) (s.port port).rxSeq = 0) : State → Prop) s0)
    ∧ (let port : Nat := 1;
let dt : Nat := 9;
let words : List Word := (let b : List Word := [word (2 * 2 ^ 33 + 2 ^ 23), 7, 8]; b ++ [word (crcWords b)]);
let s0 : State := (tDev 0).ws [(Reg.LINK_PORT_W1_STATE, 1, 2), (Reg.SECURE_LINK_STATE, 1, 1)];
      let h0 := nthW words 0;
      let n := 3 + h0Len h0;
      let body := words.take (n - 1);
(n ≤ words.length) ∧ (bits (nthW words (n - 1)) 31 0 = crcWords body) ∧ (bit (nthW words (n - 1)) 35 = false) ∧ (h0Len h0 ≤ 1021) ∧ (h0Vc h0 = 2) ∧ ((fun s => s.portUp port = true ∧ seqAhead (h0Seq h0) (s.port port).rxSeq = 0) : State → Prop) s0)
    ∧ (let port : Nat := 1; let words : List Word := (let b : List Word := [word (2 * 2 ^ 33 + 2 ^ 23), 7, 8]; b ++ [word (crcWords b)]); let dt : Nat := 9; let st : State := (tDev 0).ws [(Reg.LINK_PORT_W1_STATE, 1, 2), (Reg.SECURE_LINK_STATE, 1, 1)]; (port < 4) ∧ (h0Vc (nthW words 0) = 2) ∧ (h0Len (nthW words 0) ≤ 1021) ∧ ((fun s => s.portUp port = true) : State → Prop) st) := by
  and_intros <;> decide +kernel

/-- Each clause of `Obligations.SecureRowsTakeEffect` has its premises met. -/
theorem witness_SecureRowsTakeEffect :
    (let port : Nat := 1; let words : List Word := [1]; let st : State := let t : State := (tDev 0).ws [(Reg.LINK_PORT_W1_STATE, 1, 2), (Reg.SECURE_LINK_STATE, 1, 1)]; t.setLink 1 { t.link_ 1 with begun := true }; (port < 4) ∧ ((fun s => s.portUp port = true ∧ s.linksRun = true ∧ (s.link_ port).begun = true ∧ (s.link_ port).far = none) : State → Prop) st)
    ∧ (let port : Nat := 1; let words : List Word := [1]; let n := 5; let st : State := let t : State := (tDev 0).ws [(Reg.LINK_PORT_W1_STATE, 1, 2), (Reg.SECURE_LINK_STATE, 1, 1)]; t.setLink 1 { t.link_ 1 with begun := true, far := some 5 }; (port < 4) ∧ ((fun s => s.portUp port = true ∧ s.linksRun = true ∧ (s.link_ port).begun = true ∧ (s.link_ port).far = some n) : State → Prop) st)
    ∧ (let port : Nat := 1; let words : List Word := [1]; let st : State := ((tDev 0).ws [(Reg.LINK_PORT_W1_STATE, 1, 2), (Reg.SECURE_LINK_STATE, 1, 1)]).ws [(Reg.MGMT_STAGE_STAGE, 0, 0)]; (port < 4) ∧ ((fun s => s.portUp port = true ∧ s.linksRun = false) : State → Prop) st)
    ∧ (let port : Nat := 1; let words : List Word := [1]; let st : State := let t : State := (tDev 0).ws [(Reg.LINK_PORT_W1_STATE, 1, 2), (Reg.SECURE_LINK_STATE, 1, 1)]; t.setLink 1 { t.link_ 1 with begun := true }; (port < 4) ∧ ((fun s => s.portUp port = true ∧ (s.link_ port).begun = true ∧ (s.pass 0).proofOf port words = none) : State → Prop) st)
    ∧ (let port : Nat := 1; let st : State := let t : State := (tDev 0).ws [(Reg.LINK_PORT_W1_STATE, 1, 2), (Reg.SECURE_LINK_STATE, 1, 1)]; t.setLink 1 { t.link_ 1 with begun := true }; (port < 4) ∧ ((fun s => s.portUp port = true ∧ (s.link_ port).begun = true) : State → Prop) st)
    ∧ (let port : Nat := 1; let st : State := ((tDev 0).ws [(Reg.LINK_PORT_W1_STATE, 1, 2), (Reg.SECURE_LINK_STATE, 1, 1)]).ws [(Reg.SECURE_LINK_STATE, 1, 0)]; (port < 4) ∧ ((fun s => s.portUp port = true ∧ s.r Reg.SECURE_LINK_STATE port = 0) : State → Prop) st)
    ∧ (let port : Nat := 1; let st : State := let t : State := (tDev 0).ws [(Reg.LINK_PORT_W1_STATE, 1, 2), (Reg.SECURE_LINK_STATE, 1, 1)]; t.setLink 1 { t.link_ 1 with begun := true }; (port < 4) ∧ ((fun s => s.portUp port = true ∧ (s.link_ port).begun = true ∧ s.r Reg.SECURE_LINK_STATE port ≠ 0) : State → Prop) st)
    ∧ (let entry : Nat := 3; let st : State := (tDev 0).ws [(Reg.SECURE_SESSION_STATE, 3, 1)]; (entry < 16) ∧ ((fun s => s.r Reg.SECURE_SESSION_STATE entry ≠ 0) : State → Prop) st)
    ∧ (let entry : Nat := 0; let k := (⟨5, 3, []⟩ : ContentKey); let st : State := let t : State := (tDev 0).ws [(Reg.TIME_TICK_STATUS_SOURCE, 0, 2), (Reg.TIME_TICK_CTRL_SRC_SEL, 0, 3)]; t.setStore { t.sec.store with keys := [⟨5, 3, []⟩] }; ((fun s => s.sec.store.keys[entry]? = some k ∧ k.untilSec ≠ 0
      ∧ (s.goto (((k.untilSec + 1) * secUnits : Nat) : Int)).tb3Valid = true
      ∧ k.untilSec < (s.goto (((k.untilSec + 1) * secUnits : Nat) : Int)).second % 2 ^ 36) : State → Prop) st)
    ∧ (let st : State := let t : State := (tDev 0).ws [(Reg.TIME_TICK_STATUS_SOURCE, 0, 2), (Reg.TIME_TICK_CTRL_SRC_SEL, 0, 3)]; t.setStore { t.sec.store with creds := [⟨false, 1, 5, false, 0, []⟩] }; ((fun s => s.tb3Valid = true ∧ (∃ c ∈ s.sec.store.creds, c.notAfter ≠ 0 ∧ c.notAfter < s.second % 2 ^ 36 + 2592000)
      ∧ ∀ c ∈ s.sec.store.creds, c.legacy = false) : State → Prop) st)
    ∧ (let e := (⟨1, [], 0⟩ : Ephemeral); let st : State := let t : State := tDev 0; { t with sec := { t.sec with eph := some ⟨1, [], 0⟩ } }; ((fun s => s.sec.eph = some e) : State → Prop) st)
    ∧ (let low : Bool := true; let st : State := tDev 0; ((fun s => s.start.powered = true) : State → Prop) st) := by
  and_intros <;> decide +kernel

/-- Each clause of `Obligations.TransportRowsTakeEffect` has its premises met. -/
theorem witness_TransportRowsTakeEffect :
    (let d : Datagram := ({ eth := 0, vid := none, good := true, broken := false, v6 := false, dst := 0xA000001, src := 5, sport := 7, dport := (tDev 1).r Reg.MGR_NET_CMD_PORT, bytes := packBytes [word (0x001 * 2 ^ 24), 0] } : Datagram); let dt : Nat := 9; let st : State := (tDev 1).ws [(Reg.MGR_ETH_CTRL_UP, 0, 1), (Reg.MGR_ADDR_2006_IPV4, 0, 167772161)]; (9 ≤ d.bytes.length) ∧ ((fun s =>
      let t := (s.pass dt).wakesDone
      t.alive = true ∧ t.isMgr = true ∧ t.udpHeard d = true ∧ t.ownAddr d = true ∧ d.dport = t.r Reg.MGR_NET_CMD_PORT
      ∧ d.bytes.length = packedLen (2 + bits (nthW (wordsOfBytes d.bytes) 0) 11 0)
      ∧ bits (nthW (wordsOfBytes d.bytes) 0) 11 0 ≤ 1018) : State → Prop) st)
    ∧ (let d : Datagram := ({ eth := 0, vid := none, good := true, broken := false, v6 := false, dst := 0xA000001, src := 5, sport := 7, dport := 5, bytes := packBytes [word (0x001 * 2 ^ 24), 0] } : Datagram); let dt : Nat := 9; let st : State := tDev 0; ((fun s => ((s.pass dt).wakesDone).udpHeard d = false ∨ ((s.pass dt).wakesDone).ownAddr d = false ∨ d.bytes.length < 9) : State → Prop) st)
    ∧ (let bytes : List Byte := packBytes [word (0x001 * 2 ^ 24), 0]; let dt : Nat := 9; let st : State := tDev 0; (5 ≤ bytes.length) ∧ ((fun s =>
      ((s.pass dt).wakesDone).alive = true
      ∧ bytes.length = packedLen (2 + bits (nthW (wordsOfBytes bytes) 0) 11 0) ∧ bits (nthW (wordsOfBytes bytes) 0) 11 0 ≤ 1018) : State → Prop) st)
    ∧ (let bytes : List Byte := packBytes [word (0x001 * 2 ^ 24), 0] ++ [0]; let dt : Nat := 9; let st : State := tDev 0; (5 ≤ bytes.length) ∧ ((fun s =>
      ((s.pass dt).wakesDone).alive = true
      ∧ bytes.length ≠ packedLen (2 + bits (nthW (wordsOfBytes bytes) 0) 11 0)) : State → Prop) st)
    ∧ (let n : Nat := (spiAnswer [[1, 2]]).length; let st : State := let t : State := tDev 0; { t with cmd := { t.cmd with spiQ := [[1, 2]] } }; ((fun s => s.alive = true ∧ s.cmd.spiQ ≠ [] ∧ (spiAnswer s.cmd.spiQ).length = n) : State → Prop) st)
    ∧ (let q := (⟨⟨.spi, 0, 0, 0, []⟩, 5, 6⟩ : Req); let hops := 3; let due := 9; let st : State := let t : State := tDev 0; { t with link := { t.link with census := some ((⟨⟨.spi, 0, 0, 0, []⟩, 5, 6⟩ : Req), 3, 9) } }; ((fun s => s.link.census = some (q, hops, due)) : State → Prop) st)
    ∧ (let routes : List (Word × List Word) := []; let st : State := let t : State := tDev 1; { t with mgr := { t.mgr with censusOpen := true } }; ((fun s => s.isMgr = true ∧ s.mgr.censusOpen = true) : State → Prop) st)
    ∧ (let routes : List (Word × List Word) := []; let st : State := let t : State := tDev 1; { t with mgr := { t.mgr with censusOpen := true } }; ((fun s => s.isMgr = true ∧ s.mgr.censusOpen = true ∧ s.mgr.reports = [] ∧ s.link.map = [] ∧ s.mgr.claimAfterCensus = false) : State → Prop) st)
    ∧ (let routes : List (Word × List Word) := []; let st : State := tDev 0; ((fun s => s.isMgr = false ∨ s.mgr.censusOpen = false) : State → Prop) st)
    ∧ (let n := 9; let st : State := let t : State := (tDev 1).ws [(Reg.MGR_PAIR_STATUS_STATE, 0, 3)]; { t with sec := { t.sec with censusAt := some 9 } }; ((fun s => s.sec.censusAt = some n ∧ s.peelHeld = true) : State → Prop) st) := by
  and_intros <;> decide +kernel

/-- Each clause of `Obligations.WriteRowsTakeEffect` has its premises met. -/
theorem witness_WriteRowsTakeEffect :
    (let a : Nat := 0x90020; let v : Word := 0; let e := (((tDev 1).rowBar 0x90020 1).getD Ans.stage); let st : State := tDev 1; ((fun s => s.alive = true ∧ s.rowBar a 1 = some e) : State → Prop) st)
    ∧ (let a : Nat := 0x3FFFF; let v : Word := 5; let st : State := tDev 0; ((fieldsAt a).isEmpty = true) ∧ (base3 a = false) ∧ ((fun s => s.rowOpen a 1 = true) : State → Prop) st)
    ∧ (let a : Nat := 0xB0000; let v : Word := 0; let code := (((tDev 0).writeBar 0xB0000 0).getD (default)).1; let det := (((tDev 0).writeBar 0xB0000 0).getD (default)).2; let st : State := tDev 0; (base3 a = false) ∧ ((fieldsAt a).isEmpty = false) ∧ (Reg.TIME_BASE_W7_OFFSET_IN.elem? a = none) ∧ ((fun s => s.rowOpen a 1 = true ∧ s.writeBar a v = some (code, det)) : State → Prop) st)
    ∧ (let a : Nat := 0xB0000; let v : Word := rwWord (tDev 0).regs (0xB0000); let st : State := tDev 0; (base3 a = false) ∧ ((fieldsAt a).isEmpty = false) ∧ (Reg.TIME_BASE_W7_OFFSET_IN.elem? a = none) ∧ ((fun s => s.lets a v) : State → Prop) st)
    ∧ (let a : Nat := 0xB0000; let st : State := tDev 0; (rangeOk a 1 = true) ∧ ((fun s => s.rowOpen a 1 = true) : State → Prop) st)
    ∧ (let a : Nat := 0xB0000; let n := 3; let st : State := tDev 0; (n ≤ 1016) ∧ (rangeOk a (n + 2) = true) ∧ ((fun s => s.rowOpen a (n + 2) = true) : State → Prop) st)
    ∧ (let s0 : State := tDev 0;
     let v (s : State) : Word := rwWord s.regs 0xB0002 ||| pack [(30, 1)];
((fun s => s.lets 0xB0002 (v s)) : State → Prop) s0)
    ∧ (let lane : Nat := 3;
let s0 : State := (tDev 0).ws [(Reg.LINK_LANE_W1_STATE, 3, 4)];
      let v (s : State) : Word := maskedValue (rwWord s.regs 0x50881) (pack [(35, 1), (28, 31)]) (pack [(35, 1), (28, lane)]);
(lane < 32) ∧ (laneRx lane = true) ∧ ((fun s => s.lets 0x50881 (v s) ∧ s.lane.eye = none ∧ (s.wrote 0x50881 (v s)).rxLocked lane = true) : State → Prop) s0)
    ∧ (let v : Word := rwWord (tDev 0).regs (0x40026); let st : State := tDev 0; ((fun s => s.lets 0x40026 v) : State → Prop) st)
    ∧ (let lane : Nat := 3;
let s0 : State := (tDev 0).ws [(Reg.LINK_LANE_W1_STATE, 3, 4)];
      let a := Reg.LINK_LANE_W1_HOLD.at lane;
      let v : Word := pack [(35, 1)];
(lane < 32) ∧ ((fun s => s.lets a v ∧ s.rb Reg.LINK_LANE_W1_HOLD lane = false
          ∧ (s.wrote a v).rb Reg.LINK_LANE_W1_HOLD lane = true ∧ (s.wrote a v).laneState lane ≠ 0) : State → Prop) s0)
    ∧ (let lane : Nat := 3; let v : Word := rwWord (tDev 0).regs (Reg.LINK_LANE_W0_TX_INV.at 3); let st : State := (tDev 0).ws [(Reg.LINK_LANE_W1_HOLD, 3, 1)]; (lane < 32) ∧ ((fun s => s.lets (Reg.LINK_LANE_W0_TX_INV.at lane) v) : State → Prop) st)
    ∧ (let sp : Nat := 1;
let s0 : State := tDev 0;
      let v (s : State) : Word := maskedValue (rwWord s.regs 0x60000) (pack [(29, 1)]) (pack [(29, sp)]);
(sp < 2) ∧ ((fun s => s.lets 0x60000 (v s) ∧ s.r Reg.MEM_CTRL_SP_SEL ≠ sp ∧ (s.wrote 0x60000 (v s)).r Reg.MEM_CTRL_SP_SEL = sp) : State → Prop) s0)
    ∧ (let v : Word := rwWord (tDev 0).regs (0xB0000); let st : State := tDev 0; ((fun s => s.lets 0xB0000 v) : State → Prop) st)
    ∧ (let v : Word := rwWord (tDev 0).regs (0xB0001); let st : State := tDev 0; ((fun s => s.lets 0xB0001 v) : State → Prop) st)
    ∧ (let v : Word := rwWord (tDev 0).regs (0x90020);
let s0 : State := tDev 0;
     let g (s : State) (a : Nat) (v : Word) : State :=
      let r := writeRaw s.planned a v
      let w := [(wordOf r 0x90020).toNat, (wordOf r 0x90021).toNat]
      let t := s.pass 0
      { t with fire := { s.fire with
        geom := if w = [(wordOf s.regs 0x90020).toNat, (wordOf s.regs 0x90021).toNat] then none else some w } }.emit .reply [] [0];
((fun s => s.lets 0x90020 v) : State → Prop) s0)
    ∧ (let v : Word := rwWord (tDev 0).regs (0x90021);
let s0 : State := tDev 0;
     let g (s : State) (a : Nat) (v : Word) : State :=
      let r := writeRaw s.planned a v
      let w := [(wordOf r 0x90020).toNat, (wordOf r 0x90021).toNat]
      let t := s.pass 0
      { t with fire := { s.fire with
        geom := if w = [(wordOf s.regs 0x90020).toNat, (wordOf s.regs 0x90021).toNat] then none else some w } }.emit .reply [] [0];
((fun s => s.lets 0x90021 v) : State → Prop) s0)
    ∧ (let w := [(wordOf (tDev 0).regs 0x90020).toNat, (wordOf (tDev 0).regs 0x90021).toNat]; let st : State := let t : State := tDev 0; { t with fire := { t.fire with geom := some [(wordOf (tDev 0).regs 0x90020).toNat, (wordOf (tDev 0).regs 0x90021).toNat] } }; ((fun s => s.fire.geom = some w) : State → Prop) st)
    ∧ (let j : Nat := 3; let w : Nat := 1; let v : Word := rwWord (tDev 0).regs (0x90100 + 16 * 3 + 1); let st : State := tDev 0; (j < 32) ∧ (w < 8) ∧ ((fun s => s.lets (0x90100 + 16 * j + w) v) : State → Prop) st)
    ∧ (let v : Word := rwWord (tDev 0).regs (0x90010); let st : State := tDev 0; ((fun s => s.lets 0x90010 v) : State → Prop) st)
    ∧ (let base : Bool := true; let v : Word := rwWord (tDev 0).regs (0x70012); let st : State := tDev 0; ((fun s => s.lets (if base then 0x70012 else 0x70011) v) : State → Prop) st)
    ∧ (let st : State := let t : State := tDev 0; { t with dec := { t.dec with poolPend := true } }; ((fun s => s.dec.poolPend = true) : State → Prop) st)
    ∧ (let c : Nat := 3; let w : Nat := 1; let v : Word := rwWord (tDev 0).regs (Reg.EMIT_DRIVE_CONE_W0_BLANK_CLKS.at 3 + 1); let st : State := tDev 0; (c < 16) ∧ (w < 18) ∧ ((fun s => s.lets (Reg.EMIT_DRIVE_CONE_W0_BLANK_CLKS.at c + w) v) : State → Prop) st)
    ∧ (let j : Nat := 1; let w : Nat := 1; let v : Word := rwWord (tDev 1).regs (0x52010 + 4 + 1); let st : State := tDev 1; (j < 2) ∧ (w < 4) ∧ ((fun s => s.lets (0x52010 + 4 * j + w) v) : State → Prop) st)
    ∧ (let j : Nat := 3; let v : Word := rwWord (tDev 1).regs (0x80103); let st : State := tDev 1; (j < 256) ∧ ((fun s => s.lets (0x80100 + j) v) : State → Prop) st)
    ∧ (let g : Nat := 3; let w : Nat := 1; let v : Word := rwWord (tDev 1).regs (0x52040 + 5 * 3 + 1); let st : State := tDev 1; (g < 16) ∧ (w < 5) ∧ ((fun s => s.lets (0x52040 + 5 * g + w) v) : State → Prop) st)
    ∧ (let g : Nat := 3; let v : Word := pack [(35, 1)]; let st : State := (tDev 1).ws [(Reg.MGR_ETH_CTRL_UP, 0, 1), (Reg.LINK_LANE_TABLE_ETH_MODE, 0, 1)]; (g < 16) ∧ ((fun s => s.lets (0x52040 + 5 * g) v ∧ s.rb Reg.MGR_GROUP_W0_EN g = false
        ∧ (s.wrote (0x52040 + 5 * g) v).rb Reg.MGR_GROUP_W0_EN g = true
        ∧ (s.wrote (0x52040 + 5 * g) v).ethPorts = 1 ∧ (s.wrote (0x52040 + 5 * g) v).r Reg.MGR_ETH_CTRL_UP = 1) : State → Prop) st) := by
  and_intros <;> decide +kernel

/-- Each clause of `Obligations.NetworkRowsTakeEffect` has its premises met. -/
theorem witness_NetworkRowsTakeEffect :
    (let port : Nat := 2; let dt : Nat := 9; let st : State := tDev 1; ((fun s => s.isMgr = true ∧ port < s.ethPorts ∧ bitsN (s.r Reg.MGR_ETH_CTRL_UP) port port ≠ 1) : State → Prop) st)
    ∧ (let port : Nat := 2; let dt : Nat := 9; let st : State := (tDev 1).ws [(Reg.MGR_ETH_CTRL_UP, 0, 4)]; ((fun s => s.isMgr = true ∧ port < s.ethPorts ∧ bitsN (s.r Reg.MGR_ETH_CTRL_UP) port port = 1) : State → Prop) st)
    ∧ (let p : NetPkt := ({ kind := 2, port := 0, target := 0xA000001, sender := 7, good := true, broken := false, vid := none, data := [] } : NetPkt);
let dt : Nat := 9;
let s0 : State := (tDev 1).ws [(Reg.MGR_ETH_CTRL_UP, 0, 1), (Reg.MGR_ADDR_2006_IPV4, 0, 167772161), (Reg.LINK_LANE_TABLE_ETH_MODE, 0, 1), (Reg.MGR_PAIR_STATUS_STATE, 0, 3)];
    let own (s : State) : Nat := if p.kind = 1 ∨ p.kind = 3 then ownIp6 s.regs else ownIp4 s.regs;
(p.broken = false) ∧ (p.kind < 4) ∧ ((fun s => s.frameHeard p.port p.vid p.good = true ∧ own s ≠ 0 ∧ p.target = own s) : State → Prop) s0)
    ∧ (let p : NetPkt := ({ kind := 4, port := 0, target := 0, sender := 7, good := true, broken := false, vid := none, data := [] } : NetPkt); let dt : Nat := 9; let st : State := ((tDev 1).ws [(Reg.MGR_ETH_CTRL_UP, 0, 1), (Reg.MGR_ADDR_2006_IPV4, 0, 167772161), (Reg.LINK_LANE_TABLE_ETH_MODE, 0, 1), (Reg.MGR_PAIR_STATUS_STATE, 0, 3)]).ws [(Reg.MGR_GROUP_W0_EN, 2, 1)]; (p.broken = false) ∧ (p.kind = 4 ∨ p.kind = 5) ∧ ((fun s => s.frameHeard p.port p.vid p.good = true) : State → Prop) st)
    ∧ (let d := ({ eth := 0, vid := none, good := true, broken := false, v6 := false, dst := 0xA000001, src := 5, sport := 7, dport := (tDev 1).r Reg.MGR_STREAM_STREAM_PORT, bytes := [0x80, BitVec.ofNat 8 ((tDev 1).r Reg.MGR_STREAM_PT_SLAB), 0, 5, 0, 0, 0, 9, 0, 0, 0, 6] ++ packBytes [word (2 ^ 32 + 2 * 2 ^ 25 + 3 * 2 ^ 18 + 2), 0, 11, 12] } : Datagram);
let r := ({ pt := (tDev 1).r Reg.MGR_STREAM_PT_SLAB, marker := false, seq := 5, ts := 9, ssrc := 6, payload := packBytes [word (2 ^ 32 + 2 * 2 ^ 25 + 3 * 2 ^ 18 + 2), 0, 11, 12] } : Rtp);
let dt : Nat := 9;
let s0 : State := (tDev 1).ws [(Reg.MGR_ETH_CTRL_UP, 0, 1), (Reg.MGR_ADDR_2006_IPV4, 0, 167772161), (Reg.LINK_LANE_TABLE_ETH_MODE, 0, 1), (Reg.MGR_PAIR_STATUS_STATE, 0, 3)];
    let words := unpackBytes r.payload;
    let n := bits (nthW words 0) 11 0;
    let heard (s : State) : Prop :=
      s.udpHeard d = true ∧ (s.ownAddr d = true ∨ s.groupAddr 0 d = true) ∧ d.dport = s.r Reg.MGR_STREAM_STREAM_PORT
        ∧ r.pt = s.r Reg.MGR_STREAM_PT_SLAB;
(rtpParse d.bytes = some r) ∧ (r.payload.length % 9 = 0) ∧ (bits (nthW words 0) 35 32 = 1) ∧ (0 < n) ∧ (words.length = n + 2 + n % 2) ∧ ((fun s => heard s ∧ s.mgr.workers = []) : State → Prop) s0)
    ∧ (let d := ({ eth := 0, vid := none, good := true, broken := false, v6 := false, dst := 0xA000001, src := 5, sport := 7, dport := (tDev 1).r Reg.MGR_STREAM_STREAM_PORT, bytes := [0x80, BitVec.ofNat 8 ((tDev 1).r Reg.MGR_STREAM_PT_SLAB), 0, 5, 0, 0, 0, 9, 0, 0, 0, 6] ++ packBytes [word (2 ^ 32 + 2 * 2 ^ 25 + 3 * 2 ^ 18 + 2), 0, 11, 12] } : Datagram);
let r := ({ pt := (tDev 1).r Reg.MGR_STREAM_PT_SLAB, marker := false, seq := 5, ts := 9, ssrc := 6, payload := packBytes [word (2 ^ 32 + 2 * 2 ^ 25 + 3 * 2 ^ 18 + 2), 0, 11, 12] } : Rtp);
let dt : Nat := 9;
let w := ({ Worker.reset with x := 2, y := 3, slow := 94371840, fast := 1474200, ssrc := some 6, rtpNext := 5, window := [], parcels := [], nextOff := 0, delta := 0 } : Worker);
let s0 : State := let t : State := (tDev 1).ws [(Reg.MGR_ETH_CTRL_UP, 0, 1), (Reg.MGR_ADDR_2006_IPV4, 0, 167772161), (Reg.LINK_LANE_TABLE_ETH_MODE, 0, 1), (Reg.MGR_PAIR_STATUS_STATE, 0, 3)]; { t with mgr := { t.mgr with workers := [({ Worker.reset with x := 2, y := 3, slow := 94371840, fast := 1474200, ssrc := some 6, rtpNext := 5, window := [], parcels := [], nextOff := 0, delta := 0 } : Worker)] } };
    let words := unpackBytes r.payload;
    let n := bits (nthW words 0) 11 0;
    let heard (s : State) : Prop :=
      s.udpHeard d = true ∧ (s.ownAddr d = true ∨ s.groupAddr 0 d = true) ∧ d.dport = s.r Reg.MGR_STREAM_STREAM_PORT
        ∧ r.pt = s.r Reg.MGR_STREAM_PT_SLAB;
(rtpParse d.bytes = some r) ∧ (r.payload.length % 9 = 0) ∧ (bits (nthW words 0) 35 32 = 1) ∧ (0 < n) ∧ (words.length = n + 2 + n % 2) ∧ (n ≤ 1020) ∧ ((fun s => heard s ∧ s.mgr.workers = [w] ∧ w.x = bits (nthW words 0) 31 25 ∧ w.y = bits (nthW words 0) 24 18
        ∧ w.slow = 94371840 ∧ w.fast = 1474200 ∧ (s.pass dt).queuedFor w.x w.y + n ≤ 131072 ∧ w.ssrc = some r.ssrc
        ∧ w.rtpNext = r.seq ∧ r.seq < 65536 ∧ w.window = [] ∧ w.parcels = []
        ∧ w.nextOff = ((nthW words 1).toNat + w.delta) % 2 ^ 36 ∧ s.peelHeld = true) : State → Prop) s0)
    ∧ (let d := ({ eth := 0, vid := none, good := true, broken := false, v6 := false, dst := 0xA000001, src := 5, sport := 7, dport := 5000, bytes := [0x80, BitVec.ofNat 8 ((tDev 1).r Reg.MGR_STREAM_PT_LIVE), 0, 5, 0, 0, 0, 9, 0, 0, 0, 6] ++ ([0, 0, 0, 5, 0, 0, 0, 0, 1, 2, 3, 4, 5] : List Byte) } : Datagram);
let r := ({ pt := (tDev 1).r Reg.MGR_STREAM_PT_LIVE, marker := false, seq := 5, ts := 9, ssrc := 6, payload := ([0, 0, 0, 5, 0, 0, 0, 0, 1, 2, 3, 4, 5] : List Byte) } : Rtp);
let flow := (1 : Nat);
let dt : Nat := 9;
let segs := (liveSegs r.payload).getD [];
let s0 : State := let t : State := ((tDev 1).ws [(Reg.MGR_ETH_CTRL_UP, 0, 1), (Reg.MGR_ADDR_2006_IPV4, 0, 167772161), (Reg.LINK_LANE_TABLE_ETH_MODE, 0, 1), (Reg.MGR_PAIR_STATUS_STATE, 0, 3)]).ws [(Reg.MGR_LIVE_W0_EN, 1, 1), (Reg.MGR_LIVE_W1_UDP_PORT, 1, 5000), (Reg.MGR_LIVE_W0_W_M1, 1, 15), (Reg.MGR_LIVE_W0_H_M1, 1, 15)]; { t with mgr := { t.mgr with flows := [Flow.reset, { Flow.reset with rtpTime := some 9, ended := false }] } };
    let heard (s : State) : Prop := s.udpHeard d = true ∧ s.flowOf d = some flow ∧ r.pt = s.r Reg.MGR_STREAM_PT_LIVE;
(rtpParse d.bytes = some r) ∧ (liveSegs r.payload = some segs) ∧ (r.marker = false) ∧ ((fun s => heard s ∧ (s.flow flow).rtpTime = some r.ts ∧ (s.flow flow).ended = false
          ∧ ∀ g ∈ segs, g.1 < flowH s.regs flow ∧ g.2.1 + 2 * g.2.2.length ≤ flowW s.regs flow ∧ g.2.1 % 2 = 0) : State → Prop) s0)
    ∧ (let d := ({ eth := 0, vid := none, good := true, broken := false, v6 := false, dst := 0xA000001, src := 5, sport := 7, dport := 5000, bytes := [0x80, BitVec.ofNat 8 ((tDev 1).r Reg.MGR_STREAM_PT_LIVE), 0, 5, 0, 0, 0, 9, 0, 0, 0, 6] ++ ([0, 0, 0, 5, 8, 0, 0, 0, 1, 2, 3, 4, 5] : List Byte) } : Datagram);
let r := ({ pt := (tDev 1).r Reg.MGR_STREAM_PT_LIVE, marker := false, seq := 5, ts := 9, ssrc := 6, payload := ([0, 0, 0, 5, 8, 0, 0, 0, 1, 2, 3, 4, 5] : List Byte) } : Rtp);
let flow := (1 : Nat);
let dt : Nat := 9;
let segs := (liveSegs r.payload).getD [];
let s0 : State := let t : State := ((tDev 1).ws [(Reg.MGR_ETH_CTRL_UP, 0, 1), (Reg.MGR_ADDR_2006_IPV4, 0, 167772161), (Reg.LINK_LANE_TABLE_ETH_MODE, 0, 1), (Reg.MGR_PAIR_STATUS_STATE, 0, 3)]).ws [(Reg.MGR_LIVE_W0_EN, 1, 1), (Reg.MGR_LIVE_W1_UDP_PORT, 1, 5000), (Reg.MGR_LIVE_W0_W_M1, 1, 15), (Reg.MGR_LIVE_W0_H_M1, 1, 15)]; { t with mgr := { t.mgr with flows := [Flow.reset, { Flow.reset with rtpTime := some 9, ended := false }] } };
    let heard (s : State) : Prop := s.udpHeard d = true ∧ s.flowOf d = some flow ∧ r.pt = s.r Reg.MGR_STREAM_PT_LIVE;
(rtpParse d.bytes = some r) ∧ (liveSegs r.payload = some segs) ∧ ((fun s => heard s ∧ ∃ g ∈ segs, flowH s.regs flow ≤ g.1) : State → Prop) s0)
    ∧ (let d := ({ eth := 0, vid := none, good := true, broken := false, v6 := false, dst := 0xA000001, src := 5, sport := 7, dport := 5000, bytes := [0x80, BitVec.ofNat 8 ((tDev 1).r Reg.MGR_STREAM_PT_LIVE), 0, 5, 0, 0, 0, 9, 0, 0, 0, 6] ++ ([0, 0] : List Byte) } : Datagram);
let r := ({ pt := (tDev 1).r Reg.MGR_STREAM_PT_LIVE, marker := false, seq := 5, ts := 9, ssrc := 6, payload := ([0, 0] : List Byte) } : Rtp);
let flow := (1 : Nat);
let dt : Nat := 9;
let s0 : State := let t : State := ((tDev 1).ws [(Reg.MGR_ETH_CTRL_UP, 0, 1), (Reg.MGR_ADDR_2006_IPV4, 0, 167772161), (Reg.LINK_LANE_TABLE_ETH_MODE, 0, 1), (Reg.MGR_PAIR_STATUS_STATE, 0, 3)]).ws [(Reg.MGR_LIVE_W0_EN, 1, 1), (Reg.MGR_LIVE_W1_UDP_PORT, 1, 5000), (Reg.MGR_LIVE_W0_W_M1, 1, 15), (Reg.MGR_LIVE_W0_H_M1, 1, 15)]; { t with mgr := { t.mgr with flows := [Flow.reset, { Flow.reset with rtpTime := some 9, ended := false }] } };
    let heard (s : State) : Prop := s.udpHeard d = true ∧ s.flowOf d = some flow ∧ r.pt = s.r Reg.MGR_STREAM_PT_LIVE;
(rtpParse d.bytes = some r) ∧ (liveSegs r.payload = none) ∧ (heard : State → Prop) s0)
    ∧ (let m : PtpMsg := ({ type := 0, version := 2, minor := 0, domain := ptpDomain (tDev 1).regs 0, sender := 5, seq := 7, twoStep := false, time := 9, corr := 0, interval := 0, rank := [], mine := true, v6 := false } : PtpMsg); let dt : Nat := 9; let st : State := let t : State := (tDev 1).ws [(Reg.TIME_PTP_PTP_EN, 0, 1)]; { t with mgr := { t.mgr with master := [some 5, none] } }; (m.type = 0) ∧ (m.version = 2) ∧ (m.minor ≤ 1) ∧ (m.v6 = false) ∧ (-7 ≤ m.interval) ∧ (m.interval ≤ 1) ∧ ((fun s => s.isMgr = true ∧ s.rb Reg.TIME_PTP_PTP_EN = true ∧ s.rb Reg.TIME_PTP_PTP_V6 = false ∧ ptpDomain s.regs 0 = m.domain
      ∧ s.mgr.master.getD 0 none = some m.sender) : State → Prop) st)
    ∧ (let s : State := let t : State := (tDev 1).ws [(Reg.TIME_PTP_PTP_EN, 0, 1)]; { t with mgr := { t.mgr with master := [some 5, none], delayReq := [some (7, 6), none], sync := [some ⟨8, some 3, 4, 0⟩, none] } }; let m : PtpMsg := ({ type := 9, version := 2, minor := 0, domain := ptpDomain (tDev 1).regs 0, sender := 5, seq := 7, twoStep := false, time := 9, corr := 0, interval := 0, rank := [], mine := true, v6 := false } : PtpMsg); let dt : Nat := 9; let t1 := 3; let t2 := 4; let t3 := 6; let corr := (0 : Int); m.type = 9 ∧ m.mine = true ∧ m.version = 2 ∧ m.minor ≤ 1 ∧ m.v6 = false ∧ -7 ≤ m.interval ∧ m.interval ≤ 5 ∧ s.isMgr = true ∧ s.rb Reg.TIME_PTP_PTP_EN = true ∧ s.rb Reg.TIME_PTP_PTP_V6 = false ∧ ptpDomain s.regs 0 = m.domain ∧ s.mgr.master.getD 0 none = some m.sender ∧ s.mgr.delayReq.getD 0 none = some (m.seq, t3) ∧ s.mgr.sync.getD 0 none = some ⟨8, some t1, t2, corr⟩)
    ∧ (let b : Nat := 0; let dt : Nat := 9; let id := 5; let q := 7; let x := 6; let st : State := let t : State := (tDev 1).ws [(Reg.TIME_PTP_PTP_EN, 0, 1)]; { t with mgr := { t.mgr with master := [some 5, none], delayReq := [some (7, 6), none] } }; (b < 2) ∧ ((fun s => s.isMgr = true ∧ s.mgr.master.getD b none = some id ∧ s.rb Reg.TIME_PTP_PTP_EN = true
      ∧ s.mgr.delayReq.getD b none = some (q, x)) : State → Prop) st)
    ∧ (let b : Nat := 0; let id := 5; let f : Foreign := (⟨0, 5, [], [], 100⟩ : Foreign); let st : State := let t : State := (tDev 1).ws [(Reg.TIME_PTP_PTP_EN, 0, 1)]; { t with mgr := { t.mgr with master := [some 5, none], announceAt := [0, 0], foreign := [⟨0, 5, [], [], 100⟩] } }; (b < 2) ∧ ((fun s => s.mgr.master.getD b none = some id
      ∧ s.mgr.foreign.find? (fun (x : Foreign) => x.dom = b && x.id = id) = some f) : State → Prop) st)
    ∧ (let b : Nat := 0; let id := 5; let st : State := let t : State := (tDev 1).ws [(Reg.TIME_PTP_PTP_EN, 0, 1)]; { t with mgr := { t.mgr with master := [some 5, none] } }; (b < 2) ∧ ((fun s => s.isMgr = true ∧ s.mgr.master.getD b none = some id) : State → Prop) st)
    ∧ (let t := ((3, ⟨.spi, 0, 0, 0, []⟩, 0) : Nat × Source × Nat); let st : State := let t : State := tDev 1; { t with mgr := { t.mgr with tags := [(3, ⟨.spi, 0, 0, 0, []⟩, 0)] } }; ((fun s => s.mgr.tags = [t]) : State → Prop) st) := by
  and_intros <;> decide +kernel

/-- Each clause of `Obligations.PairRowsTakeEffect` has its premises met. -/
theorem witness_PairRowsTakeEffect :
    (let words : List Word := [0x100000000]; let dt : Nat := 9; let st : State := (tDev 1).ws [(Reg.MGR_CTRL_PATHS, 0, 7), (Reg.LINK_PEEL_SEEN, 0, 1), (Reg.MGR_PAIR_STATUS_STATE, 0, 1)]; (bits (nthW words 0) 35 32 = 1) ∧ ((fun s => s.isMgr = true ∧ s.pathOn 1 = true ∧ s.rb Reg.LINK_PEEL_SEEN = true ∧ fenceValue (nthW words 1) = peelValue s.regs) : State → Prop) st)
    ∧ (let words : List Word := [0x200000000, 0, 0, 0, 5] ++ List.replicate 16 7 ++ [0x0, 0];
let dt : Nat := 9;
let s0 : State := (tDev 1).ws [(Reg.MGR_CTRL_PATHS, 0, 7), (Reg.LINK_PEEL_SEEN, 0, 1), (Reg.MGR_PAIR_STATUS_STATE, 0, 1)];
    let hears (s : State) : Prop :=
      s.isMgr = true ∧ s.pathOn 1 = true ∧ s.rb Reg.LINK_PEEL_SEEN = true ∧ fenceValue (nthW words 1) = peelValue s.regs;
    let g := (nthW words 4).toNat;
    let f := nthW words 21;
(bits (nthW words 0) 35 32 = 2) ∧ ((fun s => hears s ∧ (words.drop 5).take 16 ≠ s.fwIdentity) : State → Prop) s0)
    ∧ (let words : List Word := [0x200000000, 0, 0, 0, 5] ++ (tDev 1).fwIdentity ++ [0xC00000000, 0];
let dt : Nat := 9;
let s0 : State := (tDev 1).ws [(Reg.MGR_CTRL_PATHS, 0, 7), (Reg.LINK_PEEL_SEEN, 0, 1), (Reg.MGR_PAIR_STATUS_STATE, 0, 1)];
    let hears (s : State) : Prop :=
      s.isMgr = true ∧ s.pathOn 1 = true ∧ s.rb Reg.LINK_PEEL_SEEN = true ∧ fenceValue (nthW words 1) = peelValue s.regs;
    let g := (nthW words 4).toNat;
    let f := nthW words 21;
(bits (nthW words 0) 35 32 = 2) ∧ (bit f 34 = true) ∧ (bit f 35 = true) ∧ (bits f 31 0 = 0) ∧ ((fun s => hears s ∧ (words.drop 5).take 16 = s.fwIdentity ∧ s.peelHeld = false) : State → Prop) s0)
    ∧ (let words : List Word := [0x200000000, 0, 0, 0, 5] ++ (tDev 1).fwIdentity ++ [0x800000000, 4];
let dt : Nat := 9;
let s0 : State := (tDev 1).ws [(Reg.MGR_CTRL_PATHS, 0, 7), (Reg.LINK_PEEL_SEEN, 0, 1), (Reg.MGR_PAIR_STATUS_STATE, 0, 1)];
    let hears (s : State) : Prop :=
      s.isMgr = true ∧ s.pathOn 1 = true ∧ s.rb Reg.LINK_PEEL_SEEN = true ∧ fenceValue (nthW words 1) = peelValue s.regs;
    let g := (nthW words 4).toNat;
    let f := nthW words 21;
(bits (nthW words 0) 35 32 = 2) ∧ (bit f 34 = false) ∧ (bit f 35 = true) ∧ (bits f 31 0 = 0) ∧ ((fun s => hears s ∧ (words.drop 5).take 16 = s.fwIdentity ∧ s.peelHeld = false ∧ s.mgr.acked ≠ g
        ∧ s.mgr.acked ≠ (nthW words 22).toNat) : State → Prop) s0)
    ∧ (let words : List Word := [0x300000000]; let dt : Nat := 9; let st : State := ((tDev 1).ws [(Reg.MGR_CTRL_PATHS, 0, 7), (Reg.LINK_PEEL_SEEN, 0, 1), (Reg.MGR_PAIR_STATUS_STATE, 0, 3)]).ws [(Reg.MGMT_STRAPS_ROLE, 0, 1)]; (bits (nthW words 0) 35 32 = 3) ∧ ((fun s => s.isMgr = true ∧ s.pathOn 1 = true ∧ s.rb Reg.LINK_PEEL_SEEN = true ∧ fenceValue (nthW words 1) = peelValue s.regs
      ∧ s.r Reg.MGR_PAIR_STATUS_STATE = 3 ∧ s.role = 1) : State → Prop) st)
    ∧ (let words : List Word := [0x400000000]; let dt : Nat := 9; let st : State := (tDev 1).ws [(Reg.MGR_CTRL_PATHS, 0, 7), (Reg.LINK_PEEL_SEEN, 0, 1), (Reg.MGR_PAIR_STATUS_STATE, 0, 1)]; (bits (nthW words 0) 35 32 = 4) ∧ ((fun s => s.isMgr = true ∧ s.pathOn 1 = true ∧ s.rb Reg.LINK_PEEL_SEEN = true ∧ fenceValue (nthW words 1) = peelValue s.regs
      ∧ s.peelHeld = false) : State → Prop) st)
    ∧ (let words : List Word := [0x500000000, 0, 0, 0, 6]; let dt : Nat := 9; let st : State := (tDev 1).ws [(Reg.MGR_CTRL_PATHS, 0, 7), (Reg.LINK_PEEL_SEEN, 0, 1), (Reg.MGR_PAIR_STATUS_STATE, 0, 3)]; (bits (nthW words 0) 35 32 = 5) ∧ ((nthW words 4).toNat ≠ 0) ∧ ((fun s => s.isMgr = true ∧ s.pathOn 1 = true ∧ s.rb Reg.LINK_PEEL_SEEN = true ∧ fenceValue (nthW words 1) = peelValue s.regs
      ∧ s.peelHeld = true ∧ s.mgr.handback = none) : State → Prop) st)
    ∧ (let dt : Nat := 9; let p := (false, 0, 7); let st : State := let t : State := (tDev 1).ws [(Reg.MGR_CTRL_PATHS, 0, 7), (Reg.LINK_PEEL_SEEN, 0, 1), (Reg.MGR_PAIR_STATUS_STATE, 0, 1)]; { t with mgr := { t.mgr with peer := some (true, false, 0, 7) } }; ((fun s => s.isMgr = true ∧ s.mgr.peer = some (true, p) ∧ s.pathOn 0 = true ∧ s.mgr.waited ≠ some s.time.last
      ∧ (s.pass dt).tb3 ≤ s.sched s.time.last + us (s.r Reg.MGR_CTRL_RENEW_WAIT)) : State → Prop) st)
    ∧ (let st : State := let t : State := ((tDev 1).ws [(Reg.MGR_CTRL_PATHS, 0, 7), (Reg.LINK_PEEL_SEEN, 0, 1), (Reg.MGR_PAIR_STATUS_STATE, 0, 1)]).ws [(Reg.MGR_CTRL_BRIDGE, 0, 5)]; { t with time := { t.time with ticked := true, last := 5 } }; ((fun s => s.isMgr = true ∧ s.stage = 2 ∧ s.time.ticked = true ∧ s.mgr.waited ≠ some s.time.last ∧ s.mgr.heard = 0
      ∧ s.mgr.missed = 0 ∧ s.r Reg.MGR_PAIR_STATUS_STATE = 1 ∧ 2 ≤ s.r Reg.MGR_CTRL_LEASE ∧ 2 ≤ s.r Reg.MGR_CTRL_BRIDGE
      ∧ s.rb Reg.MGR_PAIR_STATUS_MIRROR_OK = false ∧ s.mgr.acked = s.mgr.gen ∧ s.mgr.unacked = 0 ∧ s.mgr.portFell = false
      ∧ s.mgr.handback = none) : State → Prop) st)
    ∧ (let h := 4; let st : State := let t : State := (tDev 1).ws [(Reg.MGR_CTRL_PATHS, 0, 7), (Reg.LINK_PEEL_SEEN, 0, 1), (Reg.MGR_PAIR_STATUS_STATE, 0, 1)]; { t with time := { t.time with ticked := true, last := 5 }, mgr := { t.mgr with handback := some (4, true), released := true } }; ((fun s => s.isMgr = true ∧ s.peelHeld = false ∧ s.mgr.handback = some (h, true) ∧ h ≤ s.time.last ∧ s.mgr.released = true) : State → Prop) st)
    ∧ (let h := 4; let a := false; let st : State := let t : State := (tDev 1).ws [(Reg.MGR_CTRL_PATHS, 0, 7), (Reg.LINK_PEEL_SEEN, 0, 1), (Reg.MGR_PAIR_STATUS_STATE, 0, 3)]; { t with mgr := { t.mgr with handback := some (4, false) } }; ((fun s => s.isMgr = true ∧ s.mgr.handback = some (h, a) ∧ s.r Reg.MGR_PAIR_STATUS_STATE ≠ 4) : State → Prop) st) := by
  and_intros <;> decide +kernel

/-- Each clause of `Obligations.StreamRowsTakeEffect` has its premises met. -/
theorem witness_StreamRowsTakeEffect :
    (let off := (word 5);
let ws : List Word := [word 1, word 2];
let s0 : State := tDev 0;
     let came (s : State) : State := (s.pass 0).dramUsed true (s.r Reg.MEM_MAP_0004_SYS_BASE);
((fun s => ((came s).stream.started = false ∨ ws = []) ∧ (came s).stream.seqs = []) : State → Prop) s0)
    ∧ (let off := (word 0);
let ws : List Word := [word 1, word 2];
let s0 : State := let t : State := tDev 0; { t with stream := { t.stream with started := true } };
     let came (s : State) : State := (s.pass 0).dramUsed true (s.r Reg.MEM_MAP_0004_SYS_BASE);
(ws ≠ []) ∧ ((fun s => (came s).stream.started = true ∧ off.toNat = (came s).r Reg.DECODE_STREAM_OFFSET_EXPECTED) : State → Prop) s0)
    ∧ (let off := (word 7);
let ws : List Word := [word 1, word 2];
let d := (7 : Nat);
let s0 : State := let t : State := tDev 0; { t with stream := { t.stream with started := true } };
     let came (s : State) : State := (s.pass 0).dramUsed true (s.r Reg.MEM_MAP_0004_SYS_BASE);
(ws ≠ []) ∧ (0 < d ∧ d < 2 ^ 35) ∧ ((fun s => (came s).stream.started = true
      ∧ (off.toNat + 2 ^ 36 - (came s).r Reg.DECODE_STREAM_OFFSET_EXPECTED) % 2 ^ 36 = d) : State → Prop) s0)
    ∧ (let off := (word 3);
let ws : List Word := [word 1, word 2];
let s0 : State := let t : State := (tDev 0).ws [(Reg.DECODE_STREAM_OFFSET_EXPECTED, 0, 7)]; { t with stream := { t.stream with started := true } };
     let came (s : State) : State := (s.pass 0).dramUsed true (s.r Reg.MEM_MAP_0004_SYS_BASE);
(ws ≠ []) ∧ ((fun s => (came s).stream.started = true ∧ 2 ^ 35 ≤ (off.toNat + 2 ^ 36 - (came s).r Reg.DECODE_STREAM_OFFSET_EXPECTED) % 2 ^ 36) : State → Prop) s0)
    ∧ (let ws : List Word := (let b : List Word := [batchMarker, word (2 ^ 32 + 3 * 2 ^ 12), word 9, 0, 0, 0]; b ++ [word 1]);
let rest := [StreamItem.word 9];
let s0 : State := let t : State := let t : State := (tDev 0).ws [(Reg.DECODE_STREAM_STATUS_ALIGNED, 0, 1), (Reg.DECODE_STREAM_CTRL_CLEAR_OK, 0, 1), (Reg.DECODE_STREAM_CTRL_PRESENT_TOL, 0, 0)]; { t with emit_ := { t.emit_ with scan := t.regs } }; { t with time := { t.time with ticked := true, last := 5 }, stream := { t.stream with fifo := ((let b : List Word := [batchMarker, word (2 ^ 32 + 3 * 2 ^ 12), word 9, 0, 0, 0]; b ++ [word 1]) ++ [word 9]).map StreamItem.word } };
     let arrived (s : State) (ws : List Word) (rest : List StreamItem) : Prop :=
      s.rb Reg.DECODE_STREAM_STATUS_ALIGNED = true ∧ s.stream.fifo = ws.map StreamItem.word ++ rest ∧ nthW ws 0 = batchMarker
      ∧ ws.length = 7 + 7 * entryCount (nthW ws 1) ∧ s.stream.seqs = [];
     let front (s : State) (rest : List StreamItem) : State :=
      let t := s.pass 0
      { t with stream := { s.stream with fifo := rest, batch := none } };
     let ends (s a : State) : State :=
      ((((a.fire.inputs.filter (fun (i : FrameInput) => i.entries.isSome && !s.fire.inputs.contains i)).map (fun (i : FrameInput) => i.frame)).foldl
        (fun (x : State) n => x.atlasCheck n []) a).sealBound).recheck;
((fun s => arrived s ws rest ∧ headerOk ws = false) : State → Prop) s0)
    ∧ (let ws : List Word := (let b : List Word := [batchMarker, word (2 ^ 32 + 3 * 2 ^ 12), word 9, 0, 0, 0]; b ++ [word (crcWords (b.drop 1))]);
let rest := [StreamItem.word 9];
let l := (9 : Nat);
let s0 : State := let t : State := let t : State := (tDev 0).ws [(Reg.DECODE_STREAM_STATUS_ALIGNED, 0, 1), (Reg.DECODE_STREAM_CTRL_CLEAR_OK, 0, 1), (Reg.DECODE_STREAM_CTRL_PRESENT_TOL, 0, 0)]; { t with emit_ := { t.emit_ with scan := t.regs } }; { t with time := { t.time with ticked := true, last := 5 }, stream := { t.stream with fifo := ((let b : List Word := [batchMarker, word (2 ^ 32 + 3 * 2 ^ 12), word 9, 0, 0, 0]; b ++ [word (crcWords (b.drop 1))]) ++ [word 9]).map StreamItem.word, last := some 9 } };
     let arrived (s : State) (ws : List Word) (rest : List StreamItem) : Prop :=
      s.rb Reg.DECODE_STREAM_STATUS_ALIGNED = true ∧ s.stream.fifo = ws.map StreamItem.word ++ rest ∧ nthW ws 0 = batchMarker
      ∧ ws.length = 7 + 7 * entryCount (nthW ws 1) ∧ s.stream.seqs = [];
     let front (s : State) (rest : List StreamItem) : State :=
      let t := s.pass 0
      { t with stream := { s.stream with fifo := rest, batch := none } };
     let ends (s a : State) : State :=
      ((((a.fire.inputs.filter (fun (i : FrameInput) => i.entries.isSome && !s.fire.inputs.contains i)).map (fun (i : FrameInput) => i.frame)).foldl
        (fun (x : State) n => x.atlasCheck n []) a).sealBound).recheck;
((fun s => arrived s ws rest ∧ headerOk ws = true ∧ s.stream.last = some l ∧ frameOf (nthW ws 1) (nthW ws 2) ≤ l
          ∧ bits (nthW ws 1) 23 12 ≠ 0) : State → Prop) s0)
    ∧ (let ws : List Word := (let b : List Word := [batchMarker, word (2 ^ 32 + 3 * 2 ^ 12), word 9999, 0, 0, 0]; b ++ [word (crcWords (b.drop 1))]);
let rest := [StreamItem.word 9];
let s0 : State := let t : State := let t : State := (tDev 0).ws [(Reg.DECODE_STREAM_STATUS_ALIGNED, 0, 1), (Reg.DECODE_STREAM_CTRL_CLEAR_OK, 0, 1), (Reg.DECODE_STREAM_CTRL_PRESENT_TOL, 0, 0)]; { t with emit_ := { t.emit_ with scan := t.regs } }; { t with time := { t.time with ticked := true, last := 5 }, stream := { t.stream with fifo := ((let b : List Word := [batchMarker, word (2 ^ 32 + 3 * 2 ^ 12), word 9999, 0, 0, 0]; b ++ [word (crcWords (b.drop 1))]) ++ [word 9]).map StreamItem.word } };
     let arrived (s : State) (ws : List Word) (rest : List StreamItem) : Prop :=
      s.rb Reg.DECODE_STREAM_STATUS_ALIGNED = true ∧ s.stream.fifo = ws.map StreamItem.word ++ rest ∧ nthW ws 0 = batchMarker
      ∧ ws.length = 7 + 7 * entryCount (nthW ws 1) ∧ s.stream.seqs = [];
     let front (s : State) (rest : List StreamItem) : State :=
      let t := s.pass 0
      { t with stream := { s.stream with fifo := rest, batch := none } };
     let ends (s a : State) : State :=
      ((((a.fire.inputs.filter (fun (i : FrameInput) => i.entries.isSome && !s.fire.inputs.contains i)).map (fun (i : FrameInput) => i.frame)).foldl
        (fun (x : State) n => x.atlasCheck n []) a).sealBound).recheck;
((fun s => arrived s ws rest ∧ headerOk ws = true ∧ s.stream.last = none
          ∧ (front s rest).curFrame + s.es Reg.DECODE_STREAM_CTRL_HORIZON < frameOf (nthW ws 1) (nthW ws 2)
          ∧ bits (nthW ws 1) 23 12 ≠ 0) : State → Prop) s0)
    ∧ (let ws : List Word := (let b : List Word := [batchMarker, word (2 ^ 32 + 3 * 2 ^ 12), word 9, 0, 0, 0]; b ++ [word (crcWords (b.drop 1))]);
let rest := [StreamItem.word 9];
let s0 : State := let t : State := let t : State := (tDev 0).ws [(Reg.DECODE_STREAM_STATUS_ALIGNED, 0, 1), (Reg.DECODE_STREAM_CTRL_CLEAR_OK, 0, 1), (Reg.DECODE_STREAM_CTRL_PRESENT_TOL, 0, 0)]; { t with emit_ := { t.emit_ with scan := t.regs } }; { t with time := { t.time with ticked := true, last := 5 }, stream := { t.stream with fifo := ((let b : List Word := [batchMarker, word (2 ^ 32 + 3 * 2 ^ 12), word 9, 0, 0, 0]; b ++ [word (crcWords (b.drop 1))]) ++ [word 9]).map StreamItem.word } };
     let arrived (s : State) (ws : List Word) (rest : List StreamItem) : Prop :=
      s.rb Reg.DECODE_STREAM_STATUS_ALIGNED = true ∧ s.stream.fifo = ws.map StreamItem.word ++ rest ∧ nthW ws 0 = batchMarker
      ∧ ws.length = 7 + 7 * entryCount (nthW ws 1) ∧ s.stream.seqs = [];
     let front (s : State) (rest : List StreamItem) : State :=
      let t := s.pass 0
      { t with stream := { s.stream with fifo := rest, batch := none } };
     let ends (s a : State) : State :=
      ((((a.fire.inputs.filter (fun (i : FrameInput) => i.entries.isSome && !s.fire.inputs.contains i)).map (fun (i : FrameInput) => i.frame)).foldl
        (fun (x : State) n => x.atlasCheck n []) a).sealBound).recheck;
((fun s =>
          let n := frameOf (nthW ws 1) (nthW ws 2)
          arrived s ws rest ∧ headerOk ws = true ∧ s.stream.last = none ∧ (front s rest).windowOpen n = true
          ∧ n ≤ (front s rest).curFrame + s.es Reg.DECODE_STREAM_CTRL_HORIZON
          ∧ bit (nthW ws 1) 25 = false ∧ bit (nthW ws 1) 24 = false ∧ nthW ws 3 = 0
          ∧ s.es Reg.DECODE_STREAM_CTRL_PRESENT_TOL = 0 ∧ bits (nthW ws 1) 23 12 ≠ 0
          ∧ entriesBad (nthW ws 1) (entriesOf (entryCount (nthW ws 1)) (ws.drop 6)) = false) : State → Prop) s0)
    ∧ (let ws : List Word := (let b : List Word := [batchMarker, word (2 ^ 32 + 3 * 2 ^ 12), word 6, 0, 0, 0]; b ++ [word (crcWords (b.drop 1))]);
let rest := [StreamItem.word 9];
let s0 : State := let t : State := let t : State := (tDev 0).ws [(Reg.DECODE_STREAM_STATUS_ALIGNED, 0, 1), (Reg.DECODE_STREAM_CTRL_CLEAR_OK, 0, 1), (Reg.DECODE_STREAM_CTRL_PRESENT_TOL, 0, 0)]; { t with emit_ := { t.emit_ with scan := t.regs } }; { t with time := { t.time with ticked := true, last := 5 }, stream := { t.stream with fifo := ((let b : List Word := [batchMarker, word (2 ^ 32 + 3 * 2 ^ 12), word 6, 0, 0, 0]; b ++ [word (crcWords (b.drop 1))]) ++ [word 9]).map StreamItem.word } };
     let arrived (s : State) (ws : List Word) (rest : List StreamItem) : Prop :=
      s.rb Reg.DECODE_STREAM_STATUS_ALIGNED = true ∧ s.stream.fifo = ws.map StreamItem.word ++ rest ∧ nthW ws 0 = batchMarker
      ∧ ws.length = 7 + 7 * entryCount (nthW ws 1) ∧ s.stream.seqs = [];
     let front (s : State) (rest : List StreamItem) : State :=
      let t := s.pass 0
      { t with stream := { s.stream with fifo := rest, batch := none } };
     let ends (s a : State) : State :=
      ((((a.fire.inputs.filter (fun (i : FrameInput) => i.entries.isSome && !s.fire.inputs.contains i)).map (fun (i : FrameInput) => i.frame)).foldl
        (fun (x : State) n => x.atlasCheck n []) a).sealBound).recheck;
((fun s =>
          let n := frameOf (nthW ws 1) (nthW ws 2)
          arrived s ws rest ∧ headerOk ws = true ∧ s.stream.last = none ∧ (front s rest).windowOpen n = false
          ∧ n ≤ (front s rest).curFrame + s.es Reg.DECODE_STREAM_CTRL_HORIZON
          ∧ bit (nthW ws 1) 25 = false ∧ bit (nthW ws 1) 24 = false ∧ nthW ws 3 = 0
          ∧ s.es Reg.DECODE_STREAM_CTRL_PRESENT_TOL = 0 ∧ bits (nthW ws 1) 23 12 ≠ 0
          ∧ entriesBad (nthW ws 1) (entriesOf (entryCount (nthW ws 1)) (ws.drop 6)) = false) : State → Prop) s0)
    ∧ (let b : OpenBatch := (⟨9, some 3, false⟩ : OpenBatch); let k := 1; let ws : List Word := [word (2 ^ 32 + 5 * 2 ^ 29), word 2, 0, 0, 0, 6, 7, 0, 0, 0, 0]; let rest := [StreamItem.word 9]; let st : State := let t : State := let t : State := (tDev 0).ws [(Reg.DECODE_STREAM_STATUS_ALIGNED, 0, 1), (Reg.DECODE_STREAM_CTRL_CLEAR_OK, 0, 1), (Reg.DECODE_STREAM_CTRL_PRESENT_TOL, 0, 0)]; { t with emit_ := { t.emit_ with scan := t.regs } }; { t with stream := { t.stream with batch := some (⟨9, some 3, false⟩ : OpenBatch), fifo := ([word (2 ^ 32 + 5 * 2 ^ 29), word 2, 0, 0, 0, 6, 7, 0, 0, 0, 0] ++ [word 9]).map StreamItem.word } }; ((fun s => s.stream.batch = some b ∧ s.rb Reg.DECODE_STREAM_STATUS_ALIGNED = true ∧ chunkAt s.stream.fifo = .whole ws rest
      ∧ b.skip = false ∧ b.left = some (k + 2) ∧ bits (nthW ws 0) 35 32 = 1 ∧ bits (nthW ws 0) 23 12 = 0
      ∧ s.es Reg.DECODE_STREAM_CTRL_CLEAR_OK ≠ 0 ∧ s.stream.seqs = [] ∧ bits (nthW ws 0) 11 0 = 0 ∧ bit (nthW ws 0) 28 = false) : State → Prop) st)
    ∧ (let hd : List Word := (let b : List Word := [parcelMarker, word (2 ^ 32), word 9]; b ++ [word (crcWords (b.drop 1))]); let ws : List Word := ([word (2 ^ 32 + 5 * 2 ^ 29 + 2 ^ 28), word 2, 0, 0, 0, 6, 7, 0, 0, 0, 0] : List Word); let rest := (([word (2 ^ 32 + 5 * 2 ^ 29 + 2 ^ 28), word 2, 0, 0, 0, 6, 7, 0, 0, 0, 0] : List Word).map StreamItem.word); let r := ([] : List StreamItem); let st : State := let t : State := let t : State := (tDev 0).ws [(Reg.DECODE_STREAM_STATUS_ALIGNED, 0, 1), (Reg.DECODE_STREAM_CTRL_CLEAR_OK, 0, 1), (Reg.DECODE_STREAM_CTRL_PRESENT_TOL, 0, 0)]; { t with emit_ := { t.emit_ with scan := t.regs } }; { t with stream := { t.stream with fifo := ((let b : List Word := [parcelMarker, word (2 ^ 32), word 9]; b ++ [word (crcWords (b.drop 1))]) ++ ([word (2 ^ 32 + 5 * 2 ^ 29 + 2 ^ 28), word 2, 0, 0, 0, 6, 7, 0, 0, 0, 0] : List Word)).map StreamItem.word } }; (hd.length = 4) ∧ (nthW hd 0 = parcelMarker) ∧ (headerOk hd = true) ∧ (bits (nthW hd 1) 35 32 = 1) ∧ (chunkAt rest = .whole ws r) ∧ (bits (nthW ws 0) 35 32 = 1) ∧ (bits (nthW ws 0) 23 12 = 0) ∧ (bits (nthW ws 0) 11 0 = 0) ∧ (bit (nthW ws 0) 28 = true) ∧ ((fun s => s.stream.fifo = hd.map StreamItem.word ++ rest ∧ s.rb Reg.DECODE_STREAM_STATUS_ALIGNED = true
      ∧ s.es Reg.DECODE_STREAM_CTRL_CLEAR_OK ≠ 0 ∧ s.stream.seqs = []) : State → Prop) st)
    ∧ (let q : Nat := 3; let head : PicHead := ({ profile := 1, wpp := false, sepPlanes := false, extPrec := false, bypassAlign := false, dpb := 1, output := true, poc := 0, uses := [], keeps := [], width := 16, height := 16, chroma := 1, depth := 8, ctu := 16, full := false, matrix := none } : PicHead); let i := (⟨3, 7, true, false, false, true, [([0x02, 0x01, 0x80] : List Byte)]⟩ : DecItem); let u := ([0x02, 0x01, 0x80] : List Byte); let us := ([] : List (List Byte)); let st : State := let t : State := tDev 0; { t with stream := { t.stream with queue := [(⟨3, 7, true, false, false, true, [([0x02, 0x01, 0x80] : List Byte)]⟩ : DecItem)] } }; ((fun s => (s.pass 0).nextItem = some i ∧ i.lost = false ∧ i.nals = u :: us ∧ badNal u = false ∧ sliceNal u = true ∧ i.seq = q
      ∧ s.dec.prog.getD q none = none) : State → Prop) st)
    ∧ (let q : Nat := 3; let head : PicHead := ({ profile := 1, wpp := false, sepPlanes := false, extPrec := false, bypassAlign := false, dpb := 1, output := true, poc := 0, uses := [], keeps := [], width := 16, height := 16, chroma := 1, depth := 8, ctu := 16, full := false, matrix := none } : PicHead); let i := (⟨3, 7, true, false, false, true, [([0x02, 0x01, 0x80] : List Byte)]⟩ : DecItem); let u := ([0x02, 0x01, 0x80] : List Byte); let us := ([] : List (List Byte)); let p := ({ frame := 7, head := ({ profile := 1, wpp := false, sepPlanes := false, extPrec := false, bypassAlign := false, dpb := 1, output := true, poc := 0, uses := [], keeps := [], width := 16, height := 16, chroma := 1, depth := 8, ctu := 16, full := false, matrix := none } : PicHead), type := 1, cvs := 0, dropped := false, live := true, place := 0, room := 0, done := [], free := [], rows := 0, missing := false, badIndep := false, taintIn := false, ending := false, samples := [] } : Prog); let st : State := let t : State := tDev 0; { t with stream := { t.stream with queue := [(⟨3, 7, true, false, false, true, [([0x02, 0x01, 0x80] : List Byte)]⟩ : DecItem)] }, dec := { t.dec with prog := [none, none, none, some ({ frame := 7, head := ({ profile := 1, wpp := false, sepPlanes := false, extPrec := false, bypassAlign := false, dpb := 1, output := true, poc := 0, uses := [], keeps := [], width := 16, height := 16, chroma := 1, depth := 8, ctu := 16, full := false, matrix := none } : PicHead), type := 1, cvs := 0, dropped := false, live := true, place := 0, room := 0, done := [], free := [], rows := 0, missing := false, badIndep := false, taintIn := false, ending := false, samples := [] } : Prog)] } }; ((fun s => (s.pass 0).nextItem = some i ∧ i.lost = false ∧ i.nals = u :: us ∧ badNal u = false ∧ sliceNal u = true ∧ i.seq = q
      ∧ s.dec.prog.getD q none = some p ∧ p.ending = false ∧ firstSlice u = true) : State → Prop) st)
    ∧ (let o : SliceOut := ⟨[0], [], none, false, false, []⟩;
let p : Prog := ({ frame := 7, head := ({ profile := 1, wpp := false, sepPlanes := false, extPrec := false, bypassAlign := false, dpb := 1, output := true, poc := 0, uses := [], keeps := [], width := 16, height := 16, chroma := 1, depth := 8, ctu := 16, full := false, matrix := none } : PicHead), type := 1, cvs := 0, dropped := false, live := true, place := 0, room := 0, done := [], free := [], rows := 0, missing := false, badIndep := false, taintIn := false, ending := false, samples := [] } : Prog);
let q : Nat := 3;
let i := (⟨3, 7, true, false, false, true, [([0x02, 0x01, 0x80] : List Byte)]⟩ : DecItem);
let u := ([0x02, 0x01, 0x80] : List Byte);
let us := ([] : List (List Byte));
let s0 : State := let t : State := tDev 0; { t with stream := { t.stream with queue := [(⟨3, 7, true, false, false, true, [([0x02, 0x01, 0x80] : List Byte)]⟩ : DecItem)] }, dec := { t.dec with prog := [none, none, none, some ({ frame := 7, head := ({ profile := 1, wpp := false, sepPlanes := false, extPrec := false, bypassAlign := false, dpb := 1, output := true, poc := 0, uses := [], keeps := [], width := 16, height := 16, chroma := 1, depth := 8, ctu := 16, full := false, matrix := none } : PicHead), type := 1, cvs := 0, dropped := false, live := true, place := 0, room := 0, done := [], free := [], rows := 0, missing := false, badIndep := false, taintIn := false, ending := false, samples := [] } : Prog)] } };
     let came (s : State) : State := (s.pass 0).dramUsed true (s.r Reg.DECODE_POOL_BASE_POOL_BASE);
(o.err = none) ∧ (o.reads = []) ∧ ((fun s => (came s).nextItem = some i ∧ i.lost = false ∧ i.nals = u :: us ∧ badNal u = false ∧ sliceNal u = true ∧ i.seq = q
      ∧ (came s).dec.prog.getD q none = some p ∧ p.ending = false) : State → Prop) s0)
    ∧ (let q : Nat := 3; let sei : Option (Nat × List Nat) := none; let p := ({ frame := 7, head := ({ profile := 1, wpp := false, sepPlanes := false, extPrec := false, bypassAlign := false, dpb := 1, output := true, poc := 0, uses := [], keeps := [], width := 16, height := 16, chroma := 1, depth := 8, ctu := 16, full := false, matrix := none } : PicHead), type := 1, cvs := 0, dropped := false, live := true, place := 0, room := 0, done := [], free := [], rows := 0, missing := false, badIndep := false, taintIn := false, ending := true, samples := [] } : Prog); let st : State := let t : State := tDev 0; { t with dec := { t.dec with prog := [none, none, none, some ({ frame := 7, head := ({ profile := 1, wpp := false, sepPlanes := false, extPrec := false, bypassAlign := false, dpb := 1, output := true, poc := 0, uses := [], keeps := [], width := 16, height := 16, chroma := 1, depth := 8, ctu := 16, full := false, matrix := none } : PicHead), type := 1, cvs := 0, dropped := false, live := true, place := 0, room := 0, done := [], free := [], rows := 0, missing := false, badIndep := false, taintIn := false, ending := true, samples := [] } : Prog)] } }; ((fun s => (s.pass 0).drain.dec.prog.getD q none = some p ∧ p.ending = true) : State → Prop) st) := by
  and_intros <;> decide +kernel

/-- Each clause of `Obligations.FrameRowsTakeEffect` has its premises met. -/
theorem witness_FrameRowsTakeEffect :
    (let acts : List (Nat × Nat) := []; let items : List PlanItem := []; let slip : Bool := false; let st : State := tDev 0; ((fun s => s.alive = true) : State → Prop) st)
    ∧ (let acts : List (Nat × Nat) := []; let items : List PlanItem := []; let slip : Bool := false; let st : State := let t : State := tDev 0; { t with start := { t.start with cold := true } }; ((fun s => s.alive = false) : State → Prop) st)
    ∧ (let st : State := let t : State := tDev 0; { t with time := { t.time with ticked := true, last := 5 } }; ((fun s => s.time.ticked = true ∧ s.fire.closed ≠ some (s.time.last + 2)) : State → Prop) st)
    ∧ (let st : State := tDev 0; ((fun s => s.time.ticked = false ∨ s.fire.closed = some (s.time.last + 2)) : State → Prop) st)
    ∧ (let f := ({ FireFrame.fresh 6 (tDev 0).regs [] with decided := false } : FireFrame); let st : State := let t : State := tDev 0; { t with time := { t.time with ticked := true, last := 5 }, fire := { t.fire with firing := true, frames := [{ FireFrame.fresh 6 t.regs [] with decided := false }] } }; ((fun s =>
      let t := s.goto (s.sched s.time.last + us (s.es Reg.KILN_FRAME_CTRL_READY_GRACE))
      s.time.ticked = true ∧ t.fire.firing = true ∧ t.fireFrame t.curFrame = some f ∧ f.decided = false ∧ f.repeated = false) : State → Prop) st)
    ∧ (let st : State := let t : State := tDev 0; { t with time := { t.time with ticked := true, last := 5 }, fire := { t.fire with firing := true, frames := [{ FireFrame.fresh 6 t.regs [] with decided := true }] } }; ((fun s => s.time.ticked = true ∧ s.fire.firing = true) : State → Prop) st)
    ∧ (let st : State := tDev 0; ((fun s => s.time.ticked = false ∨ s.fire.firing = false) : State → Prop) st)
    ∧ (let f := ({ FireFrame.fresh 6 (tDev 0).regs [] with decided := true } : FireFrame); let st : State := let t : State := tDev 0; { t with time := { t.time with ticked := true, last := 5 }, fire := { t.fire with firing := true, frames := [{ FireFrame.fresh 6 t.regs [] with decided := true }] } }; ((fun s =>
      let t := s.goto (s.winEnd - us (s.r Reg.KILN_LIVE_CTRL_LIVE_TAIL))
      s.time.ticked = true ∧ s.fire.firing = true ∧ t.fireFrame t.curFrame = some f ∧ f.cut = false ∧ f.repeated = false ∧ f.decided = true) : State → Prop) st)
    ∧ (let f := ({ FireFrame.fresh 6 (tDev 0).regs [] with decided := true } : FireFrame); let st : State := let t : State := tDev 0; { t with time := { t.time with ticked := true, last := 5 }, fire := { t.fire with firing := true, frames := [{ FireFrame.fresh 6 t.regs [] with decided := true }] } }; ((fun s =>
      let t := s.goto s.winEnd
      s.time.ticked = true ∧ s.fire.firing = true ∧ t.fireFrame t.curFrame = some f ∧ f.repeated = false
      ∧ (f.bands = [] ∨ ∃ b ∈ f.bands, b.fired = false ∨ b.stale = true)) : State → Prop) st)
    ∧ (let f := ({ FireFrame.fresh 6 (tDev 0).regs [] with repeated := true } : FireFrame); let st : State := let t : State := tDev 0; { t with time := { t.time with ticked := true, last := 5 }, fire := { t.fire with firing := true, frames := [{ FireFrame.fresh 6 t.regs [] with repeated := true }] } }; ((fun s =>
      let t := s.goto s.winEnd
      s.time.ticked = true ∧ s.fire.firing = true ∧ t.fireFrame t.curFrame = some f
      ∧ (f.repeated = true ∨ (f.bands ≠ [] ∧ ∀ b ∈ f.bands, b.fired = true ∧ b.stale = false))) : State → Prop) st)
    ∧ (let n : Nat := (6 : Nat);
let b : Nat := (0 : Nat);
let errs : List (Nat × Bool) := ([] : List (Nat × Bool));
let f := ({ FireFrame.fresh 6 (tDev 0).regs [] with decided := true, uses := List.replicate 32 SlotUse.fresh, set := some (⟨0, [], 0, 0, 0, 0, false, 0⟩ : GlazeSet), rows := 1, bands := [⟨0, 0, false, [1], false, false, false⟩] } : FireFrame);
let s0 : State := let t : State := tDev 0; { t with time := { t.time with ticked := true, last := 5 }, fire := { t.fire with firing := true, frames := [{ FireFrame.fresh 6 t.regs [] with decided := true, uses := List.replicate 32 SlotUse.fresh, set := some (⟨0, [], 0, 0, 0, 0, false, 0⟩ : GlazeSet), rows := 1, bands := [⟨0, 0, false, [1], false, false, false⟩] }] } };
     let came (s : State) (n : Nat) : State :=
      let u := (s.pass 0).fireNext
      if n = u.curFrame + 1 ∧ (u.fireFrame n).isNone = true ∧ u.fire.firing = true then (u.setFrame (u.frameOr n)).renew n else u;
((fun s =>
      let t := came s n
      let r := t.laidOut f
      t.fireFrame n = some f ∧ (t.isFired f = true ∨ n = t.curFrame + 1) ∧ (r.2.nextBands r.1).contains b = true
      ∧ r.2.fire.shelf.length < r.2.shelfRoom ∧ r.2.bandOpen r.1 b = true) : State → Prop) s0)
    ∧ (let n : Nat := 6; let b : Nat := 0; let f := ({ FireFrame.fresh 6 (tDev 0).regs [] with rows := 1, bands := [⟨0, 0, false, [1], false, false, false⟩] } : FireFrame); let x := (⟨0, 0, false, [1], false, false, false⟩ : Band); let st : State := let t : State := tDev 0; { t with time := { t.time with ticked := true, last := 5 }, fire := { t.fire with firing := true, frames := [{ FireFrame.fresh 6 t.regs [] with rows := 1, bands := [⟨0, 0, false, [1], false, false, false⟩] }] } }; ((fun s => (s.pass 0).fireFrame n = some f ∧ f.bands.find? (fun (x : Band) => x.idx = b) = some x ∧ x.left = 0 ∧ x.fired = false
      ∧ x.inputs.isEmpty = false) : State → Prop) st)
    ∧ (let lane : Nat := 3; let errs : List ReadErr := []; let st : State := tDev 0; ((fun s => lane < 16 ∧ ((s.pass 0).emitterSlot lane errs).1 = true) : State → Prop) st)
    ∧ (let lane : Nat := 3; let errs : List ReadErr := []; let st : State := let t : State := (tDev 0).ws [(Reg.LINK_LANE_W1_STATE, 15, 4)]; t.setLane 15 { t.laneX 15 with align := 3 }; ((fun s => lane < 16 ∧ ((s.pass 0).emitterSlot lane errs).1 = false) : State → Prop) st)
    ∧ (let f := ({ FireFrame.fresh 6 (tDev 0).regs [] with rows := 1, bands := [⟨0, 0, false, [1], false, false, false⟩], decided := true, queue := [(⟨0, 0, 0, 0, 1, 2, 3, 0⟩ : RayIn)] } : FireFrame);
let q := (⟨0, 0, 0, 0, 1, 2, 3, 0⟩ : RayIn);
let t := ([] : List RayIn);
let parity : List Nat := ([] : List Nat);
let s0 : State := let t : State := tDev 0; { t with time := { t.time with ticked := true, last := 5 }, fire := { t.fire with firing := true, frames := [{ FireFrame.fresh 6 t.regs [] with rows := 1, bands := [⟨0, 0, false, [1], false, false, false⟩], decided := true, queue := [(⟨0, 0, 0, 0, 1, 2, 3, 0⟩ : RayIn)] }] } };
     let came (s : State) : State := match s.pacedTo with
      | some t => (s.goto t).fireNext
      | none => s.pass 0;
((fun s => (came s).fire.frames.find? (fun (x : FireFrame) => !x.queue.isEmpty) = some f ∧ f.queue = q :: t) : State → Prop) s0)
    ∧ (let input : Nat := 0; let dt : Nat := 9; let n := 6; let st : State := let t : State := let t : State := (tDev 0).ws [(Reg.EMIT_HEAD_CTRL_SCAN_EN, 0, 1)]; { t with emit_ := { t.emit_ with scan := t.regs } }; { t with emit_ := { t.emit_ with await := some 6 } }; (input < 2) ∧ ((fun s => (s.pass dt).scanOn = true ∧ s.es Reg.EMIT_HEAD_CTRL_TE_SEL = input ∧ s.emit_.bisAwait = false
      ∧ s.emit_.await = some n) : State → Prop) st)
    ∧ (let n := 6; let st : State := let t : State := tDev 0; { t with time := { t.time with ticked := true, last := 5 }, fire := { t.fire with firing := true, frames := [{ FireFrame.fresh 6 t.regs [] with decided := true, prep := true, bands := [⟨0, 0, true, [1], false, false, true⟩] }] }, emit_ := { t.emit_ with await := some 6 } }; ((fun s => s.emit_.bisAwait = false ∧ s.emit_.await = some n
      ∧ (s.goto (s.sched s.time.last + us (s.es Reg.EMIT_HEAD_CTRL_TE_TIMEOUT))).transfersDone n = true) : State → Prop) st)
    ∧ (let n := 6; let st : State := let t : State := let t : State := (tDev 0).ws [(Reg.EMIT_HEAD_CTRL_SCAN_EN, 0, 1)]; { t with emit_ := { t.emit_ with scan := t.regs } }; { t with emit_ := { t.emit_ with await := some 6 } }; ((fun s => s.emit_.bisAwait = false ∧ s.emit_.await = some n
      ∧ (s.goto (s.sched s.time.last + us (s.es Reg.EMIT_HEAD_CTRL_TE_TIMEOUT))).transfersDone n = false) : State → Prop) st)
    ∧ (let st : State := let t : State := tDev 0; { t with emit_ := { t.emit_ with bisAwait := true } }; ((fun s => s.emit_.bisAwait = true) : State → Prop) st)
    ∧ (let s0 : State := let t : State := let t : State := (tDev 0).ws [(Reg.EMIT_HEAD_CTRL_SCAN_EN, 0, 1)]; { t with emit_ := { t.emit_ with scan := t.regs } }; { t with emit_ := { t.emit_ with lineFrom := 0, lineDue := 1000000000000 } };
     let from_ (s : State) : Int := s.emit_.lineFrom;
     let lines (s : State) : Nat := s.geo.subs * s.geo.commons;
     let due (s : State) : Int :=
      if from_ s < s.emit_.lineDue then s.emit_.lineDue else s.sched s.nextTick + us (s.es Reg.EMIT_SCAN_CTRL_SCAN_PHASE);
     let j (s : State) : Int := (s.tb3 - from_ s) * lines s / (max 1 s.period : Nat) + 1;
     let at_ (s : State) : Int := from_ s + j s * s.period / (lines s : Int);
     let starts (s : State) (line : Nat) : State :=
      let u := ({ s with emit_ := { s.emit_ with line := line } }.synfLine line).lineStart
      (s.geo.heads.filter (fun h => !u.headOff h)).foldl (fun (x : State) h =>
        x.emit .pin [92 + h] [word (line % s.geo.commons), word (b2n (x.emit_.blank.getD h true)), word x.emit_.blankT]) u;
((fun s => s.scanOn = true ∧ from_ s ≤ s.tb3 ∧ j s < lines s ∧ at_ s < due s) : State → Prop) s0)
    ∧ (let s0 : State := let t : State := let t : State := (tDev 0).ws [(Reg.EMIT_HEAD_CTRL_SCAN_EN, 0, 1)]; { t with emit_ := { t.emit_ with scan := t.regs } }; { t with emit_ := { t.emit_ with lineFrom := 0, lineDue := 1 } };
     let from_ (s : State) : Int := s.emit_.lineFrom;
     let lines (s : State) : Nat := s.geo.subs * s.geo.commons;
     let due (s : State) : Int :=
      if from_ s < s.emit_.lineDue then s.emit_.lineDue else s.sched s.nextTick + us (s.es Reg.EMIT_SCAN_CTRL_SCAN_PHASE);
     let j (s : State) : Int := (s.tb3 - from_ s) * lines s / (max 1 s.period : Nat) + 1;
     let at_ (s : State) : Int := from_ s + j s * s.period / (lines s : Int);
     let starts (s : State) (line : Nat) : State :=
      let u := ({ s with emit_ := { s.emit_ with line := line } }.synfLine line).lineStart
      (s.geo.heads.filter (fun h => !u.headOff h)).foldl (fun (x : State) h =>
        x.emit .pin [92 + h] [word (line % s.geo.commons), word (b2n (x.emit_.blank.getD h true)), word x.emit_.blankT]) u;
((fun s => s.scanOn = true ∧ from_ s ≤ s.tb3 ∧ (lines s ≤ j s ∨ due s ≤ at_ s) ∧ s.time.blankNext = false) : State → Prop) s0)
    ∧ (let s0 : State := let t : State := let t : State := (tDev 0).ws [(Reg.EMIT_HEAD_CTRL_SCAN_EN, 0, 1)]; { t with emit_ := { t.emit_ with scan := t.regs } }; { t with emit_ := { t.emit_ with lineFrom := 1000 } };
     let from_ (s : State) : Int := s.emit_.lineFrom;
     let lines (s : State) : Nat := s.geo.subs * s.geo.commons;
     let due (s : State) : Int :=
      if from_ s < s.emit_.lineDue then s.emit_.lineDue else s.sched s.nextTick + us (s.es Reg.EMIT_SCAN_CTRL_SCAN_PHASE);
     let j (s : State) : Int := (s.tb3 - from_ s) * lines s / (max 1 s.period : Nat) + 1;
     let at_ (s : State) : Int := from_ s + j s * s.period / (lines s : Int);
     let starts (s : State) (line : Nat) : State :=
      let u := ({ s with emit_ := { s.emit_ with line := line } }.synfLine line).lineStart
      (s.geo.heads.filter (fun h => !u.headOff h)).foldl (fun (x : State) h =>
        x.emit .pin [92 + h] [word (line % s.geo.commons), word (b2n (x.emit_.blank.getD h true)), word x.emit_.blankT]) u;
((fun s => s.scanOn = true ∧ s.tb3 < from_ s) : State → Prop) s0)
    ∧ (let s0 : State := let t : State := let t : State := (tDev 0).ws [(Reg.EMIT_HEAD_CTRL_SCAN_EN, 0, 1)]; { t with emit_ := { t.emit_ with scan := t.regs } }; { t with emit_ := { t.emit_ with lineFrom := -1000000000000, lineDue := 1 }, time := { t.time with blankNext := true, blank := false } };
     let from_ (s : State) : Int := s.emit_.lineFrom;
     let lines (s : State) : Nat := s.geo.subs * s.geo.commons;
     let due (s : State) : Int :=
      if from_ s < s.emit_.lineDue then s.emit_.lineDue else s.sched s.nextTick + us (s.es Reg.EMIT_SCAN_CTRL_SCAN_PHASE);
     let j (s : State) : Int := (s.tb3 - from_ s) * lines s / (max 1 s.period : Nat) + 1;
     let at_ (s : State) : Int := from_ s + j s * s.period / (lines s : Int);
     let starts (s : State) (line : Nat) : State :=
      let u := ({ s with emit_ := { s.emit_ with line := line } }.synfLine line).lineStart
      (s.geo.heads.filter (fun h => !u.headOff h)).foldl (fun (x : State) h =>
        x.emit .pin [92 + h] [word (line % s.geo.commons), word (b2n (x.emit_.blank.getD h true)), word x.emit_.blankT]) u;
((fun s => s.scanOn = true ∧ from_ s ≤ s.tb3 ∧ (lines s ≤ j s ∨ due s ≤ at_ s) ∧ s.time.blankNext = true ∧ s.time.blank = false
        ∧ from_ s + s.period < due s) : State → Prop) s0)
    ∧ (let st : State := tDev 0; ((fun s => s.scanOn = false) : State → Prop) st)
    ∧ (let l := (⟨0, 5, [5, 2], ⟨⟨.spi, 0, 0, 0, []⟩, 5, 6⟩⟩ : TableLoad); let st : State := let t : State := tDev 0; { t with fire := { t.fire with loads := [(⟨0, 5, [5, 2], ⟨⟨.spi, 0, 0, 0, []⟩, 5, 6⟩⟩ : TableLoad)] } }; ((fun s => s.fire.loads = [l] ∧ (s.pass 0).tableUsed l.kind l.table = false) : State → Prop) st)
    ∧ (let n := 3; let st : State := ((let t : State := tDev 0; { t with time := { t.time with ticked := true, last := 5 } } : State)).ws [(Reg.KILN_SURF_W3_DEFINED, 3, 1), (Reg.KILN_SURF_W3_SEALED, 3, 1), (Reg.KILN_SURF_W2_SECTORS, 3, 9)]; ((fun s => (s.pass 0).surfsDue = [n]
      ∧ (sget (⟨0, 0, none⟩ : SurfX) s.fire.surf n).release = none) : State → Prop) st)
    ∧ (let l := (⟨1, 0, [], false, ⟨⟨.spi, 0, 0, 0, []⟩, 5, 6⟩⟩ : CtxLoad); let st : State := let t : State := tDev 0; { t with time := { t.time with ticked := true, last := 5 }, glaze := { t.glaze with loads := [(⟨1, 0, [], false, ⟨⟨.spi, 0, 0, 0, []⟩, 5, 6⟩⟩ : CtxLoad)] } }; ((fun s => s.glaze.loads = [l] ∧ l.frame ≤ s.curFrame) : State → Prop) st)
    ∧ (let st : State := (tDev 0).ws [(Reg.GLAZE_CTX_STATUS_COPYING, 0, 1)]; ((fun s => s.rb Reg.GLAZE_CTX_STATUS_COPYING = true ∧ s.glaze.waiting = []) : State → Prop) st) := by
  and_intros <;> decide +kernel

/-- Each clause of `Obligations.FaultRowsTakeEffect` has its premises met. -/
theorem witness_FaultRowsTakeEffect :
    (let words : List Word := [word (2 ^ 32 + 3 * 2 ^ 28 + 7), word 5, word 2]; let e := (⟨3, 7, 5, 2, false, 9⟩ : Echo); let st : State := let t : State := let t : State := (tDev 0).ws [(Reg.EMIT_HEAD_CTRL_ECHO_EN, 0, 1)]; { t with emit_ := { t.emit_ with scan := t.regs } }; { t with emit_ := { t.emit_ with echo := [(⟨3, 7, 5, 2, false, 9⟩ : Echo)] } }; (bits (nthW words 0) 35 32 = 1) ∧ ((fun s => s.emit_.echo.find? (fun (x : Echo) => x.lane = bits (nthW words 0) 31 28 && x.frame = bits (nthW words 0) 27 0) = some e
      ∧ bits (nthW words 1) 31 0 = e.crc ∧ bits (nthW words 2) 22 0 = e.count ∧ bit (nthW words 2) 23 = e.abandon) : State → Prop) st)
    ∧ (let words : List Word := [word (2 ^ 32 + 3 * 2 ^ 28 + 7), word 5, word 2]; let e := (⟨3, 7, 6, 2, false, 9⟩ : Echo); let st : State := let t : State := let t : State := (tDev 0).ws [(Reg.EMIT_HEAD_CTRL_ECHO_EN, 0, 1)]; { t with emit_ := { t.emit_ with scan := t.regs } }; { t with emit_ := { t.emit_ with echo := [(⟨3, 7, 6, 2, false, 9⟩ : Echo)] } }; (bits (nthW words 0) 35 32 = 1) ∧ (bits (nthW words 1) 31 0 ≠ e.crc) ∧ ((fun s => s.emit_.echo.find? (fun (x : Echo) => x.lane = bits (nthW words 0) 31 28 && x.frame = bits (nthW words 0) 27 0) = some e
      ∧ nth s.emit_.badEcho e.lane = 0) : State → Prop) st)
    ∧ (let lane : Nat := 3; let e := (⟨3, 7, 6, 2, false, 9⟩ : Echo); let st : State := let t : State := let t : State := (tDev 0).ws [(Reg.EMIT_HEAD_CTRL_ECHO_EN, 0, 1)]; { t with emit_ := { t.emit_ with scan := t.regs } }; { t with emit_ := { t.emit_ with echo := [(⟨3, 7, 6, 2, false, 9⟩ : Echo)] } }; ((fun s => s.emit_.echo.find? (fun (x : Echo) => x.lane = lane) = some e ∧ nth s.emit_.badEcho e.lane = 0) : State → Prop) st)
    ∧ (let lane : Nat := 3; let e := (⟨3, 7, 6, 2, false, 9⟩ : Echo); let st : State := let t : State := let t : State := (tDev 0).ws [(Reg.EMIT_HEAD_CTRL_ECHO_EN, 0, 1)]; { t with emit_ := { t.emit_ with scan := t.regs } }; { t with emit_ := { t.emit_ with echo := [(⟨3, 7, 6, 2, false, 9⟩ : Echo)], badEcho := [0, 0, 0, 2, 0, 0, 0, 0, 0, 0, 0, 0, 0, 0, 0, 0] } }; ((fun s => s.emit_.echo.find? (fun (x : Echo) => x.lane = lane) = some e ∧ nth s.emit_.badEcho e.lane = 2) : State → Prop) st)
    ∧ (let words : List Word := [word (2 * 2 ^ 32 + (((let t : State := (tDev 0).ws [(Reg.EMIT_HEAD_CTRL_ECHO_EN, 0, 1)]; { t with emit_ := { t.emit_ with scan := t.regs } }) : State).geo.lanes.headD 0) * 2 ^ 28), word 1, word (2 ^ 31 + 7)];
let s0 : State := let t : State := (tDev 0).ws [(Reg.EMIT_HEAD_CTRL_ECHO_EN, 0, 1)]; { t with emit_ := { t.emit_ with scan := t.regs } };
     let entries (words : List Word) : List FaultEntry := ((words.drop 2).take (bits (nthW words 1) 4 0)).map (fun w =>
      (⟨bits (nthW words 0) 31 28, bits w 35 34, bits w 33 32, bit w 31, bits w 24 0, 0⟩ : FaultEntry));
     let heard (s : State) (words : List Word) : Prop := bits (nthW words 0) 35 32 = 2
      ∧ (s.pass 0).geo.lanes.contains (bits (nthW words 0) 31 28) = true ∧ s.es Reg.EMIT_HEAD_CTRL_ECHO_EN ≠ 0 ∧ s.emit_.maps = [];
((fun s => heard s words ∧ bits (nthW words 1) 12 10 = 0) : State → Prop) s0)
    ∧ (let words : List Word := [word (2 * 2 ^ 32 + (((let t : State := (tDev 0).ws [(Reg.EMIT_HEAD_CTRL_ECHO_EN, 0, 1)]; { t with emit_ := { t.emit_ with scan := t.regs } }) : State).geo.lanes.headD 0) * 2 ^ 28), word (1 + 3 * 2 ^ 10), word (2 ^ 31 + 7)];
let s0 : State := let t : State := (tDev 0).ws [(Reg.EMIT_HEAD_CTRL_ECHO_EN, 0, 1)]; { t with emit_ := { t.emit_ with scan := t.regs } };
     let entries (words : List Word) : List FaultEntry := ((words.drop 2).take (bits (nthW words 1) 4 0)).map (fun w =>
      (⟨bits (nthW words 0) 31 28, bits w 35 34, bits w 33 32, bit w 31, bits w 24 0, 0⟩ : FaultEntry));
     let heard (s : State) (words : List Word) : Prop := bits (nthW words 0) 35 32 = 2
      ∧ (s.pass 0).geo.lanes.contains (bits (nthW words 0) 31 28) = true ∧ s.es Reg.EMIT_HEAD_CTRL_ECHO_EN ≠ 0 ∧ s.emit_.maps = [];
((fun s => heard s words ∧ 0 < bits (nthW words 1) 12 10) : State → Prop) s0)
    ∧ (let lane : Nat := ((let t : State := (tDev 0).ws [(Reg.EMIT_HEAD_CTRL_ECHO_EN, 0, 1), (Reg.EMIT_HEAD_CTRL_SCAN_EN, 0, 1)]; { t with emit_ := { t.emit_ with scan := t.regs } }) : State).geo.lanes.headD 0; let st : State := let t : State := let t : State := (tDev 0).ws [(Reg.EMIT_HEAD_CTRL_ECHO_EN, 0, 1), (Reg.EMIT_HEAD_CTRL_SCAN_EN, 0, 1)]; { t with emit_ := { t.emit_ with scan := t.regs } }; { t with emit_ := { t.emit_ with reported := List.replicate 16 false, missed := [] } }; ((fun s => s.es Reg.EMIT_HEAD_CTRL_ECHO_EN ≠ 0 ∧ s.scanOn = true ∧ s.emit_.reported.getD lane true = false
      ∧ s.geo.lanes.contains lane = true ∧ nth s.emit_.missed lane < 2) : State → Prop) st)
    ∧ (let head : Nat := 0; let p := ({ string := 3, solo := [], lo := 1, hi := 5, top := 9, sure := false, heard := false, asked := true, turns := [], silent := [] } : Probe); let st : State := let t : State := let t : State := (tDev 0).ws [(Reg.EMIT_HEAD_CTRL_ECHO_EN, 0, 1), (Reg.EMIT_HEAD_CTRL_SCAN_EN, 0, 1)]; { t with emit_ := { t.emit_ with scan := t.regs } }; { t with emit_ := { t.emit_ with probes := [({ string := 3, solo := [], lo := 1, hi := 5, top := 9, sure := false, heard := false, asked := true, turns := [], silent := [] } : Probe)] } }; ((fun s => s.emit_.probes[head]? = some p ∧ p.asked = true ∧ s.scanOn = true ∧ p.solo = [] ∧ p.sure = false
      ∧ p.range.1 ≠ p.range.2) : State → Prop) st)
    ∧ (let head : Nat := 0; let p := ({ string := 3, solo := [], lo := 1, hi := 5, top := 9, sure := false, heard := false, asked := true, turns := [], silent := [] } : Probe); let st : State := let t : State := let t : State := (tDev 0).ws [(Reg.EMIT_HEAD_CTRL_ECHO_EN, 0, 1), (Reg.EMIT_HEAD_CTRL_SCAN_EN, 0, 1)]; { t with emit_ := { t.emit_ with scan := t.regs } }; { t with emit_ := { t.emit_ with probes := [({ string := 3, solo := [], lo := 1, hi := 5, top := 9, sure := false, heard := false, asked := true, turns := [], silent := [] } : Probe)] } }; ((fun s => s.emit_.probes[head]? = some p ∧ p.asked = true ∧ s.scanOn = true ∧ p.solo = [] ∧ p.sure = false) : State → Prop) st)
    ∧ (let group : Nat := 2; let p := (2, 9); let st : State := let t : State := tDev 0; { t with emit_ := { t.emit_ with fallback := [(2, 9)] } }; ((fun s => s.emit_.fallback.find? (fun (x : Nat × Nat) => x.1 = group) = some p) : State → Prop) st) := by
  and_intros <;> decide +kernel

/-- Each clause of `Obligations.EncodeRowsTakeEffect` has its premises met. -/
theorem witness_EncodeRowsTakeEffect :
    (let c : CodedRow := (⟨[⟨4, 4, [⟨0, 0, 32, 32, 3, true, (0, 0), (0, 0), 51⟩]⟩], [], [], []⟩ : CodedRow);
let l : Nat := 0;
let dt : Nat := 9;
let f : Nat := 7;
let row : Nat := 0;
let rest := ([] : List (Nat × Nat × Bool));
let s0 : State := let t : State := (tDev 1).ws [(Reg.MGR_PAIR_STATUS_STATE, 0, 3), (Reg.MGR_LIVE_W0_W_M1, 0, 31), (Reg.MGR_LIVE_W0_H_M1, 0, 31), (Reg.MGR_LIVE_W0_EN, 0, 1)]; { t with mgr := { t.mgr with flows := [Flow.reset] }, enc := { t.enc with regs := rsets t.enc.regs [(Reg.ENCODE_LAYER_W0_EN, 0, 1), (Reg.ENCODE_LAYER_W0_FLOW, 0, 0), (Reg.ENCODE_LAYER_W0_TCOLS_M1, 0, 0), (Reg.ENCODE_LAYER_W0_TROWS_M1, 0, 0), (Reg.ENCODE_TCOL_CTUS, 0, 1), (Reg.ENCODE_TROW_CTUS, 0, 1), (Reg.ENCODE_LAYER_W1_RATE_KBPS, 0, 100000)], layers := [{ EncLayer.reset with work := [(7, 0, true)] }, EncLayer.reset] } };
     let begun (s : State) (l row dt : Nat) (rep : Bool) : State := if row = 0 then (s.pass dt).beginPicture l rep else s.pass dt;
   let ready (s : State) (l f row : Nat) (rep : Bool) (rest : List (Nat × Nat × Bool)) : Prop :=
    (s.layer l).work = (f, row, rep) :: rest ∧ s.peelHeld = true ∧ rget s.enc.regs Reg.ENCODE_LAYER_W0_EN l ≠ 0;
   let held (s : State) (l f row : Nat) : Option (Nat × Nat × Nat) :=
    (s.mgr.flows.getD (rget s.enc.regs Reg.ENCODE_LAYER_W0_FLOW l) Flow.reset).rows.find? (fun (p : Nat × Nat × Nat) => p.1 = f && p.2.1 = row);
   let coded (s : State) (l f row dt : Nat) (rep : Bool) (rest : List (Nat × Nat × Bool)) (c : CodedRow) : State :=
    let t := (begun s l row dt rep).codeRow l f row rep c
    t.setLayer l { t.layer l with
      work := if row + 1 < (tileRows s.enc.regs l).foldl (· + ·) 0 then (f, row + 1, rep) :: rest else rest };
((fun s => ready s l f row true rest ∧ held s l f row = none ∧ (begun s l row dt true).rowOk l f row true c = true) : State → Prop) s0)
    ∧ (let c : CodedRow := (⟨[⟨4, 4, [⟨0, 0, 32, 32, 3, true, (0, 0), (0, 0), 51⟩]⟩], [], [], []⟩ : CodedRow);
let a := ((7, 0, 1000000) : Nat × Nat × Nat);
let l : Nat := 0;
let dt : Nat := 9;
let f : Nat := 7;
let row : Nat := 0;
let rest := ([] : List (Nat × Nat × Bool));
let s0 : State := let t : State := (tDev 1).ws [(Reg.MGR_PAIR_STATUS_STATE, 0, 3), (Reg.MGR_LIVE_W0_W_M1, 0, 31), (Reg.MGR_LIVE_W0_H_M1, 0, 31), (Reg.MGR_LIVE_W0_EN, 0, 1)]; { t with mgr := { t.mgr with flows := [{ Flow.reset with rows := [(7, 0, 1000000)], pics := [(7, [])] }] }, enc := { t.enc with regs := rsets t.enc.regs [(Reg.ENCODE_LAYER_W0_EN, 0, 1), (Reg.ENCODE_LAYER_W0_FLOW, 0, 0), (Reg.ENCODE_LAYER_W0_TCOLS_M1, 0, 0), (Reg.ENCODE_LAYER_W0_TROWS_M1, 0, 0), (Reg.ENCODE_TCOL_CTUS, 0, 1), (Reg.ENCODE_TROW_CTUS, 0, 1), (Reg.ENCODE_LAYER_W1_RATE_KBPS, 0, 100000)], layers := [{ EncLayer.reset with work := [(7, 0, false)] }, EncLayer.reset] } };
     let begun (s : State) (l row dt : Nat) (rep : Bool) : State := if row = 0 then (s.pass dt).beginPicture l rep else s.pass dt;
   let ready (s : State) (l f row : Nat) (rep : Bool) (rest : List (Nat × Nat × Bool)) : Prop :=
    (s.layer l).work = (f, row, rep) :: rest ∧ s.peelHeld = true ∧ rget s.enc.regs Reg.ENCODE_LAYER_W0_EN l ≠ 0;
   let held (s : State) (l f row : Nat) : Option (Nat × Nat × Nat) :=
    (s.mgr.flows.getD (rget s.enc.regs Reg.ENCODE_LAYER_W0_FLOW l) Flow.reset).rows.find? (fun (p : Nat × Nat × Nat) => p.1 = f && p.2.1 = row);
   let coded (s : State) (l f row dt : Nat) (rep : Bool) (rest : List (Nat × Nat × Bool)) (c : CodedRow) : State :=
    let t := (begun s l row dt rep).codeRow l f row rep c
    t.setLayer l { t.layer l with
      work := if row + 1 < (tileRows s.enc.regs l).foldl (· + ·) 0 then (f, row + 1, rep) :: rest else rest };
((fun s => ready s l f row false rest ∧ held s l f row = some a ∧ s.now + dt ≤ a.2.2 + 70000
      ∧ (begun s l row dt false).rowOk l f row false c = true) : State → Prop) s0)
    ∧ (let c : CodedRow := (⟨[⟨4, 4, [⟨0, 0, 32, 32, 3, true, (0, 0), (0, 0), 51⟩]⟩], [], [], []⟩ : CodedRow);
let a := ((7, 0, 0) : Nat × Nat × Nat);
let l : Nat := 0;
let dt : Nat := 90000;
let f : Nat := 7;
let row : Nat := 0;
let rest := ([] : List (Nat × Nat × Bool));
let s0 : State := let t : State := (tDev 1).ws [(Reg.MGR_PAIR_STATUS_STATE, 0, 3), (Reg.MGR_LIVE_W0_W_M1, 0, 31), (Reg.MGR_LIVE_W0_H_M1, 0, 31), (Reg.MGR_LIVE_W0_EN, 0, 1)]; { t with mgr := { t.mgr with flows := [{ Flow.reset with rows := [(7, 0, 0)], pics := [(7, [])] }] }, enc := { t.enc with regs := rsets t.enc.regs [(Reg.ENCODE_LAYER_W0_EN, 0, 1), (Reg.ENCODE_LAYER_W0_FLOW, 0, 0), (Reg.ENCODE_LAYER_W0_TCOLS_M1, 0, 0), (Reg.ENCODE_LAYER_W0_TROWS_M1, 0, 0), (Reg.ENCODE_TCOL_CTUS, 0, 1), (Reg.ENCODE_TROW_CTUS, 0, 1), (Reg.ENCODE_LAYER_W1_RATE_KBPS, 0, 100000)], layers := [{ EncLayer.reset with work := [(7, 0, false)] }, EncLayer.reset] } };
     let begun (s : State) (l row dt : Nat) (rep : Bool) : State := if row = 0 then (s.pass dt).beginPicture l rep else s.pass dt;
   let ready (s : State) (l f row : Nat) (rep : Bool) (rest : List (Nat × Nat × Bool)) : Prop :=
    (s.layer l).work = (f, row, rep) :: rest ∧ s.peelHeld = true ∧ rget s.enc.regs Reg.ENCODE_LAYER_W0_EN l ≠ 0;
   let held (s : State) (l f row : Nat) : Option (Nat × Nat × Nat) :=
    (s.mgr.flows.getD (rget s.enc.regs Reg.ENCODE_LAYER_W0_FLOW l) Flow.reset).rows.find? (fun (p : Nat × Nat × Nat) => p.1 = f && p.2.1 = row);
   let coded (s : State) (l f row dt : Nat) (rep : Bool) (rest : List (Nat × Nat × Bool)) (c : CodedRow) : State :=
    let t := (begun s l row dt rep).codeRow l f row rep c
    t.setLayer l { t.layer l with
      work := if row + 1 < (tileRows s.enc.regs l).foldl (· + ·) 0 then (f, row + 1, rep) :: rest else rest };
((fun s => ready s l f row false rest ∧ held s l f row = some a ∧ a.2.2 + 70000 < s.now + dt
      ∧ (coded s l f row dt false rest c).enc.backlog = false ∧ (begun s l row dt false).rowOk l f row false c = true) : State → Prop) s0)
    ∧ (let c : CodedRow := (⟨[⟨4, 4, [⟨0, 0, 32, 32, 3, true, (0, 0), (0, 0), 51⟩]⟩], [], [], []⟩ : CodedRow);
let l : Nat := 0;
let dt : Nat := 9;
let f : Nat := 7;
let row : Nat := 0;
let rest := ([] : List (Nat × Nat × Bool));
let s0 : State := let t : State := (tDev 1).ws [(Reg.MGR_PAIR_STATUS_STATE, 0, 3), (Reg.MGR_LIVE_W0_W_M1, 0, 31), (Reg.MGR_LIVE_W0_H_M1, 0, 31), (Reg.MGR_LIVE_W0_EN, 0, 1)]; { t with mgr := { t.mgr with flows := [Flow.reset] }, enc := { t.enc with regs := rsets t.enc.regs [(Reg.ENCODE_LAYER_W0_EN, 0, 1), (Reg.ENCODE_LAYER_W0_FLOW, 0, 0), (Reg.ENCODE_LAYER_W0_TCOLS_M1, 0, 0), (Reg.ENCODE_LAYER_W0_TROWS_M1, 0, 0), (Reg.ENCODE_TCOL_CTUS, 0, 1), (Reg.ENCODE_TROW_CTUS, 0, 1), (Reg.ENCODE_LAYER_W1_RATE_KBPS, 0, 100000)], layers := [{ EncLayer.reset with work := [(7, 0, false)] }, EncLayer.reset] } };
     let begun (s : State) (l row dt : Nat) (rep : Bool) : State := if row = 0 then (s.pass dt).beginPicture l rep else s.pass dt;
   let ready (s : State) (l f row : Nat) (rep : Bool) (rest : List (Nat × Nat × Bool)) : Prop :=
    (s.layer l).work = (f, row, rep) :: rest ∧ s.peelHeld = true ∧ rget s.enc.regs Reg.ENCODE_LAYER_W0_EN l ≠ 0;
   let held (s : State) (l f row : Nat) : Option (Nat × Nat × Nat) :=
    (s.mgr.flows.getD (rget s.enc.regs Reg.ENCODE_LAYER_W0_FLOW l) Flow.reset).rows.find? (fun (p : Nat × Nat × Nat) => p.1 = f && p.2.1 = row);
   let coded (s : State) (l f row dt : Nat) (rep : Bool) (rest : List (Nat × Nat × Bool)) (c : CodedRow) : State :=
    let t := (begun s l row dt rep).codeRow l f row rep c
    t.setLayer l { t.layer l with
      work := if row + 1 < (tileRows s.enc.regs l).foldl (· + ·) 0 then (f, row + 1, rep) :: rest else rest };
((fun s => ready s l f row false rest ∧ held s l f row = none) : State → Prop) s0)
    ∧ (let c : CodedRow := (⟨[⟨4, 4, [⟨0, 0, 32, 32, 1, true, (0, 0), (0, 0), 51⟩]⟩], [], [], []⟩ : CodedRow);
let l : Nat := 0;
let dt : Nat := 9;
let f : Nat := 7;
let row : Nat := 0;
let rest := ([] : List (Nat × Nat × Bool));
let rep : Bool := true;
let s0 : State := let t : State := (tDev 1).ws [(Reg.MGR_PAIR_STATUS_STATE, 0, 3), (Reg.MGR_LIVE_W0_W_M1, 0, 31), (Reg.MGR_LIVE_W0_H_M1, 0, 31), (Reg.MGR_LIVE_W0_EN, 0, 1)]; { t with mgr := { t.mgr with flows := [Flow.reset] }, enc := { t.enc with regs := rsets t.enc.regs [(Reg.ENCODE_LAYER_W0_EN, 0, 1), (Reg.ENCODE_LAYER_W0_FLOW, 0, 0), (Reg.ENCODE_LAYER_W0_TCOLS_M1, 0, 0), (Reg.ENCODE_LAYER_W0_TROWS_M1, 0, 0), (Reg.ENCODE_TCOL_CTUS, 0, 1), (Reg.ENCODE_TROW_CTUS, 0, 1), (Reg.ENCODE_LAYER_W1_RATE_KBPS, 0, 100000)], layers := [{ EncLayer.reset with work := [(7, 0, true)] }, EncLayer.reset] } };
     let begun (s : State) (l row dt : Nat) (rep : Bool) : State := if row = 0 then (s.pass dt).beginPicture l rep else s.pass dt;
   let ready (s : State) (l f row : Nat) (rep : Bool) (rest : List (Nat × Nat × Bool)) : Prop :=
    (s.layer l).work = (f, row, rep) :: rest ∧ s.peelHeld = true ∧ rget s.enc.regs Reg.ENCODE_LAYER_W0_EN l ≠ 0;
   let held (s : State) (l f row : Nat) : Option (Nat × Nat × Nat) :=
    (s.mgr.flows.getD (rget s.enc.regs Reg.ENCODE_LAYER_W0_FLOW l) Flow.reset).rows.find? (fun (p : Nat × Nat × Nat) => p.1 = f && p.2.1 = row);
   let coded (s : State) (l f row dt : Nat) (rep : Bool) (rest : List (Nat × Nat × Bool)) (c : CodedRow) : State :=
    let t := (begun s l row dt rep).codeRow l f row rep c
    t.setLayer l { t.layer l with
      work := if row + 1 < (tileRows s.enc.regs l).foldl (· + ·) 0 then (f, row + 1, rep) :: rest else rest };
((fun s => ready s l f row rep rest ∧ (begun s l row dt rep).rowOk l f row rep c = false) : State → Prop) s0)
    ∧ (let k := (5 : Nat);
let s0 : State := let t : State := (tDev 1).ws [(Reg.MGR_PAIR_STATUS_STATE, 0, 3), (Reg.MGR_LIVE_W0_W_M1, 0, 31), (Reg.MGR_LIVE_W0_H_M1, 0, 31), (Reg.MGR_LIVE_W0_EN, 0, 1)]; { t with mgr := { t.mgr with flows := [Flow.reset] }, enc := { t.enc with regs := rsets t.enc.regs [(Reg.ENCODE_LAYER_W0_EN, 0, 1), (Reg.ENCODE_LAYER_W0_FLOW, 0, 0), (Reg.ENCODE_LAYER_W0_TCOLS_M1, 0, 0), (Reg.ENCODE_LAYER_W0_TROWS_M1, 0, 0), (Reg.ENCODE_TCOL_CTUS, 0, 1), (Reg.ENCODE_TROW_CTUS, 0, 1), (Reg.ENCODE_LAYER_W1_RATE_KBPS, 0, 100000)], layers := [{ EncLayer.reset with bound := some 5 }, EncLayer.reset], winEnd := some 5 } };
     let due (s : State) (k : Nat) : Prop := s.enc.winEnd = some k ∧ s.tb3 ≤ s.ingestOpen (k + 2)
      ∧ rget s.enc.regs Reg.ENCODE_LAYER_W0_EN 0 ≠ 0 ∧ rget s.enc.regs Reg.ENCODE_LAYER_W0_EN 1 = 0 ∧ s.peelHeld = true
      ∧ (s.layer 0).bound = some k;
     let at_ (s : State) (k : Nat) : State := (s.goto (s.ingestOpen (k + 2))).setEnc { s.enc with winEnd := some (k + 1) };
((fun s => due s k ∧ (tileRows s.enc.regs 0).foldl (· + ·) 0 ≠ 0) : State → Prop) s0)
    ∧ (let k := (5 : Nat);
let rows := [(⟨[⟨4, 4, [⟨0, 0, 32, 32, 3, true, (0, 0), (0, 0), 51⟩]⟩], [], [], []⟩ : CodedRow)];
let u : State → State := fun s => ((((s.goto (s.ingestOpen (k + 2))).setEnc { s.enc with winEnd := some (k + 1) }).setLayer 0 { s.layer 0 with bound := some (k + 1) }).repeatRows 0 (k + 1) 0 rows).getD s;
let s0 : State := let t : State := (tDev 1).ws [(Reg.MGR_PAIR_STATUS_STATE, 0, 3), (Reg.MGR_LIVE_W0_W_M1, 0, 31), (Reg.MGR_LIVE_W0_H_M1, 0, 31), (Reg.MGR_LIVE_W0_EN, 0, 1)]; { t with mgr := { t.mgr with flows := [Flow.reset] }, enc := { t.enc with regs := rsets t.enc.regs [(Reg.ENCODE_LAYER_W0_EN, 0, 1), (Reg.ENCODE_LAYER_W0_FLOW, 0, 0), (Reg.ENCODE_LAYER_W0_TCOLS_M1, 0, 0), (Reg.ENCODE_LAYER_W0_TROWS_M1, 0, 0), (Reg.ENCODE_TCOL_CTUS, 0, 1), (Reg.ENCODE_TROW_CTUS, 0, 1), (Reg.ENCODE_LAYER_W1_RATE_KBPS, 0, 100000)], layers := [{ EncLayer.reset with bound := some 5 }, EncLayer.reset], winEnd := some 5 } };
     let due (s : State) (k : Nat) : Prop := s.enc.winEnd = some k ∧ s.tb3 ≤ s.ingestOpen (k + 2)
      ∧ rget s.enc.regs Reg.ENCODE_LAYER_W0_EN 0 ≠ 0 ∧ rget s.enc.regs Reg.ENCODE_LAYER_W0_EN 1 = 0 ∧ s.peelHeld = true
      ∧ (s.layer 0).bound = some k;
     let at_ (s : State) (k : Nat) : State := (s.goto (s.ingestOpen (k + 2))).setEnc { s.enc with winEnd := some (k + 1) };
((fun s => due s k ∧ (s.layer 0).work = []
        ∧ ((at_ s k).setLayer 0 { s.layer 0 with bound := some (k + 1) }).repeatRows 0 (k + 1) 0 rows = some (u s)
        ∧ rget (u s).enc.regs Reg.ENCODE_LAYER_W0_EN 1 = 0) : State → Prop) s0)
    ∧ (let j := 3; let n := 1; let x : Extr := ({ Extr.reset with served := some 1, owed := true } : Extr); let st : State := let t : State := (tDev 1).ws [(Reg.MGR_PAIR_STATUS_STATE, 0, 3)]; { t with time := { t.time with ticked := true, last := 5000 }, enc := { t.enc with extr := [(3, ({ Extr.reset with served := some 1, owed := true } : Extr))] } }; ((fun s => s.enc.extr = [(j, x)] ∧ x.served = some n ∧ x.owed = true ∧ n + s.r Reg.ENCODE_CTRL_INTRA_HOLDOFF ≤ s.time.last
      ∧ s.peelHeld = true) : State → Prop) st)
    ∧ (let f : Nat := (60 : Nat);
let bytes : List Byte := [1];
let c : CodedSpy := (⟨[⟨4, 4, [⟨0, 0, 8, 8, 0, true, (0, 0), (0, 0), 51⟩]⟩], none, 20, 1, (tDev 0).rb Reg.ENCODE_CTRL_HASH, [], []⟩ : CodedSpy);
let s0 : State := (tDev 0).ws [(Reg.ENCODE_SPY_CTRL_SPY_EN, 0, 1)];
     let due (s : State) (f : Nat) : Prop := s.isWorker = true ∧ s.rb Reg.ENCODE_SPY_CTRL_SPY_EN = true
      ∧ f % (s.r Reg.ENCODE_SPY_CTRL_SPY_DIV_M1 + 1) = 0 ∧ s.enc.spyFrame ≠ some f;
     let budget (s : State) : Nat :=
      tileBudget (s.r Reg.ENCODE_SPY_CTRL_SPY_KBPS) s.num (s.den * (s.r Reg.ENCODE_SPY_CTRL_SPY_DIV_M1 + 1)) 1 1;
     let ran (s : State) (g : Grid) (pic : List (List Nat)) (idr skip : Bool) (c : CodedSpy) : TileRc × Bool × Bool :=
      let w := (spyCoded g).1
      let h := (spyCoded g).2
      let tile : Rect4 := ⟨0, 0, w, h⟩
      spyRows (fun past => ⟨idr, past, skip, 0⟩)
        (fun m r x => tileRowOk m w h true tile (tile.ctuRow r) (fun x y => nth (pic.getD 0 []) (y * w + x)) (lumaOf s.enc.spyRef)
          s.enc.spyPus x) (cdiv h 32) 0 c.rows
        ({ s.enc.spyRc with intra := idr }.begin_ (budget s) (s.r Reg.ENCODE_CTRL_INTRA_BOOST), false, true);
     let good (s : State) (g : Grid) (idr : Bool) (r : TileRc × Bool × Bool) (c : CodedSpy) : Prop :=
      r.2.2 = true ∧ c.rows.length = cdiv (spyCoded g).2 32 ∧ c.segs = 1 ∧ c.nal = (if idr then 20 else 1)
      ∧ c.head = (if idr then some ((s.pass 0).spyHead g) else none) ∧ c.hash = s.rb Reg.ENCODE_CTRL_HASH ∧ c.fails = [];
((fun s => due s f ∧ (s.pass 0).classIn 7 = false) : State → Prop) s0)
    ∧ (let f : Nat := (60 : Nat);
let bytes : List Byte := [1];
let c : CodedSpy := (⟨[⟨4, 4, [⟨0, 0, 8, 8, 0, true, (0, 0), (0, 0), 51⟩]⟩], some ((((tDev 0).ws [(Reg.ENCODE_SPY_CTRL_SPY_EN, 0, 1)]).pass 0).spyHead (gridOf ((tDev 0).ws [(Reg.ENCODE_SPY_CTRL_SPY_EN, 0, 1)]).regs)), 20, 1, (tDev 0).rb Reg.ENCODE_CTRL_HASH, [], []⟩ : CodedSpy);
let x := (FireFrame.fresh 60 ((tDev 0).ws [(Reg.ENCODE_SPY_CTRL_SPY_EN, 0, 1)]).regs []);
let s0 : State := let t : State := (tDev 0).ws [(Reg.ENCODE_SPY_CTRL_SPY_EN, 0, 1)]; { t with hearth := { t.hearth with plan := { t.hearth.plan with items := [⟨1, 7, 5⟩] } }, fire := { t.fire with frames := [FireFrame.fresh 60 t.regs []] }, enc := { t.enc with spyIdr := true } };
     let due (s : State) (f : Nat) : Prop := s.isWorker = true ∧ s.rb Reg.ENCODE_SPY_CTRL_SPY_EN = true
      ∧ f % (s.r Reg.ENCODE_SPY_CTRL_SPY_DIV_M1 + 1) = 0 ∧ s.enc.spyFrame ≠ some f;
     let budget (s : State) : Nat :=
      tileBudget (s.r Reg.ENCODE_SPY_CTRL_SPY_KBPS) s.num (s.den * (s.r Reg.ENCODE_SPY_CTRL_SPY_DIV_M1 + 1)) 1 1;
     let ran (s : State) (g : Grid) (pic : List (List Nat)) (idr skip : Bool) (c : CodedSpy) : TileRc × Bool × Bool :=
      let w := (spyCoded g).1
      let h := (spyCoded g).2
      let tile : Rect4 := ⟨0, 0, w, h⟩
      spyRows (fun past => ⟨idr, past, skip, 0⟩)
        (fun m r x => tileRowOk m w h true tile (tile.ctuRow r) (fun x y => nth (pic.getD 0 []) (y * w + x)) (lumaOf s.enc.spyRef)
          s.enc.spyPus x) (cdiv h 32) 0 c.rows
        ({ s.enc.spyRc with intra := idr }.begin_ (budget s) (s.r Reg.ENCODE_CTRL_INTRA_BOOST), false, true);
     let good (s : State) (g : Grid) (idr : Bool) (r : TileRc × Bool × Bool) (c : CodedSpy) : Prop :=
      r.2.2 = true ∧ c.rows.length = cdiv (spyCoded g).2 32 ∧ c.segs = 1 ∧ c.nal = (if idr then 20 else 1)
      ∧ c.head = (if idr then some ((s.pass 0).spyHead g) else none) ∧ c.hash = s.rb Reg.ENCODE_CTRL_HASH ∧ c.fails = [];
((fun s => due s f ∧ (s.pass 0).classIn 7 = true ∧ (s.pass 0).spyFrame f = some x ∧ s.enc.spyIdr = true
        ∧ good s (gridOf x.copy) true (ran s (gridOf x.copy) (spyPicture (gridOf x.copy) x.rays) true false c) c) : State → Prop) s0)
    ∧ (let f : Nat := (60 : Nat);
let bytes : List Byte := [1];
let c : CodedSpy := (⟨[⟨4, 4, [⟨0, 0, 8, 8, 3, true, (0, 0), (0, 0), 51⟩]⟩], none, 1, 1, (tDev 0).rb Reg.ENCODE_CTRL_HASH, [], []⟩ : CodedSpy);
let s0 : State := let t : State := (tDev 0).ws [(Reg.ENCODE_SPY_CTRL_SPY_EN, 0, 1)]; { t with hearth := { t.hearth with plan := { t.hearth.plan with items := [⟨1, 7, 5⟩] } }, enc := { t.enc with spyIdr := false } };
     let due (s : State) (f : Nat) : Prop := s.isWorker = true ∧ s.rb Reg.ENCODE_SPY_CTRL_SPY_EN = true
      ∧ f % (s.r Reg.ENCODE_SPY_CTRL_SPY_DIV_M1 + 1) = 0 ∧ s.enc.spyFrame ≠ some f;
     let budget (s : State) : Nat :=
      tileBudget (s.r Reg.ENCODE_SPY_CTRL_SPY_KBPS) s.num (s.den * (s.r Reg.ENCODE_SPY_CTRL_SPY_DIV_M1 + 1)) 1 1;
     let ran (s : State) (g : Grid) (pic : List (List Nat)) (idr skip : Bool) (c : CodedSpy) : TileRc × Bool × Bool :=
      let w := (spyCoded g).1
      let h := (spyCoded g).2
      let tile : Rect4 := ⟨0, 0, w, h⟩
      spyRows (fun past => ⟨idr, past, skip, 0⟩)
        (fun m r x => tileRowOk m w h true tile (tile.ctuRow r) (fun x y => nth (pic.getD 0 []) (y * w + x)) (lumaOf s.enc.spyRef)
          s.enc.spyPus x) (cdiv h 32) 0 c.rows
        ({ s.enc.spyRc with intra := idr }.begin_ (budget s) (s.r Reg.ENCODE_CTRL_INTRA_BOOST), false, true);
     let good (s : State) (g : Grid) (idr : Bool) (r : TileRc × Bool × Bool) (c : CodedSpy) : Prop :=
      r.2.2 = true ∧ c.rows.length = cdiv (spyCoded g).2 32 ∧ c.segs = 1 ∧ c.nal = (if idr then 20 else 1)
      ∧ c.head = (if idr then some ((s.pass 0).spyHead g) else none) ∧ c.hash = s.rb Reg.ENCODE_CTRL_HASH ∧ c.fails = [];
((fun s => due s f ∧ (s.pass 0).classIn 7 = true ∧ (s.pass 0).spyFrame f = none ∧ s.enc.spyIdr = false
        ∧ s.enc.spyCount < s.r Reg.ENCODE_SPY_CTRL_SPY_IDR
        ∧ good s (gridOf s.inForce) false (ran s (gridOf s.inForce) s.enc.spyPic false true c) c) : State → Prop) s0)
    ∧ (let q := (⟨true, 0, 0, 9, 5, 100⟩ : SpySub); let st : State := let t : State := tDev 0; { t with enc := { t.enc with subs := [(⟨true, 0, 0, 9, 5, 100⟩ : SpySub)] } }; ((fun s => s.enc.subs = [q]) : State → Prop) st) := by
  and_intros <;> decide +kernel

/-- Each clause of `Obligations.EngineRowsTakeEffect` has its premises met. -/
theorem witness_EngineRowsTakeEffect :
    (let j := (⟨([0, 0, 0, 0, 0, 15, 0, 0, 0, 5, 0, 0xFFFFFFFFF, 0] : List Word), ⟨⟨.spi, 0, 0, 0, []⟩, 5, 6⟩, false, false, [], []⟩ : StampJob); let t := ([] : List StampJob); let ids := ([] : List Nat); let st : State := let t : State := tHas (tFill 2 1); { t with eng := { t.eng with stamp := [(⟨([0, 0, 0, 0, 0, 15, 0, 0, 0, 5, 0, 0xFFFFFFFFF, 0] : List Word), ⟨⟨.spi, 0, 0, 0, []⟩, 5, 6⟩, false, false, [], []⟩ : StampJob)] } }; ((fun s => s.eng.stamp = j :: t ∧ j.started = false ∧ j.waits = false
      ∧ (s.pass 0).gateRuns (j.dst.runs s.regs j.w j.h) j.wait j.force = .go ids) : State → Prop) st)
    ∧ (let j := (⟨([0, 0, 0, 0, 0, word (7 * 200000), 0, 0, 0, 5, 0, 0xFFFFFFFFF, 0] : List Word), ⟨⟨.spi, 0, 0, 0, []⟩, 5, 6⟩, false, false, [], []⟩ : StampJob); let t := ([] : List StampJob); let st : State := let t : State := tHas (tFill 2 1); { t with eng := { t.eng with stamp := [(⟨([0, 0, 0, 0, 0, word (7 * 200000), 0, 0, 0, 5, 0, 0xFFFFFFFFF, 0] : List Word), ⟨⟨.spi, 0, 0, 0, []⟩, 5, 6⟩, false, false, [], []⟩ : StampJob)] } }; ((fun s => s.eng.stamp = j :: t ∧ j.started = false ∧ j.waits = false
      ∧ (s.pass 0).gateRuns (j.dst.runs s.regs j.w j.h) j.wait j.force = .denied) : State → Prop) st)
    ∧ (let s : State := tDev 0; let j := (⟨([0, 0, 0, 0, 0, 15, 0, 0, 0, 5, 0, 0xFFFFFFFFF, 0] : List Word), ⟨⟨.spi, 0, 0, 0, []⟩, 5, 6⟩, true, false, [], []⟩ : StampJob); let t := ([] : List StampJob); let r := (((tHas (tFill 2 1)).pass 0).stampRows (⟨([0, 0, 0, 0, 0, 15, 0, 0, 0, 5, 0, 0xFFFFFFFFF, 0] : List Word), ⟨⟨.spi, 0, 0, 0, []⟩, 5, 6⟩, true, false, [], []⟩ : StampJob) (List.range 1) ⟨(tHas (tFill 2 1)).dram, [], false, none, 0⟩ 0).1; let n := (((tHas (tFill 2 1)).pass 0).stampRows (⟨([0, 0, 0, 0, 0, 15, 0, 0, 0, 5, 0, 0xFFFFFFFFF, 0] : List Word), ⟨⟨.spi, 0, 0, 0, []⟩, 5, 6⟩, true, false, [], []⟩ : StampJob) (List.range 1) ⟨(tHas (tFill 2 1)).dram, [], false, none, 0⟩ 0).2; let s : State := let t : State := tHas (tFill 2 1); { t with eng := { t.eng with stamp := [(⟨([0, 0, 0, 0, 0, 15, 0, 0, 0, 5, 0, 0xFFFFFFFFF, 0] : List Word), ⟨⟨.spi, 0, 0, 0, []⟩, 5, 6⟩, true, false, [], []⟩ : StampJob)] } }; let j : StampJob := (⟨([0, 0, 0, 0, 0, 15, 0, 0, 0, 5, 0, 0xFFFFFFFFF, 0] : List Word), ⟨⟨.spi, 0, 0, 0, []⟩, 5, 6⟩, true, false, [], []⟩ : StampJob); let t : List StampJob := []; let z := (s.pass 0).stampRows j (List.range j.h) ⟨s.dram, [], false, none, 0⟩ 0; s.eng.stamp = j :: t ∧ j.started = true ∧ s.hearth.plan.deferred.contains 8 = false ∧ j.dst.format s.regs true ≠ 4 ∧ bit j.ctrl 27 = false ∧ z.1.err = none ∧ z.1.hazard = false)
    ∧ (let j := ({ num := 1, w0 := 0, checkIn := 0, isizeIn := 0, inputs := [], data := [1, 1, 0, 0xFE, 0xFF, 7], more := false, bufs := [], fill := 0, used := 0, outDone := 0, passed := false, ids := [], req := ⟨⟨.spi, 0, 0, 0, []⟩, 5, 6⟩ } : DefJob); let t := ([] : List DefJob); let st : State := let t : State := (tDev 0).ws [(Reg.DEFLATE_STATUS_STATE, 0, 1)]; { t with eng := { t.eng with deflate := [({ num := 1, w0 := 0, checkIn := 0, isizeIn := 0, inputs := [], data := [1, 1, 0, 0xFE, 0xFF, 7], more := false, bufs := [], fill := 0, used := 0, outDone := 0, passed := false, ids := [], req := ⟨⟨.spi, 0, 0, 0, []⟩, 5, 6⟩ } : DefJob)] } }; ((fun s => s.eng.deflate = j :: t ∧ s.r Reg.DEFLATE_STATUS_STATE = 1 ∧ j.inputs = [] ∧ j.bufs = [] ∧ j.fill = 0
      ∧ (j.stream false j.outDone).stop = 0x100) : State → Prop) st)
    ∧ (let j := ({ num := 1, w0 := 0, checkIn := 0, isizeIn := 0, inputs := [], data := [1, 1, 0, 0xFE, 0xFF, 7], more := false, bufs := [], fill := 0, used := 0, outDone := 100, passed := false, ids := [], req := ⟨⟨.spi, 0, 0, 0, []⟩, 5, 6⟩ } : DefJob); let t := ([] : List DefJob); let st : State := let t : State := (tDev 0).ws [(Reg.DEFLATE_STATUS_STATE, 0, 1)]; { t with eng := { t.eng with deflate := [({ num := 1, w0 := 0, checkIn := 0, isizeIn := 0, inputs := [], data := [1, 1, 0, 0xFE, 0xFF, 7], more := false, bufs := [], fill := 0, used := 0, outDone := 100, passed := false, ids := [], req := ⟨⟨.spi, 0, 0, 0, []⟩, 5, 6⟩ } : DefJob)] } }; ((fun s => s.eng.deflate = j :: t ∧ s.r Reg.DEFLATE_STATUS_STATE = 1 ∧ j.inputs = [] ∧ j.bufs = [] ∧ j.fill = 0
      ∧ (j.stream false j.outDone).stop = 0) : State → Prop) st)
    ∧ (let static := false; let area := 1; let n := 3; let ws : List Word := [1, 2]; let req := (none : Option Req); let st : State := let t : State := tDev 0; { t with cal := { t.cal with save := some (false, 1, 3, [1, 2], none) } }; ((fun s => s.cal.save = some (static, area, n, ws, req)) : State → Prop) st)
    ∧ (let o := 4; let static := false; let area := 1; let n := 3; let ws : List Word := [1, 2]; let req := (none : Option Req); let st : State := let t : State := tDev 0; { t with cal := { t.cal with save := some (false, 1, 3, [1, 2], none) } }; ((fun s => s.cal.save = some (static, area, n, ws, req)) : State → Prop) st)
    ∧ (let st : State := tDev 0; ((fun s => s.stage = 2 ∧ s.isWorker = true) : State → Prop) st)
    ∧ (let st : State := (tDev 0).ws [(Reg.CAL_TTH_TTH_EN, 0, 1)]; ((fun s => s.stage = 2 ∧ s.isWorker = true ∧ s.r Reg.CAL_CTRL_CAL_PERIOD ≠ 0 ∧ s.cal.run = none) : State → Prop) st)
    ∧ (let st : State := let t : State := (tDev 0).ws [(Reg.MGMT_BAKE_PEND_0116_CLOSED, 0, 1)]; { t with time := { t.time with ticked := true, last := 5 }, bake := { t.bake with writes := [(0xB0000, rwWord (tDev 0).regs 0xB0000)] } }; ((fun s => s.time.ticked = true ∧ s.rb Reg.MGMT_BAKE_PEND_0116_CLOSED = true ∧ s.bakeK ≤ s.time.last
      ∧ (s.pass 0).bakeBad (bakeFile s.planned s.bake.writes) 0 s.bake.writes = none) : State → Prop) st)
    ∧ (let k := 0; let st : State := let t : State := (tDev 0).ws [(Reg.MGMT_BAKE_PEND_0116_CLOSED, 0, 1)]; { t with time := { t.time with ticked := true, last := 5 }, bake := { t.bake with writes := [(0xB0000, 0)] } }; ((fun s => s.time.ticked = true ∧ s.rb Reg.MGMT_BAKE_PEND_0116_CLOSED = true ∧ s.bakeK ≤ s.time.last
      ∧ (s.pass 0).bakeBad (bakeFile s.planned s.bake.writes) 0 s.bake.writes = some k) : State → Prop) st)
    ∧ (let e := (⟨5, false, 1, 2, 3, 4⟩ : LogEntry); let st : State := let t : State := tDev 0; { t with evt := { t.evt with logQ := [(⟨5, false, 1, 2, 3, 4⟩ : LogEntry)] } }; ((fun s => s.evt.logQ = [e]) : State → Prop) st)
    ∧ (let st : State := let t : State := tDev 0; { t with evt := { t.evt with logQ := [(⟨5, false, 1, 2, 3, 4⟩ : LogEntry)] } }; ((fun s => s.evt.logQ ≠ []) : State → Prop) st) := by
  and_intros <;> decide +kernel

end Sys2Proof.Machine
end

section
/-! The fields of a word (R4), the bits of a word put together from fields, and reserved bits (R7). -/

namespace Sys2Proof.Machine

/-! ### The fields of a word -/

/-- The element of a field that lies at an address has that address, and is one of its array (R4). -/
theorem Fld.elem?_some {f : Fld} {a i : Nat} (h : f.elem? a = some i) : f.at i = a ∧ (f.stride = 0 ∨ i < f.count) := by
  simp only [Fld.elem?, Option.ite_none_left_eq_some] at h
  obtain ⟨hlow, h⟩ := h
  split at h
  next hstride =>
    obtain ⟨hd, hi⟩ := Option.ite_none_right_eq_some.1 h
    cases hi
    refine ⟨?_, .inl hstride⟩
    rw [Fld.at]
    omega
  next =>
    obtain ⟨⟨hmod, hcount⟩, hi⟩ := Option.ite_none_right_eq_some.1 h
    cases hi
    refine ⟨?_, .inr hcount⟩
    rw [Fld.at, Nat.div_mul_cancel (Nat.dvd_of_mod_eq_zero hmod)]
    omega

/-- A field lies in a word exactly if it is in the word's block, has an element there, and is not reserved in that element (R4, R7). -/
theorem mem_fieldsAt {a : Nat} {p : Fld × Nat} :
    p ∈ fieldsAt a ↔ p.1 ∈ blockFields (a / 65536) ∧ p.1.elem? a = some p.2 ∧ reservedHere p.1 p.2 = false := by
  obtain ⟨f, i⟩ := p
  simp only [fieldsAt, List.mem_filterMap]
  constructor
  · rintro ⟨g, hg, h⟩
    split at h
    next k hk =>
      split at h
      next => cases h
      next hr =>
        cases h
        exact ⟨hg, hk, by simpa using hr⟩
    next => cases h
  · rintro ⟨hf, hi, hr⟩
    exact ⟨f, hf, by simp [hi, hr]⟩

/-- The word of a lane that its HOLD bit lies in has HOLD among its fields (R271). -/
theorem hold_mem_fieldsAt {a l : Nat} (h : Reg.LINK_LANE_W1_HOLD.elem? a = some l) : (Reg.LINK_LANE_W1_HOLD, l) ∈ fieldsAt a := by
  obtain ⟨hat, hcount⟩ := Fld.elem?_some h
  have ha : 0x50801 + l * 4 = a := hat
  have hl : l < 32 := hcount.resolve_left (by decide)
  have hblock : a / 65536 = 5 := by omega
  refine mem_fieldsAt.2 ⟨?_, h, by simp [reservedHere, Reg.LINK_LANE_W1_HOLD, Reg.MEM_ARB_CAP, Reg.HEARTH_PHOTO_PD_GAIN,
    Reg.TIME_BASE_W3_INCR, Reg.TIME_BASE_W6_OFFSET, Reg.TIME_BASE_W7_OFFSET_IN, Reg.TIME_BASE_W4_MODE]⟩
  rw [hblock]
  simp [blockFields, fieldsLINK, fieldsLINK0]

/-! ### Writes see the bits of the word's fields alone -/

/-- A one-bit field of a word is that bit. -/
theorem bit_eq_bits (v : Word) (i : Nat) : bit v i = decide (bits v i i = 1) := by
  simp [bit, bits, bitsN, ← BitVec.testBit_toNat, Nat.testBit_eq_decide_div_mod_eq]

/-- A write to a field takes only that field's bits from the word. -/
theorem writeField_congr {v w : Word} {p : Fld × Nat} (h : bits v p.1.hi p.1.lo = bits w p.1.hi p.1.lo) (r : RegFile) :
    writeField r v p = writeField r w p := by
  simp only [writeField, h]

/-- So does a write in a clock in which the hardware reached the field too (R6). -/
theorem State.writeNow_congr {v w : Word} {p : Fld × Nat} (h : bits v p.1.hi p.1.lo = bits w p.1.hi p.1.lo) (s : State)
    (r : RegFile) : s.writeNow r v p = s.writeNow r w p := by
  simp only [State.writeNow, writeField_congr h, h]

section
variable {a : Nat} {v w : Word} (h : ∀ p ∈ fieldsAt a, bits v p.1.hi p.1.lo = bits w p.1.hi p.1.lo)
include h

/-- The register file that a word leads to. -/
theorem writeRaw_congr (r : RegFile) : writeRaw r a v = writeRaw r a w :=
  List.foldl_ext _ _ r (fun r p hp => writeField_congr (h p hp) r)

/-- The register file after software writes a word in the present clock (R6). -/
theorem State.written_congr (s : State) : s.written a v = s.written a w :=
  List.foldl_ext _ _ s.regs (fun r p hp => s.writeNow_congr (h p hp) r)

/-- The range check of a word. -/
theorem wordInRange_congr : wordInRange a v = wordInRange a w := by
  rw [Bool.eq_iff_iff, wordInRange, wordInRange, List.all_eq_true, List.all_eq_true]
  exact forall₂_congr (fun p hp => by rw [h p hp])

/-- HOLD is the only bit that is looked at beside the fields' ranges, and it is a field of its word (R271). -/
theorem State.holdBusy_congr (s : State) : s.holdBusy a v = s.holdBusy a w := by
  unfold State.holdBusy
  split
  next l hl =>
    have hbits : bits v 35 35 = bits w 35 35 := h _ (hold_mem_fieldsAt hl)
    rw [bit_eq_bits v, bit_eq_bits w, hbits]
  next => rfl

/-- Whether a word is refused, and with what (R430). -/
theorem State.writeBar_congr (s : State) : s.writeBar a v = s.writeBar a w := by
  simp only [State.writeBar, State.stateBar, writeRaw_congr h, wordInRange_congr h, s.holdBusy_congr h]

end

/-! ### Reserved bits read 0 -/

/-- A bit of fields laid over a number is set if the number or one of the fields sets it. -/
theorem testBit_foldl_or (l : List (Nat × Nat)) (n j : Nat) :
    (l.foldl (fun a p => a ||| p.2 * 2 ^ p.1) n).testBit j = (n.testBit j || l.any (fun p => (p.2 * 2 ^ p.1).testBit j)) := by
  induction l generalizing n with
  | nil => simp
  | cons p t ih => rw [List.foldl_cons, ih, Nat.testBit_or, List.any_cons, Bool.or_assoc]

/-- A bit of a word put together from fields is set if one of them sets it. -/
theorem getLsbD_pack (l : List (Nat × Nat)) (j : Nat) :
    (pack l).getLsbD j = (decide (j < 36) && l.any (fun p => (p.2 * 2 ^ p.1).testBit j)) := by
  rw [pack, word, BitVec.getLsbD_ofNat, testBit_foldl_or, Nat.zero_testBit, Bool.false_or]

/-- A field's value, put at its place in a word, sets no bit outside the field. -/
theorem testBit_rget_outside (r : RegFile) (f : Fld) (i : Nat) {j : Nat} (h : j < f.lo ∨ f.hi < j) :
    (rget r f i * 2 ^ f.lo).testBit j = false := by
  rw [Nat.testBit_mul_two_pow]
  by_cases hlow : f.lo ≤ j
  · have hwidth : f.width ≤ j - f.lo := by
      simp only [Fld.width]
      omega
    have hlt : rget r f i < 2 ^ (j - f.lo) := (rget_lt r f i).trans_le (Nat.pow_le_pow_right (by decide) hwidth)
    rw [Nat.testBit_lt_two_pow hlt, Bool.and_false]
  · simp [hlow]

/-- A bit that no field of a word covers reads 0 (R7). -/
theorem State.wordView_reserved (s : State) {a j : Nat} (h : ∀ p ∈ fieldsAt a, j < p.1.lo ∨ p.1.hi < j) :
    (s.wordView a).getLsbD j = false := by
  rw [State.wordView, getLsbD_pack, Bool.and_eq_false_iff, List.any_eq_false]
  right
  intro q hq
  obtain ⟨p, hp, hpq⟩ := List.mem_filterMap.1 hq
  split at hpq
  next => cases hpq
  next =>
    cases hpq
    simpa using testBit_rget_outside _ p.1 p.2 (h p hp)

/-! ### A field of some elements only -/

/-- CAP is reserved in element 3 of MEM_ARB (R7). -/
theorem cap_not_field_of_element_three : ∀ p ∈ fieldsAt (Reg.MEM_ARB_CAP.at 3), p.1 ≠ Reg.MEM_ARB_CAP := by
  rintro ⟨f, i⟩ hp rfl
  obtain ⟨-, hi, hr⟩ := mem_fieldsAt.1 hp
  have helem : Reg.MEM_ARB_CAP.elem? (Reg.MEM_ARB_CAP.at 3) = some 3 := by decide
  have hthree : i = 3 := Option.some.inj (hi.symm.trans helem)
  subst hthree
  simp [reservedHere] at hr

/-- CAP is a field in element 2 of MEM_ARB. -/
theorem cap_field_of_element_two : (Reg.MEM_ARB_CAP, 2) ∈ fieldsAt (Reg.MEM_ARB_CAP.at 2) := by
  refine mem_fieldsAt.2 ⟨?_, by decide, by decide⟩
  have hblock : Reg.MEM_ARB_CAP.at 2 / 65536 = 6 := by decide
  rw [hblock]
  simp [blockFields, fieldsMEMORY, fieldsMEMORY0]

/-- Settles O45: a write depends on the bits of the word's fields alone, a bit without a field reads 0, and CAP is a field in
element 2 of MEM_ARB and none in element 3. -/
theorem reservedBits : Obligations.ReservedBits := by
  unfold Obligations.ReservedBits
  refine ⟨?_, ?_, cap_not_field_of_element_three, _, cap_field_of_element_two, rfl⟩
  · intro s a v w h
    exact ⟨writeRaw_congr h s.regs, s.written_congr h, s.writeBar_congr h⟩
  · intro s a j _ h
    exact s.wordView_reserved h

end Sys2Proof.Machine
end

section
/-! The input of a frame and the commits bound to it (R30, R31). -/

namespace Sys2Proof.Machine

/-! ### Applying what is bound to a frame (R31) -/

/-- The commits apply one after another on what the batch alone gives. -/
theorem applyInput_eq_foldl (copy : RegFile) (i : FrameInput) :
    applyInput copy i = i.commits.foldl applyCommit (applyInput copy { i with commits := [] }) := rfl

/-- A commit bound after the others applies on top of everything bound before it. -/
theorem applyInput_commits_append (copy : RegFile) (i : FrameInput) (c : List (Fld × Nat × Nat)) :
    applyInput copy { i with commits := i.commits ++ [c] } = applyCommit (applyInput copy i) c := by
  rw [applyInput_eq_foldl, List.foldl_append, applyInput_eq_foldl copy i, List.foldl_cons, List.foldl_nil]

/-- A commit sets its fields in their order. -/
theorem applyCommit_append_singleton (r : RegFile) (c : List (Fld × Nat × Nat)) (p : Fld × Nat × Nat) :
    applyCommit r (c ++ [p]) = rset (applyCommit r c) p.1 p.2.1 p.2.2 := by
  simp [applyCommit]

/-- The field that a commit names last has the value named there, whatever the copy and the commit gave it before. -/
theorem rget_applyCommit_last (copy : RegFile) (c : List (Fld × Nat × Nat)) (f : Fld) (j v : Nat) :
    rget (applyCommit copy (c ++ [(f, j, v)])) f j = v % 2 ^ f.width := by
  rw [applyCommit_append_singleton, rget_rset_same]

/-! ### The inputs of the frames -/

/-- Among the inputs of some of the frames, that of a frame is found exactly if the frame is one of them. -/
theorem find?_filter_frame (l : List FrameInput) (p : Nat → Prop) [DecidablePred p] (m : Nat) :
    (l.filter (fun x => decide (p x.frame))).find? (fun x => decide (x.frame = m)) =
      if p m then l.find? (fun x => decide (x.frame = m)) else none := by
  rw [List.find?_filter]
  split
  next hm =>
    congr 1
    funext x
    rw [decide_eq_decide, decide_eq_true_eq, decide_eq_true_eq]
    exact and_iff_right_of_imp (fun hx => hx.symm ▸ hm)
  next hm =>
    refine List.find?_eq_none.2 fun x _ hx => hm ?_
    obtain ⟨hp, rfl⟩ : p x.frame ∧ x.frame = m := by simpa using hx
    exact hp

/-- The inputs with one put in: that of its frame is found for its frame, and what stood before for every other. -/
theorem find?_putInput (l : List FrameInput) (i : FrameInput) (m : Nat) :
    (putInput l i).find? (fun x => decide (x.frame = m)) =
      if m = i.frame then some i else l.find? (fun x => decide (x.frame = m)) := by
  rw [putInput, List.find?_append, List.find?_append, find?_filter_frame l (· < i.frame), find?_filter_frame l (i.frame < ·),
    List.find?_singleton]
  rcases Nat.lt_trichotomy m i.frame with hm | rfl | hm
  · simp [hm, hm.ne, hm.ne', hm.not_gt]
  · simp
  · simp [hm, hm.ne, hm.ne', hm.not_gt]

/-- The input put for a frame is the one found for it. -/
theorem inputFor_putInput_same (l : List FrameInput) (i : FrameInput) : inputFor (putInput l i) i.frame = i := by
  rw [inputFor, find?_putInput, if_pos rfl, Option.getD_some]

/-- The inputs of the other frames stay. -/
theorem inputFor_putInput_other (l : List FrameInput) (i : FrameInput) {m : Nat} (hm : m ≠ i.frame) :
    inputFor (putInput l i) m = inputFor l m := by
  rw [inputFor, find?_putInput, if_neg hm, ← inputFor]

/-- Settles O54: what is bound to a frame is a fold over its commits on top of its batch, a write sets the field it names, and
binding replaces the input of its own frame alone. That a commit holds only the fields written since the commit before it is the
model's reading of R30 (assumption log 20). -/
theorem commitOrder : Obligations.CommitOrder :=
  ⟨applyInput_commits_append, rget_applyCommit_last, applyInput_eq_foldl,
    fun l i => ⟨inputFor_putInput_same l i, fun _ => inputFor_putInput_other l i⟩, fun _ _ => rfl, fun _ _ _ _ => rfl⟩

end Sys2Proof.Machine
end

section
/-! Word-pair packing: what nine bytes of it are, and the words read back from them (R60). -/

namespace Sys2Proof.Machine

/-! ### Numbers in bytes, most significant first -/

/-- One byte more at the end. -/
theorem bytesBE_concat (l : List Byte) (b : Byte) : bytesBE (l ++ [b]) = bytesBE l * 256 + b.toNat := by
  simp [bytesBE]

/-- The lowest `n` bytes of a number, written most significant first, are the number modulo 256 ^ n. -/
theorem bytesBE_map_range (n m : Nat) :
    bytesBE ((List.range n).map (fun i => BitVec.ofNat 8 (m / 2 ^ (8 * (n - 1 - i))))) = m % 256 ^ n := by
  induction n generalizing m with
  | zero => simp [bytesBE, Nat.mod_one]
  | succ n ih =>
    have hfront : ∀ i ∈ List.range n, BitVec.ofNat 8 (m / 2 ^ (8 * (n + 1 - 1 - i)))
        = BitVec.ofNat 8 (m / 256 / 2 ^ (8 * (n - 1 - i))) := by
      intro i hi
      have hexp : 8 * (n + 1 - 1 - i) = 8 + 8 * (n - 1 - i) := by
        have := List.mem_range.1 hi
        omega
      rw [hexp, pow_add, ← Nat.div_div_eq_div_mul]
      rfl
    have hlast : (BitVec.ofNat 8 (m / 2 ^ (8 * (n + 1 - 1 - n)))).toNat = m % 256 := by simp
    rw [List.range_succ, List.map_append, List.map_singleton, bytesBE_concat, List.map_congr_left hfront, ih, hlast, pow_succ',
      Nat.mod_mul, Nat.mul_comm, Nat.add_comm]

/-! ### The nine bytes of a pair -/

/-- A pair makes nine bytes. -/
@[simp] theorem pair9_length (a b : Word) : (packBytes.pair9 a b).length = 9 := by
  simp [packBytes.pair9]

/-- Read most significant first they are the 72-bit value of the pair. -/
theorem bytesBE_pair9 (a b : Word) : bytesBE (packBytes.pair9 a b) = a.toNat * 2 ^ 36 + b.toNat := by
  have hlt : a.toNat * 2 ^ 36 + b.toNat < 256 ^ 9 := by
    have := a.isLt
    have := b.isLt
    omega
  exact (bytesBE_map_range 9 _).trans (Nat.mod_eq_of_lt hlt)

/-- The two words of nine bytes are the halves of their number. -/
theorem unpackBytes_append {l : List Byte} (h : l.length = 9) (t : List Byte) :
    unpackBytes (l ++ t) = word (bytesBE l / 2 ^ 36) :: word (bytesBE l) :: unpackBytes t := by
  match l, h with
  | [_, _, _, _, _, _, _, _, _], _ => rfl

/-- The upper half of the value of a pair is its first word. -/
theorem word_pair_div (a b : Word) : word ((a.toNat * 2 ^ 36 + b.toNat) / 2 ^ 36) = a := by
  rw [Nat.add_comm, Nat.add_mul_div_right _ _ (by decide), Nat.div_eq_of_lt b.isLt, Nat.zero_add, word, BitVec.ofNat_toNat,
    BitVec.setWidth_eq]

/-- The lower half is its second word. -/
theorem word_pair (a b : Word) : word (a.toNat * 2 ^ 36 + b.toNat) = b := by
  rw [word, ← BitVec.toNat_inj, BitVec.toNat_ofNat, Nat.mul_add_mod_of_lt b.isLt]

/-- The words of a pair's bytes are the pair. -/
theorem unpackBytes_pair9_append (a b : Word) (t : List Byte) :
    unpackBytes (packBytes.pair9 a b ++ t) = a :: b :: unpackBytes t := by
  rw [unpackBytes_append (pair9_length a b), bytesBE_pair9, word_pair_div, word_pair]

/-! ### Words in pairs -/

/-- Nine bytes for each pair, a broken one included. -/
theorem packBytes_length (ws : List Word) : (packBytes ws).length = 9 * ((ws.length + 1) / 2) := by
  induction ws using packBytes.induct with
  | case1 => rfl
  | case2 a => simp [packBytes]
  | case3 a b t ih =>
    simp only [packBytes, List.length_append, pair9_length, List.length_cons, ih]
    omega

/-- The bytes of pair `k` are the nine from byte `9 * k` on; past the last word stands zero. -/
theorem packBytes_drop_take {ws : List Word} {k : Nat} (hk : 2 * k < ws.length) :
    ((packBytes ws).drop (9 * k)).take 9 = packBytes.pair9 (nthW ws (2 * k)) (nthW ws (2 * k + 1)) := by
  induction ws using packBytes.induct generalizing k with
  | case1 => simp at hk
  | case2 a =>
    obtain rfl : k = 0 := by
      rw [List.length_singleton] at hk
      omega
    exact List.take_of_length_le (pair9_length a 0).le
  | case3 a b t ih =>
    rw [packBytes]
    cases k with
    | zero => exact List.take_left' (pair9_length a b)
    | succ k =>
      have hk' : 2 * k < t.length := by
        simp only [List.length_cons] at hk
        omega
      rw [Nat.mul_succ, Nat.add_comm, ← List.drop_drop, List.drop_left' (pair9_length a b), ih hk']
      rfl

/-- The words read back are the words packed, with the zero word that fills up a broken pair. -/
theorem unpackBytes_packBytes (ws : List Word) :
    unpackBytes (packBytes ws) = ws ++ List.replicate (ws.length % 2) 0 := by
  induction ws using packBytes.induct with
  | case1 => rfl
  | case2 a =>
    rw [packBytes, ← List.append_nil (packBytes.pair9 a 0), unpackBytes_pair9_append]
    rfl
  | case3 a b t ih =>
    rw [packBytes, unpackBytes_pair9_append, ih]
    rw [List.length_cons, List.length_cons, Nat.add_assoc, Nat.add_mod_right]
    rfl

/-- Settles O6: the length and the bytes of pair `k` by induction over the pairs, the words read back by the nine bytes of a pair
being its 72-bit value. -/
theorem wordPairPacking : Obligations.WordPairPacking := by
  intro ws
  refine ⟨packBytes_length ws, ?_, ?_, ?_⟩
  · intro k hk
    rw [packBytes_drop_take hk, bytesBE_pair9]
  · rw [unpackBytes_packBytes, List.take_left]
  · intro hodd
    rw [unpackBytes_packBytes, hodd, List.replicate_one]

end Sys2Proof.Machine
end

section
/-! Plain surfaces: where a texel lies, and which words a window of them takes (R145). -/

namespace Sys2Proof.Machine

/-! ### A surface by its definition -/

/-- CRUMB = 0 in its definition makes a surface plain. -/
theorem surfOf_crumb_eq_false {r : RegFile} {n : Nat} (h : rget r Reg.KILN_SURF_W1_CRUMB n = 0) : (surfOf r n).crumb = false :=
  decide_eq_false (not_not_intro h)

/-! ### Reads of a plain surface -/

theorem Surf.texel_of_plain {u : Surf} (h : u.crumb = false) (d : List Host.Cell) (x y : Nat) :
    u.texel d x y =
      if sectorGood d (u.base + (y * u.stride + x) / 7) then dramWord d (7 * u.base + (y * u.stride + x)) else 0 := by
  rw [Surf.texel, h]
  rfl

/-- The words of a window of a plain surface are those of its texels, row by row. -/
theorem Surf.mem_windowWords_of_plain {u : Surf} (h : u.crumb = false) {d : List Host.Cell} {x0 w : Nat} {rows : List Nat} {k : Nat} :
    k ∈ u.windowWords d x0 w rows ↔ ∃ y ∈ rows, ∃ x, x0 ≤ x ∧ x < x0 + w ∧ k = y * u.stride + x := by
  have inRow (y : Nat) :
      k ∈ List.range' (y * u.stride + x0) w ↔ ∃ x, x0 ≤ x ∧ x < x0 + w ∧ k = y * u.stride + x := by
    rw [List.mem_range'_1]
    constructor
    · rintro ⟨hlow, hhigh⟩
      exact ⟨k - y * u.stride, by omega, by omega, by omega⟩
    · rintro ⟨x, hlow, hhigh, rfl⟩
      omega
  simp only [Surf.windowWords, h, Bool.false_eq_true, if_false, List.mem_flatMap, inRow]

/-- Settles O57: a texel of a plain surface is read at the word of its place, and a word of a window is the word of one of the
window's texels, none of which lies beyond W_M1. -/
theorem plainTexels : Obligations.PlainTexels := by
  intro r n d hplain base stride
  have hcrumb := surfOf_crumb_eq_false hplain
  constructor
  · exact Surf.texel_of_plain hcrumb d
  · intro x0 w rows k hfit hk
    obtain ⟨y, hy, x, -, hx, hk⟩ := (Surf.mem_windowWords_of_plain hcrumb).1 hk
    exact ⟨y, hy, x, by omega, hk⟩

end Sys2Proof.Machine
end

section
/-! The level of EVT_N: which sources pull it low, and the ball as an input (R354, R434). -/

namespace Sys2Proof.Machine

/-! ### The sources and the ball -/

theorem State.pinSource_eq_true_iff (s : State) (e : Nat) :
    s.pinSource e = true ↔
      s.rb Reg.MGMT_EVT_PIN e = true ∧ s.rb Reg.MGMT_EVT_MASK e = false ∧ s.rb Reg.MGMT_EVT_LATCH e = true := by
  simp only [State.pinSource, Bool.and_eq_true, Bool.not_eq_true', and_assoc]

theorem State.evtNLow_eq_true_iff (s : State) :
    s.evtNLow = true ↔ s.evtNInput = false ∧ ∃ e, e < 1024 ∧ s.pinSource e = true := by
  simp only [State.evtNLow, Bool.and_eq_true, Bool.not_eq_true', List.any_eq_true, List.mem_range]

theorem State.evtNLow_eq_false_of_evtNInput {s : State} (h : s.evtNInput = true) : s.evtNLow = false := by
  rw [State.evtNLow, h, Bool.not_true, Bool.false_and]

theorem State.evtNLow_eq_false_of_unlatched {s : State} (h : ∀ e, e < 1024 → s.rb Reg.MGMT_EVT_LATCH e = false) :
    s.evtNLow = false := by
  rw [Bool.eq_false_iff, Ne, State.evtNLow_eq_true_iff]
  rintro ⟨-, e, he, hsource⟩
  obtain ⟨-, -, hlatch⟩ := (s.pinSource_eq_true_iff e).1 hsource
  exact absurd hlatch (Bool.eq_false_iff.1 (h e he))

/-! ### EN of element 1 of TIME_CAPTURE set -/

theorem State.evtNInput_w_captureEn (s : State) : (s.w Reg.TIME_CAPTURE_W0_EN 1 1).evtNInput = true := by
  have hen : (s.w Reg.TIME_CAPTURE_W0_EN 1 1).r Reg.TIME_CAPTURE_W0_EN 1 = 1 := s.w_same Reg.TIME_CAPTURE_W0_EN 1 1
  exact decide_eq_true (ne_of_eq_of_ne hen Nat.one_ne_zero)

/-- The latches lie in 1,024 words of their own, below TIME_CAPTURE. -/
theorem evtLatch_key_ne_captureEn {e : Nat} (he : e < 1024) :
    Reg.MGMT_EVT_LATCH.key e ≠ Reg.TIME_CAPTURE_W0_EN.key 1 := by
  refine key_ne_of_at (by decide) (by decide) ?_
  simp only [Fld.at, Reg.MGMT_EVT_LATCH, Reg.TIME_CAPTURE_W0_EN]
  omega

/-- Settles O50: the level is read off the sources that take part; EN = 1 makes the ball an input, and a write of it leaves the
latches, whose words are others. -/
theorem eventPin : Obligations.EventPin := by
  intro s
  refine ⟨?_, State.evtNLow_eq_false_of_unlatched, ?_, State.evtNLow_eq_false_of_evtNInput s.evtNInput_w_captureEn⟩
  · simp only [State.evtNLow_eq_true_iff, State.pinSource_eq_true_iff, State.evtNInput]
  · intro e he
    exact s.w_other _ _ _ _ _ (evtLatch_key_ne_captureEn he)

end Sys2Proof.Machine
end

section
/-! The codes of eight and of nine bits: their conversion both ways (R479). -/

namespace Sys2Proof.Machine

/-- The shift leaves bit 0 free and the top bit of an 8-bit code fills it, so the model's sum is the rule's OR. -/
theorem code9_eq_shift_or {b : Nat} (h : b < 256) : code9 b = (b <<< 1) ||| (b >>> 7) := by
  have hbit : b >>> 7 < 2 ^ 1 := by
    rw [Nat.shiftRight_eq_div_pow]
    omega
  rw [← Nat.shiftLeft_add_eq_or_of_lt hbit, Nat.shiftLeft_eq, Nat.shiftRight_eq_div_pow, code9]

theorem code9_lt {b : Nat} (h : b < 256) : code9 b < 512 := by
  rw [code9]
  omega

theorem code8_eq_shift (c : Nat) : code8 c = c >>> 1 :=
  (Nat.shiftRight_eq_div_pow c 1).symm

theorem code8_code9 {b : Nat} (h : b < 256) : code8 (code9 b) = b := by
  rw [code8, code9]
  omega

/-- Settles O51: of an 8-bit code the two operands of the OR share no bit, and halving drops the bit the widening filled. -/
theorem codeConversion : Obligations.CodeConversion :=
  ⟨fun _ hb => ⟨code9_eq_shift_or hb, code9_lt hb, code8_code9 hb⟩, code8_eq_shift⟩

end Sys2Proof.Machine
end

section
/-! The line code: what is scrambled and stuffed into a superblock slot comes back out of it (R257–R262). -/

namespace Sys2Proof.Machine

/-! ### Bits of a number -/

@[simp] theorem bitList_length (n v : Nat) : (bitList n v).length = n := by simp [bitList]

theorem listNat_concat (l : List Bool) (b : Bool) : listNat (l ++ [b]) = 2 * listNat l + b2n b := by
  simp [listNat]

/-- One bit more at the end is the number's lowest. -/
theorem bitList_succ (n v : Nat) : bitList (n + 1) v = bitList n (v / 2) ++ [v.testBit 0] := by
  have hfront : ∀ i ∈ List.range n, v.testBit (n + 1 - 1 - i) = (v / 2).testBit (n - 1 - i) := by
    intro i hi
    have hexp : n + 1 - 1 - i = n - 1 - i + 1 := by
      have := List.mem_range.1 hi
      omega
    rw [hexp, Nat.testBit_succ]
  simp only [bitList, List.range_succ, List.map_append, List.map_singleton, List.map_congr_left hfront]
  simp

/-- The bits of a number, read back, are the number in that many bits. -/
theorem listNat_bitList (n v : Nat) : listNat (bitList n v) = v % 2 ^ n := by
  induction n generalizing v with
  | zero => simp [bitList, listNat, Nat.mod_one]
  | succ n ih =>
    have hbit : b2n (v.testBit 0) = v % 2 := by
      rcases Nat.mod_two_eq_zero_or_one v with h | h <;> simp [b2n, h]
    rw [bitList_succ, listNat_concat, ih, hbit, pow_succ', Nat.mod_mul, Nat.add_comm]

/-- Bits of words laid end to end: each word's bits are found at its place. -/
theorem flatMap_bitList_drop_take (f : Nat → Nat) {n i : Nat} (hi : i < n) :
    (((List.range n).flatMap (fun k => bitList 36 (f k))).drop (36 * i)).take 36 = bitList 36 (f i) := by
  induction n with
  | zero => omega
  | succ n ih =>
    have hlen : ((List.range n).flatMap (fun k => bitList 36 (f k))).length = 36 * n := by
      simp [List.length_flatMap, Nat.mul_comm]
    rw [List.range_succ, List.flatMap_append, List.flatMap_singleton]
    rcases Nat.lt_or_ge i n with h | h
    · rw [List.drop_append_of_le_length (by omega), List.take_append_of_le_length (by rw [List.length_drop]; omega), ih h]
    · obtain rfl : i = n := by omega
      rw [List.drop_left' hlen, List.take_of_length_le (by simp)]

/-! ### The scrambler (R258) -/

@[simp] theorem scramble_length (st : Nat) (l : List Bool) : (scramble st l).1.length = l.length := by
  induction l generalizing st with
  | nil => rfl
  | cons b l ih => simp [scramble, ih]

/-- The receiver follows the sender's state by the scrambled bits and takes the same feedback off again. -/
theorem descramble_scramble (st : Nat) (l : List Bool) : descramble st (scramble st l).1 = (l, (scramble st l).2) := by
  induction l generalizing st with
  | nil => rfl
  | cons b l ih => simp [scramble, descramble, ih]

/-! ### Stuffing (R259) -/

/-- The count of equal bits after a bit `b` sent after `prev`. -/
def runCount (prev : Bool) (n : Nat) (b : Bool) : Nat := if n = 0 || b ≠ prev then 1 else n + 1

theorem runCount_le (prev : Bool) (n : Nat) (b : Bool) : runCount prev n b ≤ n + 1 := by
  rw [runCount]
  split <;> omega

theorem stuff_cons (prev : Bool) (n : Nat) (b : Bool) (l : List Bool) :
    stuff prev n (b :: l) =
      if runCount prev n b = 24 then b :: (!b) :: stuff (!b) 0 l else b :: stuff b (runCount prev n b) l := rfl

/-- A stuff bit follows the 24th equal bit: it is deleted, and wrong where it equals them. -/
theorem destuff_stuffed {prev : Bool} {n : Nat} {b : Bool} (h : runCount prev n b = 24) (need : Nat) (s : Bool) (l : List Bool) :
    destuff (need + 1) prev n (b :: s :: l) =
      let r := destuff need s 0 l
      (b :: r.1, r.2.1 + 1, r.2.2.1 || s = b, r.2.2.2) := by
  exact if_pos h

theorem destuff_plain {prev : Bool} {n : Nat} {b : Bool} (h : runCount prev n b ≠ 24) (need : Nat) (l : List Bool) :
    destuff (need + 1) prev n (b :: l) =
      let r := destuff need b (runCount prev n b) l
      (b :: r.1, r.2.1, r.2.2.1, r.2.2.2) := by
  cases l <;> exact if_neg h

theorem stuff_length_ge (prev : Bool) (n : Nat) (l : List Bool) : l.length ≤ (stuff prev n l).length := by
  induction l generalizing prev n with
  | nil => simp
  | cons b l ih =>
    rw [stuff_cons]
    split
    next =>
      have := ih (!b) 0
      simp only [List.length_cons]
      omega
    next => exact Nat.succ_le_succ (ih b _)

/-- Each stuff bit takes 24 data bits, those counted before included. -/
theorem stuff_length_le (prev : Bool) (n : Nat) (l : List Bool) : 24 * (stuff prev n l).length ≤ 25 * l.length + n := by
  induction l generalizing prev n with
  | nil => simp [stuff]
  | cons b l ih =>
    have hcount := runCount_le prev n b
    rw [stuff_cons]
    split
    next h =>
      have := ih (!b) 0
      simp only [List.length_cons]
      omega
    next h =>
      have := ih b (runCount prev n b)
      simp only [List.length_cons]
      omega

/-- Destuffing takes the stuffed bits off the line, finds every stuff bit right and leaves what follows. -/
theorem destuff_stuff (prev : Bool) (n : Nat) (l rest : List Bool) :
    destuff l.length prev n (stuff prev n l ++ rest) = (l, (stuff prev n l).length - l.length, false, rest) := by
  induction l generalizing prev n with
  | nil => simp [stuff, destuff]
  | cons b l ih =>
    rw [stuff_cons]
    split
    next h =>
      have hge := stuff_length_ge (!b) 0 l
      rw [List.length_cons, List.cons_append, List.cons_append, destuff_stuffed h, ih]
      refine Prod.ext rfl (Prod.ext ?_ (Prod.ext ?_ rfl))
      · simp only [List.length_cons]
        omega
      · cases b <;> rfl
    next h =>
      rw [List.length_cons, List.cons_append, destuff_plain h, ih]
      refine Prod.ext rfl (Prod.ext ?_ rfl)
      simp only [List.length_cons]
      omega

@[simp] theorem padBits_length (n : Nat) (b : Bool) : (padBits n b).length = n := by
  induction n generalizing b with
  | zero => rfl
  | succ n ih => simp [padBits, ih]

/-! ### The slot (R257, R260–R262) -/

/-- The data bits of a slot: its 32 words, each most significant bit first. -/
def slotData (ws : List Word) : List Bool := (List.range 32).flatMap (fun i => bitList 36 (nthW ws i).toNat)

/-- The scrambled and stuffed data of a slot. -/
def slotLine (st : Nat) (ws : List Word) : List Bool := stuff false 0 (scramble st (slotData ws)).1

/-- What precedes the marker: the line, padded to its length. -/
def slotBody (st : Nat) (ws : List Word) : List Bool :=
  slotLine st ws ++ padBits (slotBits - 36 - (slotLine st ws).length) ((slotLine st ws).getLastD false)

theorem encodeSlot_eq (st : Nat) (ws : List Word) (ty : Nat) :
    encodeSlot st ws ty = (slotBody st ws ++ bitList 36 (markerWord ty), (scramble st (slotData ws)).2) := rfl

@[simp] theorem slotData_length (ws : List Word) : (slotData ws).length = 1152 := by
  simp [slotData, List.length_flatMap]

theorem slotLine_length_ge (st : Nat) (ws : List Word) : 1152 ≤ (slotLine st ws).length := by
  have := stuff_length_ge false 0 (scramble st (slotData ws)).1
  rwa [scramble_length, slotData_length] at this

/-- At most 48 stuff bits come to the 1,152 data bits. -/
theorem slotLine_length_le (st : Nat) (ws : List Word) : (slotLine st ws).length ≤ 1200 := by
  have := stuff_length_le false 0 (scramble st (slotData ws)).1
  rw [scramble_length, slotData_length, ← slotLine] at this
  omega

@[simp] theorem slotBody_length (st : Nat) (ws : List Word) : (slotBody st ws).length = slotBits - 36 := by
  have := slotLine_length_le st ws
  rw [slotBody, List.length_append, padBits_length, slotBits]
  omega

/-- The data words are found in the data bits. -/
theorem words_of_slotData {ws : List Word} (h : ws.length = 32) :
    (List.range 32).map (fun i => word (listNat (((slotData ws).drop (36 * i)).take 36))) = ws := by
  have hword : ∀ i ∈ List.range 32, word (listNat (((slotData ws).drop (36 * i)).take 36)) = nthW ws i := by
    intro i hi
    rw [slotData, flatMap_bitList_drop_take (fun k => (nthW ws k).toNat) (List.mem_range.1 hi), listNat_bitList,
      Nat.mod_eq_of_lt (nthW ws i).isLt, word, BitVec.ofNat_toNat, BitVec.setWidth_eq]
  rw [List.map_congr_left hword]
  refine List.ext_getElem (by simp [h]) fun i _ hi => ?_
  simp [nthW, hi]

theorem slotMarker_encodeSlot (st : Nat) (ws : List Word) {ty : Nat} (h : ty < 512) :
    slotMarker (encodeSlot st ws ty).1 = some ty := by
  have hmarker : listNat (bitList 36 (markerWord ty)) = markerWord ty := by
    rw [listNat_bitList, markerWord]
    omega
  have hframe : markerWord ty / 512 = 0x3FFFFFF ∧ markerWord ty % 512 = ty := by
    rw [markerWord]
    omega
  rw [encodeSlot_eq, slotMarker, List.drop_left' (slotBody_length st ws), hmarker, if_pos hframe.1, hframe.2]

theorem decodeData_encodeSlot (st : Nat) {ws : List Word} (ty : Nat) (h : ws.length = 32) :
    decodeData st (encodeSlot st ws ty).1 = (some ws, (encodeSlot st ws ty).2) := by
  have hbody : (encodeSlot st ws ty).1.take (slotBits - 36) = slotBody st ws := by
    rw [encodeSlot_eq]
    exact List.take_left' (slotBody_length st ws)
  have hge := slotLine_length_ge st ws
  have hle := slotLine_length_le st ws
  have hline : destuff 1152 false 0 (slotBody st ws) =
      ((scramble st (slotData ws)).1, (slotLine st ws).length - 1152, false,
        padBits (slotBits - 36 - (slotLine st ws).length) ((slotLine st ws).getLastD false)) := by
    have := destuff_stuff false 0 (scramble st (slotData ws)).1
      (padBits (slotBits - 36 - (slotLine st ws).length) ((slotLine st ws).getLastD false))
    rwa [scramble_length, slotData_length] at this
  have hlast : (slotBody st ws).take (1152 + ((slotLine st ws).length - 1152)) = slotLine st ws := by
    rw [Nat.add_sub_cancel' hge]
    exact List.take_left
  have hpad : slotBits - 36 - (slotLine st ws).length = 49 - ((slotLine st ws).length - 1152) := by
    rw [slotBits]
    omega
  simp only [decodeData, hbody, hline, hlast, hpad, descramble_scramble, words_of_slotData h]
  simp [encodeSlot_eq]

/-- Settles O5: stuffing and padding are taken off by the counts they were put on with, the descrambler follows the sender's
state by the bits on the line, and the marker stands after the 1,201 bits of the body. -/
theorem slotRoundTrip : Obligations.SlotRoundTrip := by
  intro st ws ty hlen hty
  refine ⟨?_, slotMarker_encodeSlot st ws hty, decodeData_encodeSlot st ty hlen⟩
  rw [encodeSlot_eq, List.length_append, slotBody_length, bitList_length]
  rfl

end Sys2Proof.Machine
end

section
/-! The step at the front of the queue, the reset state's memories and queues, and the decoder of an empty table (R21, R419). -/

namespace Sys2Proof.Machine

/-- A step with a command at the front is that command. -/
theorem step_cons (c : Instr) (rest : List Instr) (s : State) :
    step { s with pending := c :: rest } = exec c { s with pending := rest } := rfl

theorem step_of_pending_nil {s : State} (h : s.pending = []) : step s = .next s := by
  rw [step, h]

/-- No word spells a command, so a word placed changes nothing. -/
theorem State.withFetchWord_eq (s : State) (nbits w : Nat) : s.withFetchWord nbits w = s := rfl

/-- Settles O1: the step takes the command off the queue before it executes it. -/
theorem stepRunsFrontCommand : Obligations.StepRunsFrontCommand := step_cons

/-- Settles O2, by the model's choice (assumption log 2). -/
theorem emptyQueueIdles : Obligations.EmptyQueueIdles := fun _ => step_of_pending_nil

/-- Settles O3: memories and queues are empty at reset. -/
theorem resetMemoryCanonical : Obligations.ResetMemoryCanonical := by
  refine ⟨?_, rfl⟩
  rw [State.memOk]
  exact Bool.and_eq_true_iff.2 ⟨wf_nil _, wf_nil _⟩

/-- Settles O59: the opcode table gives no row any bits. -/
theorem noWordSpellsACommand : Obligations.NoWordSpellsACommand :=
  fun s nbits w => ⟨rfl, s.withFetchWord_eq nbits w⟩

end Sys2Proof.Machine
end

section
/-! The raster operations: a result bit is the bit of the code that source and destination select (R481). -/

namespace Sys2Proof.Machine

/-- A bit of the result: the code's bit at 2s + d. -/
theorem getLsbD_ropWord (rop : Nat) (s d : Word) {k : Nat} (hk : k < 36) :
    (ropWord rop s d).getLsbD k = rop.testBit (2 * b2n (s.getLsbD k) + b2n (d.getLsbD k)) := by
  have hmask : ∀ (i : Nat) (w : Word), (if rop.testBit i then w else (0 : Word)).getLsbD k = (rop.testBit i && w.getLsbD k) := by
    intro i w
    cases rop.testBit i <;> simp
  simp only [ropWord, BitVec.getLsbD_or, hmask, BitVec.getLsbD_and, BitVec.getLsbD_not, hk, decide_true, Bool.true_and]
  cases s.getLsbD k <;> cases d.getLsbD k <;> simp [b2n]

/-- Two words whose 36 bits agree with a code's results are equal. -/
theorem ropWord_eq {rop : Nat} {s d w : Word}
    (h : ∀ k, k < 36 → w.getLsbD k = rop.testBit (2 * b2n (s.getLsbD k) + b2n (d.getLsbD k))) : ropWord rop s d = w :=
  BitVec.eq_of_getLsbD_eq fun k hk => by rw [getLsbD_ropWord rop s d hk, h k hk]

/-- Settles O52: bit by bit, the six named codes by the four values of the two bits. -/
theorem rasterOperations : Obligations.RasterOperations := by
  intro s d
  refine ⟨fun rop k _ hk => getLsbD_ropWord rop s d hk, ?_, ?_, ?_, ?_, ?_, ?_⟩ <;> refine ropWord_eq fun k hk => ?_
  · cases s.getLsbD k <;> cases d.getLsbD k <;> decide
  · cases s.getLsbD k <;> cases d.getLsbD k <;> decide
  · rw [BitVec.getLsbD_xor]
    cases s.getLsbD k <;> cases d.getLsbD k <;> decide
  · rw [BitVec.getLsbD_and]
    cases s.getLsbD k <;> cases d.getLsbD k <;> decide
  · rw [BitVec.getLsbD_or]
    cases s.getLsbD k <;> cases d.getLsbD k <;> decide
  · rw [BitVec.getLsbD_not, decide_eq_true hk]
    cases s.getLsbD k <;> cases d.getLsbD k <;> decide

end Sys2Proof.Machine
end

section
/-! Scene coordinates: MIRROR and ROT taken forth and back (R118). -/

namespace Sys2Proof.Machine

/-- A ray of the physical grid, by its hogel and view. -/
def Grid.hasRay (g : Grid) (p : Nat × Nat × Nat × Nat) : Prop :=
  p.1 < g.hw ∧ p.2.1 < g.hh ∧ p.2.2.1 < g.vw ∧ p.2.2.2 < g.vh

/-- A ray of the scene grid, by its hogel and view. -/
def Grid.hasScene (g : Grid) (q : Nat × Nat × Nat × Nat) : Prop :=
  q.1 < g.sw ∧ q.2.1 < g.sh ∧ q.2.2.1 < g.svw ∧ q.2.2.2 < g.svh

/-- ROT has four values. -/
theorem rot_cases {r : Nat} (h : r < 4) : r = 0 ∨ r = 1 ∨ r = 2 ∨ r = 3 := by omega

/-- A physical ray has a place in the scene, and is the ray of that place. -/
theorem sceneOf_spec {g : Grid} (hrot : g.rot < 4) {px py vx vy : Nat} (h : g.hasRay (px, py, vx, vy)) :
    g.hasScene (sceneOf g px py vx vy) ∧
      physOf g (sceneOf g px py vx vy).1 (sceneOf g px py vx vy).2.1 (sceneOf g px py vx vy).2.2.1 (sceneOf g px py vx vy).2.2.2
        = (px, py, vx, vy) := by
  obtain ⟨hw, hh, vw, vh, mirror, rot⟩ := g
  simp only [Grid.hasRay] at h
  rcases rot_cases hrot with hr | hr | hr | hr <;> cases mirror <;> dsimp only at hr <;> subst hr <;>
    simp [sceneOf, physOf, Grid.hasScene, Grid.sw, Grid.sh, Grid.svw, Grid.svh] <;> omega

/-- A place in the scene is that of a physical ray. -/
theorem physOf_spec {g : Grid} (hrot : g.rot < 4) {hx hy vx vy : Nat} (h : g.hasScene (hx, hy, vx, vy)) :
    g.hasRay (physOf g hx hy vx vy) ∧
      sceneOf g (physOf g hx hy vx vy).1 (physOf g hx hy vx vy).2.1 (physOf g hx hy vx vy).2.2.1 (physOf g hx hy vx vy).2.2.2
        = (hx, hy, vx, vy) := by
  obtain ⟨hw, hh, vw, vh, mirror, rot⟩ := g
  rcases rot_cases hrot with hr | hr | hr | hr <;> cases mirror <;> dsimp only at hr <;> subst hr <;>
    simp [Grid.hasScene, Grid.sw, Grid.sh, Grid.svw, Grid.svh] at h <;> simp [sceneOf, physOf, Grid.hasRay] <;> omega

/-- Settles O53, by the four values of ROT with and without MIRROR. -/
theorem sceneCoordinates : Obligations.SceneCoordinates := by
  intro g hrot
  constructor
  · intro px py vx vy h1 h2 h3 h4
    obtain ⟨⟨q1, q2, q3, q4⟩, hback⟩ := sceneOf_spec hrot (px := px) (py := py) (vx := vx) (vy := vy) ⟨h1, h2, h3, h4⟩
    exact ⟨q1, q2, q3, q4, hback⟩
  · intro hx hy vx vy h1 h2 h3 h4
    obtain ⟨⟨p1, p2, p3, p4⟩, hback⟩ := physOf_spec hrot (hx := hx) (hy := hy) (vx := vx) (vy := vy) ⟨h1, h2, h3, h4⟩
    exact ⟨p1, p2, p3, p4, hback⟩

end Sys2Proof.Machine
end

section
/-! Forwarding by a worker without a place (R286, R288). -/

namespace Sys2Proof.Machine

/-- A new CENSUS_CALL goes out of every open port but the one it came by. -/
theorem State.onward_call {s : State} (hm : s.isMgr = false) (h0 h1 : Word) (q : Nat) :
    s.onward h0 h1 q true = (s.openPorts.filter (· ≠ q), s) := by
  rw [State.onward, hm]
  rfl

section
variable {s : State} (hm : s.isMgr = false) (hp : s.rb Reg.LINK_POS_PLACED = false) {h0 h1 : Word} {q : Nat}
include hm hp

/-- A unicast or manager packet goes on through the port opposite, or is dropped with event 261. -/
theorem State.onward_opposite (h : h1Type h1 = 0 ∨ h1Type h1 = 3) :
    s.onward h0 h1 q false =
      if s.portOpen ((q + 2) % 4) then ([(q + 2) % 4], s) else ([], s.raise 261 ((q + 2) % 4)) := by
  have htype : (h1Type h1 = 0 || h1Type h1 = 3 : Bool) = true := by simpa using h
  simp only [State.onward, hm, hp, Bool.not_false, htype, if_true, Bool.false_eq_true, if_false]

/-- A rectangle or all packet goes nowhere. -/
theorem State.onward_wide (h : h1Type h1 = 1 ∨ h1Type h1 = 2) : s.onward h0 h1 q false = ([], s) := by
  have htype : (h1Type h1 = 0 || h1Type h1 = 3 : Bool) = false := by
    rcases h with h | h <;> simp [h]
  simp only [State.onward, hm, hp, Bool.not_false, htype, if_true, Bool.false_eq_true, if_false]

end

/-- Settles O56: each kind of packet by its address type, a new call by the open ports. -/
theorem unplacedForwarding : Obligations.UnplacedForwarding := by
  intro s h0 h1 q hm hp
  refine ⟨fun ht ho => ?_, fun ht ho => ?_, State.onward_wide hm hp, fun p => ?_⟩
  · rw [State.onward_opposite hm hp ht, if_pos ho]
  · rw [State.onward_opposite hm hp ht, if_neg (by simp [ho])]
  · simp only [State.onward_call hm, State.openPorts, List.mem_filter, List.mem_range, decide_eq_true_eq, and_assoc]

end Sys2Proof.Machine
end

section
/-! The three bases and the passing of time (R347, R349). -/

namespace Sys2Proof.Machine

/-- A base advances by its INCR on every cycle. -/
theorem nth_advanceBases (r : RegFile) (tb : List Nat) (dt : Nat) {b : Nat} (hb : b < 3) :
    nth (advanceBases r tb dt) b = nth tb b + dt * rget r Reg.TIME_BASE_W3_INCR b := by
  simp [advanceBases, nth, hb, Nat.mul_comm]

/-- While REFCLK runs, time that passes advances the three bases. -/
theorem State.pass_tb {s : State} (h : s.time.stopped = false) (dt : Nat) :
    (s.pass dt).time.tb = advanceBases s.regs s.time.tb dt := by
  simp only [State.pass, h]
  rfl

/-- Settles O55: the advance of each base, the frame of time passing by the fields of its update, INCR by its reset value. -/
theorem basesAdvance : Obligations.BasesAdvance := by
  refine ⟨fun s dt b hrun hb => ⟨?_, rfl⟩, fun s dt => ⟨rfl, rfl, rfl, rfl, rfl⟩, ?_⟩
  · rw [State.pass_tb hrun, nth_advanceBases _ _ _ hb]
    rfl
  · decide

end Sys2Proof.Machine
end

section
/-! The field tables: no two fields share a bit's place, every value fits its field; a word written, field by field (R4–R9). -/

namespace Sys2Proof.Machine

/-! ### The tables -/

/-- Two fields never begin at the same bit of one word: they begin at different bits, or their elements lie apart or interleaved. -/
def Fld.apart (f g : Fld) : Bool :=
  f.lo ≠ g.lo || f.at (f.count - 1) < g.addr || g.at (g.count - 1) < f.addr
  || (f.stride = g.stride && f.addr % f.stride ≠ g.addr % g.stride)

/-- A list of fields each of which is apart from those after it. -/
def allApart : List Fld → Bool
  | [] => true
  | f :: t => t.all f.apart && allApart t

/-- What every row of the tables keeps: bits inside a word, elements at different words, reset values that fit. -/
def Fld.sound (f : Fld) : Bool :=
  f.lo ≤ f.hi && f.hi < 36 && 0 < f.count && 0 < f.stride && f.reset < 2 ^ f.width && f.resets.all (· < 2 ^ f.width)

set_option maxRecDepth 100000 in
theorem blockFields_allApart : ∀ b < 14, allApart (blockFields b) = true := by decide +kernel

set_option maxRecDepth 100000 in
theorem allFields_sound : ∀ f ∈ allFields, f.sound = true := by decide +kernel

theorem pairwise_of_allApart : ∀ {l : List Fld}, allApart l = true → l.Pairwise (fun f g => f.apart g = true)
  | [], _ => .nil
  | f :: t, h => by
    obtain ⟨hf, ht⟩ := Bool.and_eq_true_iff.1 h
    exact .cons (List.all_eq_true.1 hf) (pairwise_of_allApart ht)

/-- There are 14 blocks. -/
theorem blockFields_of_ge {b : Nat} (h : 14 ≤ b) : blockFields b = [] := by
  obtain ⟨k, rfl⟩ := Nat.exists_eq_add_of_le' h
  rfl

theorem mem_allFields_of_block {b : Nat} {f : Fld} (h : f ∈ blockFields b) : f ∈ allFields := by
  rcases Nat.lt_or_ge b 14 with hb | hb
  · exact List.mem_flatMap.2 ⟨b, List.mem_range.2 hb, h⟩
  · rw [blockFields_of_ge hb] at h
    cases h

theorem blockFields_pairwise (b : Nat) : (blockFields b).Pairwise (fun f g => f.apart g = true) := by
  rcases Nat.lt_or_ge b 14 with hb | hb
  · exact pairwise_of_allApart (blockFields_allApart b hb)
  · rw [blockFields_of_ge hb]
    exact .nil

section
variable {f : Fld} (hf : f ∈ allFields)
include hf

theorem lo_le_hi_of_mem : f.lo ≤ f.hi ∧ f.hi < 36 := by
  have := allFields_sound f hf
  simp only [Fld.sound, Bool.and_eq_true, decide_eq_true_eq] at this
  exact ⟨this.1.1.1.1.1, this.1.1.1.1.2⟩

theorem stride_pos_of_mem : 0 < f.stride := by
  have := allFields_sound f hf
  simp only [Fld.sound, Bool.and_eq_true, decide_eq_true_eq] at this
  exact this.1.1.2

theorem lo_lt_of_mem : f.lo < 64 := by
  have := lo_le_hi_of_mem hf
  omega

/-- The reset value of every element fits its field. -/
theorem rst_lt_of_mem (i : Nat) : f.rst i < 2 ^ f.width := by
  have := allFields_sound f hf
  simp only [Fld.sound, Bool.and_eq_true, decide_eq_true_eq, List.all_eq_true] at this
  obtain ⟨⟨-, hreset⟩, hresets⟩ := this
  rw [Fld.rst, List.getD_eq_getElem?_getD]
  cases h : f.resets[i]? with
  | none => exact hreset
  | some v => exact hresets v (List.mem_of_getElem? h)

/-- A file that lists nothing reads reset values. -/
theorem rget_nil_of_mem (i : Nat) : rget [] f i = f.rst i := by
  rw [rget_nil, Nat.mod_eq_of_lt (rst_lt_of_mem hf i)]

end

/-- A field of a word with its element: a row of the tables, at that word. -/
theorem fieldsAt_spec {a : Nat} {p : Fld × Nat} (h : p ∈ fieldsAt a) : p.1 ∈ allFields ∧ p.1.at p.2 = a := by
  obtain ⟨hblock, helem, -⟩ := mem_fieldsAt.1 h
  exact ⟨mem_allFields_of_block hblock, (Fld.elem?_some helem).1⟩

/-- Fields that are apart and lie in one word begin at different bits of it. -/
theorem lo_ne_of_apart {f g : Fld} {a i j : Nat} (h : f.apart g = true) (hf : f.elem? a = some i) (hg : g.elem? a = some j)
    (hfs : 0 < f.stride) (hgs : 0 < g.stride) : f.lo ≠ g.lo := by
  obtain ⟨hfa, hfc⟩ := Fld.elem?_some hf
  obtain ⟨hga, hgc⟩ := Fld.elem?_some hg
  have hi : i * f.stride ≤ (f.count - 1) * f.stride := Nat.mul_le_mul_right _ (by omega)
  have hj : j * g.stride ≤ (g.count - 1) * g.stride := Nat.mul_le_mul_right _ (by omega)
  simp only [Fld.apart, Bool.or_eq_true, Bool.and_eq_true, decide_eq_true_eq] at h
  simp only [Fld.at] at hfa hga h
  rcases h with ((h | h) | h) | ⟨hs, h⟩
  · exact h
  · omega
  · omega
  · have hfm : a % f.stride = f.addr % f.stride := by rw [← hfa, Nat.add_mul_mod_self_right]
    have hgm : a % g.stride = g.addr % g.stride := by rw [← hga, Nat.add_mul_mod_self_right]
    rw [hs, hgm] at hfm
    rw [hs] at h
    exact absurd hfm.symm h

/-- No two fields of a word begin at the same bit. -/
theorem fieldsAt_pairwise (a : Nat) : (fieldsAt a).Pairwise (fun p q => p.1.lo ≠ q.1.lo) := by
  have hp : (blockFields (a / 65536)).Pairwise (fun f g => f ∈ allFields ∧ g ∈ allFields ∧ f.apart g = true) :=
    (blockFields_pairwise (a / 65536)).imp_of_mem
      fun hf hg h => ⟨mem_allFields_of_block hf, mem_allFields_of_block hg, h⟩
  refine List.Pairwise.filterMap _ ?_ hp
  rintro f g ⟨hf, hg, h⟩ p hpf q hqg
  have elem {f : Fld} {p : Fld × Nat} (h : p ∈ (match f.elem? a with
      | some i => if reservedHere f i then none else some (f, i)
      | none => none : Option (Fld × Nat))) : p.1 = f ∧ f.elem? a = some p.2 := by
    split at h
    next i hi =>
      split at h
      next => cases h
      next =>
        cases h
        exact ⟨rfl, hi⟩
    next => cases h
  obtain ⟨rfl, hp⟩ := elem hpf
  obtain ⟨rfl, hq⟩ := elem hqg
  exact lo_ne_of_apart h hp hq (stride_pos_of_mem hf) (stride_pos_of_mem hg)

/-! ### A word written (R5, R6) -/

theorem bits_lt (v : Word) (f : Fld) : bits v f.hi f.lo < 2 ^ f.width := Nat.mod_lt _ (Nat.two_pow_pos _)

/-- What a field that read `x` reads after a write of its word, by its access and by what the hardware did to it in the clock. -/
def State.afterWrite (s : State) (v : Word) (p : Fld × Nat) (x : Nat) : Nat :=
  let n := s.hwDone p.1 p.2
  let b := bits v p.1.hi p.1.lo
  match p.1.acc with
  | .RW => if n = 0 then b else x
  | .RO | .WO => x
  | .W1C =>
    if n = 0 then x - (x &&& b)
    else if flagField p.1 then ((x - (x &&& b)) ||| n) % 2 ^ p.1.width
    else min (2 ^ p.1.width - 1) (x - n - ((x - n) &&& b) + n)

theorem satN_eq_min (hi n : Nat) : satN hi n = min hi n := by
  rw [satN]
  split <;> omega

theorem rget_writeNow_same (s : State) (r : RegFile) (v : Word) (p : Fld × Nat) :
    rget (s.writeNow r v p) p.1 p.2 = s.afterWrite v p (rget r p.1 p.2) := by
  have hclear : rget r p.1 p.2 - (rget r p.1 p.2 &&& bits v p.1.hi p.1.lo) < 2 ^ p.1.width :=
    (Nat.sub_le _ _).trans_lt (rget_lt r p.1 p.2)
  have hsat : ∀ n, min (2 ^ p.1.width - 1) n % 2 ^ p.1.width = min (2 ^ p.1.width - 1) n := fun n =>
    Nat.mod_eq_of_lt ((Nat.min_le_left _ _).trans_lt (Nat.sub_lt (Nat.two_pow_pos _) Nat.one_pos))
  unfold State.writeNow State.afterWrite writeField
  cases hacc : p.1.acc <;> dsimp only <;> split
  · rw [rget_rset_same, Nat.mod_eq_of_lt (bits_lt v p.1)]
  · rfl
  · rfl
  · rfl
  · rfl
  · rfl
  · rw [rget_rset_same, Nat.mod_eq_of_lt hclear]
  · split
    · rw [rget_rset_same]
    · rw [rget_rset_same, satN_eq_min, hsat]

/-- A write of one field leaves what has another key. -/
theorem rget_writeNow_other (s : State) (r : RegFile) (v : Word) (p : Fld × Nat) {g : Fld} {j : Nat} (h : g.key j ≠ p.1.key p.2) :
    rget (s.writeNow r v p) g j = rget r g j := by
  unfold State.writeNow writeField
  cases p.1.acc <;> dsimp only <;> split
  · exact rget_rset_other _ _ _ _ _ _ h
  · rfl
  · rfl
  · rfl
  · rfl
  · rfl
  · exact rget_rset_other _ _ _ _ _ _ h
  · split <;> exact rget_rset_other _ _ _ _ _ _ h

/-- Fields written one after another leave what has none of their keys. -/
theorem rget_foldl_writeNow_other (s : State) (v : Word) {g : Fld} {j : Nat} :
    ∀ (l : List (Fld × Nat)) (r : RegFile), (∀ p ∈ l, g.key j ≠ p.1.key p.2) →
      rget (l.foldl (fun r p => s.writeNow r v p) r) g j = rget r g j
  | [], _, _ => rfl
  | p :: t, r, h => by
    rw [List.foldl_cons, rget_foldl_writeNow_other s v t _ fun q hq => h q (List.mem_cons_of_mem _ hq)]
    exact rget_writeNow_other s r v p (h p List.mem_cons_self)

/-- Fields of different keys written one after another each read what their own write leaves. -/
theorem rget_foldl_writeNow_mem (s : State) (v : Word) {q : Fld × Nat} :
    ∀ (l : List (Fld × Nat)) (r : RegFile), l.Pairwise (fun p q => p.1.key p.2 ≠ q.1.key q.2) → q ∈ l →
      rget (l.foldl (fun r p => s.writeNow r v p) r) q.1 q.2 = s.afterWrite v q (rget r q.1 q.2)
  | p :: t, r, hd, hq => by
    obtain ⟨hp, ht⟩ := List.pairwise_cons.1 hd
    rw [List.foldl_cons]
    rcases List.mem_cons.1 hq with rfl | hq
    · rw [rget_foldl_writeNow_other s v t _ hp, rget_writeNow_same]
    · rw [rget_foldl_writeNow_mem s v t _ ht hq, rget_writeNow_other s r v p (hp q hq).symm]

theorem fieldsAt_keys (a : Nat) : (fieldsAt a).Pairwise (fun p q => p.1.key p.2 ≠ q.1.key q.2) :=
  (fieldsAt_pairwise a).imp_of_mem fun hp hq h =>
    key_ne_of_lo (lo_lt_of_mem (fieldsAt_spec hq).1) (lo_lt_of_mem (fieldsAt_spec hp).1) h

/-- A field of the word written reads what its access makes of it. -/
theorem rget_written (s : State) (v : Word) {a : Nat} {p : Fld × Nat} (h : p ∈ fieldsAt a) :
    rget (s.written a v) p.1 p.2 = s.afterWrite v p (rget s.regs p.1 p.2) :=
  rget_foldl_writeNow_mem s v _ _ (fieldsAt_keys a) h

/-- A field of another word is left alone. -/
theorem rget_written_other (s : State) (v : Word) {a j : Nat} {f : Fld} (hf : f ∈ allFields) (h : f.at j ≠ a) :
    rget (s.written a v) f j = rget s.regs f j := by
  refine rget_foldl_writeNow_other s v _ _ fun p hp => ?_
  obtain ⟨hmem, hat⟩ := fieldsAt_spec hp
  exact key_ne_of_at (lo_lt_of_mem hmem) (lo_lt_of_mem hf) (hat.symm ▸ h)

/-- Clearing the bits of a mask borrows nothing: bit by bit, from the lowest. -/
theorem testBit_sub_and (x b k : Nat) : (x - (x &&& b)).testBit k = (x.testBit k && !b.testBit k) := by
  have hdiv : (x &&& b) / 2 = x / 2 &&& b / 2 := Nat.and_div_two
  have hmod : (x &&& b) % 2 = if x % 2 = 1 ∧ b % 2 = 1 then 1 else 0 := by
    have := Nat.and_mod_two_eq_one (a := x) (b := b)
    split <;> omega
  have hle : x / 2 &&& b / 2 ≤ x / 2 := Nat.and_le_left
  induction k generalizing x b with
  | zero =>
    simp only [Nat.testBit_zero]
    split at hmod <;> by_cases hx : x % 2 = 1 <;> by_cases hb : b % 2 = 1 <;> simp [hx, hb] <;> omega
  | succ k ih =>
    have hhalf : (x - (x &&& b)) / 2 = x / 2 - (x / 2 &&& b / 2) := by
      split at hmod <;> omega
    rw [Nat.testBit_succ, Nat.testBit_succ, Nat.testBit_succ, hhalf]
    refine ih _ _ Nat.and_div_two ?_ Nat.and_le_left
    have := Nat.and_mod_two_eq_one (a := x / 2) (b := b / 2)
    split <;> omega

/-- Settles O46: each field by its access; the fields of a word begin at different bits of it, and other words have other keys. -/
theorem fieldWrites : Obligations.FieldWrites := by
  intro s a v
  refine ⟨fun p hp => ?_, fun f hf j _ h => rget_written_other s v hf h⟩
  rw [rget_written s v hp]
  refine ⟨fun hacc => ?_, fun hacc => ?_, fun hacc hn k hk => ?_, fun hacc hn hflag => ?_⟩
  · simp only [State.afterWrite, hacc]
  · rcases hacc with hacc | hacc <;> simp only [State.afterWrite, hacc]
  · by_cases h0 : s.hwDone p.1 p.2 = 0
    · simp only [State.afterWrite, hacc, h0, if_true, testBit_sub_and, Nat.zero_testBit, Bool.false_or]
    · simp only [State.afterWrite, hacc, h0, if_false, hn.resolve_left h0, if_true, Nat.testBit_mod_two_pow, hk, decide_true,
        Bool.true_and, Nat.testBit_or, testBit_sub_and, Bool.or_comm]
  · simp only [State.afterWrite, hacc, hn, if_false, hflag, Bool.false_eq_true]

/-- Settles O58: nothing is listed at reset, and every reset value fits its field. -/
theorem resetRegisters : Obligations.ResetRegisters := by
  refine ⟨fun f hf j => ⟨rget_nil_of_mem hf j, rget_nil_of_mem hf j⟩, ?_⟩
  refine ⟨?_, ?_, ?_, ?_, ?_, ?_, ?_, ?_, ?_, ?_, ?_, ?_, ?_, ?_, rfl, rfl, rfl, rfl⟩ <;> rfl

end Sys2Proof.Machine
end

section
/-! An event raised: its count, and the fields the fabric never writes (R432, R435, R437). -/

namespace Sys2Proof.Machine

/-! ### The fabric's own fields -/

/-- The elements of a field lie away from the fabric's: outside its words, or at other bits of them. -/
def Fld.offFabric (f : Fld) : Bool :=
  f.at (f.count - 1) < 0x130 || 0x1400 ≤ f.addr || (0x133 ≤ f.addr && f.at (f.count - 1) < 0x1000)
  || (0x1000 ≤ f.addr && f.lo ≠ 35 && f.lo ≠ 19) || (f.count = 1 && !evtKey (f.key 0))

set_option maxRecDepth 100000 in
theorem allFields_offFabric : ∀ f ∈ allFields, f.ofFabric = true ∨ f.offFabric = true := by decide +kernel

/-- A field that is not the fabric's has no key of the fabric's. -/
theorem evtKey_of_mem {f : Fld} (hf : f ∈ allFields) {i : Nat} (hi : i < f.count) (h : f.ofFabric = false) :
    evtKey (f.key i) = false := by
  have hlo := lo_lt_of_mem hf
  have hoff := (allFields_offFabric f hf).resolve_left (by simp [h])
  have hlast : i * f.stride ≤ (f.count - 1) * f.stride := Nat.mul_le_mul_right _ (by omega)
  simp only [Fld.offFabric, Bool.or_eq_true, Bool.and_eq_true, decide_eq_true_eq, Bool.not_eq_true'] at hoff
  by_cases hone : f.count = 1 ∧ evtKey (f.key 0) = false
  · obtain rfl : i = 0 := by omega
    exact hone.2
  · have hoff := hoff.resolve_right hone
    simp only [Fld.at] at hoff
    simp only [evtKey, Bool.or_eq_false_iff, Bool.and_eq_false_iff, decide_eq_false_iff_not]
    simp only [Fld.key, Fld.at, fieldKey]
    omega

/-! ### The count of an event -/

section
variable (e : Nat)

theorem rget_occLog_count (a : EvtAt) (x : Nat) (r : RegFile) (v : EvtState) :
    rget (occLog a x r v).1 Reg.MGMT_EVT_COUNT e = rget r Reg.MGMT_EVT_COUNT e := by
  unfold occLog
  split
  · split <;> exact rget_rset_other _ _ _ _ _ _ (key_ne_of_lo (by decide) (by decide) (by decide))
  · rfl

theorem rget_occSend_count (a : EvtAt) (x d : Nat) (r : RegFile) (v : EvtState) :
    rget (occSend a x d r v).1 Reg.MGMT_EVT_COUNT e = rget r Reg.MGMT_EVT_COUNT e := by
  unfold occSend
  split
  · split
    · rfl
    · exact rget_rset_other _ _ _ _ _ _ (key_ne_of_lo (by decide) (by decide) (by decide))
  · rfl

theorem rget_occMiss_count (b : Nat) (miss : Bool) (r : RegFile) :
    rget (occMiss b miss r).1 Reg.MGMT_EVT_COUNT e = rget r Reg.MGMT_EVT_COUNT e := by
  simp only [occMiss]
  split
  · exact rget_rset_other _ _ _ _ _ _ (key_ne_of_lo (by decide) (by decide) (by decide))
  · rfl

/-- Log entry, packet and MISS bit leave the counts to LATCH and COUNT. -/
theorem rget_occOnce_count (a : EvtAt) (x d : Nat) (p : RegFile × EvtState) :
    rget (occOnce a x d p).regs Reg.MGMT_EVT_COUNT e = rget (occCount p.1 x) Reg.MGMT_EVT_COUNT e := by
  simp only [occOnce, rget_occMiss_count, rget_occSend_count, rget_occLog_count]

/-- An occurrence advances the count of its own event. -/
theorem rget_occCount_same (r : RegFile) :
    rget (occCount r e) Reg.MGMT_EVT_COUNT e = min 4095 (rget r Reg.MGMT_EVT_COUNT e + 1) := by
  have hlatch : rget (rset r Reg.MGMT_EVT_LATCH e 1) Reg.MGMT_EVT_COUNT e = rget r Reg.MGMT_EVT_COUNT e :=
    rget_rset_other _ _ _ _ _ _ (key_ne_of_lo (by decide) (by decide) (by decide))
  rw [occCount, rcount, rget_rset_same, satN_eq_min, hlatch]
  show min 4095 _ % 4096 = _
  omega

/-- An occurrence leaves the count of another event. -/
theorem rget_occCount_other {x : Nat} (h : e ≠ x) (r : RegFile) :
    rget (occCount r x) Reg.MGMT_EVT_COUNT e = rget r Reg.MGMT_EVT_COUNT e := by
  have hat : Reg.MGMT_EVT_COUNT.at e ≠ Reg.MGMT_EVT_COUNT.at x := by
    simp only [Fld.at, Reg.MGMT_EVT_COUNT]
    omega
  rw [occCount, rcount, rget_rset_other _ _ _ _ _ _ (key_ne_of_at (by decide) (by decide) hat),
    rget_rset_other _ _ _ _ _ _ (key_ne_of_lo (by decide) (by decide) (by decide))]

section
variable {e} (h24 : e ≠ 24) (h25 : e ≠ 25)
include h24 h25

/-- The events 24 and 25 that follow an occurrence leave every other event's count. -/
theorem rget_occur_count_other (a : EvtAt) : ∀ (n x d : Nat) (p : RegFile × EvtState), e ≠ x →
    rget (occur n a x d p).1 Reg.MGMT_EVT_COUNT e = rget p.1 Reg.MGMT_EVT_COUNT e
  | 0, _, _, _, _ => rfl
  | n + 1, x, d, p, hx => by
    have honce : rget (occOnce a x d p).regs Reg.MGMT_EVT_COUNT e = rget p.1 Reg.MGMT_EVT_COUNT e := by
      rw [rget_occOnce_count, rget_occCount_other e hx]
    rw [occur]
    split
    · rw [rget_occur_count_other a n 24 _ _ h24]
      split
      · rw [rget_occur_count_other a n 25 _ _ h25, honce]
      · exact honce
    · split
      · rw [rget_occur_count_other a n 25 _ _ h25, honce]
      · exact honce

theorem rget_occur_count (n : Nat) (a : EvtAt) (d : Nat) (p : RegFile × EvtState) :
    rget (occur (n + 1) a e d p).1 Reg.MGMT_EVT_COUNT e = min 4095 (rget p.1 Reg.MGMT_EVT_COUNT e + 1) := by
  have honce : rget (occOnce a e d p).regs Reg.MGMT_EVT_COUNT e = min 4095 (rget p.1 Reg.MGMT_EVT_COUNT e + 1) := by
    rw [rget_occOnce_count, rget_occCount_same]
  rw [occur]
  split
  · rw [rget_occur_count_other h24 h25 a n 24 _ _ h24]
    split
    · rw [rget_occur_count_other h24 h25 a n 25 _ _ h25, honce]
    · exact honce
  · split
    · rw [rget_occur_count_other h24 h25 a n 25 _ _ h25, honce]
    · exact honce

/-- An event raised has its count advanced, saturating. -/
theorem State.raise_count (s : State) (d : Nat) :
    (s.raise e d).r Reg.MGMT_EVT_COUNT e = min 4095 (s.r Reg.MGMT_EVT_COUNT e + 1) :=
  rget_occur_count h24 h25 4 _ d _

end

end

theorem State.latched_iff (s : State) (e : Nat) : s.latched e = true ↔ s.r Reg.MGMT_EVT_LATCH e = 1 := decide_eq_true_iff

/-- Settles O8: the laws of the fabric for the latches, its count by the one write that reaches it, the other registers by their
keys. -/
theorem eventRaised : Obligations.EventRaised := by
  intro s e d he
  refine ⟨(State.latched_iff _ _).2 (s.raise_latch e d he), fun h24 h25 _ => s.raise_count h24 h25 d, fun x _ hx => ?_,
    fun f i hf hi hfab => s.raise_other e d f i he (evtKey_of_mem hf hi hfab), rfl⟩
  exact (State.latched_iff _ _).2 (s.raise_latch_keeps e d x he ((State.latched_iff _ _).1 hx))

end Sys2Proof.Machine
end

section
/-! PING, STAGE_STATUS, TIME_READ, READ_REG and LOG_READ (R352, R428, R429, R437). -/

namespace Sys2Proof.Machine

/-- READ_REG of a range inside a block's window answers its words. -/
theorem hReadReg_of_range {ps : List Word} (hlen : ps.length = 1)
    (hrange : rangeOk (bits (nthW ps 0) 19 0) (bits (nthW ps 0) 31 20) = true) (hn : bits (nthW ps 0) 31 20 ≤ 1018) (q : Ctx)
    (s : State) :
    hReadReg q ps s = (.reply (s.readRun (bits (nthW ps 0) 19 0) (bits (nthW ps 0) 31 20)).1,
      (s.readRun (bits (nthW ps 0) 19 0) (bits (nthW ps 0) 31 20)).2) := by
  have hgate : (decide (ps.length ≠ 1) || decide (1018 < bits (nthW ps 0) 31 20)
      || !rangeOk (bits (nthW ps 0) 19 0) (bits (nthW ps 0) 31 20)) = false := by
    simp [hlen, hrange, hn]
  rw [hReadReg]
  dsimp only
  rw [hgate]
  rfl

/-- LOG_READ with DRAM trained answers the entries from the one asked for on. -/
theorem hLogRead_of_dramUp {ps : List Word} {s : State} (hd : s.dramUp = true) (h0 : bits (nthW ps 1) 7 0 ≠ 0)
    (h255 : bits (nthW ps 1) 7 0 ≠ 255) (q : Ctx) :
    hLogRead q ps s =
      (let all := (logEntries s.flash).map Prod.snd ++ s.evt.logQ.map LogEntry.flashWords
       let l := (all.filter (fun ws => decide ((nthW ps 0).toNat ≤ (nthW ws 1).toNat))).take (bits (nthW ps 1) 7 0)
       (.reply l.flatten l.length, s)) := by
  simp [hLogRead, hd, h0, h255]

/-- Settles O9: PING, STAGE_STATUS and TIME_READ have one outcome, READ_REG and LOG_READ their parameters admitted. -/
theorem statusCommandsAnswer : Obligations.StatusCommandsAnswer := by
  refine ⟨completes_of (fun _ _ => rfl) (by decide) fun c h _ _ _ => ⟨rfl, by simp⟩,
    completes_of (fun _ _ => rfl) (by decide) fun c h _ _ _ => ⟨rfl, by simp⟩,
    completes_of (fun _ _ => rfl) (by decide) fun c h _ _ _ => ⟨rfl, by simp⟩,
    completes_of (fun _ _ => rfl) (by decide) fun c h hlow hhigh hp => ⟨?_, by simp⟩,
    completes_of (fun _ _ => rfl) (by decide) fun c h _ _ hp => ⟨?_, by simp⟩⟩
  · exact hReadReg_of_range (Nat.le_antisymm hhigh hlow) hp.1 hp.2 (c.ctx opReadReg) h
  · exact hLogRead_of_dramUp hp.1 hp.2.1 hp.2.2 (c.ctx opLogRead)

end Sys2Proof.Machine
end

section
/-! WRITE_REG of one word, SAFE_DARK and ROUTE_SET (R293, R428, R430). -/

namespace Sys2Proof.Machine

/-- WRITE_REG of one plain word is the write of that word. -/
theorem hWriteReg_one {ps : List Word} (hlen : ps.length = 2) (hn : bits (nthW ps 0) 31 20 = 1) (hm : bit (nthW ps 0) 34 = false)
    (hrange : rangeOk (bits (nthW ps 0) 19 0) 1 = true) (q : Ctx) (s : State) :
    hWriteReg q ps s = s.writeRun (s.rb Reg.MGMT_BAKE_CTRL_STRICT) (bits (nthW ps 0) 19 0) 0 [(BitVec.allOnes 36, nthW ps 1)] := by
  obtain ⟨w, v, rfl⟩ := List.length_eq_two.1 hlen
  change bits w 31 20 = 1 at hn
  change bit w 34 = false at hm
  change rangeOk (bits w 19 0) 1 = true at hrange
  show (if _ then _ else _) = _
  rw [if_neg]
  · show State.writeRun _ _ _ _ (writePairs (bit w 34) [v]) = _
    rw [hm]
    rfl
  · show ¬ (_ || _ || !rangeOk (bits w 19 0) (bits w 31 20)) = true
    rw [show nthW [w, v] 0 = w from rfl, hn, hm, hrange]
    simp

/-- A write that no rule refuses, of a word that is no base's OFFSET_IN, is stored. -/
theorem State.writeReg_stored {s : State} {a : Nat} {v : Word} (hb : base3 a = false) (hf : (fieldsAt a).isEmpty = false)
    (ho : Reg.TIME_BASE_W7_OFFSET_IN.elem? a = none) (hw : s.writeBar a v = none) : s.writeReg a v = (none, s.storeReg a v) := by
  simp only [State.writeReg, hb, hf, ho, hw, Bool.false_eq_true, if_false]

/-- One word of a run that is stored under its full mask. -/
theorem State.writeRun_one {s : State} {a : Nat} {v : Word} (hb : base3 a = false) (hf : (fieldsAt a).isEmpty = false)
    (ho : Reg.TIME_BASE_W7_OFFSET_IN.elem? a = none) (hw : s.writeBar a (s.masked a (BitVec.allOnes 36) v) = none) :
    s.writeRun false a 0 [(BitVec.allOnes 36, v)] = (.done 1, s.storeReg a (s.masked a (BitVec.allOnes 36) v)) := by
  simp only [State.writeRun, Bool.false_and, Bool.false_eq_true, if_false, State.writeReg_stored hb hf ho hw, State.maskTouched, if_true]

/-- SAFE_DARK on a worker: at the next line start while the scan runs, at once otherwise. -/
theorem hSafeDark_worker {s : State} (hm : s.isMgr = false) (q : Ctx) (ps : List Word) :
    hSafeDark q ps s =
      (let t := { s with cmd := { s.cmd with darkNext := some (bit (nthW ps 0) 0) } }
       (.done, if s.scanOn && (s.stage = 1 || s.stage = 2) then t else t.lineStart.driveBlank)) := by
  simp only [hSafeDark, hm, Bool.false_eq_true, if_false]
  split <;> rfl

theorem hSafeDark_mgr {s : State} (hm : s.isMgr = true) (q : Ctx) (ps : List Word) : hSafeDark q ps s = (.done, s) := by
  simp only [hSafeDark, hm, if_true]

/-- ROUTE_SET passes its length check where the words it counts are there. -/
theorem hRouteSet_of_length {ps : List Word} (h1 : 1 ≤ bits (nthW ps 0) 22 11) (h1017 : bits (nthW ps 0) 22 11 ≤ 1017)
    (hlen : ps.length = bits (nthW ps 0) 22 11 + 1) (q : Ctx) (s : State) :
    hRouteSet q ps s =
      (match bits (nthW ps 0) 35 34 with
      | 0 =>
        if 2048 < bits (nthW ps 0) 33 23 + bits (nthW ps 0) 22 11 then (.badParam, s)
        else (.done, { s with regs := rsets s.regs ((ps.drop 1).mapIdx (fun i v =>
          (Reg.LINK_ROUTE_ROUTES, bits (nthW ps 0) 33 23 + i, bits v 31 0))) })
      | 1 => (.done, { s with regs := writeRaw s.regs Reg.LINK_MGR_ROUTE_VALID.addr (nthW (ps.drop 1) 0) })
      | _ => (.badParam, s)) := by
  have hgate : (decide (bits (nthW ps 0) 22 11 = 0) || decide (1017 < bits (nthW ps 0) 22 11)
      || decide ((ps.drop 1).length ≠ bits (nthW ps 0) 22 11)) = false := by
    rw [List.length_drop, hlen]
    simp only [Bool.or_eq_false_iff, decide_eq_false_iff_not]
    omega
  rw [hRouteSet, hgate]
  rfl

/-- The first word after the head of a parameter list. -/
theorem nthW_drop_one (ps : List Word) (i : Nat) : nthW (ps.drop 1) i = nthW ps (i + 1) := by
  simp [nthW, List.getD_eq_getElem?_getD]

/-- Settles O10: one plain word of WRITE_REG passes the command's checks and the write's; SAFE_DARK by the role; ROUTE_SET by TYPE
once its length holds. -/
theorem registerCommandsTakeEffect : Obligations.RegisterCommandsTakeEffect := by
  refine ⟨completes_of (fun _ _ => rfl) (by decide) fun c h _ _ hp => ⟨?_, by simp⟩,
    completes_of (fun _ _ => rfl) (by decide) fun c h _ _ hm => ⟨hSafeDark_worker hm (c.ctx opSafeDark) _, by simp⟩,
    completes_of (fun _ _ => rfl) (by decide) fun c h _ _ hm => ⟨hSafeDark_mgr hm (c.ctx opSafeDark) _, by simp⟩,
    completes_of (fun _ _ => rfl) (by decide) fun c h _ _ hp => ⟨?_, by simp⟩,
    completes_of (fun _ _ => rfl) (by decide) fun c h _ _ hp => ⟨?_, by simp⟩⟩
  · obtain ⟨hlen, hn, hm, hrange, hstrict, hb, hf, ho, hw⟩ := hp
    refine (hWriteReg_one hlen hn hm hrange (c.ctx opWriteReg) h).trans ?_
    rw [hstrict]
    exact State.writeRun_one hb hf ho hw
  · obtain ⟨htype, h1, h1017, hlen, hroom⟩ := hp
    refine (hRouteSet_of_length h1 h1017 hlen (c.ctx opRouteSet) h).trans ?_
    rw [htype]
    exact if_neg (by omega)
  · obtain ⟨htype, h1, h1017, hlen⟩ := hp
    refine (hRouteSet_of_length h1 h1017 hlen (c.ctx opRouteSet) h).trans ?_
    rw [htype, nthW_drop_one]
    rfl

end Sys2Proof.Machine
end

section
/-! PLACE, MAP_SEND, TAKEOVER and LINK_RESET (R292, R294, R313, R317). -/

namespace Sys2Proof.Machine

/-! ### PLACE and MAP_SEND -/

/-- PLACE without an entry for the device's nonce changes nothing. -/
theorem hPlace_none {ps : List Word} {s : State} (hodd : ps.length % 2 = 1)
    (hfind : (placeEntries (ps.drop 1)).find? (fun e => decide (e.1 = s.link.nonce)) = none) (q : Ctx) :
    hPlace q ps s = (.done, s) := by
  simp only [hPlace, hodd, hfind]
  rfl

/-- PLACE with an entry that map and neighbours bear out gives the device its place. -/
theorem hPlace_placed {ps : List Word} {s : State} {q : Ctx} {x y rot : Nat} (hodd : ps.length % 2 = 1)
    (hfind : (placeEntries (ps.drop 1)).find? (fun e => decide (e.1 = s.link.nonce)) = some (s.link.nonce, x, y, rot))
    (hbad : s.link.mapBad = false) (hmap : s.link.map.isEmpty = false)
    (hcall : s.newCall q.src.addr (bits (nthW ps 0) 15 0) = false) (hin : (mapTiles s.link.map).contains (x, y, rot) = true)
    (hfar : ∀ p, p < 4 → s.contradicts x y rot p = false) :
    hPlace q ps s =
      (.done, (s.ws [(Reg.LINK_POS_PLACED, 0, 1), (Reg.LINK_POS_X, 0, x), (Reg.LINK_POS_Y, 0, y), (Reg.LINK_POS_ROT, 0, rot),
        (Reg.LINK_POS_SECT, 0, mapSect s.link.map), (Reg.MGMT_STAGE_PLACED, 0, 1)]).raise 265 0) := by
  have hany : (List.range 4).any (s.contradicts x y rot) = false := by
    rw [List.any_eq_false]
    exact fun p hp => by simp [hfar p (List.mem_range.1 hp)]
  simp only [hPlace, hodd, hfind, hbad, hmap, hcall, hin, hany]
  rfl

/-- A well-formed map is refused with its block alone. -/
theorem State.checkMap_of_form (s : State) {m : List Word} (hform : mapFormOk m = true) :
    s.checkMap m = if s.blockOk (some 0) (m.take (mapLen m)) (m.drop (mapLen m)) then (true, s)
      else (false, (s.raiseFw 75 0).raise 267 0) := by
  rw [State.checkMap, if_neg (by simp [hform]), State.checkBlock]
  split <;> rfl

/-- MAP_SEND of a well-formed map stands or falls with its block. -/
theorem hMapSend_of_form {ps : List Word} (hform : mapFormOk ps = true) (q : Ctx) (s : State) :
    hMapSend q ps s =
      if s.blockOk (some 0) (ps.take (mapLen ps)) (ps.drop (mapLen ps)) then
        let t := { s with link := { s.link with map := ps, mapBad := false } }
        (.done, if s.isMgr then t.w Reg.LINK_POS_SECT (mapSect ps) else t)
      else
        let t := (s.raiseFw 75 0).raise 267 0
        (.denied, { t with link := { t.link with mapBad := true } }) := by
  rw [hMapSend, s.checkMap_of_form hform, if_pos hform]
  split <;> rfl

/-! ### TAKEOVER -/

theorem State.fenceCheck_first {s : State} (h : s.rb Reg.LINK_PEEL_SEEN = false) (f : Word) :
    s.fenceCheck f = (none, s.storeFence (fenceValue f)) := by
  simp only [State.fenceCheck, h, Bool.not_false, if_true]

theorem State.fenceCheck_higher {s : State} {f : Word} (h : s.rb Reg.LINK_PEEL_SEEN = true) (hv : peelValue s.regs < fenceValue f) :
    s.fenceCheck f = (none, (s.storeFence (fenceValue f)).raise 319 (fenceDetail (fenceValue f))) := by
  simp only [State.fenceCheck, h, Bool.not_true, Bool.false_eq_true, if_false, if_neg hv.not_gt, if_pos hv]

theorem State.fenceCheck_equal {s : State} {f : Word} (h : s.rb Reg.LINK_PEEL_SEEN = true) (hv : peelValue s.regs = fenceValue f) :
    s.fenceCheck f = (none, s) := by
  simp only [State.fenceCheck, h, hv, Bool.not_true, Bool.false_eq_true, if_false, lt_irrefl]

theorem hTakeover_passed {ps : List Word} {s t : State} (h : s.fenceCheck (nthW ps 0) = (none, t)) (q : Ctx) :
    hTakeover q ps s = (.done, t) := by
  simp only [hTakeover, h]

/-! ### LINK_RESET -/

/-- Over UDP or SPI each named port is reset in turn. -/
theorem hLinkReset_direct {q : Ctx} (h : q.src.via ≠ .cawell) (ps : List Word) (s : State) :
    hLinkReset q ps s = (.done, ((List.range 4).filter (fun p => bit (nthW ps 0) p)).foldl State.resetPort s) := by
  have hvia : decide (q.src.via = .cawell) = false := decide_eq_false h
  rw [hLinkReset, List.foldl_filter]
  simp only [hvia, Bool.false_and, Bool.false_eq_true, if_false]
  congr 2
  funext x p
  cases bit (nthW ps 0) p <;> rfl

/-- The port that carried the command over Cawell, named alone, waits for the reply to leave. -/
theorem hLinkReset_carrier {q : Ctx} {ps : List Word} (hvia : q.src.via = .cawell) (hport : q.inPort < 4)
    (hbits : ∀ p, p < 4 → (bit (nthW ps 0) p = true ↔ p = q.inPort)) (s : State) :
    hLinkReset q ps s = (.done, s.setPort q.inPort { s.port q.inPort with resetDue := true }) := by
  have hbit : ∀ p, p < 4 → bit (nthW ps 0) p = decide (p = q.inPort) := fun p hp => by
    rw [Bool.eq_iff_iff, hbits p hp, decide_eq_true_iff]
  have hports : List.range 4 = [0, 1, 2, 3] := rfl
  rw [hLinkReset, hports]
  simp only [List.foldl_cons, List.foldl_nil, hbit 0 (by decide), hbit 1 (by decide), hbit 2 (by decide), hbit 3 (by decide), hvia,
    decide_true, Bool.true_and]
  have hcases : q.inPort = 0 ∨ q.inPort = 1 ∨ q.inPort = 2 ∨ q.inPort = 3 := by omega
  rcases hcases with h | h | h | h <;> rw [h] <;> rfl

/-- Settles O11, command by command; a refused map answers DENIED by the model's choice (assumption log 45). -/
theorem placementCommandsTakeEffect : Obligations.PlacementCommandsTakeEffect := by
  refine ⟨fun x y rot => completes_of (fun _ _ => rfl) (by decide) fun c h _ _ hp => ⟨?_, by simp⟩,
    completes_of (fun _ _ => rfl) (by decide) fun c h _ _ hp => ⟨hPlace_none hp.1 hp.2 (c.ctx opPlace), by simp⟩,
    completes_of (fun _ _ => rfl) (by decide) fun c h _ _ hp => ⟨hMapSend_of_form hp (c.ctx opMapSend) h, ?_⟩,
    completes_of (fun _ _ => rfl) (by decide) fun c h _ _ hp =>
      ⟨hTakeover_passed (State.fenceCheck_higher hp.1 hp.2) (c.ctx opTakeover), by simp⟩,
    completes_of (fun _ _ => rfl) (by decide) fun c h _ _ hp =>
      ⟨hTakeover_passed (State.fenceCheck_first hp _) (c.ctx opTakeover), by simp⟩,
    completes_of (fun _ _ => rfl) (by decide) fun c h _ _ hp =>
      ⟨hTakeover_passed (State.fenceCheck_equal hp.1 hp.2) (c.ctx opTakeover), by simp⟩,
    completes_of (fun _ _ => rfl) (by decide) fun c h _ _ hp =>
      ⟨hLinkReset_direct (q := c.ctx opLinkReset) hp c.params h, by simp⟩,
    completes_of (fun _ _ => rfl) (by decide) fun c h _ _ hp =>
      ⟨hLinkReset_carrier (q := c.ctx opLinkReset) hp.1 hp.2.1 hp.2.2 h, by simp⟩⟩
  · obtain ⟨hodd, hfind, hbad, hmap, hcall, hin, hfar⟩ := hp
    exact hPlace_placed (q := c.ctx opPlace) hodd hfind hbad hmap hcall hin hfar
  · dsimp only
    split <;> simp

end Sys2Proof.Machine
end

section
/-! CENSUS_CALL, LINK_CENSUS and LINK_WAKE (R277, R288, R289). -/

namespace Sys2Proof.Machine

/-- A call whose number was taken already is dropped. -/
theorem hCensusCall_old {q : Ctx} {ps : List Word} {s : State}
    (h : s.newCall (q.src.addr % 2) (bits (nthW ps 0) 15 0) = false) : hCensusCall q ps s = (.wait, s) := by
  rw [hCensusCall, h]
  rfl

/-- A new call is recorded, its nonce drawn, its report owed. -/
theorem hCensusCall_new {q : Ctx} {ps : List Word} {s : State}
    (h : s.newCall (q.src.addr % 2) (bits (nthW ps 0) 15 0) = true) :
    hCensusCall q ps s =
      (.wait,
        let t := if q.src.via = .cawell then
            s.w (if q.src.addr % 2 = 0 then Reg.LINK_MGR_ROUTE_UP_PRI else Reg.LINK_MGR_ROUTE_UP_PRI_B) q.inPort
          else s
        { t with
          sec := { t.sec with draws := t.sec.draws + 1 }
          link := { t.link with
            cnum := t.link.cnum.set (q.src.addr % 2) (some (bits (nthW ps 0) 15 0))
            nonce := Config.random t.sec.draws % 2 ^ 36
            census := some (q.req, h1Hops q.route, t.now + 100000) } }.raise 264 0) := by
  rw [hCensusCall, h]
  rfl

theorem hLinkCensus_held {s : State} (hpeel : s.peelHeld = true) (hopen : s.mgr.censusOpen = false) (q : Ctx) (ps : List Word) :
    hLinkCensus q ps s = (.accepted, s.startCensus (some q.req)) := by
  rw [hLinkCensus, hpeel, hopen]
  rfl

/-- WAKE on every port named, the completion owed by the first. -/
theorem hLinkWake_ports {ps : List Word} (h : (List.range 4).filter (fun p => bit (nthW ps 0) p) ≠ []) (q : Ctx) (s : State) :
    hLinkWake q ps s =
      (.wait, ((List.range 4).filter (fun p => bit (nthW ps 0) p)).foldl (fun (x : State) p =>
        x.setPort p { x.port p with wakeEnd := some (s.now + 100000,
          if p = ((List.range 4).filter (fun p => bit (nthW ps 0) p)).headD 0 then some q.req else none) }) s) := by
  rw [hLinkWake]
  revert h
  cases (List.range 4).filter (fun p => bit (nthW ps 0) p) with
  | nil => exact fun h => absurd rfl h
  | cons p0 t => exact fun _ => rfl

/-- Settles O12, command by command. -/
theorem censusCommandsTakeEffect : Obligations.CensusCommandsTakeEffect := by
  refine ⟨waits_of (fun _ _ => rfl) (by decide) fun c h _ _ hp => ?_,
    completes_of (fun _ _ => rfl) (by decide) fun c h _ _ hp => ⟨hLinkCensus_held hp.1 hp.2 (c.ctx opLinkCensus) c.params, by simp⟩,
    waits_of (fun _ _ => rfl) (by decide) fun c h _ _ hp => ?_,
    waits_of (fun _ _ => rfl) (by decide) fun c h _ _ hp => ?_⟩
  · have hrun : opCensusCall.run (c.ctx opCensusCall) c.params h = _ := hCensusCall_new (q := c.ctx opCensusCall) hp
    rw [hrun]
    exact ⟨rfl, rfl⟩
  · have hrun : opCensusCall.run (c.ctx opCensusCall) c.params h = _ := hCensusCall_old (q := c.ctx opCensusCall) hp
    rw [hrun]
    exact ⟨rfl, rfl⟩
  · have hrun : opLinkWake.run (c.ctx opLinkWake) c.params h = _ := hLinkWake_ports hp (c.ctx opLinkWake) h
    rw [hrun]
    exact ⟨rfl, rfl⟩

end Sys2Proof.Machine
end

section
/-! The bake opcodes (R438, R440, R446). -/

namespace Sys2Proof.Machine

/-- BAKE_OPEN within its epoch and tick bounds with no bake pending. -/
theorem hBakeOpen_opens {ps : List Word} {s : State} (h0 : (nthW ps 0).toNat ≠ 0)
    (hepoch : s.r Reg.MGMT_BAKE_EPOCH_EPOCH ≤ (nthW ps 0).toNat) (hlow : s.nextTick + 1 ≤ join48 (nthW ps 1) (nthW ps 2))
    (hhigh : join48 (nthW ps 1) (nthW ps 2) ≤ s.nextTick + 65536) (hopen : s.rb Reg.MGMT_BAKE_PEND_0116_OPEN = false)
    (hclosed : s.rb Reg.MGMT_BAKE_PEND_0116_CLOSED = false) (q : Ctx) :
    hBakeOpen q ps s =
      (let k := join48 (nthW ps 1) (nthW ps 2)
       (.done k, { s with bake := { s.bake with writes := [] } }.ws
          [(Reg.MGMT_BAKE_PEND_0116_OPEN, 0, 1), (Reg.MGMT_BAKE_PEND_0116_WRITES, 0, 0),
           (Reg.MGMT_BAKE_PEND_0116_K_HI, 0, k / 2 ^ 36), (Reg.MGMT_BAKE_PEND_0117_K_LO, 0, k % 2 ^ 36),
           (Reg.MGMT_BAKE_PEND_0118_EPOCH, 0, (nthW ps 0).toNat)])) := by
  have hbounds : (decide ((nthW ps 0).toNat = 0) || decide ((nthW ps 0).toNat < s.r Reg.MGMT_BAKE_EPOCH_EPOCH)
      || decide (join48 (nthW ps 1) (nthW ps 2) < s.nextTick + 1)
      || decide (s.nextTick + 65536 < join48 (nthW ps 1) (nthW ps 2))) = false := by
    simp only [Bool.or_eq_false_iff, decide_eq_false_iff_not]
    omega
  rw [hBakeOpen, hbounds, hopen, hclosed]
  rfl

/-- BAKE_WRITE of pairs that the open bake may hold appends them. -/
theorem hBakeWrite_appends {ps : List Word} {s : State} (hopen : s.rb Reg.MGMT_BAKE_PEND_0116_OPEN = true) (hne : ps ≠ [])
    (heven : ps.length % 2 = 0) (hok : ∀ p ∈ bakePairs ps, s.bakeWriteOk p = true)
    (hroom : s.bake.writes.length + (bakePairs ps).length ≤ 4096) (q : Ctx) :
    hBakeWrite q ps s =
      (let n := s.bake.writes.length + (bakePairs ps).length
       (.done n, { s with bake := { s.bake with writes := s.bake.writes ++ bakePairs ps } }.w Reg.MGMT_BAKE_PEND_0116_WRITES n)) := by
  have hgate : (!s.rb Reg.MGMT_BAKE_PEND_0116_OPEN || ps.isEmpty || decide (ps.length % 2 = 1)
      || !(bakePairs ps).all s.bakeWriteOk) = false := by
    simp only [hopen, heven, List.all_eq_true.2 hok, List.isEmpty_eq_false_iff.2 hne]
    rfl
  rw [hBakeWrite, hgate, if_neg Bool.false_ne_true, if_neg (by omega)]

/-- Two parameter words make a pair. -/
theorem bakePairs_length (ps : List Word) : (bakePairs ps).length = ps.length / 2 := by
  induction ps using bakePairs.induct with
  | case1 a v t ih =>
    rw [bakePairs, List.length_cons, ih, List.length_cons, List.length_cons]
    omega
  | case2 ps h =>
    match ps, h with
    | [], _ => rfl
    | [_], _ => simp [bakePairs]
    | a :: v :: t, h => exact absurd rfl (h a v t)

theorem hBakeClose_inTime {s : State} (hopen : s.rb Reg.MGMT_BAKE_PEND_0116_OPEN = true) (hlate : s.bakeLate s.bakeK = false)
    (q : Ctx) (ps : List Word) :
    hBakeClose q ps s = (.accepted s.bakeK, { s with bake := { s.bake with req := some q.req } }.ws
      [(Reg.MGMT_BAKE_PEND_0116_OPEN, 0, 0), (Reg.MGMT_BAKE_PEND_0116_CLOSED, 0, 1)]) := by
  rw [hBakeClose, hopen, hlate]
  rfl

theorem hBakeClose_late {s : State} (hopen : s.rb Reg.MGMT_BAKE_PEND_0116_OPEN = true) (hlate : s.bakeLate s.bakeK = true)
    (q : Ctx) (ps : List Word) : hBakeClose q ps s = (.late, s.clearBake.raise 9 0) := by
  rw [hBakeClose, hopen, hlate]
  rfl

theorem hAuditAccept_held {s : State} (h : s.peelHeld = true) (q : Ctx) (ps : List Word) :
    hAuditAccept q ps s = (.done, { s with mgr := { s.mgr with
      workers := s.mgr.workers.map (fun (w : Worker) => { w with tile := (w.beacon.map (fun b => b.2.2.2)).orElse (fun _ => w.tile) }) } }) := by
  rw [hAuditAccept, h]
  rfl

/-- Settles O13, command by command; BAKE_ABORT of a closed bake drops the completion too by the model's choice (assumption
log 46). -/
theorem bakeCommandsTakeEffect : Obligations.BakeCommandsTakeEffect := by
  refine ⟨completes_of (fun _ _ => rfl) (by decide) fun c h _ _ hp => ⟨?_, by simp⟩,
    completes_of (fun _ _ => rfl) (by decide) fun c h _ _ hp => ⟨?_, by simp⟩,
    completes_of (fun _ _ => rfl) (by decide) fun c h _ _ hp => ⟨hBakeClose_inTime hp.1 hp.2 (c.ctx opBakeClose) c.params, by simp⟩,
    completes_of (fun _ _ => rfl) (by decide) fun c h _ _ hp => ⟨hBakeClose_late hp.1 hp.2 (c.ctx opBakeClose) c.params, by simp⟩,
    completes_of (fun _ _ => rfl) (by decide) fun c h _ _ _ => ⟨rfl, by simp⟩,
    completes_of (fun _ _ => rfl) (by decide) fun c h _ _ hp => ⟨hAuditAccept_held hp (c.ctx opAuditAccept) c.params, by simp⟩⟩
  · obtain ⟨h0, hepoch, hlow, hhigh, hopen, hclosed⟩ := hp
    exact hBakeOpen_opens h0 hepoch hlow hhigh hopen hclosed (c.ctx opBakeOpen)
  · obtain ⟨hopen, hne, heven, hok, hroom⟩ := hp
    rw [← bakePairs_length] at hroom
    exact hBakeWrite_appends hopen hne heven hok hroom (c.ctx opBakeWrite)

end Sys2Proof.Machine
end

section
/-! POWER_STATE, SOFT_RESET, BISQUE_LOAD, BISQUE_WRITE and OWNER_FLASH_WRITE (R507, R508, R511, R513, R537). -/

namespace Sys2Proof.Machine

/-! ### POWER_STATE and SOFT_RESET -/

/-- POWER_STATE that stage and engines allow binds the state to its tick. -/
theorem hPowerState_bound {ps : List Word} {s : State} (hm : s.isMgr = false) (h3 : bits (nthW ps 0) 1 0 ≠ 3)
    (hstage : s.stage = 3 ∨ (s.stage = 2 ∧ bits (nthW ps 0) 1 0 ≠ 0)) (hstamp : s.eng.stamp = []) (hdefl : s.eng.deflate = [])
    (hopen : s.rb Reg.MGMT_BAKE_PEND_0116_OPEN = false) (hclosed : s.rb Reg.MGMT_BAKE_PEND_0116_CLOSED = false)
    (hstaging : s.sec.staging = none) (hahead : s.periodAhead (join48 (nthW ps 1) (nthW ps 2)) = true) (q : Ctx) :
    hPowerState q ps s =
      (.done, { s with start := { s.start with
        power := some (bits (nthW ps 0) 1 0, join48 (nthW ps 1) (nthW ps 2), bit (nthW ps 0) 2) } }.w Reg.MGMT_POWER_PENDING
          (if bits (nthW ps 0) 1 0 = 0 then 3 else bits (nthW ps 0) 1 0)) := by
  have hstages : ((decide (bits (nthW ps 0) 1 0 ≠ 0) && decide (s.stage ≠ 2) && decide (s.stage ≠ 3))
      || (decide (bits (nthW ps 0) 1 0 = 0) && decide (s.stage ≠ 3))) = false := by
    rcases hstage with h | ⟨h, h0⟩ <;> simp [h]
    exact h0
  have hbusy : (!s.eng.stamp.isEmpty || !s.eng.deflate.isEmpty || s.rb Reg.MGMT_BAKE_PEND_0116_OPEN
      || s.rb Reg.MGMT_BAKE_PEND_0116_CLOSED || s.sec.staging.isSome) = false := by
    rw [hstamp, hdefl, hopen, hclosed, hstaging]
    rfl
  rw [hPowerState, if_neg (by simp [hm]), if_neg h3, hstages, if_neg Bool.false_ne_true, hbusy, if_neg Bool.false_ne_true,
    if_neg (by simp [hahead])]

/-- SOFT_RESET of blocks that may be reset binds its mask to its tick. -/
theorem hSoftReset_bound {ps : List Word} {s : State} (h0 : bits (nthW ps 0) 13 0 ≠ 0)
    (hmask : bits (nthW ps 0) 13 0 = 0x3FFF ∨ ((bits (nthW ps 0) 13 0).testBit 2 = false ∧ (bits (nthW ps 0) 13 0).testBit 3 = false
      ∧ (bits (nthW ps 0) 13 0).testBit 4 = false ∧ (bits (nthW ps 0) 13 0).testBit 6 = false))
    (htick : bit (nthW ps 0) 35 = true ∨ s.periodAhead (join48 (nthW ps 1) (nthW ps 2)) = true) (q : Ctx) :
    hSoftReset q ps s =
      (let f := if bit (nthW ps 0) 35 then s.nextTick else join48 (nthW ps 1) (nthW ps 2)
       (.done f, { s with start := { s.start with soft := some (bits (nthW ps 0) 13 0, f) } })) := by
  have hparts : (decide (bits (nthW ps 0) 13 0 = 0) || (decide (bits (nthW ps 0) 13 0 ≠ 0x3FFF)
      && [2, 3, 4, 6].any (fun b => (bits (nthW ps 0) 13 0).testBit b))) = false := by
    rcases hmask with h | ⟨h2, h3, h4, h6⟩
    · simp [h]
    · simp [h0, h2, h3, h4, h6]
  have hlate : (!bit (nthW ps 0) 35
      && !s.periodAhead (if bit (nthW ps 0) 35 then s.nextTick else join48 (nthW ps 1) (nthW ps 2))) = false := by
    rcases htick with h | h
    · rw [h]
      rfl
    · cases hb : bit (nthW ps 0) 35
      · simp [h]
      · rfl
  rw [hSoftReset, hparts, if_neg Bool.false_ne_true, hlate, if_neg Bool.false_ne_true]

/-! ### BISQUE_LOAD and BISQUE_WRITE -/

theorem hBisqueLoad_release {ps : List Word} {s : State} (hload : bits (nthW ps 0) 1 0 = 2)
    (hshow : s.rb Reg.MGMT_BISQUE_SHOWING = true) (q : Ctx) :
    hBisqueLoad q ps s = (.done, { s with start := { s.start with showNext := some false } }) := by
  rw [hBisqueLoad, hload]
  exact if_pos hshow

/-- SHOW in glost on a worker: the image's fault, or its show from the next tick. -/
theorem hBisqueLoad_show {ps : List Word} {s : State} (hload : bits (nthW ps 0) 1 0 = 1) (hstage : s.stage = 2)
    (hm : s.isMgr = false) (q : Ctx) :
    hBisqueLoad q ps s =
      match s.bisqueError s.bisqueImage with
      | some k => (.fault k, s.bisqueFails (some k))
      | none =>
        let t := s.takeBisque s.bisqueImage true
        (.done, { t with start := { t.start with showNext := some true } }) := by
  rw [hBisqueLoad, hload]
  dsimp only
  rw [if_neg (by omega), if_neg (by simp [hstage, hm])]
  cases s.bisqueError s.bisqueImage <;> rfl

/-- VERIFY completes with the image's verdict. -/
theorem hBisqueLoad_verify {ps : List Word} (hload : bits (nthW ps 0) 1 0 = 0) (q : Ctx) (s : State) :
    hBisqueLoad q ps s =
      (let e := s.bisqueError s.bisqueImage
       ((match e with | none => .done s.bisqueImage.length | some k => .fault k), (s.showBisque s.bisqueImage e).bisqueFails e)) := by
  rw [hBisqueLoad, hload]
  dsimp only
  cases s.bisqueError s.bisqueImage <;> rfl

theorem hBisqueWrite_begins {ps : List Word} {s : State} (hidle : s.start.bisWrite = none) (h0 : bits (nthW ps 2) 27 0 ≠ 0)
    (himage : s.imageOk (bits (nthW ps 1) 27 0) (bits (nthW ps 2) 27 0) = true) (q : Ctx) :
    hBisqueWrite q ps s = (.accepted, { s with start := { s.start with
      bisWrite := some (bits (nthW ps 0) 0 0, bits (nthW ps 1) 27 0, bits (nthW ps 2) 27 0, q.req) } }) := by
  rw [hBisqueWrite, if_neg (by simp [h0, himage]), if_neg (by simp [hidle])]

/-! ### OWNER_FLASH_WRITE -/

/-- A transfer from DRAM into flash is taken where its image lies in DRAM and its place in flash. -/
theorem hOwnerFlashWrite_toFlash {ps : List Word} {s : State} (hdir : bit (nthW ps 0) 35 = false) (hd : s.dramUp = true)
    (hoff : bits (nthW ps 0) 27 0 % 4096 = 0) (hend : 0x1600000 + bits (nthW ps 0) 27 0 + bits (nthW ps 2) 27 0 ≤ flashEnd)
    (himage : s.imageOk (bits (nthW ps 1) 27 0) (pairWords (bits (nthW ps 2) 27 0)) = true) (q : Ctx) :
    hOwnerFlashWrite q ps s = (.accepted, { s with start := { s.start with ownFlash := s.start.ownFlash ++
      [⟨false, bits (nthW ps 0) 27 0, bits (nthW ps 1) 27 0, bits (nthW ps 2) 27 0, [], false, q.req⟩] } }) := by
  have hinst : bits (nthW ps 1) 27 0 + sectorsOf (7 * bits (nthW ps 1) 27 0) (pairWords (bits (nthW ps 2) 27 0)) ≤ s.installed := by
    simp only [State.imageOk, Bool.and_eq_true, decide_eq_true_eq] at himage
    exact himage.1
  rw [hOwnerFlashWrite, if_neg (by simp [hd]), if_neg (by simp [hoff, himage, Nat.not_lt.2 hend, Nat.not_lt.2 hinst]), hdir]
  rfl

/-- A transfer from flash into DRAM that the gate lets go is a write in progress. -/
theorem hOwnerFlashWrite_toDram {ps : List Word} {s : State} {ids : List Nat} (hdir : bit (nthW ps 0) 35 = true)
    (hd : s.dramUp = true) (hoff : bits (nthW ps 0) 27 0 % 4096 = 0)
    (hend : 0x1600000 + bits (nthW ps 0) 27 0 + bits (nthW ps 2) 27 0 ≤ flashEnd)
    (hinst : bits (nthW ps 1) 27 0 + sectorsOf (7 * bits (nthW ps 1) 27 0) (pairWords (bits (nthW ps 2) 27 0)) ≤ s.installed)
    (hgate : s.gate (7 * bits (nthW ps 1) 27 0) (pairWords (bits (nthW ps 2) 27 0)) false false = .go ids) (q : Ctx) :
    hOwnerFlashWrite q ps s =
      (let t := s.markWriting ids true false
       (.accepted, { t with start := { t.start with ownFlash := t.start.ownFlash ++
         [⟨true, bits (nthW ps 0) 27 0, bits (nthW ps 1) 27 0, bits (nthW ps 2) 27 0, ids, false, q.req⟩] } })) := by
  rw [hOwnerFlashWrite, if_neg (by simp [hd]), if_neg (by simp [hoff, hdir, Nat.not_lt.2 hend, Nat.not_lt.2 hinst]),
    if_neg (by simp [hdir]), hgate, hdir]

/-- Settles O14, command by command; OWNER_FLASH_WRITE never answers BUSY by the model's choice (assumption log 77). -/
theorem powerCommandsTakeEffect : Obligations.PowerCommandsTakeEffect := by
  refine ⟨completes_of (fun _ _ => rfl) (by decide) fun c h _ _ hp => ⟨?_, by simp⟩,
    completes_of (fun _ _ => rfl) (by decide) fun c h _ _ hp =>
      ⟨hSoftReset_bound hp.1 hp.2.1 hp.2.2 (c.ctx opSoftReset), by simp⟩,
    completes_of (fun _ _ => rfl) (by decide) fun c h _ _ hp => ⟨hBisqueLoad_release hp.1 hp.2 (c.ctx opBisqueLoad), by simp⟩,
    completes_of (fun _ _ => rfl) (by decide) fun c h _ _ hp =>
      ⟨hBisqueLoad_show hp.1 hp.2.1 hp.2.2 (c.ctx opBisqueLoad), ?_⟩,
    completes_of (fun _ _ => rfl) (by decide) fun c h _ _ hp => ⟨hBisqueLoad_verify hp (c.ctx opBisqueLoad) h, ?_⟩,
    completes_of (fun _ _ => rfl) (by decide) fun c h _ _ hp =>
      ⟨hBisqueWrite_begins hp.1 hp.2.1 hp.2.2 (c.ctx opBisqueWrite), by simp⟩,
    completes_of (fun _ _ => rfl) (by decide) fun c h _ _ hp => ⟨?_, by simp⟩,
    fun ids => completes_of (fun _ _ => rfl) (by decide) fun c h _ _ hp => ⟨?_, by simp⟩⟩
  · obtain ⟨hm, h3, hstage, hstamp, hdefl, hopen, hclosed, hstaging, hahead⟩ := hp
    exact hPowerState_bound hm h3 hstage hstamp hdefl hopen hclosed hstaging hahead (c.ctx opPowerState)
  · cases h.bisqueError h.bisqueImage <;> simp
  · cases h.bisqueError h.bisqueImage <;> simp
  · obtain ⟨hdir, hd, hoff, hend, himage⟩ := hp
    exact hOwnerFlashWrite_toFlash hdir hd hoff hend himage (c.ctx opOwnerFlashWrite)
  · obtain ⟨hdir, hd, hoff, hend, hinst, hgate⟩ := hp
    exact hOwnerFlashWrite_toDram hdir hd hoff hend hinst hgate (c.ctx opOwnerFlashWrite)

end Sys2Proof.Machine
end

section
/-! UPDATE_STAGE, UPDATE_ACTIVATE and UPDATE_COMMIT (R475, R476). -/

namespace Sys2Proof.Machine

theorem hUpdateStage_begins {ps : List Word} {s : State} (htrial : s.sec.boot.trial = false) (hidle : s.sec.staging = none)
    (hsize : 9 * cdiv (bits (nthW ps 1) 27 0) 2 ≤ 4194304)
    (himage : s.imageOk (bits (nthW ps 0) 27 0) (bits (nthW ps 1) 27 0) = true) (q : Ctx) :
    hUpdateStage q ps s = (.accepted, { s with sec := { s.sec with
      staging := some (bits (nthW ps 0) 27 0, bits (nthW ps 1) 27 0, q.req) } }.w Reg.MGMT_FW_0150_STAGING 1) := by
  rw [hUpdateStage, if_neg (by simp [himage, Nat.not_lt.2 hsize]), if_neg (by simp [htrial, hidle])]

/-- The boot record of a slot on trial. -/
def BootRecord.onTrial (b : BootRecord) : BootRecord := ⟨!b.active, true, 0, b.seq + 1⟩

/-- UPDATE_ACTIVATE outside a trial: refused where the slot does not verify, else on trial, with the reset asked for. -/
theorem hUpdateActivate_of_idle {ps : List Word} {s : State} (htrial : s.sec.boot.trial = false)
    (hreset : bit (nthW ps 0) 12 = true → s.periodAhead (join48 (nthW ps 0) (nthW ps 1)) = true) (q : Ctx) :
    hUpdateActivate q ps s =
      if s.slotOk (!s.sec.boot.active) then
        let t := { s with sec := { s.sec with boot := s.sec.boot.onTrial } }
        (.done, if bit (nthW ps 0) 12 then { t with start := { t.start with soft := some (0x3FFF, join48 (nthW ps 0) (nthW ps 1)) } }
          else t)
      else (.denied, s) := by
  have hahead : (bit (nthW ps 0) 12 && !s.periodAhead (join48 (nthW ps 0) (nthW ps 1))) = false := by
    cases hb : bit (nthW ps 0) 12
    · rfl
    · rw [hreset hb]
      rfl
  rw [hUpdateActivate, if_neg (by simp [htrial])]
  cases s.slotOk (!s.sec.boot.active)
  · rfl
  · rw [if_neg (by simp), hahead]
    rfl

/-- Settles O15, command by command; DENIED for a slot that does not verify is the model's choice (assumption log 76). -/
theorem updateCommandsTakeEffect : Obligations.UpdateCommandsTakeEffect := by
  refine ⟨completes_of (fun _ _ => rfl) (by decide) fun c h _ _ hp =>
      ⟨hUpdateStage_begins hp.1 hp.2.1 hp.2.2.1 hp.2.2.2 (c.ctx opUpdateStage), by simp⟩,
    completes_of (fun _ _ => rfl) (by decide) fun c h _ _ hp => ⟨?_, ?_⟩,
    completes_of (fun _ _ => rfl) (by decide) fun c h _ _ hp => ⟨?_, ?_⟩,
    completes_of (fun _ _ => rfl) (by decide) fun c h _ _ hp => ⟨?_, by simp⟩,
    completes_of (fun _ _ => rfl) (by decide) fun c h _ _ hp => ⟨?_, by simp⟩⟩
  · refine (hUpdateActivate_of_idle hp.1 (by simp [hp.2]) (c.ctx opUpdateActivate)).trans ?_
    rw [hp.2]
    rfl
  · dsimp only
    split <;> simp
  · refine (hUpdateActivate_of_idle hp.1 (fun _ => hp.2.2) (c.ctx opUpdateActivate)).trans ?_
    rw [hp.2.1]
    rfl
  · dsimp only
    split <;> simp
  · exact congrArg (Prod.mk Ans.done) (if_pos hp)
  · exact congrArg (Prod.mk Ans.done) (if_neg (by simp [hp]))

end Sys2Proof.Machine
end

section
/-! TIME_SCHEDULE, TIME_PHASE and TIME_ADJUST (R352, R363, R367). -/

namespace Sys2Proof.Machine

/-- A TIME_SCHEDULE whose time, rate and limits hold. -/
def State.scheduleFits (s : State) (ps : List Word) : Bool :=
  timeOk (nthW ps 4) (nthW ps 5) && rateRange (bits (nthW ps 2) 35 17) (bits (nthW ps 2) 16 4)
  && rateChecks (s.rb Reg.EMIT_HEAD_CTRL_SCAN_EN) s.lowGrade
    (s.setSchedule (join48 (nthW ps 0) (nthW ps 1)) (timeOfWords (nthW ps 3) (nthW ps 4) (nthW ps 5)) (bits (nthW ps 2) 35 17)
      (bits (nthW ps 2) 16 4)).planned

/-- With CURRENT = 1 the tick re-phases at once. -/
theorem hTimeSchedule_current {ps : List Word} {s : State} (hcur : bit (nthW ps 0) 35 = true) (hfit : s.scheduleFits ps = true)
    (q : Ctx) :
    hTimeSchedule q ps s =
      (.done, ((s.setSchedule (join48 (nthW ps 0) (nthW ps 1)) (timeOfWords (nthW ps 3) (nthW ps 4) (nthW ps 5))
        (bits (nthW ps 2) 35 17) (bits (nthW ps 2) 16 4)).rephase s 4).showTime) := by
  simp only [State.scheduleFits, Bool.and_eq_true] at hfit
  obtain ⟨⟨htime, hrate⟩, hlimits⟩ := hfit
  rw [hTimeSchedule, if_neg (by simp [htime, hrate, hlimits]), if_pos hcur]

/-- With CURRENT = 0 the change is kept for its tick, where its anchor lies near that tick and the tick ahead. -/
theorem hTimeSchedule_kept {ps : List Word} {s : State} (hcur : bit (nthW ps 0) 35 = false) (hfit : s.scheduleFits ps = true)
    (hnear : bit (nthW ps 0) 34 = true →
      (((bits (nthW ps 2) 16 4 * secUnits : Nat) : Int)
        ≤ 2 * (((timeOfWords (nthW ps 3) (nthW ps 4) (nthW ps 5) : Int) - s.plannedAt (join48 (nthW ps 0) (nthW ps 1)))
            * bits (nthW ps 2) 35 17))
      ∧ ((timeOfWords (nthW ps 3) (nthW ps 4) (nthW ps 5) : Int) - s.plannedAt (join48 (nthW ps 0) (nthW ps 1))) * bits (nthW ps 2) 35 17
        ≤ 2 * ((bits (nthW ps 2) 16 4 * secUnits : Nat) : Int))
    (hticked : s.time.ticked = true → s.time.last < join48 (nthW ps 0) (nthW ps 1))
    (hahead : ((s.den * secUnits : Nat) : Int) ≤ (s.plannedAt (join48 (nthW ps 0) (nthW ps 1)) - s.tb3) * s.num)
    (hroom : s.time.scheds.length < 8) (q : Ctx) :
    hTimeSchedule q ps s =
      (.done, { s with time := { s.time with scheds := putSched s.time.scheds ⟨join48 (nthW ps 0) (nthW ps 1), bit (nthW ps 0) 34,
        timeOfWords (nthW ps 3) (nthW ps 4) (nthW ps 5), bits (nthW ps 2) 35 17, bits (nthW ps 2) 16 4⟩ } }) := by
  simp only [State.scheduleFits, Bool.and_eq_true] at hfit
  obtain ⟨⟨htime, hrate⟩, hlimits⟩ := hfit
  rw [hTimeSchedule, if_neg (by simp [htime, hrate, hlimits]), if_neg (by simp [hcur]), if_neg, if_neg, if_neg]
  · simp only [Bool.and_eq_true, decide_eq_true_eq]
    omega
  · simp only [Bool.or_eq_true, Bool.and_eq_true, decide_eq_true_eq]
    rintro (⟨ht, hk⟩ | hlate)
    · exact absurd (hticked ht) (Nat.not_lt.2 hk)
    · exact absurd hahead (Int.not_le.2 hlate)
  · simp only [Bool.and_eq_true, Bool.or_eq_true, decide_eq_true_eq]
    rintro ⟨hset, hfar⟩
    obtain ⟨hlow, hhigh⟩ := hnear hset
    rcases hfar with h | h
    · exact absurd hlow (Int.not_le.2 (by exact_mod_cast h))
    · exact absurd hhigh (Int.not_le.2 (by exact_mod_cast h))

theorem hTimePhase_kept {s : State} (h : s.rb Reg.TIME_TICK_CTRL_BOUNDARY = false) (q : Ctx) (ps : List Word) :
    hTimePhase q ps s =
      (if s.time.ticked && join48 (nthW ps 0) (nthW ps 1) ≤ s.time.last then .late else .done,
        { s with time := { s.time with
          phase := some (join48 (nthW ps 0) (nthW ps 1), sext 36 (nthW ps 2).toNat, sext 36 (nthW ps 3).toNat) } }) := by
  rw [hTimePhase, h]
  rfl

theorem hTimeAdjust_soft {ps : List Word} {s : State} (h3 : bits (nthW ps 0) 1 0 ≠ 3) (hsoft : s.servo (bits (nthW ps 0) 1 0) = false)
    (q : Ctx) :
    hTimeAdjust q ps s = (.done, s.stepBase (bits (nthW ps 0) 1 0)
      (sext 72 ((nthW ps 1).toNat * 2 ^ 36 + (nthW ps 2).toNat) * 2 ^ 18)) := by
  rw [hTimeAdjust, if_neg (by simp [h3, hsoft])]

/-- Settles O16, command by command. -/
theorem timeCommandsTakeEffect : Obligations.TimeCommandsTakeEffect := by
  refine ⟨completes_of (fun _ _ => rfl) (by decide) fun c h _ _ hp => ⟨?_, by simp⟩,
    completes_of (fun _ _ => rfl) (by decide) fun c h _ _ hp => ⟨?_, by simp⟩,
    completes_of (fun _ _ => rfl) (by decide) fun c h _ _ hp => ⟨hTimePhase_kept hp (c.ctx opTimePhase) c.params, ?_⟩,
    completes_of (fun _ _ => rfl) (by decide) fun c h _ _ hp => ⟨hTimeAdjust_soft hp.1 hp.2 (c.ctx opTimeAdjust), by simp⟩⟩
  · obtain ⟨hcur, htime, hrate, hlimits⟩ := hp
    exact hTimeSchedule_current hcur (by rw [State.scheduleFits, htime, hrate, hlimits]; rfl) (c.ctx opTimeSchedule)
  · obtain ⟨hcur, hnear, htime, hrate, hlimits, hticked, hahead, hroom⟩ := hp
    exact hTimeSchedule_kept hcur (by rw [State.scheduleFits, htime, hrate, hlimits]; rfl) hnear hticked hahead hroom
      (c.ctx opTimeSchedule)
  · dsimp only
    split <;> simp

end Sys2Proof.Machine
end

section
/-! CLAIM, OWNER_TRANSFER, FLOOR_SET and POLICY_SET (R455–R458, R472). -/

namespace Sys2Proof.Machine

@[simp] theorem State.setStore_slots (s : State) (t : SealedStore) : (s.setStore t).sec.slots = s.sec.slots := by
  simp [State.setStore, State.showStore]

@[simp] theorem State.setStore_free (s : State) (t : SealedStore) (k : Nat) : (s.setStore t).free k = s.free k := by
  simp [State.setStore, State.showStore, State.free]

/-- CLAIM by the SPI port with CLAIM_N low (R457). -/
theorem hClaim_atPort {q : Ctx} {s : State} (hvia : q.src.via = .spi) (hseals : q.src.seals = [])
    (hclaim : s.rb Reg.MGMT_STRAPS_CLAIM = true) (hroom : s.sec.slots.length < 8) (ps : List Word) :
    hClaim q ps s = if s.ownerSlot.map s.slotHash = some (Config.sha384 (bytesOf 96 ps)) then (.done (s.ownerSlot.getD 0 + 1), s)
      else s.claimSlot (bytesOf 96 ps) := by
  rw [hClaim, if_neg (by simp [hvia, hseals, hclaim])]
  cases s.ownerSlot with
  | none => exact if_neg (by omega)
  | some i => simp [Nat.not_le.2 hroom]

theorem State.claimSlot_eq (s : State) (key : List Byte) :
    s.claimSlot key =
      let t := s.setStore { SealedStore.empty with seq := s.sec.store.seq }
      let n := s.sec.slots.length + 1
      let spoilt := decide (s.free 456 % 2 = 1)
      let u := { t.drawn with sec := { t.sec with slots := s.sec.slots ++ [(⟨Config.sha384 key, !spoilt⟩ : OwnerSlot)] } }.showOtp
      let v := u.raiseIf (decide (7 ≤ n)) 66 0
      if spoilt then (.fault n, v) else (.done n, v.raise 64 0) := by
  simp [State.claimSlot, State.programSlot]

/-- OWNER_TRANSFER with a free slot: the root that is signed for, or DENIED (R458). -/
theorem hOwnerTransfer_of_room {s : State} (hroom : s.sec.slots.length < 8) (q : Ctx) (ps : List Word) :
    hOwnerTransfer q ps s =
      if blockSigner (ps.drop 22) = 2 ∧ blockCerts (ps.drop 22) = 0 ∧ s.blockOk none (ps.take 22) (ps.drop 22) = true then
        let p := s.programSlot (bytesOf 96 (ps.take 22))
        let t := p.2.2.sec.store
        if p.2.1 then (.fault p.1, p.2.2)
        else (.done p.1, (p.2.2.setStore { t with
          keys := [], floors := SealedStore.empty.floors, cosign := false, transferred := true
          creds := t.creds.map (fun (c : Cred) => { c with legacy := true }) }).endSessions.raise 65 0)
      else (.denied, s.raiseFw 75 0) := by
  rw [hOwnerTransfer]
  by_cases h : blockSigner (ps.drop 22) = 2 ∧ blockCerts (ps.drop 22) = 0 ∧ s.blockOk none (ps.take 22) (ps.drop 22) = true
  · rw [if_pos h, if_neg (by simp [h]), if_neg (by omega)]
  · rw [if_neg h, if_pos (by simpa [imp_iff_not_or, or_assoc] using h)]

theorem hFloorSet_of_role {ps : List Word} (hrole : bits (nthW ps 0) 3 0 ≤ 8) (q : Ctx) (s : State) :
    hFloorSet q ps s =
      let role := bits (nthW ps 0) 3 0
      let gen := bits (nthW ps 1) 35 20
      if s.blockOk (some 8) (ps.take 2) (ps.drop 2) then
        (.done, if nth s.sec.store.floors role < gen then
            (s.setStore { s.sec.store with floors := setNth s.sec.store.floors role gen }).raise 80 0
          else s)
      else (.denied, s.raiseFw 75 8) := by
  rw [hFloorSet, if_neg (by omega), State.checkBlock]
  cases s.blockOk (some 8) (ps.take 2) (ps.drop 2)
  · rfl
  · exact (apply_ite (Prod.mk Ans.done) _ _ _).symm

theorem hPolicySet_eq (q : Ctx) (ps : List Word) (s : State) :
    hPolicySet q ps s = if s.blockOk (some 5) (ps.take 1) (ps.drop 1) then
        (.done, s.setStore { s.sec.store with cosign := bit (nthW ps 0) 0 })
      else (.denied, s.raiseFw 75 5) := by
  rw [hPolicySet, State.checkBlock]
  cases s.blockOk (some 5) (ps.take 1) (ps.drop 1) <;> rfl

/-- Settles O17, command by command; DENIED for a block that does not verify, and the value and the FAULT of a slot that spoils, are the
model's choices (assumption logs 48, 76). -/
theorem ownerCommandsTakeEffect : Obligations.OwnerCommandsTakeEffect := by
  refine ⟨completes_of (fun _ _ => rfl) (by decide) fun c h _ _ hp => ⟨?_, ?_⟩,
    completes_of (fun _ _ => rfl) (by decide) fun c h _ _ hp => ⟨hOwnerTransfer_of_room hp (c.ctx opOwnerTransfer) c.params, ?_⟩,
    completes_of (fun _ _ => rfl) (by decide) fun c h _ _ hp => ⟨hFloorSet_of_role hp (c.ctx opFloorSet) h, ?_⟩,
    completes_of (fun _ _ => rfl) (by decide) fun c h _ _ _ => ⟨hPolicySet_eq (c.ctx opPolicySet) c.params h, ?_⟩⟩
  · exact (hClaim_atPort (q := c.ctx opClaim) hp.1 hp.2.1 hp.2.2.1 hp.2.2.2 c.params).trans
      (congrArg (ite _ _) (h.claimSlot_eq _))
  all_goals dsimp only; split
  · simp
  · split <;> simp
  · split <;> simp
  all_goals simp

end Sys2Proof.Machine
end

section
/-! SESSION_HELLO, SESSION_AUTH, SESSION_CLOSE (R468) and SEALED_CMD (R469). -/

namespace Sys2Proof.Machine

/-- An answer of one of two kinds is given at once where both are. -/
theorem ite_code_ne_wait {p : Prop} [Decidable p] {x y : Ans × State} (hx : x.1.code ≠ 0x100) (hy : y.1.code ≠ 0x100) :
    (if p then x else y).1.code ≠ 0x100 := by
  split
  · exact hx
  · exact hy

/-! ### Host sessions -/

theorem hSessionAuth_of_session {ps : List Word} {s : State} {i : Nat} (h : s.sessionOf (bits (nthW ps 0) 35 20) = some i) (q : Ctx) :
    hSessionAuth q ps s =
      let b := ps.drop 1
      let role := if (blockChain b).all (fun x => (certRoles x).testBit 3) then 3 else 4
      let t := s.useSession i
      if t.blockOk (some role) (sessionWords (bits (nthW ps 0) 35 20) (s.hostSession i)) b then
        (.done role, (t.w Reg.SECURE_SESSION_STATE (role - 1) i).raise 72 0)
      else (.denied, (t.raiseFw 75 role).raise 73 0) := by
  rw [hSessionAuth, h]

theorem hSessionClose_of_session {ps : List Word} {s : State} {i : Nat} (h : s.sessionOf (bits (nthW ps 0) 35 20) = some i) (q : Ctx) :
    hSessionClose q ps s = (.done, s.endSession i) := by
  rw [hSessionClose, h]

/-! ### Sealed commands -/

/-- A command that is heard goes to the interpreter, whatever its transport. -/
theorem State.take_heard {s : State} {n : Nat} {c : Cmd} (h : s.heard n c = true) (o : Option OpSpec) :
    s.take o n c = s.interpret c.params.length o n c := by
  simp only [State.heard, Bool.and_eq_true, Bool.not_eq_true'] at h
  obtain ⟨⟨halive, hvia⟩, -⟩ := h
  unfold State.take
  rw [halive]
  cases hc : c.src.via with
  | spi => rfl
  | udp => simp only [hc] at hvia; simp [hvia]
  | cawell =>
    simp only [hc, Bool.and_eq_true, Bool.not_eq_true', decide_eq_true_eq] at hvia
    simp [hvia]

/-- No check of R421 stands against a served command. -/
theorem State.judgeCmd_served {s : State} {o : OpSpec} {c : Cmd} (h : s.served o c = true) :
    (s.arrived c).judgeCmd (some o) o.opcode c = (none, s.fenced c) := by
  simp only [State.served, Bool.and_eq_true, decide_eq_true_eq, Bool.not_eq_true', Option.isNone_iff_eq_none] at h
  obtain ⟨⟨⟨⟨⟨⟨⟨⟨⟨-, hlen⟩, hpass⟩, hmiss⟩, hadm⟩, hrole⟩, hstage⟩, -⟩, -⟩, -⟩ := h
  unfold State.judgeCmd
  rw [if_neg (by omega)]
  cases hw : c.fence with
  | none =>
    simp only [State.fenced, hw] at hadm hrole hstage ⊢
    simp [hmiss, hadm, hrole, hstage]
  | some w =>
    simp only [State.fenced, State.fencePasses, hw, Option.isNone_iff_eq_none] at hpass hadm hrole hstage ⊢
    simp [hpass, hmiss, hadm, hrole, hstage]

/-- A served command is interpreted with its own length as the bound. -/
theorem State.arrive_interpret {s : State} {o : OpSpec} {c : Cmd} (h : s.served o c = true) :
    s.arrive o c = (s.arrived c).interpret c.params.length (some o) o.opcode c := by
  simp only [State.served, Bool.and_eq_true] at h
  obtain ⟨⟨⟨⟨⟨⟨⟨⟨⟨hheard, -⟩, -⟩, -⟩, -⟩, -⟩, -⟩, -⟩, -⟩, -⟩ := h
  exact State.take_heard hheard (some o)

/-- What a served SEALED_CMD does: the answer of an opening that failed, or the inner packet at the interpreter. -/
theorem State.interpret_sealed {s : State} {c : Cmd} (h : s.served opSealedCmd c = true) {n : Nat} :
    (s.arrived c).interpret (n + 1) (some opSealedCmd) 0x210 c =
      (match if toTiles c.route then .inl .badParam else (s.handed opSealedCmd c).openSealed c with
      | .inl a =>
        let t := (s.handed opSealedCmd c).raiseIf (a = .denied 3) 74 0
        (t.cached c.src 0x210 c.tag a.code a.detail a.words).sendReply t c.src 0x210 c.tag a
      | .inr (i, ws) =>
        let h := s.handed opSealedCmd c
        let t := (h.setHost i { h.hostSession i with ctrUp := (nthW c.params 1).toNat + 1 }).useSession i
        let m := bits (nthW ws 0) 35 24
        let src : Source := { c.src with seals := (bits (nthW c.params 0) 35 20, c.tag) :: c.src.seals }
        let inner : Cmd := { c with src := src, tag := bits (nthW ws 0) 23 12, route := nthW ws 1
                                    params := (ws.drop 2).take (bits (nthW ws 0) 11 0), fence := none }
        if innerOk ws then t.interpret n (opFind m) m inner else t.sendReply t src m inner.tag .badLength) := by
  have hjudge : (s.arrived c).judgeCmd (some opSealedCmd) 0x210 c = (none, s.fenced c) := State.judgeCmd_served h
  rw [State.interpret.eq_def, if_neg (by simp), hjudge]
  simp only [ne_eq, not_true_eq_false, if_false]
  change (match (if toTiles c.route then .inl .badParam else (s.handed opSealedCmd c).openSealed c) with | .inl a => _ | .inr (i, ws) => _) = _
  cases hopen : (if toTiles c.route then .inl .badParam else (s.handed opSealedCmd c).openSealed c) with
  | inl a => rfl
  | inr p =>
    cases hok : innerOk p.2
    · simp [hok]
      rfl
    · simp [hok]
      rfl

/-- Settles O18, command by command; BAD_PARAM for a SEALED_CMD whose route names tiles is the model's choice (assumption log 15). -/
theorem sessionCommandsTakeEffect : Obligations.SessionCommandsTakeEffect := by
  refine ⟨completes_of (fun _ _ => rfl) (by decide) fun c h _ _ _ => ⟨rfl, by simp⟩,
    fun i => completes_of (fun _ _ => rfl) (by decide) fun c h _ _ hp => ⟨hSessionAuth_of_session hp (c.ctx opSessionAuth), ?_⟩,
    fun i => completes_of (fun _ _ => rfl) (by decide) fun c h _ _ hp => ⟨hSessionClose_of_session hp (c.ctx opSessionClose), by simp⟩,
    fun c s h => ?_⟩
  · exact ite_code_ne_wait (by simp) (by simp)
  · have hlow : 8 ≤ c.params.length := by
      simp only [State.served, Bool.and_eq_true, decide_eq_true_eq] at h
      exact h.1.1.2
    obtain ⟨n, hn⟩ : ∃ n, c.params.length = n + 1 := ⟨c.params.length - 1, by omega⟩
    refine congrArg _ ((State.arrive_interpret h).trans ?_)
    rw [hn]
    exact State.interpret_sealed h

end Sys2Proof.Machine
end

section
/-! ATTEST, PROVISION, KEY_LOAD, KEY_DROP and DEBUG_UNLOCK (R460–R464, R471). -/

namespace Sys2Proof.Machine

/-- The two draws of ATTEST leave the time as it was. -/
theorem hAttest_eq (q : Ctx) (ps : List Word) (s : State) :
    hAttest q ps s =
      let eph := bit (nthW ps 12) 0
      let h1 := s.drew 1
      let rep := h1.attestReport (ps.take 12) (if eph then wordsOf (Config.ecPublic s.draw) else List.replicate 22 0)
      let locked := h1.r Reg.SECURE_STATUS_DEBUG = 0 && !h1.sec.pathsOff
      let h2 := if locked then h1.drew 1 else h1
      (.reply (rep ++ if locked then h1.makeBlock 1 attestWords Config.attestKey rep else [0]),
        { h2 with sec := { h2.sec with eph := if eph then some ⟨s.draw, rep, s.now⟩ else none } }) := by
  rw [hAttest]
  dsimp only
  cases decide ((s.drew 1).r Reg.SECURE_STATUS_DEBUG = 0) && !(s.drew 1).sec.pathsOff <;> rfl

theorem hProvision_held {ps : List Word} {s : State} {e : Ephemeral} (hkind : bits (nthW ps 0) 35 34 ≤ 1)
    (hn : bits (nthW ps 0) 33 32 = 1 ∨ bits (nthW ps 0) 33 32 = 2) (hlen : ps.length = 64 + 47 * bits (nthW ps 0) 33 32)
    (hmgr : bits (nthW ps 0) 35 34 = 1 → s.isMgr = true) (he : s.ephHeld = some e) (q : Ctx) :
    hProvision q ps s =
      let t := { s with sec := { s.sec with eph := none } }
      match s.provisioned e ps with
      | none => (.denied 2, t.raise 68 0)
      | some x => (.done x.gen, (t.setStore { t.sec.store with creds := installCred t.sec.store.creds x }).raise 67 0) := by
  have hrole : (decide (bits (nthW ps 0) 35 34 = 1) && !s.isMgr) = false := by
    by_cases h : bits (nthW ps 0) 35 34 = 1
    · simp [hmgr h]
    · simp [h]
  rw [hProvision, if_neg (by simp only [Bool.or_eq_true, decide_eq_true_eq]; omega), hrole, he]
  rfl

/-- A key loaded takes at most one place. -/
theorem loadKeys_length_le (new : List ContentKey) : ∀ l : List ContentKey, (loadKeys l new).length ≤ new.length + l.length := by
  induction new with
  | nil => intro l; simp [loadKeys]
  | cons k t ih =>
    intro l
    refine (ih _).trans ?_
    dsimp only
    split <;> simp <;> omega

theorem hKeyLoad_of_room {ps : List Word} {s : State} (htag : nthW ps 0 = 0x4E7B0D001) (hn : bits (nthW ps 1) 35 32 ≠ 0)
    (hlen : 31 + 10 * bits (nthW ps 1) 35 32 + 1 ≤ ps.length)
    (hroom : bits (nthW ps 1) 35 32 + s.sec.store.keys.length ≤ 64) (q : Ctx) :
    hKeyLoad q ps s =
      let n := bits (nthW ps 1) 35 32
      let m := 31 + 10 * n
      let e := bytesOf 96 ((ps.drop 2).take 22)
      if s.blockOk (some 6) (ps.take m) (ps.drop m) then
        match s.fleetKey with
        | none => (.denied, s)
        | some x =>
          match Config.gcmOpen (derive (Config.ecdh x.key e) (labelKeys ++ hashBytes (Config.sha384 e)))
              (be32 ((ps.drop 24).take 3)) (packBytes (ps.take 24)) (packBytes ((ps.drop 27).take (10 * n)))
              (be32 ((ps.drop (27 + 10 * n)).take 4)) with
          | none => (.denied, s)
          | some p =>
            let new := (List.range n).map (bundleEntry (unpackBytes p))
            let all := loadKeys s.sec.store.keys new
            if ∃ k ∈ new, k.keyId = 0 then (.badParam, s)
            else (.done all.length, (s.setStore { s.sec.store with keys := all }).raise 76 0)
      else (.denied, s.raiseFw 75 6) := by
  rw [hKeyLoad, if_neg (by simp [htag, hn, Nat.not_lt.2 hlen]), State.checkBlock]
  cases hblock : s.blockOk (some 6) (ps.take (31 + 10 * bits (nthW ps 1) 35 32)) (ps.drop (31 + 10 * bits (nthW ps 1) 35 32))
  · simp [hblock]
  · simp only [hblock, if_true, Bool.not_true, Bool.false_eq_true, if_false]
    cases s.fleetKey with
    | none => rfl
    | some x =>
      dsimp only
      cases Config.gcmOpen _ _ _ _ _ with
      | none => rfl
      | some p =>
        have hle : ¬64 < (loadKeys s.sec.store.keys ((List.range (bits (nthW ps 1) 35 32)).map (bundleEntry (unpackBytes p)))).length :=
          Nat.not_lt.2 ((loadKeys_length_le _ _).trans (by simpa using hroom))
        dsimp only
        rw [if_neg hle]
        simp only [List.any_eq_true, decide_eq_true_eq]

theorem hDebugUnlock_held {s : State} {e : Ephemeral} (he : s.ephHeld = some e) (q : Ctx) (ps : List Word) :
    hDebugUnlock q ps s =
      let level := bits (nthW ps 0) 0 0
      if s.debugOk level e.report (ps.drop 1) then
        let t := { s with
          cmd := { s.cmd with dark := true, darkNext := none }
          sec := { s.sec with eph := none, pathsOff := true, links := List.replicate 4 { LinkSession.reset with since := s.now } }
          fire := { s.fire with frames := s.fire.frames.map (fun (f : FireFrame) => { f with rays := [] }) }
          dec := { s.dec with
            pics := s.dec.pics.map (fun (p : Pic) => { p with samples := [] })
            prog := s.dec.prog.map (fun (g : Option Prog) => g.map (fun (x : Prog) => { x with samples := [] })) }
          dram := [] }
        let u := ((t.setStore { SealedStore.empty with seq := s.sec.store.seq }).endSessions).ws
          ((Reg.SECURE_STATUS_DEBUG, 0, level + 1) :: (List.range 4).flatMap (fun p =>
            [(Reg.SECURE_LINK_STATE, p, 0), (Reg.SECURE_LINK_FAR_ROLE, p, 0), (Reg.SECURE_LINK_FAR_GEN, p, 0)]))
        (.done, (u.driveBlank.driveAux.raise 79 0).raise 78 0)
      else (.denied, s.raiseFw 75 7) := by
  rw [hDebugUnlock, he]
  dsimp only
  cases s.debugOk (bits (nthW ps 0) 0 0) e.report (ps.drop 1) <;> rfl

/-- Settles O19, command by command; the emptied DRAM of a device zeroised and the codes of a refusal are the model's choices (assumption
logs 4, 48, 76). -/
theorem trustCommandsTakeEffect : Obligations.TrustCommandsTakeEffect := by
  refine ⟨completes_of (fun _ _ => rfl) (by decide) fun c h _ _ _ => ⟨hAttest_eq (c.ctx opAttest) c.params h, by simp⟩,
    fun e => completes_of (fun _ _ => rfl) (by decide) fun c h _ _ hp =>
      ⟨hProvision_held hp.1 hp.2.1 hp.2.2.1 hp.2.2.2.1 hp.2.2.2.2 (c.ctx opProvision), ?_⟩,
    completes_of (fun _ _ => rfl) (by decide) fun c h _ _ hp =>
      ⟨hKeyLoad_of_room hp.1 hp.2.1 hp.2.2.1 hp.2.2.2 (c.ctx opKeyLoad), ite_code_ne_wait ?_ (by simp)⟩,
    completes_of (fun _ _ => rfl) (by decide) fun c h _ _ _ => ⟨?_, by simp⟩,
    fun e => completes_of (fun _ _ => rfl) (by decide) fun c h _ _ hp =>
      ⟨hDebugUnlock_held hp (c.ctx opDebugUnlock) c.params, ite_code_ne_wait (by simp) (by simp)⟩⟩
  · dsimp only
    split <;> simp
  · cases h.fleetKey with
    | none => simp
    | some x =>
      dsimp only
      split
      · simp
      · exact ite_code_ne_wait (by simp) (by simp)
  · simp [opKeyDrop, hKeyDrop, State.dropKey]

end Sys2Proof.Machine
end

section
/-! What leaves DRAM and flash as they are, one lemma for each operation, in the order of the model. The stream, the decoder, the frames being fired. -/

namespace Sys2Proof.Machine

/-- The two memories of a state: DRAM and flash. -/
def State.mems (s : State) : List Host.Cell × List Host.Cell := (s.dram, s.flash)

@[simp] theorem State.mems_mk (r i c n f p cm e b st se t m h la li mg str d fi g ca em en en' dram flash o pe) :
    State.mems ⟨r, i, c, n, f, p, cm, e, b, st, se, t, m, h, la, li, mg, str, d, fi, g, ca, em, en, en', dram, flash, o, pe⟩ = (dram, flash) := by
  unfold State.mems; rfl

@[simp] theorem State.mems_eta (s : State) : (s.dram, s.flash) = s.mems := by
  unfold State.mems; rfl

@[simp] theorem State.mems_ite (p : Prop) [Decidable p] (s t : State) : (if p then s else t).mems = if p then s.mems else t.mems := by
  split <;> rfl

@[simp] theorem State.mems_snd_ite {α : Type} (p : Prop) [Decidable p] (x y : α × State) :
    (if p then x else y).2.mems = if p then x.2.mems else y.2.mems := by split <;> rfl
@[simp] theorem State.mems_fst_ite {α : Type} (p : Prop) [Decidable p] (x y : State × α) :
    (if p then x else y).1.mems = if p then x.1.mems else y.1.mems := by split <;> rfl

@[simp] theorem State.mems_foldl {β : Type} {f : State → β → State} (hf : ∀ s x, (f s x).mems = s.mems) :
    ∀ (l : List β) (s : State), (l.foldl f s).mems = s.mems
  | [], _ => rfl
  | x :: t, s => (State.mems_foldl hf t _).trans (hf s x)

theorem State.mems_foldl_snd {α β : Type} {f : α × State → β → α × State} (hf : ∀ p x, (f p x).2.mems = p.2.mems) :
    ∀ (l : List β) (p : α × State), (l.foldl f p).2.mems = p.2.mems
  | [], _ => rfl
  | x :: t, p => (State.mems_foldl_snd hf t _).trans (hf p x)

theorem State.mems_of_eq {α : Type} {x : α × State} {a : α} {t : State} (h : x = (a, t)) : t.mems = x.2.mems := by rw [h]

@[simp] theorem State.w_mems (s : State) (f : Fld) (v : Nat) (i : optParam Nat 0) : (s.w f v i).mems = s.mems := by
  unfold State.w; rfl

@[simp] theorem State.wi_mems (s : State) (f : Fld) (v : Int) (i : optParam Nat 0) : (s.wi f v i).mems = s.mems := by
  unfold State.wi; rfl

@[simp] theorem State.ws_mems (s : State) (l : List (Fld × Nat × Nat)) : (s.ws l).mems = s.mems := by
  unfold State.ws; rfl

@[simp] theorem State.count_mems (s : State) (f : Fld) (i : optParam Nat 0) (n : optParam Nat 1) : (s.count f i n).mems = s.mems := by
  unfold State.count; rfl

@[simp] theorem State.act_mems (s : State) (cls element n : Nat) : (s.act cls element n).mems = s.mems := by
  unfold State.act; rfl

@[simp] theorem State.flag_mems (s : State) (f : Fld) (m : Nat) (i : optParam Nat 0) : (s.flag f m i).mems = s.mems := by
  unfold State.flag; rfl

@[simp] theorem State.hw_mems (s : State) (f : Fld) (v : Nat) (i : optParam Nat 0) : (s.hw f v i).mems = s.mems := by
  unfold State.hw; rfl

@[simp] theorem State.setSchedule_mems (s : State) (tick time num den : Nat) : (s.setSchedule tick time num den).mems = s.mems := by
  unfold State.setSchedule; rfl

@[simp] theorem State.applySched_mems (s : State) (c : Sched) : (s.applySched c).mems = s.mems := by
  unfold State.applySched; simp

@[simp] theorem State.pass_mems (s : State) (dt : Nat) : (s.pass dt).mems = s.mems := by
  unfold State.pass; rfl

@[simp] theorem State.goto_mems (s : State) (t : Int) : (s.goto t).mems = s.mems := by
  unfold State.goto; rfl

@[simp] theorem State.gotoNow_mems (s : State) (n : Nat) : (s.gotoNow n).mems = s.mems := by
  unfold State.gotoNow; rfl

@[simp] theorem State.emit_mems (s : State) (k : OutKind) (dst : List Nat) (ws : List Word) : (s.emit k dst ws).mems = s.mems := by
  unfold State.emit; rfl

@[simp] theorem State.drawn_mems (s : State) : (s.drawn).mems = s.mems := by
  unfold State.drawn; rfl

@[simp] theorem State.putEvt_mems (s : State) (p : RegFile × EvtState) : (s.putEvt p).mems = s.mems := by
  unfold State.putEvt; rfl

@[simp] theorem State.raise_mems (s : State) (e d : Nat) : (s.raise e d).mems = s.mems := by
  unfold State.raise State.putEvt; rfl

@[simp] theorem State.raiseFw_mems (s : State) (e d : Nat) : (s.raiseFw e d).mems = s.mems := by
  unfold State.raiseFw; rfl

@[simp] theorem State.raiseIf_mems (s : State) (c : Bool) (e d : Nat) : (s.raiseIf c e d).mems = s.mems := by
  unfold State.raiseIf; simp

@[simp] theorem State.raiseTick_mems (s : State) (e i d : Nat) : (s.raiseTick e i d).mems = s.mems := by
  unfold State.raiseTick; simp

@[simp] theorem State.raises_mems : ∀ (l : List (Nat × Nat)) (s : State), (s.raises l).mems = s.mems
  | [], _ => rfl
  | _ :: t, s => (State.raises_mems t _).trans (s.raise_mems _ _)

@[simp] theorem State.sectorFail_mems (s : State) (req n : Nat) : (s.sectorFail req n).mems = s.mems := by
  unfold State.sectorFail; rfl

@[simp] theorem State.readErrs_mems (s : State) (req : Nat) (errs : List (Nat × Bool)) : (s.readErrs req errs).mems = s.mems := by
  unfold State.readErrs; simp

@[simp] theorem State.readFails_mems (s : State) (req : Nat) (errs : List ReadErr) : (s.readFails req errs).1.mems = s.mems := by
  unfold State.readFails; simp

@[simp] theorem State.bursts_mems (s : State) (wr : Bool) (m n : Nat) : (s.bursts wr m n).mems = s.mems := by
  unfold State.bursts; rfl

@[simp] theorem State.wakeChannels_mems (s : State) (x n : Nat) : (s.wakeChannels x n).mems = s.mems := by
  unfold State.wakeChannels; rfl

@[simp] theorem State.writeChannels_mems (s : State) (x n : Nat) : (s.writeChannels x n).mems = s.mems := by
  unfold State.writeChannels; rfl

@[simp] theorem State.dramUsed_mems (s : State) (wr : Bool) (n : Nat) : (s.dramUsed wr n).mems = s.mems := by
  unfold State.dramUsed; simp

@[simp] theorem State.readWords_mems (s : State) (req x n : Nat) : (s.readWords req x n).2.mems = s.mems := by
  unfold State.readWords; dsimp only; (repeat' split) <;> simp

@[simp] theorem State.queueWrite_mems (s : State) (c : Ctx) (ids : List Nat) (params : List Word) (wait force : Bool) :
    (s.queueWrite c ids params wait force).mems = s.mems := by
  unfold State.queueWrite; rfl

@[simp] theorem State.showStream_mems (s : State) : (s.showStream).mems = s.mems := by
  unfold State.showStream; rfl

@[simp] theorem State.endSeq_mems (s : State) (q : ChunkSeq) : (s.endSeq q).mems = s.mems := by
  unfold State.endSeq; simp

@[simp] theorem State.endBatchSeqs_mems (s : State) : (s.endBatchSeqs).mems = s.mems := by
  unfold State.endBatchSeqs; simp

@[simp] theorem State.loseAlign_mems (s : State) : (s.loseAlign).mems = s.mems := by
  unfold State.loseAlign; simp

@[simp] theorem State.search_mems (s : State) : (s.search).mems = s.mems := by
  unfold State.search; simp

@[simp] theorem State.atBoundary_mems (s : State) : (s.atBoundary).mems = s.mems := by
  unfold State.atBoundary; (repeat' split) <;> simp

@[simp] theorem State.settle_mems (s : State) : (s.settle).mems = s.mems := by
  unfold State.settle; simp

@[simp] theorem State.streamPacket_mems (s : State) (payload : List Word) : (s.streamPacket payload).mems = s.mems := by
  unfold State.streamPacket
  split
  · rfl
  · simp -implicitDefEqProofs

@[simp] theorem State.fifoFails_mems (s : State) (errs : List ReadErr) : (s.fifoFails errs).mems = s.mems := by
  unfold State.fifoFails; simp

@[simp] theorem State.bindEntries_mems (s : State) (n : Nat) (epoch : Option Nat) (es : List (List Word)) :
    (s.bindEntries n epoch es).mems = s.mems := by
  unfold State.bindEntries; rfl

@[simp] theorem State.behind_mems (s : State) (epoch : Nat) : (s.behind epoch).mems = s.mems := by
  unfold State.behind; simp

@[simp] theorem State.checkEpoch_mems (s : State) (n : Nat) : (s.checkEpoch n).mems = s.mems := by
  unfold State.checkEpoch; dsimp only; (repeat' split) <;> simp

@[simp] theorem State.checkEpochs_mems (s : State) (n : Nat) : (s.checkEpochs n).mems = s.mems := by
  unfold State.checkEpochs; simp

@[simp] theorem State.needIrap_mems (s : State) (n : Nat) : (s.needIrap n).mems = s.mems := by
  unfold State.needIrap; rfl

@[simp] theorem State.takeBatch_mems (s : State) (ws : List Word) : (s.takeBatch ws).mems = s.mems := by
  unfold State.takeBatch
  cases s.stream.last <;> simp -implicitDefEqProofs

@[simp] theorem State.parseBatch_mems (s : State) (ws : List Word) (rest : List StreamItem) : (s.parseBatch ws rest).mems = s.mems := by
  unfold State.parseBatch; simp

@[simp] theorem State.closeBatch_mems (s : State) : (s.closeBatch).mems = s.mems := by
  unfold State.closeBatch; split <;> simp

@[simp] theorem State.headerParse_mems (s : State) : (s.headerParse).mems = s.mems := by
  unfold State.headerParse; (repeat' split) <;> simp

@[simp] theorem State.chunkInto_mems (s : State) (seq frame idx : Nat) (live last : Bool) (got : Option (List Word)) :
    (s.chunkInto seq frame idx live last got).mems = s.mems := by
  unfold State.chunkInto; simp

@[simp] theorem State.takeChunk_mems (s : State) (frame : Nat) (live broken : Bool) (ws : List Word) :
    (s.takeChunk frame live broken ws).mems = s.mems := by
  unfold State.takeChunk; dsimp only; (repeat' split) <;> simp

@[simp] theorem State.holeChunk_mems (s : State) (frame : Nat) (live : Bool) (c0 : Word) : (s.holeChunk frame live c0).mems = s.mems := by
  unfold State.holeChunk; simp

@[simp] theorem State.brokenChunk_mems (s : State) (frame : Nat) (live : Bool) (c0 : Word) :
    (s.brokenChunk frame live c0).mems = s.mems := by
  unfold State.brokenChunk; simp

@[simp] theorem State.countChunk_mems (s : State) : (s.countChunk).mems = s.mems := by
  unfold State.countChunk; split <;> simp

@[simp] theorem State.batchChunk_mems (s : State) (b : OpenBatch) : (s.batchChunk b).mems = s.mems := by
  unfold State.batchChunk; split <;> simp

@[simp] theorem State.takeParcel_mems (s : State) (hd : List Word) (rest : List StreamItem) : (s.takeParcel hd rest).mems = s.mems := by
  unfold State.takeParcel; dsimp only; (repeat' split) <;> simp

@[simp] theorem State.prune_mems (s : State) : (s.prune).mems = s.mems := by
  unfold State.prune; rfl

@[simp] theorem State.showPool_mems (s : State) : (s.showPool).mems = s.mems := by
  unfold State.showPool; rfl

@[simp] theorem State.decErr_mems (s : State) (code seq frame addr : Nat) : (s.decErr code seq frame addr).mems = s.mems := by
  unfold State.decErr; simp

@[simp] theorem State.setProg_mems (s : State) (seq : Nat) (p : Option Prog) : (s.setProg seq p).mems = s.mems := by
  unfold State.setProg; rfl

@[simp] theorem State.setItem_mems (s : State) (i : DecItem) (j : Option DecItem) : (s.setItem i j).mems = s.mems := by
  unfold State.setItem; rfl

@[simp] theorem State.setLost_mems (s : State) (seq : Nat) (b : Bool) : (s.setLost seq b).mems = s.mems := by
  unfold State.setLost; rfl

@[simp] theorem State.takeLost_mems (s : State) (i : DecItem) : (s.takeLost i).mems = s.mems := by
  unfold State.takeLost; dsimp only; (repeat' split) <;> simp

@[simp] theorem State.chunkDone_mems (s : State) (i : DecItem) : (s.chunkDone i).mems = s.mems := by
  unfold State.chunkDone; dsimp only; (repeat' split) <;> simp

@[simp] theorem State.toSlice_mems : ∀ (n : Nat) (s : State), (State.toSlice n s).mems = s.mems
  | 0, _ => rfl
  | n + 1, s => by
    rw [State.toSlice]
    (repeat' split) <;> simp [State.toSlice_mems n]

@[simp] theorem State.drain_mems (s : State) : (s.drain).mems = s.mems := by
  unfold State.drain; simp

@[simp] theorem State.synth_mems (s : State) (seq frame cvs : Nat) (h : PicHead) (poc : Int) :
    (s.synth seq frame cvs h poc).mems = s.mems := by
  unfold State.synth; rfl

@[simp] theorem State.applyRefs_mems (s : State) (seq : Nat) (h : PicHead) (newCvs : Bool) : (s.applyRefs seq h newCvs).mems = s.mems := by
  unfold State.applyRefs; rfl

@[simp] theorem State.openSeq_mems (s : State) (seq : Nat) (h : PicHead) (type : Nat) (starts : Bool) :
    (s.openSeq seq h type starts).mems = s.mems := by
  unfold State.openSeq; rfl

@[simp] theorem State.beginPic_mems (s : State) (seq : Nat) (h : PicHead) (i : DecItem) (type : Nat) :
    (s.beginPic seq h i type).mems = s.mems := by
  unfold State.beginPic; dsimp only; (repeat' split) <;> simp

@[simp] theorem State.sliceDecoded_mems (s : State) (seq : Nat) (o : SliceOut) : (s.sliceDecoded seq o).mems = s.mems := by
  unfold State.sliceDecoded; dsimp only; (repeat' split) <;> simp

@[simp] theorem State.takePool_mems (s : State) : (s.takePool).mems = s.mems := by
  unfold State.takePool; rfl

@[simp] theorem State.poolReset_mems (s : State) : (s.poolReset).mems = s.mems := by
  unfold State.poolReset; simp

@[simp] theorem State.setFrame_mems (s : State) (f : FireFrame) : (s.setFrame f).mems = s.mems := by
  unfold State.setFrame; rfl

@[simp] theorem State.dropFrame_mems (s : State) (n : Nat) : (s.dropFrame n).mems = s.mems := by
  unfold State.dropFrame; rfl

@[simp] theorem State.once_mems (s : State) (f : FireFrame) (e d : Nat) : (s.once f e d).2.mems = s.mems := by
  unfold State.once; simp

@[simp] theorem State.sealPics_mems (s : State) (ids : List Nat) (n : Nat) : (s.sealPics ids n).mems = s.mems := by
  unfold State.sealPics; rfl

@[simp] theorem State.sealSurf_mems (s : State) (n i : Nat) : (s.sealSurf n i).mems = s.mems := by
  unfold State.sealSurf; rfl

@[simp] theorem State.sealFor_mems (s : State) (copy : RegFile) (n : Nat) : (s.sealFor copy n).mems = s.mems := by
  unfold State.sealFor; simp

@[simp] theorem State.sealBound_mems (s : State) : (s.sealBound).mems = s.mems := by
  unfold State.sealBound; simp

@[simp] theorem State.tellTie_mems (s : State) (f : FireFrame) : (s.tellTie f).2.mems = s.mems := by
  unfold State.tellTie; (repeat' split) <;> simp

@[simp] theorem State.showFire_mems (s : State) : (s.showFire).mems = s.mems := by
  unfold State.showFire; rfl

@[simp] theorem State.setTx_mems (s : State) (lane : Nat) (t : LaneTx) : (s.setTx lane t).mems = s.mems := by
  unfold State.setTx; rfl

@[simp] theorem State.dropTx_mems (s : State) (n : Nat) : (s.dropTx n).mems = s.mems := by
  unfold State.dropTx; rfl

@[simp] theorem State.stopFrames_mems (s : State) : (s.stopFrames).mems = s.mems := by
  unfold State.stopFrames; simp

@[simp] theorem State.repeatFrame_mems (s : State) (f : FireFrame) : (s.repeatFrame f).mems = s.mems := by
  unfold State.repeatFrame; simp

@[simp] theorem State.atlasCheck_mems (s : State) (n : Nat) (told : List Nat) : (s.atlasCheck n told).mems = s.mems := by
  unfold State.atlasCheck; simp

@[simp] theorem State.atlasSize_mems (s : State) (seq : Nat) : (s.atlasSize seq).mems = s.mems := by
  unfold State.atlasSize; split <;> simp

@[simp] theorem State.decideFrame_mems (s : State) (f : FireFrame) : (s.decideFrame f).mems = s.mems := by
  unfold State.decideFrame; simp

@[simp] theorem State.fitShelf_mems (s : State) (f : FireFrame) : (s.fitShelf f).2.2.mems = s.mems := by
  unfold State.fitShelf; simp

@[simp] theorem State.openBands_mems (s : State) (f : FireFrame) : (s.openBands f).2.mems = s.mems := by
  unfold State.openBands; simp

@[simp] theorem State.stopFrame_mems (s : State) (f : FireFrame) : (s.stopFrame f).mems = s.mems := by
  unfold State.stopFrame; simp

@[simp] theorem State.recheckFrame_mems (s : State) (n : Nat) : (s.recheckFrame n).mems = s.mems := by
  unfold State.recheckFrame; split <;> simp

@[simp] theorem State.renew_mems (s : State) (n : Nat) : (s.renew n).mems = s.mems := by
  unfold State.renew; split <;> simp

@[simp] theorem State.recheck_mems (s : State) : (s.recheck).mems = s.mems := by
  unfold State.recheck; simp

@[simp] theorem State.tearFrame_mems (s : State) (n id : Nat) : (s.tearFrame n id).mems = s.mems := by
  unfold State.tearFrame; split <;> simp

@[simp] theorem State.tear_mems (s : State) (ids : List Nat) : (s.tear ids).mems = s.mems := by
  unfold State.tear; simp

@[simp] theorem State.loadWindows_mems (s : State) (f : FireFrame) (b : Nat) (errs : List (Nat × Bool)) :
    (s.loadWindows f b errs).1.mems = s.mems := by
  unfold State.loadWindows; simp

end Sys2Proof.Machine
end

section
/-! What leaves DRAM and flash as they are, one lemma for each operation, in the order of the model. Links, replies, Kiln, Glaze and calibration commands. -/

namespace Sys2Proof.Machine

@[simp] theorem State.setPort_mems (s : State) (p : Nat) (v : Port) : (s.setPort p v).mems = s.mems := by
  unfold State.setPort; rfl

@[simp] theorem State.enqueue_mems (s : State) (p vc : Nat) (ws : List Word) (stomp : optParam Bool false) (buf : optParam (Option
    (Nat × Nat)) none) :
    (s.enqueue p vc ws stomp buf).mems = s.mems := by
  unfold State.enqueue; rfl

@[simp] theorem State.originate_mems (s : State) (p vc : Nat) (h1 : Word) (payload : List Word) :
    (s.originate p vc h1 payload).mems = s.mems := by
  unfold State.originate; rfl

@[simp] theorem State.choose_mems (s : State) (pri alt : Nat) : (s.choose pri alt).2.mems = s.mems := by
  unfold State.choose; simp

@[simp] theorem State.sendMgr_mems (s : State) (vc idx : Nat) (payload : List Word) : (s.sendMgr vc idx payload).mems = s.mems := by
  unfold State.sendMgr
  dsimp only
  split <;> rename_i h <;> simp [State.mems_of_eq h]

@[simp] theorem State.sendTiles_mems (s : State) (vc : Nat) (h1 : Word) (payload : List Word) :
    (s.sendTiles vc h1 payload).mems = s.mems := by
  unfold State.sendTiles
  split
  · split <;> rename_i h <;> simp [State.mems_of_eq h]
  · simp

@[simp] theorem State.onward_mems (s : State) (h0 h1 : Word) (q : Nat) (census : Bool) : (s.onward h0 h1 q census).2.mems = s.mems := by
  unfold State.onward; (repeat' split) <;> simp

@[simp] theorem State.freeWords_mems (s : State) (p vc n : Nat) : (s.freeWords p vc n).mems = s.mems := by
  unfold State.freeWords; rfl

@[simp] theorem State.leftQueue_mems (s : State) (l : List Queued) : (s.leftQueue l).mems = s.mems := by
  unfold State.leftQueue
  refine State.mems_foldl (fun s x => ?_) _ _
  split <;> simp

@[simp] theorem State.forward_mems (s : State) (p : Nat) (ports : List Nat) (ws : List Word) (stomp : Bool) :
    (s.forward p ports ws stomp).mems = s.mems := by
  unfold State.forward; simp

@[simp] theorem State.relay_mems (s : State) (p : Nat) (ws : List Word) (stomp : Bool) : (s.relay p ws stomp).2.mems = s.mems := by
  unfold State.relay; simp

@[simp] theorem State.discard_mems (s : State) (p : Nat) (ws : List Word) : (s.discard p ws).mems = s.mems := by
  unfold State.discard; simp

@[simp] theorem State.portDown_mems (s : State) (p : Nat) : (s.portDown p).mems = s.mems := by
  unfold State.portDown; simp

@[simp] theorem State.replay_mems (s : State) (p : Nat) : (s.replay p).mems = s.mems := by
  unfold State.replay; simp

@[simp] theorem State.spiReply_mems (s : State) (ws : List Word) : (s.spiReply ws).mems = s.mems := by
  unfold State.spiReply; simp

@[simp] theorem State.sendWords_mems (s : State) (src : Source) (ws : List Word) : (s.sendWords src ws).mems = s.mems := by
  unfold State.sendWords; (repeat' split) <;> simp

@[simp] theorem State.cached_mems (s : State) (src : Source) (opcode tag code detail : Nat) (ws : List Word) :
    (s.cached src opcode tag code detail ws).mems = s.mems := by
  unfold State.cached; rfl

@[simp] theorem State.bumpDown_mems (s : State) (e : Option Nat) (h : HostSession) : (s.bumpDown e h).mems = s.mems := by
  unfold State.bumpDown; split <;> simp

@[simp] theorem State.sealedSend_mems (old : State) (src : Source) :
    ∀ (l : List (Nat × Nat)) (ws : List Word) (s : State), (s.sealedSend old src l ws).mems = s.mems
  | [], _, _ => by simp [State.sealedSend]
  | q :: t, ws, s => by
    rw [State.sealedSend]
    split
    · rfl
    · simp [State.sealedSend_mems old src t]

@[simp] theorem State.sendReply_mems (s old : State) (src : Source) (opcode tag : Nat) (x : Ans) :
    (s.sendReply old src opcode tag x).mems = s.mems := by
  unfold State.sendReply; simp

@[simp] theorem State.finish_mems (s : State) (q : Req) (x : Ans) : (s.finish q x).mems = s.mems := by
  unfold State.finish; simp

@[simp] theorem State.complete_mems (s : State) (q : Req) (x : Ans) : (s.complete q x).mems = s.mems := by
  unfold State.complete; simp

@[simp] theorem State.completeOpt_mems (s : State) (q : Option Req) (x : Ans) : (s.completeOpt q x).mems = s.mems := by
  unfold State.completeOpt; split <;> simp

@[simp] theorem State.bindCommit_mems (s : State) (n : Nat) : (s.bindCommit n).mems = s.mems := by
  unfold State.bindCommit; simp

@[simp] theorem hKilnCommit_mems (q : Ctx) (ps : List Word) (s : State) : (hKilnCommit q ps s).2.mems = s.mems := by
  unfold hKilnCommit; simp

@[simp] theorem State.showTables_mems (s : State) : (s.showTables).mems = s.mems := by
  unfold State.showTables; rfl

@[simp] theorem State.runLoad_mems (s : State) (kind : Nat) (ps : List Word) : (s.runLoad kind ps).2.mems = s.mems := by
  unfold State.runLoad
  dsimp only
  split <;> rename_i h <;> simp [State.mems_of_eq h]

@[simp] theorem State.loadTable_mems (s : State) (kind table sector words : Nat) (wait : Bool) (c : Ctx) (ps : List Word) :
    (s.loadTable kind table sector words wait c ps).2.mems = s.mems := by
  unfold State.loadTable; simp

@[simp] theorem State.runLoads_mems (s : State) : (s.runLoads).mems = s.mems := by
  unfold State.runLoads; simp

@[simp] theorem hGlazeLutLoad_mems (q : Ctx) (ps : List Word) (s : State) : (hGlazeLutLoad q ps s).2.mems = s.mems := by
  unfold hGlazeLutLoad; simp

@[simp] theorem hGlazeSetLoad_mems (q : Ctx) (ps : List Word) (s : State) : (hGlazeSetLoad q ps s).2.mems = s.mems := by
  unfold hGlazeSetLoad; simp

@[simp] theorem State.undefine_mems (s : State) (i : Nat) : (s.undefine i).mems = s.mems := by
  unfold State.undefine; rfl

@[simp] theorem hSurfDefine_mems (q : Ctx) (ps : List Word) (s : State) : (hSurfDefine q ps s).2.mems = s.mems := by
  unfold hSurfDefine; simp

@[simp] theorem hKilnRelease_mems (q : Ctx) (ps : List Word) (s : State) : (hKilnRelease q ps s).2.mems = s.mems := by
  unfold hKilnRelease; simp

@[simp] theorem State.liftSurf_mems (s : State) (i : Nat) : (s.liftSurf i).mems = s.mems := by
  unfold State.liftSurf; dsimp only; (repeat' split) <;> simp

@[simp] theorem State.liftSeals_mems (s : State) : (s.liftSeals).mems = s.mems := by
  unfold State.liftSeals; simp

@[simp] theorem State.showSet_mems (s : State) (g : GlazeSet) (cooled ambient : Bool) : (s.showSet g cooled ambient).mems = s.mems := by
  unfold State.showSet; rfl

@[simp] theorem State.fixSet_mems (s : State) (f : FireFrame) : (s.fixSet f).2.mems = s.mems := by
  unfold State.fixSet; simp

@[simp] theorem State.failParity_mems (s : State) (ks : List Nat) : (s.failParity ks).mems = s.mems := by
  unfold State.failParity; rfl

@[simp] theorem State.parityHit_mems (s : State) (ctx : Nat) : (s.parityHit ctx).mems = s.mems := by
  unfold State.parityHit; rfl

@[simp] theorem State.ageHogel_mems (s : State) (f : FireFrame) (g : GlazeSet) (ctx px py : Nat) (w0 : Word) (rays : Nat) :
    (s.ageHogel f g ctx px py w0 rays).2.mems = s.mems := by
  unfold State.ageHogel; simp

@[simp] theorem State.testRecord_mems (s : State) (f : FireFrame) (g : GlazeSet) (rays : Nat) : (s.testRecord f g rays).mems = s.mems := by
  unfold State.testRecord
  split
  · rfl
  · simp -implicitDefEqProofs

@[simp] theorem State.lastRay_mems (s : State) (f : FireFrame) (g : GlazeSet) (rays : Nat) : (s.lastRay f g rays).mems = s.mems := by
  unfold State.lastRay; simp

@[simp] theorem State.stepChange_mems (s : State) (f : FireFrame) : (s.stepChange f).mems = s.mems := by
  unfold State.stepChange; split <;> simp

@[simp] theorem State.passRay_mems (s : State) (f : FireFrame) (q : RayIn) (parity : List Nat) :
    (s.passRay f q parity).2.mems = s.mems := by
  unfold State.passRay; split <;> simp

@[simp] theorem State.showCtx_mems (s : State) : (s.showCtx).mems = s.mems := by
  unfold State.showCtx; rfl

@[simp] theorem State.stageCtx_mems (s : State) (l : CtxLoad) (sector count : Nat) : (s.stageCtx l sector count).2.mems = s.mems := by
  unfold State.stageCtx
  dsimp only
  split <;> rename_i h <;> simp [State.mems_of_eq h]

@[simp] theorem hCtxLoad_mems (q : Ctx) (ps : List Word) (s : State) : (hCtxLoad q ps s).2.mems = s.mems := by
  unfold hCtxLoad
  dsimp only
  generalize (if bit (nthW ps 0) 13 = true then 8 else 2) = stride
  split
  · rfl
  split
  · rfl
  split
  · split <;> rename_i h <;> simp [State.mems_of_eq h]
  split
  · rfl
  split
  · rfl
  split
  · simp
  · split <;> rename_i h <;> simp [State.mems_of_eq h]

@[simp] theorem State.swapCtx_mems (s : State) (n : Nat) : (s.swapCtx n).mems = s.mems := by
  unfold State.swapCtx; simp

@[simp] theorem State.writeLoads_mems : ∀ (l : List CtxLoad) (s : State), (s.writeLoads l).mems = s.mems
  | [], _ => rfl
  | l :: t, s => by
    rw [State.writeLoads]
    split <;> rename_i h <;> simp [State.writeLoads_mems t, State.mems_of_eq h]

@[simp] theorem State.copyDone_mems (s : State) : (s.copyDone).mems = s.mems := by
  unfold State.copyDone; simp

@[simp] theorem State.lossLoad_mems (s : State) (ps : List Word) : (s.lossLoad ps).2.mems = s.mems := by
  unfold State.lossLoad
  dsimp only
  split
  · rfl
  · split <;> rename_i h
    · simp [State.mems_of_eq h]
    · split <;> simp [State.mems_of_eq h]

@[simp] theorem State.calPend_mems (s : State) : (s.calPend).mems = s.mems := by
  unfold State.calPend; simp

@[simp] theorem hCalRun_mems (q : Ctx) (ps : List Word) (s : State) : (hCalRun q ps s).2.mems = s.mems := by
  unfold hCalRun; simp

@[simp] theorem State.calStart_mems (s : State) : (s.calStart).mems = s.mems := by
  unfold State.calStart; rfl

@[simp] theorem State.calAbort_mems (s : State) : (s.calAbort).mems = s.mems := by
  unfold State.calAbort; split <;> simp

@[simp] theorem State.calTick_mems (s : State) (six rung2 : Bool) : (s.calTick six rung2).mems = s.mems := by
  unfold State.calTick; dsimp only; (repeat' split) <;> simp

@[simp] theorem State.calShown_mems (s : State) (n : Nat) : (s.calShown n).mems = s.mems := by
  unfold State.calShown; rfl

@[simp] theorem State.setAf_mems (s : State) (af : Nat) : (s.setAf af).mems = s.mems := by
  unfold State.setAf; rfl

@[simp] theorem State.ambRound_mems (s : State) : (s.ambRound).mems = s.mems := by
  unfold State.ambRound; simp

@[simp] theorem State.ambWrite_mems (s : State) : (s.ambWrite).mems = s.mems := by
  unfold State.ambWrite; simp

@[simp] theorem State.ambReset_mems (s : State) : (s.ambReset).mems = s.mems := by
  unfold State.ambReset; rfl

@[simp] theorem State.ambTick_mems (s : State) (t : Nat) : (s.ambTick t).mems = s.mems := by
  unfold State.ambTick; simp

@[simp] theorem State.saveStart_mems (s : State) (static : Bool) (req : Option Req) : (s.saveStart static req).mems = s.mems := by
  unfold State.saveStart; rfl

@[simp] theorem State.autoSnap_mems (s : State) : (s.autoSnap).mems = s.mems := by
  unfold State.autoSnap; simp

@[simp] theorem hCalSave_mems (q : Ctx) (ps : List Word) (s : State) : (hCalSave q ps s).2.mems = s.mems := by
  unfold hCalSave; simp

@[simp] theorem State.showSince_mems (s : State) : (s.showSince).mems = s.mems := by
  unfold State.showSince; split <;> simp

@[simp] theorem State.putWords_mems (s : State) (x : Nat) (ws : List Word) : (s.putWords x ws).mems = s.mems := by
  unfold State.putWords; rfl

@[simp] theorem State.loadStatic_mems (s : State) (area : Nat) (ws : List Word) : (s.loadStatic area ws).mems = s.mems := by
  unfold State.loadStatic; rfl

@[simp] theorem State.loadSnap_mems (s : State) (area : Nat) (ws : List Word) : (s.loadSnap area ws).mems = s.mems := by
  unfold State.loadSnap; rfl

@[simp] theorem State.storeLoad_mems (s : State) : (s.storeLoad).mems = s.mems := by
  unfold State.storeLoad; dsimp only; (repeat' split) <;> simp

end Sys2Proof.Machine
end

section
/-! What leaves DRAM and flash as they are, one lemma for each operation, in the order of the model. Emitter drive and scan-out. -/

namespace Sys2Proof.Machine

@[simp] theorem State.driveAux_mems (s : State) : (s.driveAux).mems = s.mems := by
  unfold State.driveAux; simp

@[simp] theorem State.putAux_mems (s : State) (pats palette : List Word) (frame : Nat) : (s.putAux pats palette frame).mems = s.mems := by
  unfold State.putAux; rfl

@[simp] theorem State.glostClock_mems (s : State) (k : Nat) : (s.glostClock k).mems = s.mems := by
  unfold State.glostClock; rfl

@[simp] theorem State.setStage_mems (s : State) (k : Nat) : (s.setStage k).mems = s.mems := by
  unfold State.setStage; simp

@[simp] theorem State.enterGlost_mems (s : State) : (s.enterGlost).mems = s.mems := by
  unfold State.enterGlost; simp

@[simp] theorem State.driveBlank_mems (s : State) : (s.driveBlank).mems = s.mems := by
  unfold State.driveBlank; simp

@[simp] theorem State.lineStart_mems (s : State) : (s.lineStart).mems = s.mems := by
  unfold State.lineStart; simp

@[simp] theorem State.evalGroup_mems (s : State) (g : Nat) : (s.evalGroup g).mems = s.mems := by
  unfold State.evalGroup; simp

@[simp] theorem State.evalGroups_mems (s : State) : (s.evalGroups).mems = s.mems := by
  unfold State.evalGroups; simp

@[simp] theorem State.failString_mems (s : State) (lane : Nat) : (s.failString lane).mems = s.mems := by
  unfold State.failString; simp

@[simp] theorem State.showFaults_mems (s : State) : (s.showFaults).mems = s.mems := by
  unfold State.showFaults; rfl

@[simp] theorem State.recordFault_mems (s : State) (e : FaultEntry) (event detail : Nat) :
    (s.recordFault e event detail).mems = s.mems := by
  unfold State.recordFault; simp

@[simp] theorem State.takeReport_mems (s : State) (lane : Nat) (es : List FaultEntry) (past : Bool) :
    (s.takeReport lane es past).mems = s.mems := by
  unfold State.takeReport; simp

@[simp] theorem State.faultMap_mems (s : State) (ws : List Word) : (s.faultMap ws).mems = s.mems := by
  unfold State.faultMap; simp

@[simp] theorem State.reportMissing_mems (s : State) (lane : Nat) : (s.reportMissing lane).mems = s.mems := by
  unfold State.reportMissing; simp

@[simp] theorem hFaultClear_mems (q : Ctx) (ps : List Word) (s : State) : (hFaultClear q ps s).2.mems = s.mems := by
  unfold hFaultClear; simp

@[simp] theorem State.latchFaults_mems (s : State) (n : Nat) : (s.latchFaults n).mems = s.mems := by
  unfold State.latchFaults; rfl

@[simp] theorem State.dropCells_mems (s : State) (drop : Nat → Bool) : (s.dropCells drop).mems = s.mems := by
  unfold State.dropCells; rfl

@[simp] theorem State.dropString_mems (s : State) (lane : Nat) : (s.dropString lane).mems = s.mems := by
  unfold State.dropString; rfl

@[simp] theorem State.showRects_mems (s : State) : (s.showRects).mems = s.mems := by
  unfold State.showRects; rfl

@[simp] theorem State.addRect_mems (s : State) (r : Rect) : (s.addRect r).mems = s.mems := by
  unfold State.addRect; simp

@[simp] theorem State.rectsFor_mems (s : State) (f : FireFrame) (b : Nat) : (s.rectsFor f b).2.mems = s.mems := by
  unfold State.rectsFor
  refine State.mems_foldl_snd (fun p x => ?_) _ _
  dsimp only
  split <;> simp

@[simp] theorem State.putShort_mems (s : State) (lane : Nat) (ws : List Word) : (s.putShort lane ws).mems = s.mems := by
  unfold State.putShort; rfl

@[simp] theorem State.putFirst_mems (s : State) (lane : Nat) (ws : List Word) : (s.putFirst lane ws).mems = s.mems := by
  unfold State.putFirst; rfl

@[simp] theorem State.putLong_mems (s : State) (lane : Nat) (ws : List Word) : (s.putLong lane ws).mems = s.mems := by
  unfold State.putLong; rfl

@[simp] theorem State.putPacket_mems (s : State) (lane : Nat) (ws : List Word) : (s.putPacket lane ws).mems = s.mems := by
  unfold State.putPacket; simp

@[simp] theorem State.sentPart_mems (s : State) (lane : Nat) (o : OpenPkt) (ws : List Word) (last : Bool) :
    (s.sentPart lane o ws last).mems = s.mems := by
  unfold State.sentPart; (repeat' split) <;> simp

@[simp] theorem State.beginLong_mems (s : State) (lane : Nat) (rect : Option Nat) (p : List Word) :
    (s.beginLong lane rect p).2.mems = s.mems := by
  unfold State.beginLong; simp

@[simp] theorem State.nextBlock_mems (s : State) (lane : Nat) (errs : List ReadErr) : (s.nextBlock lane errs).2.mems = s.mems := by
  unfold State.nextBlock; dsimp only; (repeat' split) <;> simp

@[simp] theorem State.clampStep_mems (s : State) (k : Nat) : (s.clampStep k).2.mems = s.mems := by
  unfold State.clampStep; simp

@[simp] theorem State.sendConfig_mems (s : State) (copy : RegFile) (lane n : Nat) : (s.sendConfig copy lane n).mems = s.mems := by
  unfold State.sendConfig; simp -implicitDefEqProofs

@[simp] theorem State.sendSetup_mems (s : State) (copy : RegFile) (cones : List Nat) (k n : Nat) :
    (s.sendSetup copy cones k n).mems = s.mems := by
  unfold State.sendSetup; simp

@[simp] theorem State.releaseBand_mems (s : State) (n b : Nat) : (s.releaseBand n b).mems = s.mems := by
  unfold State.releaseBand; split <;> simp

@[simp] theorem State.release_mems (s : State) : (s.release).mems = s.mems := by
  unfold State.release; dsimp only; (repeat' split) <;> simp

@[simp] theorem State.expectEcho_mems (s : State) (n : Nat) (abandon : Bool) : (s.expectEcho n abandon).mems = s.mems := by
  unfold State.expectEcho; rfl

@[simp] theorem State.regionEnd_mems (s : State) (f : FireFrame) (swapped : Bool) (i : Nat) : (s.regionEnd f swapped i).mems = s.mems := by
  unfold State.regionEnd; simp

@[simp] theorem State.regionsEnd_mems (s : State) (f : FireFrame) (swapped : Bool) : (s.regionsEnd f swapped).mems = s.mems := by
  unfold State.regionsEnd; simp

@[simp] theorem State.clearFrm_mems (s : State) (n : Nat) : (s.clearFrm n).mems = s.mems := by
  unfold State.clearFrm; rfl

@[simp] theorem State.tellOutcome_mems (s : State) (n outcome : Nat) : (s.tellOutcome n outcome).mems = s.mems := by
  unfold State.tellOutcome; rfl

@[simp] theorem State.endFallback_mems (s : State) (fs : FaultSet) : (s.endFallback fs).mems = s.mems := by
  unfold State.endFallback; rfl

@[simp] theorem State.windowOpens_mems (s : State) : (s.windowOpens).mems = s.mems := by
  unfold State.windowOpens; simp

@[simp] theorem State.swap_mems (s : State) (n outcome : Nat) : (s.swap n outcome).mems = s.mems := by
  unfold State.swap; (repeat' split) <;> simp

@[simp] theorem State.abandon_mems (s : State) (n : Nat) : (s.abandon n).mems = s.mems := by
  unfold State.abandon; simp

@[simp] theorem State.badEcho_mems (s : State) (e : Echo) (event : Nat) : (s.badEcho e event).mems = s.mems := by
  unfold State.badEcho; simp

@[simp] theorem State.readback_mems (s : State) (ws : List Word) : (s.readback ws).mems = s.mems := by
  unfold State.readback; dsimp only; (repeat' split) <;> simp

@[simp] theorem State.endTurn_mems (s : State) (h : Nat) (p : Probe) : (s.endTurn h p).2.mems = s.mems := by
  unfold State.endTurn; simp

@[simp] theorem State.sendProbes_mems (s : State) : (s.sendProbes).mems = s.mems := by
  unfold State.sendProbes
  split
  · rfl
  · refine State.mems_foldl (fun s x => ?_) _ _
    dsimp only
    split <;> simp

@[simp] theorem State.probeHit_mems (s : State) (lane ch : Nat) : (s.probeHit lane ch).mems = s.mems := by
  unfold State.probeHit; simp

@[simp] theorem State.probeNext_mems (s : State) (h : Nat) (p : Probe) (lo : Nat) : (s.probeNext h p lo).2.mems = s.mems := by
  unfold State.probeNext; simp

@[simp] theorem State.soloAnswer_mems (s : State) (lane ch : Nat) (low : Bool) : (s.soloAnswer lane ch low).mems = s.mems := by
  unfold State.soloAnswer; simp

@[simp] theorem State.probeAnswer_mems (s : State) (h : Nat) (low : Bool) : (s.probeAnswer h low).mems = s.mems := by
  unfold State.probeAnswer; dsimp only; (repeat' split) <;> simp

end Sys2Proof.Machine
end

section
/-! What leaves DRAM and flash as they are, one lemma for each operation, in the order of the model. Time, memory controller, lanes, Hearth, planner. -/

namespace Sys2Proof.Machine

@[simp] theorem State.setPhi_mems (s : State) (z : Int) : (s.setPhi z).mems = s.mems := by
  unfold State.setPhi; rfl

@[simp] theorem State.setTarget_mems (s : State) (z : Int) : (s.setTarget z).mems = s.mems := by
  unfold State.setTarget; rfl

@[simp] theorem State.setTime_mems (s : State) (t : TimeState) : (s.setTime t).mems = s.mems := by
  unfold State.setTime; rfl

@[simp] theorem State.showTime_mems (s : State) : (s.showTime).mems = s.mems := by
  unfold State.showTime; rfl

@[simp] theorem State.setIncr_mems (s : State) (b : Nat) (pi : Int) : (s.setIncr b pi).mems = s.mems := by
  unfold State.setIncr; rfl

@[simp] theorem State.evalHoldover_mems (s : State) : (s.evalHoldover).mems = s.mems := by
  unfold State.evalHoldover; simp

@[simp] theorem State.setValid_mems (s : State) (b : Nat) (v : Bool) : (s.setValid b v).mems = s.mems := by
  unfold State.setValid; simp

@[simp] theorem State.checkValid_mems (s : State) (b : Nat) : (s.checkValid b).mems = s.mems := by
  unfold State.checkValid; simp

@[simp] theorem State.setRef_mems (s : State) (b : Nat) (v : Bool) : (s.setRef b v).mems = s.mems := by
  unfold State.setRef; simp

@[simp] theorem State.stepBase_mems (s : State) (b : Nat) (d : Int) : (s.stepBase b d).mems = s.mems := by
  unfold State.stepBase; simp

@[simp] theorem State.lockCount_mems (s : State) (b : Nat) (o : Int) : (s.lockCount b o).mems = s.mems := by
  unfold State.lockCount; simp

@[simp] theorem State.feed_mems (s : State) (b : Nat) (o : Int) : (s.feed b o).mems = s.mems := by
  unfold State.feed; simp

@[simp] theorem State.offsetIn_mems (s : State) (b : Nat) (v : Word) : (s.offsetIn b v).2.mems = s.mems := by
  unfold State.offsetIn; simp

@[simp] theorem State.modeWritten_mems (s : State) (b : Nat) : (s.modeWritten b).mems = s.mems := by
  unfold State.modeWritten; simp

@[simp] theorem hTimeRead_mems (q : Ctx) (ps : List Word) (s : State) : (hTimeRead q ps s).2.mems = s.mems := by
  unfold hTimeRead; rfl

@[simp] theorem hTimeAdjust_mems (q : Ctx) (ps : List Word) (s : State) : (hTimeAdjust q ps s).2.mems = s.mems := by
  unfold hTimeAdjust; simp

@[simp] theorem State.repeatNext_mems (s : State) : (s.repeatNext).mems = s.mems := by
  unfold State.repeatNext; simp

@[simp] theorem State.dropAligned_mems (s : State) : (s.dropAligned).mems = s.mems := by
  unfold State.dropAligned; simp

@[simp] theorem State.scanMoves_mems (s old : State) : (s.scanMoves old).mems = s.mems := by
  unfold State.scanMoves; rfl

@[simp] theorem State.rephase_mems (s old : State) (cause : Nat) : (s.rephase old cause).mems = s.mems := by
  unfold State.rephase; simp

@[simp] theorem hTimeSchedule_mems (q : Ctx) (ps : List Word) (s : State) : (hTimeSchedule q ps s).2.mems = s.mems := by
  unfold hTimeSchedule; simp

@[simp] theorem hTimePhase_mems (q : Ctx) (ps : List Word) (s : State) : (hTimePhase q ps s).2.mems = s.mems := by
  unfold hTimePhase; simp

@[simp] theorem State.sourceStep_mems (s : State) : (s.sourceStep).2.mems = s.mems := by
  unfold State.sourceStep; simp

@[simp] theorem State.windowStep_mems (done : Bool) (s : State) : (State.windowStep done s).2.mems = s.mems := by
  unfold State.windowStep; simp

@[simp] theorem State.schedStep_mems (s : State) (n : Nat) : (s.schedStep n).mems = s.mems := by
  unfold State.schedStep; simp

@[simp] theorem State.phaseStep_mems (s : State) (n : Nat) : (s.phaseStep n).mems = s.mems := by
  unfold State.phaseStep; dsimp only; (repeat' split) <;> simp

@[simp] theorem State.slewStep_mems (done : Bool) (s : State) : (State.slewStep done s).mems = s.mems := by
  unfold State.slewStep; simp

@[simp] theorem State.synf_mems (s : State) (moved : Int) : (s.synf moved).mems = s.mems := by
  unfold State.synf; simp

@[simp] theorem State.tickTime_mems (s : State) (n : Nat) : (s.tickTime n).mems = s.mems := by
  unfold State.tickTime; simp

@[simp] theorem State.capture_mems (s : State) (e : Nat) (falling : Bool) : (s.capture e falling).mems = s.mems := by
  unfold State.capture; simp

@[simp] theorem State.capturePop_mems (s : State) (e : Nat) : (s.capturePop e).mems = s.mems := by
  unfold State.capturePop; split <;> simp

@[simp] theorem State.ckoEdge_mems (s : State) (src : Nat) : (s.ckoEdge src).mems = s.mems := by
  unfold State.ckoEdge; simp

@[simp] theorem State.syncEdge_mems (s : State) (falling : Bool) : (s.syncEdge falling).mems = s.mems := by
  unfold State.syncEdge; simp

@[simp] theorem State.syncMissing_mems (s : State) : (s.syncMissing).mems = s.mems := by
  unfold State.syncMissing; simp

@[simp] theorem State.synfLine_mems (s : State) (line : Nat) : (s.synfLine line).mems = s.mems := by
  unfold State.synfLine; simp

@[simp] theorem State.toTail_mems (s : State) : (s.toTail).mems = s.mems := by
  unfold State.toTail; simp

@[simp] theorem State.allocate_mems (s : State) : (s.allocate).mems = s.mems := by
  unfold State.allocate; rfl

@[simp] theorem State.trainStart_mems (s : State) : (s.trainStart).mems = s.mems := by
  unfold State.trainStart; simp

@[simp] theorem State.trainDone_mems (s : State) (t : TrainResult) : (s.trainDone t).mems = s.mems := by
  unfold State.trainDone; (repeat' split) <;> simp

@[simp] theorem State.showSeqs_mems (s : State) : (s.showSeqs).mems = s.mems := by
  unfold State.showSeqs; rfl

@[simp] theorem State.oscCheck_mems (s : State) (ch drift : Nat) : (s.oscCheck ch drift).mems = s.mems := by
  unfold State.oscCheck; dsimp only; (repeat' split) <;> simp

@[simp] theorem State.retrainBurst_mems (s : State) : (s.retrainBurst).mems = s.mems := by
  unfold State.retrainBurst; dsimp only; (repeat' split) <;> simp

@[simp] theorem State.askSp_mems (s : State) (sp : Nat) : (s.askSp sp).mems = s.mems := by
  unfold State.askSp; simp

@[simp] theorem State.speedSwitch_mems (s : State) : (s.speedSwitch).mems = s.mems := by
  unfold State.speedSwitch; simp

@[simp] theorem State.refreshDue_mems (s : State) (ch idle : Nat) : (s.refreshDue ch idle).mems = s.mems := by
  unfold State.refreshDue; simp

@[simp] theorem State.mr4Read_mems (s : State) (ch rate : Nat) (hot : Bool) : (s.mr4Read ch rate hot).mems = s.mems := by
  unfold State.mr4Read; simp

@[simp] theorem State.selfRefresh_mems (s : State) (ch : Nat) (cancelled : Bool) : (s.selfRefresh ch cancelled).mems = s.mems := by
  unfold State.selfRefresh; dsimp only; (repeat' split) <;> simp

@[simp] theorem hMemRead_mems (q : Ctx) (ps : List Word) (s : State) : (hMemRead q ps s).2.mems = s.mems := by
  unfold hMemRead
  dsimp only
  split
  · rfl
  split
  · rfl
  split <;> rename_i h <;> simp [State.mems_of_eq h]

@[simp] theorem State.surfsAfter_mems (s : State) (ids : List Nat) (bad : Bool) : (s.surfsAfter ids bad).mems = s.mems := by
  unfold State.surfsAfter; simp

@[simp] theorem State.unqueue_mems (s : State) (q : QWrite) : (s.unqueue q).mems = s.mems := by
  unfold State.unqueue; rfl

@[simp] theorem State.setLane_mems (s : State) (l : Nat) (x : LaneX) : (s.setLane l x).mems = s.mems := by
  unfold State.setLane; rfl

@[simp] theorem State.laneEvent_mems (s : State) (e l d : Nat) : (s.laneEvent e l d).mems = s.mems := by
  unfold State.laneEvent; simp

@[simp] theorem State.laneStart_mems (s : State) (l : Nat) : (s.laneStart l).mems = s.mems := by
  unfold State.laneStart; simp

@[simp] theorem State.eyeStop_mems (s : State) (l : Nat) : (s.eyeStop l).mems = s.mems := by
  unfold State.eyeStop; split <;> simp

@[simp] theorem State.laneLost_mems (s : State) (l st : Nat) : (s.laneLost l st).mems = s.mems := by
  unfold State.laneLost; simp

@[simp] theorem State.laneStop_mems (s : State) (l : Nat) : (s.laneStop l).mems = s.mems := by
  unfold State.laneStop; simp

@[simp] theorem State.stopLanes_mems (s : State) : (s.stopLanes).mems = s.mems := by
  unfold State.stopLanes; simp

@[simp] theorem State.laneDamage_mems (s : State) (l : Nat) : (s.laneDamage l).mems = s.mems := by
  unfold State.laneDamage; simp

@[simp] theorem State.laneLocked_mems (s : State) (l : Nat) : (s.laneLocked l).mems = s.mems := by
  unfold State.laneLocked; rfl

@[simp] theorem State.laneSearch_mems (s : State) (l : Nat) (x : LaneX) (raw : List Bool) : (s.laneSearch l x raw).mems = s.mems := by
  unfold State.laneSearch; split <;> simp

@[simp] theorem State.laneReceive_mems (s : State) (l : Nat) (got : List Bool) : (s.laneReceive l got).2.mems = s.mems := by
  unfold State.laneReceive; dsimp only; (repeat' split) <;> simp

@[simp] theorem State.joinHalves_mems (s : State) (l : Nat) (h : Option (Nat × List Word)) : (s.joinHalves l h).2.mems = s.mems := by
  unfold State.joinHalves; dsimp only; (repeat' split) <;> simp

@[simp] theorem State.readLaneTable_mems (s : State) : (s.readLaneTable).mems = s.mems := by
  unfold State.readLaneTable; split <;> simp

@[simp] theorem State.checkLaneDigest_mems (s : State) (ok : Bool) : (s.checkLaneDigest ok).mems = s.mems := by
  unfold State.checkLaneDigest; simp

@[simp] theorem State.eyeBegin_mems (s : State) (l : Nat) (auto : Bool) : (s.eyeBegin l auto).mems = s.mems := by
  unfold State.eyeBegin; rfl

@[simp] theorem State.eyeStart_mems (s : State) (l : Nat) : (s.eyeStart l).mems = s.mems := by
  unfold State.eyeStart; simp

@[simp] theorem State.eyeDone_mems (s : State) (h v : Nat) : (s.eyeDone h v).mems = s.mems := by
  unfold State.eyeDone; split <;> simp

@[simp] theorem State.sendLane_mems (s : State) (l ty : Nat) (ws : List Word) : (s.sendLane l ty ws).mems = s.mems := by
  unfold State.sendLane; rfl

@[simp] theorem State.emitterSlot_mems (s : State) (lane : Nat) (errs : List ReadErr) : (s.emitterSlot lane errs).2.mems = s.mems := by
  unfold State.emitterSlot; simp

@[simp] theorem State.sendPort_mems (s : State) (p : Nat) : (s.sendPort p).mems = s.mems := by
  unfold State.sendPort; simp

@[simp] theorem State.setHearth_mems (s : State) (h : HearthState) : (s.setHearth h).mems = s.mems := by
  unfold State.setHearth; rfl

@[simp] theorem State.setDown_mems (s : State) : (s.setDown).mems = s.mems := by
  unfold State.setDown; rfl

@[simp] theorem State.setDomain_mems (s : State) (d v : Nat) : (s.setDomain d v).mems = s.mems := by
  unfold State.setDomain; simp

@[simp] theorem State.domainOff_mems (s : State) (d : Nat) : (s.domainOff d).mems = s.mems := by
  unfold State.domainOff; (repeat' split) <;> simp

@[simp] theorem State.settleDomains_mems (s : State) : (s.settleDomains).mems = s.mems := by
  unfold State.settleDomains; simp

@[simp] theorem State.domainGood_mems (s : State) (d : Nat) : (s.domainGood d).mems = s.mems := by
  unfold State.domainGood; simp

@[simp] theorem State.domainLate_mems (s : State) (d : Nat) : (s.domainLate d).mems = s.mems := by
  unfold State.domainLate; split <;> simp

@[simp] theorem State.domainAgain_mems (s : State) (d : Nat) : (s.domainAgain d).mems = s.mems := by
  unfold State.domainAgain; split <;> simp

@[simp] theorem State.tsFault_mems (s : State) (i : Nat) : (s.tsFault i).mems = s.mems := by
  unfold State.tsFault; simp

@[simp] theorem State.tsGood_mems (s : State) (i : Nat) (t : Int) : (s.tsGood i t).mems = s.mems := by
  unfold State.tsGood; dsimp only; (repeat' split) <;> simp

@[simp] theorem State.tsOff_mems (s : State) (i : Nat) : (s.tsOff i).mems = s.mems := by
  unfold State.tsOff; rfl

@[simp] theorem State.convertAll_mems (s : State) (h : HkInput) : (s.convertAll h).mems = s.mems := by
  unfold State.convertAll
  refine State.mems_foldl (fun s x => ?_) _ _
  split
  · simp
  · split <;> simp

@[simp] theorem State.crossCheck_mems (s : State) (was : List Nat) (i : Nat) : (s.crossCheck was i).mems = s.mems := by
  unfold State.crossCheck; dsimp only; (repeat' split) <;> simp

@[simp] theorem State.riseSample_mems (s : State) (i : Nat) : (s.riseSample i).mems = s.mems := by
  unfold State.riseSample; simp

@[simp] theorem State.tsCause_mems (s : State) (i : Nat) : (s.tsCause i).mems = s.mems := by
  unfold State.tsCause; simp

@[simp] theorem State.dieSensor_mems (s : State) (j : Nat) (t : Int) : (s.dieSensor j t).mems = s.mems := by
  unfold State.dieSensor; simp

@[simp] theorem State.zones_mems (s : State) : (s.zones).mems = s.mems := by
  unfold State.zones; simp

@[simp] theorem State.showAlarms_mems (s : State) : (s.showAlarms).mems = s.mems := by
  unfold State.showAlarms; simp

@[simp] theorem State.showCause_mems (s : State) : (s.showCause).mems = s.mems := by
  unfold State.showCause; rfl

@[simp] theorem State.setCap_mems (s : State) (cap : Nat) : (s.setCap cap).mems = s.mems := by
  unfold State.setCap; simp

@[simp] theorem State.requestSp_mems (s : State) (sp : Nat) : (s.requestSp sp).mems = s.mems := by
  unfold State.requestSp; simp

@[simp] theorem State.damperIdle_mems (s : State) : (s.damperIdle).mems = s.mems := by
  unfold State.damperIdle; simp

@[simp] theorem State.damperCap_mems (s : State) : (s.damperCap).mems = s.mems := by
  unfold State.damperCap; simp

@[simp] theorem State.damperCauses_mems (s : State) (was : Bool) : (s.damperCauses was).mems = s.mems := by
  unfold State.damperCauses; dsimp only; (repeat' split) <;> simp

@[simp] theorem State.judge_mems (s : State) (was : Bool) : (s.judge was).mems = s.mems := by
  unfold State.judge; simp

@[simp] theorem State.graceEnd_mems (s : State) : (s.graceEnd).mems = s.mems := by
  unfold State.graceEnd; simp

@[simp] theorem State.capUp_mems (s : State) : (s.capUp).mems = s.mems := by
  unfold State.capUp; simp

@[simp] theorem State.capStep_mems (s : State) : (s.capStep).mems = s.mems := by
  unfold State.capStep
  dsimp only
  (repeat' split) <;> simp -implicitDefEqProofs

@[simp] theorem State.railRound_mems (s : State) (k mv : Nat) : (s.railRound k mv).mems = s.mems := by
  unfold State.railRound; simp

@[simp] theorem State.pmPoll_mems (s : State) (k : Nat) (answer : Option Nat) : (s.pmPoll k answer).mems = s.mems := by
  unfold State.pmPoll; (repeat' split) <;> simp

@[simp] theorem State.reconcile_mems (s : State) : (s.reconcile).mems = s.mems := by
  unfold State.reconcile; simp

@[simp] theorem State.buildPlan_mems (s : State) (f : FireFrame) (items : List PlanItem) : (s.buildPlan f items).2.mems = s.mems := by
  unfold State.buildPlan; simp

@[simp] theorem State.project_mems (s : State) (acts : List (Nat × Nat)) (done : List Nat) : (s.project acts done).mems = s.mems := by
  unfold State.project; rfl

@[simp] theorem State.climb_mems (s : State) : (s.climb).mems = s.mems := by
  unfold State.climb; simp

@[simp] theorem State.closePlan_mems (s : State) (told : List (Nat × Nat)) : (s.closePlan told).mems = s.mems := by
  unfold State.closePlan; simp -implicitDefEqProofs

end Sys2Proof.Machine
end

section
/-! What leaves DRAM and flash as they are, one lemma for each operation, in the order of the model. Encoder, network, register access, bakes. -/

namespace Sys2Proof.Machine

@[simp] theorem State.setEnc_mems (s : State) (e : EncState) : (s.setEnc e).mems = s.mems := by
  unfold State.setEnc; rfl

@[simp] theorem State.showSplice_mems (s : State) (i : Nat) : (s.showSplice i).mems = s.mems := by
  unfold State.showSplice; rfl

@[simp] theorem State.setLayer_mems (s : State) (l : Nat) (x : EncLayer) : (s.setLayer l x).mems = s.mems := by
  unfold State.setLayer; rfl

@[simp] theorem State.setExtr_mems (s : State) (i : Nat) (x : Extr) : (s.setExtr i x).mems = s.mems := by
  unfold State.setExtr; rfl

@[simp] theorem State.restartLayer_mems (s : State) (l : Nat) : (s.restartLayer l).mems = s.mems := by
  unfold State.restartLayer; rfl

@[simp] theorem State.askIdr_mems (s : State) (i : Nat) : (s.askIdr i).mems = s.mems := by
  unfold State.askIdr; rfl

@[simp] theorem State.takeEncode_mems (s : State) : (s.takeEncode).mems = s.mems := by
  unfold State.takeEncode; simp

@[simp] theorem State.bindLayer_mems (s : State) (l f : Nat) : (s.bindLayer l f).mems = s.mems := by
  unfold State.bindLayer; dsimp only; (repeat' split) <;> simp

@[simp] theorem State.showOwed_mems (s : State) (l : Nat) : (s.showOwed l).mems = s.mems := by
  unfold State.showOwed; rfl

@[simp] theorem State.tileRow_mems (s : State) (l tr tc r bits skip : Nat) : (s.tileRow l tr tc r bits skip).mems = s.mems := by
  unfold State.tileRow; simp

@[simp] theorem State.splice_mems (s : State) (i : Nat) (ws : List Word) : (s.splice i ws).mems = s.mems := by
  unfold State.splice; rfl

@[simp] theorem State.beginPicture_mems (s : State) (l : Nat) (rep : Bool) : (s.beginPicture l rep).mems = s.mems := by
  unfold State.beginPicture; simp

@[simp] theorem State.sendRow_mems (s : State) (l f row : Nat) (rep : Bool) (c : CodedChunk) : (s.sendRow l f row rep c).mems = s.mems := by
  unfold State.sendRow; dsimp only; (repeat' split) <;> simp

@[simp] theorem State.codeRow_mems (s : State) (l f row : Nat) (rep : Bool) (c : CodedRow) : (s.codeRow l f row rep c).mems = s.mems := by
  unfold State.codeRow; simp

theorem State.pictureRow_mems {s t : State} {l f row : Nat} {rep : Bool} {c : CodedRow} (h : s.pictureRow l f row rep c = some t) :
    t.mems = s.mems := by
  unfold State.pictureRow at h
  simp only [Option.ite_none_right_eq_some, Option.some.injEq] at h
  rw [← h.2]
  simp

theorem State.repeatRows_mems {l f : Nat} : ∀ {rows : List CodedRow} {row : Nat} {s t : State}, s.repeatRows l f row rows = some t →
    t.mems = s.mems
  | [], row, s, t, h => by
    rw [State.repeatRows] at h
    split at h
    · cases h
      rfl
    · cases h
  | c :: rest, row, s, t, h => by
    obtain ⟨u, hu, ht⟩ := Option.bind_eq_some_iff.1 h
    exact (State.repeatRows_mems ht).trans (State.pictureRow_mems hu)

@[simp] theorem State.ctuRow_mems (s : State) (l : Nat) (c : CodedRow) : (s.ctuRow l c).mems = s.mems := by
  unfold State.ctuRow
  dsimp only
  split
  · rfl
  split
  · rfl
  split
  · rfl
  · rename_i h
    simp [State.pictureRow_mems h]

@[simp] theorem State.repeatLayer_mems (s : State) (l f : Nat) (rows : List CodedRow) : (s.repeatLayer l f rows).mems = s.mems := by
  have hrow (a b : State) (n r : Nat) (hb : b.mems = s.mems) (ha : a.mems = s.mems) :
      ((a.repeatRows l n r rows).getD b).mems = s.mems := by
    cases h : a.repeatRows l n r rows with
    | none => exact hb
    | some t => exact (State.repeatRows_mems h).trans ha
  unfold State.repeatLayer
  dsimp only
  split <;> split <;> simp [hrow]

@[simp] theorem State.serveIntra_mems (s : State) (i : Nat) : (s.serveIntra i).mems = s.mems := by
  unfold State.serveIntra; rfl

@[simp] theorem State.intraReq_mems (s : State) (i : Nat) : (s.intraReq i).mems = s.mems := by
  unfold State.intraReq; (repeat' split) <;> simp

@[simp] theorem State.owedIntra_mems (s : State) : (s.owedIntra).mems = s.mems := by
  unfold State.owedIntra
  refine State.mems_foldl (fun s x => ?_) _ _
  split <;> simp

@[simp] theorem State.intraAsk_mems (s : State) (n : Nat) : (s.intraAsk n).mems = s.mems := by
  unfold State.intraAsk; dsimp only; (repeat' split) <;> simp

@[simp] theorem State.sendSpy_mems (s : State) (f : Nat) (b : List Byte) : (s.sendSpy f b).mems = s.mems := by
  unfold State.sendSpy; simp

@[simp] theorem State.spyCode_mems (s : State) (f : Nat) (b : List Byte) (c : CodedSpy) : (s.spyCode f b c).mems = s.mems := by
  unfold State.spyCode; simp

@[simp] theorem hSpySub_mems (q : Ctx) (ps : List Word) (s : State) : (hSpySub q ps s).2.mems = s.mems := by
  unfold hSpySub; simp

@[simp] theorem State.relaySpy_mems (s : State) (payload : List Word) : (s.relaySpy payload).mems = s.mems := by
  unfold State.relaySpy; simp

@[simp] theorem State.setMgr_mems (s : State) (m : MgrState) : (s.setMgr m).mems = s.mems := by
  unfold State.setMgr; rfl

@[simp] theorem State.setWorker_mems (s : State) (i : Nat) (w : Worker) : (s.setWorker i w).mems = s.mems := by
  unfold State.setWorker; rfl

@[simp] theorem State.report_mems (s : State) (r : RegFile) (g port : Nat) (join : Bool) : (s.report r g port join).mems = s.mems := by
  unfold State.report; rfl

@[simp] theorem State.reportAll_mems (s : State) (port : Nat) : (s.reportAll port).mems = s.mems := by
  unfold State.reportAll; simp

@[simp] theorem State.groupWritten_mems (s : State) (old : RegFile) (g : Nat) : (s.groupWritten old g).mems = s.mems := by
  unfold State.groupWritten; simp

@[simp] theorem State.eyeStops_mems (s : State) (q : Nat) : (s.eyeStops q).mems = s.mems := by
  unfold State.eyeStops; simp

@[simp] theorem State.ethChange_mems (s : State) (q : Nat) (up : Bool) : (s.ethChange q up).mems = s.mems := by
  unfold State.ethChange; simp

@[simp] theorem State.netControl_mems (s : State) (p : NetPkt) : (s.netControl p).mems = s.mems := by
  unfold State.netControl; simp

@[simp] theorem State.sendStream_mems (s : State) (w : Worker) (off : Nat) (ws : List Word) : (s.sendStream w off ws).mems = s.mems := by
  unfold State.sendStream; simp

@[simp] theorem State.sendRun_mems (s : State) (w : Worker) (off : Nat) (ws : List Word) : (s.sendRun w off ws).mems = s.mems := by
  unfold State.sendRun; simp

@[simp] theorem State.insertParcels_mems (s : State) (w : Worker) : (s.insertParcels w).2.mems = s.mems := by
  unfold State.insertParcels
  split
  · rfl
  · exact State.mems_foldl_snd (fun p x => by simp) _ _

@[simp] theorem State.forwardPieces_mems (off : Nat) : ∀ (l : List (List Word)) (j : Nat) (w : Worker) (s : State),
    (s.forwardPieces w off j l).2.mems = s.mems
  | [], _, _, _ => rfl
  | p :: t, j, w, s => by simp [State.forwardPieces, State.forwardPieces_mems off t]

@[simp] theorem State.passOn_mems (s : State) (w : Worker) (off : Nat) (ws : List Word) : (s.passOn w off ws).2.mems = s.mems := by
  unfold State.passOn; simp

@[simp] theorem State.drainWindow_mems : ∀ (n : Nat) (w : Worker) (s : State), (State.drainWindow n w s).2.mems = s.mems
  | 0, _, _ => rfl
  | n + 1, w, s => by
    rw [State.drainWindow]
    split
    · rfl
    · simp [State.drainWindow_mems n]

@[simp] theorem State.reorder_mems (s : State) (w : Worker) (seq off : Nat) (ws : List Word) :
    (s.reorder w seq off ws).2.mems = s.mems := by
  unfold State.reorder
  simp [State.mems_foldl_snd]

@[simp] theorem State.slabPacket_mems (s : State) (ssrc seq : Nat) (ps : List Word) : (s.slabPacket ssrc seq ps).mems = s.mems := by
  unfold State.slabPacket; dsimp only; (repeat' split) <;> simp

@[simp] theorem State.setFlow_mems (s : State) (i : Nat) (f : Flow) : (s.setFlow i f).mems = s.mems := by
  unfold State.setFlow; rfl

@[simp] theorem State.endFlowFrame_mems (s : State) (i : Nat) : (s.endFlowFrame i).mems = s.mems := by
  unfold State.endFlowFrame; simp

@[simp] theorem State.beginFlowFrame_mems (s : State) (i ts : Nat) : (s.beginFlowFrame i ts).mems = s.mems := by
  unfold State.beginFlowFrame; simp

@[simp] theorem State.markRows_mems (s : State) (i upto : Nat) : (s.markRows i upto).mems = s.mems := by
  unfold State.markRows; dsimp only; (repeat' split) <;> simp

@[simp] theorem State.livePacket_mems (s : State) (i ts : Nat) (marker : Bool) (segs : List (Nat × Nat × List Nat)) :
    (s.livePacket i ts marker segs).mems = s.mems := by
  unfold State.livePacket; simp

@[simp] theorem State.selectMaster_mems (s : State) (b : Nat) (m : Option Foreign) : (s.selectMaster b m).mems = s.mems := by
  unfold State.selectMaster; simp

@[simp] theorem State.ptpAnnounce_mems (s : State) (b : Nat) (m : PtpMsg) : (s.ptpAnnounce b m).mems = s.mems := by
  unfold State.ptpAnnounce; simp

@[simp] theorem State.ptpOffset_mems (s : State) (b t1 t2 t3 t4 : Nat) (corr : Int) : (s.ptpOffset b t1 t2 t3 t4 corr).mems = s.mems := by
  unfold State.ptpOffset; simp

@[simp] theorem State.ptpMaster_mems (s : State) (b : Nat) (m : PtpMsg) : (s.ptpMaster b m).mems = s.mems := by
  unfold State.ptpMaster; dsimp only; (repeat' split) <;> simp

@[simp] theorem State.ptpMessage_mems (s : State) (m : PtpMsg) : (s.ptpMessage m).mems = s.mems := by
  unfold State.ptpMessage; (repeat' split) <;> simp

@[simp] theorem State.ptpLost_mems (s : State) (b : Nat) : (s.ptpLost b).mems = s.mems := by
  unfold State.ptpLost; split <;> simp

@[simp] theorem State.loopIdle_mems (s : State) (n : Nat) : (s.loopIdle n).mems = s.mems := by
  unfold State.loopIdle; simp

@[simp] theorem State.synStop_mems (s : State) (n : Nat) : (s.synStop n).mems = s.mems := by
  unfold State.synStop; split <;> simp

@[simp] theorem State.lockLoss_mems (s : State) (n : Nat) : (s.lockLoss n).mems = s.mems := by
  unfold State.lockLoss; simp

@[simp] theorem State.relockWrite_mems (s : State) (n : Nat) : (s.relockWrite n).mems = s.mems := by
  unfold State.relockWrite; simp

@[simp] theorem State.ckoArm_mems (s : State) (i : Nat) : (s.ckoArm i).mems = s.mems := by
  unfold State.ckoArm; simp

@[simp] theorem State.tell_mems (s : State) (r : WriteRes) : (s.tell r).mems = s.mems := by
  unfold State.tell; rfl

@[simp] theorem State.holdWritten_mems (s : State) (l : Nat) : (s.holdWritten l).mems = s.mems := by
  unfold State.holdWritten; simp

@[simp] theorem State.portWritten_mems (s : State) (p : Nat) : (s.portWritten p).mems = s.mems := by
  unfold State.portWritten; simp

@[simp] theorem State.writeAfter_mems (old s : State) (x : Nat) (v : Word) : (old.writeAfter s x v).mems = s.mems := by
  unfold State.writeAfter; (repeat' split) <;> simp

@[simp] theorem State.geomWrite_mems (s : State) (x : Nat) (v : Word) : (s.geomWrite x v).mems = s.mems := by
  unfold State.geomWrite; rfl

@[simp] theorem State.storeReg_mems (s : State) (x : Nat) (v : Word) : (s.storeReg x v).mems = s.mems := by
  unfold State.storeReg; simp

@[simp] theorem State.writeReg_mems (s : State) (x : Nat) (v : Word) : (s.writeReg x v).2.mems = s.mems := by
  unfold State.writeReg; (repeat' split) <;> simp

@[simp] theorem State.maskTouched_mems (old s : State) (x : Nat) (mask : Word) : (old.maskTouched s x mask).mems = s.mems := by
  unfold State.maskTouched; simp

@[simp] theorem State.writeRun_mems (strict : Bool) : ∀ (l : List (Word × Word)) (a i : Nat) (s : State),
    (s.writeRun strict a i l).2.mems = s.mems
  | [], _, _, _ => rfl
  | p :: t, a, i, s => by
    rw [State.writeRun]
    dsimp only
    split
    · rfl
    · split <;> simp [State.writeRun_mems strict t]

@[simp] theorem State.showBase_mems (s : State) (b : Nat) : (s.showBase b).mems = s.mems := by
  unfold State.showBase; rfl

@[simp] theorem State.readLatch_mems (s : State) (x : Nat) : (s.readLatch x).mems = s.mems := by
  unfold State.readLatch; (repeat' split) <;> simp

@[simp] theorem State.readReg_mems (s : State) (x : Nat) : (s.readReg x).2.mems = s.mems := by
  unfold State.readReg; simp

@[simp] theorem State.readRun_mems : ∀ (n a : Nat) (s : State), (s.readRun a n).2.mems = s.mems
  | 0, _, _ => rfl
  | n + 1, a, s => by simp [State.readRun, State.readRun_mems n]

@[simp] theorem hReadReg_mems (q : Ctx) (ps : List Word) (s : State) : (hReadReg q ps s).2.mems = s.mems := by
  unfold hReadReg; simp

@[simp] theorem hWriteReg_mems (q : Ctx) (ps : List Word) (s : State) : (hWriteReg q ps s).2.mems = s.mems := by
  unfold hWriteReg; simp

theorem State.atRow_mems {s : State} {f : State → State} (hf : (f s).mems = s.mems) (a n : Nat) : (s.atRow a n f).mems = s.mems := by
  unfold State.atRow
  (repeat' split) <;> simp [hf]

@[simp] theorem State.writeTold_mems (s : State) (x : Nat) (v : Word) : (s.writeTold x v).mems = s.mems := by
  unfold State.writeTold
  exact (State.atRow_mems (by simp) _ _).trans (by simp)

@[simp] theorem State.repeatDue_mems (s : State) : (s.repeatDue).mems = s.mems := by
  unfold State.repeatDue; dsimp only; (repeat' split) <;> simp

@[simp] theorem State.geomChange_mems (s : State) : (s.geomChange).mems = s.mems := by
  unfold State.geomChange; split <;> simp

@[simp] theorem State.eventDatagrams_mems (s : State) (mgr : Bool) (x y : Nat) (gap : Bool) (payload : List Word) :
    (s.eventDatagrams mgr x y gap payload).mems = s.mems := by
  unfold State.eventDatagrams; simp

@[simp] theorem State.sendBeacon_mems (s : State) (ws : List Word) : (s.sendBeacon ws).mems = s.mems := by
  unfold State.sendBeacon; simp

@[simp] theorem State.flushBeacons_mems (s : State) : (s.flushBeacons).mems = s.mems := by
  unfold State.flushBeacons; simp

@[simp] theorem State.clearBake_mems (s : State) : (s.clearBake).mems = s.mems := by
  unfold State.clearBake; rfl

@[simp] theorem hBakeOpen_mems (q : Ctx) (ps : List Word) (s : State) : (hBakeOpen q ps s).2.mems = s.mems := by
  unfold hBakeOpen; simp

@[simp] theorem hBakeWrite_mems (q : Ctx) (ps : List Word) (s : State) : (hBakeWrite q ps s).2.mems = s.mems := by
  unfold hBakeWrite; simp

@[simp] theorem hBakeClose_mems (q : Ctx) (ps : List Word) (s : State) : (hBakeClose q ps s).2.mems = s.mems := by
  unfold hBakeClose; simp

@[simp] theorem hBakeAbort_mems (q : Ctx) (ps : List Word) (s : State) : (hBakeAbort q ps s).2.mems = s.mems := by
  unfold hBakeAbort; rfl

@[simp] theorem State.bakeTick_mems (s : State) (n : Nat) : (s.bakeTick n).mems = s.mems := by
  unfold State.bakeTick; dsimp only; (repeat' split) <;> simp

@[simp] theorem State.stampTick_mems (s : State) (n : Nat) : (s.stampTick n).mems = s.mems := by
  unfold State.stampTick; rfl

@[simp] theorem State.takeSeq_mems (s : State) : (s.takeSeq).2.mems = s.mems := by
  unfold State.takeSeq; rfl

@[simp] theorem State.beaconTick_mems (s : State) (n : Nat) : (s.beaconTick n).mems = s.mems := by
  unfold State.beaconTick; simp

@[simp] theorem State.neighbourTick_mems (s : State) (n : Nat) : (s.neighbourTick n).mems = s.mems := by
  unfold State.neighbourTick; simp

@[simp] theorem State.sendCmd_mems (s : State) (opcode : Nat) (h1 : Word) (ps : List Word) : (s.sendCmd opcode h1 ps).mems = s.mems := by
  unfold State.sendCmd; simp

@[simp] theorem State.sendBake_mems (s : State) (w : Worker) (epoch k : Nat) (l : List (Nat × Word)) :
    (s.sendBake w epoch k l).mems = s.mems := by
  unfold State.sendBake; simp

@[simp] theorem State.unrepaired_mems (s : State) (i : Nat) (w : Worker) : (s.unrepaired i w).mems = s.mems := by
  unfold State.unrepaired; rfl

@[simp] theorem State.resend_mems (s : State) (i e : Nat) : (s.resend i e).mems = s.mems := by
  unfold State.resend; split <;> simp

@[simp] theorem State.auditWorker_mems (t section_ expect : Nat) (s : State) (i : Nat) :
    (State.auditWorker t section_ expect s i).mems = s.mems := by
  unfold State.auditWorker; split <;> simp

@[simp] theorem State.auditTick_mems (s : State) (n : Nat) : (s.auditTick n).mems = s.mems := by
  unfold State.auditTick; simp

@[simp] theorem State.takeBeacon_mems (s : State) (x y : Nat) (ws : List Word) : (s.takeBeacon x y ws).mems = s.mems := by
  unfold State.takeBeacon; (repeat' split) <;> simp

@[simp] theorem hAuditAccept_mems (q : Ctx) (ps : List Word) (s : State) : (hAuditAccept q ps s).2.mems = s.mems := by
  unfold hAuditAccept; simp

@[simp] theorem hLogRead_mems (q : Ctx) (ps : List Word) (s : State) : (hLogRead q ps s).2.mems = s.mems := by
  unfold hLogRead; simp

end Sys2Proof.Machine
end

section
/-! What leaves DRAM and flash as they are, one lemma for each operation, in the order of the model. Engines, frame rows, forwarding, security, sessions. -/

namespace Sys2Proof.Machine

@[simp] theorem State.showStamp_mems (s : State) : (s.showStamp).mems = s.mems := by
  unfold State.showStamp; rfl

@[simp] theorem State.setStamp_mems (s : State) (l : List StampJob) : (s.setStamp l).mems = s.mems := by
  unfold State.setStamp; rfl

@[simp] theorem hStampGo_mems (q : Ctx) (ps : List Word) (s : State) : (hStampGo q ps s).2.mems = s.mems := by
  unfold hStampGo; simp

@[simp] theorem State.markWriting_mems (s : State) (ids : List Nat) (on force : Bool) : (s.markWriting ids on force).mems = s.mems := by
  unfold State.markWriting; simp

@[simp] theorem State.forceTear_mems (s : State) (ids : List Nat) (force : Bool) : (s.forceTear ids force).mems = s.mems := by
  unfold State.forceTear; simp

@[simp] theorem State.stampStart_mems (s : State) (j : StampJob) (t : List StampJob) (ids : List Nat) :
    (s.stampStart j t ids).mems = s.mems := by
  unfold State.stampStart; simp

@[simp] theorem State.stampEnd_mems (s : State) (j : StampJob) (t : List StampJob) (bad : Bool) (x : Ans) :
    (s.stampEnd j t bad x).mems = s.mems := by
  unfold State.stampEnd; simp

@[simp] theorem State.stampFault_mems (s : State) (j : StampJob) (t : List StampJob) (err detail : Nat) :
    (s.stampFault j t err detail).mems = s.mems := by
  unfold State.stampFault; simp

@[simp] theorem State.stampHead_mems (s : State) : (s.stampHead).mems = s.mems := by
  unfold State.stampHead; (repeat' split) <;> simp

@[simp] theorem hStampAbort_mems (q : Ctx) (ps : List Word) (s : State) : (hStampAbort q ps s).2.mems = s.mems := by
  unfold hStampAbort; simp

@[simp] theorem State.showDeflate_mems (s : State) : (s.showDeflate).mems = s.mems := by
  unfold State.showDeflate; split <;> simp

@[simp] theorem State.setDeflate_mems (s : State) (l : List DefJob) : (s.setDeflate l).mems = s.mems := by
  unfold State.setDeflate; simp

@[simp] theorem State.deflateNext_mems (s : State) : (s.deflateNext).mems = s.mems := by
  unfold State.deflateNext; simp

@[simp] theorem hDeflateJob_mems (q : Ctx) (ps : List Word) (s : State) : (hDeflateJob q ps s).2.mems = s.mems := by
  unfold hDeflateJob; simp

@[simp] theorem hDeflateSupply_mems (q : Ctx) (ps : List Word) (s : State) : (hDeflateSupply q ps s).2.mems = s.mems := by
  unfold hDeflateSupply; dsimp only; (repeat' split) <;> simp

@[simp] theorem State.setHead_mems (s : State) (j : DefJob) (eaten : Nat) : (s.setHead j eaten).mems = s.mems := by
  unfold State.setHead; rfl

@[simp] theorem State.enginePause_mems (s : State) : (s.enginePause).mems = s.mems := by
  unfold State.enginePause; simp

@[simp] theorem State.laidOut_mems (s : State) (f : FireFrame) : (s.laidOut f).2.mems = s.mems := by
  unfold State.laidOut; simp

@[simp] theorem State.sealBand_mems (s : State) (f : FireFrame) (b : Nat) : (s.sealBand f b).mems = s.mems := by
  unfold State.sealBand; rfl

@[simp] theorem State.tellTaint_mems (s : State) (f : FireFrame) (b : Nat) : (s.tellTaint f b).2.mems = s.mems := by
  unfold State.tellTaint
  refine State.mems_foldl_snd (fun p x => ?_) _ _
  simp

@[simp] theorem State.fireBand_mems (s : State) (f : FireFrame) (h : Half) : (s.fireBand f h).mems = s.mems := by
  unfold State.fireBand; simp

@[simp] theorem State.pump_mems : ∀ (n : Nat) (s : State), (s.pump n).mems = s.mems
  | 0, _ => rfl
  | n + 1, s => by
    rw [State.pump]
    (repeat' split) <;> simp [State.pump_mems n]

@[simp] theorem State.fireNext_mems (s : State) : (s.fireNext).mems = s.mems := by
  unfold State.fireNext; simp

@[simp] theorem State.shelfLoaded_mems (s : State) (n b : Nat) (errs : List (Nat × Bool)) : (s.shelfLoaded n b errs).mems = s.mems := by
  unfold State.shelfLoaded; dsimp only; (repeat' split) <;> simp

@[simp] theorem State.windowClose_mems (s : State) : (s.windowClose).mems = s.mems := by
  unfold State.windowClose; simp

@[simp] theorem State.readiness_mems (s : State) : (s.readiness).mems = s.mems := by
  unfold State.readiness; split <;> simp

@[simp] theorem State.cutoff_mems (s : State) : (s.cutoff).mems = s.mems := by
  unfold State.cutoff; split <;> simp

@[simp] theorem State.windowOver_mems (s : State) : (s.windowOver).mems = s.mems := by
  unfold State.windowOver; split <;> simp

@[simp] theorem State.nextRay_mems (s : State) (parity : List Nat) : (s.nextRay parity).mems = s.mems := by
  unfold State.nextRay; dsimp only; (repeat' split) <;> simp

@[simp] theorem State.bandDone_mems (s : State) (n b : Nat) : (s.bandDone n b).mems = s.mems := by
  unfold State.bandDone; (repeat' split) <;> simp

@[simp] theorem State.laneRun_mems (errs : List ReadErr) : ∀ (n lane : Nat) (s : State), (State.laneRun errs n lane s).mems = s.mems
  | 0, _, _ => rfl
  | n + 1, lane, s => by simp [State.laneRun, State.laneRun_mems errs n]

@[simp] theorem State.bisqueSwap_mems (s : State) (outcome : Nat) : (s.bisqueSwap outcome).mems = s.mems := by
  unfold State.bisqueSwap; simp

@[simp] theorem State.bisqueAbandon_mems (s : State) : (s.bisqueAbandon).mems = s.mems := by
  unfold State.bisqueAbandon; simp

@[simp] theorem State.teCounts_mems (s : State) : (s.teCounts).mems = s.mems := by
  unfold State.teCounts; (repeat' split) <;> simp

@[simp] theorem State.teRises_mems (s : State) (input : Nat) : (s.teRises input).mems = s.mems := by
  unfold State.teRises; dsimp only; (repeat' split) <;> simp

@[simp] theorem State.deadline_mems (s : State) : (s.deadline).mems = s.mems := by
  unfold State.deadline; (repeat' split) <;> simp

@[simp] theorem State.echoLate_mems (s : State) (e : Echo) : (s.echoLate e).mems = s.mems := by
  unfold State.echoLate; simp

@[simp] theorem State.fallBack_mems (s : State) (group : Nat) : (s.fallBack group).mems = s.mems := by
  unfold State.fallBack; simp

@[simp] theorem State.storeFence_mems (s : State) (v : Nat) : (s.storeFence v).mems = s.mems := by
  unfold State.storeFence; rfl

@[simp] theorem State.fenceCheck_mems (s : State) (f : Word) : (s.fenceCheck f).2.mems = s.mems := by
  unfold State.fenceCheck; simp

@[simp] theorem State.recordBake_mems (s : State) (opcode : Nat) (route : Word) (ps : List Word) :
    (s.recordBake opcode route ps).mems = s.mems := by
  unfold State.recordBake; (repeat' split) <;> simp

@[simp] theorem State.forwardCmd_mems (s : State) (opcode : Nat) (c : Cmd) : (s.forwardCmd opcode c).mems = s.mems := by
  unfold State.forwardCmd; split <;> simp

@[simp] theorem State.denyHeld_mems (s : State) : (s.denyHeld).mems = s.mems := by
  unfold State.denyHeld; simp

@[simp] theorem State.stepDown_mems (s : State) : (s.stepDown).mems = s.mems := by
  unfold State.stepDown; simp

@[simp] theorem State.yieldTo_mems (s : State) (v : Nat) : (s.yieldTo v).mems = s.mems := by
  unfold State.yieldTo; simp

@[simp] theorem State.drew_mems (s : State) (n : Nat) : (s.drew n).mems = s.mems := by
  unfold State.drew; rfl

@[simp] theorem State.checkBlock_mems (s : State) (role : Nat) (signed b : List Word) : (s.checkBlock role signed b).2.mems = s.mems := by
  unfold State.checkBlock; simp

@[simp] theorem State.showStore_mems (s : State) : (s.showStore).mems = s.mems := by
  unfold State.showStore; rfl

@[simp] theorem State.showOtp_mems (s : State) : (s.showOtp).mems = s.mems := by
  unfold State.showOtp; rfl

@[simp] theorem State.setStore_mems (s : State) (t : SealedStore) : (s.setStore t).mems = s.mems := by
  unfold State.setStore; rfl

@[simp] theorem State.programSlot_mems (s : State) (key : List Byte) : (s.programSlot key).2.2.mems = s.mems := by
  unfold State.programSlot; simp

@[simp] theorem State.claimSlot_mems (s : State) (key : List Byte) : (s.claimSlot key).2.mems = s.mems := by
  unfold State.claimSlot; simp

@[simp] theorem hClaim_mems (q : Ctx) (ps : List Word) (s : State) : (hClaim q ps s).2.mems = s.mems := by
  unfold hClaim; (repeat' split) <;> simp

@[simp] theorem State.endSessions_mems (s : State) : (s.endSessions).mems = s.mems := by
  unfold State.endSessions; simp

@[simp] theorem hOwnerTransfer_mems (q : Ctx) (ps : List Word) (s : State) : (hOwnerTransfer q ps s).2.mems = s.mems := by
  unfold hOwnerTransfer; simp

@[simp] theorem hAttest_mems (q : Ctx) (ps : List Word) (s : State) : (hAttest q ps s).2.mems = s.mems := by
  unfold hAttest; simp

@[simp] theorem State.dropEph_mems (s : State) : (s.dropEph).mems = s.mems := by
  unfold State.dropEph; rfl

@[simp] theorem hProvision_mems (q : Ctx) (ps : List Word) (s : State) : (hProvision q ps s).2.mems = s.mems := by
  unfold hProvision; (repeat' split) <;> simp

@[simp] theorem hKeyLoad_mems (q : Ctx) (ps : List Word) (s : State) : (hKeyLoad q ps s).2.mems = s.mems := by
  unfold hKeyLoad; dsimp only; (repeat' split) <;> simp

@[simp] theorem State.dropKey_mems (s : State) (id : Nat) : (s.dropKey id).mems = s.mems := by
  unfold State.dropKey; simp

@[simp] theorem hKeyDrop_mems (q : Ctx) (ps : List Word) (s : State) : (hKeyDrop q ps s).2.mems = s.mems := by
  unfold hKeyDrop; simp

@[simp] theorem hFloorSet_mems (q : Ctx) (ps : List Word) (s : State) : (hFloorSet q ps s).2.mems = s.mems := by
  unfold hFloorSet; simp

@[simp] theorem hPolicySet_mems (q : Ctx) (ps : List Word) (s : State) : (hPolicySet q ps s).2.mems = s.mems := by
  unfold hPolicySet; simp

@[simp] theorem State.setLink_mems (s : State) (p : Nat) (l : LinkSession) : (s.setLink p l).mems = s.mems := by
  unfold State.setLink; rfl

@[simp] theorem State.sendSession_mems (s : State) (p msg : Nat) (payload : List Word) : (s.sendSession p msg payload).mems = s.mems := by
  unfold State.sendSession; simp

@[simp] theorem State.sendProof_mems (s : State) (p : Nat) : (s.sendProof p).mems = s.mems := by
  unfold State.sendProof; split <;> simp

@[simp] theorem State.sessionRun_mems (s : State) (p : Nat) : (s.sessionRun p).mems = s.mems := by
  unfold State.sessionRun; simp

@[simp] theorem State.sessionUp_mems (s : State) (p : Nat) : (s.sessionUp p).mems = s.mems := by
  unfold State.sessionUp; simp

@[simp] theorem State.sessionHello_mems (s : State) (p : Nat) (ws : List Word) : (s.sessionHello p ws).mems = s.mems := by
  unfold State.sessionHello; simp

@[simp] theorem State.refusePort_mems (s : State) (p : Nat) : (s.refusePort p).mems = s.mems := by
  unfold State.refusePort; simp

@[simp] theorem State.sessionProof_mems (s : State) (p : Nat) (ws : List Word) : (s.sessionProof p ws).mems = s.mems := by
  unfold State.sessionProof; (repeat' split) <;> simp

@[simp] theorem State.sessionNocred_mems (s : State) (p : Nat) : (s.sessionNocred p).mems = s.mems := by
  unfold State.sessionNocred; simp

@[simp] theorem State.setHost_mems (s : State) (i : Nat) (h : HostSession) : (s.setHost i h).mems = s.mems := by
  unfold State.setHost; rfl

@[simp] theorem State.showIdle_mems (s : State) : (s.showIdle).mems = s.mems := by
  unfold State.showIdle; rfl

@[simp] theorem State.useSession_mems (s : State) (i : Nat) : (s.useSession i).mems = s.mems := by
  unfold State.useSession; rfl

@[simp] theorem State.endSession_mems (s : State) (i : Nat) : (s.endSession i).mems = s.mems := by
  unfold State.endSession; rfl

@[simp] theorem hSessionHello_mems (q : Ctx) (ps : List Word) (s : State) : (hSessionHello q ps s).2.mems = s.mems := by
  unfold hSessionHello; simp

@[simp] theorem hSessionAuth_mems (q : Ctx) (ps : List Word) (s : State) : (hSessionAuth q ps s).2.mems = s.mems := by
  unfold hSessionAuth; dsimp only; (repeat' split) <;> simp

@[simp] theorem hSessionClose_mems (q : Ctx) (ps : List Word) (s : State) : (hSessionClose q ps s).2.mems = s.mems := by
  unfold hSessionClose; split <;> simp

@[simp] theorem State.showFw_mems (s : State) : (s.showFw).mems = s.mems := by
  unfold State.showFw; rfl

@[simp] theorem State.setBoot_mems (s : State) (b : BootRecord) : (s.setBoot b).mems = s.mems := by
  unfold State.setBoot; rfl

@[simp] theorem hUpdateStage_mems (q : Ctx) (ps : List Word) (s : State) : (hUpdateStage q ps s).2.mems = s.mems := by
  unfold hUpdateStage; simp

@[simp] theorem State.staged_mems (s : State) (q : Req) (x : Ans) : (s.staged q x).mems = s.mems := by
  unfold State.staged; simp

@[simp] theorem hUpdateActivate_mems (q : Ctx) (ps : List Word) (s : State) : (hUpdateActivate q ps s).2.mems = s.mems := by
  unfold hUpdateActivate; simp

@[simp] theorem State.commitTrial_mems (s : State) : (s.commitTrial).mems = s.mems := by
  unfold State.commitTrial; simp

@[simp] theorem hUpdateCommit_mems (q : Ctx) (ps : List Word) (s : State) : (hUpdateCommit q ps s).2.mems = s.mems := by
  unfold hUpdateCommit; simp

@[simp] theorem State.secureDue_mems (s : State) : (s.secureDue).mems = s.mems := by
  unfold State.secureDue; simp

end Sys2Proof.Machine
end

section
/-! What leaves DRAM and flash as they are, one lemma for each operation, in the order of the model. Resets, start-up, management commands, the pair of managers, link reception, census, tick. -/

namespace Sys2Proof.Machine

@[simp] theorem State.begin__mems (s : State) : (s.begin_).mems = s.mems := by
  unfold State.begin_; simp

@[simp] theorem State.resetPort_mems (s : State) (p : Nat) : (s.resetPort p).mems = s.mems := by
  unfold State.resetPort; simp

@[simp] theorem hLinkReset_mems (q : Ctx) (ps : List Word) (s : State) : (hLinkReset q ps s).2.mems = s.mems := by
  unfold hLinkReset; simp

@[simp] theorem State.resetWaiting_mems (s : State) (p : Nat) : (s.resetWaiting p).mems = s.mems := by
  unfold State.resetWaiting; simp

@[simp] theorem State.lresetSeen_mems (s : State) (p : Nat) : (s.lresetSeen p).mems = s.mems := by
  unfold State.lresetSeen; simp

@[simp] theorem hSoftReset_mems (q : Ctx) (ps : List Word) (s : State) : (hSoftReset q ps s).2.mems = s.mems := by
  unfold hSoftReset; simp

@[simp] theorem State.cycle_mems (s : State) (b : Nat) : (s.cycle b).mems = s.mems := by
  unfold State.cycle; simp

@[simp] theorem State.blockReset_mems (s : State) (b : Nat) : (s.blockReset b).mems = s.mems := by
  unfold State.blockReset; split <;> simp

@[simp] theorem State.partialReset_mems (s : State) (mask : Nat) : (s.partialReset mask).mems = s.mems := by
  unfold State.partialReset; simp

@[simp] theorem State.softBack_mems (s : State) : (s.softBack).mems = s.mems := by
  unfold State.softBack; simp

@[simp] theorem State.showBisque_mems (s : State) (ws : List Word) (err : Option Nat) : (s.showBisque ws err).mems = s.mems := by
  unfold State.showBisque; rfl

@[simp] theorem State.takeBisque_mems (s : State) (ws : List Word) (ok : Bool) : (s.takeBisque ws ok).mems = s.mems := by
  unfold State.takeBisque; rfl

@[simp] theorem State.bisqueSig_mems (s : State) (err : Option Nat) : (s.bisqueSig err).mems = s.mems := by
  unfold State.bisqueSig; simp

@[simp] theorem State.bisqueFails_mems (s : State) (err : Option Nat) : (s.bisqueFails err).mems = s.mems := by
  unfold State.bisqueFails; simp

@[simp] theorem State.bisqueVerified_mems (s : State) (flashOk : Bool) : (s.bisqueVerified flashOk).mems = s.mems := by
  unfold State.bisqueVerified; simp

@[simp] theorem State.bootSelect_mems (s : State) : (s.bootSelect).mems = s.mems := by
  unfold State.bootSelect; rfl

@[simp] theorem State.showStage_mems (s : State) : (s.showStage).mems = s.mems := by
  unfold State.showStage; rfl

@[simp] theorem hBisqueLoad_mems (q : Ctx) (ps : List Word) (s : State) : (hBisqueLoad q ps s).2.mems = s.mems := by
  unfold hBisqueLoad; dsimp only; (repeat' split) <;> simp

@[simp] theorem State.showStep_mems (s : State) : (s.showStep).mems = s.mems := by
  unfold State.showStep; split <;> simp

@[simp] theorem hBisqueWrite_mems (q : Ctx) (ps : List Word) (s : State) : (hBisqueWrite q ps s).2.mems = s.mems := by
  unfold hBisqueWrite; simp

@[simp] theorem State.bisWriteEnd_mems (s : State) (q : Req) (x : Ans) : (s.bisWriteEnd q x).mems = s.mems := by
  unfold State.bisWriteEnd; simp

@[simp] theorem hPowerState_mems (q : Ctx) (ps : List Word) (s : State) : (hPowerState q ps s).2.mems = s.mems := by
  unfold hPowerState; simp

@[simp] theorem State.bankedEntry_mems (s : State) (snap : Bool) : (s.bankedEntry snap).mems = s.mems := by
  unfold State.bankedEntry; simp

@[simp] theorem State.bankedDue_mems (s : State) : (s.bankedDue).mems = s.mems := by
  unfold State.bankedDue; split <;> simp

@[simp] theorem State.loseVolatile_mems (s : State) : (s.loseVolatile).mems = s.mems := by
  unfold State.loseVolatile; simp

@[simp] theorem State.bankedExit_mems (s : State) (k src : Nat) : (s.bankedExit k src).mems = s.mems := by
  unfold State.bankedExit; simp

@[simp] theorem State.exitDue_mems (s : State) : (s.exitDue).mems = s.mems := by
  unfold State.exitDue; (repeat' split) <;> simp

@[simp] theorem hOwnerFlashWrite_mems (q : Ctx) (ps : List Word) (s : State) : (hOwnerFlashWrite q ps s).2.mems = s.mems := by
  unfold hOwnerFlashWrite; dsimp only; (repeat' split) <;> simp

@[simp] theorem hPing_mems (q : Ctx) (ps : List Word) (s : State) : (hPing q ps s).2.mems = s.mems := by
  unfold hPing; rfl

@[simp] theorem hStageStatus_mems (q : Ctx) (ps : List Word) (s : State) : (hStageStatus q ps s).2.mems = s.mems := by
  unfold hStageStatus; rfl

@[simp] theorem hSafeDark_mems (q : Ctx) (ps : List Word) (s : State) : (hSafeDark q ps s).2.mems = s.mems := by
  unfold hSafeDark; simp

@[simp] theorem hRouteSet_mems (q : Ctx) (ps : List Word) (s : State) : (hRouteSet q ps s).2.mems = s.mems := by
  unfold hRouteSet; dsimp only; (repeat' split) <;> simp

@[simp] theorem hTakeover_mems (q : Ctx) (ps : List Word) (s : State) : (hTakeover q ps s).2.mems = s.mems := by
  unfold hTakeover; dsimp only; (repeat' split) <;> simp

@[simp] theorem State.checkMap_mems (s : State) (m : List Word) : (s.checkMap m).2.mems = s.mems := by
  unfold State.checkMap; simp

@[simp] theorem hMapSend_mems (q : Ctx) (ps : List Word) (s : State) : (hMapSend q ps s).2.mems = s.mems := by
  unfold hMapSend; simp

@[simp] theorem hCensusCall_mems (q : Ctx) (ps : List Word) (s : State) : (hCensusCall q ps s).2.mems = s.mems := by
  unfold hCensusCall; simp

@[simp] theorem hPlace_mems (q : Ctx) (ps : List Word) (s : State) : (hPlace q ps s).2.mems = s.mems := by
  unfold hPlace; (repeat' split) <;> simp

@[simp] theorem State.startCensus_mems (s : State) (q : Option Req) : (s.startCensus q).mems = s.mems := by
  unfold State.startCensus; simp

@[simp] theorem hLinkCensus_mems (q : Ctx) (ps : List Word) (s : State) : (hLinkCensus q ps s).2.mems = s.mems := by
  unfold hLinkCensus; simp

@[simp] theorem hLinkWake_mems (q : Ctx) (ps : List Word) (s : State) : (hLinkWake q ps s).2.mems = s.mems := by
  unfold hLinkWake; dsimp only; (repeat' split) <;> simp

@[simp] theorem State.wakeDone_mems (s : State) (p : Nat) : (s.wakeDone p).mems = s.mems := by
  unfold State.wakeDone; (repeat' split) <;> simp

@[simp] theorem State.wakesDone_mems (s : State) : (s.wakesDone).mems = s.mems := by
  unfold State.wakesDone; simp

@[simp] theorem State.refresh_mems (s : State) : (s.refresh).mems = s.mems := by
  unfold State.refresh; rfl

@[simp] theorem State.cacheAdd_mems (s : State) (e : CacheEntry) : (s.cacheAdd e).mems = s.mems := by
  unfold State.cacheAdd; rfl

@[simp] theorem State.judgeCmd_mems (s : State) (o : Option OpSpec) (n : Nat) (c : Cmd) : (s.judgeCmd o n c).2.mems = s.mems := by
  unfold State.judgeCmd; dsimp only; (repeat' split) <;> simp

@[simp] theorem State.onward__mems (s : State) (n : Nat) (c : Cmd) : (s.onward_ n c).mems = s.mems := by
  unfold State.onward_; simp

@[simp] theorem State.mgrTakes_mems (s : State) (n : Nat) (c : Cmd) : (s.mgrTakes n c).mems = s.mems := by
  unfold State.mgrTakes; split <;> simp

@[simp] theorem State.sendPeer_mems (s : State) (q : List Word) : (s.sendPeer q).mems = s.mems := by
  unfold State.sendPeer; simp

@[simp] theorem State.noteFence_mems (s : State) (v : Nat) : (s.noteFence v).mems = s.mems := by
  unfold State.noteFence; simp

@[simp] theorem State.sendMirror_mems (s : State) : (s.sendMirror).mems = s.mems := by
  unfold State.sendMirror; simp

@[simp] theorem State.mirrorAck_mems (s : State) (g : Nat) : (s.mirrorAck g).mems = s.mems := by
  unfold State.mirrorAck; simp

@[simp] theorem State.restartDeltas_mems (s : State) : (s.restartDeltas).mems = s.mems := by
  unfold State.restartDeltas
  refine State.mems_foldl (fun s x => ?_) _ _
  split <;> simp

@[simp] theorem State.sendSchedule_mems (s : State) : (s.sendSchedule).mems = s.mems := by
  unfold State.sendSchedule; simp

@[simp] theorem State.sendTakeover_mems (s : State) : (s.sendTakeover).mems = s.mems := by
  unfold State.sendTakeover; simp

@[simp] theorem State.claim_mems (s : State) : (s.claim).mems = s.mems := by
  unfold State.claim; simp

@[simp] theorem State.startBridge_mems (s : State) : (s.startBridge).mems = s.mems := by
  unfold State.startBridge
  refine (State.mems_foldl (fun s x => ?_) _ _).trans (by simp)
  split
  · rfl
  · simp [State.mems_foldl_snd]

@[simp] theorem State.mirrorWait_mems (s : State) : (s.mirrorWait).mems = s.mems := by
  unfold State.mirrorWait; simp

@[simp] theorem State.countClean_mems (s : State) : (s.countClean).mems = s.mems := by
  unfold State.countClean; simp

@[simp] theorem State.handbackClaim_mems (s : State) : (s.handbackClaim).mems = s.mems := by
  unfold State.handbackClaim; simp

@[simp] theorem State.renewWait_mems (s : State) : (s.renewWait).mems = s.mems := by
  unfold State.renewWait; simp

@[simp] theorem State.renewed_mems (s : State) (path : Nat) : (s.renewed path).mems = s.mems := by
  unfold State.renewed; simp

@[simp] theorem State.mgrTick_mems (s : State) (n : Nat) : (s.mgrTick n).mems = s.mems := by
  unfold State.mgrTick; simp

@[simp] theorem State.takeMirror_mems (s : State) (m : List (Nat × List Word)) : (s.takeMirror m).mems = s.mems := by
  unfold State.takeMirror; simp

@[simp] theorem State.mirrorMessage_mems (s : State) (g : Nat) (q : List Word) : (s.mirrorMessage g q).mems = s.mems := by
  unfold State.mirrorMessage; dsimp only; (repeat' split) <;> simp

@[simp] theorem State.takeRenew_mems (s : State) (path : Nat) (active release : Bool) (idx v tick : Nat) :
    (s.takeRenew path active release idx v tick).mems = s.mems := by
  unfold State.takeRenew; simp

@[simp] theorem State.peerMessage_mems (s : State) (path : Nat) (q : List Word) : (s.peerMessage path q).mems = s.mems := by
  unfold State.peerMessage; dsimp only; (repeat' split) <;> simp

@[simp] theorem State.sendHeld_mems (s : State) : (s.sendHeld).mems = s.mems := by
  unfold State.sendHeld; simp

@[simp] theorem State.handbackFails_mems (s : State) : (s.handbackFails).mems = s.mems := by
  unfold State.handbackFails; simp

@[simp] theorem State.portTry_mems (s : State) (p : Nat) : (s.portTry p).mems = s.mems := by
  unfold State.portTry; simp

@[simp] theorem State.wakeIfLocked_mems (s : State) (p : Nat) (was : Bool) : (s.wakeIfLocked p was).mems = s.mems := by
  unfold State.wakeIfLocked; simp

@[simp] theorem State.takeAck_mems (s : State) (p : Nat) (c0 : Word) : (s.takeAck p c0).mems = s.mems := by
  unfold State.takeAck; simp

@[simp] theorem State.takeFar_mems (s : State) (p : Nat) (ws : List Word) : (s.takeFar p ws).mems = s.mems := by
  unfold State.takeFar; rfl

@[simp] theorem State.ctrlSeen_mems (s : State) (p : Nat) (ws : List Word) : (s.ctrlSeen p ws).mems = s.mems := by
  unfold State.ctrlSeen; simp

@[simp] theorem State.answerReq_mems (s : State) (p : Nat) (ws : List Word) (resp : Nat) : (s.answerReq p ws resp).mems = s.mems := by
  unfold State.answerReq; simp

@[simp] theorem State.noExchange_mems (s : State) : (s.noExchange).mems = s.mems := by
  unfold State.noExchange; rfl

@[simp] theorem State.takeResp_mems (s : State) (p : Nat) (ws : List Word) (retry : Bool) : (s.takeResp p ws retry).mems = s.mems := by
  unfold State.takeResp; split <;> simp

@[simp] theorem State.feedBoth_mems (s : State) (x : Exchange) : (s.feedBoth x).mems = s.mems := by
  unfold State.feedBoth; simp

@[simp] theorem State.takeFup_mems (s : State) (p : Nat) (ws : List Word) (retry : Bool) : (s.takeFup p ws retry).mems = s.mems := by
  unfold State.takeFup; dsimp only; (repeat' split) <;> simp

@[simp] theorem State.timePacket_mems (s : State) (p : Nat) (ws : List Word) (retry : Bool) : (s.timePacket p ws retry).mems = s.mems := by
  unfold State.timePacket; split <;> simp

@[simp] theorem State.workerReply_mems (s : State) (h0 : Word) (ps : List Word) : (s.workerReply h0 ps).mems = s.mems := by
  unfold State.workerReply; dsimp only; (repeat' split) <;> simp

@[simp] theorem State.reactEvent_mems (s : State) (i : Option Nat) (e : Nat) : (s.reactEvent i e).mems = s.mems := by
  unfold State.reactEvent; (repeat' split) <;> simp

@[simp] theorem State.beaconPacket_mems (s : State) (h0 : Word) (ps : List Word) : (s.beaconPacket h0 ps).mems = s.mems := by
  unfold State.beaconPacket; dsimp only; (repeat' split) <;> simp

@[simp] theorem State.stampSent_mems (s : State) (p ty : Nat) (ws : List Word) : (s.stampSent p ty ws).mems = s.mems := by
  unfold State.stampSent; (repeat' split) <;> simp

@[simp] theorem State.queueFails_mems (s : State) (p : Nat) (errs : List ReadErr) : (s.queueFails p errs).mems = s.mems := by
  unfold State.queueFails; dsimp only; (repeat' split) <;> simp

@[simp] theorem State.takeWorkers_mems (s : State) (ps : List Placed) : (s.takeWorkers ps).mems = s.mems := by
  unfold State.takeWorkers
  dsimp only
  refine (State.mems_foldl (fun s x => ?_) _ _).trans (State.setMgr_mems _ _)
  split <;> simp

@[simp] theorem State.install_mems (s : State) (ps : List Placed) (routes : List (Word × List Word)) :
    (s.install ps routes).mems = s.mems := by
  unfold State.install; simp

@[simp] theorem State.censusEnd_mems (s : State) (routes : List (Word × List Word)) : (s.censusEnd routes).mems = s.mems := by
  unfold State.censusEnd; simp

@[simp] theorem State.applyRecord_mems (s : State) : (s.applyRecord).mems = s.mems := by
  unfold State.applyRecord; simp

@[simp] theorem State.onTo_mems (s : State) (t : Int) : (s.onTo t).mems = s.mems := by
  unfold State.onTo; rfl

@[simp] theorem State.lateEchoes_mems (s : State) : (s.lateEchoes).mems = s.mems := by
  unfold State.lateEchoes; simp

@[simp] theorem State.overdue_mems (s : State) : (s.overdue).mems = s.mems := by
  unfold State.overdue; simp

@[simp] theorem State.countHeld_mems (s : State) (f : FireFrame) : (s.countHeld f).mems = s.mems := by
  unfold State.countHeld
  split
  · rfl
  · refine State.mems_foldl (fun s x => ?_) _ _
    split <;> simp

@[simp] theorem State.closeFrame_mems (s : State) (n : Nat) : (s.closeFrame n).mems = s.mems := by
  unfold State.closeFrame; dsimp only; (repeat' split) <;> simp

@[simp] theorem State.synfRelock_mems (s : State) : (s.synfRelock).mems = s.mems := by
  unfold State.synfRelock; simp

@[simp] theorem State.takeScan_mems (s : State) (was : List Nat) (slip : Bool) : (s.takeScan was slip).mems = s.mems := by
  unfold State.takeScan; simp

@[simp] theorem State.takeMode_mems (s : State) : (s.takeMode).mems = s.mems := by
  unfold State.takeMode; simp

@[simp] theorem State.reportTick_mems (s : State) : (s.reportTick).mems = s.mems := by
  unfold State.reportTick
  split
  · rfl
  · refine State.mems_foldl (fun s x => ?_) _ _
    rfl

@[simp] theorem State.showDepth_mems (s : State) (copy : RegFile) : (s.showDepth copy).mems = s.mems := by
  unfold State.showDepth; rfl

@[simp] theorem State.takeCopy_mems (s : State) (n : Nat) (copy : RegFile) : (s.takeCopy n copy).mems = s.mems := by
  unfold State.takeCopy; simp

@[simp] theorem State.planFrame_mems (s : State) (copy : RegFile) (f : FireFrame) (items : List PlanItem) :
    (s.planFrame copy f items).mems = s.mems := by
  unfold State.planFrame; simp

@[simp] theorem State.openFrame_mems (s : State) (items : List PlanItem) : (s.openFrame items).mems = s.mems := by
  unfold State.openFrame; simp

@[simp] theorem State.streamEnd_mems (s : State) : (s.streamEnd).mems = s.mems := by
  unfold State.streamEnd; split <;> simp

@[simp] theorem State.idlePlan_mems (s : State) (items : List PlanItem) : (s.idlePlan items).mems = s.mems := by
  unfold State.idlePlan; simp

@[simp] theorem State.sendBisque_mems (s : State) (n : Nat) : (s.sendBisque n).mems = s.mems := by
  unfold State.sendBisque; simp

@[simp] theorem State.showLoad_mems (s : State) : (s.showLoad).mems = s.mems := by
  unfold State.showLoad; rfl

@[simp] theorem State.tellPhase_mems (s : State) (n : Nat) : (s.tellPhase n).mems = s.mems := by
  unfold State.tellPhase; split <;> simp

@[simp] theorem State.tickMgr_mems (s : State) (n : Nat) (items : List PlanItem) : (s.tickMgr n items).mems = s.mems := by
  unfold State.tickMgr; dsimp only; (repeat' split) <;> simp

@[simp] theorem State.tickWorker_mems (s : State) (n : Nat) (items : List PlanItem) : (s.tickWorker n items).mems = s.mems := by
  unfold State.tickWorker; simp

@[simp] theorem State.takeFiring_mems (s : State) : (s.takeFiring).mems = s.mems := by
  unfold State.takeFiring; rfl

@[simp] theorem State.freshTick_mems (s : State) : (s.freshTick).mems = s.mems := by
  unfold State.freshTick; rfl

@[simp] theorem State.repeatAt_mems (s : State) (n : Nat) : (s.repeatAt n).mems = s.mems := by
  unfold State.repeatAt; (repeat' split) <;> simp

@[simp] theorem State.withFetchWord_mems (s : State) (nbits w : Nat) : (s.withFetchWord nbits w).mems = s.mems := by
  unfold State.withFetchWord; rfl

end Sys2Proof.Machine
end

section
/-! The operations that write DRAM or flash keep both in canonical form (R141, R394). -/

namespace Sys2Proof.Machine

/-- DRAM, and flash, in canonical form. -/
def dramWf (d : List Host.Cell) : Bool := Memory.wf dramByte0 d
def flashWf (f : List Host.Cell) : Bool := Memory.wf (fun _ => 0xFF) f

/-- Both memories are in canonical form. -/
def memsOk (m : List Host.Cell × List Host.Cell) : Bool := dramWf m.1 && flashWf m.2

theorem State.memOk_eq (s : State) : s.memOk = memsOk s.mems := rfl

@[simp] theorem memsOk_mk (d f : List Host.Cell) : memsOk (d, f) = (dramWf d && flashWf f) := rfl

@[simp] theorem dramWf_nil : dramWf [] = true := wf_nil _

theorem State.dramWf_of_mems {s : State} (h : memsOk s.mems = true) : dramWf s.dram = true := ((Bool.and_eq_true _ _).mp h).1

theorem State.flashWf_of_mems {s : State} (h : memsOk s.mems = true) : flashWf s.flash = true := ((Bool.and_eq_true _ _).mp h).2

/-- What keeps flash, by its memories. -/
theorem State.flash_of_mems {s t : State} (h : t.mems = s.mems) : t.flash = s.flash := congrArg Prod.snd h

theorem State.dram_of_mems {s t : State} (h : t.mems = s.mems) : t.dram = s.dram := congrArg Prod.fst h

/-- A fold whose every step keeps the memories in canonical form keeps them so. -/
theorem State.foldl_memsOk {β : Type} {f : State → β → State} (hf : ∀ s x, memsOk s.mems = true → memsOk (f s x).mems = true)
    (l : List β) {s : State} (h : memsOk s.mems = true) : memsOk (l.foldl f s).mems = true :=
  List.foldlRecOn l f h fun b hb a _ => hf b a hb

/-! ### DRAM -/

theorem State.store_memsOk {s : State} (h : memsOk s.mems = true) (req a : Nat) (ws : List Word) :
    memsOk (s.store req a ws).1.mems = true := by
  have hd : dramWf (storeRun (ws.length + 1) s.dram a ws).1 = true := wf_storeRun _ _ _ _ (State.dramWf_of_mems h)
  unfold State.store
  dsimp only
  split <;> simp [hd, State.flashWf_of_mems h]

theorem State.putImage_memsOk {s : State} (h : memsOk s.mems = true) (i : Img) (ids : List Nat) :
    memsOk (s.putImage i ids).2.mems = true := by
  unfold State.putImage
  dsimp only
  have ht : memsOk (i.parity.foldl (fun (x : State) p => x.parityHit p)
      (if i.force then s.tear (ids.filter (fun k => s.rb Reg.KILN_SURF_W3_SEALED k)) else s)).mems = true := by simpa using h
  split <;> simpa using State.store_memsOk ht _ _ _

theorem State.writeCmd_memsOk {s : State} (h : memsOk s.mems = true) (c : Ctx) (ps : List Word) :
    memsOk (s.writeCmd c ps).2.mems = true := by
  unfold State.writeCmd
  split
  · exact h
  · split
    · exact h
    · exact h
    · exact h
    · exact h
    · simpa using h
    · exact State.putImage_memsOk h _ _

theorem State.putBytes_memsOk {s : State} (h : memsOk s.mems = true) (base f : Nat) (l : List Byte) :
    memsOk (s.putBytes base f l).1.mems = true := State.store_memsOk h _ _ _

theorem State.putRun_memsOk {s : State} (h : memsOk s.mems = true) (a : Nat) (ws : List Word) :
    memsOk (putRun s.dram a ws, s.flash) = true := by
  have hd : dramWf (putRun s.dram a ws) = true := wf_putRun _ _ (State.dramWf_of_mems h)
  simp [hd, State.flashWf_of_mems h]

theorem State.finishPic_memsOk {s : State} (h : memsOk s.mems = true) (seq : Nat) (p : Prog) (sei : Option (Nat × List Nat)) :
    memsOk (s.finishPic seq p sei).mems = true := by
  unfold State.finishPic
  dsimp only
  split
  · simpa using h
  · simp only [State.showPool_mems, State.prune_mems, State.mems_mk, State.raiseIf_dram, State.raiseIf_flash, State.count_dram,
      State.count_flash]
    exact State.putRun_memsOk (by simpa using h) _ _

theorem State.pictureBegin_memsOk {s : State} (h : memsOk s.mems = true) (seq : Nat) (g : PicHead) :
    memsOk (s.pictureBegin seq g).mems = true := by
  have hd : memsOk s.drain.mems = true := by simpa using h
  unfold State.pictureBegin
  dsimp only
  split
  · exact hd
  split
  · exact hd
  split
  · exact hd
  split
  · simpa using hd
  split
  · simpa using State.finishPic_memsOk hd _ _ _
  split
  · simpa using State.finishPic_memsOk (s := s.drain.decErr _ _ _ _) (by simpa using hd) _ _ _
  · exact hd

theorem State.pictureEnd_memsOk {s : State} (h : memsOk s.mems = true) (seq : Nat) (sei : Option (Nat × List Nat)) :
    memsOk (s.pictureEnd seq sei).mems = true := by
  have hd : memsOk s.drain.mems = true := by simpa using h
  unfold State.pictureEnd
  dsimp only
  split
  · split
    · exact State.finishPic_memsOk hd _ _ _
    · exact hd
  · exact hd

/-! ### STAMP -/

theorem StampRun.put_dramWf {t : StampRun} (h : dramWf t.d = true) (a : Nat) (v : Word) : dramWf (t.put a v).d = true :=
  wf_storeRun _ _ _ _ h

theorem StampRun.putByte_dramWf {t : StampRun} (h : dramWf t.d = true) (row b v : Nat) : dramWf (t.putByte row b v).d = true :=
  StampRun.put_dramWf (StampRun.put_dramWf h _ _) _ _

/-- A result that may leave the texel unwritten. -/
theorem StampRun.putOption_dramWf {t : StampRun} (h : dramWf t.d = true) (a : Nat) (f : Word → Word) (r : Option Word) :
    dramWf (match r with | none => t | some v => t.put a (f v)).d = true := by
  cases r with
  | none => exact h
  | some v => exact StampRun.put_dramWf h _ _

theorem State.stampTexel_dramWf (s : State) (j : StampJob) {t : StampRun} (h : dramWf t.d = true) (x y : Nat) :
    dramWf (s.stampTexel j t x y).d = true := by
  unfold State.stampTexel
  dsimp only
  generalize (if j.op = 0 then (([], 0, none) : List Nat × Nat × Option (Nat × Nat))
    else s.stampSource j t (j.src.x + x) (j.src.y + y)) = src
  split
  · exact h
  generalize ht : ({ t.read src.1 with err := (t.read src.1).err.orElse fun _ => src.2.2 } : StampRun) = u
  have hu : dramWf u.d = true := by rw [← ht]; exact h
  split
  · exact List.foldlRecOn (motive := fun (r : StampRun) => dramWf r.d = true) _ _ hu fun b hb _ _ => StampRun.putByte_dramWf hb _ _ _
  generalize (if j.dst.kind = 0 then j.dst.base + (j.dst.y + y) * j.dst.stride + j.dst.x + x
    else 7 * (surfOf s.regs j.dst.id).base + (j.dst.y + y) * (surfOf s.regs j.dst.id).stride + j.dst.x + x) = a
  generalize hr : u.read [a] = r
  have hrd : dramWf r.d = true := by rw [← hr]; exact hu
  split
  · exact hrd
  · exact StampRun.putOption_dramWf hrd a (fun v => if j.op = 4 then v else maskedValue (dramWord r.d a) j.wmask v) _

theorem State.stampRows_dramWf (s : State) (j : StampJob) : ∀ (ys : List Nat) {t : StampRun} (n : Nat), dramWf t.d = true →
    dramWf (s.stampRows j ys t n).1.d = true
  | [], _, _, h => h
  | y :: ys, t, n, h => by
    have hrow (xs : List Nat) : dramWf (xs.foldl (fun (r : StampRun) x => if r.err.isSome then r else s.stampTexel j r x y) t).d = true :=
      List.foldlRecOn (motive := fun (r : StampRun) => dramWf r.d = true) _ _ h fun b hb _ _ => by
        split
        · exact hb
        · exact s.stampTexel_dramWf j hb _ _
    rw [State.stampRows]
    generalize (if bit j.ctrl 28 then (List.range j.w).reverse else List.range j.w) = xs
    split
    · exact hrow xs
    · exact s.stampRows_dramWf j ys _ (hrow xs)

theorem State.blockTexels_d (s : State) (j : StampJob) (t : StampRun) (bx by_ : Nat) : (s.blockTexels j t bx by_).2.d = t.d := by
  unfold State.blockTexels
  refine List.foldlRecOn (motive := fun (p : List Word × StampRun) => p.2.d = t.d) _ _ rfl fun p hp k _ => ?_
  split <;> exact hp

theorem StampRun.puts_dramWf {t : StampRun} (h : dramWf t.d = true) (a : Nat) (ws : List Word) (is : List Nat) :
    dramWf (is.foldl (fun (r : StampRun) i => r.put (a + i) (nthW ws i)) t).d = true :=
  List.foldlRecOn (motive := fun (r : StampRun) => dramWf r.d = true) _ _ h fun _ hr _ _ => StampRun.put_dramWf hr _ _

theorem State.stampBlocks_dramWf (s : State) (j : StampJob) (u : Surf) : ∀ (ns : List Nat) {t : StampRun} (used : Nat), dramWf t.d = true →
    dramWf (s.stampBlocks j u ns t used).1.d = true
  | [], _, _, h => h
  | n :: ns, t, used, h => by
    have hb : dramWf (s.blockTexels j t (n % cdiv u.w 8) (n / cdiv u.w 8)).2.d = true := by rw [State.blockTexels_d]; exact h
    rw [State.stampBlocks]
    dsimp only
    generalize s.blockTexels j t (n % cdiv u.w 8) (n / cdiv u.w 8) = b at hb ⊢
    split
    · exact hb
    split
    · have hr := StampRun.puts_dramWf (StampRun.put_dramWf hb (7 * u.base + n)
        (pack [(34, (crumbBlock b.1).1), (28, (crumbBlock b.1).2.length - 1), (0, used)])) (7 * u.base + crumbBlocks u.w u.h + used)
        (crumbBlock b.1).2 (List.range (crumbBlock b.1).2.length)
      split
      · exact hr
      · exact s.stampBlocks_dramWf j u ns _ hr
    · exact s.stampBlocks_dramWf j u ns _ hb

/-- What ends a run leaves the memories as the job left them. -/
theorem State.stampDone_memsOk {s : State} (h : memsOk s.mems = true) {r : StampRun} (hr : dramWf r.d = true) (j : StampJob)
    (t : List StampJob) (l : List (Nat × Nat)) (rows : Nat) :
    memsOk (
      let u := l.foldl (fun (x : State) (a : Nat × Nat) => x.writeChannels a.1 a.2) ({ s with dram := r.d }.drawn.act 8 10 r.moved)
      let v := (u.w Reg.STAMP_PROGRESS_ROWS rows).raises (watermarks j.step j.h rows)
      let x := if r.hazard then (v.w Reg.STAMP_STATUS_OVERLAP_HAZARD 1).raise 994 0 else v
      match r.err with
      | none => x.stampEnd j t false (.done (b2n r.hazard))
      | some e => (if e.1 = 1 then x.sectorFail 3 e.2 else x).stampFault j t e.1 (satN 0xFFFFFFF e.2)).mems = true := by
  dsimp only
  split <;> simp [hr, State.flashWf_of_mems h]

theorem State.stampRun_memsOk {s : State} (h : memsOk s.mems = true) : memsOk s.stampRun.mems = true := by
  have hd : dramWf s.dram = true := State.dramWf_of_mems h
  unfold State.stampRun
  split
  · exact h
  rename_i j t _
  split
  · exact h
  refine State.stampDone_memsOk h ?_ j t _ _
  by_cases hc : j.dst.format s.regs true = 4
  · simp only [hc, if_true]
    split <;> exact s.stampBlocks_dramWf j _ _ 0 hd
  · simp only [hc, if_false]
    exact s.stampRows_dramWf j _ 0 hd

end Sys2Proof.Machine
end

section
/-! DEFLATE jobs, queued writes, flash records and resets keep the memories in canonical form. -/

namespace Sys2Proof.Machine

/-! ### DEFLATE and the queue of writes -/

theorem State.defFill_memsOk : ∀ (n : Nat) {s : State} (j : DefJob) (l : List Byte), memsOk s.mems = true →
    memsOk (State.defFill n s j l).1.mems = true
  | 0, _, _, _, h => h
  | n + 1, s, j, l, h => by
    have hput {u : State} (hu : memsOk u.mems = true) (b f : Nat) (l r : List Byte) (i k : DefJob) :
        memsOk (match u.putBytes b f l with
          | (s, some e) => (s, i, some (DefStop.sector e))
          | (s, none) => State.defFill n s k r).1.mems = true := by
      have hb := State.putBytes_memsOk hu b f l
      cases hp : u.putBytes b f l with
      | mk v e =>
        rw [hp] at hb
        cases e with
        | some e => exact hb
        | none => exact State.defFill_memsOk n _ _ hb
    unfold State.defFill
    split
    · exact h
    · exact h
    · split
      · exact State.defFill_memsOk n _ _ h
      · split
        · exact hput h _ _ _ _ _ _
        · split
          · exact hput (by simpa using h) _ _ _ _ _ _
          · exact h

theorem State.defPad_memsOk {s : State} (h : memsOk s.mems = true) (j : DefJob) : memsOk (s.defPad j).mems = true := by
  unfold State.defPad
  split
  · split
    · exact h
    · exact State.putBytes_memsOk h _ _ _
  · exact h

theorem State.defEnd_memsOk {s : State} (h : memsOk s.mems = true) (j : DefJob) (bad : Bool) (a : Ans) :
    memsOk (s.defEnd j bad a).mems = true := by
  unfold State.defEnd
  simpa using State.defPad_memsOk h j

theorem State.defFault_memsOk {s : State} (h : memsOk s.mems = true) (j : DefJob) (code offset detail : Nat) :
    memsOk (s.defFault j code offset detail).mems = true := by
  unfold State.defFault
  rw [State.raise_mems]
  exact State.defEnd_memsOk (by simpa using h) _ _ _

/-- What a run of the engine comes to (R491–R496), by what stopped it. -/
theorem State.defStopped_memsOk {v : State} (h : memsOk v.mems = true) (j : DefJob) (g : Option Nat) (w : Option DefStop) (d : DefStream) :
    memsOk (match w with
      | some (.sector n) => v.defFault j 0x10 d.eaten n
      | some (.gate (.sealed_ id)) => v.defEnd j false (.sealed id)
      | some (.gate .denied) => v.defEnd j false .denied
      | some (.gate .bad) => v.defEnd j false .badParam
      | some (.gate .resource) => v.defEnd j false .resource
      | some (.gate (.queue ids)) =>
        (v.queueWrite ⟨0xD01, j.req.src, j.req.tag, 0, 0⟩ ids [] j.wait j.force).w Reg.DEFLATE_STATUS_STATE 5
      | some (.gate (.go _)) => v
      | none =>
        if d.stop = 0 then v.defEnd j false (.reply (j.report d))
        else if d.stop = 0x100 then (v.w Reg.DEFLATE_STATUS_STATE 2).raise 1009 0
        else if d.stop = 0x09 then
          match g with
          | some n => (v.sectorFail 4 n).defFault j 0x10 d.eaten n
          | none => if j.more then (v.w Reg.DEFLATE_STATUS_STATE 3).raise 1010 0 else v.defFault j 0x09 d.eaten d.eaten
        else v.defFault j d.stop d.eaten d.eaten).mems = true := by
  have hfault (code offset detail : Nat) := State.defFault_memsOk h j code offset detail
  have hend (bad : Bool) (a : Ans) := State.defEnd_memsOk h j bad a
  split
  · exact hfault _ _ _
  · exact hend _ _
  · exact hend _ _
  · exact hend _ _
  · exact hend _ _
  · simpa using h
  · exact h
  split
  · exact hend _ _
  split
  · simpa using h
  split
  · split
    · exact State.defFault_memsOk (by simpa using h) _ _ _ _
    split
    · simpa using h
    · exact hfault _ _ _
  · exact hfault _ _ _

theorem State.defRun_memsOk {s : State} (h : memsOk s.mems = true) : memsOk s.defRun.mems = true := by
  unfold State.defRun
  split
  · exact h
  split
  · exact h
  rename_i old _ _ _
  have hin : memsOk (old.inputs.foldl (fun (x : State) (r : Nat × Nat) => x.wakeChannels r.1 (pairWords r.2)) s).mems = true := by
    simpa using h
  refine State.defStopped_memsOk ?_ _ _ _ _
  rw [State.act_mems, State.setHead_mems]
  exact State.defFill_memsOk _ _ _ hin

theorem State.runQueued_memsOk {s : State} (h : memsOk s.mems = true) (q : QWrite) : memsOk (s.runQueued q).mems = true := by
  have hu : memsOk (s.unqueue q).mems = true := by simpa using h
  unfold State.runQueued
  dsimp only
  split
  · split
    · split
      · simpa using h
      · exact hu
    · exact hu
  split
  · split
    · simpa using h
    · exact hu
  split
  · simpa using h
  split
  · exact hu
  · simpa using State.putImage_memsOk hu _ _

theorem State.runQueue_memsOk : ∀ (n : Nat) {s : State}, memsOk s.mems = true → memsOk (State.runQueue n s).mems = true
  | 0, _, h => h
  | n + 1, s, h => by
    rw [State.runQueue]
    split
    · exact h
    · exact State.runQueue_memsOk n (State.runQueued_memsOk h _)

theorem State.writesDue_memsOk {s : State} (h : memsOk s.mems = true) : memsOk s.writesDue.mems = true := State.runQueue_memsOk _ h

/-! ### Flash -/

theorem State.flashErase_wf {s : State} (h : memsOk s.mems = true) (a n : Nat) : flashWf (flashErase s.flash a n) = true :=
  wf_flashErase _ _ (State.flashWf_of_mems h)

theorem flashWrite_flashWf {f : List Host.Cell} (h : flashWf f = true) (a : Nat) (l : List Byte) : flashWf (flashWrite f a l) = true :=
  wf_flashWrite _ _ h

/-- A record written to flash, whose sector is erased first where the record begins it. -/
theorem State.flashRecord_wf {s : State} (h : memsOk s.mems = true) (p : Prop) [Decidable p] (a n b : Nat) (l : List Byte) :
    flashWf (flashWrite (if p then flashErase s.flash a n else s.flash) b l) = true := by
  refine flashWrite_flashWf ?_ _ _
  split
  · exact State.flashErase_wf h _ _
  · exact State.flashWf_of_mems h

theorem State.runLog_memsOk {s : State} (h : memsOk s.mems = true) : memsOk s.runLog.mems = true := by
  unfold State.runLog
  simp only [State.drawn_mems, State.mems_mk, memsOk_mk, Bool.and_eq_true]
  exact ⟨State.dramWf_of_mems h, State.flashRecord_wf h _ _ _ _ _⟩

theorem State.logPut_memsOk {s : State} (h : memsOk s.mems = true) (e : LogEntry) : memsOk (s.logPut e).mems = true := by
  unfold State.logPut
  simp only [State.mems_mk, memsOk_mk, Bool.and_eq_true]
  exact ⟨State.dramWf_of_mems h, State.flashRecord_wf h _ _ _ _ _⟩

theorem State.logFlush_memsOk {s : State} (h : memsOk s.mems = true) (fail : Bool) : memsOk (s.logFlush fail).mems = true := by
  unfold State.logFlush
  split
  · exact h
  split
  · simpa using h
  · exact State.foldl_memsOk (fun _ e hx => State.logPut_memsOk hx e) _ (by simpa using h)

theorem State.calEnd_memsOk {s : State} (h : memsOk s.mems = true) (r : CalRun) (result : Nat) :
    memsOk (s.calEnd r result).mems = true := by
  unfold State.calEnd
  dsimp only
  rw [State.mems_foldl (fun x q => by simp), State.raise_mems]
  exact State.runLog_memsOk (by simpa using h)

theorem State.calEvaluate_memsOk {s : State} (h : memsOk s.mems = true) (r : CalRun) : memsOk (s.calEvaluate r).mems = true := by
  have hend {t : State} (ht : t.mems = s.mems) (n : Nat) : memsOk (t.calEnd r n).mems = true := State.calEnd_memsOk (by rw [ht]; exact h) r n
  unfold State.calEvaluate
  dsimp only
  split
  · split
    · exact hend (by simp) _
    · exact hend (by simp) _
  split
  · exact hend (by simp) _
  split
  · exact hend (by simp) _
  split
  · exact hend (by simp) _
  · exact hend (by simp) _

theorem State.calRound_memsOk {s : State} (h : memsOk s.mems = true) : memsOk s.calRound.mems = true := by
  unfold State.calRound
  split
  · exact h
  dsimp only
  split
  · exact h
  split
  · simpa using h
  generalize (if _ = 0 then _ else _ : CalRun) = u
  split
  · simpa using h
  · exact State.calEvaluate_memsOk h _

theorem State.hkRound_memsOk {s : State} (h : memsOk s.mems = true) (i : HkInput) : memsOk (s.hkRound i).mems = true := by
  unfold State.hkRound
  dsimp only
  rw [State.showSince_mems, State.ambRound_mems]
  exact State.calRound_memsOk (by simpa using h)

theorem State.saveDone_memsOk {s : State} (h : memsOk s.mems = true) (fail : Option Nat) : memsOk (s.saveDone fail).mems = true := by
  have hd := State.dramWf_of_mems h
  have he (a n : Nat) := State.flashErase_wf h a n
  have hw (a n b : Nat) (l : List Byte) := flashWrite_flashWf (he a n) b l
  unfold State.saveDone
  split
  · exact h
  dsimp only
  split
  · simp [hd, he]
  · split <;> simp [hd, hw]

theorem State.ownFlashEnd_memsOk {s : State} (h : memsOk s.mems = true) (j : OwnFlash) (fail : Option Nat) :
    memsOk (s.ownFlashEnd j fail).mems = true := by
  have hd := State.dramWf_of_mems h
  have he (a n : Nat) := State.flashErase_wf h a n
  have hw (a n b : Nat) (l : List Byte) := flashWrite_flashWf (he a n) b l
  unfold State.ownFlashEnd
  dsimp only
  split
  · have hm : memsOk (s.markWriting j.ids false false).mems = true := by simpa using h
    split
    · simpa using h
    · split <;> simpa using State.putBytes_memsOk hm _ _ _
  · have hread := s.readWords_mems 8 (7 * j.sector) (pairWords j.bytes)
    split
    · rename_i k t heq
      rw [heq] at hread
      simpa [hread] using h
    · rename_i ws t heq
      rw [heq] at hread
      have ht := State.flash_of_mems hread
      have htd := State.dram_of_mems hread
      split <;> simp_all

/-! ### Resets and cold standby -/

theorem State.deviceReset_memsOk {s : State} (h : memsOk s.mems = true) (cause : Nat) : memsOk (s.deviceReset cause).mems = true := by
  unfold State.deviceReset
  simp [State.flashWf_of_mems h, State.reset]

theorem State.softDue_memsOk {s : State} (h : memsOk s.mems = true) : memsOk s.softDue.mems = true := by
  unfold State.softDue
  split
  · exact h
  split
  · exact h
  split
  · simpa using State.deviceReset_memsOk h 4
  · simpa using h

/-- DRAM is lost. -/
theorem State.emptied_memsOk {s : State} (h : memsOk s.mems = true) : memsOk ({ s with dram := [] } : State).mems = true := by
  simp [State.flashWf_of_mems h]

theorem State.lostDram_memsOk {s : State} (h : memsOk s.mems = true) (x : StartState) :
    memsOk ({ s with start := x, dram := [] } : State).mems = true := by
  simp [State.flashWf_of_mems h]

theorem State.coldEntry_memsOk {s : State} (h : memsOk s.mems = true) (snap : Bool) : memsOk (s.coldEntry snap).mems = true := by
  unfold State.coldEntry
  dsimp only
  rw [State.settleDomains_mems]
  refine State.lostDram_memsOk ?_ _
  rw [State.mems_foldl (fun x p => by split <;> simp), State.pass_mems, State.setStage_mems]
  split
  · exact State.saveDone_memsOk (by simpa using h) none
  · simpa using h

theorem State.coldWake_memsOk {s : State} (h : memsOk s.mems = true) (src : Nat) : memsOk (s.coldWake src).mems = true := by
  unfold State.coldWake
  simpa using State.deviceReset_memsOk h 6

end Sys2Proof.Machine
end

section
/-! Commands, packets and ticks keep the memories in canonical form. -/

namespace Sys2Proof.Machine

/-! ### Handlers -/

/-- A handler keeps the memories in canonical form. -/
def Handler.KeepsMems (f : Handler) : Prop := ∀ (q : Ctx) (ps : List Word) {s : State}, memsOk s.mems = true → memsOk (f q ps s).2.mems = true

theorem Handler.keepsMems_of_eq {f : Handler} (hf : ∀ q ps s, (f q ps s).2.mems = s.mems) : f.KeepsMems :=
  fun q ps s h => by rw [hf]; exact h

@[simp] theorem hMemWrite_keepsMems : Handler.KeepsMems hMemWrite := fun q ps _ h => State.writeCmd_memsOk h q ps

@[simp] theorem hCtxRead_keepsMems : Handler.KeepsMems hCtxRead := fun q ps _ h => State.writeCmd_memsOk h q ps

@[simp] theorem hFaultRead_keepsMems : Handler.KeepsMems hFaultRead := fun q ps _ h => State.writeCmd_memsOk h q ps

@[simp] theorem hKilnLutLoad_keepsMems : Handler.KeepsMems hKilnLutLoad := fun q ps s h => by
  unfold hKilnLutLoad
  dsimp only
  split
  · exact State.writeCmd_memsOk h q ps
  · simpa using h

@[simp] theorem hLossLoad_keepsMems : Handler.KeepsMems hLossLoad := fun q ps s h => by
  unfold hLossLoad
  split
  · exact State.writeCmd_memsOk h q ps
  · simpa using h

@[simp] theorem hStampAbortAll_keepsMems : Handler.KeepsMems hStampAbortAll := fun q ps s h => by
  unfold hStampAbortAll
  exact State.writesDue_memsOk (by simpa using h)

@[simp] theorem hDeflateAbort_keepsMems : Handler.KeepsMems hDeflateAbort := fun q ps s h => by
  unfold hDeflateAbort
  split
  · exact h
  · exact State.writesDue_memsOk (State.defFault_memsOk (by simpa using h) _ _ _ _)

@[simp] theorem hDebugUnlock_keepsMems : Handler.KeepsMems hDebugUnlock := fun q ps s h => by
  unfold hDebugUnlock
  dsimp only
  split
  · simpa using h
  split
  · simpa using h
  · simp [State.flashWf_of_mems h]

/-- Every opcode's handler keeps the memories in canonical form: those that write none of them, and the eight above. -/
theorem opTable_keepsMems : ∀ o ∈ opTable, o.run.KeepsMems := by
  simp [opTable, Handler.keepsMems_of_eq,
    opPing, opReadReg, opWriteReg, opSafeDark, opRouteSet, opTimeRead, opBisqueLoad, opStageStatus, opLinkReset, opCensusCall,
    opPlace, opMapSend, opTakeover, opBakeOpen, opBakeWrite, opBakeClose, opLogRead, opBakeAbort, opAuditAccept, opPowerState,
    opSoftReset, opBisqueWrite, opOwnerFlashWrite, opUpdateStage, opUpdateActivate, opUpdateCommit, opClaim, opOwnerTransfer,
    opSessionHello, opSessionAuth, opAttest, opKeyLoad, opKeyDrop, opProvision, opDebugUnlock, opFloorSet, opSessionClose,
    opPolicySet, opSealedCmd, opTimeSchedule, opTimePhase, opTimeAdjust, opLinkWake, opLinkCensus, opMemWrite, opMemRead,
    opEncodeSpySub, opKilnCommit, opKilnLutLoad, opKilnRelease, opKilnSurfDefine, opGlazeLutLoad, opGlazeSetLoad, opGlazeCtxLoad,
    opGlazeCtxRead, opCalLossLoad, opCalRun, opCalSave, opEmitFaultRead, opEmitFaultClear, opStampGo, opStampAbort, opDeflateJob,
    opDeflateSupply, opDeflateAbort]

/-! ### Commands -/

theorem State.execute_memsOk {s : State} {o : OpSpec} (ho : o.run.KeepsMems) (h : memsOk s.mems = true) (c : Cmd) :
    memsOk (s.execute o c).mems = true := by
  have hold : memsOk (s.refresh.cacheAdd ⟨c.src.key, o.opcode, c.tag, crcWords c.params, s.now, 0x100, 0, [], false⟩).mems = true := by
    simpa using h
  unfold State.execute
  dsimp only
  split
  · split
    · exact hold
    · simpa using h
  · split
    · exact ho _ _ hold
    · simpa using ho _ _ hold

/-- The opcode's row is one of the table, or there is none. -/
def OpFound (o : Option OpSpec) : Prop := ∀ p, o = some p → p.run.KeepsMems

theorem opFind_found (n : Nat) : OpFound (opFind n) := fun p hp => opTable_keepsMems p (List.mem_of_find?_eq_some hp)

theorem State.judgeCmd_memsOk {s : State} (h : memsOk s.mems = true) (o : Option OpSpec) (n : Nat) (c : Cmd) :
    memsOk (s.judgeCmd o n c).2.mems = true := by simpa using h

/-- One level of the interpreter, where the inner packet of a sealed command keeps the memories in canonical form. -/
theorem State.interpret_memsOk_of_inner {s : State} {o : Option OpSpec} (ho : OpFound o) {fuel : Nat}
    (hinner : ∀ (t : State) (m : Nat) (d : Cmd), memsOk t.mems = true →
      memsOk (match fuel with | 0 => t | fuel + 1 => t.interpret fuel (opFind m) m d).mems = true)
    (n : Nat) (c : Cmd) (h : memsOk s.mems = true) : memsOk (s.interpret fuel o n c).mems = true := by
  have hj := State.judgeCmd_memsOk h o n c
  rw [State.interpret.eq_def]
  split
  · split
    · simpa using h
    · split <;> simpa using h
  split <;> rename_i hjudge <;> rw [hjudge] at hj
  · simpa using hj
  · exact hj
  split
  · split
    · exact State.execute_memsOk (ho _ rfl) hj c
    · exact hj
  dsimp only
  split
  · simpa using hj
  split
  · simpa using hj
  · exact hinner _ _ _ (by simpa using hj)

theorem State.interpret_memsOk (fuel : Nat) : ∀ {s : State} {o : Option OpSpec} (_ : OpFound o) (n : Nat) (c : Cmd),
    memsOk s.mems = true → memsOk (s.interpret fuel o n c).mems = true := by
  induction fuel with
  | zero => exact fun ho n c h => State.interpret_memsOk_of_inner (fuel := 0) ho (fun _ _ _ ht => ht) n c h
  | succ fuel ih => exact fun ho n c h => State.interpret_memsOk_of_inner (fuel := fuel + 1) ho (fun _ m d ht => ih (opFind_found m) m d ht) n c h

theorem State.take_memsOk {s : State} {o : Option OpSpec} (ho : OpFound o) (n : Nat) (c : Cmd) (h : memsOk s.mems = true) :
    memsOk (s.take o n c).mems = true := by
  have hi := State.interpret_memsOk c.params.length ho n c h
  unfold State.take
  split
  · exact h
  split
  · exact hi
  · split
    · exact hi
    · exact h
  split
  · exact h
  split
  · exact h
  split
  · simpa using h
  · exact hi

theorem State.arrive_memsOk {s : State} {o : OpSpec} (ho : o ∈ opTable) (c : Cmd) (h : memsOk s.mems = true) :
    memsOk (s.arrive o c).mems = true :=
  State.take_memsOk (fun _ hp => Option.some.inj hp ▸ opTable_keepsMems o ho) _ _ (by simpa using h)

/-! ### Packets -/

theorem State.packetBytes_memsOk {s : State} (h : memsOk s.mems = true) (src : Source) (bs : List Byte) :
    memsOk (s.packetBytes src bs).mems = true := by
  unfold State.packetBytes
  dsimp only
  split
  · simpa using h
  · exact State.take_memsOk (opFind_found _) _ _ h

theorem State.cawellCommand_memsOk {s : State} (h : memsOk s.mems = true) (p : Nat) (h0 h1 : Word) (ps : List Word) :
    memsOk (s.cawellCommand p h0 h1 ps).mems = true := by
  unfold State.cawellCommand
  dsimp only
  split
  · exact h
  split
  · split
    · exact h
    · simpa using h
  · exact State.take_memsOk (opFind_found _) _ _ h

theorem State.deliver_memsOk {s : State} (h : memsOk s.mems = true) (p : Nat) (h0 h1 : Word) (ps : List Word) :
    memsOk (s.deliver p h0 h1 ps).mems = true := by
  unfold State.deliver
  split
  · split
    · split
      · simpa using h
      · exact State.cawellCommand_memsOk h _ _ _ _
    · split
      · simpa using h
      · exact h
  all_goals first | split <;> simpa using h | exact h

theorem State.routePacket_memsOk {s : State} (h : memsOk s.mems = true) (p : Nat) (ws : List Word) :
    memsOk (s.routePacket p ws).mems = true := by
  have hr : memsOk (s.relay p ws false).2.mems = true := by simpa using h
  unfold State.routePacket
  dsimp only
  split
  · exact State.deliver_memsOk hr _ _ _ _
  · exact hr

theorem State.packetSeen_memsOk {s : State} (h : memsOk s.mems = true) (p : Nat) (ws : List Word) (damaged : Bool) :
    memsOk (s.packetSeen p ws damaged).mems = true := by
  unfold State.packetSeen
  dsimp only
  split
  · exact h
  split
  · exact h
  split
  · simpa using h
  split
  · simpa using h
  generalize hs : (if vcRetry (h0Vc (nthW ws 0)) = true then _ else s) = t
  have ht : memsOk t.mems = true := by
    rw [← hs]
    simpa using h
  split
  · simpa using ht
  split
  · simpa using ht
  · exact State.routePacket_memsOk ht _ _

theorem State.blockLost_memsOk {s : State} (h : memsOk s.mems = true) (p : Nat) : memsOk (s.blockLost p).mems = true := by
  unfold State.blockLost
  dsimp only
  split
  · exact h
  · exact State.packetSeen_memsOk (by simpa using h) _ _ _

theorem State.portBlock_memsOk {s : State} (h : memsOk s.mems = true) (p ty : Nat) (ws : List Word) :
    memsOk (s.portBlock p ty ws).mems = true := by
  have hcut (c : Bool) (v : Port) (w : List Word) :
      memsOk (if c then (s.setPort p v).packetSeen p w true else s).mems = true := by
    split
    · exact State.packetSeen_memsOk (by simpa using h) _ _ _
    · exact h
  have hblock : memsOk (if !s.portUp p then s
      else
        let v := s.port p
        let s := if ty = 0x066 && !v.rxWords.isEmpty then (s.setPort p { v with rxWords := [] }).packetSeen p v.rxWords true else s
        let v := s.port p
        if ty = 0x099 && v.rxWords.isEmpty then s
        else
          let all := if ty = 0x066 then ws else v.rxWords ++ ws
          let n := 3 + h0Len (nthW all 0)
          if n ≤ all.length then (s.setPort p { v with rxWords := [] }).packetSeen p (all.take n) false
          else s.setPort p { v with rxWords := all }).mems = true := by
    split
    · exact h
    dsimp only
    have hs := hcut (ty = 0x066 && !(s.port p).rxWords.isEmpty) { s.port p with rxWords := [] } (s.port p).rxWords
    generalize (if (ty = 0x066 && !(s.port p).rxWords.isEmpty) = true then
      (s.setPort p { s.port p with rxWords := [] }).packetSeen p (s.port p).rxWords true else s) = t at hs ⊢
    split
    · exact hs
    generalize (if ty = 0x066 then ws else (t.port p).rxWords ++ ws) = all
    split
    · exact State.packetSeen_memsOk (by simpa using hs) _ _ _
    · simpa using hs
  unfold State.portBlock
  split
  · simpa using h
  · simpa using h
  · exact hblock
  · exact hblock
  · exact h

theorem State.slotReceive_memsOk {s : State} (h : memsOk s.mems = true) (l : Nat) (line : List Word) :
    memsOk (s.slotReceive l line).mems = true := by
  unfold State.slotReceive
  dsimp only
  generalize hr : (if (decide (8 ≤ l) && decide (l < 28)) = true then _ else s.laneReceive l _) = r
  have ht : memsOk r.2.mems = true := by
    rw [← hr]
    simpa using h
  split
  · split
    · split <;> simpa using ht
    · exact ht
  have hjoin (v : State) (hv : memsOk v.mems = true) (b : Option (Nat × List Word)) :
      memsOk (match (v.joinHalves l b).1 with
        | none => (v.joinHalves l b).2
        | some none => (v.joinHalves l b).2.blockLost (l / 2)
        | some (some b') => (v.joinHalves l b).2.portBlock (l / 2) b'.1 b'.2).mems = true := by
    have hj : memsOk (v.joinHalves l b).2.mems = true := by simpa using hv
    split
    · exact hj
    · exact State.blockLost_memsOk hj _
    · exact State.portBlock_memsOk hj _ _ _
  obtain ⟨got, u⟩ := r
  cases got with
  | nothing => simpa using ht
  | damaged => exact hjoin _ (by simpa using ht) none
  | block ty ws => exact hjoin _ (by simpa using ht) (some (ty, ws))

/-! ### The tick -/

theorem State.tickWork_memsOk {s : State} (h : memsOk s.mems = true) (n : Nat) (items : List PlanItem) (slip : Bool) (was : List Nat) :
    memsOk (s.tickWork n items slip was).mems = true := by
  have hq : memsOk ((s.showStep.takeScan was slip).poolReset.liftSeals.writesDue).mems = true :=
    State.writesDue_memsOk (by simpa using h)
  unfold State.tickWork
  simpa using hq

theorem State.atTick_memsOk {s : State} (h : memsOk s.mems = true) (n : Nat) (acts : List (Nat × Nat)) (items : List PlanItem) (slip : Bool) :
    memsOk (s.atTick n acts items slip).mems = true := by
  unfold State.atTick
  dsimp only
  generalize hs : State.softDue _ = t
  have ht : memsOk t.mems = true := by
    rw [← hs]
    exact State.softDue_memsOk (by simpa using h)
  split
  · exact ht
  have hb : memsOk t.softBack.bankedDue.exitDue.mems = true := by simpa using ht
  split
  · split
    · exact State.coldEntry_memsOk hb _
    · exact State.tickWork_memsOk hb _ _ _ _
  · exact State.tickWork_memsOk hb _ _ _ _

end Sys2Proof.Machine
end

section
/-! Every step that goes on leaves DRAM and flash in canonical form: the rows of the table, one by one. The rows that no command sends, first half. -/

namespace Sys2Proof.Machine

/-- A step that goes on leaves both memories in canonical form. -/
def KeepsMems (o : Host.Outcome State Fault Refusal) : Prop := ∀ t, o = .next t → memsOk t.mems = true

@[simp] theorem keepsMems_next (t : State) : KeepsMems (.next t) ↔ memsOk t.mems = true :=
  ⟨fun h => h t rfl, fun h u hu => by cases hu; exact h⟩

@[simp] theorem keepsMems_ite (p : Prop) [Decidable p] (x y : Host.Outcome State Fault Refusal) :
    KeepsMems (if p then x else y) ↔ if p then KeepsMems x else KeepsMems y := by split <;> rfl

theorem execStreamPacketReceive_keepsMems {s : State} (hs : memsOk s.mems = true) (words : List Word) :
    KeepsMems (execStreamPacketReceive words s) := by
  unfold execStreamPacketReceive; simp [hs]

theorem execChunkReceive_keepsMems {s : State} (hs : memsOk s.mems = true) (errs : optParam (List ReadErr) []) :
    KeepsMems (execChunkReceive s errs) := by
  unfold execChunkReceive; dsimp only; (repeat' split) <;> simp [hs]

theorem execLiveParcelReceive_keepsMems {s : State} (hs : memsOk s.mems = true) (errs : optParam (List ReadErr) []) :
    KeepsMems (execLiveParcelReceive s errs) := by
  unfold execLiveParcelReceive; dsimp only; (repeat' split) <;> simp [hs]

theorem execCalStoreLoad_keepsMems {s : State} (hs : memsOk s.mems = true) : KeepsMems (execCalStoreLoad s) := by
  unfold execCalStoreLoad; simp [hs]

theorem execCalSaveDone_keepsMems {s : State} (hs : memsOk s.mems = true) (fail : Option Nat) : KeepsMems (execCalSaveDone fail s) := by
  exact (keepsMems_next _).2 (State.saveDone_memsOk (s := s.pass 0) (by simpa using hs) _)

theorem execSnapshotTimer_keepsMems {s : State} (hs : memsOk s.mems = true) : KeepsMems (execSnapshotTimer s) := by
  unfold execSnapshotTimer; simp [hs]

theorem execCalPeriodExpiry_keepsMems {s : State} (hs : memsOk s.mems = true) : KeepsMems (execCalPeriodExpiry s) := by
  unfold execCalPeriodExpiry; simp [hs]

theorem execDramTrainingStart_keepsMems {s : State} (hs : memsOk s.mems = true) (dt : Nat) : KeepsMems (execDramTrainingStart dt s) := by
  unfold execDramTrainingStart; simp [hs]

theorem execDramTrainingDone_keepsMems {s : State} (hs : memsOk s.mems = true) (ok : Nat) (g0 g1 : Option Nat) (density ranks : Nat) (same : Bool) (dt : Nat) :
    KeepsMems (execDramTrainingDone ok g0 g1 density ranks same dt s) := by
  unfold execDramTrainingDone; simp [hs]

theorem execOscCheck_keepsMems {s : State} (hs : memsOk s.mems = true) (ch drift dt : Nat) : KeepsMems (execOscCheck ch drift dt s) := by
  unfold execOscCheck; simp [hs]

theorem execRetrainBurst_keepsMems {s : State} (hs : memsOk s.mems = true) (dt : Nat) : KeepsMems (execRetrainBurst dt s) := by
  unfold execRetrainBurst; simp [hs]

theorem execSpeedSwitch_keepsMems {s : State} (hs : memsOk s.mems = true) (dt : Nat) : KeepsMems (execSpeedSwitch dt s) := by
  unfold execSpeedSwitch; simp [hs]

theorem execRefreshDue_keepsMems {s : State} (hs : memsOk s.mems = true) (ch idle dt : Nat) : KeepsMems (execRefreshDue ch idle dt s) := by
  unfold execRefreshDue; simp [hs]

theorem execMr4Read_keepsMems {s : State} (hs : memsOk s.mems = true) (ch rate : Nat) (hot : Bool) (dt : Nat) :
    KeepsMems (execMr4Read ch rate hot dt s) := by
  unfold execMr4Read; simp [hs]

theorem execSelfRefreshEntry_keepsMems {s : State} (hs : memsOk s.mems = true) (ch : Nat) (cancelled : Bool) :
    KeepsMems (execSelfRefreshEntry ch cancelled s) := by
  unfold execSelfRefreshEntry; simp [hs]

theorem execLaneStart_keepsMems {s : State} (hs : memsOk s.mems = true) (lane : Nat) : KeepsMems (execLaneStart lane s) := by
  unfold execLaneStart; simp [hs]

theorem execLaneStartFail_keepsMems {s : State} (hs : memsOk s.mems = true) (lane : Nat) : KeepsMems (execLaneStartFail lane s) := by
  unfold execLaneStartFail; dsimp only; (repeat' split) <;> simp [hs]

theorem execEyeMeasureDone_keepsMems {s : State} (hs : memsOk s.mems = true) (h v : Nat) : KeepsMems (execEyeMeasureDone h v s) := by
  unfold execEyeMeasureDone
  split
  · simpa using hs
  · simpa using hs

theorem execEyeAutoSchedule_keepsMems {s : State} (hs : memsOk s.mems = true) : KeepsMems (execEyeAutoSchedule s) := by
  rw [execEyeAutoSchedule]
  split
  · rw [keepsMems_next, State.mems_mk, State.mems_eta, State.gotoNow_mems]
    exact hs
  · split
    · rw [keepsMems_next, State.mems_mk, State.mems_eta, State.gotoNow_mems]
      exact hs
    · rw [keepsMems_next, State.eyeBegin_mems, State.mems_mk, State.mems_eta, State.mems_mk, State.mems_eta, State.gotoNow_mems]
      exact hs

theorem execDomainRampTimeout_keepsMems {s : State} (hs : memsOk s.mems = true) (d : Nat) : KeepsMems (execDomainRampTimeout d s) := by
  unfold execDomainRampTimeout; simp [hs]

theorem execDomainRetry_keepsMems {s : State} (hs : memsOk s.mems = true) (d : Nat) : KeepsMems (execDomainRetry d s) := by
  unfold execDomainRetry; simp [hs]

theorem execDamperGraceExpiry_keepsMems {s : State} (hs : memsOk s.mems = true) : KeepsMems (execDamperGraceExpiry s) := by
  unfold execDamperGraceExpiry; simp [hs]

theorem execDamperStepExpiry_keepsMems {s : State} (hs : memsOk s.mems = true) : KeepsMems (execDamperStepExpiry s) := by
  unfold execDamperStepExpiry; simp [hs]

theorem execHousekeepingRound_keepsMems {s : State} (hs : memsOk s.mems = true) (h : HkInput) : KeepsMems (execHousekeepingRound h s) := by
  unfold execHousekeepingRound
  split
  · simpa using hs
  · have ht : memsOk (s.gotoNow (s.hearth.hkAt + 1000000)).mems = true := by simpa using hs
    simpa using State.hkRound_memsOk ht h

theorem execLedgerReconcile_keepsMems {s : State} (hs : memsOk s.mems = true) : KeepsMems (execLedgerReconcile s) := by
  unfold execLedgerReconcile; simp [hs]

theorem execCtuRowEncoded_keepsMems {s : State} (hs : memsOk s.mems = true) (layer : Nat) (row : CodedRow) (dt : Nat) :
    KeepsMems (execCtuRowEncoded layer row dt s) := by
  unfold execCtuRowEncoded; simp [hs]

theorem execIngestWindowEnd_keepsMems {s : State} (hs : memsOk s.mems = true) (rows : List (List CodedRow)) :
    KeepsMems (execIngestWindowEnd rows s) := by
  unfold execIngestWindowEnd; simp [hs]

theorem execIntraHoldoffExpiry_keepsMems {s : State} (hs : memsOk s.mems = true) : KeepsMems (execIntraHoldoffExpiry s) := by
  unfold execIntraHoldoffExpiry; simp [hs]

theorem execSpyPictureCoded_keepsMems {s : State} (hs : memsOk s.mems = true) (frame : Nat) (bytes : List Byte) (coded : CodedSpy) :
    KeepsMems (execSpyPictureCoded frame bytes coded s) := by
  unfold execSpyPictureCoded; simp [hs]

theorem execSpySubExpiry_keepsMems {s : State} (hs : memsOk s.mems = true) : KeepsMems (execSpySubExpiry s) := by
  unfold execSpySubExpiry; split <;> simp [hs]

theorem execEthLinkChange_keepsMems {s : State} (hs : memsOk s.mems = true) (port : Nat) (up : Bool) (dt : Nat) :
    KeepsMems (execEthLinkChange port up dt s) := by
  unfold execEthLinkChange; simp [hs]

theorem execNetworkControlPacket_keepsMems {s : State} (hs : memsOk s.mems = true) (pkt : NetPkt) (dt : Nat) :
    KeepsMems (execNetworkControlPacket pkt dt s) := by
  unfold execNetworkControlPacket; simp [hs]

theorem execRtpSlabPacket_keepsMems {s : State} (hs : memsOk s.mems = true) (eth : Nat) (vid : Option Nat) (good : Bool) (ip : IpHead) (ports : Nat × Nat) (bytes : List Byte) (dt : Nat) :
    KeepsMems (execRtpSlabPacket eth vid good ip ports bytes dt s) := by
  unfold execRtpSlabPacket; dsimp only; (repeat' split) <;> simp [hs]

theorem execLiveFlowPacket_keepsMems {s : State} (hs : memsOk s.mems = true) (eth : Nat) (vid : Option Nat) (good : Bool) (ip : IpHead) (ports : Nat × Nat) (bytes : List Byte) (dt : Nat) :
    KeepsMems (execLiveFlowPacket eth vid good ip ports bytes dt s) := by
  unfold execLiveFlowPacket; dsimp only; (repeat' split) <;> simp [hs]

theorem execPtpMessageReceive_keepsMems {s : State} (hs : memsOk s.mems = true) (msg : PtpMsg) (dt : Nat) :
    KeepsMems (execPtpMessageReceive msg dt s) := by
  unfold execPtpMessageReceive; simp [hs]

theorem execPtpDelayReqSend_keepsMems {s : State} (hs : memsOk s.mems = true) (b dt : Nat) : KeepsMems (execPtpDelayReqSend b dt s) := by
  unfold execPtpDelayReqSend; simp [hs]

theorem execPtpTimeout_keepsMems {s : State} (hs : memsOk s.mems = true) (b : Nat) : KeepsMems (execPtpTimeout b s) := by
  unfold execPtpTimeout; dsimp only; (repeat' split) <;> simp [hs]

theorem execBaseValidityTimeout_keepsMems {s : State} (hs : memsOk s.mems = true) (b : Nat) : KeepsMems (execBaseValidityTimeout b s) := by
  unfold execBaseValidityTimeout; simp [hs]

theorem execScheduleChangeApply_keepsMems {s : State} (hs : memsOk s.mems = true) : KeepsMems (execScheduleChangeApply s) := by
  unfold execScheduleChangeApply; simp [hs]

theorem execPhaseCommandApply_keepsMems {s : State} (hs : memsOk s.mems = true) : KeepsMems (execPhaseCommandApply s) := by
  unfold execPhaseCommandApply; split <;> simp [hs]

theorem execSyncInEdge_keepsMems {s : State} (hs : memsOk s.mems = true) (falling : Bool) (dt : Nat) :
    KeepsMems (execSyncInEdge falling dt s) := by
  unfold execSyncInEdge; simp [hs]

theorem execSyncInLost_keepsMems {s : State} (hs : memsOk s.mems = true) : KeepsMems (execSyncInLost s) := by
  unfold execSyncInLost; simp [hs]

theorem execCaptureEdge_keepsMems {s : State} (hs : memsOk s.mems = true) (el : Nat) (falling : Bool) (dt : Nat) :
    KeepsMems (execCaptureEdge el falling dt s) := by
  unfold execCaptureEdge; simp [hs]

theorem execCaptureFifoRead_keepsMems {s : State} (hs : memsOk s.mems = true) (el : Nat) : KeepsMems (execCaptureFifoRead el s) := by
  unfold execCaptureFifoRead; simp [hs]

theorem execSynLockLoss_keepsMems {s : State} (hs : memsOk s.mems = true) (n dt : Nat) : KeepsMems (execSynLockLoss n dt s) := by
  unfold execSynLockLoss; simp [hs]

theorem execSynRelockWrite_keepsMems {s : State} (hs : memsOk s.mems = true) (n : Nat) : KeepsMems (execSynRelockWrite n s) := by
  unfold execSynRelockWrite; simp [hs]

theorem execBandSearchRetry_keepsMems {s : State} (hs : memsOk s.mems = true) (n : Nat) : KeepsMems (execBandSearchRetry n s) := by
  unfold execBandSearchRetry; simp [hs]

theorem execRefclkLoss_keepsMems {s : State} (hs : memsOk s.mems = true) (ppm : Int) (dt : Nat) : KeepsMems (execRefclkLoss ppm dt s) := by
  unfold execRefclkLoss; dsimp only; (repeat' split) <;> simp [hs]

theorem execCkoArm_keepsMems {s : State} (hs : memsOk s.mems = true) (i : Nat) : KeepsMems (execCkoArm i s) := by
  unfold execCkoArm; simp [hs]

theorem execCkoAlignEdge_keepsMems {s : State} (hs : memsOk s.mems = true) (src dt : Nat) : KeepsMems (execCkoAlignEdge src dt s) := by
  unfold execCkoAlignEdge; simp [hs]

theorem execOffsetInWrite_keepsMems {s : State} (hs : memsOk s.mems = true) (b : Nat) (v : Word) : KeepsMems (execOffsetInWrite b v s) := by
  unfold execOffsetInWrite; simp [hs]

theorem execRegisterWrite_keepsMems {s : State} (hs : memsOk s.mems = true) (a : Nat) (v : Word) : KeepsMems (execRegisterWrite a v s) := by
  unfold execRegisterWrite; simp [hs]

theorem execLatchingRead_keepsMems {s : State} (hs : memsOk s.mems = true) (a n : Nat) : KeepsMems (execLatchingRead a n s) := by
  refine (keepsMems_next _).2 ?_
  rw [State.atRow_mems (by dsimp only; split <;> simp)]
  simpa using hs

theorem execFullNextWrite_keepsMems {s : State} (hs : memsOk s.mems = true) : KeepsMems (execFullNextWrite s) := by
  unfold execFullNextWrite; simp [hs]

theorem execEyeStart_keepsMems {s : State} (hs : memsOk s.mems = true) (lane : Nat) : KeepsMems (execEyeStart lane s) := by
  unfold execEyeStart; simp [hs]

theorem execLaneHoldWrite_keepsMems {s : State} (hs : memsOk s.mems = true) (lane : Nat) (hold : Bool) :
    KeepsMems (execLaneHoldWrite lane hold s) := by
  unfold execLaneHoldWrite; simp [hs]

theorem execLaneEqWrite_keepsMems {s : State} (hs : memsOk s.mems = true) (lane : Nat) (v : Word) :
    KeepsMems (execLaneEqWrite lane v s) := by
  unfold execLaneEqWrite; simp [hs]

theorem execSpSelWrite_keepsMems {s : State} (hs : memsOk s.mems = true) (sp : Nat) : KeepsMems (execSpSelWrite sp s) := by
  unfold execSpSelWrite; simp [hs]

theorem execPhaseTargetWrite_keepsMems {s : State} (hs : memsOk s.mems = true) (v : Word) : KeepsMems (execPhaseTargetWrite v s) := by
  unfold execPhaseTargetWrite; simp [hs]

theorem execScanConfigWrite_keepsMems {s : State} (hs : memsOk s.mems = true) (head : Bool) (v : Word) :
    KeepsMems (execScanConfigWrite head v s) := by
  unfold execScanConfigWrite; simp [hs]

theorem execKilnGridWrite_keepsMems {s : State} (hs : memsOk s.mems = true) (v : Word) : KeepsMems (execKilnGridWrite v s) := by
  unfold execKilnGridWrite; simp [hs]

theorem execKilnMountWrite_keepsMems {s : State} (hs : memsOk s.mems = true) (v : Word) : KeepsMems (execKilnMountWrite v s) := by
  unfold execKilnMountWrite; simp [hs]

theorem execGeometryChange_keepsMems {s : State} (hs : memsOk s.mems = true) : KeepsMems (execGeometryChange s) := by
  unfold execGeometryChange; simp [hs]

theorem execSlotDescriptorWrite_keepsMems {s : State} (hs : memsOk s.mems = true) (i w : Nat) (v : Word) :
    KeepsMems (execSlotDescriptorWrite i w v s) := by
  unfold execSlotDescriptorWrite; simp [hs]

theorem execSlotSetWrite_keepsMems {s : State} (hs : memsOk s.mems = true) (v : Word) : KeepsMems (execSlotSetWrite v s) := by
  unfold execSlotSetWrite; simp [hs]

theorem execDecodePoolWrite_keepsMems {s : State} (hs : memsOk s.mems = true) (base : Bool) (v : Word) :
    KeepsMems (execDecodePoolWrite base v s) := by
  unfold execDecodePoolWrite; simp [hs]

theorem execPoolReset_keepsMems {s : State} (hs : memsOk s.mems = true) : KeepsMems (execPoolReset s) := by
  unfold execPoolReset; simp [hs]

theorem execDriveConeWrite_keepsMems {s : State} (hs : memsOk s.mems = true) (c w : Nat) (v : Word) :
    KeepsMems (execDriveConeWrite c w v s) := by
  unfold execDriveConeWrite; simp [hs]

theorem execLiveFlowWrite_keepsMems {s : State} (hs : memsOk s.mems = true) (i w : Nat) (v : Word) :
    KeepsMems (execLiveFlowWrite i w v s) := by
  unfold execLiveFlowWrite; simp [hs]

theorem execEncodeMapWrite_keepsMems {s : State} (hs : memsOk s.mems = true) (i : Nat) (v : Word) :
    KeepsMems (execEncodeMapWrite i v s) := by
  unfold execEncodeMapWrite; simp [hs]

theorem execGroupEntryWrite_keepsMems {s : State} (hs : memsOk s.mems = true) (g w : Nat) (v : Word) :
    KeepsMems (execGroupEntryWrite g w v s) := by
  unfold execGroupEntryWrite; simp [hs]

theorem execBakeApply_keepsMems {s : State} (hs : memsOk s.mems = true) : KeepsMems (execBakeApply s) := by
  unfold execBakeApply; simp [hs]

theorem execLogFlush_keepsMems {s : State} (hs : memsOk s.mems = true) (fail : Bool) : KeepsMems (execLogFlush fail s) := by
  exact (keepsMems_next _).2 (State.logFlush_memsOk (s := s.pass 0) (by simpa using hs) _)

theorem execStampJobHead_keepsMems {s : State} (hs : memsOk s.mems = true) : KeepsMems (execStampJobHead s) := by
  unfold execStampJobHead; simp [hs]

theorem execSealLift_keepsMems {s : State} (hs : memsOk s.mems = true) : KeepsMems (execSealLift s) := by
  exact (keepsMems_next _).2 (State.writesDue_memsOk (by simpa using hs))

theorem execStampJobDone_keepsMems {s : State} (hs : memsOk s.mems = true) : KeepsMems (execStampJobDone s) := by
  exact (keepsMems_next _).2 (State.writesDue_memsOk (State.stampRun_memsOk (by simpa using hs)))

theorem execDeflateBufferExhausted_keepsMems {s : State} (hs : memsOk s.mems = true) : KeepsMems (execDeflateBufferExhausted s) := by
  exact (keepsMems_next _).2 (State.writesDue_memsOk (State.defRun_memsOk (by simpa using hs)))

theorem execDeflateJobDone_keepsMems {s : State} (hs : memsOk s.mems = true) : KeepsMems (execDeflateJobDone s) := by
  exact (keepsMems_next _).2 (State.writesDue_memsOk (State.defRun_memsOk (by simpa using hs)))

theorem execPlanProjection_keepsMems {s : State} (hs : memsOk s.mems = true) (acts : List (Nat × Nat)) (done : List Nat) (dt : Nat) :
    KeepsMems (execPlanProjection acts done dt s) := by
  unfold execPlanProjection; simp [hs]

theorem execShelfWindowLoaded_keepsMems {s : State} (hs : memsOk s.mems = true) (frame band : Nat) (errs : optParam (List (Nat × Bool)) []) :
    KeepsMems (execShelfWindowLoaded frame band s errs) := by
  unfold execShelfWindowLoaded; simp [hs]

theorem execCommitWindowClose_keepsMems {s : State} (hs : memsOk s.mems = true) : KeepsMems (execCommitWindowClose s) := by
  unfold execCommitWindowClose; simp [hs]

theorem execReadinessDecision_keepsMems {s : State} (hs : memsOk s.mems = true) : KeepsMems (execReadinessDecision s) := by
  unfold execReadinessDecision; simp [hs]

theorem execLiveCutoff_keepsMems {s : State} (hs : memsOk s.mems = true) : KeepsMems (execLiveCutoff s) := by
  unfold execLiveCutoff; simp [hs]

theorem execFiringWindowEnd_keepsMems {s : State} (hs : memsOk s.mems = true) : KeepsMems (execFiringWindowEnd s) := by
  unfold execFiringWindowEnd; simp [hs]

end Sys2Proof.Machine
end

section
/-! Every step that goes on leaves DRAM and flash in canonical form: the rows of the table, one by one. The rows that no command sends, second half. -/

namespace Sys2Proof.Machine

theorem execGlazeRay_keepsMems {s : State} (hs : memsOk s.mems = true) (parity : List Nat) : KeepsMems (execGlazeRay parity s) := by
  unfold execGlazeRay; split <;> simp [hs]

theorem execBandFireComplete_keepsMems {s : State} (hs : memsOk s.mems = true) (frame band : Nat) :
    KeepsMems (execBandFireComplete frame band s) := by
  unfold execBandFireComplete; simp [hs]

theorem execRectPacketSent_keepsMems {s : State} (hs : memsOk s.mems = true) (lane : Nat) (errs : optParam (List ReadErr) []) :
    KeepsMems (execRectPacketSent lane s errs) := by
  unfold execRectPacketSent; simp [hs]

theorem execTeEdge_keepsMems {s : State} (hs : memsOk s.mems = true) (input dt : Nat) : KeepsMems (execTeEdge input dt s) := by
  unfold execTeEdge; simp [hs]

theorem execSwapDeadline_keepsMems {s : State} (hs : memsOk s.mems = true) : KeepsMems (execSwapDeadline s) := by
  unfold execSwapDeadline; simp [hs]

theorem execScanLineStart_keepsMems {s : State} (hs : memsOk s.mems = true) : KeepsMems (execScanLineStart s) := by
  unfold execScanLineStart; dsimp only; (repeat' split) <;> simp [hs]

theorem execReadbackReceive_keepsMems {s : State} (hs : memsOk s.mems = true) (words : List Word) :
    KeepsMems (execReadbackReceive words s) := by
  unfold execReadbackReceive; simp [hs]

theorem execReadbackTimeout_keepsMems {s : State} (hs : memsOk s.mems = true) (lane : Nat) : KeepsMems (execReadbackTimeout lane s) := by
  unfold execReadbackTimeout; split <;> simp [hs]

theorem execFaultMapReceive_keepsMems {s : State} (hs : memsOk s.mems = true) (words : List Word) :
    KeepsMems (execFaultMapReceive words s) := by
  unfold execFaultMapReceive; simp [hs]

theorem execFaultReportMissing_keepsMems {s : State} (hs : memsOk s.mems = true) (lane : Nat) :
    KeepsMems (execFaultReportMissing lane s) := by
  unfold execFaultReportMissing; simp [hs]

theorem execProbeLine_keepsMems {s : State} (hs : memsOk s.mems = true) (head : Nat) (low : Bool) :
    KeepsMems (execProbeLine head low s) := by
  unfold execProbeLine; split <;> simp [hs]

theorem execFailDarkFallback_keepsMems {s : State} (hs : memsOk s.mems = true) (group : Nat) :
    KeepsMems (execFailDarkFallback group s) := by
  unfold execFailDarkFallback; split <;> simp [hs]

theorem execBatchHeaderParse_keepsMems {s : State} (hs : memsOk s.mems = true) (errs : optParam (List ReadErr) []) :
    KeepsMems (execBatchHeaderParse s errs) := by
  unfold execBatchHeaderParse; simp [hs]

theorem execPictureBegin_keepsMems {s : State} (hs : memsOk s.mems = true) (seq : Nat) (head : PicHead) :
    KeepsMems (execPictureBegin seq head s) := by
  simpa [execPictureBegin] using State.pictureBegin_memsOk (s := s.pass 0) (by simpa using hs) seq head

theorem execSliceSegmentDecoded_keepsMems {s : State} (hs : memsOk s.mems = true) (seq : Nat) (out : SliceOut) :
    KeepsMems (execSliceSegmentDecoded seq out s) := by
  unfold execSliceSegmentDecoded; simp [hs]

theorem execPictureEnd_keepsMems {s : State} (hs : memsOk s.mems = true) (seq : Nat) (sei : Option (Nat × List Nat)) :
    KeepsMems (execPictureEnd seq sei s) := by
  simpa [execPictureEnd] using State.pictureEnd_memsOk (s := s.pass 0) (by simpa using hs) seq sei

theorem execTableLoadQueuedRun_keepsMems {s : State} (hs : memsOk s.mems = true) : KeepsMems (execTableLoadQueuedRun s) := by
  unfold execTableLoadQueuedRun; simp [hs]

theorem execCtxBankSwap_keepsMems {s : State} (hs : memsOk s.mems = true) : KeepsMems (execCtxBankSwap s) := by
  unfold execCtxBankSwap; simp [hs]

theorem execCtxBankCopyDone_keepsMems {s : State} (hs : memsOk s.mems = true) : KeepsMems (execCtxBankCopyDone s) := by
  unfold execCtxBankCopyDone; simp [hs]

theorem execCommandTagExpiry_keepsMems {s : State} (hs : memsOk s.mems = true) : KeepsMems (execCommandTagExpiry s) := by
  unfold execCommandTagExpiry; split <;> simp -implicitDefEqProofs [hs]

theorem execEphemeralKeyExpiry_keepsMems {s : State} (hs : memsOk s.mems = true) : KeepsMems (execEphemeralKeyExpiry s) := by
  unfold execEphemeralKeyExpiry; split <;> simp [hs]

theorem execKeyUntilExpiry_keepsMems {s : State} (hs : memsOk s.mems = true) (entry : Nat) : KeepsMems (execKeyUntilExpiry entry s) := by
  unfold execKeyUntilExpiry; split <;> simp [hs]

theorem execClaimNChange_keepsMems {s : State} (hs : memsOk s.mems = true) (low : Bool) : KeepsMems (execClaimNChange low s) := by
  unfold execClaimNChange; simp [hs]

theorem execCredExpiryCheck_keepsMems {s : State} (hs : memsOk s.mems = true) : KeepsMems (execCredExpiryCheck s) := by
  unfold execCredExpiryCheck; simp [hs]

theorem execLHelloReceive_keepsMems {s : State} (hs : memsOk s.mems = true) (port : Nat) (words : List Word) :
    KeepsMems (execLHelloReceive port words s) := by
  unfold execLHelloReceive; simp [hs]

theorem execLProofReceive_keepsMems {s : State} (hs : memsOk s.mems = true) (port : Nat) (words : List Word) :
    KeepsMems (execLProofReceive port words s) := by
  unfold execLProofReceive; simp [hs]

theorem execLNocredReceive_keepsMems {s : State} (hs : memsOk s.mems = true) (port : Nat) : KeepsMems (execLNocredReceive port s) := by
  unfold execLNocredReceive; simp [hs]

theorem execSessionGraceExpiry_keepsMems {s : State} (hs : memsOk s.mems = true) (port : Nat) :
    KeepsMems (execSessionGraceExpiry port s) := by
  unfold execSessionGraceExpiry; simp [hs]

theorem execRekeyExpiry_keepsMems {s : State} (hs : memsOk s.mems = true) (port : Nat) : KeepsMems (execRekeyExpiry port s) := by
  unfold execRekeyExpiry; simp [hs]

theorem execHostSessionExpiry_keepsMems {s : State} (hs : memsOk s.mems = true) (entry : Nat) :
    KeepsMems (execHostSessionExpiry entry s) := by
  unfold execHostSessionExpiry; simp [hs]

theorem execUpdateStageDone_keepsMems {s : State} (hs : memsOk s.mems = true) (fail : Option Nat) :
    KeepsMems (execUpdateStageDone fail s) := by
  unfold execUpdateStageDone
  dsimp only
  split
  · simpa using hs
  rename_i sector n q _
  have hread := (s.pass 0).readWords_mems 8 (7 * sector) n
  split <;> rename_i t heq <;> rw [heq] at hread
  · simpa [hread] using hs
  have ht : memsOk t.mems = true := by simpa [hread] using hs
  have hd := State.dramWf_of_mems ht
  have he (a n : Nat) := State.flashErase_wf ht a n
  split
  · simpa using ht
  split
  · simp [hd, he]
  · simp [hd, flashWrite_flashWf (he _ _)]

theorem execCommitHoursExpiry_keepsMems {s : State} (hs : memsOk s.mems = true) : KeepsMems (execCommitHoursExpiry s) := by
  unfold execCommitHoursExpiry; simp [hs]

theorem execPowerOnReset_keepsMems {s : State} (hs : memsOk s.mems = true) : KeepsMems (execPowerOnReset s) := by
  exact (keepsMems_next _).2 (State.deviceReset_memsOk (by simpa using hs) _)

theorem execVddAonLoss_keepsMems {s : State} (hs : memsOk s.mems = true) : KeepsMems (execVddAonLoss s) := by
  simp [execVddAonLoss, State.reset, State.flashWf_of_mems hs]

theorem execRstNAssert_keepsMems {s : State} (hs : memsOk s.mems = true) : KeepsMems (execRstNAssert s) := by
  unfold execRstNAssert
  dsimp only
  split
  · simpa using hs
  · exact (keepsMems_next _).2 (State.deviceReset_memsOk (by simpa using hs) _)

theorem execRstNRelease_keepsMems {s : State} (hs : memsOk s.mems = true) : KeepsMems (execRstNRelease s) := by
  unfold execRstNRelease; simp [hs]

theorem execPgoodFall_keepsMems {s : State} (hs : memsOk s.mems = true) (rail : Nat) : KeepsMems (execPgoodFall rail s) := by
  unfold execPgoodFall
  dsimp only
  split
  · simpa using hs
  split
  · simpa using hs
  · exact (keepsMems_next _).2 (State.deviceReset_memsOk (by simpa using hs) _)

theorem execPgoodRise_keepsMems {s : State} (hs : memsOk s.mems = true) (rail dt : Nat) : KeepsMems (execPgoodRise rail dt s) := by
  unfold execPgoodRise; simp [hs]

theorem execDieComparatorTrip_keepsMems {s : State} (hs : memsOk s.mems = true) (dt : Nat) : KeepsMems (execDieComparatorTrip dt s) := by
  unfold execDieComparatorTrip
  dsimp only
  split
  · simpa using hs
  · rw [keepsMems_next, State.settleDomains_mems, State.driveAux_mems, State.driveBlank_mems]
    refine State.emptied_memsOk ?_
    rw [State.mems_foldl (fun x p => by split <;> simp)]
    simpa using hs

theorem execDieShutdownRestart_keepsMems {s : State} (hs : memsOk s.mems = true) : KeepsMems (execDieShutdownRestart s) := by
  unfold execDieShutdownRestart
  split
  · simpa using hs
  · simpa using State.deviceReset_memsOk (s := s.pass (cyclesS 1)) (by simpa using hs) 5

theorem execRefclkReturn_keepsMems {s : State} (hs : memsOk s.mems = true) (ppm : Int) (dt : Nat) :
    KeepsMems (execRefclkReturn ppm dt s) := by
  unfold execRefclkReturn
  split
  · simpa using hs
  · simpa using State.deviceReset_memsOk (s := (s.pass dt).pass (cyclesUs 10000)) (by simpa using hs) 3

theorem execSynRelockDone_keepsMems {s : State} (hs : memsOk s.mems = true) (n band us dt : Nat) :
    KeepsMems (execSynRelockDone n band us dt s) := by
  unfold execSynRelockDone
  dsimp only
  split
  · simpa using hs
  split
  · split <;> simpa using hs
  split
  · simpa using hs
  refine (keepsMems_next _).2 ?_
  split
  · exact State.deviceReset_memsOk (by simpa using hs) _
  · simpa using hs

theorem execWatchdogExpiry_keepsMems {s : State} (hs : memsOk s.mems = true) (dt : Nat) : KeepsMems (execWatchdogExpiry dt s) := by
  unfold execWatchdogExpiry
  split
  · exact (keepsMems_next _).2 (State.deviceReset_memsOk (by simpa using hs) _)
  · simpa using hs

theorem execLresetReceive_keepsMems {s : State} (hs : memsOk s.mems = true) (port : Nat) : KeepsMems (execLresetReceive port s) := by
  unfold execLresetReceive; simp [hs]

theorem execSoftResetExecute_keepsMems {s : State} (hs : memsOk s.mems = true) : KeepsMems (execSoftResetExecute s) := by
  simpa [execSoftResetExecute] using State.softDue_memsOk (s := s.pass 0) (by simpa using hs)

theorem execDomainPowerGood_keepsMems {s : State} (hs : memsOk s.mems = true) (d dt : Nat) : KeepsMems (execDomainPowerGood d dt s) := by
  unfold execDomainPowerGood; simp [hs]

theorem execStrapSample_keepsMems {s : State} (hs : memsOk s.mems = true) (role board : Nat) (claim flashOk : Bool) :
    KeepsMems (execStrapSample role board claim flashOk s) := by
  unfold execStrapSample
  split
  · simpa using hs
  have hl (t : State) : t.readLaneTable.dram = t.dram := State.dram_of_mems t.readLaneTable_mems
  dsimp only
  split <;> simp [hs, hl]

theorem execBisqueImageVerified_keepsMems {s : State} (hs : memsOk s.mems = true) (flashOk : Bool) (dt : Nat) :
    KeepsMems (execBisqueImageVerified flashOk dt s) := by
  unfold execBisqueImageVerified; simp [hs]

theorem execBootSlotSelect_keepsMems {s : State} (hs : memsOk s.mems = true) : KeepsMems (execBootSlotSelect s) := by
  unfold execBootSlotSelect; simp [hs]

theorem execMpRunning_keepsMems {s : State} (hs : memsOk s.mems = true) (dt : Nat) : KeepsMems (execMpRunning dt s) := by
  unfold execMpRunning; simp [hs]

theorem execGlostTimeout_keepsMems {s : State} (hs : memsOk s.mems = true) : KeepsMems (execGlostTimeout s) := by
  unfold execGlostTimeout; simp -implicitDefEqProofs [hs]

theorem execTimeWaitExpiry_keepsMems {s : State} (hs : memsOk s.mems = true) : KeepsMems (execTimeWaitExpiry s) := by
  unfold execTimeWaitExpiry; simp [hs]

theorem execBisqueWriteDone_keepsMems {s : State} (hs : memsOk s.mems = true) (fail : Option Nat) :
    KeepsMems (execBisqueWriteDone fail s) := by
  unfold execBisqueWriteDone
  dsimp only
  split
  · simpa using hs
  rename_i part sector n q _
  have hread := (s.pass 0).readWords_mems 8 (7 * sector) n
  split <;> rename_i t heq <;> rw [heq] at hread
  · simpa [hread] using hs
  have ht : memsOk t.mems = true := by simpa [hread] using hs
  have hd := State.dramWf_of_mems ht
  have he (a n : Nat) := State.flashErase_wf ht a n
  generalize (if part = 0 then 0 else (nthW (flashWords t.flash 0 4) 2).toNat) = at_
  split
  · simpa using ht
  split
  · simp [hd, he]
  · simp [hd, flashWrite_flashWf (he _ _)]

theorem execBankedEntry_keepsMems {s : State} (hs : memsOk s.mems = true) : KeepsMems (execBankedEntry s) := by
  unfold execBankedEntry; simp [hs]

theorem execBankedExit_keepsMems {s : State} (hs : memsOk s.mems = true) : KeepsMems (execBankedExit s) := by
  unfold execBankedExit; simp [hs]

theorem execColdStandbyEntry_keepsMems {s : State} (hs : memsOk s.mems = true) : KeepsMems (execColdStandbyEntry s) := by
  unfold execColdStandbyEntry
  split
  · split
    · exact (keepsMems_next _).2 (State.coldEntry_memsOk (by simpa using hs) _)
    · simpa using hs
  · simpa using hs

theorem execColdStandbyWake_keepsMems {s : State} (hs : memsOk s.mems = true) (src : Nat) : KeepsMems (execColdStandbyWake src s) := by
  unfold execColdStandbyWake
  dsimp only
  split
  · exact (keepsMems_next _).2 (State.coldWake_memsOk (by simpa using hs) _)
  · simpa using hs

theorem execLinkActivityWake_keepsMems {s : State} (hs : memsOk s.mems = true) (port : Nat) : KeepsMems (execLinkActivityWake port s) := by
  unfold execLinkActivityWake
  dsimp only
  split
  · exact (keepsMems_next _).2 (State.coldWake_memsOk (by simpa using hs) _)
  · simpa using hs

theorem execWakePinLow_keepsMems {s : State} (hs : memsOk s.mems = true) : KeepsMems (execWakePinLow s) := by
  unfold execWakePinLow
  dsimp only
  split
  · simpa using hs
  split
  · exact (keepsMems_next _).2 (State.coldWake_memsOk (by simpa using hs) _)
  · split <;> simpa using hs

theorem execOwnerFlashWriteDone_keepsMems {s : State} (hs : memsOk s.mems = true) (fail : Option Nat) :
    KeepsMems (execOwnerFlashWriteDone fail s) := by
  unfold execOwnerFlashWriteDone
  dsimp only
  split
  · simpa using hs
  · exact (keepsMems_next _).2 (State.writesDue_memsOk (State.ownFlashEnd_memsOk (by simpa using hs) _ _))

theorem execCensusReply_keepsMems {s : State} (hs : memsOk s.mems = true) : KeepsMems (execCensusReply s) := by
  unfold execCensusReply; split <;> simp [hs]

theorem execRenewWaitExpiry_keepsMems {s : State} (hs : memsOk s.mems = true) : KeepsMems (execRenewWaitExpiry s) := by
  unfold execRenewWaitExpiry; simp [hs]

theorem execPeerAliveInToggle_keepsMems {s : State} (hs : memsOk s.mems = true) (dt : Nat) : KeepsMems (execPeerAliveInToggle dt s) := by
  unfold execPeerAliveInToggle; simp [hs]

theorem execPeerMessageReceive_keepsMems {s : State} (hs : memsOk s.mems = true) (path : Nat) (head body : List Word) (dt : Nat) :
    KeepsMems (execPeerMessageReceive path head body dt s) := by
  unfold execPeerMessageReceive; simp [hs]

theorem execHandbackTick_keepsMems {s : State} (hs : memsOk s.mems = true) : KeepsMems (execHandbackTick s) := by
  unfold execHandbackTick; simp [hs]

theorem execHandbackTimeout_keepsMems {s : State} (hs : memsOk s.mems = true) : KeepsMems (execHandbackTimeout s) := by
  unfold execHandbackTimeout; split <;> simp [hs]

theorem execCtrlSuperblockReceive_keepsMems {s : State} (hs : memsOk s.mems = true) (port : Nat) (words : List Word) (dt : Nat) :
    KeepsMems (execCtrlSuperblockReceive port words dt s) := by
  unfold execCtrlSuperblockReceive; simp [hs]

theorem execPortHelloTimeout_keepsMems {s : State} (hs : memsOk s.mems = true) (port : Nat) : KeepsMems (execPortHelloTimeout port s) := by
  unfold execPortHelloTimeout; simp [hs]

theorem execReplayTimeout_keepsMems {s : State} (hs : memsOk s.mems = true) (port : Nat) : KeepsMems (execReplayTimeout port s) := by
  unfold execReplayTimeout; simp [hs]

theorem execTimeExchangeStart_keepsMems {s : State} (hs : memsOk s.mems = true) (dt : Nat) : KeepsMems (execTimeExchangeStart dt s) := by
  unfold execTimeExchangeStart; dsimp only; (repeat' split) <;> simp [hs]

theorem execTReqReceive_keepsMems {s : State} (hs : memsOk s.mems = true) (port : Nat) (words : List Word) (resp dt : Nat) :
    KeepsMems (execTReqReceive port words resp dt s) := by
  unfold execTReqReceive; simp [hs]

theorem execTRespReceive_keepsMems {s : State} (hs : memsOk s.mems = true) (port : Nat) (words : List Word) (retry : Bool) (dt : Nat) :
    KeepsMems (execTRespReceive port words retry dt s) := by
  unfold execTRespReceive; simp [hs]

theorem execTFupReceive_keepsMems {s : State} (hs : memsOk s.mems = true) (port : Nat) (words : List Word) (retry : Bool) (dt : Nat) :
    KeepsMems (execTFupReceive port words retry dt s) := by
  unfold execTFupReceive; simp [hs]

theorem execTFupLate_keepsMems {s : State} (hs : memsOk s.mems = true) : KeepsMems (execTFupLate s) := by
  unfold execTFupLate; split <;> simp [hs]

theorem execTimeLostTimeout_keepsMems {s : State} (hs : memsOk s.mems = true) : KeepsMems (execTimeLostTimeout s) := by
  unfold execTimeLostTimeout; simp -implicitDefEqProofs [hs]

theorem execSuperblockSlotSend_keepsMems {s : State} (hs : memsOk s.mems = true) (lane dt : Nat) (errs : optParam (List ReadErr) []) :
    KeepsMems (execSuperblockSlotSend lane dt s errs) := by
  unfold execSuperblockSlotSend; simp [hs]

theorem execSuperblockReceive_keepsMems {s : State} (hs : memsOk s.mems = true) (lane : Nat) (line : List Word) (dt : Nat) :
    KeepsMems (execSuperblockReceive lane line dt s) := by
  exact (keepsMems_next _).2 (State.slotReceive_memsOk (by simpa using hs) _ _)

theorem execCawellPacketReceive_keepsMems {s : State} (hs : memsOk s.mems = true) (port : Nat) (words : List Word) (damaged : Bool) (dt : Nat) :
    KeepsMems (execCawellPacketReceive port words damaged dt s) := by
  exact (keepsMems_next _).2 (State.packetSeen_memsOk (by simpa using hs) _ _ _)

theorem execCensusCompute_keepsMems {s : State} (hs : memsOk s.mems = true) (routes : List (Word × List Word)) :
    KeepsMems (execCensusCompute routes s) := by
  unfold execCensusCompute; simp [hs]

theorem execCensusAfterLinkAuth_keepsMems {s : State} (hs : memsOk s.mems = true) : KeepsMems (execCensusAfterLinkAuth s) := by
  unfold execCensusAfterLinkAuth; dsimp only; (repeat' split) <;> simp [hs]

theorem execNetRecordApply_keepsMems {s : State} (hs : memsOk s.mems = true) : KeepsMems (execNetRecordApply s) := by
  unfold execNetRecordApply; simp [hs]

theorem execTick_keepsMems {s : State} (hs : memsOk s.mems = true) (acts : List (Nat × Nat)) (items : List PlanItem) (slip : Bool) :
    KeepsMems (execTick acts items slip s) := by
  unfold execTick
  split
  · simpa using hs
  · exact (keepsMems_next _).2 (State.atTick_memsOk (by simpa using hs) _ _ _ _)

theorem execUdpCommandDatagram_keepsMems {s : State} (hs : memsOk s.mems = true) (ip : IpHead) (ports : Nat × Nat) (bytes : List Byte) (dt : Nat) (eth : optParam Nat 0) (vid : optParam (Option Nat) none) (good : optParam Bool true) :
    KeepsMems (execUdpCommandDatagram ip ports bytes dt s eth vid good) := by
  unfold execUdpCommandDatagram
  dsimp only
  split
  · simpa using hs
  · exact (keepsMems_next _).2 (State.packetBytes_memsOk (by simpa using hs) _ _)

theorem execSpiCommand_keepsMems {s : State} (hs : memsOk s.mems = true) (bytes : List Byte) (dt : Nat) :
    KeepsMems (execSpiCommand bytes dt s) := by
  unfold execSpiCommand
  dsimp only
  split
  · simpa using hs
  · exact (keepsMems_next _).2 (State.packetBytes_memsOk (by simpa using hs) _ _)

theorem execSpiReplyRead_keepsMems {s : State} (hs : memsOk s.mems = true) (count : Nat) : KeepsMems (execSpiReplyRead count s) := by
  unfold execSpiReplyRead; simp [hs]

end Sys2Proof.Machine
end

section
/-! Every step keeps DRAM and flash in canonical form. -/

namespace Sys2Proof.Machine

/-- A command packet of one opcode. -/
theorem arrive_keepsMems {s : State} {o : OpSpec} (ho : o ∈ opTable) (c : Cmd) (hs : memsOk s.mems = true) :
    KeepsMems (.next (s.arrive o c)) := (keepsMems_next _).2 (State.arrive_memsOk ho c hs)

theorem exec_keepsMems {s : State} (hs : memsOk s.mems = true) : ∀ i : Instr, KeepsMems (exec i s)
  | .powerOnReset => execPowerOnReset_keepsMems hs
  | .rstNAssert => execRstNAssert_keepsMems hs
  | .pgoodFall rail => execPgoodFall_keepsMems hs rail
  | .strapSample role board claim flashOk => execStrapSample_keepsMems hs role board claim flashOk
  | .bootSlotSelect => execBootSlotSelect_keepsMems hs
  | .bisqueImageVerified flashOk dt => execBisqueImageVerified_keepsMems hs flashOk dt
  | .mpRunning dt => execMpRunning_keepsMems hs dt
  | .calStoreLoad => execCalStoreLoad_keepsMems hs
  | .glostTimeout => execGlostTimeout_keepsMems hs
  | .timeWaitExpiry => execTimeWaitExpiry_keepsMems hs
  | .watchdogExpiry dt => execWatchdogExpiry_keepsMems hs dt
  | .softReset c => arrive_keepsMems (o := opSoftReset) (by simp [opTable]) c hs
  | .softResetExecute => execSoftResetExecute_keepsMems hs
  | .powerState c => arrive_keepsMems (o := opPowerState) (by simp [opTable]) c hs
  | .bankedEntry => execBankedEntry_keepsMems hs
  | .bankedExit => execBankedExit_keepsMems hs
  | .wakePinLow => execWakePinLow_keepsMems hs
  | .coldStandbyEntry => execColdStandbyEntry_keepsMems hs
  | .coldStandbyWake src => execColdStandbyWake_keepsMems hs src
  | .linkActivityWake port => execLinkActivityWake_keepsMems hs port
  | .bisqueLoad c => arrive_keepsMems (o := opBisqueLoad) (by simp [opTable]) c hs
  | .bisqueWrite c => arrive_keepsMems (o := opBisqueWrite) (by simp [opTable]) c hs
  | .bisqueWriteDone fail => execBisqueWriteDone_keepsMems hs fail
  | .udpCommandDatagram ip ports bytes dt eth vid good => execUdpCommandDatagram_keepsMems hs ip ports bytes dt eth vid good
  | .spiCommand bytes dt => execSpiCommand_keepsMems hs bytes dt
  | .spiReplyRead count => execSpiReplyRead_keepsMems hs count
  | .ping c => arrive_keepsMems (o := opPing) (by simp [opTable]) c hs
  | .readReg c => arrive_keepsMems (o := opReadReg) (by simp [opTable]) c hs
  | .writeReg c => arrive_keepsMems (o := opWriteReg) (by simp [opTable]) c hs
  | .safeDark c => arrive_keepsMems (o := opSafeDark) (by simp [opTable]) c hs
  | .routeSet c => arrive_keepsMems (o := opRouteSet) (by simp [opTable]) c hs
  | .timeRead c => arrive_keepsMems (o := opTimeRead) (by simp [opTable]) c hs
  | .stageStatus c => arrive_keepsMems (o := opStageStatus) (by simp [opTable]) c hs
  | .linkReset c => arrive_keepsMems (o := opLinkReset) (by simp [opTable]) c hs
  | .lresetReceive port => execLresetReceive_keepsMems hs port
  | .censusCall c => arrive_keepsMems (o := opCensusCall) (by simp [opTable]) c hs
  | .censusReply => execCensusReply_keepsMems hs
  | .linkCensus c => arrive_keepsMems (o := opLinkCensus) (by simp [opTable]) c hs
  | .censusCompute routes => execCensusCompute_keepsMems hs routes
  | .place c => arrive_keepsMems (o := opPlace) (by simp [opTable]) c hs
  | .mapSend c => arrive_keepsMems (o := opMapSend) (by simp [opTable]) c hs
  | .takeover c => arrive_keepsMems (o := opTakeover) (by simp [opTable]) c hs
  | .bakeOpen c => arrive_keepsMems (o := opBakeOpen) (by simp [opTable]) c hs
  | .bakeWrite c => arrive_keepsMems (o := opBakeWrite) (by simp [opTable]) c hs
  | .bakeClose c => arrive_keepsMems (o := opBakeClose) (by simp [opTable]) c hs
  | .bakeAbort c => arrive_keepsMems (o := opBakeAbort) (by simp [opTable]) c hs
  | .bakeApply => execBakeApply_keepsMems hs
  | .logRead c => arrive_keepsMems (o := opLogRead) (by simp [opTable]) c hs
  | .logFlush fail => execLogFlush_keepsMems hs fail
  | .auditAccept c => arrive_keepsMems (o := opAuditAccept) (by simp [opTable]) c hs
  | .ownerFlashWrite c => arrive_keepsMems (o := opOwnerFlashWrite) (by simp [opTable]) c hs
  | .ownerFlashWriteDone fail => execOwnerFlashWriteDone_keepsMems hs fail
  | .claim c => arrive_keepsMems (o := opClaim) (by simp [opTable]) c hs
  | .ownerTransfer c => arrive_keepsMems (o := opOwnerTransfer) (by simp [opTable]) c hs
  | .sessionHello c => arrive_keepsMems (o := opSessionHello) (by simp [opTable]) c hs
  | .sessionAuth c => arrive_keepsMems (o := opSessionAuth) (by simp [opTable]) c hs
  | .attest c => arrive_keepsMems (o := opAttest) (by simp [opTable]) c hs
  | .keyLoad c => arrive_keepsMems (o := opKeyLoad) (by simp [opTable]) c hs
  | .keyDrop c => arrive_keepsMems (o := opKeyDrop) (by simp [opTable]) c hs
  | .provision c => arrive_keepsMems (o := opProvision) (by simp [opTable]) c hs
  | .debugUnlock c => arrive_keepsMems (o := opDebugUnlock) (by simp [opTable]) c hs
  | .floorSet c => arrive_keepsMems (o := opFloorSet) (by simp [opTable]) c hs
  | .sessionClose c => arrive_keepsMems (o := opSessionClose) (by simp [opTable]) c hs
  | .policySet c => arrive_keepsMems (o := opPolicySet) (by simp [opTable]) c hs
  | .sealedCmd c => arrive_keepsMems (o := opSealedCmd) (by simp [opTable]) c hs
  | .updateStage c => arrive_keepsMems (o := opUpdateStage) (by simp [opTable]) c hs
  | .updateStageDone fail => execUpdateStageDone_keepsMems hs fail
  | .updateActivate c => arrive_keepsMems (o := opUpdateActivate) (by simp [opTable]) c hs
  | .updateCommit c => arrive_keepsMems (o := opUpdateCommit) (by simp [opTable]) c hs
  | .commitHoursExpiry => execCommitHoursExpiry_keepsMems hs
  | .lHelloReceive port words => execLHelloReceive_keepsMems hs port words
  | .lProofReceive port words => execLProofReceive_keepsMems hs port words
  | .lNocredReceive port => execLNocredReceive_keepsMems hs port
  | .sessionGraceExpiry port => execSessionGraceExpiry_keepsMems hs port
  | .censusAfterLinkAuth => execCensusAfterLinkAuth_keepsMems hs
  | .rekeyExpiry port => execRekeyExpiry_keepsMems hs port
  | .hostSessionExpiry entry => execHostSessionExpiry_keepsMems hs entry
  | .keyUntilExpiry entry => execKeyUntilExpiry_keepsMems hs entry
  | .credExpiryCheck => execCredExpiryCheck_keepsMems hs
  | .ephemeralKeyExpiry => execEphemeralKeyExpiry_keepsMems hs
  | .claimNChange low => execClaimNChange_keepsMems hs low
  | .timeSchedule c => arrive_keepsMems (o := opTimeSchedule) (by simp [opTable]) c hs
  | .scheduleChangeApply => execScheduleChangeApply_keepsMems hs
  | .timePhase c => arrive_keepsMems (o := opTimePhase) (by simp [opTable]) c hs
  | .phaseCommandApply => execPhaseCommandApply_keepsMems hs
  | .timeAdjust c => arrive_keepsMems (o := opTimeAdjust) (by simp [opTable]) c hs
  | .linkWake c => arrive_keepsMems (o := opLinkWake) (by simp [opTable]) c hs
  | .memWrite c => arrive_keepsMems (o := opMemWrite) (by simp [opTable]) c hs
  | .memRead c => arrive_keepsMems (o := opMemRead) (by simp [opTable]) c hs
  | .encodeSpySub c => arrive_keepsMems (o := opEncodeSpySub) (by simp [opTable]) c hs
  | .spySubExpiry => execSpySubExpiry_keepsMems hs
  | .kilnCommit c => arrive_keepsMems (o := opKilnCommit) (by simp [opTable]) c hs
  | .kilnLutLoad c => arrive_keepsMems (o := opKilnLutLoad) (by simp [opTable]) c hs
  | .tableLoadQueuedRun => execTableLoadQueuedRun_keepsMems hs
  | .kilnRelease c => arrive_keepsMems (o := opKilnRelease) (by simp [opTable]) c hs
  | .kilnSurfDefine c => arrive_keepsMems (o := opKilnSurfDefine) (by simp [opTable]) c hs
  | .sealLift => execSealLift_keepsMems hs
  | .glazeLutLoad c => arrive_keepsMems (o := opGlazeLutLoad) (by simp [opTable]) c hs
  | .glazeSetLoad c => arrive_keepsMems (o := opGlazeSetLoad) (by simp [opTable]) c hs
  | .glazeCtxLoad c => arrive_keepsMems (o := opGlazeCtxLoad) (by simp [opTable]) c hs
  | .ctxBankSwap => execCtxBankSwap_keepsMems hs
  | .ctxBankCopyDone => execCtxBankCopyDone_keepsMems hs
  | .glazeCtxRead c => arrive_keepsMems (o := opGlazeCtxRead) (by simp [opTable]) c hs
  | .calLossLoad c => arrive_keepsMems (o := opCalLossLoad) (by simp [opTable]) c hs
  | .calRun c => arrive_keepsMems (o := opCalRun) (by simp [opTable]) c hs
  | .calSave c => arrive_keepsMems (o := opCalSave) (by simp [opTable]) c hs
  | .calSaveDone fail => execCalSaveDone_keepsMems hs fail
  | .snapshotTimer => execSnapshotTimer_keepsMems hs
  | .calPeriodExpiry => execCalPeriodExpiry_keepsMems hs
  | .emitFaultRead c => arrive_keepsMems (o := opEmitFaultRead) (by simp [opTable]) c hs
  | .emitFaultClear c => arrive_keepsMems (o := opEmitFaultClear) (by simp [opTable]) c hs
  | .stampGo c => arrive_keepsMems (o := opStampGo) (by simp [opTable]) c hs
  | .stampJobHead => execStampJobHead_keepsMems hs
  | .stampJobDone => execStampJobDone_keepsMems hs
  | .stampAbort c => arrive_keepsMems (o := opStampAbort) (by simp [opTable]) c hs
  | .deflateJob c => arrive_keepsMems (o := opDeflateJob) (by simp [opTable]) c hs
  | .deflateSupply c => arrive_keepsMems (o := opDeflateSupply) (by simp [opTable]) c hs
  | .deflateAbort c => arrive_keepsMems (o := opDeflateAbort) (by simp [opTable]) c hs
  | .deflateBufferExhausted => execDeflateBufferExhausted_keepsMems hs
  | .deflateJobDone => execDeflateJobDone_keepsMems hs
  | .registerWrite a v => execRegisterWrite_keepsMems hs a v
  | .latchingRead a n => execLatchingRead_keepsMems hs a n
  | .captureFifoRead el => execCaptureFifoRead_keepsMems hs el
  | .fullNextWrite => execFullNextWrite_keepsMems hs
  | .eyeStart lane => execEyeStart_keepsMems hs lane
  | .eyeMeasureDone h v => execEyeMeasureDone_keepsMems hs h v
  | .eyeAutoSchedule => execEyeAutoSchedule_keepsMems hs
  | .synRelockWrite n => execSynRelockWrite_keepsMems hs n
  | .ckoArm j => execCkoArm_keepsMems hs j
  | .ckoAlignEdge src dt => execCkoAlignEdge_keepsMems hs src dt
  | .offsetInWrite b v => execOffsetInWrite_keepsMems hs b v
  | .phaseTargetWrite v => execPhaseTargetWrite_keepsMems hs v
  | .laneHoldWrite lane hold => execLaneHoldWrite_keepsMems hs lane hold
  | .laneEqWrite lane v => execLaneEqWrite_keepsMems hs lane v
  | .spSelWrite sp => execSpSelWrite_keepsMems hs sp
  | .scanConfigWrite head v => execScanConfigWrite_keepsMems hs head v
  | .kilnGridWrite v => execKilnGridWrite_keepsMems hs v
  | .kilnMountWrite v => execKilnMountWrite_keepsMems hs v
  | .geometryChange => execGeometryChange_keepsMems hs
  | .slotDescriptorWrite j w v => execSlotDescriptorWrite_keepsMems hs j w v
  | .slotSetWrite v => execSlotSetWrite_keepsMems hs v
  | .decodePoolWrite base v => execDecodePoolWrite_keepsMems hs base v
  | .poolReset => execPoolReset_keepsMems hs
  | .driveConeWrite c w v => execDriveConeWrite_keepsMems hs c w v
  | .liveFlowWrite j w v => execLiveFlowWrite_keepsMems hs j w v
  | .encodeMapWrite j v => execEncodeMapWrite_keepsMems hs j v
  | .groupEntryWrite g w v => execGroupEntryWrite_keepsMems hs g w v
  | .tick acts items slip => execTick_keepsMems hs acts items slip
  | .ledgerReconcile => execLedgerReconcile_keepsMems hs
  | .commitWindowClose => execCommitWindowClose_keepsMems hs
  | .readinessDecision => execReadinessDecision_keepsMems hs
  | .liveCutoff => execLiveCutoff_keepsMems hs
  | .firingWindowEnd => execFiringWindowEnd_keepsMems hs
  | .planProjection acts done dt => execPlanProjection_keepsMems hs acts done dt
  | .shelfWindowLoaded frame band errs => execShelfWindowLoaded_keepsMems hs frame band errs
  | .bandFireComplete frame band => execBandFireComplete_keepsMems hs frame band
  | .rectPacketSent lane errs => execRectPacketSent_keepsMems hs lane errs
  | .glazeRay parity => execGlazeRay_keepsMems hs parity
  | .teEdge input dt => execTeEdge_keepsMems hs input dt
  | .swapDeadline => execSwapDeadline_keepsMems hs
  | .scanLineStart => execScanLineStart_keepsMems hs
  | .readbackReceive words => execReadbackReceive_keepsMems hs words
  | .readbackTimeout lane => execReadbackTimeout_keepsMems hs lane
  | .faultMapReceive words => execFaultMapReceive_keepsMems hs words
  | .faultReportMissing lane => execFaultReportMissing_keepsMems hs lane
  | .probeLine head low => execProbeLine_keepsMems hs head low
  | .failDarkFallback group => execFailDarkFallback_keepsMems hs group
  | .laneStart lane => execLaneStart_keepsMems hs lane
  | .laneStartFail lane => execLaneStartFail_keepsMems hs lane
  | .superblockReceive lane line dt => execSuperblockReceive_keepsMems hs lane line dt
  | .ctrlSuperblockReceive port words dt => execCtrlSuperblockReceive_keepsMems hs port words dt
  | .portHelloTimeout port => execPortHelloTimeout_keepsMems hs port
  | .cawellPacketReceive port words damaged dt => execCawellPacketReceive_keepsMems hs port words damaged dt
  | .intraHoldoffExpiry => execIntraHoldoffExpiry_keepsMems hs
  | .replayTimeout port => execReplayTimeout_keepsMems hs port
  | .timeExchangeStart dt => execTimeExchangeStart_keepsMems hs dt
  | .tReqReceive port words resp dt => execTReqReceive_keepsMems hs port words resp dt
  | .tRespReceive port words retry dt => execTRespReceive_keepsMems hs port words retry dt
  | .tFupReceive port words retry dt => execTFupReceive_keepsMems hs port words retry dt
  | .timeLostTimeout => execTimeLostTimeout_keepsMems hs
  | .ethLinkChange port up dt => execEthLinkChange_keepsMems hs port up dt
  | .netRecordApply => execNetRecordApply_keepsMems hs
  | .networkControlPacket pkt dt => execNetworkControlPacket_keepsMems hs pkt dt
  | .rtpSlabPacket eth vid good ip ports bytes dt => execRtpSlabPacket_keepsMems hs eth vid good ip ports bytes dt
  | .liveFlowPacket eth vid good ip ports bytes dt => execLiveFlowPacket_keepsMems hs eth vid good ip ports bytes dt
  | .ingestWindowEnd rows => execIngestWindowEnd_keepsMems hs rows
  | .ctuRowEncoded layer row dt => execCtuRowEncoded_keepsMems hs layer row dt
  | .spyPictureCoded frame bytes coded => execSpyPictureCoded_keepsMems hs frame bytes coded
  | .ptpMessageReceive msg dt => execPtpMessageReceive_keepsMems hs msg dt
  | .ptpDelayReqSend b dt => execPtpDelayReqSend_keepsMems hs b dt
  | .ptpTimeout b => execPtpTimeout_keepsMems hs b
  | .baseValidityTimeout b => execBaseValidityTimeout_keepsMems hs b
  | .commandTagExpiry => execCommandTagExpiry_keepsMems hs
  | .peerMessageReceive path head body dt => execPeerMessageReceive_keepsMems hs path head body dt
  | .peerAliveInToggle dt => execPeerAliveInToggle_keepsMems hs dt
  | .renewWaitExpiry => execRenewWaitExpiry_keepsMems hs
  | .handbackTick => execHandbackTick_keepsMems hs
  | .handbackTimeout => execHandbackTimeout_keepsMems hs
  | .streamPacketReceive words => execStreamPacketReceive_keepsMems hs words
  | .batchHeaderParse errs => execBatchHeaderParse_keepsMems hs errs
  | .chunkReceive errs => execChunkReceive_keepsMems hs errs
  | .liveParcelReceive errs => execLiveParcelReceive_keepsMems hs errs
  | .pictureBegin seq head => execPictureBegin_keepsMems hs seq head
  | .sliceSegmentDecoded seq out => execSliceSegmentDecoded_keepsMems hs seq out
  | .pictureEnd seq sei => execPictureEnd_keepsMems hs seq sei
  | .housekeepingRound h => execHousekeepingRound_keepsMems hs h
  | .damperGraceExpiry => execDamperGraceExpiry_keepsMems hs
  | .damperStepExpiry => execDamperStepExpiry_keepsMems hs
  | .dieComparatorTrip dt => execDieComparatorTrip_keepsMems hs dt
  | .dieShutdownRestart => execDieShutdownRestart_keepsMems hs
  | .domainRampTimeout d => execDomainRampTimeout_keepsMems hs d
  | .domainRetry d => execDomainRetry_keepsMems hs d
  | .dramTrainingStart dt => execDramTrainingStart_keepsMems hs dt
  | .dramTrainingDone ok g0 g1 density ranks same dt => execDramTrainingDone_keepsMems hs ok g0 g1 density ranks same dt
  | .oscCheck ch drift dt => execOscCheck_keepsMems hs ch drift dt
  | .retrainBurst dt => execRetrainBurst_keepsMems hs dt
  | .speedSwitch dt => execSpeedSwitch_keepsMems hs dt
  | .refreshDue ch idle dt => execRefreshDue_keepsMems hs ch idle dt
  | .mr4Read ch rate hot dt => execMr4Read_keepsMems hs ch rate hot dt
  | .selfRefreshEntry ch cancelled => execSelfRefreshEntry_keepsMems hs ch cancelled
  | .syncInEdge falling dt => execSyncInEdge_keepsMems hs falling dt
  | .syncInLost => execSyncInLost_keepsMems hs
  | .captureEdge el falling dt => execCaptureEdge_keepsMems hs el falling dt
  | .refclkLoss ppm dt => execRefclkLoss_keepsMems hs ppm dt
  | .refclkReturn ppm dt => execRefclkReturn_keepsMems hs ppm dt
  | .synLockLoss n dt => execSynLockLoss_keepsMems hs n dt
  | .synRelockDone n band us dt => execSynRelockDone_keepsMems hs n band us dt
  | .bandSearchRetry n => execBandSearchRetry_keepsMems hs n
  | .rstNRelease => execRstNRelease_keepsMems hs
  | .pgoodRise rail dt => execPgoodRise_keepsMems hs rail dt
  | .vddAonLoss => execVddAonLoss_keepsMems hs
  | .domainPowerGood d dt => execDomainPowerGood_keepsMems hs d dt
  | .superblockSlotSend lane dt errs => execSuperblockSlotSend_keepsMems hs lane dt errs
  | .tFupLate => execTFupLate_keepsMems hs

/-- Settles O4: a step takes the command at the front of the queue, and every command keeps both memories in canonical form. -/
theorem stepKeepsMemoryCanonical : Obligations.StepKeepsMemoryCanonical := by
  intro s t hs hstep
  unfold step at hstep
  split at hstep
  · cases hstep
    exact hs
  · exact exec_keepsMems (s := { s with pending := _ }) hs _ t hstep

end Sys2Proof.Machine
end

section
/-! MEM_WRITE and MEM_READ (R394, R143, R149–R151), and the images that other commands write. -/

namespace Sys2Proof.Machine

/-! ### Images that are stored whole, or up to a bad sector -/

@[simp] theorem State.tear_dram (s : State) (ids : List Nat) : (s.tear ids).dram = s.dram := State.dram_of_mems (s.tear_mems ids)

@[simp] theorem State.forced_dram (s : State) (force : Bool) (ids : List Nat) : (s.forced force ids).dram = s.dram := by
  unfold State.forced
  split
  · exact s.tear_dram _
  · rfl

/-- The state in which an image is stored: its forced surfaces torn, and the contexts that failed their parity counted (R151, R177). -/
def State.imaged (s : State) (i : Img) (ids : List Nat) : State :=
  i.parity.foldl (fun (x : State) p => x.parityHit p) (s.forced i.force ids)

theorem State.imaged_sound {s : State} {i : Img} (hp : i.parity = []) (ids : List Nat) : s.imaged i ids = s.forced i.force ids := by
  rw [State.imaged, hp, List.foldl_nil]

theorem State.putImage_eq (s : State) (i : Img) (ids : List Nat) :
    s.putImage i ids =
      match ((s.imaged i ids).store i.req i.addr i.words).2 with
      | some n => (.fault n, ((s.imaged i ids).store i.req i.addr i.words).1.surfsAfter ids true)
      | none => (i.ans, ((s.imaged i ids).store i.req i.addr i.words).1.surfsAfter ids i.ans.isFault) := by
  unfold State.putImage State.imaged State.forced
  rfl

@[simp] theorem State.imaged_dram (s : State) (i : Img) (ids : List Nat) : (s.imaged i ids).dram = s.dram :=
  List.foldlRecOn i.parity (motive := fun (r : State) => r.dram = s.dram) _ (s.forced_dram i.force ids) fun b hb p _ =>
    (State.dram_of_mems (b.parityHit_mems p)).trans hb

/-- An image that meets no bad sector is stored whole. -/
theorem State.putImage_stored {s : State} {i : Img} {d : List Host.Cell}
    (h : storeRun (i.words.length + 1) s.dram i.addr i.words = (d, none)) (ids : List Nat) :
    s.putImage i ids =
      (i.ans, ({ (s.imaged i ids).writeChannels i.addr i.words.length with dram := d } : State).surfsAfter ids i.ans.isFault) := by
  have hstore := State.store_good (s := s.imaged i ids) (req := i.req) (a := i.addr) (ws := i.words) (d := d) (by simpa using h)
  rw [State.putImage_eq, hstore]

/-- The same for an image without a context in error, whose command completes without a fault. -/
theorem State.putImage_good {s : State} {i : Img} {d : List Host.Cell} (hp : i.parity = []) (ha : i.ans.isFault = false)
    (h : storeRun (i.words.length + 1) s.dram i.addr i.words = (d, none)) (ids : List Nat) :
    s.putImage i ids = (i.ans, (s.forced i.force ids).stored i.addr i.words.length d ids) := by
  rw [State.putImage_stored h, ha, State.imaged_sound hp]
  rfl

/-- Where a sector fails, the command ends with it. -/
theorem State.putImage_bad {s : State} {i : Img} {d : List Host.Cell} {k : Nat} (hp : i.parity = [])
    (h : storeRun (i.words.length + 1) s.dram i.addr i.words = (d, some k)) (ids : List Nat) :
    s.putImage i ids =
      (.fault k, ({ (s.forced i.force ids).writeChannels i.addr i.words.length with dram := d }.sectorFail i.req k).surfsAfter ids true) := by
  have hstore := State.store_bad (s := s.imaged i ids) (req := i.req) (a := i.addr) (ws := i.words) (d := d) (k := k) (by simpa using h)
  rw [State.putImage_eq, hstore, State.imaged_sound hp]

/-! ### MEM_WRITE and MEM_READ -/

/-- The image of a MEM_WRITE with 1 to 1,016 words. -/
theorem State.imageFor_memWrite {ps : List Word} (hlow : 3 ≤ ps.length) (hhigh : ps.length ≤ 1018) (s : State) :
    s.imageFor 0x601 ps =
      some ⟨5, bits (nthW ps 1) 30 0, ps.drop 2, bit (nthW ps 0) 1, bit (nthW ps 0) 0, .done (ps.drop 2).length, []⟩ := by
  have hne : (ps.drop 2).isEmpty = false := by
    rw [List.isEmpty_eq_false_iff, ← List.length_pos_iff, List.length_drop]
    omega
  have hle : ¬1016 < (ps.drop 2).length := by
    rw [List.length_drop]
    omega
  simp only [State.imageFor, hne, hle, decide_false, Bool.or_self, Bool.false_eq_true, if_false]

theorem hMemWrite_stored {q : Ctx} (hq : q.opcode = 0x601) {ps : List Word} {s : State} {ids : List Nat} {d : List Host.Cell}
    (hlow : 3 ≤ ps.length) (hhigh : ps.length ≤ 1018)
    (hg : s.gate (bits (nthW ps 1) 30 0) (ps.length - 2) (bit (nthW ps 0) 1) (bit (nthW ps 0) 0) = .go ids)
    (hd : storeRun (ps.length - 2 + 1) s.dram (bits (nthW ps 1) 30 0) (ps.drop 2) = (d, none)) :
    hMemWrite q ps s =
      (.done (ps.length - 2), (s.forced (bit (nthW ps 0) 0) ids).stored (bits (nthW ps 1) 30 0) (ps.length - 2) d ids) := by
  rw [← List.length_drop] at hg hd ⊢
  rw [hMemWrite, State.writeCmd_go (by rw [hq]; exact s.imageFor_memWrite hlow hhigh) hg, State.putImage_good rfl rfl hd]

theorem hMemWrite_badSector {q : Ctx} (hq : q.opcode = 0x601) {ps : List Word} {s : State} {ids : List Nat} {d : List Host.Cell} {k : Nat}
    (hlow : 3 ≤ ps.length) (hhigh : ps.length ≤ 1018)
    (hg : s.gate (bits (nthW ps 1) 30 0) (ps.length - 2) (bit (nthW ps 0) 1) (bit (nthW ps 0) 0) = .go ids)
    (hd : storeRun (ps.length - 2 + 1) s.dram (bits (nthW ps 1) 30 0) (ps.drop 2) = (d, some k)) :
    hMemWrite q ps s =
      (.fault k, ({ (s.forced (bit (nthW ps 0) 0) ids).writeChannels (bits (nthW ps 1) 30 0) (ps.length - 2) with
        dram := d }.sectorFail 5 k).surfsAfter ids true) := by
  rw [← List.length_drop] at hg hd ⊢
  rw [hMemWrite, State.writeCmd_go (by rw [hq]; exact s.imageFor_memWrite hlow hhigh) hg, State.putImage_bad rfl hd]

theorem hMemWrite_queued {q : Ctx} (hq : q.opcode = 0x601) {ps : List Word} {s : State} {ids : List Nat}
    (hlow : 3 ≤ ps.length) (hhigh : ps.length ≤ 1018)
    (hg : s.gate (bits (nthW ps 1) 30 0) (ps.length - 2) (bit (nthW ps 0) 1) (bit (nthW ps 0) 0) = .queue ids) :
    hMemWrite q ps s = (.accepted, s.queueWrite q ids ps (bit (nthW ps 0) 1) (bit (nthW ps 0) 0)) := by
  rw [← List.length_drop] at hg
  rw [hMemWrite, State.writeCmd_queue (by rw [hq]; exact s.imageFor_memWrite hlow hhigh) hg]

theorem hMemRead_inside {ps : List Word} {s : State} (h1 : 1 ≤ bits (nthW ps 2) 9 0) (h1016 : bits (nthW ps 2) 9 0 ≤ 1016)
    (hin : bits (nthW ps 1) 30 0 / 7 + sectorsOf (bits (nthW ps 1) 30 0) (bits (nthW ps 2) 9 0) ≤ s.installed)
    (hown : s.owned (bits (nthW ps 1) 30 0 / 7) (sectorsOf (bits (nthW ps 1) 30 0) (bits (nthW ps 2) 9 0)) = false) (q : Ctx) :
    hMemRead q ps s =
      match firstBad s.dram (bits (nthW ps 1) 30 0) (bits (nthW ps 2) 9 0) with
      | none => (.reply (dramWords s.dram (bits (nthW ps 1) 30 0) (bits (nthW ps 2) 9 0)) (bits (nthW ps 2) 9 0),
          s.wakeChannels (bits (nthW ps 1) 30 0) (bits (nthW ps 2) 9 0))
      | some k => (.fault k, (s.wakeChannels (bits (nthW ps 1) 30 0) (bits (nthW ps 2) 9 0)).sectorFail 5 k) := by
  rw [hMemRead, if_neg (by simp; omega), if_neg (by simp [hown])]
  cases hb : firstBad s.dram (bits (nthW ps 1) 30 0) (bits (nthW ps 2) 9 0) with
  | none => rw [State.readWords_good hb]
  | some k => rw [State.readWords_bad hb]

/-- Settles O20: each way a MEM_WRITE can go, and MEM_READ. -/
theorem memoryCommandsTakeEffect : Obligations.MemoryCommandsTakeEffect := by
  refine ⟨fun ids d => completes_of (fun _ _ => rfl) (by decide) fun c h _ _ hp => ?_,
    fun ids d k => completes_of (fun _ _ => rfl) (by decide) fun c h _ _ hp => ?_,
    fun ids => completes_of (fun _ _ => rfl) (by decide) fun c h _ _ hp => ?_,
    completes_of (fun _ _ => rfl) (by decide) fun c h _ _ hp => ?_⟩
  · obtain ⟨-, hlow, hhigh, hg, hd⟩ := hp
    exact ⟨hMemWrite_stored (q := c.ctx opMemWrite) rfl hlow hhigh hg hd, by simp⟩
  · obtain ⟨-, hlow, hhigh, hg, hd⟩ := hp
    exact ⟨hMemWrite_badSector (q := c.ctx opMemWrite) rfl hlow hhigh hg hd, by simp⟩
  · obtain ⟨-, hlow, hhigh, hg⟩ := hp
    exact ⟨hMemWrite_queued (q := c.ctx opMemWrite) rfl hlow hhigh hg, by simp⟩
  · obtain ⟨h1, h1016, hin, hown⟩ := hp
    refine ⟨hMemRead_inside h1 h1016 hin hown (c.ctx opMemRead), ?_⟩
    dsimp only
    split <;> simp

end Sys2Proof.Machine
end

section
/-! KILN_COMMIT, KILN_LUT_LOAD, KILN_RELEASE and KILN_SURF_DEFINE (R30, R122–R124, R144–R148). -/

namespace Sys2Proof.Machine

/-! ### A table load (R124, R178, R179): at once, or queued -/

/-- A load of a table that no frame uses runs at once. -/
theorem State.loadTable_now {s : State} {kind table sector words : Nat} (himg : s.imageOk sector words = true)
    (hused : s.tableUsed kind table = false) (wait : Bool) (c : Ctx) (ps : List Word) :
    s.loadTable kind table sector words wait c ps = ((s.runLoad kind ps).1, (s.runLoad kind ps).2.showTables) := by
  rw [State.loadTable, if_neg (by simp [himg]), if_pos (by simp [hused])]

/-- A load with WAIT of a table in use, for which none waits yet, is queued. -/
theorem State.loadTable_wait {s : State} {kind table sector words : Nat} (himg : s.imageOk sector words = true)
    (hused : s.tableUsed kind table = true)
    (hnone : s.fire.loads.find? (fun (l : TableLoad) => decide (l.kind = kind) && decide (l.table = table)) = none) (c : Ctx) (ps : List Word) :
    s.loadTable kind table sector words true c ps =
      (.accepted table, { s with fire := { s.fire with
        loads := s.fire.loads.filter (fun (l : TableLoad) => !(decide (l.kind = kind) && decide (l.table = table)))
          ++ [(⟨kind, table, ps, c.req⟩ : TableLoad)] } }.showTables) := by
  rw [State.loadTable, if_neg (by simp [himg]), if_neg (by simp [hused]), if_neg (by simp)]
  simp only [hnone, Option.map_none, State.completeOpt]

/-- A pre-blend table is replaced from a run of words that passes its checks. -/
theorem State.runLoad_pre {s : State} {ps : List Word} (h : firstBad s.dram (7 * bits (nthW ps 1) 27 0) 768 = none) :
    s.runLoad 0 ps =
      (.done (bits (nthW ps 0) 3 0),
        { s.wakeChannels (7 * bits (nthW ps 1) 27 0) 768 with
          fire := { (s.wakeChannels (7 * bits (nthW ps 1) 27 0) 768).fire with
            pre := takePre s.fire.pre (bits (nthW ps 0) 3 0) (dramWords s.dram (7 * bits (nthW ps 1) 27 0) 768) } }) := by
  unfold State.runLoad
  simp only [if_true, if_neg (by decide : ¬0 = 2), State.readWords_good h, State.wakeChannels_fire]

/-! ### The image that KILN_LUT_LOAD writes -/

theorem preImage_length (l : List (Nat × Nat)) (t : Nat) : (preImage l t).length = 768 := by
  rw [preImage, List.length_map, List.length_range]

theorem hKilnLutLoad_stored {q : Ctx} (hq : q.opcode = 0x905) {ps : List Word} {s : State} {ids : List Nat} {d : List Host.Cell}
    (hdir : bit (nthW ps 0) 7 = true) (hg : s.gate (7 * bits (nthW ps 1) 27 0) 768 (bit (nthW ps 0) 6) false = .go ids)
    (hd : storeRun 769 s.dram (7 * bits (nthW ps 1) 27 0) (preImage s.fire.pre (bits (nthW ps 0) 3 0)) = (d, none)) :
    hKilnLutLoad q ps s = (.done (bits (nthW ps 0) 3 0), s.stored (7 * bits (nthW ps 1) 27 0) 768 d ids) := by
  have himg : s.imageFor q.opcode ps = some ⟨8, 7 * bits (nthW ps 1) 27 0, preImage s.fire.pre (bits (nthW ps 0) 3 0),
      bit (nthW ps 0) 6, false, .done (bits (nthW ps 0) 3 0), []⟩ := by rw [hq]; rfl
  have hlen := preImage_length s.fire.pre (bits (nthW ps 0) 3 0)
  rw [hKilnLutLoad, if_pos hdir, State.writeCmd_go himg (by rw [hlen]; exact hg), State.putImage_good rfl rfl (by simpa only [hlen, Nat.reduceAdd] using hd)]
  dsimp only
  rw [hlen]
  rfl

/-! ### KILN_COMMIT and the surfaces -/

theorem hKilnCommit_near {ps : List Word} {s : State}
    (h : bit (nthW ps 0) 12 = true ∨ join48 (nthW ps 0) (nthW ps 1) ≤ s.earliestOpen + 8) (q : Ctx) :
    hKilnCommit q ps s =
      if bit (nthW ps 0) 12 then (.done s.earliestOpen, s.bindCommit s.earliestOpen)
      else if s.earliestOpen ≤ join48 (nthW ps 0) (nthW ps 1) then
        (.done (join48 (nthW ps 0) (nthW ps 1)), s.bindCommit (join48 (nthW ps 0) (nthW ps 1)))
      else (.late s.earliestOpen, (s.bindCommit s.earliestOpen).raise 736 (s.earliestOpen % 2 ^ 28)) := by
  rw [hKilnCommit]
  by_cases hnext : bit (nthW ps 0) 12 = true
  · rw [if_pos hnext, if_pos hnext]
  · have hle := h.resolve_left hnext
    rw [if_neg hnext, if_neg hnext, if_neg (by omega)]

theorem hKilnRelease_unsealed {ps : List Word} {s : State} (hdef : s.rb Reg.KILN_SURF_W3_DEFINED (bits (nthW ps 0) 7 0) = true)
    (hseal : s.rb Reg.KILN_SURF_W3_SEALED (bits (nthW ps 0) 7 0) = false) (hnames : namesSurf s.regs (bits (nthW ps 0) 7 0) = false)
    (hrel : s.rb Reg.KILN_SURF_W3_RELEASING (bits (nthW ps 0) 7 0) = false) (q : Ctx) :
    hKilnRelease q ps s =
      (.done (bits (nthW ps 0) 7 0), if bit (nthW ps 0) 8 then s.undefine (bits (nthW ps 0) 7 0) else s) := by
  rw [hKilnRelease, if_neg (by simp [hdef]), if_neg (by simp [hnames, hrel]), if_pos (by simp [hseal])]

theorem hKilnRelease_sealed {ps : List Word} {s : State} (hdef : s.rb Reg.KILN_SURF_W3_DEFINED (bits (nthW ps 0) 7 0) = true)
    (hseal : s.rb Reg.KILN_SURF_W3_SEALED (bits (nthW ps 0) 7 0) = true) (hnames : namesSurf s.regs (bits (nthW ps 0) 7 0) = false)
    (hrel : s.rb Reg.KILN_SURF_W3_RELEASING (bits (nthW ps 0) 7 0) = false) (q : Ctx) :
    hKilnRelease q ps s =
      (.accepted (sget (⟨0, 0, none⟩ : SurfX) s.fire.surf (bits (nthW ps 0) 7 0)).last,
        { s with fire := { s.fire with
          surf := sset ⟨0, 0, none⟩ s.fire.surf (bits (nthW ps 0) 7 0)
            { sget (⟨0, 0, none⟩ : SurfX) s.fire.surf (bits (nthW ps 0) 7 0) with
              release := some (q.req, bit (nthW ps 0) 8) } } }.w Reg.KILN_SURF_W3_RELEASING 1 (bits (nthW ps 0) 7 0)) := by
  rw [hKilnRelease, if_neg (by simp [hdef]), if_neg (by simp [hnames, hrel]), if_neg (by simp [hseal])]

/-- A surface extent that R146 allows: it is not empty, holds the image, lies in the installed DRAM outside what others own, and meets
no other surface. -/
theorem hSurfDefine_free {ps : List Word} {s : State} (hn : bits (nthW ps 3) 22 0 ≠ 0) (hhm : bits (nthW ps 2) 21 9 ≤ 4351)
    (hin : bits (nthW ps 1) 27 0 + bits (nthW ps 3) 22 0 ≤ s.installed)
    (hown : s.owned (bits (nthW ps 1) 27 0) (bits (nthW ps 3) 22 0) = false)
    (halone : ∀ j ∈ s.surfsOf (bits (nthW ps 1) 27 0) (bits (nthW ps 3) 22 0), j = bits (nthW ps 0) 7 0)
    (hcrumb : bit (nthW ps 0) 8 = true →
      crumbBlocks (bits (nthW ps 2) 34 22 + 1) (bits (nthW ps 2) 21 9 + 1) ≤ 7 * bits (nthW ps 3) 22 0)
    (hrows : bit (nthW ps 0) 8 = false → bits (nthW ps 2) 34 22 ≤ bits (nthW ps 3) 35 23
      ∧ cdiv ((bits (nthW ps 3) 35 23 + 1) * (bits (nthW ps 2) 21 9 + 1)) 7 ≤ bits (nthW ps 3) 22 0)
    (hseal : s.rb Reg.KILN_SURF_W3_SEALED (bits (nthW ps 0) 7 0) = false)
    (hrel : s.rb Reg.KILN_SURF_W3_RELEASING (bits (nthW ps 0) 7 0) = false) (hbusy : s.surfBusy (bits (nthW ps 0) 7 0) = false)
    (q : Ctx) :
    hSurfDefine q ps s =
      (.done (bits (nthW ps 0) 7 0), s.ws [(Reg.KILN_SURF_W0_BASE, bits (nthW ps 0) 7 0, bits (nthW ps 1) 27 0),
        (Reg.KILN_SURF_W1_CRUMB, bits (nthW ps 0) 7 0, b2n (bit (nthW ps 0) 8)),
        (Reg.KILN_SURF_W1_W_M1, bits (nthW ps 0) 7 0, bits (nthW ps 2) 34 22),
        (Reg.KILN_SURF_W1_H_M1, bits (nthW ps 0) 7 0, bits (nthW ps 2) 21 9),
        (Reg.KILN_SURF_W2_STRIDE_M1, bits (nthW ps 0) 7 0, if bit (nthW ps 0) 8 then 0 else bits (nthW ps 3) 35 23),
        (Reg.KILN_SURF_W2_SECTORS, bits (nthW ps 0) 7 0, bits (nthW ps 3) 22 0), (Reg.KILN_SURF_W3_DEFINED, bits (nthW ps 0) 7 0, 1),
        (Reg.KILN_SURF_W3_INVALID, bits (nthW ps 0) 7 0, 0)]) := by
  have hsmall : ¬if bit (nthW ps 0) 8 = true then
        7 * bits (nthW ps 3) 22 0 < crumbBlocks (bits (nthW ps 2) 34 22 + 1) (bits (nthW ps 2) 21 9 + 1)
      else (decide (bits (nthW ps 3) 35 23 < bits (nthW ps 2) 34 22)
        || decide (bits (nthW ps 3) 22 0 < cdiv ((bits (nthW ps 3) 35 23 + 1) * (bits (nthW ps 2) 21 9 + 1)) 7)) = true := by
    split
    · next hc => exact Nat.not_lt.2 (hcrumb hc)
    · next hc => simpa using hrows (by simpa using hc)
  have hothers : (s.surfsOf (bits (nthW ps 1) 27 0) (bits (nthW ps 3) 22 0)).any (· ≠ bits (nthW ps 0) 7 0) = false := by
    simpa using halone
  rw [hSurfDefine, if_neg (by simp only [hsmall, hothers, hown]; simp [hn, hhm, hin]), if_neg (by simp [hseal, hrel]), if_neg (by simp [hbusy])]

/-- Settles O21. What a commit binds is the model's choice (assumption log 20), as are KILN_LUT_LOAD's flags with DIR = 1 (log 68). -/
theorem kilnCommandsTakeEffect : Obligations.KilnCommandsTakeEffect := by
  refine ⟨completes_of (fun _ _ => rfl) (by decide) fun c h _ _ hp => ?_,
    completes_of (fun _ _ => rfl) (by decide) fun c h _ _ hp => ?_,
    completes_of (fun _ _ => rfl) (by decide) fun c h _ _ hp => ?_,
    fun ids d => completes_of (fun _ _ => rfl) (by decide) fun c h _ _ hp => ?_,
    completes_of (fun _ _ => rfl) (by decide) fun c h _ _ hp => ?_,
    completes_of (fun _ _ => rfl) (by decide) fun c h _ _ hp => ?_,
    completes_of (fun _ _ => rfl) (by decide) fun c h _ _ hp => ?_⟩
  · exact ⟨hKilnCommit_near hp (c.ctx opKilnCommit), ite_code_ne_wait (by simp) (ite_code_ne_wait (by simp) (by simp))⟩
  · obtain ⟨hdir, himg, hused, hgood⟩ := hp
    refine ⟨?_, by simp⟩
    change hKilnLutLoad (c.ctx opKilnLutLoad) c.params h = _
    rw [hKilnLutLoad, if_neg (by simp [hdir]), State.loadTable_now himg hused, State.runLoad_pre hgood]
  · obtain ⟨hdir, hwait, himg, hused, hnone⟩ := hp
    refine ⟨?_, by simp⟩
    change hKilnLutLoad (c.ctx opKilnLutLoad) c.params h = _
    rw [hKilnLutLoad, if_neg (by simp [hdir]), hwait, State.loadTable_wait himg hused hnone]
  · obtain ⟨hdir, hg, hd⟩ := hp
    exact ⟨hKilnLutLoad_stored (q := c.ctx opKilnLutLoad) rfl hdir hg hd, by simp⟩
  · obtain ⟨hdef, hseal, hnames, hrel⟩ := hp
    exact ⟨hKilnRelease_unsealed hdef hseal hnames hrel (c.ctx opKilnRelease), by simp⟩
  · obtain ⟨hdef, hseal, hnames, hrel⟩ := hp
    exact ⟨hKilnRelease_sealed hdef hseal hnames hrel (c.ctx opKilnRelease), by simp⟩
  · obtain ⟨hn, hhm, hin, hown, halone, hcrumb, hrows, hseal, hrel, hbusy⟩ := hp
    exact ⟨hSurfDefine_free hn hhm hin hown halone hcrumb hrows hseal hrel hbusy (c.ctx opKilnSurfDefine), by simp⟩

end Sys2Proof.Machine
end

section
/-! GLAZE_LUT_LOAD, GLAZE_SET_LOAD, GLAZE_CTX_LOAD and GLAZE_CTX_READ (R174–R179). -/

namespace Sys2Proof.Machine

/-! ### Table loads -/

/-- A post-blend table is replaced from a run of words that passes its checks. -/
theorem State.runLoad_post {s : State} {ps : List Word} (h : firstBad s.dram (7 * bits (nthW ps 1) 27 0) 1539 = none) :
    s.runLoad 1 ps =
      (.done (bits (nthW ps 0) 1 0),
        { s.wakeChannels (7 * bits (nthW ps 1) 27 0) 1539 with
          glaze := { (s.wakeChannels (7 * bits (nthW ps 1) 27 0) 1539).glaze with
            post := takePost s.glaze.post (bits (nthW ps 0) 1 0) (dramWords s.dram (7 * bits (nthW ps 1) 27 0) 1539) } }) := by
  unfold State.runLoad
  simp only [if_true, if_neg (by decide : ¬1 = 2), if_neg (by decide : ¬1 = 0), State.readWords_good h, State.wakeChannels_glaze]

/-- A matrix slot is replaced from a run of words that passes its checks. -/
theorem State.runLoad_mats {s : State} {ps : List Word}
    (h : firstBad s.dram (7 * bits (nthW ps 2) 27 0) (5 * (bits (nthW ps 1) 11 0 + 1)) = none) :
    s.runLoad 2 ps =
      (.done (bits (nthW ps 0) 2 0),
        { s.wakeChannels (7 * bits (nthW ps 2) 27 0) (5 * (bits (nthW ps 1) 11 0 + 1)) with
          glaze := { (s.wakeChannels (7 * bits (nthW ps 2) 27 0) (5 * (bits (nthW ps 1) 11 0 + 1))).glaze with
            mats := takeMats s.glaze.mats (bits (nthW ps 0) 2 0) (bits (nthW ps 1) 11 0 + 1)
              (dramWords s.dram (7 * bits (nthW ps 2) 27 0) (5 * (bits (nthW ps 1) 11 0 + 1))) } }.ws
          [(Reg.GLAZE_SLOT_LOADED, bits (nthW ps 0) 2 0, 1),
            (Reg.GLAZE_SLOT_COUNT_M1, bits (nthW ps 0) 2 0, bits (nthW ps 1) 11 0 + 1 - 1)]) := by
  unfold State.runLoad
  simp only [if_true, if_neg (by decide : ¬2 = 0), if_neg (by decide : ¬2 = 1), State.readWords_good h, State.wakeChannels_glaze]

/-! ### GLAZE_CTX_LOAD -/

/-- While nothing is fired a load writes both banks at once (R174). -/
theorem hCtxLoad_idle {ps : List Word} {s : State} (hf : s.fire.firing = false) (hcount : bits (nthW ps 3) 15 0 ≠ 0)
    (hlast : bits (nthW ps 2) 15 0 + bits (nthW ps 3) 15 0 ≤ 49152)
    (himg : s.imageOk (bits (nthW ps 4) 27 0) ((if bit (nthW ps 0) 13 then 8 else 2) * bits (nthW ps 3) 15 0) = true)
    (hgood : firstBad s.dram (7 * bits (nthW ps 4) 27 0) ((if bit (nthW ps 0) 13 then 8 else 2) * bits (nthW ps 3) 15 0) = none)
    (q : Ctx) :
    hCtxLoad q ps s =
      let first := bits (nthW ps 2) 15 0
      let count := bits (nthW ps 3) 15 0
      let stride := if bit (nthW ps 0) 13 then 8 else 2
      let a := 7 * bits (nthW ps 4) 27 0
      let ws := dramWords s.dram a (stride * count)
      let u := s.wakeChannels a (stride * count)
      (.done count, { u with glaze := { u.glaze with
        ctx := putCtx s.glaze.ctx first count stride ws
        staged := putCtx s.glaze.staged first count stride ws
        ages := if bit (nthW ps 0) 13 then putAges s.glaze.ages first count ws else s.glaze.ages
        parity := clearParity s.glaze.parity first count stride
        parityStaged := clearParity s.glaze.parityStaged first count 2 } }) := by
  have hlt : ¬49152 < bits (nthW ps 2) 15 0 + bits (nthW ps 3) 15 0 := by omega
  rw [hCtxLoad, if_neg (by rw [himg]; simp [hcount, hlt]), if_neg (by simp [hf]), if_pos (by simp [hf]), State.readWords_good hgood]
  rfl

/-- An image that passes its checks goes into the staged bank (R175). -/
theorem State.stageCtx_good {s : State} {l : CtxLoad} {sector count : Nat} (h : firstBad s.dram (7 * sector) (2 * count) = none) :
    s.stageCtx l sector count =
      (none, { s.wakeChannels (7 * sector) (2 * count) with glaze := { (s.wakeChannels (7 * sector) (2 * count)).glaze with
        staged := putCtx s.glaze.staged l.first count 2 (dramWords s.dram (7 * sector) (2 * count))
        parityStaged := clearParity s.glaze.parityStaged l.first count 2
        loads := s.glaze.loads ++ [{ l with words := dramWords s.dram (7 * sector) (2 * count) }] } }.showCtx) := by
  unfold State.stageCtx
  simp only [State.readWords_good h, State.wakeChannels_glaze]

/-- A load for the next frame, with no other load under way, is staged for it while frames are fired (R175). -/
theorem hCtxLoad_next {ps : List Word} {s : State} (hf : s.fire.firing = true) (haging : bit (nthW ps 0) 13 = false)
    (hnext : bit (nthW ps 0) 12 = true) (hcount : bits (nthW ps 3) 15 0 ≠ 0)
    (hlast : bits (nthW ps 2) 15 0 + bits (nthW ps 3) 15 0 ≤ 49152)
    (himg : s.imageOk (bits (nthW ps 4) 27 0) (2 * bits (nthW ps 3) 15 0) = true) (hloads : s.glaze.loads = [])
    (hwaiting : s.glaze.waiting = []) (hcopying : s.rb Reg.GLAZE_CTX_STATUS_COPYING = false)
    (hgood : firstBad s.dram (7 * bits (nthW ps 4) 27 0) (2 * bits (nthW ps 3) 15 0) = none) (q : Ctx) :
    hCtxLoad q ps s =
      let first := bits (nthW ps 2) 15 0
      let count := bits (nthW ps 3) 15 0
      let a := 7 * bits (nthW ps 4) 27 0
      let ws := dramWords s.dram a (2 * count)
      let u := s.wakeChannels a (2 * count)
      let l : CtxLoad := ⟨s.earliestOpen, first, ws, false, q.req⟩
      (.accepted s.earliestOpen, { u with glaze := { u.glaze with
        staged := putCtx s.glaze.staged first count 2 ws
        parityStaged := clearParity s.glaze.parityStaged first count 2, loads := [l] } }.showCtx) := by
  have hlt : ¬49152 < bits (nthW ps 2) 15 0 + bits (nthW ps 3) 15 0 := by omega
  rw [hCtxLoad]
  simp only [haging, hnext, hf, hlt, hcount, himg, hloads, hwaiting, hcopying, State.stageCtx_good hgood, Bool.not_true, Bool.false_and,
    Bool.true_or, Bool.or_self, decide_false, Bool.false_eq_true, if_false, if_true, List.append_nil, List.head?_nil, Option.filter_none,
    State.raiseIf, List.nil_append]

/-! ### GLAZE_CTX_READ -/

theorem State.ctxImage_length (s : State) (bank : List (Nat × Word)) (ctx : Nat) : (s.ctxImage bank ctx).length = 8 := rfl

/-- A run of contexts is eight words for each. -/
theorem State.ctxImages_length (s : State) (bank : List (Nat × Word)) (first count : Nat) :
    ((List.range count).flatMap (fun i => s.ctxImage bank (first + i))).length = 8 * count := by
  rw [List.length_flatMap]
  simp only [State.ctxImage_length, List.map_const', List.length_range, List.sum_replicate, smul_eq_mul]
  omega

/-- The answer of a read names the first context in error, and is a fault where there is one (R177). -/
theorem parityAnswer_isFault (bad : List Nat) :
    (match bad.head? with | some p => Ans.fault p | none => Ans.done).isFault = !bad.isEmpty := by
  cases bad <;> rfl

theorem hCtxRead_stored {q : Ctx} (hq : q.opcode = 0xA04) {ps : List Word} {s : State} {ids : List Nat} {d : List Host.Cell}
    {ws : List Word} (hws : ws = (List.range (bits (nthW ps 2) 15 0)).flatMap
      (fun i => s.ctxImage (if bit (nthW ps 0) 2 then s.glaze.staged else s.glaze.ctx) (bits (nthW ps 1) 15 0 + i)))
    (hcount : bits (nthW ps 2) 15 0 ≠ 0) (hlast : bits (nthW ps 1) 15 0 + bits (nthW ps 2) 15 0 ≤ 49152)
    (hg : s.gate (7 * bits (nthW ps 3) 27 0) ws.length (bit (nthW ps 0) 1) (bit (nthW ps 0) 0) = .go ids)
    (hd : storeRun (ws.length + 1) s.dram (7 * bits (nthW ps 3) 27 0) ws = (d, none)) :
    hCtxRead q ps s =
      let bad := s.parityIn (bit (nthW ps 0) 2) (bits (nthW ps 1) 15 0) (bits (nthW ps 2) 15 0)
      let u := bad.foldl (fun (x : State) p => x.parityHit p) (s.forced (bit (nthW ps 0) 0) ids)
      let v := { u.writeChannels (7 * bits (nthW ps 3) 27 0) (8 * bits (nthW ps 2) 15 0) with dram := d }
      ((match bad.head? with | some p => .fault p | none => .done), v.surfsAfter ids (!bad.isEmpty)) := by
  have hlt : ¬49152 < bits (nthW ps 1) 15 0 + bits (nthW ps 2) 15 0 := by omega
  have hlen : ws.length = 8 * bits (nthW ps 2) 15 0 := by rw [hws, State.ctxImages_length]
  have himg : s.imageFor q.opcode ps = some ⟨8, 7 * bits (nthW ps 3) 27 0, ws, bit (nthW ps 0) 1, bit (nthW ps 0) 0,
      match (s.parityIn (bit (nthW ps 0) 2) (bits (nthW ps 1) 15 0) (bits (nthW ps 2) 15 0)).head? with
        | some p => Ans.fault p | none => Ans.done,
      s.parityIn (bit (nthW ps 0) 2) (bits (nthW ps 1) 15 0) (bits (nthW ps 2) 15 0)⟩ := by
    rw [hq, hws]
    simp only [State.imageFor, hcount, hlt, decide_false, Bool.or_self, Bool.false_eq_true, if_false] <;> rfl
  rw [hCtxRead, State.writeCmd_go himg hg, State.putImage_stored hd]
  dsimp only
  rw [parityAnswer_isFault, hlen]
  rfl

/-- Settles O22: loads at once and queued, contexts written and staged, and contexts read. -/
theorem glazeCommandsTakeEffect : Obligations.GlazeCommandsTakeEffect := by
  refine ⟨completes_of (fun _ _ => rfl) (by decide) fun c h _ _ hp => ?_,
    completes_of (fun _ _ => rfl) (by decide) fun c h _ _ hp => ?_,
    completes_of (fun _ _ => rfl) (by decide) fun c h _ _ hp => ?_,
    completes_of (fun _ _ => rfl) (by decide) fun c h _ _ hp => ?_,
    completes_of (fun _ _ => rfl) (by decide) fun c h _ _ hp => ?_,
    completes_of (fun _ _ => rfl) (by decide) fun c h _ _ hp => ?_,
    fun ids d => completes_of (fun _ _ => rfl) (by decide) fun c h _ _ hp => ?_⟩
  · obtain ⟨himg, hused, hgood⟩ := hp
    refine ⟨?_, by simp⟩
    change hGlazeLutLoad (c.ctx opGlazeLutLoad) c.params h = _
    rw [hGlazeLutLoad, State.loadTable_now himg hused, State.runLoad_post hgood]
  · obtain ⟨himg, hused, hgood⟩ := hp
    refine ⟨?_, by simp⟩
    change hGlazeSetLoad (c.ctx opGlazeSetLoad) c.params h = _
    rw [hGlazeSetLoad, State.loadTable_now himg hused, State.runLoad_mats hgood]
  · obtain ⟨hwait, himg, hused, hnone⟩ := hp
    refine ⟨?_, by simp⟩
    change hGlazeLutLoad (c.ctx opGlazeLutLoad) c.params h = _
    rw [hGlazeLutLoad, hwait, State.loadTable_wait himg hused hnone]
  · obtain ⟨hwait, hused, himg, hnone⟩ := hp
    refine ⟨?_, by simp⟩
    change hGlazeSetLoad (c.ctx opGlazeSetLoad) c.params h = _
    rw [hGlazeSetLoad, hwait, State.loadTable_wait himg hused hnone]
  · obtain ⟨hf, hcount, hlast, himg, hgood⟩ := hp
    exact ⟨hCtxLoad_idle hf hcount hlast himg hgood (c.ctx opGlazeCtxLoad), by simp⟩
  · obtain ⟨hf, haging, hnext, hcount, hlast, himg, hloads, hwaiting, hcopying, hgood⟩ := hp
    exact ⟨hCtxLoad_next hf haging hnext hcount hlast himg hloads hwaiting hcopying hgood (c.ctx opGlazeCtxLoad), by simp⟩
  · obtain ⟨hcount, hlast, hg, hd⟩ := hp
    refine ⟨hCtxRead_stored (q := c.ctx opGlazeCtxRead) rfl rfl hcount hlast hg hd, ?_⟩
    dsimp only
    split <;> simp

end Sys2Proof.Machine
end

section
/-! CAL_LOSS_LOAD, CAL_RUN, CAL_SAVE, EMIT_FAULT_READ, EMIT_FAULT_CLEAR and ENCODE_SPY_SUB (R188, R196, R201, R251, R345). -/

namespace Sys2Proof.Machine

/-! ### Calibration -/

/-- An image of the loss tables that breaks none of R188's rules is taken. -/
theorem State.lossLoad_sound {s : State} {ps : List Word} (himg : s.imageOk (bits (nthW ps 1) 27 0) 99 = true)
    (hgood : firstBad s.dram (7 * bits (nthW ps 1) 27 0) 99 = none)
    (hsound : ∀ w, w < 99 → lossWordBad (dramWords s.dram (7 * bits (nthW ps 1) 27 0) 99) w = false) :
    s.lossLoad ps =
      (.done, { s.wakeChannels (7 * bits (nthW ps 1) 27 0) 99 with
        cal := { (s.wakeChannels (7 * bits (nthW ps 1) 27 0) 99).cal with
          loss := takeLoss (dramWords s.dram (7 * bits (nthW ps 1) 27 0) 99) } }) := by
  have hnone : (List.range 99).find? (fun w => lossWordBad (dramWords s.dram (7 * bits (nthW ps 1) 27 0) 99) w) = none :=
    List.find?_eq_none.2 fun w hw => by simp [hsound w (List.mem_range.1 hw)]
  rw [State.lossLoad, if_neg (by simp [himg]), State.readWords_good hgood]
  dsimp only
  rw [hnone]

theorem hLossLoad_stored {q : Ctx} (hq : q.opcode = 0xA05) {ps : List Word} {s : State} {ids : List Nat} {d : List Host.Cell}
    (hdir : bit (nthW ps 0) 0 = true) (hg : s.gate (7 * bits (nthW ps 1) 27 0) 99 false false = .go ids)
    (hd : storeRun 100 s.dram (7 * bits (nthW ps 1) 27 0) (lossImage s.cal.loss) = (d, none)) :
    hLossLoad q ps s = (.done, s.stored (7 * bits (nthW ps 1) 27 0) 99 d ids) := by
  have himg : s.imageFor q.opcode ps = some ⟨8, 7 * bits (nthW ps 1) 27 0, lossImage s.cal.loss, false, false, .done, []⟩ := by
    rw [hq]; rfl
  have hlen : (lossImage s.cal.loss).length = 99 := by rw [lossImage, List.length_map, List.length_range]
  rw [hLossLoad, if_pos hdir, State.writeCmd_go himg (by rw [hlen]; exact hg),
    State.putImage_good rfl rfl (by simpa only [hlen, Nat.reduceAdd] using hd)]
  dsimp only
  rw [hlen]
  rfl

theorem State.calPend_on {s : State} (h : s.rb Reg.CAL_TTH_TTH_EN = true) : s.calPend = s.w Reg.CAL_RUN_STATUS_PENDING 1 := by
  rw [State.calPend, if_pos h]

/-- A run or a capture asked for while frames are fired is queued (R196). -/
theorem hCalRun_accepted {ps : List Word} {s : State} (hen : s.rb Reg.CAL_TTH_TTH_EN = true) (hf : s.fire.firing = true)
    (hentry : bit (nthW ps 0) 3 = true → bits (nthW ps 0) 2 0 ≤ 5) (q : Ctx) :
    hCalRun q ps s =
      (.accepted, { s with cal := { s.cal with
        reqs := s.cal.reqs ++ [((if bit (nthW ps 0) 3 then some (bits (nthW ps 0) 2 0) else none), q.req)] } }.w
          Reg.CAL_RUN_STATUS_PENDING 1) := by
  have hlow : ¬(bit (nthW ps 0) 3 = true ∧ 5 < bits (nthW ps 0) 2 0) := fun h => absurd h.2 (Nat.not_lt.2 (hentry h.1))
  rw [hCalRun, if_neg (by simp [hen]), if_neg (by simp [hf]), if_neg (by simpa using hlow)]
  exact congrArg (Prod.mk Ans.accepted) (State.calPend_on hen)

theorem hCalSave_accepted {ps : List Word} {s : State} (hup : s.dramUp = true) (hfree : s.cal.save = none)
    (hwait : bit (nthW ps 0) 0 = false → s.snapWait = 0) (q : Ctx) :
    hCalSave q ps s = (.accepted, s.saveStart (bit (nthW ps 0) 0) (some q.req)) := by
  have hnow : ¬(bit (nthW ps 0) 0 = false ∧ s.snapWait ≠ 0) := fun h => h.2 (hwait h.1)
  rw [hCalSave, if_neg (by simp [hup]), if_neg (by simp [hfree]), if_neg (by simpa using hnow)]

/-! ### The fault table -/

theorem hFaultRead_stored {q : Ctx} (hq : q.opcode = 0xB01) {ps : List Word} {s : State} {ids : List Nat} {d : List Host.Cell}
    (hg : s.gate (7 * bits (nthW ps 1) 27 0) s.emit_.faults.length (bit (nthW ps 0) 1) (bit (nthW ps 0) 0) = .go ids)
    (hd : storeRun (s.emit_.faults.length + 1) s.dram (7 * bits (nthW ps 1) 27 0) (s.emit_.faults.map FaultEntry.word) = (d, none)) :
    hFaultRead q ps s =
      (.done s.emit_.faults.length,
        (s.forced (bit (nthW ps 0) 0) ids).stored (7 * bits (nthW ps 1) 27 0) s.emit_.faults.length d ids) := by
  have himg : s.imageFor q.opcode ps = some ⟨8, 7 * bits (nthW ps 1) 27 0, s.emit_.faults.map FaultEntry.word, bit (nthW ps 0) 1,
      bit (nthW ps 0) 0, .done s.emit_.faults.length, []⟩ := by rw [hq]; rfl
  have hlen : (s.emit_.faults.map FaultEntry.word).length = s.emit_.faults.length := List.length_map _
  rw [hFaultRead, State.writeCmd_go himg (by rw [hlen]; exact hg), State.putImage_good rfl rfl (by rw [hlen]; exact hd)]
  dsimp only
  rw [hlen]

/-! ### Spyholes -/

/-- A subscription names the same source and the same spyhole as the command does (R345). -/
def SpySub.asked (q : SpySub) (src : Source) (w : Word) : Bool :=
  q.addr = src.addr && q.port = src.port && q.all = bit w 35 && (q.all || (q.x = bits w 34 28 && q.y = bits w 27 21))

theorem hSpySub_held {q : Ctx} {ps : List Word} {s : State} (hpeel : s.peelHeld = true)
    (hroom : bits (nthW ps 0) 15 0 = 0
      ∨ (s.enc.subs.filter (fun x => !x.asked q.src (nthW ps 0) && decide (s.now < x.until_))).length < 16) :
    hSpySub q ps s =
      let w := nthW ps 0
      let x : SpySub := ⟨bit w 35, bits w 34 28, bits w 27 21, q.src.addr, q.src.port, s.now + cyclesS (bits w 15 0)⟩
      let l := s.enc.subs.filter (fun x => !x.asked q.src w && decide (s.now < x.until_)) ++ if bits w 15 0 = 0 then [] else [x]
      (.done l.length, { s with enc := { s.enc with subs := l } }) := by
  rw [hSpySub, if_neg (by simp [hpeel])]
  by_cases hd : bits (nthW ps 0) 15 0 = 0
  · simp only [hd, if_true, List.append_nil]
    rfl
  · have hlt := hroom.resolve_left hd
    rw [if_neg hd]
    refine (if_neg (Nat.not_le.2 hlt)).trans ?_
    simp only [hd, if_false]
    rfl

/-- Settles O23: the calibration's commands, the fault table's, and the spyhole subscriptions. -/
theorem calibrationCommandsTakeEffect : Obligations.CalibrationCommandsTakeEffect := by
  refine ⟨completes_of (fun _ _ => rfl) (by decide) fun c h _ _ hp => ?_,
    fun ids d => completes_of (fun _ _ => rfl) (by decide) fun c h _ _ hp => ?_,
    completes_of (fun _ _ => rfl) (by decide) fun c h _ _ hp => ?_,
    completes_of (fun _ _ => rfl) (by decide) fun c h _ _ hp => ?_,
    fun ids d => completes_of (fun _ _ => rfl) (by decide) fun c h _ _ hp => ?_,
    completes_of (fun _ _ => rfl) (by decide) fun c h _ _ _ => ?_,
    completes_of (fun _ _ => rfl) (by decide) fun c h _ _ hp => ?_⟩
  · obtain ⟨hdir, himg, hgood, hsound⟩ := hp
    refine ⟨?_, by simp⟩
    change hLossLoad (c.ctx opCalLossLoad) c.params h = _
    rw [hLossLoad, if_neg (by simp [hdir]), State.lossLoad_sound himg hgood hsound]
  · obtain ⟨hdir, hg, hd⟩ := hp
    exact ⟨hLossLoad_stored (q := c.ctx opCalLossLoad) rfl hdir hg hd, by simp⟩
  · obtain ⟨hen, hf, hentry⟩ := hp
    exact ⟨hCalRun_accepted hen hf hentry (c.ctx opCalRun), by simp⟩
  · obtain ⟨hup, hfree, hwait⟩ := hp
    exact ⟨hCalSave_accepted hup hfree hwait (c.ctx opCalSave), by simp⟩
  · obtain ⟨hg, hd⟩ := hp
    exact ⟨hFaultRead_stored (q := c.ctx opEmitFaultRead) rfl hg hd, by simp⟩
  · exact ⟨rfl, by simp⟩
  · obtain ⟨hpeel, hroom⟩ := hp
    exact ⟨hSpySub_held (q := c.ctx opEncodeSpySub) hpeel hroom, by simp⟩

end Sys2Proof.Machine
end

section
/-! STAMP_GO, STAMP_ABORT, DEFLATE_JOB, DEFLATE_SUPPLY and DEFLATE_ABORT (R484, R486, R491, R493). -/

namespace Sys2Proof.Machine

/-! ### STAMP -/

theorem hStampGo_sound {q : Ctx} {ps : List Word} {s : State} {j : StampJob}
    (hj : j = ⟨(List.range 13).map (fun i => wordOf s.regs (0xC0000 + i)), q.req, false, false, [], []⟩)
    (hforms : j.formsOk s.regs = true) (hsrc : s.operandOk j.src j.w j.h = true) (hdst : s.operandOk j.dst j.w j.h = true)
    (hwhole : j.wholeOk s.regs = true) (hmode : j.wait = false ∨ j.force = false) (hroom : s.eng.stamp.length < 4)
    (hown : ∀ r ∈ j.dst.runs s.regs j.w j.h, s.owned (r.1 / 7) (sectorsOf r.1 r.2) = false) :
    hStampGo q ps s = (.accepted, s.setStamp (s.eng.stamp ++ [j])) := by
  have hboth : (j.wait && j.force) = false := Bool.and_eq_false_iff.2 hmode
  have hfree : (j.dst.runs s.regs j.w j.h).any (fun (r : Nat × Nat) => s.owned (r.1 / 7) (sectorsOf r.1 r.2)) = false := by
    simpa using hown
  unfold hStampGo
  dsimp only
  rw [← hj, if_neg (by simp [hforms, hsrc, hdst, hwhole, hboth]), if_neg (Nat.not_le.2 hroom), if_neg (by simp [hfree])]

/-! ### DEFLATE -/

theorem hDeflateJob_sound {q : Ctx} {ps : List Word} {s : State} {inp : Nat × Nat}
    (hinp : inp = (bits (nthW ps 1) 30 0, bits (nthW ps 2) 31 0)) (hlevel : bits (nthW ps 0) 34 33 ≠ 3)
    (hwin : 8 ≤ bits (nthW ps 0) 30 27) (hn : bits (nthW ps 0) 21 18 ≤ 8) (hlen : ps.length = 5 + 2 * bits (nthW ps 0) 21 18)
    (hin : s.rangeOk inp = true)
    (hbufs : ∀ b ∈ buffersOf ps (bits (nthW ps 0) 21 18), b.2 ≠ 0 ∧ s.rangeOk b = true ∧ s.rangeOwned b = false)
    (hapart : apart (inp :: buffersOf ps (bits (nthW ps 0) 21 18)) = true)
    (hmode : bit (nthW ps 0) 24 = false ∨ bit (nthW ps 0) 23 = false) (hroom : s.eng.deflate.length < 4) :
    hDeflateJob q ps s =
      let num := ((List.range 4).find? (fun n => !(s.eng.deflate.map (fun (x : DefJob) => x.num)).contains n)).getD 0
      let j : DefJob := ⟨num, nthW ps 0, bits (nthW ps 3) 31 0, bits (nthW ps 4) 31 0, [inp], [], bit (nthW ps 0) 17,
        buffersOf ps (bits (nthW ps 0) 21 18), 0, 0, 0, false, [], q.req⟩
      let t := s.setDeflate (s.eng.deflate ++ [j])
      (.accepted num, if s.eng.deflate = [] then t.deflateNext else t) := by
  have hsound : (buffersOf ps (bits (nthW ps 0) 21 18)).any (fun (b : Nat × Nat) => decide (b.2 = 0) || !s.rangeOk b) = false :=
    List.any_eq_false.2 fun b hb => by simp [(hbufs b hb).1, (hbufs b hb).2.1]
  have hfree : (buffersOf ps (bits (nthW ps 0) 21 18)).any s.rangeOwned = false :=
    List.any_eq_false.2 fun b hb => by simp [(hbufs b hb).2.2]
  have hboth : (bit (nthW ps 0) 24 && bit (nthW ps 0) 23) = false := Bool.and_eq_false_iff.2 hmode
  unfold hDeflateJob
  dsimp only
  rw [← hinp, if_neg (by simp only [hsound, hapart, hboth, hin]; simp [hlevel, hlen]; omega), if_neg (Nat.not_le.2 hroom),
    if_neg (by simp [hfree])]
  simp only [List.isEmpty_iff]

/-- The job that a supply names, with the range added (R493). -/
def DefJob.supplied (j : DefJob) (w : Word) (rng : Nat × Nat) : DefJob :=
  { (if bit w 2 then { j with inputs := j.inputs ++ [rng] } else { j with bufs := j.bufs ++ [rng] }) with more := j.more && !bit w 3 }

theorem DefJob.supplied_eq (j : DefJob) (w : Word) (rng : Nat × Nat) :
    { j with inputs := if bit w 2 then j.inputs ++ [rng] else j.inputs
             bufs := if bit w 2 then j.bufs else j.bufs ++ [rng]
             more := j.more && !bit w 3 } = j.supplied w rng := by
  unfold DefJob.supplied
  cases bit w 2 <;> rfl

@[simp] theorem State.setDeflate_hearth (s : State) (l : List DefJob) : (s.setDeflate l).hearth = s.hearth := by
  unfold State.setDeflate State.showDeflate
  dsimp only
  split <;> rfl

/-- The job at the head, named by its number. -/
theorem deflate_head_any (l : List DefJob) (n : Nat) :
    l.head?.any (fun (x : DefJob) => decide (x.num = n)) = decide (l.head?.map (fun (x : DefJob) => x.num) = some n) := by
  cases l <;> simp

theorem hDeflateSupply_sound {ps : List Word} {s : State} {j : DefJob} {rng : Nat × Nat}
    (hrng : rng = (bits (nthW ps 1) 30 0, bits (nthW ps 2) 31 0))
    (hj : s.eng.deflate.find? (fun (x : DefJob) => decide (x.num = bits (nthW ps 0) 1 0)) = some j)
    (hclash : ∀ b ∈ j.inputs ++ j.bufs, rangesMeet rng b = false) (hok : s.rangeOk rng = true)
    (hout : bit (nthW ps 0) 2 = false → j.unused < 8 ∧ rng.2 ≠ 0 ∧ rng.2 ≤ 268435455 ∧ s.rangeOwned rng = false) (q : Ctx) :
    hDeflateSupply q ps s =
      let t := s.setDeflate (s.eng.deflate.map (fun (x : DefJob) => if x.num = j.num then j.supplied (nthW ps 0) rng else x))
      (.done, if (s.eng.deflate.head?.map (fun (x : DefJob) => x.num)) = some j.num
            ∧ ((s.r Reg.DEFLATE_STATUS_STATE = 2 ∧ bit (nthW ps 0) 2 = false)
              ∨ (s.r Reg.DEFLATE_STATUS_STATE = 3 ∧ (bit (nthW ps 0) 2 = true ∨ bit (nthW ps 0) 3 = true))) then
          t.w Reg.DEFLATE_STATUS_STATE (if s.hearth.plan.deferred.contains 8 then 4 else 1)
        else t) := by
  have hmeets : (j.inputs ++ j.bufs).any (rangesMeet rng) = false := List.any_eq_false.2 fun b hb => by simp [hclash b hb]
  have hbad : (!bit (nthW ps 0) 2 && (decide (8 ≤ j.unused) || decide (rng.2 = 0) || decide (268435455 < rng.2))) = false := by
    cases hdir : bit (nthW ps 0) 2 with
    | true => rfl
    | false =>
      obtain ⟨hroom, hne, hle, -⟩ := hout hdir
      simp [hne, Nat.not_le.2 hroom, Nat.not_lt.2 hle]
  have hdenied : (!bit (nthW ps 0) 2 && s.rangeOwned rng) = false := by
    cases hdir : bit (nthW ps 0) 2 with
    | true => rfl
    | false => exact (hout hdir).2.2.2
  subst hrng
  unfold hDeflateSupply
  dsimp only
  rw [hj]
  dsimp only
  rw [if_neg (by simp only [hmeets, hok]; simpa using hbad), if_neg (by simp [hdenied]), DefJob.supplied_eq, deflate_head_any]
  simp only [Bool.and_eq_true, Bool.or_eq_true, decide_eq_true_eq, Bool.not_eq_true', State.setDeflate_hearth]

theorem hDeflateAbort_named {ps : List Word} {s : State} {j : DefJob}
    (hj : s.eng.deflate.find? (fun (x : DefJob) => decide (x.num = bits (nthW ps 0) 1 0)) = some j) (q : Ctx) :
    hDeflateAbort q ps s =
      let head := s.eng.deflate.head?.any (fun (x : DefJob) => decide (x.num = j.num))
      let l := if head then s.fire.waitQ.filter (fun q => q.opcode ≠ 0xD01) else s.fire.waitQ
      let t := { s with fire := { s.fire with waitQ := l } }.w Reg.KILN_WRITE_QUEUE_QUEUED (waitWrites l)
      let at_ := if head then t.r Reg.DEFLATE_IN_IN_DONE else 0
      (.done, (t.defFault j 0x11 at_ at_).writesDue) := by
  unfold hDeflateAbort
  rw [hj]

/-- Settles O24. That an aborted job leaves nothing of its running part written is the model's choice (assumption log 78), as is the
lowest free number for a DEFLATE job. -/
theorem engineCommandsTakeEffect : Obligations.EngineCommandsTakeEffect := by
  refine ⟨completes_of (fun _ _ => rfl) (by decide) fun c h _ _ hp => ?_,
    completes_of (fun _ _ => rfl) (by decide) fun c h _ _ _ => ?_,
    completes_of (fun _ _ => rfl) (by decide) fun c h _ _ hp => ?_,
    fun j => completes_of (fun _ _ => rfl) (by decide) fun c h _ _ hp => ?_,
    fun j => completes_of (fun _ _ => rfl) (by decide) fun c h _ _ hp => ?_⟩
  · obtain ⟨hforms, hsrc, hdst, hwhole, hmode, hroom, hown⟩ := hp
    exact ⟨hStampGo_sound (q := c.ctx opStampGo) (ps := c.params) rfl hforms hsrc hdst hwhole hmode hroom hown, by simp⟩
  · exact ⟨rfl, by simp⟩
  · obtain ⟨hlevel, hwin, hn, hlen, hin, hbufs, hapart, hmode, hroom⟩ := hp
    exact ⟨hDeflateJob_sound (q := c.ctx opDeflateJob) rfl hlevel hwin hn hlen hin hbufs hapart hmode hroom, by simp⟩
  · obtain ⟨hj, hclash, hok, hout⟩ := hp
    exact ⟨hDeflateSupply_sound rfl hj hclash hok hout (c.ctx opDeflateSupply), by simp⟩
  · exact ⟨hDeflateAbort_named hp (c.ctx opDeflateAbort), by simp⟩

end Sys2Proof.Machine
end

section
/-! The causes of a reset (R400, R404, R499, R509–R511, R519, R526, R527). -/

namespace Sys2Proof.Machine

/-- A full soft reset that is due resets the device (R511). -/
theorem State.softDue_full {s : State} {k : Nat} (hsoft : s.start.soft = some (0x3FFF, k)) (hticked : s.time.ticked = true)
    (hdue : k ≤ s.time.last) :
    s.softDue = { s.deviceReset 4 with start := { (s.deviceReset 4).start with softOut := 0x3FFF } } := by
  unfold State.softDue
  simp only [hsoft]
  rw [if_neg (by simp [hticked, hdue]), if_pos trivial]

/-- A soft reset of some blocks that is due resets these (R511). -/
theorem State.softDue_some {s : State} {m k : Nat} (hsoft : s.start.soft = some (m, k)) (hm : m ≠ 0x3FFF)
    (hticked : s.time.ticked = true) (hdue : k ≤ s.time.last) :
    s.softDue = { s with start := { s.start with soft := none } }.partialReset m := by
  unfold State.softDue
  simp only [hsoft]
  rw [if_neg (by simp [hticked, hdue]), if_neg hm]

/-- Settles O25. That DRAM reads as never written after the die comparator and after VDD_AON is lost is the model's choice (assumption
logs 4 and 49). -/
theorem resetRowsTakeEffect : Obligations.ResetRowsTakeEffect := by
  refine ⟨fun s _ => rfl, fun s _ => rfl, fun s hp => ?_, fun s hp => ?_, fun rail hr s hp => ?_, fun rail dt hr s hp => ?_,
    fun rail dt hr s hp => ?_, fun dt s hp => ?_, fun s hp => ?_, fun dt s hp => ?_, fun k s hp => ?_, fun m k hm s hp => ?_⟩
  · change execRstNAssert s = _
    rw [execRstNAssert, if_neg (by simp [hp])]
    rfl
  · obtain ⟨hpow, hheld, hfell⟩ := hp
    change execRstNRelease s = _
    rw [execRstNRelease, if_neg (by simp [hpow, hheld, hfell])]
    simp only [State.begin_, State.pass_start, State.pass_pins, State.pass_now, hfell, Nat.add_zero]
  · obtain ⟨hpow, hgood⟩ := hp
    change execPgoodFall rail s = _
    rw [execPgoodFall, if_neg (Nat.not_le.2 hr), if_neg (by rw [State.pass_pins, hgood]; simp [hpow])]
    rfl
  · obtain ⟨hpow, hfell, hall, hrst⟩ := hp
    change execPgoodRise rail dt s = _
    rw [execPgoodRise, if_neg (Nat.not_le.2 hr), if_neg (by simp [hpow]), if_pos (by simpa using hfell),
      if_pos (by simp only [State.pass_pins, hall, hrst]; rfl)]
    rfl
  · obtain ⟨hpow, hfell, hstage, hheld⟩ := hp
    change execPgoodRise rail dt s = _
    rw [execPgoodRise, if_neg (by omega), if_neg (by simp [hpow]), if_neg (by simp [hfell]),
      if_pos (by simp [hr, hheld]; exact decide_eq_true hstage)]
    rfl
  · obtain ⟨hpow, hshut, hcold⟩ := hp
    change execDieComparatorTrip dt s = _
    rw [execDieComparatorTrip, if_neg (by simp [hpow, hshut, hcold])]
    rfl
  · change execDieShutdownRestart s = _
    rw [execDieShutdownRestart, if_neg (by simp [hp]), cyclesS, Nat.mul_one]
  · change execWatchdogExpiry dt s = _
    rw [execWatchdogExpiry, if_pos hp]
  · obtain ⟨hsoft, hticked, hdue⟩ := hp
    change execSoftResetExecute s = _
    rw [execSoftResetExecute, State.softDue_full (s := s.pass 0) hsoft hticked hdue]
  · obtain ⟨hsoft, hticked, hdue⟩ := hp
    change execSoftResetExecute s = _
    rw [execSoftResetExecute, State.softDue_some (s := s.pass 0) hsoft hm hticked hdue]
    rfl

end Sys2Proof.Machine
end

section
/-! What a reset of the device leaves (R509, R519): the registers of its stage, and everything that the settling of the power domains
after it does not reach. -/

namespace Sys2Proof.Machine

/-! ### The word of the stage (R501) -/

/-- MGMT_STAGE as a reset leaves it: greenware, its cause, no MP and no DRAM. -/
def greenware (c : Nat) (r : RegFile) : Prop :=
  rget r Reg.MGMT_STAGE_STAGE 0 = 0 ∧ rget r Reg.MGMT_STAGE_CAUSE 0 = c ∧ rget r Reg.MGMT_STAGE_MP 0 = 0
    ∧ rget r Reg.MGMT_STAGE_DRAM 0 = 0

/-- A field of another word is no part of it. -/
theorem greenware_rset {c : Nat} {r : RegFile} (h : greenware c r) {f : Fld} (hlo : f.lo < 64) {i : Nat} (hat : f.at i ≠ 0x20)
    (v : Nat) : greenware c (rset r f i v) := by
  have hne : ∀ g : Fld, g.lo < 64 → g.at 0 = 0x20 → rget (rset r f i v) g 0 = rget r g 0 := fun g hg ha =>
    rget_rset_other _ _ _ _ _ _ (key_ne_of_at hlo hg (by rw [ha]; exact Ne.symm hat))
  obtain ⟨hstage, hcause, hmp, hdram⟩ := h
  exact ⟨(hne _ (by decide) rfl).trans hstage, (hne _ (by decide) rfl).trans hcause, (hne _ (by decide) rfl).trans hmp,
    (hne _ (by decide) rfl).trans hdram⟩

/-- A field that lies after the word, as its elements do. -/
def Fld.afterStage (f : Fld) : Bool := 0x20 < f.addr && f.lo < 64

theorem greenware_rset_after {c : Nat} {r : RegFile} (h : greenware c r) {f : Fld} (hf : f.afterStage = true) (i v : Nat) :
    greenware c (rset r f i v) := by
  simp only [Fld.afterStage, Bool.and_eq_true, decide_eq_true_eq] at hf
  refine greenware_rset h hf.2 (fun hat => ?_) v
  have hle : f.addr ≤ f.at i := Nat.le_add_right _ _
  omega

theorem greenware_rsets {c : Nat} : ∀ (l : List (Fld × Nat × Nat)) {r : RegFile}, greenware c r →
    (∀ p ∈ l, p.1.afterStage = true) → greenware c (rsets r l)
  | [], _, h, _ => h
  | p :: t, _, h, hl => greenware_rsets t (greenware_rset_after h (hl p List.mem_cons_self) _ _) fun q hq =>
      hl q (List.mem_cons_of_mem _ hq)

/-! ### Fields that fall back to their reset values (R8, R9) -/

theorem sfind_filter_key {α : Type} (K : Nat → Bool) (k : Nat) : ∀ l : List (Nat × α),
    sfind (l.filter (fun p => K p.1)) k = if K k then sfind l k else none
  | [] => by simp
  | p :: t => by
    rw [List.filter_cons]
    by_cases hp : p.1 = k
    · subst hp
      cases hK : K p.1 with
      | true => simp [sfind]
      | false => simp [sfind_filter_key K p.1 t, hK]
    · cases K p.1 with
      | true => simp [sfind, hp, sfind_filter_key K k t]
      | false => simp [sfind, hp, sfind_filter_key K k t]

/-- Field `f`, at address `a`, loses its value with the classes `cs` of the blocks `bs`. -/
def Fld.lost (f : Fld) (a : Nat) (bs : List Nat) (cs : List Keep) : Bool :=
  bs.contains (a / 65536) && (fieldsAt a).any (fun q => q.1.lo = f.lo && cs.contains q.1.keep)

theorem rget_loseClasses (r : RegFile) (bs : List Nat) (cs : List Keep) {f : Fld} (hlo : f.lo < 64) (i : Nat) :
    rget (loseClasses r bs cs) f i = if f.lost (f.at i) bs cs then f.rst i % 2 ^ f.width else rget r f i := by
  have hdiv : f.key i / 64 = f.at i := by simp only [Fld.key, fieldKey]; omega
  have hmod : f.key i % 64 = f.lo := by simp only [Fld.key, fieldKey]; omega
  have hfind := sfind_filter_key (α := Nat) (fun k => !(bs.contains (k / 64 / 65536) &&
    (fieldsAt (k / 64)).any (fun q => q.1.lo = k % 64 && cs.contains q.1.keep))) (f.key i) r
  rw [hdiv, hmod] at hfind
  have hread : rget (loseClasses r bs cs) f i =
      (if (!f.lost (f.at i) bs cs) = true then sfind r (f.key i) else none).getD (f.rst i) % 2 ^ f.width :=
    congrArg (fun (o : Option Nat) => o.getD (f.rst i) % 2 ^ f.width) hfind
  rw [hread]
  cases f.lost (f.at i) bs cs <;> rfl

/-- The word stays as it is where fields of class V alone are lost: its cause is of class K, and the others are at their reset values. -/
theorem greenware_loseV {c : Nat} {r : RegFile} (h : greenware c r) (bs : List Nat) : greenware c (loseClasses r bs [.V]) := by
  have hcause : Reg.MGMT_STAGE_CAUSE.lost (Reg.MGMT_STAGE_CAUSE.at 0) bs [.V] = false := by
    rw [Fld.lost, Bool.and_eq_false_iff]
    exact .inr (by decide)
  obtain ⟨hs, hc, hm, hd⟩ := h
  refine ⟨?_, ?_, ?_, ?_⟩
  · rw [rget_loseClasses _ _ _ (by decide), hs]
    exact ite_self _
  · rw [rget_loseClasses _ _ _ (by decide), hcause]
    exact hc
  · rw [rget_loseClasses _ _ _ (by decide), hm]
    exact ite_self _
  · rw [rget_loseClasses _ _ _ (by decide), hd]
    exact ite_self _

/-! ### What settles after a reset -/

/-- The parts of the state that no power domain, port or lane changes. -/
def State.lasting (s : State) : Nat × Pins × TimeState × FireState × EngState × BakeState × List Instr × SecState :=
  (s.now, s.pins, s.time, s.fire, s.eng, s.bake, s.pending, { s.sec with links := [] })

/-- From `s` to `t` the stage's word stays the one that a reset left, and so do the lasting parts. -/
def State.Settles (s t : State) : Prop := (∀ c, greenware c s.regs → greenware c t.regs) ∧ t.lasting = s.lasting

namespace State.Settles

theorem refl (s : State) : s.Settles s := ⟨fun _ h => h, rfl⟩

theorem trans {s t u : State} (h : s.Settles t) (h' : t.Settles u) : s.Settles u := ⟨fun c hc => h'.1 c (h.1 c hc), h'.2.trans h.2⟩

/-- A change of the parts that neither speaks of. -/
theorem of_eq {s t u : State} (h : s.Settles t) (hr : u.regs = t.regs) (hl : u.lasting = t.lasting) : s.Settles u :=
  ⟨fun c hc => hr ▸ h.1 c hc, hl.trans h.2⟩

theorem ite {s t u : State} {p : Prop} [Decidable p] (ht : s.Settles t) (hu : s.Settles u) : s.Settles (if p then t else u) := by
  split
  · exact ht
  · exact hu

theorem foldl {β : Type} {f : State → β → State} (h : ∀ (s : State) (x : β), s.Settles (f s x)) : ∀ (l : List β) (s : State),
    s.Settles (l.foldl f s)
  | [], s => refl s
  | x :: t, s => (h s x).trans (foldl h t _)

theorem w (s : State) {f : Fld} (hf : f.afterStage = true) (v i : Nat) : s.Settles (s.w f v i) :=
  ⟨fun _ h => greenware_rset_after h hf i v, rfl⟩

theorem w_off (s : State) {f : Fld} (hlo : f.lo < 64) {i : Nat} (hat : f.at i ≠ 0x20) (v : Nat) : s.Settles (s.w f v i) :=
  ⟨fun _ h => greenware_rset h hlo hat v, rfl⟩

theorem ws (s : State) {l : List (Fld × Nat × Nat)} (hl : ∀ p ∈ l, p.1.afterStage = true) : s.Settles (s.ws l) :=
  ⟨fun _ h => greenware_rsets l h hl, rfl⟩

theorem count (s : State) {f : Fld} (hf : f.afterStage = true) (i n : Nat) : s.Settles (s.count f i n) :=
  ⟨fun _ h => greenware_rset_after h hf i _, rfl⟩

theorem raise (s : State) {e : Nat} (he : e < 1024) (d : Nat) : s.Settles (s.raise e d) := by
  refine ⟨fun c h => ?_, rfl⟩
  have hkeep : ∀ f : Fld, evtKey (f.key 0) = false → rget (s.raise e d).regs f 0 = rget s.regs f 0 :=
    fun f hf => s.raise_other e d f 0 he hf
  obtain ⟨hs, hc, hm, hd⟩ := h
  exact ⟨(hkeep _ (by decide)).trans hs, (hkeep _ (by decide)).trans hc, (hkeep _ (by decide)).trans hm, (hkeep _ (by decide)).trans hd⟩

theorem raiseIf (s : State) (b : Bool) {e : Nat} (he : e < 1024) (d : Nat) : s.Settles (s.raiseIf b e d) := by
  cases b
  · exact refl s
  · exact raise s he d

theorem raiseTick (s : State) {e : Nat} (he : e < 1024) (i d : Nat) : s.Settles (s.raiseTick e i d) := by
  unfold State.raiseTick
  split
  · exact refl s
  · have h : s.Settles { s with evt := { s.evt with once := (64 * e + i) :: s.evt.once } } := of_eq (refl s) rfl rfl
    exact h.trans (raise _ he d)

/-! ### Ports (R234, R271) -/

theorem setPort (s : State) (p : Nat) (v : Port) : s.Settles (s.setPort p v) := of_eq (refl s) rfl rfl

theorem freeWords (s : State) (p vc n : Nat) : s.Settles (s.freeWords p vc n) := setPort s p _

theorem leftQueue (s : State) (l : List Queued) : s.Settles (s.leftQueue l) := by
  refine foldl (fun s q => ?_) l s
  split
  · exact ite (refl s) (freeWords s _ _ _)
  · exact refl s

theorem forward (s : State) (p : Nat) (ports : List Nat) (ws : List Word) (stomp : Bool) : s.Settles (s.forward p ports ws stomp) := by
  unfold State.forward
  extract_lets h0 h1 out id link
  have hnext : s.Settles { s with link := { link with bufNext := id + 1 } } := of_eq (refl s) rfl rfl
  exact ite (freeWords s _ _ _) (ite ((raise s (by decide) _).trans (freeWords _ _ _ _))
    (hnext.trans (foldl (fun s k => setPort s k _) _ _)))

theorem choose (s : State) (pri alt : Nat) : s.Settles (s.choose pri alt).2 := by
  unfold State.choose
  split
  · exact refl s
  · split
    · exact ite (refl s) ((setPort s _ _).trans (raise _ (by decide) _))
    · exact raise s (by decide) _

theorem onward (s : State) (h0 h1 : Word) (q : Nat) (census : Bool) : s.Settles (s.onward h0 h1 q census).2 := by
  unfold State.onward
  split
  · exact refl s
  · split
    · exact refl s
    · split
      · split
        · dsimp only
          split
          · exact refl s
          · exact raise s (by decide) _
        · exact refl s
      · split
        · split
          · exact refl s
          · exact choose s _ _
        · exact choose s _ _
        · exact raiseIf s _ (by decide) _

theorem relay (s : State) (p : Nat) (ws : List Word) (stomp : Bool) : s.Settles (s.relay p ws stomp).2 := by
  unfold State.relay
  dsimp only
  split
  · exact forward s _ _ _ _
  · refine trans ?_ (forward _ _ _ _ _)
    split
    · exact refl s
    · exact onward s _ _ _ _

theorem discard (s : State) (p : Nat) (ws : List Word) : s.Settles (s.discard p ws) := by
  unfold State.discard
  refine ((count s (by decide) p 1).trans (raiseTick _ (by decide) p p)).trans (ite (freeWords _ _ _ _) (relay _ _ _ _))

theorem portDown (s : State) (p : Nat) : s.Settles (s.portDown p) := by
  unfold State.portDown
  extract_lets was words s1 old s2 reset s3 own link4 s4 s5 s6 sec7 link7 mgr7 s7
  have h1 : s.Settles s1 := ite (discard s _ _) (refl s)
  clear_value s1
  have h2 : s1.Settles s2 := ite (refl s1) (of_eq (refl s1) rfl rfl)
  clear_value s2
  have h3 : s2.Settles s3 := setPort s2 _ _
  clear_value s3
  have h4 : s3.Settles s4 := of_eq (refl s3) rfl rfl
  clear_value s4
  have h5 : s4.Settles s5 := leftQueue s4 _
  clear_value s5
  have h6 : s5.Settles s6 := ws s5 (by
    simp only [List.forall_mem_cons]
    exact ⟨rfl, rfl, rfl, rfl, rfl, rfl, rfl, rfl, nofun⟩)
  clear_value s6
  have h7 : s6.Settles s7 := of_eq (refl s6) rfl rfl
  exact (((((((h1.trans h2).trans h3).trans h4).trans h5).trans h6).trans h7).trans (raiseIf s7 _ (by decide) _))

/-! ### Lanes and domains (R271, R397, R398) -/

theorem emit (s : State) (k : OutKind) (dst : List Nat) (ws : List Word) : s.Settles (s.emit k dst ws) := of_eq (refl s) rfl rfl

theorem driveBlank (s : State) : s.Settles s.driveBlank := by
  unfold State.driveBlank
  extract_lets b blank
  have hblank : s.Settles { s with emit_ := { blank with blank := b } } := of_eq (refl s) rfl rfl
  exact ite (refl s) (hblank.trans (foldl (fun s _ => emit s _ _ _) _ _))

theorem driveAux (s : State) : s.Settles s.driveAux := foldl (fun s _ => emit s _ _ _) _ s

theorem laneEvent (s : State) {e : Nat} (he : e < 1024) (l d : Nat) : s.Settles (s.laneEvent e l d) :=
  (ws s (by simp only [List.forall_mem_cons]; exact ⟨rfl, rfl, nofun⟩)).trans (raise _ he d)

theorem eyeStop (s : State) (l : Nat) : s.Settles (s.eyeStop l) := by
  unfold State.eyeStop
  split
  · refine ite ?_ (refl s)
    have heye : s.Settles { s with lane := { s.lane with eye := none } } := of_eq (refl s) rfl rfl
    exact (heye.trans (ws _ (by simp only [List.forall_mem_cons]; exact ⟨rfl, rfl, rfl, nofun⟩))).trans
      (laneEvent _ (by decide) l l)
  · exact refl s

theorem laneLost (s : State) (l st : Nat) : s.Settles (s.laneLost l st) := by
  unfold State.laneLost
  refine ite (w s rfl st l) ?_
  have hlost := (((w s (f := Reg.LINK_LANE_W1_STATE) rfl st l).trans (count _ (f := Reg.LINK_LANE_W2_LOST) rfl l 1)).trans
    (laneEvent _ (e := 369) (by decide) l l)).trans (eyeStop _ l)
  exact ite (hlost.trans (portDown _ _)) hlost

theorem laneStop (s : State) (l : Nat) : s.Settles (s.laneStop l) := by
  have hlost : s.Settles ((s.laneLost l 0).setLane l LaneX.reset) := of_eq (laneLost s l 0) rfl rfl
  exact ite (refl s) (ite hlost (hlost.trans (driveBlank _)))

theorem setDomain (s : State) (d v : Nat) : s.Settles (s.setDomain d v) := by
  unfold State.setDomain
  extract_lets down hearth
  have hdown : s.Settles down := of_eq (refl s) rfl rfl
  exact ite (refl s) (of_eq (hdown.trans (w down (f := Reg.HEARTH_DOMAIN_STATE) rfl v d)) rfl rfl)

/-- The fields that a domain's going off clears are no part of the stage's word. -/
theorem domainFields_afterStage (d : Nat) : ∀ p ∈ (domainFields d).map (fun p => (p.1, p.2, 0)), p.1.afterStage = true := by
  unfold domainFields
  dsimp only
  split
  · simp only [List.map_cons, List.map_nil, List.forall_mem_cons]
    exact ⟨rfl, rfl, rfl, rfl, rfl, nofun⟩
  · split
    · simp only [List.map_cons, List.map_nil, List.forall_mem_cons]
      exact ⟨rfl, rfl, rfl, rfl, rfl, rfl, nofun⟩
    · split
      · simp only [List.map_cons, List.map_nil, List.forall_mem_cons]
        exact ⟨rfl, rfl, rfl, nofun⟩
      · exact nofun

theorem domainOff (s : State) (d : Nat) : s.Settles (s.domainOff d) := by
  unfold State.domainOff
  extract_lets s1 hearth s2 s3
  have h1 : s.Settles s1 := setDomain s d 0
  have h2 : s1.Settles s2 := of_eq (refl s1) rfl rfl
  have h3 : s2.Settles s3 := (foldl laneStop _ s2).trans (ws _ (domainFields_afterStage d))
  have h : s.Settles s3 := (h1.trans h2).trans h3
  clear_value s3
  refine ite (refl s) ?_
  split
  · exact ite (h.trans ⟨fun _ hg => greenware_loseV hg _, rfl⟩) h
  · exact h

theorem settleDomains (s : State) : s.Settles s.settleDomains := by
  unfold State.settleDomains
  refine ((foldl (fun s d => ite (refl s) (ite (refl s) (domainOff s d))) _ s).trans (setDomain _ 0 2)).trans
    (foldl (fun s d => ite (refl s) (ite (setDomain s d 3) (ite (refl s) ?_))) _ _)
  extract_lets s1 hearth
  exact of_eq (setDomain s d 1) rfl rfl

theorem showOtp (s : State) : s.Settles s.showOtp :=
  ws s (by simp only [List.forall_mem_cons]; exact ⟨rfl, rfl, rfl, rfl, nofun⟩)

theorem ambReset (s : State) : s.Settles s.ambReset := by
  unfold State.ambReset State.setAf
  extract_lets cal1 cal2
  have h1 : s.Settles { s with cal := { cal1 with af := 256 * s.ambient } } := of_eq (refl s) rfl rfl
  exact of_eq (h1.trans (w _ (f := Reg.CAL_AMB_STATUS_AF) rfl _ 0)) rfl rfl

end State.Settles

/-! ### A reset of the device -/

/-- What the fields kept are read from does not matter to a field that is not among them. -/
theorem rget_keepFields_other (old : RegFile) {g : Fld} (hg : g.lo < 64) (j : Nat) : ∀ (l : List (Fld × Nat)) (new : RegFile),
    (∀ p ∈ l, p.1.lo < 64 ∧ p.1.at p.2 ≠ g.at j) → rget (keepFields old new l) g j = rget new g j
  | [], _, _ => rfl
  | p :: t, new, h => by
    obtain ⟨hlo, hat⟩ := h p List.mem_cons_self
    have ih := rget_keepFields_other old hg j t (rset new p.1 p.2 (rget old p.1 p.2)) fun q hq => h q (List.mem_cons_of_mem _ hq)
    exact ih.trans (rget_rset_other _ _ _ _ _ _ (key_ne_of_at hlo hg (Ne.symm hat)))

/-- No field that outlives a reset (R13, R520) lies in the stage's word. -/
theorem keptFields_off_stage : ∀ p ∈ strapFields ++ meshFields, p.1.lo < 64 ∧ p.1.at p.2 ≠ 0x20 := by decide

theorem rget_resetRegs_stage (c : Nat) (r : RegFile) {f : Fld}
    (hf : f = Reg.MGMT_STAGE_STAGE ∨ f = Reg.MGMT_STAGE_MP ∨ f = Reg.MGMT_STAGE_DRAM) : rget (resetRegs c r) f 0 = 0 := by
  have hat : f.lo < 64 ∧ f.at 0 = 0x20 := by rcases hf with rfl | rfl | rfl <;> exact ⟨by decide, rfl⟩
  have hlost : ∀ b : Bool, f.lost 0x20 allBlocks ([.S, .V, .N] ++ if b then [.W] else []) = true := by
    rcases hf with rfl | rfl | rfl <;> decide
  have hkept : ∀ p ∈ strapFields ++ (if keepsPorts c then meshFields else []), p.1.lo < 64 ∧ p.1.at p.2 ≠ f.at 0 := by
    intro p hp
    rw [hat.2]
    refine keptFields_off_stage p ?_
    rcases List.mem_append.1 hp with hp | hp
    · exact List.mem_append_left _ hp
    · split at hp
      · exact List.mem_append_right _ hp
      · exact absurd hp nofun
  rw [resetRegs, rget_keepFields_other _ hat.1 0 _ _ hkept, rget_loseClasses _ _ _ hat.1, hat.2, hlost, if_pos rfl]
  rcases hf with rfl | rfl | rfl <;> rfl

/-- The register file of a reset, with its cause. -/
theorem greenware_resetRegs {c : Nat} (hc : c < 8) (r : RegFile) :
    greenware c (rset (resetRegs c r) Reg.MGMT_STAGE_CAUSE 0 c) := by
  have hother : ∀ f : Fld, f = Reg.MGMT_STAGE_STAGE ∨ f = Reg.MGMT_STAGE_MP ∨ f = Reg.MGMT_STAGE_DRAM →
      f.key 0 ≠ Reg.MGMT_STAGE_CAUSE.key 0 → rget (rset (resetRegs c r) Reg.MGMT_STAGE_CAUSE 0 c) f 0 = 0 := fun f hf hk =>
    (rget_rset_other _ _ _ _ _ _ hk).trans (rget_resetRegs_stage c r hf)
  refine ⟨hother _ (.inl rfl) (by decide), ?_, hother _ (.inr (.inl rfl)) (by decide), hother _ (.inr (.inr rfl)) (by decide)⟩
  rw [rget_rset_same]
  show c % 16 = c
  omega

/-- A reset leaves a state with the registers that resetRegs gives and its cause in MGMT_STAGE; what follows only settles it. -/
theorem State.deviceReset_settles (s : State) (c : Nat) : ∃ b : State,
    b.regs = rset (resetRegs c s.regs) Reg.MGMT_STAGE_CAUSE 0 c
    ∧ b.lasting = (s.now, { s.pins with alive := false, aonBlank := true, dramReset := true }, TimeState.reset, FireState.reset,
        EngState.reset, BakeState.reset, s.pending,
        { s.sec with
          eph := none, staging := none, bootEvents := [], censusAt := none, trialGlost := 0, hosts := SecState.reset.hosts
          links := [], pathsOff := s.sec.pathsOff && c ≠ 0 })
    ∧ (s.deviceReset c).mems = ([], s.flash) ∧ b.Settles (s.deviceReset c) := by
  obtain ⟨t, ht⟩ : ∃ t, t = s.deviceReset c := ⟨_, rfl⟩
  have hmems : (s.deviceReset c).mems = ([], s.flash) := by
    unfold State.deviceReset
    simp [State.reset]
  rw [← ht] at hmems ⊢
  unfold State.deviceReset at ht
  extract_lets ports was wdt blank pins evt start sec lane link cal emitters base counted watched shown at ht
  have hwatch : (base.w Reg.MGMT_STAGE_CAUSE c).Settles watched :=
    .trans (.count _ (f := Reg.MGMT_RESET_RESETS) rfl 0 _) (.count _ (f := Reg.MGMT_RESET_WATCHDOGS) rfl 0 _)
  have hshown : watched.Settles shown :=
    .trans (.trans (.showOtp _) (.w_off _ (f := Reg.MGMT_STRAPS_CLAIM) (by decide) (i := 0) (by decide) _)) (.ambReset _)
  have hend : shown.Settles t := ht ▸ .trans (.trans (.trans (.raiseIf _ _ (by decide) _) (.driveBlank _)) (.driveAux _)) (.settleDomains _)
  exact ⟨base.w Reg.MGMT_STAGE_CAUSE c, rfl, rfl, hmems, (hwatch.trans hshown).trans hend⟩

/-- Settles O26. That DRAM then lists nothing is the model's choice (assumption log 4): R519 says only that nobody relies on its content. -/
theorem deviceResetKeeps : Obligations.DeviceResetKeeps := by
  intro s c hc
  obtain ⟨b, hregs, hlasting, hmems, hsettles⟩ := s.deviceReset_settles c
  generalize s.deviceReset c = t at hmems hsettles ⊢
  obtain ⟨hstage, hcause, hmp, hdram⟩ := hsettles.1 c (hregs ▸ greenware_resetRegs hc s.regs)
  have hlast := hsettles.2.trans hlasting
  simp only [State.lasting, Prod.mk.injEq] at hlast
  simp only [State.mems, Prod.mk.injEq] at hmems
  obtain ⟨hnow, hpins, htime, hfire, heng, hbake, hpending, hsec⟩ := hlast
  exact ⟨hstage, hcause, by simp [State.mp, State.rb, hmp], by simp [State.dramUp, State.rb, hdram], hmems.1, hmems.2, hnow, hpending,
    congrArg (·.slots) hsec, congrArg (·.revoked) hsec, congrArg (·.svnBits) hsec, congrArg (·.store) hsec, congrArg (·.boot) hsec,
    congrArg (·.hosts) hsec, congrArg (·.eph) hsec, congrArg (·.frames) hfire, congrArg (·.stamp) heng, congrArg (·.deflate) heng, hbake,
    congrArg (·.aonBlank) hpins, congrArg (·.dramReset) hpins, congrArg (·.ticked) htime⟩

end Sys2Proof.Machine
end

section
/-! The rows of the start-up timeline (R13, R474, R499–R504, R302) and the ends of flash writes (R475, R476, R508, R537). -/

namespace Sys2Proof.Machine

/-! ### The start -/

theorem execStrapSample_due {s : State} (halive : s.alive = true) (hnot : s.start.sampled = false) (hrails : s.railsUp 1 = true)
    (role board : Nat) (claim : Bool) :
    execStrapSample role board claim true s =
      let t := s.gotoNow (s.start.began + 200000)
      let t := { t with pins := { t.pins with role := role % 4, board := board % 16, claim := claim }
                        start := { t.start with sampled := true } }
      .next (((t.ws [(Reg.MGMT_STRAPS_ROLE, 0, role), (Reg.MGMT_STRAPS_BOARD_TYPE, 0, board),
        (Reg.MGMT_STRAPS_CLAIM, 0, b2n claim)]).readLaneTable).settleDomains) := by
  have hus : cyclesUs 2000 = 200000 := by norm_num [cyclesUs]
  rw [execStrapSample, if_neg (by simp [halive, hnot, hrails]), hus]
  simp only [if_true]

theorem execMpRunning_booted {s : State} (halive : s.alive = true) (hmp : s.mp = false) (hboot : s.start.bootOk = true)
    (hstage : s.stage ≠ 0) (dt : Nat) :
    execMpRunning dt s =
      let t := s.pass dt
      let p := logNext s.flash
      let t := { t with start := { t.start with mpAt := t.now }, evt := { t.evt with logPlace := p.1 } }
      let t := (t.w Reg.MGMT_STAGE_MP 1).w Reg.MGMT_LOG_0132_LSEQ p.2
      let t := ((t.raise 34 0).raise 37 (t.r Reg.MGMT_STAGE_CAUSE)).raises (s.sec.bootEvents.map (fun e => (e, 0)))
      let t := (t.raiseIf s.start.woke 38 (t.r Reg.MGMT_POWER_WAKE_SRC)).raiseIf s.start.dieStart 153 0
      .next { t with start := { t.start with woke := false, dieStart := false }, sec := { t.sec with bootEvents := [] } }.settleDomains := by
  rw [execMpRunning, if_neg (by simp [halive, hmp, hboot, hstage])]
  simp only [State.raise_sec, State.w_sec, State.pass_sec_bootEvents, State.raises_start, State.raise_start, State.w_start,
    State.pass_start, State.raiseIf_start, State.pass_flash]

/-! ### The ends of flash writes -/

/-- What a BISQUE_WRITE is refused for (R508): a bisque image that does not verify, or a lane table that is not sound or has no room. -/
def State.bisWriteError (s : State) (part : Nat) (ws : List Word) (at_ : Nat) : Option Nat :=
  if part = 0 then
    match s.bisqueError ws with
    | some e => some e
    | none => if laneDigestOk s.flash ws then none else some 2
  else if laneTableOk ws = false then some 1 else if at_ + 2394 ≤ 0x100000 then none else some 6

/-- The end of a flash write from a stretch of DRAM that can be read (R508). -/
theorem execBisqueWriteDone_readable {s : State} {part sector n : Nat} {q : Req}
    (hw : s.start.bisWrite = some (part, sector, n, q)) (hgood : firstBad s.dram (7 * sector) n = none) (fail : Option Nat) :
    execBisqueWriteDone fail s = .next (
      let t := (s.pass 0).wakeChannels (7 * sector) n
      let ws := dramWords s.dram (7 * sector) n
      let at_ := if part = 0 then 0 else (nthW (flashWords s.flash 0 4) 2).toNat
      let bytes := cdiv (9 * n) 2
      match t.bisWriteError part ws at_ with
      | some e => (if part = 0 then t.bisqueSig (t.bisWriteError part ws at_) else t).bisWriteEnd q (.denied e)
      | none =>
        let base := at_ / 4096 * 4096
        let len := 4096 * cdiv (at_ % 4096 + bytes) 4096
        let front := flashBytes s.flash base (at_ - base)
        let back := flashBytes s.flash (at_ + bytes) (base + len - at_ - bytes)
        let erased := flashErase s.flash base len
        match fail with
        | some o => { t with flash := erased }.bisWriteEnd q (.fault o)
        | none => ({ t with flash := flashWrite erased base (front ++ (packBytes ws).take bytes ++ back) }.bisWriteEnd q .done).raise 40 0) := by
  have hread := State.readWords_good (s := s.pass 0) (req := 8) (a := 7 * sector) (n := n) hgood
  unfold execBisqueWriteDone State.bisWriteError
  dsimp only
  rw [State.pass_start, hw]
  dsimp only
  rw [hread]
  by_cases hp : part = 0
  · subst hp
    simp only [if_true, State.wakeChannels_flash, State.pass_flash, State.pass_dram]
    cases ((s.pass 0).wakeChannels (7 * sector) n).bisqueError (dramWords s.dram (7 * sector) n) with
    | some e => rfl
    | none =>
      by_cases hdigest : laneDigestOk s.flash (dramWords s.dram (7 * sector) n) = true
      · simp only [hdigest, if_true]
        cases fail <;> rfl
      · simp only [hdigest]
        rfl
  · simp only [hp, if_false, State.wakeChannels_flash, State.pass_flash, State.pass_dram]
    by_cases htable : laneTableOk (dramWords s.dram (7 * sector) n) = false
    · simp only [htable, if_true, Bool.not_false]
    · rw [Bool.not_eq_false] at htable
      simp only [htable, Bool.not_true, Bool.false_eq_true, Bool.true_eq_false, if_false]
      by_cases hroom : (nthW (flashWords s.flash 0 4) 2).toNat + 2394 ≤ 0x100000
      · simp only [hroom, if_true]
        cases fail <;> rfl
      · simp only [hroom, if_false]

/-! ### The owner's part of flash (R537) and the firmware slots (R475) -/

theorem execOwnerFlashWriteDone_toFlash {s : State} {j : OwnFlash} (hj : s.start.ownFlash.find? (fun x => !x.waits) = some j)
    (hdir : j.toDram = false) (hgood : firstBad s.dram (7 * j.sector) (pairWords j.bytes) = none) (fail : Option Nat) :
    execOwnerFlashWriteDone fail s = .next (
      let a := 0x1600000 + j.off
      let u := s.pass 0
      let t := { u with start := { s.start with ownFlash := s.start.ownFlash.erase j } }.wakeChannels (7 * j.sector) (pairWords j.bytes)
      let bytes := (packBytes (dramWords s.dram (7 * j.sector) (pairWords j.bytes))).take j.bytes
      let erased := flashErase s.flash a (4096 * cdiv j.bytes 4096)
      match fail with
      | some o => ({ t with flash := erased }.complete j.req (.fault o)).writesDue
      | none => ({ t with flash := flashWrite erased a bytes }.complete j.req (.done j.bytes)).writesDue) := by
  have hread := State.readWords_good (s := { s.pass 0 with start := { s.start with ownFlash := s.start.ownFlash.erase j } }) (req := 8)
    (a := 7 * j.sector) (n := pairWords j.bytes) hgood
  unfold execOwnerFlashWriteDone State.ownFlashEnd
  dsimp only
  rw [State.pass_start, hj]
  dsimp only
  rw [hdir, if_neg (by decide), hread]
  cases fail <;> rfl

theorem execOwnerFlashWriteDone_toDram {s : State} {j : OwnFlash} (hj : s.start.ownFlash.find? (fun x => !x.waits) = some j)
    (hdir : j.toDram = true) :
    execOwnerFlashWriteDone none s = .next (
      let u := s.pass 0
      let t := { u with start := { s.start with ownFlash := s.start.ownFlash.erase j } }.markWriting j.ids false false
      let w := t.putBytes (7 * j.sector) 0 (flashBytes s.flash (0x1600000 + j.off) j.bytes)
      match w.2 with
      | some k => ((w.1.surfsAfter j.ids true).complete j.req (.fault k)).writesDue
      | none => ((w.1.surfsAfter j.ids false).complete j.req (.done j.bytes)).writesDue) := by
  have hflash : ∀ t : State, (t.markWriting j.ids false false).flash = t.flash := fun t => State.flash_of_mems (t.markWriting_mems _ _ _)
  unfold execOwnerFlashWriteDone State.ownFlashEnd
  dsimp only
  rw [State.pass_start, hj]
  dsimp only
  rw [hdir, if_pos rfl, hflash, State.pass_flash]
  generalize State.putBytes _ _ _ _ = w
  rcases w with ⟨x, _ | k⟩ <;> rfl

theorem execUpdateStageDone_readable {s : State} {sector n : Nat} {q : Req} (hstaging : s.sec.staging = some (sector, n, q))
    (hgood : firstBad s.dram (7 * sector) n = none) (fail : Option Nat) :
    execUpdateStageDone fail s = .next (
      let t := (s.pass 0).wakeChannels (7 * sector) n
      let ws := dramWords s.dram (7 * sector) n
      match t.fwError (fwParts ws) with
      | some e => ((if t.fwSigFails (fwParts ws) e then t.raiseFw 75 5 else t).raise 49 0).staged q (.denied e)
      | none =>
        let base := slotBase (!t.sec.boot.active)
        let erased := flashErase s.flash base 0x400000
        match fail with
        | some o => ({ t with flash := erased }.showFw).staged q (.fault o)
        | none => ({ t with flash := flashWrite erased base (packBytes ws) }.showFw.raise 48 0).staged q (.done (fwParts ws).svn)) := by
  have hread := State.readWords_good (s := s.pass 0) (req := 8) (a := 7 * sector) (n := n) hgood
  unfold execUpdateStageDone
  dsimp only
  rw [State.pass_sec_staging, hstaging]
  dsimp only
  rw [hread]
  simp only [State.wakeChannels_flash, State.pass_flash, State.pass_dram]
  cases ((s.pass 0).wakeChannels (7 * sector) n).fwError (fwParts (dramWords s.dram (7 * sector) n)) with
  | some e => rfl
  | none => cases fail <;> rfl

/-- Settles O27. The refusals' codes in clauses 8 and 11 are the model's choice (assumption logs 76 and 77). -/
theorem startRowsTakeEffect : Obligations.StartRowsTakeEffect := by
  refine ⟨fun role board claim s hp => ?_, fun s hp => ?_, fun ok dt s hp => ?_, fun dt s hp => ?_, fun s hp => ?_, fun s hp => ?_,
    fun s hp => ?_, fun part sector n q fail s hp => ?_, fun j fail s hp => ?_, fun j s hp => ?_, fun sector n q fail s hp => ?_,
    fun s hp => ?_, fun s hp => ?_⟩
  · obtain ⟨halive, hnot, hrails⟩ := hp
    exact execStrapSample_due halive hnot hrails role board claim
  · obtain ⟨halive, hmp, hstage, hboot⟩ := hp
    change execBootSlotSelect s = _
    rw [execBootSlotSelect, if_neg (by simp [halive, hmp, hstage, hboot])]
  · obtain ⟨halive, hsampled, hstage, hrole, hrails⟩ := hp
    change execBisqueImageVerified ok dt s = _
    rw [execBisqueImageVerified, if_neg (by simp [halive, hsampled, hstage, hrole, hrails])]
  · obtain ⟨halive, hmp, hboot, hstage⟩ := hp
    exact execMpRunning_booted halive hmp hboot hstage dt
  · obtain ⟨hdram, hmp, hloaded, hworker⟩ := hp
    change execCalStoreLoad s = _
    rw [execCalStoreLoad, if_pos (by simp [hdram, hmp, hloaded, hworker])]
  · obtain ⟨halive, hstage, hrole, hlate⟩ := hp
    have hs : cyclesS 8 = 800000000 := by norm_num [cyclesS]
    change execGlostTimeout s = _
    rw [execGlostTimeout, if_neg (by simp [halive, Nat.not_le.2 hstage, hrole, hlate]), hs]
  · obtain ⟨halive, hmp, hwait, hsource, hstage⟩ := hp
    change execTimeWaitExpiry s = _
    rw [execTimeWaitExpiry, if_neg (by simp [halive, hmp, hwait, hsource, Nat.not_le.2 hstage]), cyclesS]
  · exact execBisqueWriteDone_readable hp.1 hp.2 fail
  · exact execOwnerFlashWriteDone_toFlash hp.1 hp.2.1 hp.2.2 fail
  · exact execOwnerFlashWriteDone_toDram hp.1 hp.2
  · exact execUpdateStageDone_readable hp.1 hp.2 fail
  · obtain ⟨hhours, htrial, hstage⟩ := hp
    have hs : cyclesS (3600 * s.r Reg.MGMT_FW_0151_COMMIT_HOURS) = 360000000000 * s.r Reg.MGMT_FW_0151_COMMIT_HOURS := by
      rw [cyclesS, ← Nat.mul_assoc]
    change execCommitHoursExpiry s = _
    rw [execCommitHoursExpiry, if_neg (by simp [hhours, htrial, hstage]), hs]
  · obtain ⟨hmgr, hmp, hnet⟩ := hp
    change execNetRecordApply s = _
    rw [execNetRecordApply, if_neg (by simp [hmgr, hmp, hnet])]

end Sys2Proof.Machine
end

section
/-! The rows of low power (R513–R518, R277) and of the power domains (R397–R399). -/

namespace Sys2Proof.Machine

/-! ### Low power -/

/-- Frames that stop take their packets and their place in the emitter with them, and nothing else. -/
theorem State.stopFrames_frame (s : State) :
    s.stopFrames = { s with fire := s.stopFrames.fire, emit_ := s.stopFrames.emit_ } := by
  have hdrop : ∀ (l : List Nat) (s : State), l.foldl State.dropTx s = { s with emit_ := (l.foldl State.dropTx s).emit_ } := by
    intro l
    induction l with
    | nil => exact fun s => rfl
    | cons n t ih =>
      intro s
      rw [List.foldl_cons, ih]
      rfl
  unfold State.stopFrames
  dsimp only
  rw [hdrop]

theorem State.stopFrames_start (s : State) : s.stopFrames.start = s.start := by rw [State.stopFrames_frame]
theorem State.stopFrames_hearth (s : State) : s.stopFrames.hearth = s.hearth := by rw [State.stopFrames_frame]
theorem State.stopFrames_pins (s : State) : s.stopFrames.pins = s.pins := by rw [State.stopFrames_frame]

theorem State.bankedEntry_eq (s : State) (snap : Bool) :
    s.bankedEntry snap =
      let u := s.stopFrames
      let t := { u with
        start := { u.start with power := none, exitTick := none }
        hearth := { u.hearth with skip := true }
        pins := { u.pins with aonBlank := true } }
      let t := (((t.w Reg.MGMT_POWER_PENDING 0).w Reg.MEM_STATUS_IN_SR (t.r Reg.MEM_STATUS_CH_OK)).setStage 3).driveBlank.driveAux
      let t := t.settleDomains
      if snap then t.autoSnap else t := by
  unfold State.bankedEntry
  dsimp only
  rw [State.stopFrames_start, State.stopFrames_hearth, State.stopFrames_pins]

theorem State.bankedDue_due {s : State} {k : Nat} {snap : Bool} (hpower : s.start.power = some (1, k, snap))
    (hticked : s.time.ticked = true) (hdue : k ≤ s.time.last) : s.bankedDue = s.bankedEntry snap := by
  unfold State.bankedDue
  rw [hpower]
  exact if_pos (by simp [hticked, hdue])

/-- An exit that POWER_STATE asked for (R514). -/
theorem State.exitDue_asked {s : State} {k : Nat} {snap : Bool} (hstage : s.stage = 3) (hexit : s.start.exitTick = none)
    (hpower : s.start.power = some (0, k, snap)) (hticked : s.time.ticked = true) (hdue : k ≤ s.time.last) :
    s.exitDue = s.bankedExit k 6 := by
  unfold State.exitDue
  rw [if_neg (by simp [hstage, hexit]), hpower]
  exact if_pos (by simp [hticked, hdue])

/-- An exit that the wake pin asked for (R516). -/
theorem State.exitDue_woken {s : State} {k : Nat} (hstage : s.stage = 3) (hexit : s.start.exitTick = none)
    (hpower : s.start.power = none) (hwake : s.start.wakeExit = some k) (hticked : s.time.ticked = true) (hdue : k ≤ s.time.last) :
    s.exitDue = s.bankedExit k 1 := by
  unfold State.exitDue
  rw [if_neg (by simp [hstage, hexit]), hpower, hwake]
  exact if_pos (by simp [hticked, hdue])

/-! ### Power domains -/

theorem State.domainGood_ramping {s : State} {d : Nat} (h : ∃ x ∈ s.hearth.ramps, x.1 = d) :
    s.domainGood d = (({ s with hearth := { s.hearth with
      ramps := s.hearth.ramps.filter (fun (x : Nat × Nat × Bool) => x.1 ≠ d) } }.setDomain d 2).settleDomains) := by
  rw [State.domainGood, if_pos (by simpa using h)]

/-- A ramp that has taken 20 µs has failed once (R398). -/
theorem State.domainLate_first {s : State} {d at_ : Nat}
    (h : s.hearth.ramps.find? (fun (x : Nat × Nat × Bool) => decide (x.1 = d)) = some (d, at_, false)) :
    s.domainLate d =
      let t := s.gotoNow (at_ + 2000)
      let t := { t with hearth := { t.hearth with
        ramps := s.hearth.ramps.filter (fun (x : Nat × Nat × Bool) => x.1 ≠ d)
        retries := s.hearth.retries ++ [(d, t.now)] } }.w Reg.HEARTH_DOMAIN_FAILS (min 2 (s.r Reg.HEARTH_DOMAIN_FAILS d + 1)) d
      (t.setDomain d 0).settleDomains := by
  have hus : cyclesUs 20 = 2000 := by norm_num [cyclesUs]
  unfold State.domainLate
  rw [h, hus]
  simp only [satN_eq_min]
  rfl

/-- The same where it was the retry (R398). -/
theorem State.domainLate_again {s : State} {d at_ : Nat}
    (h : s.hearth.ramps.find? (fun (x : Nat × Nat × Bool) => decide (x.1 = d)) = some (d, at_, true)) :
    s.domainLate d =
      let t := s.gotoNow (at_ + 2000)
      let t := { t with hearth := { t.hearth with
        ramps := s.hearth.ramps.filter (fun (x : Nat × Nat × Bool) => x.1 ≠ d)
        failed := d :: s.hearth.failed } }.w Reg.HEARTH_DOMAIN_FAILS (min 2 (s.r Reg.HEARTH_DOMAIN_FAILS d + 1)) d
      ((t.setDomain d 3).raise 172 0).settleDomains := by
  have hus : cyclesUs 20 = 2000 := by norm_num [cyclesUs]
  unfold State.domainLate
  rw [h, hus]
  simp only [satN_eq_min]
  rfl

/-- A retry that is due, with room among the ramps (R398). -/
theorem State.domainAgain_wanted {s : State} {d at_ : Nat}
    (h : s.hearth.retries.find? (fun (x : Nat × Nat) => decide (x.1 = d)) = some (d, at_)) (hwant : s.wantOn d = true)
    (hroom : s.hearth.ramps.length < 4) :
    s.domainAgain d =
      let t := s.gotoNow (at_ + 10000)
      let t := { t with hearth := { t.hearth with retries := s.hearth.retries.filter (fun (x : Nat × Nat) => x.1 ≠ d) } }.setDomain d 1
      { t with hearth := { t.hearth with ramps := t.hearth.ramps ++ [(d, t.now, true)] } } := by
  have hus : cyclesUs 100 = 10000 := by norm_num [cyclesUs]
  unfold State.domainAgain
  rw [h, hus]
  dsimp only
  rw [if_neg (by simp only [Bool.and_eq_true, decide_eq_true_eq, not_and]; exact fun _ => Nat.not_le.2 hroom)]
  exact if_pos hwant

/-- Settles O28. That the lines are dark from tick K on is the model's choice (assumption log 77). -/
theorem powerRowsTakeEffect : Obligations.PowerRowsTakeEffect := by
  refine ⟨fun k snap s hp => ?_, fun k snap s hp => ?_, fun k s hp => ?_, fun s hp => ?_, fun s hp => ?_, fun k snap s hp => ?_,
    fun src s hp => ?_, fun port hport s hp => ?_, fun d dt s hp => ?_, fun d at_ s hp => ?_, fun d at_ s hp => ?_,
    fun d at_ s hp => ?_⟩
  · obtain ⟨hpower, hticked, hdue⟩ := hp
    change execBankedEntry s = _
    rw [execBankedEntry, State.bankedDue_due (s := s.pass 0) hpower hticked hdue, State.bankedEntry_eq]
  · obtain ⟨hstage, hexit, hpower, hticked, hdue⟩ := hp
    change execBankedExit s = _
    rw [execBankedExit, State.exitDue_asked (s := s.pass 0) hstage hexit hpower hticked hdue]
  · obtain ⟨hstage, hexit, hpower, hwake, hticked, hdue⟩ := hp
    change execBankedExit s = _
    rw [execBankedExit, State.exitDue_woken (s := s.pass 0) hstage hexit hpower hwake hticked hdue]
  · obtain ⟨hpow, hcold, hpin, hstage, hexit, hwake⟩ := hp
    have hus : cyclesUs 1000 = 100000 := by norm_num [cyclesUs]
    change execWakePinLow s = _
    rw [execWakePinLow, hus, if_neg (by simp [hpow, hpin]), if_neg (by simp [hcold]), if_pos (by simp [hstage, hexit, hwake])]
  · obtain ⟨hpow, hcold, hpin⟩ := hp
    have hus : cyclesUs 1000 = 100000 := by norm_num [cyclesUs]
    change execWakePinLow s = _
    rw [execWakePinLow, hus, if_neg (by simp [hpow, hpin]), if_pos (by simp [hcold])]
  · obtain ⟨hpower, hticked, hdue⟩ := hp
    change execColdStandbyEntry s = _
    unfold execColdStandbyEntry
    rw [hpower]
    exact if_pos (by rw [hticked, Bool.true_and]; exact decide_eq_true hdue)
  · obtain ⟨hpow, hcold, hwake⟩ := hp
    change execColdStandbyWake src s = _
    rw [execColdStandbyWake, if_pos (by rw [State.pass_start, hpow, hcold]; exact hwake), State.coldWake]
  · obtain ⟨hpow, hcold, hlink⟩ := hp
    have hus : cyclesUs 200 = 20000 := by norm_num [cyclesUs]
    have hwake : (s.pass 0).wakeEnabled (port + 2) = true := by
      simp [State.wakeEnabled, hlink]
      omega
    change execLinkActivityWake port s = _
    rw [execLinkActivityWake, if_pos (by simp [hpow, hcold, hport, hwake]), hus, State.coldWake]
  · change execDomainPowerGood d dt s = _
    rw [execDomainPowerGood, State.domainGood_ramping (s := s.pass dt) hp]
    rfl
  · change execDomainRampTimeout d s = _
    rw [execDomainRampTimeout, State.domainLate_first (s := s.pass 0) hp, State.pass_hearth, State.pass_r]
  · change execDomainRampTimeout d s = _
    rw [execDomainRampTimeout, State.domainLate_again (s := s.pass 0) hp, State.pass_hearth, State.pass_r]
  · obtain ⟨hretry, hwant, hroom⟩ := hp
    change execDomainRetry d s = _
    rw [execDomainRetry, State.domainAgain_wanted (s := s.pass 0) hretry hwant hroom, State.pass_hearth]

end Sys2Proof.Machine
end

section
/-! REFCLK (R370), synthesisers and DLLs (R371, R373, R374), clock outputs (R376). -/

namespace Sys2Proof.Machine

theorem bitsN_self (m k : Nat) : bitsN m k k = (m.testBit k).toNat := by
  have h : k + 1 - k = 1 := by omega
  rw [bitsN, h, Nat.pow_one, Nat.toNat_testBit]

/-! ### Loss of lock -/

theorem State.lockLoss_syn {s : State} {n : Nat} (hn : n < 4) (hlock : s.rb Reg.CLOCK_SYN_W0_LOCKED n = true) :
    s.lockLoss n =
      ((s.count Reg.CLOCK_SYN_W0_LOSSES n).synStop n).raise (if n = 0 then 192 else if n = 3 then 194 else 193) 0 := by
  have hevent : nth [192, 193, 193, 194] n = if n = 0 then 192 else if n = 3 then 194 else 193 := by
    interval_cases n <;> rfl
  rw [State.lockLoss, if_pos hn, if_neg (by simp [hlock]), hevent]

theorem State.lockLoss_dll {s : State} {n : Nat} (hn : 4 ≤ n) (hn' : n < 10) (hlock : (s.r Reg.CLOCK_DLL_LOCKED).testBit (n - 4) = true) :
    s.lockLoss n = (s.w Reg.CLOCK_DLL_LOCKED (s.r Reg.CLOCK_DLL_LOCKED - 2 ^ (n - 4))).raise 197 0 := by
  rw [State.lockLoss, if_neg (Nat.not_lt.2 hn), if_pos hn']
  exact if_neg (by rw [bitsN_self, hlock]; decide)

/-! ### Clock outputs -/

/-- One clock output is armed, and its edge comes: it aligns (R376). -/
theorem State.ckoEdge_first {s : State} {src : Nat} (harmed : s.time.armed = [true, false, false, false])
    (hsrc : s.r Reg.CLOCK_CKO_ALIGN_SRC 0 = src) (hrealign : s.time.realign = [false, false, false, false]) :
    s.ckoEdge src =
      ({ s with time := { s.time with armed := [false, false, false, false] } }.w Reg.CLOCK_CKO_ALIGNED 1 0).raise 199 0 := by
  rw [State.ckoEdge, show List.range 4 = [0, 1, 2, 3] from rfl, List.foldl_cons, if_pos (by simp [hsrc, harmed])]
  simp only [harmed, hrealign, List.foldl_cons, List.foldl_nil, List.set_cons_zero, State.raise_time, State.w_time,
    List.getD_cons_succ, List.getD_cons_zero, Bool.or_self, Bool.and_false, Bool.false_eq_true, if_false]

/-- Settles O29. -/
theorem clockRowsTakeEffect : Obligations.ClockRowsTakeEffect := by
  refine ⟨fun ppm dt s hp => ?_, fun ppm dt s hp => ?_, fun n dt hn s hp => ?_, fun n dt hn hn' s hp => ?_,
    fun n band us dt hn hn' s hp => ?_, fun n band us dt hn s hp => ?_, fun n hn s _ => ?_, fun n hn s hp => ?_, fun j hj s _ => ?_,
    fun src dt s hp => ?_⟩
  · change execRefclkLoss ppm dt s = _
    have hstop : s.time.stopped = false := hp
    rw [execRefclkLoss, if_neg (by simp [hstop])]
    rfl
  · have hus : cyclesUs 10000 = 1000000 := by norm_num [cyclesUs]
    change execRefclkReturn ppm dt s = _
    rw [execRefclkReturn, if_neg (by simp [hp]), hus]
  · change execSynLockLoss n dt s = _
    rw [execSynLockLoss, State.lockLoss_syn (s := s.pass dt) hn hp]
  · change execSynLockLoss n dt s = _
    rw [execSynLockLoss, State.lockLoss_dll (s := s.pass dt) hn hn' hp, State.pass_r]
  · obtain ⟨hstop, hlock⟩ := hp
    change execSynRelockDone n band us dt s = _
    rw [execSynRelockDone, if_neg (by simp [hstop, Nat.not_le.2 hn']), if_pos hn, if_neg (by rw [bitsN_self, State.pass_r, hlock]; decide)]
    rfl
  · obtain ⟨hstop, hlock⟩ := hp
    change execSynRelockDone n band us dt s = _
    rw [execSynRelockDone, if_neg (by simp [hstop]; omega), if_neg (Nat.not_le.2 hn), if_neg (by simp [hlock])]
    have hagain : (n = 0 ∧ (s.pass dt).time.relocking.getD n false = true) ↔ (n = 0 ∧ s.time.relocking.getD 0 false = true) :=
      and_congr_right fun h => by rw [h]; rfl
    simp only [satN_eq_min, Bool.and_eq_true, decide_eq_true_eq, hagain]
    rfl
  · change execSynRelockWrite n s = _
    rw [execSynRelockWrite, State.relockWrite, if_pos hn]
  · change execBandSearchRetry n s = _
    rw [execBandSearchRetry, if_pos (by simp [hn]; exact hp)]
  · change execCkoArm j s = _
    rw [execCkoArm, State.ckoArm, if_pos hj]
    rfl
  · obtain ⟨harmed, hsrc, hrealign⟩ := hp
    change execCkoAlignEdge src dt s = _
    rw [execCkoAlignEdge, State.ckoEdge_first (s := s.pass dt) harmed hsrc hrealign]

end Sys2Proof.Machine
end

section
/-! Schedule and phase (R363, R367), OFFSET_IN (R350), SYNC_IN (R366), capture (R354), the time exchange (R296–R298, R357). -/

namespace Sys2Proof.Machine

/-! ### Schedule and phase -/

theorem State.schedStep_one {s : State} {c : Sched} {n : Nat} (hc : s.time.scheds = [c]) (hdue : c.k ≤ n) :
    s.schedStep n = ((({ s with time := { s.time with scheds := [] } } : State).applySched c).raise 246 0).repeatNext := by
  have hin : [c].filter (fun x => decide (x.k ≤ n)) = [c] := by simp [hdue]
  have hout : [c].filter (fun x => decide (n < x.k)) = [] := by simp [hdue]
  unfold State.schedStep
  simp only [hc, hin, hout, List.isEmpty_cons, Bool.false_eq_true, if_false, List.foldl_cons, List.foldl_nil]

/-! ### SYNC_IN and capture -/

/-- An input that captures nothing leaves the state as it is. -/
theorem State.capture_off {s : State} {e : Nat} (hen : s.rb Reg.TIME_CAPTURE_W0_EN e = false) (falling : Bool) :
    s.capture e falling = s := by
  unfold State.capture
  exact if_pos (by simp [hen])

/-- No clock output aligns on an edge that none selects. -/
theorem State.ckoEdge_none {s : State} {src : Nat} (hsrc : ∀ n, n < 4 → s.r Reg.CLOCK_CKO_ALIGN_SRC n ≠ src) : s.ckoEdge src = s := by
  rw [State.ckoEdge, show List.range 4 = [0, 1, 2, 3] from rfl]
  simp [hsrc]

/-- A SYNC_IN edge of a tick not seen yet sets the demand (R366). -/
theorem State.syncEdge_tick {s : State} (hb : s.rb Reg.TIME_TICK_CTRL_BOUNDARY = true) (hen : s.rb Reg.TIME_CAPTURE_W0_EN 0 = false)
    (hsrc : ∀ n, n < 4 → s.r Reg.CLOCK_CKO_ALIGN_SRC n ≠ 0) (hk : 0 ≤ s.nearSync s.tb3)
    (hnew : s.time.syncK ≠ some (s.nearSync s.tb3).toNat) :
    s.syncEdge false =
      let k := (s.nearSync s.tb3).toNat
      let e := to16 ((stampOf s.tb3.toNat : Int) - s.sched k - 1024 * s.ri Reg.TIME_SYNC_OFFSET_SYNC_OFFSET)
      { s with time := { s.time with demand := some (sat16 (s.phi + e)), syncK := some k, syncLost := false } }.w
        Reg.TIME_TICK_STATUS_SYNC_OK 1 := by
  unfold State.syncEdge
  rw [State.capture_off hen]
  dsimp only
  rw [State.ckoEdge_none hsrc]
  simp only [hb, Bool.false_eq_true, if_false, Bool.not_true, not_lt.2 hk, hnew]

section
variable {s : State} {e : Nat} {falling : Bool} (hen : s.rb Reg.TIME_CAPTURE_W0_EN e = true)
  (hedge : s.rb Reg.TIME_CAPTURE_W0_FALLING e = falling) (hgap : (s.time.capAt.getD e none).all (fun a => decide (a + 10 ≤ s.now)) = true)
include hen hedge hgap

/-- An edge that is captured (R354). -/
theorem State.capture_on :
    s.capture e falling =
      let t := { s with time := { s.time with capAt := s.time.capAt.set e (some s.now) } }
      let q := s.time.fifo.getD e []
      if 16 ≤ q.length then (t.flag Reg.TIME_CAPTURE_W0_LOST 1 e).raise 247 0
      else ({ t with time := { t.time with fifo := s.time.fifo.set e (q ++ [t.stamp (s.r Reg.TIME_CAPTURE_W0_BASE e)]) } }).w
        Reg.TIME_CAPTURE_W0_DEPTH (q.length + 1) e := by
  unfold State.capture
  refine (if_neg ?_).trans rfl
  cases hcap : s.time.capAt.getD e none with
  | none => simp [hen, hedge]
  | some a =>
    rw [hcap] at hgap
    simpa [hen, hedge] using hgap

end

/-! ### The time exchange -/

theorem State.exchOf_same {s : State} {x : Exchange} {p : Nat} {ws : List Word} (hx : s.link.exchange = some x) (hp : x.port = p)
    (hn : x.num = bits (nthW ws 0) 15 0) : s.exchOf p ws = some x := by
  rw [State.exchOf, hx]
  simp [hp, hn]

/-- The first delay measured through a port is taken as it is, and the bases are fed (R298, R357). -/
theorem State.takeFup_first {s : State} {x : Exchange} {p : Nat} {ws : List Word} (hx : s.link.exchange = some x) (hp : x.port = p)
    (hn : x.num = bits (nthW ws 0) 15 0) (hdelays : s.link.delays = [])
    (hresp : x.respAt.any (fun r => decide (s.now ≤ r + 10000)) = true) :
    s.takeFup p ws false =
      let y : Exchange := { x with
        t3 := timesOf ws, v := [x.v.getD 0 false && bit (nthW ws 0) 16, x.v.getD 1 false && bit (nthW ws 0) 17] }
      let b := if y.v.getD 0 false = false ∧ y.v.getD 1 false = true then 1 else 0
      let u := { s with link := { s.link with exchange := none, delays := [exchDelay y b] } }.w Reg.LINK_PORT_W3_DELAY
        (min 65535 (meanDelay [exchDelay y b]).toNat) p
      { u with link := { u.link with exchAt := u.now } }.feedBoth y := by
  have hus : cyclesUs 100 = 10000 := by norm_num [cyclesUs]
  obtain ⟨r, hr, hlate⟩ : ∃ r, x.respAt = some r ∧ s.now ≤ r + 10000 := by
    cases h : x.respAt with
    | none => simp [h] at hresp
    | some r => exact ⟨r, rfl, by simpa [h] using hresp⟩
  have hbase : ∀ v w : Bool, (if (v || !w) = true then 0 else 1) = if v = false ∧ w = true then 1 else 0 := by decide
  unfold State.takeFup
  rw [State.exchOf_same hx hp hn]
  simp only [State.noExchange, hr, hus, Bool.false_or, decide_eq_true_eq, Nat.not_lt.2 hlate, if_false, hdelays, List.isEmpty_nil,
    Bool.not_true, Bool.false_and, Bool.false_eq_true, satN_eq_min, hbase]
  rfl

/-- Settles O30. -/
theorem timeRowsTakeEffect : Obligations.TimeRowsTakeEffect := by
  refine ⟨fun c s hp => ?_, fun k p g s hp => ?_, fun b v hb s hp => ?_, fun dt s hp => ?_, fun s hp => ?_,
    fun el falling dt hel s hp => ?_, fun el falling dt hel s hp => ?_, fun el t rest hel s hp => ?_, fun p dt s hp => ?_,
    fun port words resp dt hport s hp => ?_, fun port words dt x hport s hp => ?_, fun port words dt x hport s hp => ?_,
    fun x t s hp => ?_, fun s hp => ?_⟩
  · obtain ⟨hticked, hc, hdue⟩ := hp
    change execScheduleChangeApply s = _
    rw [execScheduleChangeApply, if_pos hticked, State.schedStep_one (s := s.pass 0) hc hdue]
  · obtain ⟨hticked, hphase, hdue⟩ := hp
    change execPhaseCommandApply s = _
    unfold execPhaseCommandApply
    rw [hphase]
    exact if_pos (by simp [hticked, hdue])
  · have hservo : s.servo b = true := hp
    change execOffsetInWrite b v s = _
    rw [execOffsetInWrite, State.offsetIn, if_neg (by simp [hservo]; omega)]
    have h0 : pack [(28, 0), (0, 0)] = 0 := by decide
    show Host.Outcome.next (((s.pass 0).feed b (sext 36 v.toNat)).emit .reply [] [pack [(28, 0), (0, 0)]]) = _
    rw [h0]
  · obtain ⟨hb, hen, hsrc, hk, hnew⟩ := hp
    change execSyncInEdge false dt s = _
    rw [execSyncInEdge, State.syncEdge_tick (s := s.pass dt) hb hen hsrc hk hnew]
  · obtain ⟨hb, hlost⟩ := hp
    change execSyncInLost s = _
    rw [execSyncInLost, State.syncMissing, if_neg (by simp [hb, hlost])]
    simp only [State.pass_r, State.pass_sched, State.pass_ri, State.pass_period, State.pass_time_syncK, State.pass_time_last]
  · obtain ⟨hen, hedge, hgap, hroom⟩ := hp
    change execCaptureEdge el falling dt s = _
    rw [execCaptureEdge, if_pos hel, State.capture_on (s := s.pass dt) hen hedge hgap]
    exact congrArg Host.Outcome.next (if_neg (Nat.not_le.2 hroom))
  · obtain ⟨hen, hedge, hgap, hfull⟩ := hp
    change execCaptureEdge el falling dt s = _
    rw [execCaptureEdge, if_pos hel, State.capture_on (s := s.pass dt) hen hedge hgap]
    exact congrArg Host.Outcome.next (if_pos hfull)
  · change execCaptureFifoRead el s = _
    rw [execCaptureFifoRead, if_pos hel, State.capturePop, State.pass_time_fifo, hp]
  · obtain ⟨hworker, hup⟩ := hp
    change execTimeExchangeStart dt s = _
    unfold execTimeExchangeStart
    extract_lets began link t
    have hsel : (if t.isWorker then t.upstream else none) = some p := (if_pos hworker).trans hup
    rw [hsel]
    rfl
  · change execTReqReceive port words resp dt s = _
    have hus : cyclesUs 20 = 2000 := by norm_num [cyclesUs]
    rw [execTReqReceive, Nat.mod_eq_of_lt hport, State.answerReq, if_neg (by simp [show s.portUp port = true from hp]), hus]
  · obtain ⟨hx, hxp, hxn⟩ := hp
    change execTRespReceive port words false dt s = _
    rw [execTRespReceive, Nat.mod_eq_of_lt hport, State.takeResp, State.exchOf_same (s := s.pass dt) hx hxp hxn]
    rfl
  · obtain ⟨hx, hxp, hxn, hdelays, hresp⟩ := hp
    change execTFupReceive port words false dt s = _
    rw [execTFupReceive, Nat.mod_eq_of_lt hport, State.takeFup_first (s := s.pass dt) hx hxp hxn hdelays hresp]
  · obtain ⟨hx, hresp⟩ := hp
    have hus : cyclesUs 100 = 10000 := by norm_num [cyclesUs]
    change execTFupLate s = _
    simp only [execTFupLate, hx, Option.bind_some, hresp, hus, State.noExchange]
  · have hworker : s.isWorker = true := hp
    have hs : cyclesS 1 = 100000000 := by norm_num [cyclesS]
    change execTimeLostTimeout s = _
    rw [execTimeLostTimeout, if_neg (by simp [hworker]), hs]

end Sys2Proof.Machine
end

section
/-! Training (R385), retraining (R386), speed switches (R387), refresh (R384), self-refresh (R390, R391). -/

namespace Sys2Proof.Machine

/-! ### The tail of the period, and the next burst: only time goes on -/

section
variable (s : State)

@[simp] theorem State.toTail_r (f : Fld) (i : Nat) : s.toTail.r f i = s.r f i := by unfold State.toTail; split <;> rfl
@[simp] theorem State.toTail_rb (f : Fld) (i : Nat) : s.toTail.rb f i = s.rb f i := by unfold State.toTail; split <;> rfl
@[simp] theorem State.toTail_mem : s.toTail.mem = s.mem := by unfold State.toTail; split <;> rfl
@[simp] theorem State.toTail_fire : s.toTail.fire = s.fire := by unfold State.toTail; split <;> rfl
@[simp] theorem State.toTail_last : s.toTail.time.last = s.time.last := by unfold State.toTail; split <;> rfl
@[simp] theorem State.toTail_sched (n : Nat) : s.toTail.sched n = s.sched n := by unfold State.toTail; split <;> rfl
@[simp] theorem State.toTail_tailLets (ch : Nat) : s.toTail.tailLets ch = s.tailLets ch := by unfold State.toTail; split <;> rfl

@[simp] theorem State.atBurst_rb (f : Fld) (i : Nat) : s.atBurst.rb f i = s.rb f i := by unfold State.atBurst; split <;> simp
@[simp] theorem State.atBurst_mem : s.atBurst.mem = s.mem := by unfold State.atBurst; split <;> simp
@[simp] theorem State.atBurst_fire : s.atBurst.fire = s.fire := by unfold State.atBurst; split <;> simp
@[simp] theorem State.atBurst_last : s.atBurst.time.last = s.time.last := by
  unfold State.atBurst
  split
  · exact s.toTail_last
  · exact s.toTail_last
@[simp] theorem State.atBurst_sched (n : Nat) : s.atBurst.sched n = s.sched n := by
  unfold State.atBurst
  split
  · exact s.toTail_sched n
  · exact s.toTail_sched n
@[simp] theorem State.atBurst_tailLets (ch : Nat) : s.atBurst.tailLets ch = s.tailLets ch := by
  unfold State.atBurst
  split
  · exact s.toTail_tailLets ch
  · exact s.toTail_tailLets ch

end

/-! ### Training and retraining -/

/-- The oscillators of a channel have been measured (R386). -/
def State.oscMeasured (s : State) (ch drift : Nat) : State :=
  let t := (s.gotoNow (nth s.mem.oscAt ch + 100000 * s.r Reg.MEM_CTRL_RETRAIN_MS)).toTail
  { t with mem := { t.mem with oscAt := s.mem.oscAt.set ch t.now } }.w Reg.MEM_CHAN_W0_DRIFT (min 255 drift) ch

theorem State.oscMeasured_lim (s : State) (ch drift : Nat) :
    (s.oscMeasured ch drift).r Reg.MEM_CTRL_DRIFT_LIM = s.r Reg.MEM_CTRL_DRIFT_LIM := by
  have h : s.oscMeasured ch drift = State.w _ Reg.MEM_CHAN_W0_DRIFT (min 255 drift) ch := rfl
  rw [h, State.w_other _ _ _ _ _ _ (key_ne_of_lo (by decide) (by decide) (by decide))]
  exact ((s.gotoNow _).toTail_r _ _).trans (State.gotoNow_r _ _ _ _)

theorem State.oscMeasured_seqs (s : State) (ch drift : Nat) : (s.oscMeasured ch drift).mem.seqs = s.mem.seqs := by
  unfold State.oscMeasured
  simp

theorem State.oscMeasured_hard (s : State) (ch drift : Nat) : (s.oscMeasured ch drift).mem.hard = s.mem.hard := by
  unfold State.oscMeasured
  simp

/-- A check that the plan lets run and that no switch meets: the measurement, a sequence where the drift is beyond its limit, and the
channel held hard where it is beyond twice that (R386). -/
theorem State.oscCheck_measured {s : State} {ch : Nat} (hch : ch < 4) (htrained : s.rb Reg.MEM_STATUS_TRAINED = true)
    (hlets : s.tailLets ch = true) (hswitch : s.rb Reg.MEM_STATUS_SWITCHING = false) (drift : Nat) :
    s.oscCheck ch drift =
      let t := s.oscMeasured ch drift
      let u := if s.r Reg.MEM_CTRL_DRIFT_LIM < drift && !s.mem.seqs.any (fun (q : Nat × Nat) => q.1 = ch) then
          { t with mem := { t.mem with seqs := s.mem.seqs ++ [(ch, 0)] } }.showSeqs
        else t
      if 2 * s.r Reg.MEM_CTRL_DRIFT_LIM < drift then
        ({ u with mem := { u.mem with hard := if u.mem.hard.contains ch then u.mem.hard else ch :: u.mem.hard } }).raise 388 0
      else u := by
  have hlets' : (s.gotoNow (nth s.mem.oscAt ch + 100000 * s.r Reg.MEM_CTRL_RETRAIN_MS)).tailLets ch = true := hlets
  have hbar : ((!s.rb Reg.MEM_STATUS_TRAINED) || decide (4 ≤ ch) || (!s.tailLets ch) || s.rb Reg.MEM_STATUS_SWITCHING) = false := by
    simp [htrained, hlets, hswitch, hch]
  rw [← s.oscMeasured_lim ch drift, ← s.oscMeasured_seqs ch drift]
  unfold State.oscCheck State.oscMeasured
  simp only [State.toTail_rb, State.toTail_tailLets, State.gotoNow_rb, hlets', htrained, hswitch, Bool.not_true, Bool.or_false,
    Nat.not_le.2 hch, decide_false, Bool.false_eq_true, if_false, satN_eq_min, State.toTail_mem, State.gotoNow_mem]

/-- A burst that the plan, the switch and the tail let run (R386, R388). -/
theorem State.retrainBurst_runs {s : State} {ch n : Nat} {rest : List (Nat × Nat)} (hseqs : s.mem.seqs = (ch, n) :: rest)
    (hmay : s.mayBurst ch = true) :
    s.retrainBurst =
      let t := s.atBurst
      if n + 1 < 6 then { t with mem := { t.mem with burstAt := some t.now, seqs := (ch, n + 1) :: rest } }
      else
        let t := { t with mem := { t.mem with burstAt := some t.now, seqs := rest, hard := s.mem.hard.filter (· ≠ ch) } }.showSeqs
        (t.count Reg.MEM_CHAN_W2_RETRAINS ch).raise 386 0 := by
  have hus : cyclesUs 200 = 20000 := by norm_num [cyclesUs]
  simp only [State.mayBurst, Bool.and_eq_true, Bool.not_eq_true', Bool.or_eq_true, decide_eq_true_eq, bne_iff_ne, ne_eq] at hmay
  obtain ⟨⟨hswitch, hlets⟩, htail⟩ := hmay
  unfold State.retrainBurst
  rw [hseqs, hus]
  extract_lets tail t
  have ht : t = s.atBurst := by
    simp only [t, tail, State.toTail_mem]
    rfl
  clear_value t
  subst ht
  refine (if_neg ?_).trans ?_
  · simp only [State.atBurst_rb, State.atBurst_tailLets, State.atBurst_fire, State.atBurst_sched, State.atBurst_last, State.atBurst_mem,
      hswitch, hlets]
    cases hf : s.fire.firing with
    | false => simp
    | true =>
      have ⟨htime, hspoilt⟩ := htail.resolve_left (by simp [hf])
      simp [not_le.2 htime, hspoilt]
  · simp +zetaDelta only [State.atBurst_mem]

/-! ### Speed switches -/

/-- A switch that meets no sequence past its first burst spoils nothing (R387). -/
theorem State.speedSwitch_clean {s : State} (hswitch : s.rb Reg.MEM_STATUS_SWITCHING = true) (hzero : ∀ q ∈ s.mem.seqs, q.2 = 0) :
    s.speedSwitch = (s.toTail.ws [(Reg.MEM_STATUS_SP, 0, s.mem.toSp), (Reg.MEM_STATUS_GRADE, 0, nth s.mem.grades s.mem.toSp),
      (Reg.MEM_STATUS_SWITCHING, 0, 0)]).raise 389 0 := by
  have hlost : (s.mem.seqs.any fun (q : Nat × Nat) => decide (0 < q.2)) = false :=
    List.any_eq_false.2 fun q hq => by simp [hzero q hq]
  have hseqs : s.mem.seqs.map (fun (q : Nat × Nat) => (q.1, 0)) = s.mem.seqs :=
    (List.map_congr_left fun q hq => (Prod.ext rfl (hzero q hq).symm : (q.1, 0) = id q)).trans (List.map_id _)
  unfold State.speedSwitch
  rw [if_neg (by simp [hswitch])]
  simp only [State.toTail_mem, hlost, hseqs, Bool.false_eq_true, if_false]
  rw [← State.toTail_mem]
  rfl

/-- A switch that meets a sequence past its first burst discards its results (R388). -/
theorem State.speedSwitch_spoils {s : State} {ch n : Nat} (hswitch : s.rb Reg.MEM_STATUS_SWITCHING = true)
    (hseqs : s.mem.seqs = [(ch, n + 1)]) :
    s.speedSwitch =
      let t := s.toTail
      let t := { t with mem := { t.mem with seqs := [(ch, 0)], spoilt := some s.time.last } }.raise 387 0
      (t.ws [(Reg.MEM_STATUS_SP, 0, s.mem.toSp), (Reg.MEM_STATUS_GRADE, 0, nth s.mem.grades s.mem.toSp),
        (Reg.MEM_STATUS_SWITCHING, 0, 0)]).raise 389 0 := by
  have hlost : ([(ch, n + 1)].any fun (q : Nat × Nat) => decide (0 < q.2)) = true := by simp
  unfold State.speedSwitch
  rw [if_neg (by simp [hswitch])]
  simp only [State.toTail_mem, State.toTail_last, hseqs, hlost, if_true, State.raiseIf, State.raise_mem, List.map_cons, List.map_nil]

/-! ### Refresh and self-refresh -/

theorem State.refreshDue_awake {s : State} {ch : Nat} (hch : ch < 4) (htrained : s.rb Reg.MEM_STATUS_TRAINED = true)
    (hawake : (s.r Reg.MEM_STATUS_IN_SR).testBit ch = false) (idle : Nat) :
    s.refreshDue ch idle =
      if 8 < s.r Reg.MEM_CHAN_W0_POSTPONED ch + 1 - idle then
        ((s.w Reg.MEM_CHAN_W0_POSTPONED 8 ch).count Reg.MEM_CHAN_W2_FORCED ch).raiseTick 393 0 0
      else s.w Reg.MEM_CHAN_W0_POSTPONED (s.r Reg.MEM_CHAN_W0_POSTPONED ch + 1 - idle) ch := by
  rw [State.refreshDue, bitsN_self, hawake, if_neg (by simp [htrained]; omega)]

/-- A channel that has been idle for SR_IDLE, with nothing of it pending: it enters self-refresh, or the entry is cancelled (R390–R392). -/
theorem State.selfRefresh_idle {s : State} {ch : Nat} (hch : ch < 4) (htrained : s.rb Reg.MEM_STATUS_TRAINED = true)
    (hidle : s.stage = 3 ∨ s.rb Reg.MEM_CTRL_IDLE_SR = true
      ∧ max s.now (nth s.mem.idleAt ch + 100 * s.r Reg.MEM_CTRL_SR_IDLE)
        < nth s.mem.oscAt ch + 100000 * s.r Reg.MEM_CTRL_RETRAIN_MS)
    (hawake : (s.r Reg.MEM_STATUS_IN_SR).testBit ch = false) (hpost : s.rb Reg.MEM_CHAN_W0_POSTPONED ch = false)
    (hnone : ∀ q ∈ s.mem.seqs, q.1 ≠ ch) (cancelled : Bool) :
    s.selfRefresh ch cancelled =
      let t := s.gotoNow (nth s.mem.idleAt ch + 100 * s.r Reg.MEM_CTRL_SR_IDLE)
      if cancelled then { t with mem := { t.mem with idleAt := s.mem.idleAt.set ch t.now } }.count Reg.MEM_CHAN_W1_SR_CANCELS ch
      else (t.w Reg.MEM_STATUS_IN_SR (s.r Reg.MEM_STATUS_IN_SR + 2 ^ ch)).count Reg.MEM_CHAN_W1_SR_ENTRIES ch := by
  have hnot : (s.mem.seqs.any fun (q : Nat × Nat) => decide (q.1 = ch)) = false := by simpa using hnone
  have hstage : (s.gotoNow (nth s.mem.idleAt ch + 100 * s.r Reg.MEM_CTRL_SR_IDLE)).stage = s.stage := rfl
  have hlow : ((!s.rb Reg.MEM_CTRL_IDLE_SR) && decide (s.stage ≠ 3)) = false := by
    rcases hidle with h | h
    · simp [h]
    · simp [h.1]
  have hdue : (decide (s.stage ≠ 3) && decide (nth s.mem.oscAt ch + 100000 * s.r Reg.MEM_CTRL_RETRAIN_MS
      ≤ max s.now (nth s.mem.idleAt ch + 100 * s.r Reg.MEM_CTRL_SR_IDLE))) = false := by
    rcases hidle with h | h
    · simp [h]
    · simp [Nat.not_le.2 h.2]
  unfold State.selfRefresh
  simp only [cyclesUs, State.gotoNow_rb, State.gotoNow_r, State.gotoNow_mem, State.gotoNow_now, hstage, htrained, bitsN_self, hawake, hpost, hnot,
    hlow, hdue, Nat.not_le.2 hch, decide_false, Bool.toNat_false, Bool.not_true, Bool.or_self, Nat.zero_ne_one, Bool.false_eq_true, if_false]

/-- What training found of the devices leaves the grades and the set point that are asked for (R385). -/
theorem State.chips_r (s : State) (density ranks : Nat) {f : Fld}
    (hf : f = Reg.MEM_CTRL_SP0_GRADE ∨ f = Reg.MEM_CTRL_SP1_GRADE ∨ f = Reg.MEM_CTRL_SP_SEL) :
    (((s.w Reg.MEM_STATUS_CH_OK 15).w Reg.MEM_STATUS_DENSITY density).w Reg.MEM_STATUS_RANKS ranks).r f = s.r f := by
  rcases hf with rfl | rfl | rfl <;>
    rw [State.w_other _ _ _ _ _ _ (by decide), State.w_other _ _ _ _ _ _ (by decide), State.w_other _ _ _ _ _ _ (by decide)]

/-- Settles O31. -/
theorem memoryRowsTakeEffect : Obligations.MemoryRowsTakeEffect := by
  refine ⟨fun dt s hp => ?_, fun ok g0 g1 density ranks dt hok hcap s hp => ?_, fun ok g1 density ranks same dt s hp => ?_,
    fun ch drift dt hch s hp => ?_, fun ch drift dt hch s hp => ?_, fun ch drift dt hch s hp => ?_, fun ch n rest dt s hp => ?_,
    fun ch n rest dt s hp => ?_, fun dt s hp => ?_, fun ch n dt s hp => ?_, fun ch idle dt hch s hp => ?_,
    fun ch idle dt hch s hp => ?_, fun ch rate hot dt hch s hp => ?_, fun ch hch s hp => ?_, fun ch hch s hp => ?_⟩
  · change execDramTrainingStart dt s = _
    rw [execDramTrainingStart, State.trainStart, if_pos (by rw [State.pass_trainReady]; exact hp)]
    rfl
  · have htrain : s.mem.training = true := hp
    change execDramTrainingDone ok (some g0) (some g1) density ranks true dt s = _
    rw [execDramTrainingDone, State.trainDone, if_neg (by simp [htrain])]
    dsimp only
    rw [if_pos (by simp [hok, hcap]), hok]
    simp only [State.chips_r _ _ _ (.inl rfl), State.chips_r _ _ _ (.inr (.inl rfl)), State.chips_r _ _ _ (.inr (.inr rfl))]
    rfl
  · have htrain : s.mem.training = true := hp
    change execDramTrainingDone ok none g1 density ranks same dt s = _
    rw [execDramTrainingDone, State.trainDone, if_neg (by simp [htrain])]
    rfl
  · obtain ⟨htrained, hlets, hswitch, hlim⟩ := hp
    change execOscCheck ch drift dt s = _
    rw [execOscCheck, State.oscCheck_measured (s := s.pass dt) hch htrained hlets hswitch]
    have hlim1 : ¬(s.pass dt).r Reg.MEM_CTRL_DRIFT_LIM < drift := Nat.not_lt.2 hlim
    have hlim2 : ¬2 * (s.pass dt).r Reg.MEM_CTRL_DRIFT_LIM < drift := by omega
    simp only [hlim1, hlim2, decide_false, Bool.false_and, Bool.false_eq_true, if_false]
    rfl
  · obtain ⟨htrained, hlets, hswitch, hover, hlim, hnone⟩ := hp
    change execOscCheck ch drift dt s = _
    rw [execOscCheck, State.oscCheck_measured (s := s.pass dt) hch htrained hlets hswitch]
    have hnot : (s.mem.seqs.any fun (q : Nat × Nat) => decide (q.1 = ch)) = false := by simpa using hnone
    have hlim2 : ¬2 * (s.pass dt).r Reg.MEM_CTRL_DRIFT_LIM < drift := Nat.not_lt.2 hlim
    simp only [State.pass_r, State.pass_mem, hover, hnot, decide_true, Bool.not_false, Bool.and_self, if_true] at hlim2 ⊢
    exact congrArg Host.Outcome.next (if_neg hlim2)
  · obtain ⟨htrained, hlets, hswitch, hlim, hhard, hany⟩ := hp
    change execOscCheck ch drift dt s = _
    rw [execOscCheck, State.oscCheck_measured (s := s.pass dt) hch htrained hlets hswitch]
    have hsome : (s.mem.seqs.any fun (q : Nat × Nat) => decide (q.1 = ch)) = true := by simpa using hany
    have hnone : ((s.pass dt).oscMeasured ch drift).mem.hard = [] := by rw [State.oscMeasured_hard, State.pass_mem, hhard]
    simp only [State.pass_r, State.pass_mem, hlim, hsome, hnone, Bool.not_true, Bool.and_false, Bool.false_eq_true, if_true, if_false,
      List.contains_nil]
    rfl
  · obtain ⟨hseqs, hmay, hn⟩ := hp
    change execRetrainBurst dt s = _
    rw [execRetrainBurst, State.retrainBurst_runs (s := s.pass dt) hseqs hmay]
    exact congrArg Host.Outcome.next (if_pos (by omega))
  · obtain ⟨hseqs, hmay, hn⟩ := hp
    change execRetrainBurst dt s = _
    rw [execRetrainBurst, State.retrainBurst_runs (s := s.pass dt) hseqs hmay]
    exact congrArg Host.Outcome.next (if_neg (by omega))
  · obtain ⟨hswitch, hzero⟩ := hp
    change execSpeedSwitch dt s = _
    rw [execSpeedSwitch, State.speedSwitch_clean (s := s.pass dt) hswitch hzero, State.pass_mem]
  · obtain ⟨hswitch, hseqs⟩ := hp
    change execSpeedSwitch dt s = _
    rw [execSpeedSwitch, State.speedSwitch_spoils (s := s.pass dt) hswitch hseqs]
    rfl
  · obtain ⟨htrained, hawake, hroom⟩ := hp
    change execRefreshDue ch idle dt s = _
    rw [execRefreshDue, State.refreshDue_awake (s := s.pass dt) hch htrained hawake]
    exact congrArg Host.Outcome.next (if_neg (by rw [State.pass_r]; omega))
  · obtain ⟨htrained, hawake, hover⟩ := hp
    change execRefreshDue ch idle dt s = _
    rw [execRefreshDue, State.refreshDue_awake (s := s.pass dt) hch htrained hawake]
    exact congrArg Host.Outcome.next (if_pos (by rw [State.pass_r]; omega))
  · have htrained : s.rb Reg.MEM_STATUS_TRAINED = true := hp
    change execMr4Read ch rate hot dt s = _
    rw [execMr4Read, State.mr4Read, if_neg (by simp [htrained]; omega)]
    rfl
  · obtain ⟨htrained, hidle, hawake, hpost, hnone⟩ := hp
    change execSelfRefreshEntry ch false s = _
    rw [execSelfRefreshEntry, State.selfRefresh_idle (s := s.pass 0) hch htrained hidle hawake hpost hnone]
    rfl
  · obtain ⟨htrained, hidle, hawake, hpost, hnone⟩ := hp
    change execSelfRefreshEntry ch true s = _
    rw [execSelfRefreshEntry, State.selfRefresh_idle (s := s.pass 0) hch htrained hidle hawake hpost hnone]
    rfl

end Sys2Proof.Machine
end

section
/-! The housekeeping round (R398–R408), the damper (R409–R413), the ledger (R414) and the plan (R62). -/

namespace Sys2Proof.Machine

/-- The step that falls due while a cause is raised and the cap may still fall (R411). -/
theorem State.capStep_lowers {s : State} (hstate : s.r Reg.HEARTH_DAMP_STATUS_STATE = 2) (hcause : s.anyCause = true)
    (hfloor : s.r Reg.HEARTH_DAMP_CTRL_FLOOR_W < s.r Reg.HEARTH_DAMP_STATUS_T_CAP) (hstep : 0 < s.r Reg.HEARTH_DAMP_CTRL_STEP_W) :
    s.capStep =
      let t := s.gotoNow (s.hearth.stepAt + if s.hardCause then 10000000 else 10000000 * s.r Reg.HEARTH_DAMP_CTRL_STEP_TIME)
      let cap := max (s.r Reg.HEARTH_DAMP_CTRL_FLOOR_W) (s.r Reg.HEARTH_DAMP_STATUS_T_CAP - s.r Reg.HEARTH_DAMP_CTRL_STEP_W)
      ({ t with hearth := { t.hearth with stepAt := t.now } }.setCap cap).raise 155 0 := by
  have hlower : max (s.r Reg.HEARTH_DAMP_CTRL_FLOOR_W) (s.r Reg.HEARTH_DAMP_STATUS_T_CAP - s.r Reg.HEARTH_DAMP_CTRL_STEP_W)
      ≠ s.r Reg.HEARTH_DAMP_STATUS_T_CAP := by omega
  unfold State.capStep
  rw [hstate]
  exact (if_pos hcause).trans (if_neg hlower)

/-- Without a cause the step that falls due begins RELEASING (R409). -/
theorem State.capStep_releases {s : State} (hstate : s.r Reg.HEARTH_DAMP_STATUS_STATE = 2) (hcause : s.anyCause = false) :
    s.capStep =
      ((s.gotoNow (s.hearth.quietAt + 10000000 * s.r Reg.HEARTH_DAMP_CTRL_STEP_TIME)).w Reg.HEARTH_DAMP_STATUS_STATE 3).capUp := by
  unfold State.capStep
  rw [hstate]
  exact if_neg (by simp [hcause])

theorem State.capStep_rises {s : State} (hstate : s.r Reg.HEARTH_DAMP_STATUS_STATE = 3) :
    s.capStep = (s.gotoNow (s.hearth.stepAt + 10000000 * s.r Reg.HEARTH_DAMP_CTRL_STEP_TIME)).capUp := by
  unfold State.capStep
  rw [hstate]
  rfl

/-- Settles O32, by the branch each row takes; the refusal of a set point while the damper lowers the cap is left to `requestSp`. -/
theorem heatRowsTakeEffect : Obligations.HeatRowsTakeEffect := by
  refine ⟨fun x s hp => ?_, fun s hp => ?_, fun s hp => ?_, fun s hp => ?_, fun s hp => ?_, fun s _ => rfl, fun acts done dt s _ => rfl⟩
  · have hon : s.domain 4 = 2 := hp
    change execHousekeepingRound x s = _
    rw [execHousekeepingRound, if_neg (by simp [hon])]
  · obtain ⟨hstate, hcause⟩ := hp
    have hcause' : ((s.pass 0).gotoNow (s.hearth.easeAt + 10000000 * s.r Reg.HEARTH_DAMP_CTRL_GRACE)).anyCause = true := hcause
    change execDamperGraceExpiry s = _
    rw [execDamperGraceExpiry, State.graceEnd, if_neg (by simp [hstate])]
    refine congrArg Host.Outcome.next ((if_pos hcause').trans ?_)
    unfold State.damperCap
    simp only [satN_eq_min]
    rfl
  · obtain ⟨hstate, hcause, hfloor, hstep⟩ := hp
    change execDamperStepExpiry s = _
    rw [execDamperStepExpiry, State.capStep_lowers (s := s.pass 0) hstate hcause hfloor hstep]
    rfl
  · obtain ⟨hstate, hcause⟩ := hp
    change execDamperStepExpiry s = _
    rw [execDamperStepExpiry, State.capStep_releases (s := s.pass 0) hstate hcause]
    rfl
  · have hstate : s.r Reg.HEARTH_DAMP_STATUS_STATE = 3 := hp
    change execDamperStepExpiry s = _
    rw [execDamperStepExpiry, State.capStep_rises (s := s.pass 0) hstate]
    rfl

end Sys2Proof.Machine
end

section
/-! The lanes: their start (R264, R265), reception (R262, R263, R273), transmission (R265, R276), the eye monitor (R270). -/

namespace Sys2Proof.Machine

/-! ### The record of a lane -/

theorem State.laneX_setLane_ne (s : State) (l k : Nat) (x : LaneX) (h : l ≠ k) : (s.setLane l x).laneX k = s.laneX k := by
  simp only [State.laneX, State.setLane, setNth, List.getD_eq_getElem?_getD, List.getElem?_set_ne h]

@[simp] theorem State.setLane_r (s : State) (l : Nat) (x : LaneX) (f : Fld) (i : Nat) : (s.setLane l x).r f i = s.r f i := rfl
@[simp] theorem State.setLane_laneState (s : State) (l k : Nat) (x : LaneX) : (s.setLane l x).laneState k = s.laneState k := rfl

theorem State.laneStart_starts {s : State} {l : Nat} (hmay : s.laneMay l = true) (hoff : s.laneState l = 0) :
    s.laneStart l =
      let t := (s.setLane l { LaneX.reset with startAt := some s.now, scrTx := 0x2B3C4D5E, align := 16 }).w
        Reg.LINK_LANE_W1_STATE (if laneRx l then 2 else 4) l
      let t := if laneRx l = true then t else t.driveBlank
      if l < 8 ∧ l % 2 = 0 then t.setPort (l / 2) { t.port (l / 2) with align := 16 } else t := by
  unfold State.laneStart
  rw [if_neg (by simp [hmay, hoff])]
  simp only [Bool.and_eq_true, decide_eq_true_eq]

/-! ### Reception -/

/-- What a receiver has of the line once the next raw bits have come. -/
def State.rawWith (s : State) (l : Nat) (got : List Bool) : List Bool := (s.laneX l).line ++ got

theorem State.laneReceive_search {s : State} {l : Nat} (hstate : s.laneState l = 2) (got : List Bool) :
    s.laneReceive l got = (.nothing, s.laneSearch l (s.laneX l) (s.rawWith l got)) := by
  unfold State.laneReceive
  rw [hstate]
  rfl

/-- A LOCKED receiver takes a slot of a defined type that decodes (R262, R263). -/
theorem State.laneReceive_block {s : State} {l ty st : Nat} {got : List Bool} {ws : List Word} (hstate : s.laneState l = 4)
    (hfull : 1237 ≤ (s.rawWith l got).length) (hmark : slotMarker ((s.rawWith l got).take 1237) = some ty)
    (hknown : markerTypes.contains ty = true) (hdata : decodeData (s.laneX l).scrRx ((s.rawWith l got).take 1237) = (some ws, st)) :
    s.laneReceive l got = (.block (laneType l ty) ws,
      s.setLane l { s.laneX l with line := (s.rawWith l got).drop 1237, scrRx := st, miss := 0 }) := by
  unfold State.rawWith at *
  unfold State.laneReceive
  rw [hstate]
  simp only [slotBits, hmark, hdata, hknown, Nat.not_lt.2 hfull, if_false, Bool.not_true, Bool.false_eq_true]

/-- The second half of a port superblock meets the first of the same type (R273). -/
theorem State.joinHalves_odd {s : State} {p ty : Nat} {g ws : List Word} (hheld : (s.laneX (2 * p)).held = some (some (ty, g))) :
    s.joinHalves (2 * p + 1) (some (ty, ws)) =
      (some (some (ty, (List.range 64).map (fun w => nthW (if w % 2 = 0 then g else ws) (w / 2)))),
        s.setLane (2 * p) { s.laneX (2 * p) with held := none }) := by
  have hodd : ¬(2 * p + 1) % 2 = 0 := by omega
  unfold State.joinHalves
  simp only [hodd, if_false, Nat.add_sub_cancel, hheld, if_true]

theorem State.wakeIfLocked_was (s : State) (p : Nat) : s.wakeIfLocked p true = s := rfl

theorem State.portTry_up {s : State} {p : Nat} (h : s.r Reg.LINK_PORT_W1_STATE p ≠ 0) : s.portTry p = s := by
  unfold State.portTry
  rw [if_neg (by simp [h])]

theorem laneType_port {l : Nat} (ty : Nat) (h : l < 8) : laneType l ty = ty := by
  rw [laneType, if_pos h]

theorem laneType_head {l : Nat} (h : 28 ≤ l) : laneType l 0x066 = 0x066 := by
  have hl : ¬l < 8 := by omega
  simp [laneType, hl]

/-- The bits of the line that one slot brings. -/
def gotBits (line : List Word) : List Bool := (line.flatMap (fun w => bitList 36 w.toNat)).take 1237

/-- A slot on a lane of the driver tiles delivers its HEAD to the read-back and the fault reports. -/
theorem State.slotReceive_head {s t : State} {l : Nat} {line ws : List Word} (hl : 28 ≤ l)
    (hgot : s.laneReceive l (gotBits line) = (.block 0x066 ws, t)) : s.slotReceive l line = (t.readback ws).faultMap ws := by
  have hlate : ¬l < 28 := by omega
  unfold gotBits at hgot
  unfold State.slotReceive
  simp only [slotBits, hlate, decide_false, Bool.and_false, Bool.false_eq_true, if_false, show 8 ≤ l by omega, if_true, hgot]

theorem State.slotReceive_nothing {s t : State} {l : Nat} {line : List Word} (hl : 28 ≤ l)
    (hgot : s.laneReceive l (gotBits line) = (.nothing, t)) : s.slotReceive l line = t := by
  have hlate : ¬l < 28 := by omega
  unfold gotBits at hgot
  unfold State.slotReceive
  simp only [slotBits, hlate, decide_false, Bool.and_false, Bool.false_eq_true, if_false, show 8 ≤ l by omega, if_true, hgot]

/-- The slot of a tile port's odd lane completes the superblock whose even half waits (R273). -/
theorem State.slotReceive_port {s t : State} {p ty : Nat} {line g ws : List Word} (hp : p < 4)
    (heven : s.laneState (2 * p) = 4) (hodd : s.laneState (2 * p + 1) = 4)
    (hgot : s.laneReceive (2 * p + 1) (gotBits line) = (.block ty ws, t)) (hup : t.r Reg.LINK_PORT_W1_STATE p ≠ 0)
    (hheld : (t.laneX (2 * p)).held = some (some (ty, g))) :
    s.slotReceive (2 * p + 1) line = (t.setLane (2 * p) { t.laneX (2 * p) with held := none }).portBlock p ty
      ((List.range 64).map (fun w => nthW (if w % 2 = 0 then g else ws) (w / 2))) := by
  have hport : (2 * p + 1) / 2 = p := by omega
  have hnot : ¬8 ≤ 2 * p + 1 := by omega
  unfold gotBits at hgot
  unfold State.slotReceive
  simp only [slotBits, hport, heven, hodd, hnot, decide_false, decide_true, Bool.false_and, Bool.and_self, Bool.false_eq_true, if_false, hgot,
    State.wakeIfLocked_was, State.portTry_up hup, State.joinHalves_odd hheld]

/-! ### Transmission -/

theorem State.emitterSlot_sends {s : State} {k : Nat} (errs : List ReadErr) (hstate : s.laneState (k + 12) ≠ 0) :
    (s.emitterSlot k errs).2 =
      let x := s.laneX (k + 12)
      let b := s.nextBlock k errs
      if x.align ≠ 0 then (s.setLane (k + 12) { x with align := x.align - 1 }).sendLane (k + 12) 0x0E1 []
      else if b.1.1 = 0x055 then b.2.sendLane (k + 12) 0x055 b.1.2
      else (b.2.emit .emit [k, b.1.1] b.1.2).sendLane (k + 12) b.1.1 b.1.2 := by
  unfold State.emitterSlot
  rw [if_neg hstate]
  dsimp only
  by_cases halign : (s.laneX (k + 12)).align ≠ 0
  · rw [if_pos halign, if_pos halign]
  · rw [if_neg halign, if_neg halign]
    by_cases hidle : (s.nextBlock k errs).1.1 = 0x055
    · rw [if_pos hidle, if_pos hidle, hidle]
    · rw [if_neg hidle, if_neg hidle]

/-! ### The eye monitor -/

theorem State.eyeDone_measured {s : State} {l : Nat} {auto : Bool} (heye : s.lane.eye = some (l, auto)) (h v : Nat) :
    s.eyeDone h v =
      let t := { s with lane := { s.lane with eye := none } }.ws
        [(Reg.LINK_EYE_CTRL_BUSY, 0, 0), (Reg.LINK_LANE_W3_EYE_VALID, l, 1), (Reg.LINK_LANE_W3_EYE_H, l, h),
         (Reg.LINK_LANE_W3_EYE_V, l, v)]
      let t := t.laneEvent 374 l l
      if auto = true ∧ (h < s.r Reg.LINK_EYE_CTRL_MIN_H ∨ v < s.r Reg.LINK_EYE_CTRL_MIN_V) then t.laneEvent 373 l l else t := by
  unfold State.eyeDone
  rw [heye]
  simp only [Bool.and_eq_true, Bool.or_eq_true, decide_eq_true_eq]

/-- The automatic measurement takes the next receive lane that is locked (R270). -/
theorem execEyeAutoSchedule_next {s : State} {l n : Nat} (hn : cyclesS 60 = n) (hauto : s.rb Reg.LINK_EYE_CTRL_AUTO = true)
    (hfree : s.lane.eye = none)
    (hfind : ((List.range 32).map (fun n => (s.lane.autoNext + n) % 32)).find? (fun l => laneRx l && s.rxLocked l) = some l) :
    execEyeAutoSchedule s =
      let t := s.gotoNow (s.lane.autoAt + n)
      .next ({ t with lane := { t.lane with autoAt := t.now, autoNext := (l + 1) % 32, eye := some (l, true), eyeAt := t.now } }.ws
        [(Reg.LINK_EYE_CTRL_BUSY, 0, 1), (Reg.LINK_EYE_CTRL_ERROR, 0, 0)]) := by
  unfold execEyeAutoSchedule
  rw [hn]
  have hfind' : ((List.range 32).map (fun i => ((s.gotoNow (s.lane.autoAt + n)).lane.autoNext + i) % 32)).find?
      (fun l => laneRx l && (s.gotoNow (s.lane.autoAt + n)).rxLocked l) = some l := hfind
  refine (if_neg (by simp [hauto, hfree])).trans ?_
  dsimp only
  rw [hfind']
  rfl

/-- Settles O33, by the states of a lane; the events follow R263 and R264, the representation of the record assumption logs 19 and 42. -/
theorem laneRowsTakeEffect : Obligations.LaneRowsTakeEffect := by
  refine ⟨fun l s hp => ?_, fun l t s hp => ?_, fun l line dt hlo hhi s hp => ?_, fun l line dt ws st hlo hhi => ?_,
    fun p line dt ws st ty g hport hknown => ?_, fun l errs dt hl s hp => ?_, fun l errs dt hlo hhi s hp => ?_,
    fun h v l auto s hp => ?_, fun l s hp => ?_⟩
  · obtain ⟨hmay, hoff⟩ := hp
    change execLaneStart l s = _
    rw [execLaneStart, State.laneStart_starts (s := s.pass 0) hmay hoff]
    rfl
  · obtain ⟨hat, hrx, hfree, hstate, htold⟩ := hp
    have hus : cyclesUs 10000 = 1000000 := by norm_num [cyclesUs]
    change execLaneStartFail l s = _
    unfold execLaneStartFail
    dsimp only
    rw [hat, hus]
    exact if_neg (by simp [hrx, hfree, hstate, htold])
  · have hstate : s.laneState l = 2 := hp
    change execSuperblockReceive l line dt s = _
    rw [execSuperblockReceive, Nat.mod_eq_of_lt hhi,
      State.slotReceive_nothing (s := s.pass dt) hlo (State.laneReceive_search (s := s.pass dt) hstate _), State.laneSearch]
    dsimp only
    unfold State.rawWith gotBits
    cases hfind : findMarker ((s.laneX l).line ++ (line.flatMap (fun w => bitList 36 w.toNat)).take 1237) <;>
      exact congrArg Host.Outcome.next (by rw [show ((s.pass dt).laneX l) = s.laneX l from rfl, hfind])
  · intro raw s hp
    obtain ⟨hstate, hfull, hmark, hdata⟩ := hp
    have hgot := State.laneReceive_block (s := s.pass dt) (got := gotBits line) hstate hfull hmark (ty := 0x066) (by decide) hdata
    rw [laneType_head hlo] at hgot
    change execSuperblockReceive l line dt s = _
    rw [execSuperblockReceive, Nat.mod_eq_of_lt hhi, State.slotReceive_head hlo hgot]
    rfl
  · intro l raw s hp
    obtain ⟨heven, hodd, hup, hfull, hmark, hheld, hlen, hdata⟩ := hp
    have hgot := State.laneReceive_block (s := s.pass dt) (got := gotBits line) hodd hfull hmark hknown hdata
    rw [laneType_port ty (by omega)] at hgot
    have hkeep := fun x => State.laneX_setLane_ne (s.pass dt) (2 * p + 1) (2 * p) x (by omega)
    change execSuperblockReceive (2 * p + 1) line dt s = _
    rw [execSuperblockReceive, Nat.mod_eq_of_lt (by omega),
      State.slotReceive_port (s := s.pass dt) hport heven hodd hgot hup ((congrArg LaneX.held (hkeep _)).trans hheld), hkeep]
    rfl
  · obtain ⟨heven, hodd, hawake⟩ := hp
    change execSuperblockSlotSend l dt s errs = _
    rw [execSuperblockSlotSend, if_pos hl, if_neg]
    · rcases hawake with hawake | hawake
      · simp [heven, hodd, hawake]
      · simp [heven, hodd, Option.isNone_eq_false_iff.2 hawake]
  · have hstate : ((s.pass dt).wakesDone).laneState l ≠ 0 := hp
    obtain ⟨k, rfl⟩ : ∃ k, l = k + 12 := ⟨l - 12, by omega⟩
    change execSuperblockSlotSend (k + 12) dt s errs = _
    rw [execSuperblockSlotSend, if_neg (by omega), if_pos (by simp; omega), Nat.add_sub_cancel, State.emitterSlot_sends errs hstate]
  · have heye : s.lane.eye = some (l, auto) := hp
    change execEyeMeasureDone h v s = _
    unfold execEyeMeasureDone
    rw [heye]
    dsimp only
    rw [State.eyeDone_measured (s := s.gotoNow _) heye]
    rfl
  · obtain ⟨hauto, hfree, hfind⟩ := hp
    change execEyeAutoSchedule s = _
    exact execEyeAutoSchedule_next (by norm_num [cyclesS]) hauto hfree hfind

end Sys2Proof.Machine
end

section
/-! The tile ports: their state (R274, R275), packets and credits (R278–R281), LRESET (R294). -/

namespace Sys2Proof.Machine

/-- A second undamaged CTRL superblock on a port in HELLO (R274, R276). -/
theorem State.ctrlSeen_up {s : State} {p : Nat} {ws : List Word} (hctrl : bits (nthW ws 0) 35 32 = 1) (hsleep : bits (nthW ws 6) 6 4 ≠ 4)
    (hstate : s.r Reg.LINK_PORT_W1_STATE p = 1) (hhello : 1 ≤ (s.port p).hello) :
    s.ctrlSeen p ws =
      let v := s.port p
      let t := (s.setPort p { v with ctrlAt := s.now, hello := v.hello + 1
                                     cred := (List.range 5).map (fun c => bits (nthW ws (1 + c)) 19 0) }).takeFar p ws
      let t := ((t.w Reg.LINK_PORT_W1_STATE 2 p).raise 256 p).sessionUp p
      if t.isWorker && t.rb Reg.LINK_POS_PLACED && t.contradicts (t.r Reg.LINK_POS_X) (t.r Reg.LINK_POS_Y) (t.r Reg.LINK_POS_ROT) p then
        t.raiseTick 266 p p
      else t := by
  have htwo : ¬(1 = 2) := by decide
  unfold State.ctrlSeen
  rw [if_neg (by simp [hstate, hctrl])]
  dsimp only
  rw [if_neg hsleep]
  simp only [hstate, htwo, hhello, decide_true, Bool.and_self, if_true, if_false]

/-- Unacknowledged packets without a TIME request among them are sent again (R280). -/
theorem State.replay_again {s : State} {p : Nat} (hwait : (s.port p).replay ≠ []) (hfew : (s.port p).replays < 8)
    (hno : ∀ q ∈ (s.port p).replay, isTReq q = false) :
    s.replay p =
      let v := s.port p
      ((s.setPort p { v with txq := v.replay ++ v.txq, replay := [], replays := v.replays + 1, ackAt := s.now }).count
        Reg.LINK_PORT_W2_REPLAYS p).raiseTick 259 p p := by
  have hnone : (s.port p).replay.any isTReq = false := by simpa using hno
  unfold State.replay
  dsimp only
  rw [if_neg (by simp [hwait]), if_neg (by omega), hnone, if_neg Bool.false_ne_true]

/-- The eighth replay in a row was the last (R280). -/
theorem State.replay_last {s : State} {p : Nat} (hwait : (s.port p).replay ≠ []) (hmany : 8 ≤ (s.port p).replays) :
    s.replay p = (s.raise 260 p).portDown p := by
  unfold State.replay
  dsimp only
  rw [if_neg (by simp [hwait]), if_pos hmany]

theorem State.lresetSeen_first {s : State} {p : Nat} (hnone : (s.port p).lreset = 0) (hstate : s.r Reg.LINK_PORT_W1_STATE p ≠ 0) :
    s.lresetSeen p = (s.resetPort p).raise 273 p := by
  unfold State.lresetSeen
  rw [if_neg (by simp [hnone, hstate])]

/-! ### Packets -/

/-- A packet that arrived as it was sent: whole, its check right, its bad mark clear (R278). -/
structure Undamaged (ws : List Word) : Prop where
  whole : 3 + h0Len (nthW ws 0) ≤ ws.length
  crc : bits (nthW ws (3 + h0Len (nthW ws 0) - 1)) 31 0 = crcWords (ws.take (3 + h0Len (nthW ws 0) - 1))
  mark : bit (nthW ws (3 + h0Len (nthW ws 0) - 1)) 35 = false
  len : h0Len (nthW ws 0) ≤ 1021

theorem State.packetSeen_good {s : State} {p : Nat} {ws : List Word} (hws : Undamaged ws) (hup : s.portUp p = true)
    (hvc : h0Vc (nthW ws 0) < 5) :
    s.packetSeen p ws false =
      let n := 3 + h0Len (nthW ws 0)
      let vc := h0Vc (nthW ws 0)
      let v := s.port p
      let d := seqAhead (h0Seq (nthW ws 0)) v.rxSeq
      if vcRetry vc && d ≠ 0 then (if d < 128 then s else s.setPort p { v with nak := true }).freeWords p vc n
      else
        let s := if vcRetry vc then s.setPort p { v with rxSeq := (v.rxSeq + 1) % 256, rxAny := true, nak := false, owe := true } else s
        if vc = 2 then (s.freeWords p vc n).timePacket p ((ws.take (n - 1)).drop 2) (bit (nthW ws (n - 1)) 34)
        else if s.border p then (s.freeWords p vc n).raise 263 p
        else s.routePacket p (ws.take (n - 1)) := by
  obtain ⟨hwhole, hcrc, hmark, hlen⟩ := hws
  have hvc' : ¬5 ≤ h0Vc (nthW ws 0) := by omega
  have hlen' : ¬1021 < h0Len (nthW ws 0) := by omega
  unfold State.packetSeen
  dsimp only
  rw [if_neg (by simp [hup]), if_neg (by simp [hvc', hlen']), if_neg (by rw [hmark, hcrc]; simp [hwhole])]

/-- On the channels without replay a packet goes straight to its route (R278, R281). -/
theorem State.packetSeen_unordered {s : State} {p : Nat} {ws : List Word} (hws : Undamaged ws) (hup : s.portUp p = true)
    (hborder : s.border p = false) (hvc : h0Vc (nthW ws 0) = 1 ∨ h0Vc (nthW ws 0) = 4) :
    s.packetSeen p ws false = s.routePacket p (ws.take (3 + h0Len (nthW ws 0) - 1)) := by
  have hretry : vcRetry (h0Vc (nthW ws 0)) = false := by rcases hvc with h | h <;> rw [h] <;> rfl
  have htime : ¬h0Vc (nthW ws 0) = 2 := by omega
  rw [State.packetSeen_good hws hup (by omega)]
  simp only [hretry, htime, hborder, Bool.false_and, Bool.false_eq_true, if_false]

/-- On the channels with replay the packet expected next advances the sequence (R279). -/
theorem State.packetSeen_ordered {s : State} {p : Nat} {ws : List Word} (hws : Undamaged ws) (hup : s.portUp p = true)
    (hborder : s.border p = false) (hseq : seqAhead (h0Seq (nthW ws 0)) (s.port p).rxSeq = 0)
    (hvc : h0Vc (nthW ws 0) = 0 ∨ h0Vc (nthW ws 0) = 3) :
    s.packetSeen p ws false =
      (s.setPort p { s.port p with rxSeq := ((s.port p).rxSeq + 1) % 256, rxAny := true, nak := false, owe := true }).routePacket p
        (ws.take (3 + h0Len (nthW ws 0) - 1)) := by
  have hretry : vcRetry (h0Vc (nthW ws 0)) = true := by rcases hvc with h | h <;> rw [h] <;> rfl
  rw [State.packetSeen_good hws hup (by omega)]
  dsimp only
  rw [if_neg (by simp [hseq]), if_pos hretry, if_neg (by omega)]
  exact if_neg (fun h : s.border p = true => absurd (hborder.symm.trans h) Bool.false_ne_true)

/-- A TIME packet expected next is consumed here (R279, R282). -/
theorem State.packetSeen_time {s : State} {p : Nat} {ws : List Word} (hws : Undamaged ws) (hup : s.portUp p = true)
    (hseq : seqAhead (h0Seq (nthW ws 0)) (s.port p).rxSeq = 0) (hvc : h0Vc (nthW ws 0) = 2) :
    s.packetSeen p ws false =
      ((s.setPort p { s.port p with rxSeq := ((s.port p).rxSeq + 1) % 256, rxAny := true, nak := false, owe := true }).freeWords p 2
        (3 + h0Len (nthW ws 0))).timePacket p ((ws.take (3 + h0Len (nthW ws 0) - 1)).drop 2)
        (bit (nthW ws (3 + h0Len (nthW ws 0) - 1)) 34) := by
  have hretry : vcRetry 2 = true := rfl
  rw [State.packetSeen_good hws hup (by omega)]
  dsimp only
  rw [hvc, if_neg (by simp [hseq]), if_pos hretry, if_pos rfl]

/-- A damaged TIME packet is asked for again and frees the credits that its header names (assumption log 39). -/
theorem State.packetSeen_damaged {s : State} {p : Nat} {ws : List Word} (hup : s.portUp p = true) (hvc : h0Vc (nthW ws 0) = 2)
    (hlen : h0Len (nthW ws 0) ≤ 1021) :
    s.packetSeen p ws true =
      (((s.setPort p { s.port p with nak := true }).count Reg.LINK_PORT_W2_DAMAGED p).raiseTick 258 p p).freeWords p 2
        (3 + h0Len (nthW ws 0)) := by
  have hvc' : ¬5 ≤ h0Vc (nthW ws 0) := by omega
  have hlen' : ¬1021 < h0Len (nthW ws 0) := by omega
  have hretry : vcRetry (h0Vc (nthW ws 0)) = true := by rw [hvc]; rfl
  unfold State.packetSeen
  dsimp only
  rw [if_neg (by simp [hup]), if_neg (by simp [hvc', hlen']), if_pos (by simp), if_pos (by simp [hretry]), State.discard]
  rw [if_pos (by simp [hvc]), hvc]

/-- Settles O34, by the branches of `packetSeen` and `ctrlSeen`; the credits of a damaged packet follow assumption log 39. -/
theorem portRowsTakeEffect : Obligations.PortRowsTakeEffect := by
  refine ⟨fun p words dt hp hctrl hsleep s h => ?_, fun p hp s h => ?_, fun p hp s h => ?_, fun p hp s h => ?_, fun p hp s h => ?_,
    fun p words dt hp => ?_, fun p words dt hp hvc hlen s h => ?_⟩
  · obtain ⟨hstate, hhello⟩ := h
    change execCtrlSuperblockReceive p words dt s = _
    rw [execCtrlSuperblockReceive, Nat.mod_eq_of_lt hp, State.ctrlSeen_up (s := s.pass dt) hctrl hsleep hstate hhello]
    rfl
  · have hstate : s.r Reg.LINK_PORT_W1_STATE p ≠ 0 := h
    have hus : cyclesUs 1000 = 100000 := by norm_num [cyclesUs]
    change execPortHelloTimeout p s = _
    rw [execPortHelloTimeout, Nat.mod_eq_of_lt hp, hus]
    exact if_neg hstate
  · obtain ⟨hnone, hstate⟩ := h
    change execLresetReceive p s = _
    rw [execLresetReceive, Nat.mod_eq_of_lt hp, State.lresetSeen_first (s := s.pass 0) hnone hstate]
  · obtain ⟨hwait, hup, hfew, hno⟩ := h
    have hus : cyclesUs 20 = 2000 := by norm_num [cyclesUs]
    change execReplayTimeout p s = _
    rw [execReplayTimeout, Nat.mod_eq_of_lt hp, hus]
    refine (if_neg (by simp [hwait, hup])).trans ?_
    rw [State.replay_again (s := s.gotoNow _) hwait hfew hno]
    rfl
  · obtain ⟨hwait, hup, hmany⟩ := h
    have hus : cyclesUs 20 = 2000 := by norm_num [cyclesUs]
    change execReplayTimeout p s = _
    rw [execReplayTimeout, Nat.mod_eq_of_lt hp, hus]
    refine (if_neg (by simp [hwait, hup])).trans ?_
    rw [State.replay_last (s := s.gotoNow _) hwait hmany]
  · intro h0 n body hwhole hcrc hmark hlen
    have hws : Undamaged words := ⟨hwhole, hcrc, hmark, hlen⟩
    refine ⟨fun hvc s h => ?_, fun hvc s h => ?_, fun hvc s h => ?_⟩
    · obtain ⟨hup, hborder⟩ := h
      change execCawellPacketReceive p words false dt s = _
      rw [execCawellPacketReceive, Nat.mod_eq_of_lt hp, State.packetSeen_unordered (s := s.pass dt) hws hup hborder hvc]
    · obtain ⟨hup, hborder, hseq⟩ := h
      change execCawellPacketReceive p words false dt s = _
      rw [execCawellPacketReceive, Nat.mod_eq_of_lt hp, State.packetSeen_ordered (s := s.pass dt) hws hup hborder hseq hvc]
      rfl
    · obtain ⟨hup, hseq⟩ := h
      change execCawellPacketReceive p words false dt s = _
      rw [execCawellPacketReceive, Nat.mod_eq_of_lt hp, State.packetSeen_time (s := s.pass dt) hws hup hseq hvc]
      rfl
  · have hup : s.portUp p = true := h
    change execCawellPacketReceive p words true dt s = _
    rw [execCawellPacketReceive, Nat.mod_eq_of_lt hp, State.packetSeen_damaged (s := s.pass dt) hup hvc hlen]
    rfl

end Sys2Proof.Machine
end

section
/-! The check of the credentials (R463) on a state with a fourth base. -/

namespace Sys2Proof.Machine

/-- A credential that lapses a week after the fourth base's time. -/
def lapsingCred : Cred := ⟨false, 0, 5600000, false, 0, []⟩

/-- A state whose tick source is code 3, marked valid, and whose list of bases has a fourth entry, at 5,000,000 s. No step from reset gives
such a list: `pass` rewrites it with the three bases of R352. -/
def fourthBase : State :=
  let r : RegFile := [(Reg.TIME_BASE_W5_VALID.key 3, 1), (Reg.TIME_TICK_STATUS_SOURCE.key 0, 3)]
  { State.reset with
    regs := r
    time := { TimeState.reset with tb := [0, 0, 0, 5000000 * secUnits * 2 ^ 18] }
    sec := { SecState.reset with store := { SecState.reset.store with creds := [lapsingCred] } } }

theorem fourthBase_tb3Valid : fourthBase.tb3Valid = true := by decide +kernel

theorem fourthBase_second : fourthBase.second = 5000000 := by decide +kernel

theorem fourthBase_latched : (fourthBase.pass 0).latched 81 = false := by decide +kernel

/-- As time passes the fourth base is gone and the source reads as zero: no credential is near its end. -/
theorem execCredExpiryCheck_fourthBase : execCredExpiryCheck fourthBase = .next (fourthBase.pass 0) := by
  have hsecond : (fourthBase.pass 0).second = 0 := by decide +kernel
  have hcreds : (fourthBase.pass 0).sec.store.creds = [lapsingCred] := rfl
  have hold : ([false, true].any fun m => (((fourthBase.pass 0).sec.store.presented m).map (·.legacy)).getD false) = false := by
    decide +kernel
  unfold execCredExpiryCheck
  dsimp only
  rw [hold, hsecond, hcreds]
  rfl

/-- Refutes O35: its clause on the credentials speaks of every state, and where the source register holds code 3 the time of `s` reads a
fourth entry of the bases' list that `pass` drops, so that the credential near its end is not reported with event 81. -/
theorem not_secureRowsTakeEffect : ¬ Obligations.SecureRowsTakeEffect := by
  rintro ⟨-, -, -, -, -, -, -, -, -, -, hcheck, -, -⟩
  have hraised := hcheck fourthBase ⟨fourthBase_tb3Valid, ⟨lapsingCred, List.mem_singleton_self _, by decide,
    by rw [fourthBase_second]; decide⟩, fun c hc => by rw [List.mem_singleton.1 hc]; rfl⟩
  change execCredExpiryCheck fourthBase = _ at hraised
  rw [execCredExpiryCheck_fourthBase] at hraised
  have hstate : fourthBase.pass 0 = (fourthBase.pass 0).raise 81 0 := by injection hraised
  obtain ⟨hlatched, -⟩ := eventRaised (fourthBase.pass 0) 81 0 (by decide)
  rw [← hstate, fourthBase_latched] at hlatched
  exact Bool.false_ne_true hlatched

end Sys2Proof.Machine
end

section
/-! The transports (R419, R425, R427) and the census (R289–R291, R465). -/

namespace Sys2Proof.Machine

/-! ### Packets of the transports -/

theorem Datagram.of_parts (d : Datagram) : Datagram.of d.eth d.vid d.good d.ip d.ports d.bytes = d := rfl

/-- A packet of the length that its word 0 claims goes to the interpreter (R419). -/
theorem State.packetBytes_taken {s : State} {bs : List Byte} (src : Source)
    (hlen : bs.length = packedLen (2 + bits (nthW (wordsOfBytes bs) 0) 11 0)) (hcount : bits (nthW (wordsOfBytes bs) 0) 11 0 ≤ 1018) :
    s.packetBytes src bs =
      let ws := wordsOfBytes bs
      let n := bits (nthW ws 0) 35 24
      s.take (opFind n) n ⟨src, bits (nthW ws 0) 23 12, nthW ws 1, (ws.drop 2).take (bits (nthW ws 0) 11 0), none, 0, 0⟩ := by
  have hcount' : ¬1018 < bits (nthW (wordsOfBytes bs) 0) 11 0 := by omega
  unfold State.packetBytes
  exact if_neg (by simp [hlen.symm, hcount'])

theorem State.packetBytes_badLength {s : State} {bs : List Byte} (src : Source)
    (hlen : bs.length ≠ packedLen (2 + bits (nthW (wordsOfBytes bs) 0) 11 0)) :
    s.packetBytes src bs =
      s.sendReply s src (bits (nthW (wordsOfBytes bs) 0) 35 24) (bits (nthW (wordsOfBytes bs) 0) 23 12) .badLength := by
  unfold State.packetBytes
  exact if_pos (by simp [hlen])

theorem State.take_udp {s : State} {c : Cmd} (halive : s.alive = true) (hvia : c.src.via = .udp) (hmgr : s.isMgr = true) (n : Nat) :
    s.take (opFind n) n c = s.interpret c.params.length (opFind n) n c := by
  unfold State.take
  rw [if_neg (by simp [halive]), hvia]
  exact if_pos hmgr

theorem State.take_spi {s : State} {c : Cmd} (halive : s.alive = true) (hvia : c.src.via = .spi) (n : Nat) :
    s.take (opFind n) n c = s.interpret c.params.length (opFind n) n c := by
  unfold State.take
  rw [if_neg (by simp [halive]), hvia]

/-! ### The census: its index stands through the events and the workers' rows -/

theorem State.raise_idx (s : State) {e : Nat} (d : Nat) (he : e < 1024) : (s.raise e d).r Reg.MGR_CTRL_IDX = s.r Reg.MGR_CTRL_IDX :=
  State.raise_other s e d Reg.MGR_CTRL_IDX 0 he (by decide)

theorem State.raises_idx (s : State) (l : List (Nat × Nat)) (h : ∀ p ∈ l, p.1 < 1024) :
    (s.raises l).r Reg.MGR_CTRL_IDX = s.r Reg.MGR_CTRL_IDX := by
  induction l generalizing s with
  | nil => rfl
  | cons p l ih =>
    have hp : p.1 < 1024 := h p List.mem_cons_self
    exact (ih (s.raise p.1 p.2) (fun q hq => h q (List.mem_cons_of_mem p hq))).trans (s.raise_idx p.2 hp)

theorem State.raises_same_idx {α : Type} (s : State) (l : List α) {e : Nat} (he : e < 1024) :
    (s.raises (l.map fun _ => (e, 0))).r Reg.MGR_CTRL_IDX = s.r Reg.MGR_CTRL_IDX :=
  s.raises_idx _ fun p hp => by
    obtain ⟨_, _, rfl⟩ := List.mem_map.1 hp
    exact he

theorem State.showSplice_idx (s : State) (i : Nat) : (s.showSplice i).r Reg.MGR_CTRL_IDX = s.r Reg.MGR_CTRL_IDX :=
  State.w_other _ _ _ _ _ _ (key_ne_of_lo (by decide) (by decide) (by decide))

theorem State.takeWorkers_idx (s : State) (ps : List Placed) : (s.takeWorkers ps).r Reg.MGR_CTRL_IDX = s.r Reg.MGR_CTRL_IDX := by
  unfold State.takeWorkers
  refine List.foldlRecOn (motive := fun t : State => t.r Reg.MGR_CTRL_IDX = s.r Reg.MGR_CTRL_IDX) _ _ ?_ fun t ht i _ => ?_
  · rfl
  split
  · rw [State.showSplice_idx, State.ws_other _ _ _ _ ?_, ht]
    simp only [List.forall_mem_cons, List.not_mem_nil, false_implies, implies_true, and_true]
    exact ⟨key_ne_of_lo (by decide) (by decide) (by decide), key_ne_of_lo (by decide) (by decide) (by decide),
      key_ne_of_lo (by decide) (by decide) (by decide)⟩
  · rw [State.ws_other _ _ _ _ ?_, ht]
    simp only [List.forall_mem_cons, List.not_mem_nil, false_implies, implies_true, and_true]
    exact ⟨key_ne_of_lo (by decide) (by decide) (by decide), key_ne_of_lo (by decide) (by decide) (by decide),
      key_ne_of_lo (by decide) (by decide) (by decide), key_ne_of_lo (by decide) (by decide) (by decide)⟩

theorem State.takeWorkers_mgr (s : State) (ps : List Placed) :
    (s.takeWorkers ps).mgr = { s.mgr with workers := ps.map (fun p =>
      { (s.mgr.workers.find? (fun (w : Worker) => w.x = p.x.toNat && w.y = p.y.toNat)).getD { Worker.reset with filled := s.now } with
        x := p.x.toNat, y := p.y.toNat, rot := p.rot, nonce := p.nonce, port := p.port, tile := none }) } := by
  unfold State.takeWorkers
  refine List.foldlRecOn (motive := fun t : State => t.mgr = _) _ _ ?_ fun t ht i _ => ?_
  · rfl
  · split
    · exact ht
    · exact ht

theorem oncePerNonce_nil : oncePerNonce [] = [] := rfl

/-- Without a report nobody is reached, and without a map nobody is placed. -/
theorem reachAll_nil (idx : Nat) : reachAll [] (mapAttachments []) idx = [] := by
  have hatts : mapAttachments [] = [] := by simp [mapAttachments]
  rw [hatts]
  rfl

theorem sound_nil (m : List Word) : sound [] m [] = [] := rfl

/-- The end of a census with its index read once (R290, R291). -/
theorem State.censusEnd_eq {s : State} {idx : Nat} {m : List Word} {heard : List Report} (hidx : s.r Reg.MGR_CTRL_IDX = idx)
    (hmap : s.link.map = m) (hreports : s.mgr.reports = heard) (routes : List (Word × List Word)) :
    s.censusEnd routes =
      let reports := oncePerNonce heard
      let good := sound reports m (reachAll reports (mapAttachments m) idx)
      let placed := withinLimits good
      let links := meshLinks reports placed
      let safe (w : Placed) : Bool := twoPaths links placed w && twentyHops links idx w
      let t := s.raises ((reports.filter (fun r => !placed.any (fun p => p.nonce = r.nonce))).map (fun _ => (290, 0)))
      let t := t.raises ((good.filter (fun p => !placed.contains p)).map (fun _ => (291, 0)))
      let t := t.raises (((mapTiles m).filter (fun x => !placed.any (fun p => p.x = x.1 && p.y = x.2.1))).map (fun _ => (292, 0)))
      let t := t.raises ((placed.filter (fun p => !safe p)).map (fun _ => (293, 0)))
      let t := (t.raise 289 0).takeWorkers placed
      let reached := (placed.filter safe).all (routeOk reports placed routes idx)
      let t := if m = [] then t else t.install placed (if reached = true then routes else [])
      let t := if t.mgr.claimAfterCensus = true then t.sendTakeover else t
      (t.setMgr { t.mgr with censusOpen := false, censusReq := none, reports := [] }).completeOpt t.mgr.censusReq .done := by
  subst hidx hmap hreports
  unfold State.censusEnd
  simp only [State.raises_same_idx _ _ (show 290 < 1024 by decide), State.raises_same_idx _ _ (show 291 < 1024 by decide),
    State.raises_same_idx _ _ (show 292 < 1024 by decide), State.raises_same_idx _ _ (show 293 < 1024 by decide),
    State.raise_idx _ _ (show 289 < 1024 by decide), State.takeWorkers_idx, List.isEmpty_iff]

/-- With no report and no map a census ends with no worker. -/
theorem State.censusEnd_empty {s : State} (hreports : s.mgr.reports = []) (hmap : s.link.map = []) (hclaim : s.mgr.claimAfterCensus = false)
    (routes : List (Word × List Word)) :
    s.censusEnd routes =
      let t := (s.raise 289 0).takeWorkers []
      (t.setMgr { t.mgr with censusOpen := false, censusReq := none, reports := [] }).completeOpt t.mgr.censusReq .done := by
  have hclaim' : ((s.raise 289 0).takeWorkers []).mgr.claimAfterCensus = false :=
    (congrArg MgrState.claimAfterCensus ((s.raise 289 0).takeWorkers_mgr [])).trans hclaim
  have hplaced : withinLimits [] = [] := rfl
  have htiles : mapTiles [] = [] := by simp [mapTiles]
  have hnone (t : State) : t.raises [] = t := rfl
  rewrite [State.censusEnd_eq rfl hmap hreports]
  simp only [oncePerNonce_nil, reachAll_nil, sound_nil, hplaced, htiles, List.filter_nil, List.map_nil, hnone, if_true]
  simp only [hclaim', Bool.false_eq_true, if_false]

/-- Settles O36. 290 for every worker without a place, with 291 in addition, and routes installed only where they keep R290 follow assumption
log 43; that a computation with no census open changes nothing, log 80. -/
theorem transportRowsTakeEffect : Obligations.TransportRowsTakeEffect := by
  refine ⟨fun d dt hlen s h => ?_, fun d dt s h => ?_, fun bs dt hlen s h => ?_, fun bs dt hlen s h => ?_, fun n s h => ?_,
    fun q hops due s h => ?_, fun routes s h => ?_, fun routes s h => ?_, fun routes s h => ?_, fun n s h => ?_⟩
  · obtain ⟨halive, hmgr, hheard, hown, hport, hpacked, hcount⟩ := h
    change execUdpCommandDatagram d.ip d.ports d.bytes dt s d.eth d.vid d.good = _
    rw [execUdpCommandDatagram, Datagram.of_parts, if_neg, State.packetBytes_taken _ hpacked hcount]
    · exact congrArg Host.Outcome.next (State.take_udp halive rfl hmgr _)
    · simp [halive, hheard, hown, hport, hlen]
  · change execUdpCommandDatagram d.ip d.ports d.bytes dt s d.eth d.vid d.good = _
    rw [execUdpCommandDatagram, Datagram.of_parts]
    refine if_pos ?_
    rcases h with hheard | hown | hshort
    · simp [hheard]
    · simp [hown]
    · simp [hshort]
  · obtain ⟨halive, hpacked, hcount⟩ := h
    change execSpiCommand bs dt s = _
    rw [execSpiCommand, if_neg (by simp [halive, hlen]), State.packetBytes_taken _ hpacked hcount]
    exact congrArg Host.Outcome.next (State.take_spi halive rfl _)
  · obtain ⟨halive, hpacked⟩ := h
    change execSpiCommand bs dt s = _
    rw [execSpiCommand, if_neg (by simp [halive, hlen]), State.packetBytes_badLength _ hpacked]
  · obtain ⟨halive, hwait, hn⟩ := h
    have halive' : (s.pass 0).alive = true := halive
    change execSpiReplyRead n s = _
    rw [execSpiReplyRead, if_neg (by simp [halive'])]
    have hcut : (spiAnswer s.cmd.spiQ ++ List.replicate (n - (spiAnswer s.cmd.spiQ).length) 0).take n = spiAnswer s.cmd.spiQ := by
      rw [← hn]
      exact List.take_left
    dsimp only
    rw [State.pass_cmd, hcut]
    exact if_pos (by simp [hwait, hn])
  · have hcensus : s.link.census = some (q, hops, due) := h
    change execCensusReply s = _
    unfold execCensusReply
    rw [hcensus]
    rfl
  · obtain ⟨hmgr, hopen⟩ := h
    have hus : cyclesUs 5000 = 500000 := by norm_num [cyclesUs]
    change execCensusCompute routes s = _
    rewrite [execCensusCompute, if_neg (by simp [hmgr, hopen]), hus]
    exact congrArg Host.Outcome.next (State.censusEnd_eq (s.gotoNow_r _ _ _) (congrArg LinkState.map (s.gotoNow_link _))
      (congrArg MgrState.reports (s.gotoNow_mgr _)) routes)
  · obtain ⟨hmgr, hopen, hreports, hmap, hclaim⟩ := h
    have hus : cyclesUs 5000 = 500000 := by norm_num [cyclesUs]
    change execCensusCompute routes s = _
    rewrite [execCensusCompute, if_neg (by simp [hmgr, hopen]), hus]
    exact congrArg Host.Outcome.next (State.censusEnd_empty ((congrArg MgrState.reports (s.gotoNow_mgr _)).trans hreports)
      ((congrArg LinkState.map (s.gotoNow_link _)).trans hmap) ((congrArg MgrState.claimAfterCensus (s.gotoNow_mgr _)).trans hclaim) routes)
  · change execCensusCompute routes s = _
    rw [execCensusCompute, if_pos]
    rcases h with hmgr | hopen
    · simp [hmgr]
    · simp [hopen]
  · obtain ⟨hat, hpeel⟩ := h
    change execCensusAfterLinkAuth s = _
    unfold execCensusAfterLinkAuth
    rw [hat]
    exact (if_pos hpeel).trans rfl

end Sys2Proof.Machine
end

section
/-! Register writes that are steps of their own (R5, R7, R102, R115–R118, R137, R216, R232, R239, R269–R271, R303, R310, R329, R365, R387,
R389, R542) and latching reads (R429). -/

namespace Sys2Proof.Machine

/-! ### Bits of a masked word -/

theorem bits_eq_extract (v : Word) (hi lo : Nat) : bits v hi lo = (v.extractLsb' lo (hi + 1 - lo)).toNat := by
  rw [BitVec.extractLsb'_toNat, Nat.shiftRight_eq_div_pow]
  rfl

/-- Where the mask covers a range of bits, the masked word has the value's bits there (R430). -/
theorem bits_maskedValue {hi lo : Nat} {mask : Word} (h : mask.extractLsb' lo (hi + 1 - lo) = BitVec.allOnes _) (old v : Word) :
    bits (maskedValue old mask v) hi lo = bits v hi lo := by
  simp only [bits_eq_extract, maskedValue, BitVec.extractLsb'_or, BitVec.extractLsb'_and, h, BitVec.and_allOnes]
  have hnot : (~~~mask).extractLsb' lo (hi + 1 - lo) = 0#_ := by
    apply BitVec.eq_of_getLsbD_eq
    intro i hi'
    have hbit : (mask.extractLsb' lo (hi + 1 - lo)).getLsbD i = true := by rw [h]; simp [hi']
    simp only [BitVec.getLsbD_extractLsb', BitVec.getLsbD_not, BitVec.getLsbD_zero, Bool.and_eq_true] at hbit ⊢
    simp [hbit.2]
  rw [hnot]
  simp

/-! ### What the accesses answer -/

theorem tell_none : pack [(28, 0), (0, 0)] = 0 := by decide

theorem State.writeTold_barred {s : State} {a : Nat} {v : Word} {e : Ans} (halive : s.alive = true) (hbar : s.rowBar a 1 = some e) :
    s.writeTold a v = (s.pass 0).emit .reply [] [pack [(28, e.code), (0, e.detail)]] := by
  have halive' : (s.pass 0).alive = true := halive
  have hbar' : (s.pass 0).rowBar a 1 = some e := hbar
  unfold State.writeTold State.atRow
  rw [if_neg (by simp [halive']), hbar']
  rfl

theorem State.writeTold_noRegister {s : State} {a : Nat} {v : Word} (hopen : s.rowOpen a 1 = true) (hfields : (fieldsAt a).isEmpty = true)
    (hbase : base3 a = false) : s.writeTold a v = (s.pass 0).emit .reply [] [0] := by
  have hreg : (s.pass 0).writeReg a v = (none, s.pass 0) := by
    simp only [State.writeReg, hbase, hfields, Bool.false_eq_true, if_false, if_true]
  rw [State.writeTold, State.atRow_open hopen, hreg, ← tell_none]
  rfl

theorem State.writeTold_refused {s : State} {a code det : Nat} {v : Word} (hopen : s.rowOpen a 1 = true) (hbase : base3 a = false)
    (hfields : (fieldsAt a).isEmpty = false) (hoffset : Reg.TIME_BASE_W7_OFFSET_IN.elem? a = none)
    (hbar : s.writeBar a v = some (code, det)) : s.writeTold a v = (s.pass 0).emit .reply [] [pack [(28, code), (0, det)]] := by
  have hreg : (s.pass 0).writeReg a v = (some (code, det), s.pass 0) := by
    simp only [State.writeReg, hbase, hfields, hoffset, State.pass_writeBar, hbar, Bool.false_eq_true, if_false]
  rw [State.writeTold, State.atRow_open hopen, hreg]
  rfl

/-- An address whose write goes through its fields, then through what they do: no fourth base, no geometry word, no field that feeds a servo. -/
def plainAddr (a : Nat) : Bool :=
  !base3 a && !(fieldsAt a).isEmpty && a ≠ 0x90020 && a ≠ 0x90021
    && (Reg.TIME_BASE_W7_OFFSET_IN.elem? a).isNone && (Reg.TIME_BASE_W3_INCR.elem? a).isNone

theorem State.writeTold_after {s : State} {a : Nat} {v : Word} (h : s.lets a v) (hplain : plainAddr a = true) :
    s.writeTold a v =
      (State.writeAfter (s.pass 0) { s.pass 0 with regs := s.written a v } a v).emit .reply [] [0] := by
  simp only [plainAddr, Bool.and_eq_true, Bool.not_eq_true', decide_eq_true_eq, Option.isNone_iff_eq_none, ne_eq] at hplain
  obtain ⟨⟨⟨⟨⟨hbase, hfields⟩, hgrid⟩, hmount⟩, hoffset⟩, hincr⟩ := hplain
  rw [State.writeTold_stored h hbase hfields hoffset]
  simp only [State.storeReg, hgrid, hmount, hincr, decide_false, Bool.or_self, Bool.false_eq_true, if_false, Option.any_none]
  rfl

/-! ### What a write does beyond its fields, by address -/

section
variable (s : State) (v : Word)

theorem State.writeAfter_fullNext : State.writeAfter (s.pass 0) { s.pass 0 with regs := s.written 0xB0002 v } 0xB0002 v =
    if bit v 30 then (s.wrote 0xB0002 v).dropCells (fun _ => true) else s.wrote 0xB0002 v := rfl

theorem State.writeAfter_eye : State.writeAfter (s.pass 0) { s.pass 0 with regs := s.written 0x50881 v } 0x50881 v =
    if bit v 35 then (s.wrote 0x50881 v).eyeStart (bits v 32 28) else s.wrote 0x50881 v := rfl

theorem State.writeAfter_spSel : State.writeAfter (s.pass 0) { s.pass 0 with regs := s.written 0x60000 v } 0x60000 v =
    if (s.wrote 0x60000 v).r Reg.MEM_CTRL_SP_SEL = s.r Reg.MEM_CTRL_SP_SEL then s.wrote 0x60000 v
    else (s.wrote 0x60000 v).askSp ((s.wrote 0x60000 v).r Reg.MEM_CTRL_SP_SEL) := rfl

theorem State.writeAfter_scanEn : State.writeAfter (s.pass 0) { s.pass 0 with regs := s.written 0xB0001 v } 0xB0001 v =
    (s.wrote 0xB0001 v).w Reg.MGMT_STAGE_SCAN ((s.wrote 0xB0001 v).r Reg.EMIT_HEAD_CTRL_SCAN_EN) := rfl

theorem State.writeAfter_pool (base : Bool) :
    State.writeAfter (s.pass 0) { s.pass 0 with regs := s.written (if base then 0x70012 else 0x70011) v }
      (if base then 0x70012 else 0x70011) v =
    { s.wrote (if base then 0x70012 else 0x70011) v with dec := { s.dec with poolPend := true } } := by
  cases base <;> rfl

end

/-- None of the words whose write acts on its own unit at once. -/
def noUnitWord (a : Nat) : Bool :=
  [Reg.EMIT_HEAD_CTRL_SCAN_EN, Reg.MEM_CTRL_SP_SEL, Reg.EMIT_UPDATE_CTRL_FULL_NEXT, Reg.CAL_AMB_CTRL_AMB_EN, Reg.LINK_EYE_CTRL_START,
    Reg.DECODE_POOL_CTRL_BUF_COUNT, Reg.DECODE_POOL_BASE_POOL_BASE].all (fun f => a ≠ f.addr)

/-- HOLD written on a lane (R271). -/
theorem State.writeAfter_hold {s : State} {a l : Nat} (v : Word) (hunit : noUnitWord a = true) (hl : Reg.LINK_LANE_W1_HOLD.elem? a = some l) :
    State.writeAfter (s.pass 0) { s.pass 0 with regs := s.written a v } a v =
      if s.rb Reg.LINK_LANE_W1_HOLD l = (s.wrote a v).rb Reg.LINK_LANE_W1_HOLD l then s.wrote a v else (s.wrote a v).holdWritten l := by
  simp only [noUnitWord, List.all_cons, List.all_nil, Bool.and_true, Bool.and_eq_true, decide_eq_true_eq, ne_eq] at hunit
  obtain ⟨h1, h2, h3, h4, h5, h6, h7⟩ := hunit
  simp only [State.writeAfter, h1, h2, h3, h4, h5, h6, h7, hl, if_false, decide_false, Bool.or_self, Bool.false_eq_true]
  rfl

/-- A word of a group entry written (R303). -/
theorem State.writeAfter_group {s : State} {a : Nat} (v : Word) (hunit : noUnitWord a = true)
    (hnone : [Reg.LINK_LANE_W1_HOLD, Reg.LINK_PORT_W0_EN, Reg.CLOCK_SYN_W0_RELOCK].all (fun f => (f.elem? a).isNone) = true)
    (hlo : 0x52040 ≤ a) (hhi : a < 0x52090) :
    State.writeAfter (s.pass 0) { s.pass 0 with regs := s.written a v } a v = (s.wrote a v).groupWritten s.regs ((a - 0x52040) / 5) := by
  simp only [noUnitWord, List.all_cons, List.all_nil, Bool.and_true, Bool.and_eq_true, decide_eq_true_eq, ne_eq] at hunit
  simp only [List.all_cons, List.all_nil, Bool.and_true, Bool.and_eq_true, Option.isNone_iff_eq_none] at hnone
  obtain ⟨h1, h2, h3, h4, h5, h6, h7⟩ := hunit
  obtain ⟨hhold, hport, hlock⟩ := hnone
  simp only [State.writeAfter, h1, h2, h3, h4, h5, h6, h7, hhold, hport, hlock, hlo, hhi, if_false, decide_false, decide_true, Bool.or_self,
    Bool.and_self, Bool.false_eq_true, if_true]
  rfl

/-! ### Reads, and the geometry -/

/-- A read of `n` words of one window, let through (R429). -/
theorem execLatchingRead_open {s : State} {a n : Nat} (hopen : s.rowOpen a n = true) (hn : n ≤ 1018) (hrange : rangeOk a n = true) :
    execLatchingRead a n s = .next (((s.pass 0).readRun a n).2.emit .reply [] ((s.pass 0).readRun a n).1) := by
  have hn' : ¬1018 < n := by omega
  unfold execLatchingRead
  rw [State.atRow_open hopen]
  exact congrArg Host.Outcome.next (if_neg (by simp [hn', hrange]))

/-- The two words of the geometry wait for the tick, unless they are those in force (R117). -/
theorem State.geomWrite_eq (s : State) (a : Nat) (v : Word) :
    s.geomWrite a v =
      let r := writeRaw s.planned a v
      let w := [(wordOf r 0x90020).toNat, (wordOf r 0x90021).toNat]
      { s with fire := { s.fire with
        geom := if w = [(wordOf s.regs 0x90020).toNat, (wordOf s.regs 0x90021).toNat] then none else some w } } := by
  simp only [State.geomWrite, List.cons.injEq, and_true, Bool.and_eq_true, decide_eq_true_eq]

theorem State.writeTold_geometry {s : State} {a : Nat} {v : Word} (h : s.lets a v) (ha : a = 0x90020 ∨ a = 0x90021) :
    s.writeTold a v = ((s.pass 0).geomWrite a v).emit .reply [] [0] := by
  rcases ha with rfl | rfl <;> exact State.writeTold_stored h (by decide) (by decide) (by decide)

theorem State.geomChange_due {s : State} {w : List Nat} (h : s.fire.geom = some w) :
    s.geomChange =
      let n := s.time.last
      let t := s.repeatDue
      let t := { t with
        regs := t.planned
        fire := { t.fire with
          geom := none
          shelf := []
          frames := t.fire.frames.map (fun (f : FireFrame) =>
            if n < f.frame then { f with bands := [], rows := 0, queue := [], seen := [] } else f) } }
      (t.raise 745 (n % 2 ^ 28)).dropCells (fun _ => true) := by
  unfold State.geomChange
  rw [h]
  rfl

theorem State.eyeStart_begins {s : State} {l : Nat} (hfree : s.lane.eye = none) (hrx : laneRx l = true) (hlocked : s.rxLocked l = true) :
    s.eyeStart l = s.eyeBegin l false := by
  unfold State.eyeStart
  rw [if_neg (by simp [hfree]), if_neg (by simp [hrx, hlocked])]

/-- A group that is joined by the write is reported on the one port that is up (R303). -/
theorem State.groupWritten_joined {s : State} {old : RegFile} {g : Nat} (hwas : rget old Reg.MGR_GROUP_W0_EN g = 0)
    (hen : s.rb Reg.MGR_GROUP_W0_EN g = true) (hports : s.ethPorts = 1) (hup : s.r Reg.MGR_ETH_CTRL_UP = 1) :
    s.groupWritten old g = s.report s.regs g 0 true := by
  have hold : groupJoin old g = none := if_pos hwas
  have hen' : ¬rget s.regs Reg.MGR_GROUP_W0_EN g = 0 := of_decide_eq_true hen
  have hnew : groupJoin s.regs g = some _ := if_neg hen'
  have hone : (List.range 1).filter (fun q => decide (bitsN 1 q q = 1)) = [0] := by decide
  unfold State.groupWritten
  rw [hold, hnew, hports, hup, hone]
  rfl

/-! ### The values that the rows write -/

theorem bit_fullNext (x : Word) : bit (x ||| pack [(30, 1)]) 30 = true := by
  have h : (pack [(30, 1)]).getLsbD 30 = true := by decide
  rw [bit, BitVec.getLsbD_or, h, Bool.or_true]

theorem bit_eyeStart (old : Word) {lane : Nat} (h : lane < 32) :
    bit (maskedValue old (pack [(35, 1), (28, 31)]) (pack [(35, 1), (28, lane)])) 35 = true := by
  rw [bit_eq_bits, bits_maskedValue (by decide)]
  revert lane
  decide

theorem bits_eyeStart (old : Word) {lane : Nat} (h : lane < 32) :
    bits (maskedValue old (pack [(35, 1), (28, 31)]) (pack [(35, 1), (28, lane)])) 32 28 = lane := by
  rw [bits_maskedValue (by decide)]
  revert lane
  decide

/-- A write of a quiet word stores it. -/
theorem Runs.quiet {e : Instr} {a : Nat} {v : Word} (hexec : ∀ s : State, exec e s = .next (s.writeTold a v)) (hq : quietAddr a = true) :
    Runs e (fun s => s.lets a v) (fun s => (s.wrote a v).emit .reply [] [0]) := fun s h =>
  (hexec s).trans (congrArg Host.Outcome.next (State.writeTold_quiet h hq))

theorem quietAddr_laneEq : ∀ l < 32, quietAddr (Reg.LINK_LANE_W0_TX_INV.at l) = true := by decide +kernel
theorem quietAddr_slot : ∀ j < 32, ∀ w < 8, quietAddr (0x90100 + 16 * j + w) = true := by decide +kernel
theorem quietAddr_cone : ∀ c < 16, ∀ w < 18, quietAddr (Reg.EMIT_DRIVE_CONE_W0_BLANK_CLKS.at c + w) = true := by decide +kernel
theorem quietAddr_flow : ∀ j < 2, ∀ w < 4, quietAddr (0x52010 + 4 * j + w) = true := by decide +kernel
theorem quietAddr_map : ∀ j < 256, quietAddr (0x80100 + j) = true := by decide +kernel

theorem hold_addr : ∀ l < 32, plainAddr (Reg.LINK_LANE_W1_HOLD.at l) = true ∧ noUnitWord (Reg.LINK_LANE_W1_HOLD.at l) = true
    ∧ Reg.LINK_LANE_W1_HOLD.elem? (Reg.LINK_LANE_W1_HOLD.at l) = some l := by decide +kernel

theorem group_addr : ∀ g < 16, ∀ w < 5, plainAddr (0x52040 + 5 * g + w) = true ∧ noUnitWord (0x52040 + 5 * g + w) = true
    ∧ [Reg.LINK_LANE_W1_HOLD, Reg.LINK_PORT_W0_EN, Reg.CLOCK_SYN_W0_RELOCK].all (fun f => (f.elem? (0x52040 + 5 * g + w)).isNone) = true := by
  decide +kernel

/-- A word of a group entry that is let through. -/
theorem State.writeTold_group {s : State} {g w : Nat} {v : Word} (hg : g < 16) (hw : w < 5) (h : s.lets (0x52040 + 5 * g + w) v) :
    s.writeTold (0x52040 + 5 * g + w) v = ((s.wrote (0x52040 + 5 * g + w) v).groupWritten s.regs g).emit .reply [] [0] := by
  obtain ⟨hplain, hunit, hnone⟩ := group_addr g hg w hw
  have hof : (0x52040 + 5 * g + w - 0x52040) / 5 = g := by omega
  rw [State.writeTold_after h hplain, State.writeAfter_group v hunit hnone (by omega) (by omega), hof]

/-- Settles O37: an access by the bar it meets, a write by what its word does. The two words of the pool wait for the tick as in assumption log
25; the picture in work is dropped at the pool's reset as in log 71. -/
theorem writeRowsTakeEffect : Obligations.WriteRowsTakeEffect := by
  refine ⟨fun a v e s h => ?_, fun a v hfields hbase s h => ?_, fun a v code det hbase hfields hoffset s h => ?_,
    fun a v hbase hfields hoffset s h => ?_, fun a hrange s h => ?_, fun a n hn hrange s h => ?_, fun s h => ?_, fun lane hl hrx s h => ?_,
    fun v => Runs.quiet (fun _ => rfl) (by decide +kernel), fun lane hl s h => ?_, fun lane v hl => ?_, fun sp hsp s h => ?_,
    fun v => Runs.quiet (fun _ => rfl) (by decide +kernel), fun v s h => ?_, ⟨fun v s h => ?_, fun v s h => ?_⟩, fun w s h => ?_,
    fun j w v hj hw => ?_, fun v => Runs.quiet (fun _ => rfl) (by decide +kernel), fun base v s h => ?_, fun s h => ?_,
    fun c w v hc hw => ?_, fun j w v hj hw => ?_, fun j v hj => ?_, fun g w v hg hw s h => ?_, fun g v hg s h => ?_⟩
  · exact congrArg Host.Outcome.next (State.writeTold_barred h.1 h.2)
  · exact congrArg Host.Outcome.next (State.writeTold_noRegister h hfields hbase)
  · exact congrArg Host.Outcome.next (State.writeTold_refused h.1 hbase hfields hoffset h.2)
  · exact congrArg Host.Outcome.next (State.writeTold_stored h hbase hfields hoffset)
  · exact execLatchingRead_open h (by decide) hrange
  · exact execLatchingRead_open h (by omega) hrange
  · refine congrArg Host.Outcome.next ((State.writeTold_after h (by decide +kernel)).trans ?_)
    rw [State.writeAfter_fullNext, if_pos (bit_fullNext _)]
  · obtain ⟨hlets, hfree, hlocked⟩ := h
    change execEyeStart lane s = _
    rw [execEyeStart, Nat.mod_eq_of_lt hl]
    refine congrArg Host.Outcome.next ((State.writeTold_after hlets (by decide +kernel)).trans ?_)
    rw [State.writeAfter_eye, if_pos (bit_eyeStart _ hl), bits_eyeStart _ hl, State.eyeStart_begins (s := s.wrote 0x50881 _) hfree hrx hlocked]
    rfl
  · obtain ⟨hlets, hwas, hnow, hon⟩ := h
    obtain ⟨hplain, hunit, helem⟩ := hold_addr lane hl
    change execLaneHoldWrite lane true s = _
    rw [execLaneHoldWrite, Nat.mod_eq_of_lt hl]
    refine congrArg Host.Outcome.next ((State.writeTold_after hlets hplain).trans ?_)
    rw [State.writeAfter_hold _ hunit helem, if_neg (by rw [hwas, hnow]; decide), State.holdWritten, if_pos hnow, State.laneStop, if_neg hon]
  · refine Runs.quiet (fun s => ?_) (quietAddr_laneEq lane hl)
    change execLaneEqWrite lane v s = _
    rw [execLaneEqWrite, Nat.mod_eq_of_lt hl]
  · obtain ⟨hlets, hwas, hnow⟩ := h
    change execSpSelWrite sp s = _
    rw [execSpSelWrite, Nat.mod_eq_of_lt hsp]
    refine congrArg Host.Outcome.next ((State.writeTold_after hlets (by decide +kernel)).trans ?_)
    rw [State.writeAfter_spSel, if_neg (by rw [hnow]; exact hwas.symm), hnow]
  · refine congrArg Host.Outcome.next ((State.writeTold_after h (by decide +kernel)).trans ?_)
    rw [State.writeAfter_scanEn]
  · refine congrArg Host.Outcome.next ((State.writeTold_geometry h (.inl rfl)).trans ?_)
    rw [State.geomWrite_eq]
    rfl
  · refine congrArg Host.Outcome.next ((State.writeTold_geometry h (.inr rfl)).trans ?_)
    rw [State.geomWrite_eq]
    rfl
  · have hgeom : s.fire.geom = some w := h
    exact congrArg Host.Outcome.next (State.geomChange_due (s := s.pass 0) hgeom)
  · refine Runs.quiet (fun s => ?_) (quietAddr_slot j hj w hw)
    change execSlotDescriptorWrite j w v s = _
    rw [execSlotDescriptorWrite, Nat.mod_eq_of_lt hj, Nat.mod_eq_of_lt hw]
  · refine congrArg Host.Outcome.next ((State.writeTold_after h (by cases base <;> decide +kernel)).trans ?_)
    rw [State.writeAfter_pool]
  · have hpend : s.dec.poolPend = true := h
    have hpend' : (s.pass 0).dec.poolPend = true := hpend
    change execPoolReset s = _
    rw [execPoolReset, if_pos hpend, State.poolReset, if_pos hpend']
    rfl
  · refine Runs.quiet (fun s => ?_) (quietAddr_cone c hc w hw)
    change execDriveConeWrite c w v s = _
    rw [execDriveConeWrite, Nat.mod_eq_of_lt hc, Nat.mod_eq_of_lt hw]
  · refine Runs.quiet (fun s => ?_) (quietAddr_flow j hj w hw)
    change execLiveFlowWrite j w v s = _
    rw [execLiveFlowWrite, Nat.mod_eq_of_lt hj, Nat.mod_eq_of_lt hw]
  · refine Runs.quiet (fun s => ?_) (quietAddr_map j hj)
    change execEncodeMapWrite j v s = _
    rw [execEncodeMapWrite, Nat.mod_eq_of_lt hj]
  · change execGroupEntryWrite g w v s = _
    rw [execGroupEntryWrite, Nat.mod_eq_of_lt hg, Nat.mod_eq_of_lt hw, State.writeTold_group hg hw h]
  · obtain ⟨hlets, hwas, hnow, hports, hup⟩ := h
    have hwas' : rget s.regs Reg.MGR_GROUP_W0_EN g = 0 := of_not_not (of_decide_eq_false hwas)
    have htold := fun h => State.writeTold_group (s := s) (v := v) hg (w := 0) (by decide) h
    rw [Nat.add_zero] at htold
    change execGroupEntryWrite g 0 v s = _
    rw [execGroupEntryWrite, Nat.mod_eq_of_lt hg, Nat.zero_mod, Nat.add_zero, htold hlets,
      State.groupWritten_joined hwas' hnow hports hup]

end Sys2Proof.Machine
end

section
/-! Ethernet (R300, R303), slab streams (R304–R307), live flows (R310, R311), PTP (R355, R357), command tags (R312). -/

namespace Sys2Proof.Machine

/-! ### Ethernet ports and control packets -/

section
variable {s : State}

theorem State.ethChange_up {q : Nat} (hmgr : s.isMgr = true) (hport : q < s.ethPorts)
    (hdown : bitsN (s.r Reg.MGR_ETH_CTRL_UP) q q ≠ 1) :
    s.ethChange q true = ((s.w Reg.MGR_ETH_CTRL_UP (s.r Reg.MGR_ETH_CTRL_UP + 2 ^ q)).raise 304 q).reportAll q := by
  have hport' : ¬s.ethPorts ≤ q := by omega
  unfold State.ethChange
  exact (if_neg (by simp [hmgr, hport', hdown])).trans (if_pos rfl)

theorem State.ethChange_down {q : Nat} (hmgr : s.isMgr = true) (hport : q < s.ethPorts)
    (hup : bitsN (s.r Reg.MGR_ETH_CTRL_UP) q q = 1) :
    s.ethChange q false =
      ((({ s with mgr := { s.mgr with portFell := true } }).w Reg.MGR_ETH_CTRL_UP (s.r Reg.MGR_ETH_CTRL_UP - 2 ^ q)).raise 305 q).eyeStops q := by
  have hport' : ¬s.ethPorts ≤ q := by omega
  unfold State.ethChange
  exact (if_neg (by simp [hmgr, hport', hup])).trans (if_neg Bool.false_ne_true)

/-- ARP, neighbour and ping packets for the manager's own address (R301). -/
theorem State.netControl_own {p : NetPkt} {own : Nat} (hwhole : p.broken = false) (hkind : p.kind < 4)
    (hheard : s.frameHeard p.port p.vid p.good = true) (hown : (if p.kind = 1 ∨ p.kind = 3 then ownIp6 s.regs else ownIp4 s.regs) = own)
    (hset : own ≠ 0) (htarget : p.target = own) :
    s.netControl p = s.emit .net ([p.kind, p.sender, p.port] ++ s.netTag)
      (if p.kind < 2 then numWords (s.r Reg.MGR_ADDR_2004_MAC_HI * 4096 + s.r Reg.MGR_ADDR_2005_MAC_LO) else p.data) := by
  have hv6 : (if (decide (p.kind = 1) || decide (p.kind = 3) || decide (p.kind = 5)) = true then ownIp6 s.regs else ownIp4 s.regs) = own := by
    rw [← hown]
    have h5 : ¬p.kind = 5 := by omega
    simp only [h5, decide_false, Bool.or_false, Bool.or_eq_true, decide_eq_true_eq]
  unfold State.netControl
  dsimp only
  rw [if_neg (by simp [hheard, hwhole]), if_pos hkind, hv6, if_neg (by simp [hset, htarget])]

/-- A query is answered for the joined groups of its family that it asks for (R303). -/
theorem State.netControl_query {p : NetPkt} (hwhole : p.broken = false) (hkind : p.kind = 4 ∨ p.kind = 5)
    (hheard : s.frameHeard p.port p.vid p.good = true) :
    s.netControl p =
      ((joinedGroups s.regs).filter (fun g =>
        s.rb Reg.MGR_GROUP_W0_V6 g = decide (p.kind = 5) && (p.target = 0 || groupIp s.regs g = p.target))).foldl
        (fun (x : State) g => x.report s.regs g p.port true) s := by
  have h1 : ¬p.kind = 1 := by omega
  have h3 : ¬p.kind = 3 := by omega
  unfold State.netControl
  dsimp only
  rw [if_neg (by simp [hheard, hwhole]), if_neg (by omega), if_pos (by omega)]
  simp only [h1, h3, decide_false, Bool.false_or]

end

/-! ### Slab streams -/

@[simp] theorem Worker.track_keeps (w : Worker) (d : Word) :
    (w.track d).window = w.window ∧ (w.track d).parcels = w.parcels ∧ (w.track d).x = w.x ∧ (w.track d).y = w.y := by
  unfold Worker.track
  (repeat' split) <;> exact ⟨rfl, rfl, rfl, rfl⟩

theorem Worker.foldl_track_keeps (ps : List Word) (w : Worker) :
    (ps.foldl Worker.track w).window = w.window ∧ (ps.foldl Worker.track w).parcels = w.parcels := by
  induction ps generalizing w with
  | nil => exact ⟨rfl, rfl⟩
  | cons d ps ih =>
    obtain ⟨hwin, hpar, -, -⟩ := w.track_keeps d
    exact ⟨(ih _).1.trans hwin, (ih _).2.trans hpar⟩

theorem cut1020_short {ws : List Word} (h : ws.length ≤ 1020) : cut1020 (ws.length / 1020) ws = [ws] := by
  unfold cut1020
  cases ws.length / 1020 with
  | zero => rfl
  | succ n => exact if_pos h

/-- Without parcels that wait nothing goes in at a boundary. -/
theorem State.insertParcels_none (s : State) {w : Worker} (h : w.parcels = []) : s.insertParcels w = (w, s) := by
  unfold State.insertParcels
  split
  · rfl
  · obtain ⟨x, y, rot, nonce, port, ssrc, rtpNext, window, slow, fast, filled, delta, nextOff, sync, skip, head, left, parcels⟩ := w
    change parcels = [] at h
    subst h
    rfl

/-- One piece that lies at the offset expected next goes on (R307). -/
theorem State.passOn_next {s : State} {w : Worker} {off : Nat} {ws : List Word} (hforwards : s.forwards = true) (hlen : ws.length ≤ 1020)
    (hoff : w.nextOff = (off + w.delta) % 2 ^ 36) (hparcels : w.parcels = []) :
    s.passOn w off ws = ({ ws.foldl Worker.track w with nextOff := (w.nextOff + ws.length) % 2 ^ 36 }, s.sendStream w w.nextOff ws) := by
  have hpar : ({ ws.foldl Worker.track w with nextOff := (w.nextOff + ws.length) % 2 ^ 36 } : Worker).parcels = [] :=
    (Worker.foldl_track_keeps ws w).2.trans hparcels
  unfold State.passOn
  rw [if_pos hforwards, cut1020_short hlen]
  unfold State.forwardPieces
  dsimp only
  rw [Nat.mul_zero, Nat.add_zero, ← hoff, if_pos rfl, State.insertParcels_none _ hpar]
  rfl

theorem State.drainWindow_empty (n : Nat) (s : State) {w : Worker} (h : w.window = []) : State.drainWindow n w s = (w, s) := by
  cases n with
  | zero => rfl
  | succ n =>
    unfold State.drainWindow
    rw [h]
    rfl

/-- The one packet of the window that is next in order goes on (R306). -/
theorem State.drainWindow_one (n : Nat) {s : State} {w : Worker} {seq off : Nat} {ws : List Word}
    (hwindow : w.window = [(seq, off, ws)]) (hseq : w.rtpNext = seq) {r : Worker × State}
    (hpass : s.passOn { w with window := [], rtpNext := (seq + 1) % 65536 } off ws = r) (hdone : r.1.window = []) :
    State.drainWindow (n + 1) w s = r := by
  have hfind : w.window.find? (fun p => decide (p.1 = w.rtpNext)) = some (seq, off, ws) := by
    rw [hwindow, hseq]
    exact List.find?_cons_of_pos (decide_eq_true rfl)
  have hrest : w.window.filter (fun q => decide (q.1 ≠ seq)) = [] := by
    rw [hwindow]
    exact List.filter_cons_of_neg (by simp)
  unfold State.drainWindow
  rw [hfind]
  dsimp only
  rw [hrest, hseq, hpass, State.drainWindow_empty n r.2 hdone]

/-- The packet expected next goes straight through an empty window (R306). -/
theorem State.reorder_next {s : State} {w : Worker} {seq off : Nat} {ws : List Word} (hforwards : s.forwards = true)
    (hlen : ws.length ≤ 1020) (hoff : w.nextOff = (off + w.delta) % 2 ^ 36) (hparcels : w.parcels = []) (hwindow : w.window = [])
    (hseq : w.rtpNext = seq) (hrange : seq < 65536) :
    s.reorder w seq off ws =
      let v := { w with window := [], rtpNext := (seq + 1) % 65536 }
      ({ ws.foldl Worker.track v with nextOff := (w.nextOff + ws.length) % 2 ^ 36 }, s.sendStream v w.nextOff ws) := by
  subst hseq
  have hnear : (w.rtpNext + 65536 - w.rtpNext) % 65536 = 0 := by omega
  have hnew : (w.window.any fun p => decide (p.1 = w.rtpNext)) = false := by rw [hwindow]; rfl
  have hpass := State.passOn_next (w := { w with window := [], rtpNext := (w.rtpNext + 1) % 65536 }) hforwards hlen hoff hparcels
  have hdrain := State.drainWindow_one 39 (s := s) (w := { w with window := [(w.rtpNext, off, ws)] }) rfl rfl hpass
    (Worker.foldl_track_keeps ws _).1
  unfold State.reorder
  dsimp only
  rw [hnear, if_neg (by decide), hnew, if_neg Bool.false_ne_true, hwindow, List.nil_append, hdrain, if_pos (by decide)]

/-- A worker whose policing buckets are full stays as it is but for the time (R305). -/
theorem Worker.refill_full {w : Worker} (hslow : w.slow = 94371840) (hfast : w.fast = 1474200) (now : Nat) :
    w.refill now = { w with filled := now } := by
  have hs : satN 94371840 (94371840 + 32 * (now - w.filled)) = 94371840 := by rw [satN_eq_min]; omega
  have hf : satN 1474200 (1474200 + 100 * (now - w.filled)) = 1474200 := by rw [satN_eq_min]; omega
  rw [Worker.refill, hslow, hfast, hs, hf]

/-- A packet in order for the one known worker, whose buckets are full (R305–R307). -/
theorem State.slabPacket_next {s : State} {w : Worker} {ssrc seq n : Nat} {ps : List Word} (hn : bits (nthW ps 0) 11 0 = n)
    (hkind : bits (nthW ps 0) 35 32 = 1) (hpos : 0 < n) (hlen : ps.length = n + 2 + n % 2) (hmost : n ≤ 1020)
    (hworkers : s.mgr.workers = [w]) (hx : w.x = bits (nthW ps 0) 31 25) (hy : w.y = bits (nthW ps 0) 24 18)
    (hslow : w.slow = 94371840) (hfast : w.fast = 1474200) (hroom : s.queuedFor w.x w.y + n ≤ 131072) (hssrc : w.ssrc = some ssrc)
    (hseq : w.rtpNext = seq) (hrange : seq < 65536) (hwindow : w.window = []) (hparcels : w.parcels = [])
    (hoff : w.nextOff = ((nthW ps 1).toNat + w.delta) % 2 ^ 36) (hpeel : s.peelHeld = true) :
    s.slabPacket ssrc seq ps =
      let ws := (ps.drop 2).take n
      let v := { w with filled := s.now, slow := 94371840 - 360 * n, fast := 1474200 - 360 * n, held := [],
                        window := [], rtpNext := (seq + 1) % 65536 }
      (s.sendStream v w.nextOff ws).setWorker 0 { ws.foldl Worker.track v with nextOff := (w.nextOff + ws.length) % 2 ^ 36 } := by
  have hidx : s.mgr.workers.findIdx? (fun (w : Worker) => decide (w.x = bits (nthW ps 0) 31 25) && decide (w.y = bits (nthW ps 0) 24 18))
      = some 0 := by
    rw [hworkers]
    simp [List.findIdx?_cons, hx, hy]
  have hget : s.mgr.workers[0]? = some w := by rw [hworkers]; rfl
  have hforwards : s.forwards = true := by simp [State.forwards, hpeel]
  have hshort : ((ps.drop 2).take n).length ≤ 1020 := by rw [List.length_take]; omega
  unfold State.slabPacket
  dsimp only
  rw [hn, if_neg (by simp [hkind, hlen]; omega), hidx]
  dsimp only
  rw [hget]
  dsimp only
  rw [Worker.refill_full hslow hfast]
  dsimp only
  rw [if_neg (by simp [hslow, hfast]; omega), if_neg (by omega), hssrc]
  simp only [bne_self_eq_false, Bool.false_and, Bool.false_or, Option.isNone_some, Bool.false_eq_true, if_false, State.raiseIf, hpeel, if_true]
  have hreorder := State.reorder_next (w := { w with
    ssrc := some ssrc, slow := w.slow - 360 * n, fast := w.fast - 360 * n, filled := s.now, held := [] })
    hforwards hshort hoff hparcels hwindow hseq hrange
  rw [hreorder, hslow, hfast]

theorem State.slabPacket_unknown {s : State} {ssrc seq : Nat} {ps : List Word} (hkind : bits (nthW ps 0) 35 32 = 1)
    (hpos : 0 < bits (nthW ps 0) 11 0) (hlen : ps.length = bits (nthW ps 0) 11 0 + 2 + bits (nthW ps 0) 11 0 % 2)
    (hworkers : s.mgr.workers = []) : s.slabPacket ssrc seq ps = s.raiseTick 307 0 0 := by
  unfold State.slabPacket
  dsimp only
  rw [if_neg (by simp [hkind, hlen]; omega), hworkers]
  rfl

/-! ### Live flows -/

/-- A live packet within the picture and in the source frame under way, not its last (R310, R311, R332). -/
theorem State.livePacket_within {s : State} {i ts : Nat} {segs : List (Nat × Nat × List Nat)} (htime : (s.flow i).rtpTime = some ts)
    (hopen : (s.flow i).ended = false)
    (hin : ∀ g ∈ segs, g.1 < flowH s.regs i ∧ g.2.1 + 2 * g.2.2.length ≤ flowW s.regs i ∧ g.2.1 % 2 = 0) :
    s.livePacket i ts false segs =
      let f := s.flow i
      let w := flowW s.regs i
      let new := segs.flatMap (fun g => segGroups w g.1 g.2.1 g.2.2)
      let gs := segs.foldl (fun l g => (segGroups w g.1 g.2.1 g.2.2).foldl (fun a p => sput a p.1 p.2) l) f.groups
      let pics := match f.bound with
        | some n => sput f.pics n (new.foldl (fun a p => sput a p.1 p.2) ((sfind f.pics n).getD []))
        | none => f.pics
      let lines := segs.foldl (fun m g => max m (if g.2.1 + 2 * g.2.2.length = w then g.1 + 1 else g.1)) 0
      (s.setFlow i { f with groups := gs, pics := pics }).markRows i
        (if lines = flowH s.regs i then cdiv (flowH s.regs i) 32 else lines / 32) := by
  have hnone : (segs.any fun g => decide (flowH s.regs i ≤ g.1) || decide (flowW s.regs i < g.2.1 + 2 * g.2.2.length)
      || decide (g.2.1 % 2 ≠ 0)) = false :=
    List.any_eq_false.2 fun g hg => by
      obtain ⟨hline, hright, heven⟩ := hin g hg
      simp [Nat.not_le.2 hline, Nat.not_lt.2 hright, heven]
  have hkeep : (if (decide ((s.flow i).rtpTime = some ts) && !(s.flow i).ended) = true then s
      else if (s.flow i).rtpTime = some ts then s else s.beginFlowFrame i ts) = s := if_pos (by simp [htime, hopen])
  unfold State.livePacket
  dsimp only
  rw [hnone, if_neg Bool.false_ne_true, hkeep, if_neg (by simp [hopen]), if_pos (by rfl)]
  simp only [Bool.false_or, decide_eq_true_eq] <;> rfl

/-- A live packet with a segment below the picture is dropped whole (R311). -/
theorem State.livePacket_outside {s : State} {segs : List (Nat × Nat × List Nat)} {i : Nat} (h : ∃ g ∈ segs, flowH s.regs i ≤ g.1) (ts : Nat)
    (marker : Bool) : s.livePacket i ts marker segs = s.raiseTick 313 0 0 := by
  obtain ⟨g, hg, hline⟩ := h
  unfold State.livePacket
  exact if_pos (List.any_eq_true.2 ⟨g, hg, by simp [hline]⟩)

/-- A datagram of an enabled flow that is an RTP packet of type PT_LIVE (R310). -/
theorem execLiveFlowPacket_heard {s : State} {d : Datagram} {r : Rtp} {flow dt : Nat} (hrtp : rtpParse d.bytes = some r)
    (hheard : s.udpHeard d = true) (hflow : s.flowOf d = some flow) (htype : r.pt = s.r Reg.MGR_STREAM_PT_LIVE) :
    execLiveFlowPacket d.eth d.vid d.good d.ip d.ports d.bytes dt s =
      .next (((liveSegs r.payload).map ((s.pass dt).livePacket flow r.ts r.marker)).getD ((s.pass dt).raiseTick 313 0 0)) := by
  have hheard' : (s.pass dt).udpHeard d = true := hheard
  have hflow' : (s.pass dt).flowOf d = some flow := hflow
  unfold execLiveFlowPacket
  dsimp only
  rw [Datagram.of_parts, hrtp]
  rw [if_neg (by simp [hheard']), hflow']
  refine (if_neg (not_not.2 htype)).trans ?_
  cases liveSegs r.payload <;> rfl

/-- A datagram of a slab stream whose payload is whole words (R304). -/
theorem execRtpSlabPacket_heard {s : State} {d : Datagram} {r : Rtp} {dt : Nat} (hrtp : rtpParse d.bytes = some r)
    (hwords : r.payload.length % 9 = 0) (hheard : s.udpHeard d = true) (haddr : s.ownAddr d = true ∨ s.groupAddr 0 d = true)
    (hport : d.dport = s.r Reg.MGR_STREAM_STREAM_PORT) (htype : r.pt = s.r Reg.MGR_STREAM_PT_SLAB) :
    execRtpSlabPacket d.eth d.vid d.good d.ip d.ports d.bytes dt s =
      .next ((s.pass dt).slabPacket r.ssrc r.seq (unpackBytes r.payload)) := by
  have hheard' : (s.pass dt).udpHeard d = true := hheard
  have haddr' : ((s.pass dt).ownAddr d || (s.pass dt).groupAddr 0 d) = true := Bool.or_eq_true_iff.2 haddr
  unfold execRtpSlabPacket
  dsimp only
  rw [Datagram.of_parts, hrtp]
  rw [hheard', haddr', if_pos (by simp [hport])]
  exact if_pos (by simp [htype, hwords])

/-! ### PTP -/

section
variable {s : State} {m : PtpMsg}

/-- A message of the first domain's selected master, at a rate that is supported (R355). -/
theorem State.ptpMessage_master (hmgr : s.isMgr = true) (hen : s.rb Reg.TIME_PTP_PTP_EN = true) (hv4 : s.rb Reg.TIME_PTP_PTP_V6 = false)
    (hversion : m.version = 2) (hminor : m.minor ≤ 1) (hv6 : m.v6 = false) (hdomain : ptpDomain s.regs 0 = m.domain)
    (hsender : s.mgr.master.getD 0 none = some m.sender)
    (hrate : m.type = 9 ∧ -7 ≤ m.interval ∧ m.interval ≤ 5 ∨ m.type = 0 ∧ -7 ≤ m.interval ∧ m.interval ≤ 1) :
    s.ptpMessage m = s.ptpMaster 0 m := by
  have hminor' : ¬1 < m.minor := by omega
  have hfind : (List.range 2).find? (fun b => decide (ptpDomain s.regs b = m.domain)) = some 0 :=
    List.find?_cons_of_pos (decide_eq_true hdomain)
  unfold State.ptpMessage
  rw [if_neg (by simp [hmgr, hen, hv4, hversion, hminor', hv6]), hfind]
  rcases hrate with ⟨htype, hlo, hhi⟩ | ⟨htype, hlo, hhi⟩
  · simp only [htype, hlo, hhi, hsender]
    rfl
  · simp only [htype, hlo, hhi, hsender]
    rfl

theorem State.ptpMaster_sync (b : Nat) (htype : m.type = 0) :
    s.ptpMaster b m = (s.setMgr { s.mgr with
      sync := s.mgr.sync.set b (some ⟨m.seq, if m.twoStep then none else some m.time, s.stamp b, m.corr⟩)
      syncAt := s.mgr.syncAt.set b s.now }).setRef b true := by
  unfold State.ptpMaster
  exact if_pos htype

/-- The Delay_Resp of the request outstanding gives an offset (R355). -/
theorem State.ptpMaster_delayResp {b n t1 t2 t3 : Nat} {corr : Int} (htype : m.type = 9) (hmine : m.mine = true)
    (hsync : s.mgr.sync.getD b none = some ⟨n, some t1, t2, corr⟩) (hreq : s.mgr.delayReq.getD b none = some (m.seq, t3)) :
    s.ptpMaster b m =
      let t := s.setMgr { s.mgr with delayLog := s.mgr.delayLog.set b (logCycles m.interval) }
      let u := t.ptpOffset b t1 t2 t3 ((m.time : Int) - m.corr).toNat corr
      u.setMgr { u.mgr with delayReq := s.mgr.delayReq.set b none } := by
  unfold State.ptpMaster
  dsimp only
  rw [if_neg (by omega), if_neg (by omega), if_pos (by simp [htype, hmine]), hsync]
  have hreq' : (s.setMgr { s.mgr with delayLog := s.mgr.delayLog.set b (logCycles m.interval) }).mgr.delayReq.getD b none
      = some (m.seq, t3) := hreq
  rw [hreq']
  exact if_pos rfl

end

/-- A base whose master has fallen silent is no longer valid (R355, assumption log 34). -/
theorem execBaseValidityTimeout_lost {s : State} {b n id : Nat} (hn : cyclesS 1 = n) (hb : b < 2) (hmgr : s.isMgr = true)
    (hmaster : s.mgr.master.getD b none = some id) :
    execBaseValidityTimeout b s = .next ((((s.pass 0).gotoNow (nth s.mgr.syncAt b + n)).setRef b false).raise 245 0) := by
  have hmgr' : (s.pass 0).isMgr = true := hmgr
  have hmaster' : (s.pass 0).mgr.master.getD b none = some id := hmaster
  unfold execBaseValidityTimeout
  dsimp only
  rw [hn, hmgr', hmaster', if_neg (by simp; omega)]
  rfl

theorem execCommandTagExpiry_last {s : State} {n : Nat} {t : Nat × Source × Nat} (hn : cyclesS 1 = n) (htags : s.mgr.tags = [t]) :
    execCommandTagExpiry s =
      .next ((s.gotoNow (t.2.2 + n)).setMgr { s.mgr with tags := (s.gotoNow (t.2.2 + n)).liveTags }) := by
  have hlast : s.mgr.tags.getLast? = some t := by rw [htags]; rfl
  unfold execCommandTagExpiry
  rw [hlast, hn]
  rfl

/-- Settles O38, by the checks each packet passes and by what is done with it. Event 245 at the time-out of a base's validity follows assumption
log 34, event 313 for a payload that cannot be read log 35. -/
theorem networkRowsTakeEffect : Obligations.NetworkRowsTakeEffect := by
  refine ⟨fun q dt s h => ?_, fun q dt s h => ?_, fun p dt hwhole hkind s h => ?_, fun p dt hwhole hkind s h => ?_,
    fun d r dt hrtp hbytes hkind hpos hlen => ⟨fun s h => ?_, fun w hmost s h => ?_⟩,
    fun d r flow dt hrtp => ⟨fun segs hsegs => ⟨fun hmarker s h => ?_, fun s h => ?_⟩, fun hsegs s h => ?_⟩,
    fun m dt htype hversion hminor hv6 hlo hhi s h => ?_, fun m dt t1 t2 t3 corr htype hmine hversion hminor hv6 hlo hhi s h => ?_,
    fun b dt id q x hb s h => ?_, fun b id f hb s h => ?_, fun b id hb s h => ?_, fun t s h => ?_⟩
  · obtain ⟨hmgr, hport, hdown⟩ := h
    exact congrArg Host.Outcome.next (State.ethChange_up (s := s.pass dt) hmgr hport hdown)
  · obtain ⟨hmgr, hport, hup⟩ := h
    exact congrArg Host.Outcome.next (State.ethChange_down (s := s.pass dt) hmgr hport hup)
  · obtain ⟨hheard, hset, htarget⟩ := h
    exact congrArg Host.Outcome.next (State.netControl_own (s := s.pass dt) hwhole hkind hheard rfl hset htarget)
  · exact congrArg Host.Outcome.next (State.netControl_query (s := s.pass dt) hwhole hkind h)
  · obtain ⟨⟨hheard, haddr, hport, htype⟩, hworkers⟩ := h
    exact (execRtpSlabPacket_heard hrtp hbytes hheard haddr hport htype).trans
      (congrArg Host.Outcome.next (State.slabPacket_unknown (s := s.pass dt) hkind hpos hlen hworkers))
  · obtain ⟨⟨hheard, haddr, hport, htype⟩, hworkers, hx, hy, hslow, hfast, hroom, hssrc, hseq, hrange, hwindow, hparcels, hoff, hpeel⟩ := h
    exact (execRtpSlabPacket_heard hrtp hbytes hheard haddr hport htype).trans
      (congrArg Host.Outcome.next (State.slabPacket_next (s := s.pass dt) rfl hkind hpos hlen hmost hworkers hx hy hslow hfast hroom hssrc
        hseq hrange hwindow hparcels hoff hpeel))
  · obtain ⟨⟨hheard, hflow, htype⟩, htime, hopen, hin⟩ := h
    refine (execLiveFlowPacket_heard hrtp hheard hflow htype).trans ?_
    rw [hsegs, hmarker]
    exact congrArg Host.Outcome.next (State.livePacket_within (s := s.pass dt) htime hopen hin)
  · obtain ⟨⟨hheard, hflow, htype⟩, hout⟩ := h
    refine (execLiveFlowPacket_heard hrtp hheard hflow htype).trans ?_
    rw [hsegs]
    exact congrArg Host.Outcome.next (State.livePacket_outside (s := s.pass dt) hout _ _)
  · obtain ⟨hheard, hflow, htype⟩ := h
    refine (execLiveFlowPacket_heard hrtp hheard hflow htype).trans ?_
    rw [hsegs]
    rfl
  · obtain ⟨hmgr, hen, hv4, hdomain, hsender⟩ := h
    exact congrArg Host.Outcome.next ((State.ptpMessage_master (s := s.pass dt) hmgr hen hv4 hversion hminor hv6 hdomain hsender
      (.inr ⟨htype, hlo, hhi⟩)).trans (State.ptpMaster_sync 0 htype))
  · obtain ⟨hmgr, hen, hv4, hdomain, hsender, hreq, n, hsync⟩ := h
    exact congrArg Host.Outcome.next ((State.ptpMessage_master (s := s.pass dt) hmgr hen hv4 hversion hminor hv6 hdomain hsender
      (.inl ⟨htype, hlo, hhi⟩)).trans (State.ptpMaster_delayResp htype hmine hsync hreq))
  · obtain ⟨hmgr, hmaster, hen, hreq⟩ := h
    have hmgr' : (s.pass dt).isMgr = true := hmgr
    have hmaster' : (s.pass dt).mgr.master.getD b none = some id := hmaster
    have hen' : (s.pass dt).rb Reg.TIME_PTP_PTP_EN = true := hen
    have hreq' : (s.pass dt).mgr.delayReq.getD b none = some (q, x) := hreq
    change execPtpDelayReqSend b dt s = _
    unfold execPtpDelayReqSend
    dsimp only
    rw [hmgr', hmaster', hen', if_neg (by simp; omega), hreq']
    rfl
  · obtain ⟨hmaster, hforeign⟩ := h
    have hmaster' : (s.pass 0).mgr.master.getD b none = some id := hmaster
    have hforeign' : (s.pass 0).mgr.foreign.find? (fun (x : Foreign) => decide (x.dom = b) && decide (x.id = id)) = some f := hforeign
    change execPtpTimeout b s = _
    unfold execPtpTimeout
    dsimp only
    rw [hmaster']
    dsimp only
    rw [hforeign', if_neg (by omega)]
    rfl
  · obtain ⟨hmgr, hmaster⟩ := h
    exact execBaseValidityTimeout_lost (by norm_num [cyclesS]) hb hmgr hmaster
  · exact execCommandTagExpiry_last (by norm_num [cyclesS]) h

end Sys2Proof.Machine
end

section
/-! The pair of managers: messages, missed ticks and the hand-back (R313–R323). -/

namespace Sys2Proof.Machine

/-! ### Messages -/

/-- A message on the UDP path whose fence value is the one seen. -/
structure State.Hears (s : State) (q : List Word) : Prop where
  mgr : s.isMgr = true
  path : s.pathOn 1 = true
  seen : s.rb Reg.LINK_PEEL_SEEN = true
  fence : fenceValue (nthW q 1) = peelValue s.regs

section
variable {s : State} {q : List Word}

theorem State.noteFence_same {v : Nat} (hseen : s.rb Reg.LINK_PEEL_SEEN = true) (hv : v = peelValue s.regs) : s.noteFence v = s := by
  unfold State.noteFence
  rw [if_neg (by simp [hseen]), if_neg (by omega)]

theorem State.peerMessage_heard (h : s.Hears q) :
    s.peerMessage 1 q =
      let v := fenceValue (nthW q 1)
      let q4 := (nthW q 4).toNat
      match bits (nthW q 0) 35 32 with
      | 1 => s.takeRenew 1 (bit (nthW q 0) 31) (bit (nthW q 0) 30) (bits (nthW q 0) 29 29) v (join48 (nthW q 2) (nthW q 3))
      | 2 => s.mirrorMessage q4 q
      | 3 =>
        if s.r Reg.MGR_PAIR_STATUS_STATE ≠ 3 then s
        else if s.role = 2 && s.r Reg.MGR_CTRL_RETURN = 1 then s.raise 325 0
        else
          let n := s.time.last + 16
          let s := s.setMgr { s.mgr with handback := some (n, false) }
          s.sendPeer (s.peerHead 4 s.mgr.gen ++ [word (n / 2 ^ 36), word n])
      | 4 =>
        let h := (nthW q 5).toNat * 2 ^ 36 + (nthW q 6).toNat
        if s.peelHeld then s
        else (s.setMgr { s.mgr with handback := some (h, true), released := false }).sendPeer (s.peerHead 5 (h % 2 ^ 36))
      | 5 =>
        let m := s.mgr
        if m.handback.any (fun x => x.1 % 2 ^ 36 = q4) then s.setMgr { m with handback := m.handback.map (fun x => (x.1, true)) }
        else if s.peelHeld then s.mirrorAck q4 else s
      | _ => s := by
  obtain ⟨hmgr, hpath, hseen, hfence⟩ := h
  unfold State.peerMessage
  dsimp only
  rw [if_neg (by simp [hmgr, hpath]), State.noteFence_same hseen hfence] <;> rfl

theorem State.mirrorMessage_otherImage {g : Nat} (h : (q.drop 5).take 16 ≠ s.fwIdentity) : s.mirrorMessage g q = s.raise 325 0 := by
  unfold State.mirrorMessage
  exact if_pos h

/-- A whole mirror in one message comes into force and is acknowledged (R321). -/
theorem State.mirrorMessage_whole {g : Nat} (hwhole : bit (nthW q 21) 34 = true) (hlast : bit (nthW q 21) 35 = true)
    (hpart : bits (nthW q 21) 31 0 = 0) (hsame : (q.drop 5).take 16 = s.fwIdentity) (hpeel : s.peelHeld = false) :
    s.mirrorMessage g q =
      let l := q.drop 23
      let t := (s.setMgr { s.mgr with mirrorIn := (g, 1, l) }).takeMirror (mirrorWith [] (partsOf l.length l))
      let t := t.setMgr { t.mgr with acked := g }
      t.sendPeer (t.peerHead 5 g) := by
  unfold State.mirrorMessage
  dsimp only
  rw [if_neg (not_not.2 hsame), if_neg (by simp [hpeel]), if_neg (by simp [hwhole]), if_neg (by simp [hpart]), hpart, hlast,
    if_neg (by decide), hwhole]
  rfl

/-- A mirror that builds on another than the one held asks for a whole one (R321). -/
theorem State.mirrorMessage_otherBase {g : Nat} (hpartial : bit (nthW q 21) 34 = false) (hlast : bit (nthW q 21) 35 = true)
    (hpart : bits (nthW q 21) 31 0 = 0) (hsame : (q.drop 5).take 16 = s.fwIdentity) (hpeel : s.peelHeld = false)
    (hnew : s.mgr.acked ≠ g) (hbase : s.mgr.acked ≠ (nthW q 22).toNat) :
    s.mirrorMessage g q =
      let t := s.setMgr { s.mgr with mirrorIn := (g, 1, q.drop 23) }
      t.sendPeer (t.peerHead 5 0) := by
  unfold State.mirrorMessage
  dsimp only
  rw [if_neg (not_not.2 hsame), if_neg (by simp [hpeel]), if_neg (by simp [hnew]), if_neg (by simp [hpart]), hpart, hlast,
    if_neg (by decide), hpartial, if_neg Bool.false_ne_true, if_neg hbase]
  rfl

end

theorem State.mirrorAck_of_ne (s : State) {g : Nat} (h : g ≠ 0) :
    s.mirrorAck g = s.setMgr { s.mgr with
      acked := g
      mirrorsOut := s.mgr.mirrorsOut.filter (fun p => g < p.1)
      mirrorBase := (s.mgr.mirrorsOut.find? (fun p => p.1 = g)).orElse (fun _ => s.mgr.mirrorBase) } := by
  unfold State.mirrorAck
  exact if_neg h

/-! ### RENEW_WAIT and the renewals -/

/-- The standby that acknowledged no new mirror while its mirror is not in sync (R321). -/
theorem State.mirrorWait_standby {s : State} (hpeel : s.peelHeld = false) (hacked : s.mgr.acked = s.mgr.gen)
    (hok : s.rb Reg.MGR_PAIR_STATUS_MIRROR_OK = false) (hunacked : s.mgr.unacked = 0) :
    s.mirrorWait = s.setMgr { s.mgr with unacked := 1 } := by
  unfold State.mirrorWait
  simp only [hpeel, hok, hunacked, hacked, ne_eq, not_true_eq_false, decide_false, Bool.false_and, Bool.and_false, Bool.false_eq_true, if_false]
  rfl

/-- A tick that is not clean starts the count anew (R323). -/
theorem State.countClean_unclean {s : State} (hok : s.rb Reg.MGR_PAIR_STATUS_MIRROR_OK = false) (hport : s.mgr.portFell = false) :
    s.countClean = s.w Reg.MGR_PAIR_STATUS_CLEAN 0 := by
  have hmgr : s.setMgr { s.mgr with portFell := false } = s := by
    rw [← hport]
    rfl
  unfold State.countClean
  simp only [hok, hmgr, Bool.false_and, Bool.false_eq_true, if_false]
  rfl

theorem State.handbackReady_none {s : State} (h : s.mgr.handback = none) : s.handbackReady = false := by
  simp [State.handbackReady, h]

theorem State.renewed_counts {s : State} {path : Nat} (hpath : s.pathOn path = true) (hwaited : s.mgr.waited ≠ some s.time.last)
    (htime : s.tb3 ≤ s.sched s.time.last + us (s.r Reg.MGR_CTRL_RENEW_WAIT)) :
    s.renewed path = s.setMgr { s.mgr with heard := s.mgr.heard ||| 2 ^ path } := by
  unfold State.renewed
  exact if_pos (by simp [hpath, hwaited, htime])

@[simp] theorem State.setMgr_r (s : State) (m : MgrState) (f : Fld) (i : Nat) : (s.setMgr m).r f i = s.r f i := rfl
@[simp] theorem State.setMgr_mgr (s : State) (m : MgrState) : (s.setMgr m).mgr = m := rfl

/-- HEARD shown leaves the rest of the pair's status (R314). -/
theorem State.waitNoted_keeps (s : State) (m : MgrState) :
    ((s.setMgr m).w Reg.MGR_PAIR_STATUS_HEARD 0).r Reg.MGR_PAIR_STATUS_STATE = s.r Reg.MGR_PAIR_STATUS_STATE
    ∧ ((s.setMgr m).w Reg.MGR_PAIR_STATUS_HEARD 0).r Reg.MGR_PAIR_STATUS_MIRROR_OK = s.r Reg.MGR_PAIR_STATUS_MIRROR_OK :=
  ⟨State.w_other _ _ _ _ _ _ (by decide), State.w_other _ _ _ _ _ _ (by decide)⟩

/-- The manager's control fields are not of the pair's status (R314). -/
theorem State.pairCtrl_keeps (s : State) {f : Fld} (hf : f = Reg.MGR_CTRL_LEASE ∨ f = Reg.MGR_CTRL_BRIDGE) :
    (∀ v, (s.w Reg.MGR_PAIR_STATUS_MISSED v).r f = s.r f) ∧ (∀ v, (s.w Reg.MGR_PAIR_STATUS_HEARD v).r f = s.r f)
    ∧ (∀ v, (s.w Reg.MGR_PAIR_STATUS_CLEAN v).r f = s.r f) ∧ (s.raise 314 0).r f = s.r f := by
  rcases hf with rfl | rfl <;>
    exact ⟨fun _ => State.w_other _ _ _ _ _ _ (by decide), fun _ => State.w_other _ _ _ _ _ _ (by decide),
      fun _ => State.w_other _ _ _ _ _ _ (by decide), State.raise_other _ _ _ _ _ (by decide) (by decide)⟩

/-- RENEW_WAIT after the first tick without a renewal, by its stages: HEARD shown (`a`), the mirror's sync judged (`b`), the clean ticks counted
(`c`). -/
theorem State.renewWait_unheard {s a b c : State} (hopen : ¬(!s.isMgr || s.stage ≠ 2 || !s.time.ticked || s.mgr.waited = some s.time.last) = true)
    (hheard : s.mgr.heard = 0) (hmissed : s.mgr.missed = 0)
    (ha : (s.setMgr { s.mgr with waited := some s.time.last }).w Reg.MGR_PAIR_STATUS_HEARD s.mgr.heard = a) (hb : a.mirrorWait = b)
    (hstate : b.r Reg.MGR_PAIR_STATUS_STATE = 1) (hc : b.countClean = c) (hready : c.handbackReady = false)
    (hlease : 2 ≤ c.r Reg.MGR_CTRL_LEASE) (hbridge : 2 ≤ c.r Reg.MGR_CTRL_BRIDGE) :
    s.renewWait = ((c.setMgr { c.mgr with missed := 1 }).w Reg.MGR_PAIR_STATUS_MISSED 1).raise 314 0 := by
  have hlease' : ¬(((c.setMgr { c.mgr with missed := 1 }).w Reg.MGR_PAIR_STATUS_MISSED 1).raise 314 0).r Reg.MGR_CTRL_LEASE
      + (((c.setMgr { c.mgr with missed := 1 }).w Reg.MGR_PAIR_STATUS_MISSED 1).raise 314 0).r Reg.MGR_CTRL_GUARD ≤ 1 := by
    rw [(State.pairCtrl_keeps _ (.inl rfl)).2.2.2, (State.pairCtrl_keeps _ (.inl rfl)).1, State.setMgr_r]
    omega
  have hbridge' : ¬(((c.setMgr { c.mgr with missed := 1 }).w Reg.MGR_PAIR_STATUS_MISSED 1).raise 314 0).r Reg.MGR_CTRL_BRIDGE ≤ 1 := by
    rw [(State.pairCtrl_keeps _ (.inr rfl)).2.2.2, (State.pairCtrl_keeps _ (.inr rfl)).1, State.setMgr_r]
    omega
  have hone : satN 15 1 = 1 := by decide
  have hnext : s.mgr.missed + 1 = 1 := by omega
  subst ha hb hc
  dsimp only at hstate hready hlease' hbridge'
  unfold State.renewWait
  rw [if_neg hopen]
  dsimp only
  rw [hstate, if_neg (by decide), hready, if_neg Bool.false_ne_true, if_neg (not_not.2 hheard), hnext, hone]
  simp only [State.raiseIf, decide_true, if_true, hlease', hbridge', decide_false, Bool.false_and, Bool.true_and, Bool.false_eq_true, if_false]

/-- The first tick without a renewal (R314, R316, R317): event 314, and neither bridging nor a claim while BRIDGE and LEASE are at least 2. -/
theorem State.renewWait_missed {s : State} (hmgr : s.isMgr = true) (hstage : s.stage = 2) (hticked : s.time.ticked = true)
    (hwaited : s.mgr.waited ≠ some s.time.last) (hheard : s.mgr.heard = 0) (hmissed : s.mgr.missed = 0)
    (hstate : s.r Reg.MGR_PAIR_STATUS_STATE = 1) (hlease : 2 ≤ s.r Reg.MGR_CTRL_LEASE) (hbridge : 2 ≤ s.r Reg.MGR_CTRL_BRIDGE)
    (hok : s.rb Reg.MGR_PAIR_STATUS_MIRROR_OK = false) (hacked : s.mgr.acked = s.mgr.gen) (hunacked : s.mgr.unacked = 0)
    (hport : s.mgr.portFell = false) (hback : s.mgr.handback = none) :
    s.renewWait =
      let t := (s.setMgr { s.mgr with waited := some s.time.last }).w Reg.MGR_PAIR_STATUS_HEARD 0
      let t := (t.setMgr { s.mgr with waited := some s.time.last, unacked := 1 }).w Reg.MGR_PAIR_STATUS_CLEAN 0
      ((t.setMgr { t.mgr with missed := 1 }).w Reg.MGR_PAIR_STATUS_MISSED 1).raise 314 0 := by
  have hnoted (m : MgrState) : ((s.setMgr m).w Reg.MGR_PAIR_STATUS_HEARD 0).r Reg.MGR_PAIR_STATUS_STATE = 1 :=
    (s.waitNoted_keeps m).1.trans hstate
  have hpeel (m : MgrState) : ((s.setMgr m).w Reg.MGR_PAIR_STATUS_HEARD 0).peelHeld = false := by
    rw [State.peelHeld, hnoted]
    exact Bool.and_eq_false_iff.2 (.inr (by decide))
  have hok' (m : MgrState) : ((s.setMgr m).w Reg.MGR_PAIR_STATUS_HEARD 0).rb Reg.MGR_PAIR_STATUS_MIRROR_OK = false :=
    decide_eq_false (not_not.2 ((s.waitNoted_keeps m).2.trans (of_not_not (of_decide_eq_false hok))))
  rw [State.renewWait_unheard (by simp [hmgr, hstage, hticked, hwaited]) hheard hmissed (congrArg (State.w _ Reg.MGR_PAIR_STATUS_HEARD · 0) hheard)
    (State.mirrorWait_standby (hpeel _) hacked (hok' _) hunacked) (hnoted _)
    (State.countClean_unclean (s := (State.w _ Reg.MGR_PAIR_STATUS_HEARD 0).setMgr _) (hok' _) hport) (State.handbackReady_none hback) ?_ ?_]
  · rfl
  · rw [(State.pairCtrl_keeps _ (.inl rfl)).2.2.1, State.setMgr_r, (State.pairCtrl_keeps _ (.inl rfl)).2.1, State.setMgr_r]
    exact hlease
  · rw [(State.pairCtrl_keeps _ (.inr rfl)).2.2.1, State.setMgr_r, (State.pairCtrl_keeps _ (.inr rfl)).2.1, State.setMgr_r]
    exact hbridge

/-- Settles O39, by the kind of each message and by what a tick without a renewal does. The mirror's layout and parts are assumption log 37's,
the ACK's fields log 38's. -/
theorem pairRowsTakeEffect : Obligations.PairRowsTakeEffect := by
  have hparts (words : List Word) : words.take 5 ++ words.drop 5 = words := List.take_append_drop 5 words
  refine ⟨fun q dt hkind s h => ?_, fun q dt hkind => ⟨fun s h => ?_, fun hwhole hlast hpart s h => ?_, fun hpartial hlast hpart s h => ?_⟩,
    fun q dt hkind s h => ?_, fun q dt hkind s h => ?_, fun q dt hkind hgen s h => ?_, fun dt p s h => ?_, fun s h => ?_, fun b s h => ?_,
    fun b a s h => ?_⟩
  · obtain ⟨hmgr, hpath, hseen, hfence⟩ := h
    change execPeerMessageReceive 1 (q.take 5) (q.drop 5) dt s = _
    rw [execPeerMessageReceive, hparts, State.peerMessage_heard (s := s.pass dt) ⟨hmgr, hpath, hseen, hfence⟩, hkind]
    rfl
  · obtain ⟨⟨hmgr, hpath, hseen, hfence⟩, hother⟩ := h
    change execPeerMessageReceive 1 (q.take 5) (q.drop 5) dt s = _
    rw [execPeerMessageReceive, hparts, State.peerMessage_heard (s := s.pass dt) ⟨hmgr, hpath, hseen, hfence⟩, hkind]
    exact congrArg Host.Outcome.next (State.mirrorMessage_otherImage hother)
  · obtain ⟨⟨hmgr, hpath, hseen, hfence⟩, hsame, hpeel⟩ := h
    change execPeerMessageReceive 1 (q.take 5) (q.drop 5) dt s = _
    rw [execPeerMessageReceive, hparts, State.peerMessage_heard (s := s.pass dt) ⟨hmgr, hpath, hseen, hfence⟩, hkind]
    exact congrArg Host.Outcome.next (State.mirrorMessage_whole (s := s.pass dt) hwhole hlast hpart hsame hpeel)
  · obtain ⟨⟨hmgr, hpath, hseen, hfence⟩, hsame, hpeel, hnew, hbase⟩ := h
    change execPeerMessageReceive 1 (q.take 5) (q.drop 5) dt s = _
    rw [execPeerMessageReceive, hparts, State.peerMessage_heard (s := s.pass dt) ⟨hmgr, hpath, hseen, hfence⟩, hkind]
    exact congrArg Host.Outcome.next (State.mirrorMessage_otherBase (s := s.pass dt) hpartial hlast hpart hsame hpeel hnew hbase)
  · obtain ⟨hmgr, hpath, hseen, hfence, hstate, hrole⟩ := h
    change execPeerMessageReceive 1 (q.take 5) (q.drop 5) dt s = _
    rw [execPeerMessageReceive, hparts, State.peerMessage_heard (s := s.pass dt) ⟨hmgr, hpath, hseen, hfence⟩, hkind]
    have hrole' : (s.pass dt).role ≠ 2 := fun h2 => absurd (hrole.symm.trans h2) (by decide)
    exact congrArg Host.Outcome.next ((if_neg (not_not.2 hstate)).trans (if_neg fun h => hrole' (of_decide_eq_true (Bool.and_eq_true_iff.1 h).1)))
  · obtain ⟨hmgr, hpath, hseen, hfence, hpeel⟩ := h
    change execPeerMessageReceive 1 (q.take 5) (q.drop 5) dt s = _
    rw [execPeerMessageReceive, hparts, State.peerMessage_heard (s := s.pass dt) ⟨hmgr, hpath, hseen, hfence⟩, hkind]
    have hpeel' : ¬(s.pass dt).peelHeld = true := fun h => absurd (hpeel.symm.trans h) Bool.false_ne_true
    exact congrArg Host.Outcome.next (if_neg hpeel')
  · obtain ⟨hmgr, hpath, hseen, hfence, hpeel, hback⟩ := h
    change execPeerMessageReceive 1 (q.take 5) (q.drop 5) dt s = _
    rw [execPeerMessageReceive, hparts, State.peerMessage_heard (s := s.pass dt) ⟨hmgr, hpath, hseen, hfence⟩, hkind]
    have hnone (n : Nat) : ¬((s.pass dt).mgr.handback.any fun x => decide (x.1 % 2 ^ 36 = n)) = true := by
      rw [State.pass_mgr, hback]
      exact Bool.false_ne_true
    exact congrArg Host.Outcome.next ((if_neg (hnone _)).trans ((if_pos hpeel).trans ((s.pass dt).mirrorAck_of_ne hgen)))
  · obtain ⟨hmgr, hpeer, hpath, hwaited, htime⟩ := h
    have hactive : ((s.pass dt).isMgr && (s.pass dt).mgr.peer.any (fun p => p.1)) = true := by
      rw [State.pass_mgr, hpeer]
      exact Bool.and_eq_true_iff.2 ⟨hmgr, rfl⟩
    change execPeerAliveInToggle dt s = _
    unfold execPeerAliveInToggle
    exact (if_pos hactive).trans (congrArg Host.Outcome.next (State.renewed_counts (s := s.pass dt) hpath hwaited htime))
  · obtain ⟨hmgr, hstage, hticked, hwaited, hheard, hmissed, hstate, hlease, hbridge, hok, hacked, hunacked, hport, hback⟩ := h
    change execRenewWaitExpiry s = _
    rw [execRenewWaitExpiry, if_neg (by simp [hmgr, hticked, hwaited])]
    exact congrArg Host.Outcome.next (State.renewWait_missed (s := s.goto _) hmgr hstage hticked hwaited hheard hmissed hstate hlease
      hbridge hok hacked hunacked hport hback)
  · obtain ⟨hmgr, hpeel, hback, htick, hreleased⟩ := h
    have hready : (s.pass 0).handbackReady = true := by
      have hmgr' : (s.pass 0).isMgr = true := hmgr
      have hpeel' : (s.pass 0).peelHeld = false := hpeel
      rw [State.handbackReady, hmgr', hpeel', State.pass_mgr, hback, hreleased]
      simp [htick]
    change execHandbackTick s = _
    unfold execHandbackTick
    exact if_pos hready
  · obtain ⟨hmgr, hback, hstate⟩ := h
    change execHandbackTimeout s = _
    unfold execHandbackTimeout
    rw [hback]
    refine (if_pos hmgr).trans (congrArg Host.Outcome.next ?_)
    unfold State.handbackFails
    exact congrArg (fun t : State => (t.w Reg.MGR_PAIR_STATUS_CLEAN 0).raise 324 0) (if_neg hstate)

end Sys2Proof.Machine
end

section
/-! Streams (R59–R88) and the slab decoder (R91–R113). -/

namespace Sys2Proof.Machine

/-! ### Words at the front of the FIFO -/

theorem gapWithin_words (ws : List Word) (rest : List StreamItem) : gapWithin ws.length (ws.map StreamItem.word ++ rest) = false := by
  induction ws with
  | nil => rfl
  | cons w ws ih => exact ih

theorem takeWords_words (ws : List Word) (rest : List StreamItem) : takeWords ws.length (ws.map StreamItem.word ++ rest) = some ws := by
  induction ws with
  | nil => rfl
  | cons w ws ih =>
    change (takeWords ws.length (ws.map StreamItem.word ++ rest)).map (w :: ·) = _
    rw [ih]
    rfl

theorem drop_words (ws : List Word) (rest : List StreamItem) : (ws.map StreamItem.word ++ rest).drop ws.length = rest :=
  List.drop_left' (List.length_map _)

theorem headerLen_batch {ws : List Word} (hmark : nthW ws 0 = batchMarker) (hlen : ws.length = 7 + 7 * entryCount (nthW ws 1))
    (rest : List StreamItem) : headerLen (ws.map StreamItem.word ++ rest) = some ws.length := by
  rcases ws with _ | ⟨m, _ | ⟨h1, t⟩⟩
  · simp at hlen
    omega
  · simp at hlen
    omega
  · change m = batchMarker at hmark
    rw [hlen, hmark]
    rfl

/-- Without an open chunk sequence nothing ends with the batch (R78). -/
theorem State.endBatchSeqs_none {s : State} (h : s.stream.seqs = []) : s.endBatchSeqs = s := by
  unfold State.endBatchSeqs
  rw [h]
  rfl

/-! ### STREAM packets -/

section
variable {s : State} {off : Word} {ws : List Word}

theorem State.streamPacket_restart (h : s.stream.started = false ∨ ws = []) (hseqs : s.stream.seqs = []) :
    s.streamPacket (off :: ws) =
      ({ s with
        stream := { s.stream with started := true, lossSearch := false, batch := none, fifo := (ws.take 524288).map StreamItem.word }
        regs := rset (rset s.regs Reg.DECODE_STREAM_STATUS_ALIGNED 0 0) Reg.DECODE_STREAM_OFFSET_EXPECTED 0
          (off.toNat + min ws.length 524288) }.raiseIf (524288 < ws.length) 456 0).settle := by
  have hfirst : (!s.stream.started || ws.isEmpty) = true := by
    rcases h with h | h
    · simp [h]
    · simp [h]
  unfold State.streamPacket
  dsimp only
  rw [if_pos hfirst, State.endBatchSeqs_none hseqs]
  rfl

theorem State.streamPacket_goesOn (hstarted : s.stream.started = true) (hws : ws ≠ []) :
    s.streamPacket (off :: ws) =
      let d := (off.toNat + 2 ^ 36 - s.r Reg.DECODE_STREAM_OFFSET_EXPECTED) % 2 ^ 36
      if 2 ^ 35 ≤ d then s
      else
        let s := if d = 0 then s
          else { s with stream := { s.stream with fifo := s.stream.fifo ++ [StreamItem.gap d] } }.raise 455 (satN 0xFFFFFFF d)
        let kept := ws.take (524288 - itemWords s.stream.fifo)
        ({ s with
          stream := { s.stream with fifo := s.stream.fifo ++ kept.map StreamItem.word }
          regs := rset s.regs Reg.DECODE_STREAM_OFFSET_EXPECTED 0 (off.toNat + kept.length) }.raiseIf (kept.length < ws.length) 456 0).settle := by
  unfold State.streamPacket
  exact if_neg (by simp [hstarted, hws])

/-- A packet at the offset expected joins the FIFO (R85, R88). -/
theorem State.streamPacket_inOrder (hstarted : s.stream.started = true) (hws : ws ≠ [])
    (hoff : off.toNat = s.r Reg.DECODE_STREAM_OFFSET_EXPECTED) :
    s.streamPacket (off :: ws) =
      let kept := ws.take (524288 - itemWords s.stream.fifo)
      ({ s with
        stream := { s.stream with fifo := s.stream.fifo ++ kept.map StreamItem.word }
        regs := rset s.regs Reg.DECODE_STREAM_OFFSET_EXPECTED 0 (off.toNat + kept.length) }.raiseIf (kept.length < ws.length) 456 0).settle := by
  have hzero : (off.toNat + 2 ^ 36 - s.r Reg.DECODE_STREAM_OFFSET_EXPECTED) % 2 ^ 36 = 0 := by omega
  rw [State.streamPacket_goesOn hstarted hws]
  dsimp only
  rw [hzero, if_neg (by norm_num), if_pos rfl]

/-- A gap before the packet is a lost run of the FIFO, with event 455 (R87). -/
theorem State.streamPacket_gap {d : Nat} (hstarted : s.stream.started = true) (hws : ws ≠ []) (hpos : 0 < d) (hnear : d < 2 ^ 35)
    (hd : (off.toNat + 2 ^ 36 - s.r Reg.DECODE_STREAM_OFFSET_EXPECTED) % 2 ^ 36 = d) :
    s.streamPacket (off :: ws) =
      let u := { s with stream := { s.stream with fifo := s.stream.fifo ++ [StreamItem.gap d] } }.raise 455 (satN 0xFFFFFFF d)
      let kept := ws.take (524288 - itemWords u.stream.fifo)
      ({ u with
        stream := { u.stream with fifo := u.stream.fifo ++ kept.map StreamItem.word }
        regs := rset u.regs Reg.DECODE_STREAM_OFFSET_EXPECTED 0 (off.toNat + kept.length) }.raiseIf (kept.length < ws.length) 456 0).settle := by
  rw [State.streamPacket_goesOn hstarted hws]
  dsimp only
  rw [hd, if_neg (by omega), if_neg (by omega)]

/-- A packet from before the offset expected changes nothing (R87). -/
theorem State.streamPacket_before (hstarted : s.stream.started = true) (hws : ws ≠ [])
    (hd : 2 ^ 35 ≤ (off.toNat + 2 ^ 36 - s.r Reg.DECODE_STREAM_OFFSET_EXPECTED) % 2 ^ 36) : s.streamPacket (off :: ws) = s := by
  rw [State.streamPacket_goesOn hstarted hws]
  exact if_pos hd

end

/-! ### Batch headers -/

/-- The header of a batch stands whole at the front of the FIFO (R62, R63). -/
structure State.HeaderAt (s : State) (ws : List Word) (rest : List StreamItem) : Prop where
  aligned : s.rb Reg.DECODE_STREAM_STATUS_ALIGNED = true
  fifo : s.stream.fifo = ws.map StreamItem.word ++ rest
  mark : nthW ws 0 = batchMarker
  len : ws.length = 7 + 7 * entryCount (nthW ws 1)
  seqs : s.stream.seqs = []

/-- The state with the header taken from the FIFO. -/
def State.headerTaken (s : State) (rest : List StreamItem) : State := { s with stream := { s.stream with fifo := rest, batch := none } }

/-- The frame that a batch header names (R64). -/
abbrev headerFrame (ws : List Word) : Nat := frameOf (nthW ws 1) (nthW ws 2)

section
variable {s : State} {ws : List Word} {rest : List StreamItem}

theorem State.headerParse_whole (h : s.HeaderAt ws rest) : s.headerParse = ((s.parseBatch ws rest).closeBatch).settle := by
  obtain ⟨haligned, hfifo, hmark, hlen, -⟩ := h
  obtain ⟨t, ht⟩ : ∃ t, s.stream.fifo = StreamItem.word batchMarker :: t := by
    rw [hfifo]
    cases ws with
    | nil => simp at hlen; omega
    | cons m ws => exact ⟨_, by rw [show batchMarker = m from hmark.symm]; rfl⟩
  unfold State.headerParse
  split
  next m u hu =>
    have hm : m = batchMarker := by
      rw [ht] at hu
      injection hu with h1 h2
      injection h1 with h3
      exact h3.symm
    rw [if_pos (by simp [hm, haligned]), hfifo, headerLen_batch hmark hlen]
    dsimp only
    rw [gapWithin_words, takeWords_words, drop_words]
    exact if_neg Bool.false_ne_true
  next hno => exact absurd ht (hno _ _)

/-- The batch lies beyond the horizon (R64). -/
def State.tooEarly (s : State) (n : Nat) : Bool := s.curFrame + s.es Reg.DECODE_STREAM_CTRL_HORIZON < n

/-- The batch at the front is open with this many chunks to come (R63, R67). -/
def State.batchOpened (s : State) (ws : List Word) (left : Option Nat) (skip : Bool) : State :=
  { s with stream := { s.stream with batch := some ⟨headerFrame ws, left, skip⟩ } }

/-- A header that fails its CRC opens a batch without a count of chunks, with event 454 (R67). -/
theorem State.parseBatch_badCrc (hseqs : s.stream.seqs = []) (hbad : headerOk ws = false) :
    s.parseBatch ws rest = ((s.headerTaken rest).raise 454 (headerFrame ws % 2 ^ 28)).batchOpened ws none false := by
  unfold State.parseBatch State.headerTaken
  rw [State.endBatchSeqs_none hseqs]
  refine (if_pos (by simp [hbad])).trans ?_
  dsimp only
  generalize State.raise _ 454 _ = t
  rfl

/-- A batch no later than the last parsed is discarded whole with event 449 (R64). -/
theorem State.parseBatch_duplicate {l : Nat} (hseqs : s.stream.seqs = []) (hok : headerOk ws = true) (hlast : s.stream.last = some l)
    (hle : headerFrame ws ≤ l) :
    s.parseBatch ws rest =
      ((s.headerTaken rest).raise 449 (headerFrame ws % 2 ^ 28)).batchOpened ws (some (bits (nthW ws 1) 23 12)) true := by
  have hdup : decide (headerFrame ws ≤ l) = true := decide_eq_true hle
  unfold State.parseBatch
  rw [State.endBatchSeqs_none hseqs]
  unfold headerFrame at hdup
  unfold State.headerTaken headerFrame
  dsimp only
  rw [hlast, if_neg (by simp [hok])]
  dsimp only
  rw [if_pos (by rw [hdup]; rfl), if_pos hdup]
  generalize State.raise _ _ _ = t
  rfl

/-- A batch beyond the horizon is discarded whole with event 450 (R64). -/
theorem State.parseBatch_early (hseqs : s.stream.seqs = []) (hok : headerOk ws = true) (hlast : s.stream.last = none)
    (hfar : (s.headerTaken rest).curFrame + s.es Reg.DECODE_STREAM_CTRL_HORIZON < headerFrame ws) :
    s.parseBatch ws rest =
      ((s.headerTaken rest).raise 450 (headerFrame ws % 2 ^ 28)).batchOpened ws (some (bits (nthW ws 1) 23 12)) true := by
  have hearly : (s.headerTaken rest).tooEarly (headerFrame ws) = true := decide_eq_true hfar
  unfold State.parseBatch
  rw [State.endBatchSeqs_none hseqs]
  unfold State.tooEarly State.headerTaken headerFrame at hearly
  unfold State.headerTaken headerFrame
  dsimp only at hearly ⊢
  rw [hlast] at hearly ⊢
  rw [if_neg (by simp [hok])]
  dsimp only
  refine (if_pos ((Bool.false_or _).trans hearly)).trans ?_
  rw [if_neg Bool.false_ne_true]
  generalize State.raise _ _ _ = t
  rfl

/-- The first batch, within the horizon, is taken (R64). -/
theorem State.parseBatch_first (hseqs : s.stream.seqs = []) (hok : headerOk ws = true) (hlast : s.stream.last = none)
    (hnear : headerFrame ws ≤ (s.headerTaken rest).curFrame + s.es Reg.DECODE_STREAM_CTRL_HORIZON) :
    s.parseBatch ws rest = (s.headerTaken rest).takeBatch ws := by
  have hearly : (s.headerTaken rest).tooEarly (headerFrame ws) = false := decide_eq_false (Nat.not_lt.2 hnear)
  unfold State.parseBatch
  rw [State.endBatchSeqs_none hseqs]
  unfold State.tooEarly State.headerTaken headerFrame at hearly
  unfold State.headerTaken
  dsimp only at hearly ⊢
  rw [hlast] at hearly ⊢
  rw [if_neg (by simp [hok])]
  dsimp only
  exact if_neg (ne_true_of_eq_false ((Bool.false_or _).trans hearly))

/-- A batch of no epoch, without discontinuity, end of stream or check of its time (R64–R66, R70). -/
structure State.PlainBatch (s : State) (ws : List Word) : Prop where
  last : s.stream.last = none
  continuous : bit (nthW ws 1) 25 = false
  goesOn : bit (nthW ws 1) 24 = false
  epoch : nthW ws 3 = 0
  untimed : s.es Reg.DECODE_STREAM_CTRL_PRESENT_TOL = 0
  sound : entriesBad (nthW ws 1) (entriesOf (entryCount (nthW ws 1)) (ws.drop 6)) = false

theorem State.raiseIf_true (s : State) (e d : Nat) : s.raiseIf true e d = s.raise e d := if_pos rfl
theorem State.raiseIf_false (s : State) (e d : Nat) : s.raiseIf false e d = s := if_neg Bool.false_ne_true

theorem State.behind_zero (s : State) : s.behind 0 = s := by
  unfold State.behind
  exact if_neg (by simp)

theorem State.presentOff_untimed {s : State} (h : s.es Reg.DECODE_STREAM_CTRL_PRESENT_TOL = 0) (n : Nat) (h4 h5 : Word) :
    s.presentOff n h4 h5 = false := by
  unfold State.presentOff
  rw [h]
  rfl

/-- The batch noted as the last parsed (R64). -/
def State.batchNoted (s : State) (n : Nat) : State := { s with stream := { s.stream with last := some n, parsed := s.stream.parsed ++ [n] } }

theorem State.sched_congr {a b : State} (h : a.regs = b.regs) (k : Nat) : a.sched k = b.sched k := by
  have hr (f : Fld) (i : Nat) : a.r f i = b.r f i := congrArg (fun m => rget m f i) h
  unfold State.sched State.anchorTime State.anchorTick State.num State.den
  simp only [hr]

theorem State.applySched_regs_congr {a b : State} (h : a.regs = b.regs) (c : Sched) : (a.applySched c).regs = (b.applySched c).regs := by
  have hset (k t n d : Nat) : (a.setSchedule k t n d).regs = (b.setSchedule k t n d).regs := congrArg (fun m => rsets m _) h
  unfold State.applySched
  rw [State.sched_congr h]
  cases c.setAnchor with
  | false => exact hset _ _ _ _
  | true => exact hset _ _ _ _

/-- The planned instants rest on the registers and the schedule changes kept alone. -/
theorem State.plannedAt_congr {a b : State} (h : a.regs = b.regs) (hsched : a.time.scheds = b.time.scheds) (k : Nat) :
    a.plannedAt k = b.plannedAt k := by
  have hfold (l : List Sched) : ∀ x y : State, x.regs = y.regs →
      (l.foldl (fun (x : State) c => x.applySched c) x).sched k = (l.foldl (fun (x : State) c => x.applySched c) y).sched k := by
    induction l with
    | nil => exact fun x y hxy => State.sched_congr hxy k
    | cons c l ih => exact fun x y hxy => ih _ _ (State.applySched_regs_congr hxy c)
  unfold State.plannedAt
  rw [hsched]
  exact hfold _ a b h

theorem State.batchNoted_windowOpen (s : State) (n k : Nat) : (s.batchNoted n).windowOpen k = s.windowOpen k := by
  have hnow : (s.batchNoted n).curFrame = s.curFrame := rfl
  have htime : (s.batchNoted n).tb3 = s.tb3 := rfl
  have hes (f : Fld) : (s.batchNoted n).es f = s.es f := rfl
  unfold State.windowOpen State.windowEnd
  rw [hnow, htime, hes, State.plannedAt_congr (a := s.batchNoted n) (b := s) rfl rfl]

theorem State.takeBatch_plain (h : s.PlainBatch ws) :
    s.takeBatch ws =
      (let n := headerFrame ws
       let t := s.batchNoted n
       if t.windowOpen n then t.bindEntries n (some 0) (entriesOf (entryCount (nthW ws 1)) (ws.drop 6)) else t.raise 740 (n % 2 ^ 28)).batchOpened
        ws (some (bits (nthW ws 1) 23 12)) false := by
  obtain ⟨hlast, hcont, hgoes, hepoch, huntimed, hsound⟩ := h
  have hzero : (nthW ws 3).toNat = 0 := by rw [hepoch]; rfl
  have hbehind : ((s.batchNoted (headerFrame ws)).behind 0) = s.batchNoted (headerFrame ws) := State.behind_zero _
  have huntimed' := State.presentOff_untimed (s := s.batchNoted (headerFrame ws)) huntimed (headerFrame ws) (nthW ws 4) (nthW ws 5)
  have hskip : (match s.stream.last with
      | some l => s.raiseIf (l + 1 < headerFrame ws && !bit (nthW ws 1) 25) 448 ((l + 1) % 2 ^ 28)
      | none => s) = s := by
    rw [hlast]
  unfold State.takeBatch
  extract_lets h1 n det disc es epoch s1 s2 src s3 s4 late bad s5 s6 s7 s8 e ending src' last
  have hs2 : s2 = s := (if_neg (by simp [disc, h1, hcont])).trans hskip
  have hs3 : s3 = s.batchNoted n := congrArg (State.batchNoted · n) hs2
  have hs4 : s4 = s.batchNoted n := by
    simp only [s4, epoch, hzero]
    rw [hs3]
    exact hbehind
  have hlate : late = !(s.batchNoted n).windowOpen n := congrArg (fun t : State => !t.windowOpen n) hs4
  have hbad : bad = false := hsound
  have hs5 : s5 = s.batchNoted n := by
    simp only [s5]
    rw [hs4, huntimed', State.raiseIf_false]
  have hs6 : s6 = (s.batchNoted n).raiseIf late 740 det := congrArg (fun t : State => t.raiseIf late 740 det) hs5
  have hs7 : s7 = s6 := by
    simp only [s7, hbad]
    exact State.raiseIf_false _ _ _
  have hlast' : last = s8 := if_neg (by simp [h1, hgoes])
  have hs8 : s8 = if late || bad then s7 else s7.bindEntries n (some 0) es := by rw [← hzero]
  have hends : s8 = if (s.batchNoted n).windowOpen n then (s.batchNoted n).bindEntries n (some 0) es else (s.batchNoted n).raise 740 det := by
    rw [hs8, hbad, Bool.or_false, hs7, hs6, hlate]
    cases (s.batchNoted n).windowOpen n with
    | false => exact (State.raiseIf_true _ _ _).trans (if_neg Bool.false_ne_true).symm
    | true => exact congrArg (fun t : State => t.bindEntries n (some 0) es) (State.raiseIf_false _ _ _)
  change last.batchOpened ws (some (bits (nthW ws 1) 23 12)) false = _
  rw [hlast', hends]

theorem State.closeBatch_open {b : OpenBatch} (hb : s.stream.batch = some b) (hleft : b.left ≠ some 0) : s.closeBatch = s := by
  unfold State.closeBatch
  rw [hb]
  exact if_neg hleft

/-- What follows a batch header taken: the ATLAS sets of the entries bound are checked (R76), seals and readiness looked at again. -/
def State.batchEnds (s a : State) : State :=
  ((((a.fire.inputs.filter (fun (i : FrameInput) => i.entries.isSome && !s.fire.inputs.contains i)).map (fun (i : FrameInput) => i.frame)).foldl
    (fun (x : State) n => x.atlasCheck n []) a).sealBound).recheck

/-- BATCH_HEADER_PARSE of a whole header, by what the parser makes of it. -/
theorem execBatchHeaderParse_opens {t : State} {left : Option Nat} {skip : Bool} (h : s.HeaderAt ws rest)
    (hparse : (s.pass 0).parseBatch ws rest = t.batchOpened ws left skip) (hleft : left ≠ some 0) :
    execBatchHeaderParse s = .next (s.batchEnds (t.batchOpened ws left skip).settle) := by
  have hwhole : (s.pass 0).headerParse = (t.batchOpened ws left skip).settle := by
    rw [State.headerParse_whole (s := s.pass 0) ⟨h.aligned, h.fifo, h.mark, h.len, h.seqs⟩, hparse,
      State.closeBatch_open (b := ⟨headerFrame ws, left, skip⟩) rfl hleft]
  exact congrArg (fun a => Host.Outcome.next (s.batchEnds a)) hwhole

/-- BATCH_HEADER_PARSE of a first batch within the horizon that nothing speaks against (R64–R66). -/
theorem execBatchHeaderParse_plain (h : s.HeaderAt ws rest) (hok : headerOk ws = true) (hplain : s.PlainBatch ws)
    (hnear : headerFrame ws ≤ ((s.pass 0).headerTaken rest).curFrame + s.es Reg.DECODE_STREAM_CTRL_HORIZON)
    (hleft : bits (nthW ws 1) 23 12 ≠ 0) :
    execBatchHeaderParse s = .next (s.batchEnds
      (State.batchOpened
        (let n := headerFrame ws
         let t := ((s.pass 0).headerTaken rest).batchNoted n
         if t.windowOpen n then t.bindEntries n (some 0) (entriesOf (entryCount (nthW ws 1)) (ws.drop 6)) else t.raise 740 (n % 2 ^ 28))
        ws (some (bits (nthW ws 1) 23 12)) false).settle) := by
  obtain ⟨hlast, hcont, hgoes, hepoch, huntimed, hsound⟩ := hplain
  have hparse := (State.parseBatch_first (s := s.pass 0) (rest := rest) h.seqs hok hlast hnear).trans
    (State.takeBatch_plain (s := (s.pass 0).headerTaken rest) ⟨hlast, hcont, hgoes, hepoch, huntimed, hsound⟩)
  exact execBatchHeaderParse_opens h hparse (fun h0 => hleft (Option.some.inj h0))

end

/-! ### Chunks and parcels -/

/-- A chunk in clear text that is the first of a sequence of its own (R77–R82). -/
structure State.FirstClearChunk (s : State) (ws : List Word) : Prop where
  picture : bits (nthW ws 0) 35 32 = 1
  unkeyed : bits (nthW ws 0) 23 12 = 0
  clearOk : s.es Reg.DECODE_STREAM_CTRL_CLEAR_OK ≠ 0
  first : bits (nthW ws 0) 11 0 = 0
  seqs : s.stream.seqs = []

/-- The state with the payload of a first chunk in the decoder's queue (R78, R81). -/
def State.chunkQueued (s : State) (seq frame : Nat) (live last : Bool) (pay : List Word) : State :=
  { s with stream := { s.stream with
      seqs := if last then [] else [⟨seq, frame, live, 1, false⟩]
      queue := s.stream.queue ++ [⟨seq, frame, live, last, false, true, nalUnits (packBytes pay)⟩] } }

section
variable {s : State} {ws : List Word}

theorem State.chunkInto_first (hseqs : s.stream.seqs = []) (seq frame : Nat) (live last : Bool) (pay : List Word) :
    s.chunkInto seq frame 0 live last (some pay) = s.chunkQueued seq frame live last pay := by
  unfold State.chunkInto
  rw [hseqs]
  dsimp only [List.filter_nil, List.foldl_nil]
  rw [hseqs]
  dsimp only [List.find?_nil, Option.getD_none]
  simp only [ne_eq, not_true_eq_false, decide_false, Option.isNone_some, Bool.or_self, Bool.false_and, State.raiseIf_false, hseqs]
  rfl

theorem State.chunkQueued_last (hseqs : s.stream.seqs = []) (seq frame : Nat) (live : Bool) (pay : List Word) :
    s.chunkQueued seq frame live true pay =
      { s with stream := { s.stream with queue := s.stream.queue ++ [⟨seq, frame, live, true, false, true, nalUnits (packBytes pay)⟩] } } :=
  congrArg (fun l => ({ s with stream := { s.stream with
    seqs := l, queue := s.stream.queue ++ [⟨seq, frame, live, true, false, true, nalUnits (packBytes pay)⟩] } } : State)) hseqs.symm

theorem State.takeChunk_firstClear (h : s.FirstClearChunk ws) (frame : Nat) (live : Bool) :
    s.takeChunk frame live false ws =
      s.chunkQueued (seqOf (nthW ws 0)) frame live (bit (nthW ws 0) 28) ((ws.drop 5).take (bits (nthW ws 1) 13 0)) := by
  obtain ⟨hpicture, hunkeyed, hclear, hfirst, hseqs⟩ := h
  have hopen : s.openChunk frame ws = (some ((ws.drop 5).take (bits (nthW ws 1) 13 0)), none) := by
    unfold State.openChunk
    exact (if_pos hunkeyed).trans (if_pos hclear)
  unfold State.takeChunk
  dsimp only
  rw [hpicture, if_neg (by decide), if_neg (by decide), hopen, hfirst]
  exact State.chunkInto_first hseqs _ _ _ _ _

theorem State.countChunk_open {b : OpenBatch} {k : Nat} (hbatch : s.stream.batch = some b) (hleft : b.left = some (k + 1)) :
    s.countChunk = { s with stream := { s.stream with batch := some { b with left := some k } } } := by
  unfold State.countChunk
  rw [hbatch]
  dsimp only
  rw [hleft]
  rfl

/-- A first chunk of clear text inside an open batch that more chunks follow (R78, R82). -/
theorem State.batchChunk_firstClear {b : OpenBatch} {k : Nat} {rest : List StreamItem} (hbatch : s.stream.batch = some b)
    (hat : chunkAt s.stream.fifo = .whole ws rest) (hskip : b.skip = false) (hleft : b.left = some (k + 2)) (h : s.FirstClearChunk ws)
    (hmore : bit (nthW ws 0) 28 = false) :
    s.batchChunk b =
      { s with stream := { s.stream with
        fifo := rest
        batch := some { b with left := some (k + 1) }
        seqs := [⟨seqOf (nthW ws 0), b.frame, false, 1, false⟩]
        queue := s.stream.queue ++
          [⟨seqOf (nthW ws 0), b.frame, false, false, false, true, nalUnits (packBytes ((ws.drop 5).take (bits (nthW ws 1) 13 0)))⟩] } } := by
  obtain ⟨hpicture, hunkeyed, hclear, hfirst, hseqs⟩ := h
  have htake := State.takeChunk_firstClear (s := { s with stream := { s.stream with fifo := rest } })
    ⟨hpicture, hunkeyed, hclear, hfirst, hseqs⟩ b.frame false
  rw [hmore] at htake
  unfold State.batchChunk
  rw [hat]
  dsimp only
  rw [if_neg (ne_true_of_eq_false hskip), hleft, Option.isNone_some, htake]
  have hcount := State.countChunk_open
    (s := State.chunkQueued { s with stream := { s.stream with fifo := rest } } (seqOf (nthW ws 0)) b.frame false false
      ((ws.drop 5).take (bits (nthW ws 1) 13 0))) hbatch hleft
  refine (congrArg State.closeBatch hcount).trans (State.closeBatch_open (b := { b with left := some (k + 1) }) ?_ (by simp)) |>.trans ?_
  · rfl
  · rfl

/-- CHUNK_RECEIVE while a batch is open. -/
theorem execChunkReceive_open {b : OpenBatch} (hbatch : s.stream.batch = some b)
    (haligned : s.rb Reg.DECODE_STREAM_STATUS_ALIGNED = true) : execChunkReceive s = .next ((s.pass 0).batchChunk b).settle := by
  unfold execChunkReceive
  have hbatch' : ((s.pass 0).fifoFails []).stream.batch = some b := hbatch
  dsimp only
  rw [hbatch']
  exact congrArg Host.Outcome.next (if_pos haligned)

/-- A live parcel of one chunk of clear text, the last of its picture (R83, R84). -/
theorem State.takeParcel_firstClear {hd : List Word} {rest r : List StreamItem} (hok : headerOk hd = true)
    (hversion : bits (nthW hd 1) 35 32 = 1) (hat : chunkAt rest = .whole ws r) (h : s.FirstClearChunk ws) (hlast : bit (nthW ws 0) 28 = true) :
    s.takeParcel hd rest =
      State.chunkQueued
        (State.raiseIf { s with stream := { s.stream with fifo := r } }
          (s.presented (headerFrame hd)) 463 (headerFrame hd % 2 ^ 28))
        (seqOf (nthW ws 0)) (headerFrame hd) true true ((ws.drop 5).take (bits (nthW ws 1) 13 0)) := by
  obtain ⟨hpicture, hunkeyed, hclear, hfirst, hseqs⟩ := h
  have htake := State.takeChunk_firstClear
    (s := State.raiseIf { s with stream := { s.stream with fifo := r } } (s.presented (headerFrame hd)) 463 (headerFrame hd % 2 ^ 28))
    ⟨hpicture, hunkeyed, by rw [State.es, State.raiseIf_emit_]; exact hclear, hfirst, by rw [State.raiseIf_stream]; exact hseqs⟩
    (headerFrame hd) true
  rw [hlast] at htake
  have hlate : (decide (bits (nthW hd 1) 35 32 = 1) && s.presented (headerFrame hd)) = s.presented (headerFrame hd) := by
    rw [decide_eq_true hversion, Bool.true_and]
  unfold State.takeParcel
  dsimp only
  rw [if_neg (by simp [hok]), hat]
  dsimp only
  rw [hlate, if_pos hversion]
  exact htake

/-- LIVE_PARCEL_RECEIVE of a header that stands whole at the front of the FIFO. -/
theorem execLiveParcelReceive_whole {hd : List Word} {rest : List StreamItem} (hlen : hd.length = 4) (hmark : nthW hd 0 = parcelMarker)
    (hfifo : s.stream.fifo = hd.map StreamItem.word ++ rest) (haligned : s.rb Reg.DECODE_STREAM_STATUS_ALIGNED = true) :
    execLiveParcelReceive s = .next ((s.pass 0).takeParcel hd rest).settle := by
  obtain ⟨a, b, c, d, rfl⟩ : ∃ a b c d, hd = [a, b, c, d] := by
    rcases hd with _ | ⟨a, _ | ⟨b, _ | ⟨c, _ | ⟨d, _ | ⟨e, hd⟩⟩⟩⟩⟩ <;> simp at hlen
    exact ⟨a, b, c, d, rfl⟩
  have ha : a = parcelMarker := hmark
  have hfifo' : ((s.pass 0).fifoFails []).stream.fifo = .word a :: .word b :: .word c :: .word d :: rest := hfifo
  unfold execLiveParcelReceive
  dsimp only
  rw [hfifo']
  dsimp only
  rw [if_pos (by simp only [ha, decide_true, Bool.true_and]; exact haligned)]
  rfl

/-- LIVE_PARCEL_RECEIVE of one chunk of clear text, the last of its picture: `t` with the parcel taken from the FIFO, `u` with event 463
of a frame presented. -/
theorem execLiveParcelReceive_firstClear {hd : List Word} {rest r : List StreamItem} {t u : State} (hlen : hd.length = 4)
    (hmark : nthW hd 0 = parcelMarker) (hok : headerOk hd = true) (hversion : bits (nthW hd 1) 35 32 = 1)
    (hat : chunkAt rest = .whole ws r) (hlast : bit (nthW ws 0) 28 = true) (h : s.FirstClearChunk ws)
    (hfifo : s.stream.fifo = hd.map StreamItem.word ++ rest) (haligned : s.rb Reg.DECODE_STREAM_STATUS_ALIGNED = true)
    (ht : { s.pass 0 with stream := { s.stream with fifo := r } } = t)
    (hu : (if t.presented (headerFrame hd) then t.raise 463 (headerFrame hd % 2 ^ 28) else t) = u) :
    execLiveParcelReceive s = .next (State.settle { u with stream := { u.stream with queue := u.stream.queue ++
      [⟨seqOf (nthW ws 0), headerFrame hd, true, true, false, true, nalUnits (packBytes ((ws.drop 5).take (bits (nthW ws 1) 13 0)))⟩] } }) := by
  obtain ⟨hpicture, hunkeyed, hclear, hfirst, hseqs⟩ := h
  have hraised : State.raiseIf { s.pass 0 with stream := { (s.pass 0).stream with fifo := r } } ((s.pass 0).presented (headerFrame hd)) 463
      (headerFrame hd % 2 ^ 28) = u := by
    subst ht
    exact hu
  have hseqs' : u.stream.seqs = [] := by
    rw [← hraised, State.raiseIf_stream]
    exact hseqs
  rw [execLiveParcelReceive_whole hlen hmark hfifo haligned,
    State.takeParcel_firstClear (s := s.pass 0) hok hversion hat ⟨hpicture, hunkeyed, hclear, hfirst, hseqs⟩ hlast, hraised,
    State.chunkQueued_last hseqs']

end

/-! ### Slice segments -/

/-- DECODE stands at a slice segment of the chunk it takes next. -/
structure State.AtSlice (s : State) (i : DecItem) (u : List Byte) (us : List (List Byte)) : Prop where
  next : s.nextItem = some i
  kept : i.lost = false
  nals : i.nals = u :: us
  sound : badNal u = false
  slice : sliceNal u = true

section
variable {s : State} {i : DecItem} {u : List Byte} {us : List (List Byte)} {q : Nat}

/-- At a slice segment DECODE passes over nothing. -/
theorem State.drain_atSlice (h : s.AtSlice i u us) : s.drain = s := by
  obtain ⟨hnext, hkept, hnals, hsound, hslice⟩ := h
  have heos : (nalLayer u = 0 && nalType u = 36) = false := by
    have hlow : nalType u < 32 := of_decide_eq_true (Bool.and_eq_true_iff.1 hslice).1
    simp; omega
  unfold State.drain StreamState.waiting State.toSlice
  rw [hnext]
  dsimp only
  rw [hkept, if_neg Bool.false_ne_true, hnals]
  dsimp only
  rw [hsound, if_neg Bool.false_ne_true, heos, if_neg Bool.false_ne_true, if_pos hslice]

theorem State.pictureBegin_idle {head : PicHead} (h : s.AtSlice i u us) (hseq : i.seq = q) (hprog : s.dec.prog.getD q none = none) :
    s.pictureBegin q head = s.beginPic q head i (nalType u) := by
  unfold State.pictureBegin
  rw [State.drain_atSlice h]
  dsimp only
  rw [h.next]
  dsimp only
  rw [h.nals]
  dsimp only
  rw [if_neg (by simp [hseq]), hprog]

/-- A first segment before the picture in progress has ended ends that (R107, 0x0B). -/
theorem State.pictureBegin_cutsOff {head : PicHead} {p : Prog} (h : s.AtSlice i u us) (hseq : i.seq = q)
    (hprog : s.dec.prog.getD q none = some p) (hending : p.ending = false) (hfirst : firstSlice u = true) :
    s.pictureBegin q head = ((s.decErr 0x0B q p.frame 0).finishPic q p none).beginPic q head i (nalType u) := by
  unfold State.pictureBegin
  rw [State.drain_atSlice h]
  dsimp only
  rw [h.next]
  dsimp only
  rw [h.nals]
  dsimp only
  rw [if_neg (by simp [hseq]), hprog]
  dsimp only
  rw [hending, if_neg Bool.false_ne_true, if_pos hfirst]

/-- A slice segment without an error works on the picture in progress (R96–R98). -/
theorem State.sliceDecoded_sound {o : SliceOut} {p : Prog} (herr : o.err = none) (hreads : o.reads = []) (h : s.AtSlice i u us)
    (hseq : i.seq = q) (hprog : s.dec.prog.getD q none = some p) (hending : p.ending = false) :
    s.sliceDecoded q o =
      let g := sliceInto p o
      let n := (g.done.length - p.done.length) * p.head.ctu * p.head.ctu
      let v := ((s.setItem i (some { i with nals := us })).setProg q (some g)).act (s.decodeClass i) 2 n
      { v with dec := { v.dec with positions := v.dec.positions + n } }.drain := by
  have hopen : (s.dec.prog.getD q none).filter (fun p => !p.ending) = some p := by
    rw [hprog]
    simp [hending]
  unfold State.sliceDecoded
  rw [State.drain_atSlice h]
  dsimp only
  rw [h.next]
  dsimp only
  rw [h.nals]
  dsimp only
  rw [if_neg (by simp [hseq]), hopen, herr, hreads]
  rfl

end

/-- Settles O40: a clause for each STREAM packet, header, chunk and parcel taken, and for each step of a picture decoded. That the
error of a picture cut off comes before what its own end records is the model's choice (assumption log 71). -/
theorem streamRowsTakeEffect : Obligations.StreamRowsTakeEffect := by
  refine ⟨⟨fun off ws s hp => ?_, fun off ws hws s hp => ?_, fun off ws d hws hpos hnear s hp => ?_, fun off ws hws s hp => ?_⟩,
    ⟨fun ws rest s hp => ?_, fun ws rest l s hp => ?_, fun ws rest s hp => ?_, fun ws rest s hp => ?_, fun ws rest s hp => ?_⟩,
    fun b k ws rest s hp => ?_, fun hd ws rest r hlen hmark hok hversion hat hpicture hunkeyed hfirst hlast s hp => ?_,
    fun q head i u us s hp => ?_, fun q head i u us p s hp => ?_, fun q o i u us p herr hreads s hp => ?_, fun q sei p s hp => ?_⟩
  · obtain ⟨hstart, hseqs⟩ := hp
    exact congrArg Host.Outcome.next (State.streamPacket_restart hstart hseqs)
  · obtain ⟨hstarted, hoff⟩ := hp
    exact congrArg Host.Outcome.next (State.streamPacket_inOrder hstarted hws hoff)
  · obtain ⟨hstarted, hd⟩ := hp
    exact congrArg Host.Outcome.next (State.streamPacket_gap hstarted hws hpos hnear hd)
  · obtain ⟨hstarted, hd⟩ := hp
    exact congrArg Host.Outcome.next (State.streamPacket_before hstarted hws hd)
  · obtain ⟨⟨haligned, hfifo, hmark, hlen, hseqs⟩, hbad⟩ := hp
    exact execBatchHeaderParse_opens ⟨haligned, hfifo, hmark, hlen, hseqs⟩ (State.parseBatch_badCrc (s := s.pass 0) hseqs hbad)
      (Option.some_ne_none 0).symm
  · obtain ⟨⟨haligned, hfifo, hmark, hlen, hseqs⟩, hok, hlast, hle, hleft⟩ := hp
    exact execBatchHeaderParse_opens ⟨haligned, hfifo, hmark, hlen, hseqs⟩
      (State.parseBatch_duplicate (s := s.pass 0) hseqs hok hlast hle) (fun h0 => hleft (Option.some.inj h0))
  · obtain ⟨⟨haligned, hfifo, hmark, hlen, hseqs⟩, hok, hlast, hfar, hleft⟩ := hp
    exact execBatchHeaderParse_opens ⟨haligned, hfifo, hmark, hlen, hseqs⟩
      (State.parseBatch_early (s := s.pass 0) hseqs hok hlast hfar) (fun h0 => hleft (Option.some.inj h0))
  · obtain ⟨⟨haligned, hfifo, hmark, hlen, hseqs⟩, hok, hlast, hopen, hnear, hcont, hgoes, hepoch, huntimed, hleft, hsound⟩ := hp
    refine (execBatchHeaderParse_plain ⟨haligned, hfifo, hmark, hlen, hseqs⟩ hok ⟨hlast, hcont, hgoes, hepoch, huntimed, hsound⟩ hnear
      hleft).trans ?_
    dsimp only
    rw [State.batchNoted_windowOpen]
    refine (congrArg (fun t => Host.Outcome.next (s.batchEnds (State.settle (State.batchOpened t ws _ false)))) (if_pos hopen)).trans ?_
    rfl
  · obtain ⟨⟨haligned, hfifo, hmark, hlen, hseqs⟩, hok, hlast, hshut, hnear, hcont, hgoes, hepoch, huntimed, hleft, hsound⟩ := hp
    refine (execBatchHeaderParse_plain ⟨haligned, hfifo, hmark, hlen, hseqs⟩ hok ⟨hlast, hcont, hgoes, hepoch, huntimed, hsound⟩ hnear
      hleft).trans ?_
    dsimp only
    rw [State.batchNoted_windowOpen]
    refine (congrArg (fun t => Host.Outcome.next (s.batchEnds (State.settle (State.batchOpened t ws _ false)))) (if_neg (ne_true_of_eq_false hshut))).trans ?_
    rfl
  · obtain ⟨hbatch, haligned, hat, hskip, hleft, hpicture, hunkeyed, hclear, hseqs, hfirst, hmore⟩ := hp
    refine (execChunkReceive_open hbatch haligned).trans ?_
    rw [State.batchChunk_firstClear (s := s.pass 0) hbatch hat hskip hleft ⟨hpicture, hunkeyed, hclear, hfirst, hseqs⟩ hmore]
    rfl
  · obtain ⟨hfifo, haligned, hclear, hseqs⟩ := hp
    beta_reduce
    extract_lets q n got src stream t u
    exact execLiveParcelReceive_firstClear hlen hmark hok hversion hat hlast ⟨hpicture, hunkeyed, hclear, hfirst, hseqs⟩ hfifo haligned
      (t := t) rfl (u := u) rfl
  · obtain ⟨hnext, hkept, hnals, hsound, hslice, hseq, hprog⟩ := hp
    exact congrArg (fun t : State => Host.Outcome.next ((t.atlasSize q).recheck))
      (State.pictureBegin_idle (s := s.pass 0) ⟨hnext, hkept, hnals, hsound, hslice⟩ hseq hprog)
  · obtain ⟨hnext, hkept, hnals, hsound, hslice, hseq, hprog, hending, hfirst⟩ := hp
    exact congrArg (fun t : State => Host.Outcome.next ((t.atlasSize q).recheck))
      (State.pictureBegin_cutsOff (s := s.pass 0) ⟨hnext, hkept, hnals, hsound, hslice⟩ hseq hprog hending hfirst)
  · obtain ⟨hnext, hkept, hnals, hsound, hslice, hseq, hprog, hending⟩ := hp
    exact congrArg (fun t : State => Host.Outcome.next (t.recheck.release))
      (State.sliceDecoded_sound herr hreads ⟨hnext, hkept, hnals, hsound, hslice⟩ hseq hprog hending)
  · obtain ⟨hprog, hending⟩ := hp
    change execPictureEnd q sei s = _
    unfold execPictureEnd State.pictureEnd
    dsimp only
    rw [hprog]
    exact congrArg (fun t : State => Host.Outcome.next (t.recheck.release)) (if_pos hending)

end Sys2Proof.Machine
end

section
/-! The period of a frame (R27–R57), its firing (R121–R157), the swap and the scan (R207–R212), context banks (R174). -/

namespace Sys2Proof.Machine

section
variable {s : State}

/-! ### The tick and its windows -/

theorem execTick_alive (acts : List (Nat × Nat)) (items : List PlanItem) (slip : Bool) (h : s.alive = true) :
    execTick acts items slip s =
      let o := { s with out := [] }.overdue
      .next ((o.onTo (o.sched o.nextTick)).atTick o.nextTick acts items slip) := by
  unfold execTick
  exact if_neg (by simp [h])

/-- The tick by its steps: its frame counted (`a`), the line due (`b`), the frame before ended (`v`), time and resets settled (`w`), power (`x`). -/
theorem State.atTick_steps {u a b v w x : State} {n : Nat} (acts : List (Nat × Nat)) (items : List PlanItem) (slip : Bool)
    (ha : { u.freshTick with time := { u.freshTick.time with last := n, ticked := true } } = a)
    (hb : { a with emit_ := { a.emit_ with lineDue := a.sched n + us (a.es Reg.EMIT_SCAN_CTRL_SCAN_PHASE) } } = b)
    (hv : (if b.geomDue n || b.softStarts n then b.repeatAt n else b).closeFrame n = v)
    (hw : (((if u.time.ticked then v.closePlan acts else v).takeFiring).tickTime n).softDue = w)
    (hx : w.softBack.bankedDue.exitDue = x) :
    u.atTick n acts items slip =
      if w.time.ticked then
        match x.start.power with
        | some (2, k, snap) => if k ≤ n then x.coldEntry snap else x.tickWork n items slip u.synfKey
        | _ => x.tickWork n items slip u.synfKey
      else w := by
  unfold State.atTick
  extract_lets was planned fresh time a' emit b' v' t' w' x'
  have ha' : a' = a := ha
  have hb' : b' = b := by
    rw [← hb, ← ha']
  have hv' : v' = v := by
    rw [← hv, ← hb']
  have hw' : w' = w := by
    rw [← hw, ← hv']
  have hx' : x' = x := by
    rw [← hx, ← hw']
  rw [hx', hw']
  cases w.time.ticked <;> rfl

theorem State.raiseIf_iff {c : Bool} {p : Prop} [Decidable p] (h : c = true ↔ p) (e d : Nat) :
    s.raiseIf c e d = if p then s.raise e d else s := by
  by_cases hp : p
  · rw [if_pos hp, h.2 hp, State.raiseIf_true]
  · rw [if_neg hp, eq_false_of_ne_true (fun hc => hp (h.1 hc)), State.raiseIf_false]

theorem worker_begun_unparsed (worker parsed : Bool) (stage : Nat) :
    (worker && decide (stage ≠ 0) && !parsed) = true ↔ worker = true ∧ stage ≠ 0 ∧ parsed = false := by
  simp [and_assoc]

theorem State.windowClose_open (hclosed : s.fire.closed ≠ some (s.time.last + 2)) :
    s.windowClose =
      let n := s.time.last + 2
      let u := { s with fire := { s.fire with closed := some n } }
      (if s.isWorker = true ∧ s.stage ≠ 0 ∧ s.stream.parsed.contains n = false then u.raise 448 (n % 2 ^ 28) else u).release := by
  unfold State.windowClose
  exact (if_neg hclosed).trans (congrArg State.release (State.raiseIf_iff (worker_begun_unparsed _ _ _) _ _))

/-- The readiness decision still owed (R33). -/
theorem State.readiness_owed {f : FireFrame} (hfiring : s.fire.firing = true) (hframe : s.fireFrame s.curFrame = some f)
    (hdecided : f.decided = false) (hrepeated : f.repeated = false) :
    s.readiness = ((((s.decideFrame f).recheckFrame f.frame).release).fireNext).showFire := by
  unfold State.readiness
  rw [hframe]
  exact if_neg (by simp [hfiring, hdecided, hrepeated])

/-- LIVE_CUTOFF of the frame being fired (R46, R47). -/
theorem State.cutoff_decided {f : FireFrame} (hframe : s.fireFrame s.curFrame = some f) (hcut : f.cut = false)
    (hrepeated : f.repeated = false) (hdecided : f.decided = true) :
    s.cutoff =
      let short := f.sampled.filter (fun i => f.rowSlot i && !s.liveWhole f i)
      let rows := ((slotSet f.copy).filter f.rowSlot).foldl (fun l i => sset 0 l i (s.liveLines f.copy i f.frame)) []
      let wait := short.any (fun i => slotPolicy f.copy i = 2 && sget 0 rows i = 0 && !s.overLimit f.copy i)
      let g := { f with cut := true, live := rows, late := wait }
      let u := (s.setFrame g).raises (short.flatMap (fun i => [(743, i), (608 + 4 * i, i)]))
      if wait then u.repeatFrame g else u.recheckFrame f.frame := by
  unfold State.cutoff
  rw [hframe]
  exact if_neg (by simp [hcut, hrepeated, hdecided])

/-- A frame not fired whole by the end of its window raises event 742 once (R52). -/
theorem State.windowOver_late {f : FireFrame} (hframe : s.fireFrame s.curFrame = some f) (hrepeated : f.repeated = false)
    (hopen : f.bands = [] ∨ ∃ b ∈ f.bands, b.fired = false ∨ b.stale = true) :
    s.windowOver =
      let u := if f.once.contains 742 then s.setFrame f else (s.raise 742 (f.frame % 2 ^ 28)).setFrame { f with once := 742 :: f.once }
      { u with hearth := { u.hearth with plan := { u.hearth.plan with late := true } } } := by
  have hlate : ¬ (f.repeated || (!f.bands.isEmpty && f.bands.all (fun b => b.fired && !b.stale))) = true := by
    rw [hrepeated, Bool.false_or]
    rcases hopen with hnil | ⟨b, hb, hb'⟩
    · simp [hnil]
    · simp only [Bool.and_eq_true, List.all_eq_true, not_and, not_forall]
      exact fun _ => ⟨b, hb, by rcases hb' with h | h <;> simp [h]⟩
  unfold State.windowOver
  rw [hframe]
  refine (if_neg hlate).trans ?_
  unfold State.once
  cases f.once.contains 742 <;> rfl

theorem State.windowOver_done {f : FireFrame} (hframe : s.fireFrame s.curFrame = some f)
    (hdone : f.repeated = true ∨ (f.bands ≠ [] ∧ ∀ b ∈ f.bands, b.fired = true ∧ b.stale = false)) : s.windowOver = s := by
  have hskip : (f.repeated || (!f.bands.isEmpty && f.bands.all (fun b => b.fired && !b.stale))) = true := by
    rcases hdone with h | ⟨hne, hall⟩
    · simp [h]
    · have hall' : f.bands.all (fun b => b.fired && !b.stale) = true := List.all_eq_true.2 (fun b hb => by simp [hall b hb])
      rw [hall']
      simp [hne]
  unfold State.windowOver
  rw [hframe]
  exact if_pos hskip

/-! ### Windows loaded, bands fired, packets sent -/

/-- The state in which the loader looks for a band's frame: one of the next period comes into work (R37). -/
def State.loaderAt (s : State) (n : Nat) : State :=
  let u := s.fireNext
  if n = u.curFrame + 1 ∧ (u.fireFrame n).isNone = true ∧ u.fire.firing = true then (u.setFrame (u.frameOr n)).renew n else u

/-- The next band of a frame goes into the shelf where it has room (R133). -/
theorem State.shelfLoaded_next {n b : Nat} {f : FireFrame} (errs : List (Nat × Bool)) (hframe : (s.loaderAt n).fireFrame n = some f)
    (hlaid : (s.loaderAt n).isFired f = true ∨ n = (s.loaderAt n).curFrame + 1)
    (hnext : (((s.loaderAt n).laidOut f).2.nextBands ((s.loaderAt n).laidOut f).1).contains b = true)
    (hroom : ((s.loaderAt n).laidOut f).2.fire.shelf.length < ((s.loaderAt n).laidOut f).2.shelfRoom)
    (hopen : ((s.loaderAt n).laidOut f).2.bandOpen ((s.loaderAt n).laidOut f).1 b = true) :
    s.shelfLoaded n b errs =
      let r := (s.loaderAt n).laidOut f
      let l := (r.2.setFrame r.1).loadWindows r.1 b errs
      ({ l.1 with fire := { l.1.fire with shelf := l.1.fire.shelf ++ [(⟨n, b, l.1.bandInputs r.1 b, l.2⟩ : Half)] } }.fireNext).showFire := by
  have hloader : (if n = s.fireNext.curFrame + 1 && (s.fireNext.fireFrame n).isNone && s.fireNext.fire.firing then
      (s.fireNext.setFrame (s.fireNext.frameOr n)).renew n else s.fireNext) = s.loaderAt n := by
    unfold State.loaderAt
    simp only [Bool.and_eq_true, decide_eq_true_eq, and_assoc]
  unfold State.shelfLoaded
  dsimp only
  rw [hloader, hframe]
  dsimp only
  rw [if_pos (show ((s.loaderAt n).isFired f || decide (n = (s.loaderAt n).curFrame + 1)) = true by simpa using hlaid), hnext, hopen]
  exact if_neg (by simpa using hroom)

/-- A band that has passed the Glaze whole (R41, R217, R248). -/
theorem State.bandDone_whole {n b : Nat} {f : FireFrame} {x : Band} (hframe : s.fireFrame n = some f)
    (hband : f.bands.find? (fun (x : Band) => x.idx = b) = some x) (hleft : x.left = 0) (hfired : x.fired = false)
    (hinputs : x.inputs.isEmpty = false) :
    s.bandDone n b =
      let q := s.geo
      let fs := f.faults.getD s.faultSet
      let bank := ((s.setFor f).map s.bankOf).getD s.glaze.ctx
      let rays := (bandHogels q.g f.rows b).foldl
        (fun l (p : Nat × Nat) => stageHogel q fs (s.r Reg.EMIT_FAULT_CTRL_FILL_SHARE) n bank p.1 p.2 l) f.rays
      let g := { f with
        rays := rays
        advanced := f.advanced ++ (s.regionsAdvanced f b).filter (fun (k : Nat) => !f.advanced.contains k)
        bands := f.bands.map (fun (y : Band) => if y.idx = b then { y with fired := true } else y) }
      let u := (if s.direct then s else s.dramUsed true (s.r Reg.MEM_MAP_0003_RAY_BASE)).setFrame g
      let v := if x.again then
          ({ u with fire := { u.fire with refired := u.fire.refired + 1 } }.count Reg.KILN_REFIRE_COUNT_TOTAL).raiseTick 737 0 0
        else u
      v.release.fireNext.showFire := by
  unfold State.bandDone
  rw [hframe]
  dsimp only
  rw [hband]
  exact if_neg (by simp [hleft, hfired, hinputs])

theorem State.slotsLeft_pos (s : State) (lane : Nat) : ∃ k, s.slotsLeft lane = k + 1 := by
  refine ⟨s.slotsLeft lane - 1, ?_⟩
  unfold State.slotsLeft
  dsimp only
  generalize List.length _ / 32 = a
  omega

theorem execRectPacketSent_whole {lane : Nat} {errs : List ReadErr} (hlane : lane < 16)
    (hsent : ((s.pass 0).emitterSlot lane errs).1 = true) : execRectPacketSent lane s errs = .next ((s.pass 0).emitterSlot lane errs).2 := by
  obtain ⟨k, hk⟩ := State.slotsLeft_pos (s.pass 0) lane
  unfold execRectPacketSent
  dsimp only
  rw [if_pos hlane, hk, State.laneRun]
  exact congrArg Host.Outcome.next (if_pos hsent)

theorem execRectPacketSent_goesOn {lane : Nat} {errs : List ReadErr} (hlane : lane < 16)
    (hsent : ((s.pass 0).emitterSlot lane errs).1 = false) :
    execRectPacketSent lane s errs = .next (State.laneRun errs ((s.pass 0).slotsLeft lane - 1) lane ((s.pass 0).emitterSlot lane errs).2) := by
  obtain ⟨k, hk⟩ := State.slotsLeft_pos (s.pass 0) lane
  unfold execRectPacketSent
  dsimp only
  rw [if_pos hlane, hk, State.laneRun]
  exact congrArg Host.Outcome.next (if_neg (ne_true_of_eq_false hsent))

/-- The Glaze takes the ray at the front (R157); the last one of a frame brings the test-tile record with it (R189, R228). -/
theorem State.nextRay_front {parity : List Nat} {f : FireFrame} {q : RayIn} {t : List RayIn}
    (hfind : s.fire.frames.find? (fun (x : FireFrame) => !x.queue.isEmpty) = some f) (hqueue : f.queue = q :: t) :
    s.nextRay parity =
      let r := s.passRay { f with queue := t } q parity
      let g := { r.1 with bands := r.1.bands.map (fun (x : Band) => if x.idx = q.band then { x with left := x.left - 1 } else x) }
      let v := r.2.act (s.fireClass f.frame (f.bands.any (fun (x : Band) => x.idx = q.band && x.again))) 3 1
      let last := r.1.hogels ≠ f.hogels && r.1.hogels = (gridOf s.regs).hw * (gridOf s.regs).hh
      let lane := s.es Reg.EMIT_HEAD_CTRL_TTH_LANE
      match last && s.rb Reg.CAL_TTH_TTH_EN, v.cal.rec_ with
        | true, some (w, cs) =>
          let k := v.clampStep (bits cs 3 0)
          k.2.setFrame { g with packets := g.packets ++ [(lane, testWords w (bits cs 7 4) k.1 lane f.frame)] }
        | _, _ => v.setFrame g := by
  unfold State.nextRay
  rw [hfind]
  dsimp only
  rw [hqueue]
  dsimp only
  generalize (_ && s.rb Reg.CAL_TTH_TTH_EN) = c
  cases c with
  | false => rfl
  | true =>
    refine (if_pos rfl).trans ?_
    cases (s.passRay { f with queue := t } q parity).2.act (s.fireClass f.frame (f.bands.any (fun (x : Band) => x.idx = q.band && x.again)))
      3 1 |>.cal.rec_ <;> rfl

/-! ### The swap (R210, R211) -/

theorem State.teRises_single {input n : Nat} (hon : s.scanOn = true) (hinput : input < 2)
    (hsel : s.es Reg.EMIT_HEAD_CTRL_TE_SEL = input) (hbisque : s.emit_.bisAwait = false) (hawait : s.emit_.await = some n) :
    s.teRises input =
      if s.transfersDone n then (if s.emit_.edges = 0 then s.swap n 1 else (s.swap n 2).raise 832 (n % 2 ^ 28))
      else { s with emit_ := { s.emit_ with edges := s.emit_.edges + 1 } } := by
  unfold State.teRises State.teCounts
  dsimp only
  rw [hon, if_neg (by decide), hsel, if_pos hinput, if_pos rfl, if_neg (ne_true_of_eq_false hbisque), hawait]

theorem State.deadline_awaited {n : Nat} (hbisque : s.emit_.bisAwait = false) (hawait : s.emit_.await = some n) :
    s.deadline = if s.transfersDone n then (s.swap n 3).raise 833 (n % 2 ^ 28) else s.abandon n := by
  unfold State.deadline
  rw [if_neg (ne_true_of_eq_false hbisque), hawait]

theorem execSwapDeadline_due (h : s.emit_.bisAwait = true ∨ s.emit_.await.isSome = true) :
    execSwapDeadline s = .next ((s.goto (s.sched s.time.last + us (s.es Reg.EMIT_HEAD_CTRL_TE_TIMEOUT))).deadline) := by
  unfold execSwapDeadline
  refine if_neg ?_
  rcases h with h | h
  · simp [h]
  · simp [Option.isSome_iff_ne_none.1 h]

/-! ### Line starts (R207, R208, R369) -/

/-- The lines of a frame. -/
def State.scanLines (s : State) : Nat := s.geo.subs * s.geo.commons

/-- The line after the one that runs, counted in the subfield 0 whose lines run. -/
def State.lineAfter (s : State) : Int := (s.tb3 - s.emit_.lineFrom) * s.scanLines / (max 1 s.period : Nat) + 1

/-- The instant of the line after the one that runs. -/
def State.lineAfterAt (s : State) : Int := s.emit_.lineFrom + s.lineAfter * s.period / (s.scanLines : Int)

/-- The instant of the next subfield 0. -/
def State.linesDue (s : State) : Int :=
  if s.emit_.lineFrom < s.emit_.lineDue then s.emit_.lineDue else s.sched s.nextTick + us (s.es Reg.EMIT_SCAN_CTRL_SCAN_PHASE)

/-- A line starts: both heads raise COM_STB with the line's common. -/
def State.startLine (s : State) (line : Nat) : State :=
  let u := ({ s with emit_ := { s.emit_ with line := line } }.synfLine line).lineStart
  (s.geo.heads.filter (fun h => !u.headOff h)).foldl (fun (x : State) h =>
    x.emit .pin [92 + h] [word (line % s.geo.commons), word (b2n (x.emit_.blank.getD h true)), word x.emit_.blankT]) u

theorem State.nextLine_before (h : s.tb3 < s.emit_.lineFrom) : s.nextLine = (s.emit_.lineFrom, some 0, s.emit_.lineFrom) := by
  unfold State.nextLine
  exact if_pos h

theorem State.nextLine_goesOn (hrun : s.emit_.lineFrom ≤ s.tb3) (hline : s.lineAfter < s.scanLines) (hat : s.lineAfterAt < s.linesDue) :
    s.nextLine = (s.lineAfterAt, some s.lineAfter.toNat, s.emit_.lineFrom) := by
  unfold State.nextLine
  exact (if_neg (Int.not_lt.2 hrun)).trans (if_pos (Bool.and_eq_true_iff.2 ⟨decide_eq_true hline, decide_eq_true hat⟩))

section
variable (hrun : s.emit_.lineFrom ≤ s.tb3) (hend : s.scanLines ≤ s.lineAfter ∨ s.linesDue ≤ s.lineAfterAt)
include hrun hend

theorem State.nextLine_over :
    s.nextLine =
      if s.time.blankNext && !s.time.blank && s.emit_.lineFrom + (s.period : Int) < s.linesDue then
        (s.emit_.lineFrom + s.period, none, s.emit_.lineFrom)
      else (s.linesDue, some 0, s.linesDue) := by
  have hover : ¬ (decide (s.lineAfter < s.scanLines) && decide (s.lineAfterAt < s.linesDue)) = true := by
    simp only [Bool.and_eq_true, decide_eq_true_eq, not_and, Int.not_lt]
    intro hline
    exact hend.resolve_left (Int.not_le.2 hline)
  unfold State.nextLine
  exact (if_neg (Int.not_lt.2 hrun)).trans (if_neg hover)

theorem State.nextLine_due (hblank : s.time.blankNext = false) : s.nextLine = (s.linesDue, some 0, s.linesDue) :=
  (State.nextLine_over hrun hend).trans (if_neg (by simp [hblank]))

theorem State.nextLine_dark (hnext : s.time.blankNext = true) (hblank : s.time.blank = false)
    (hbefore : s.emit_.lineFrom + s.period < s.linesDue) : s.nextLine = (s.emit_.lineFrom + s.period, none, s.emit_.lineFrom) :=
  (State.nextLine_over hrun hend).trans (if_pos (by simp [hnext, hblank, hbefore]))

end

theorem execScanLineStart_line {t from_ : Int} {line : Nat} (hon : s.scanOn = true) (hnext : s.nextLine = (t, some line, from_)) :
    execScanLineStart s =
      .next (State.startLine { s.goto t with emit_ := { (s.goto t).emit_ with lineFrom := from_ } } line) := by
  unfold execScanLineStart
  rw [hnext, if_neg (by simp [hon])]
  rfl

theorem execScanLineStart_dark {t from_ : Int} (hon : s.scanOn = true) (hnext : s.nextLine = (t, none, from_)) :
    execScanLineStart s =
      .next (State.driveBlank { s.goto t with time := { (s.goto t).time with blank := true } }) := by
  unfold execScanLineStart
  rw [hnext, if_neg (by simp [hon])]

theorem execScanLineStart_off (hoff : s.scanOn = false) : execScanLineStart s = .next (s.pass 0) := by
  unfold execScanLineStart
  exact if_pos (by simp [hoff])

/-! ### Table loads, seals, context banks -/

/-- The one queued load runs as soon as no frame uses its table (R124). -/
theorem State.runLoads_one {l : TableLoad} (hloads : s.fire.loads = [l]) (hfree : s.tableUsed l.kind l.table = false) :
    s.runLoads =
      let r := State.runLoad { s with fire := { s.fire with loads := [] } } l.kind l.params
      (r.2.complete l.req r.1).showTables := by
  have herase : s.fire.loads.erase l = [] := by rw [hloads]; simp
  unfold State.runLoads
  rw [hloads]
  dsimp only [List.foldl]
  rw [if_neg (ne_true_of_eq_false hfree), herase]

theorem State.liftSurf_sealed {n : Nat} (hkept : (sget (⟨0, 0, none⟩ : SurfX) s.fire.surf n).release = none) :
    s.liftSurf n =
      let x := sget (⟨0, 0, none⟩ : SurfX) s.fire.surf n
      { s with
        fire := { s.fire with surf := sset (⟨0, 0, none⟩ : SurfX) s.fire.surf n (⟨x.gen, 0, none⟩ : SurfX) }
        regs := rsets s.regs [(Reg.KILN_SURF_W3_SEALED, n, 0), (Reg.KILN_SURF_W3_LAST_USE, n, 0), (Reg.KILN_SURF_W3_RELEASING, n, 0)] } := by
  unfold State.liftSurf
  dsimp only
  rw [hkept]

/-- The one surface whose seal is due is open again (R147). -/
theorem State.liftSeals_one {n : Nat} (hdue : s.surfsDue = [n]) (hkept : (sget (⟨0, 0, none⟩ : SurfX) s.fire.surf n).release = none) :
    s.liftSeals =
      let x := sget (⟨0, 0, none⟩ : SurfX) s.fire.surf n
      let t := { s with
        fire := { s.fire with surf := sset (⟨0, 0, none⟩ : SurfX) s.fire.surf n (⟨x.gen, 0, none⟩ : SurfX) }
        regs := rsets s.regs [(Reg.KILN_SURF_W3_SEALED, n, 0), (Reg.KILN_SURF_W3_LAST_USE, n, 0), (Reg.KILN_SURF_W3_RELEASING, n, 0)] }
      (({ t with dec := { t.dec with
        pics := t.dec.pics.map (fun (p : Pic) => { p with sealAt := p.sealAt.filter (fun (y : Nat) => !t.sealDue y) }) } }.prune).showPool) := by
  unfold State.liftSeals
  rw [hdue, List.foldl_cons, List.foldl_nil, State.liftSurf_sealed hkept]

/-- The one staged context load comes into force at its tick (R174). -/
theorem State.swapCtx_one {l : CtxLoad} {n : Nat} (hloads : s.glaze.loads = [l]) (hdue : l.frame ≤ n) :
    s.swapCtx n =
      let t := { s with glaze := { s.glaze with
        ctx := s.glaze.staged, prev := s.glaze.ctx, bankNo := s.glaze.bankNo + 1, loads := []
        parity := s.glaze.parity.filter (fun (k : Nat) => 2 ≤ k % 8) ++ s.glaze.parityStaged
        parityPrev := s.glaze.parity.filter (fun (k : Nat) => k % 8 < 2) } }
      (((t.w Reg.GLAZE_CTX_STATUS_COPYING 1).showCtx).complete l.req (if l.late then .late l.frame else .done l.frame)).raise 774
        (n % 2 ^ 28) := by
  have hfilter : s.glaze.loads.filter (fun l => decide (l.frame ≤ n)) = [l] := by rw [hloads]; simp [hdue]
  unfold State.swapCtx
  rw [hfilter]
  rfl

theorem State.copyDone_last (hcopying : s.rb Reg.GLAZE_CTX_STATUS_COPYING = true) (hwaiting : s.glaze.waiting = []) :
    s.copyDone =
      State.showCtx { s.w Reg.GLAZE_CTX_STATUS_COPYING 0 with
        glaze := { s.glaze with staged := s.glaze.ctx, parityStaged := [], waiting := [] } } := by
  unfold State.copyDone
  rw [if_neg (by simp [hcopying]), hwaiting]
  rfl

end

/-- Settles O41: a clause for each step of a frame's period. The order inside TICK, event 448 at a worker from bisque on alone, and the
instants of paced bands are the model's choices (assumption logs 7, 54, 57). -/
theorem frameRowsTakeEffect : Obligations.FrameRowsTakeEffect := by
  refine ⟨fun acts items slip s hp => ?_, fun acts items slip s hp => ?_, fun s hp => ?_, fun s hp => ?_, fun f s hp => ?_,
    fun s hp => ?_, fun s hp => ?_, fun f s hp => ?_, fun f s hp => ?_, fun f s hp => ?_, fun n b errs f s hp => ?_,
    fun n b f x s hp => ?_, fun lane errs s hp => ?_, fun lane errs s hp => ?_, fun parity f q t s hp => ?_,
    fun input dt n hinput s hp => ?_, fun n s hp => ?_, fun n s hp => ?_, fun s hp => ?_,
    ⟨fun s hp => ?_, fun s hp => ?_, fun s hp => ?_, fun s hp => ?_⟩, fun s hp => ?_, fun l s hp => ?_, fun n s hp => ?_,
    fun l s hp => ?_, fun s hp => ?_⟩
  · refine (execTick_alive acts items slip hp).trans ?_
    beta_reduce
    extract_lets o n u fresh time a emit b v w x
    have hsteps := State.atTick_steps (u := u) (a := a) (b := b) (v := v) (w := w) (x := x) acts items slip rfl rfl rfl rfl rfl
    refine (congrArg Host.Outcome.next hsteps).trans ?_
    clear_value x w u n
    rfl
  · have halive : s.alive = false := hp
    exact if_pos (by rw [halive]; rfl)
  · obtain ⟨hticked, hclosed⟩ := hp
    have hrun : ¬ (!s.time.ticked || decide (s.fire.closed = some (s.time.last + 2))) = true := by simp [hticked, hclosed]
    exact (if_neg hrun).trans (congrArg Host.Outcome.next (State.windowClose_open (s := s.goto (s.windowEnd (s.time.last + 2))) hclosed))
  · exact if_pos (by rcases hp with h | h <;> simp [h])
  · obtain ⟨hticked, hfiring, hframe, hdecided, hrepeated⟩ := hp
    exact (if_neg (by simp [hticked])).trans (congrArg Host.Outcome.next (State.readiness_owed hfiring hframe hdecided hrepeated))
  · obtain ⟨hticked, hfiring⟩ := hp
    exact if_neg (by simp [hticked, hfiring])
  · exact if_pos (by rcases hp with h | h <;> simp [h])
  · obtain ⟨hticked, hfiring, hframe, hcut, hrepeated, hdecided⟩ := hp
    exact (if_neg (by simp [hticked, hfiring])).trans
      (congrArg (fun t : State => Host.Outcome.next t.release.fireNext.showFire) (State.cutoff_decided hframe hcut hrepeated hdecided))
  · obtain ⟨hticked, hfiring, hframe, hrepeated, hopen⟩ := hp
    exact (if_neg (by simp [hticked, hfiring])).trans (congrArg Host.Outcome.next (State.windowOver_late hframe hrepeated hopen))
  · obtain ⟨hticked, hfiring, hframe, hdone⟩ := hp
    exact (if_neg (by simp [hticked, hfiring])).trans (congrArg Host.Outcome.next (State.windowOver_done hframe hdone))
  · obtain ⟨hframe, hlaid, hnext, hroom, hopen⟩ := hp
    exact congrArg Host.Outcome.next (State.shelfLoaded_next (s := s.pass 0) errs hframe hlaid hnext hroom hopen)
  · obtain ⟨hframe, hband, hleft, hfired, hinputs⟩ := hp
    exact congrArg Host.Outcome.next (State.bandDone_whole hframe hband hleft hfired hinputs)
  · obtain ⟨hlane, hsent⟩ := hp
    exact execRectPacketSent_whole hlane hsent
  · obtain ⟨hlane, hsent⟩ := hp
    exact execRectPacketSent_goesOn hlane hsent
  · obtain ⟨hfind, hqueue⟩ := hp
    exact congrArg (fun t : State => Host.Outcome.next t.fireNext) (State.nextRay_front hfind hqueue)
  · obtain ⟨hon, hsel, hbisque, hawait⟩ := hp
    exact congrArg Host.Outcome.next (State.teRises_single (s := s.pass dt) hon hinput hsel hbisque hawait)
  · obtain ⟨hbisque, hawait, hdone⟩ := hp
    exact (execSwapDeadline_due (.inr (by simp [hawait]))).trans
      (congrArg Host.Outcome.next ((State.deadline_awaited (s := s.goto _) hbisque hawait).trans (if_pos hdone)))
  · obtain ⟨hbisque, hawait, hdone⟩ := hp
    exact (execSwapDeadline_due (.inr (by simp [hawait]))).trans
      (congrArg Host.Outcome.next ((State.deadline_awaited (s := s.goto _) hbisque hawait).trans (if_neg (ne_true_of_eq_false hdone))))
  · have hbisque : s.emit_.bisAwait = true := hp
    exact (execSwapDeadline_due (.inl hbisque)).trans (congrArg Host.Outcome.next (if_pos hbisque))
  · obtain ⟨hon, hrun, hline, hat⟩ := hp
    exact execScanLineStart_line hon (State.nextLine_goesOn hrun hline hat)
  · obtain ⟨hon, hrun, hend, hblank⟩ := hp
    exact execScanLineStart_line hon (State.nextLine_due hrun hend hblank)
  · obtain ⟨hon, hbefore⟩ := hp
    exact execScanLineStart_line hon (State.nextLine_before hbefore)
  · obtain ⟨hon, hrun, hend, hnext, hblank, hbefore⟩ := hp
    exact execScanLineStart_dark hon (State.nextLine_dark hrun hend hnext hblank hbefore)
  · exact execScanLineStart_off hp
  · obtain ⟨hloads, hfree⟩ := hp
    exact congrArg Host.Outcome.next (State.runLoads_one (s := s.pass 0) hloads hfree)
  · obtain ⟨hdue, hkept⟩ := hp
    exact congrArg (fun t : State => Host.Outcome.next t.writesDue) (State.liftSeals_one (s := s.pass 0) hdue hkept)
  · obtain ⟨hloads, hdue⟩ := hp
    exact congrArg Host.Outcome.next (State.swapCtx_one (s := s.pass 0) hloads hdue)
  · obtain ⟨hcopying, hwaiting⟩ := hp
    exact congrArg Host.Outcome.next (State.copyDone_last (s := s.pass 0) hcopying hwaiting)

end Sys2Proof.Machine
end

section
/-! Read-back (R224, R230), fault reports (R242, R243), probes (R244, R245) and the fallback to darkness (R250). -/

namespace Sys2Proof.Machine

section
variable {s : State}

/-! ### Read-back -/

/-- The read-back that packet `words` answers (R224). -/
def Echo.answeredBy (e : Echo) (words : List Word) : Bool := e.lane = bits (nthW words 0) 31 28 && e.frame = bits (nthW words 0) 27 0

/-- A read-back is no longer waited for. -/
def State.echoTaken (s : State) (e : Echo) : State :=
  { s with emit_ := { s.emit_ with echo := s.emit_.echo.filter (fun (x : Echo) => x ≠ e) } }

theorem State.readback_agrees {words : List Word} {e : Echo} (hkind : bits (nthW words 0) 35 32 = 1)
    (hecho : s.emit_.echo.find? (·.answeredBy words) = some e) (hcrc : bits (nthW words 1) 31 0 = e.crc)
    (hcount : bits (nthW words 2) 22 0 = e.count) (habandon : bit (nthW words 2) 23 = e.abandon) :
    s.readback words =
      { s with emit_ := { s.emit_ with
        echo := s.emit_.echo.filter (fun (x : Echo) => x ≠ e)
        badEcho := setNth s.emit_.badEcho (bits (nthW words 0) 31 28) 0 } } := by
  unfold Echo.answeredBy at hecho
  unfold State.readback
  dsimp only
  rw [if_neg (by simp [hkind]), hecho]
  dsimp only
  rw [if_pos (by simp [hcrc, hcount, habandon])]

theorem State.readback_differs {words : List Word} {e : Echo} (hkind : bits (nthW words 0) 35 32 = 1)
    (hecho : s.emit_.echo.find? (·.answeredBy words) = some e) (hcrc : bits (nthW words 1) 31 0 ≠ e.crc) :
    s.readback words = (s.echoTaken e).badEcho e 839 := by
  unfold Echo.answeredBy at hecho
  unfold State.readback
  dsimp only
  rw [if_neg (by simp [hkind]), hecho]
  dsimp only
  rw [if_neg (by simp [hcrc])]
  rfl

theorem execReadbackTimeout_due {lane : Nat} {e : Echo} {n : Nat} (hn : cyclesUs 200 = n)
    (hecho : s.emit_.echo.find? (fun (x : Echo) => x.lane = lane) = some e) :
    execReadbackTimeout lane s = .next (((s.gotoNow (e.at_ + n)).echoTaken e).badEcho e 840) := by
  unfold execReadbackTimeout
  rw [hecho]
  dsimp only
  rw [hn]
  rfl

/-- A first read-back that is missing or differs marks the string (R224). -/
theorem State.badEcho_marks {e : Echo} {n : Nat} (event : Nat) (hn : nth s.emit_.badEcho e.lane + 1 = n) (hfew : n ≠ 3) :
    (s.echoTaken e).badEcho e event =
      ((State.flag { s with emit_ := { s.emit_ with
        echo := s.emit_.echo.filter (fun (x : Echo) => x ≠ e)
        badEcho := setNth s.emit_.badEcho e.lane n } } Reg.EMIT_READBACK_MISMATCH (2 ^ e.lane)).dropString e.lane).raise event e.frame := by
  subst hn
  unfold State.badEcho
  exact if_neg hfew

/-- The third one in a row fails the string (R224). -/
theorem State.badEcho_fails {e : Echo} {n : Nat} (event : Nat) (hn : nth s.emit_.badEcho e.lane + 1 = n) (hthird : n = 3) :
    (s.echoTaken e).badEcho e event =
      ((((((State.flag { s with emit_ := { s.emit_ with
        echo := s.emit_.echo.filter (fun (x : Echo) => x ≠ e)
        badEcho := setNth s.emit_.badEcho e.lane n } } Reg.EMIT_READBACK_MISMATCH (2 ^ e.lane)).dropString e.lane).raise event e.frame).flag
        Reg.EMIT_READBACK_FAILED (2 ^ e.lane)).raise 841 e.frame).failString e.lane).evalGroups := by
  subst hn
  unfold State.badEcho
  exact if_pos hthird

/-! ### Fault reports -/

/-- The entries of a fault packet (R242). -/
def faultEntries (words : List Word) : List FaultEntry :=
  ((words.drop 2).take (bits (nthW words 1) 4 0)).map (fun w =>
    (⟨bits (nthW words 0) 31 28, bits w 35 34, bits w 33 32, bit w 31, bits w 24 0, 0⟩ : FaultEntry))

/-- A fault packet that the device takes, with no part of another report kept (R242). -/
structure State.HearsFaults (s : State) (words : List Word) : Prop where
  kind : bits (nthW words 0) 35 32 = 2
  lane : s.geo.lanes.contains (bits (nthW words 0) 31 28) = true
  echoes : s.es Reg.EMIT_HEAD_CTRL_ECHO_EN ≠ 0
  none_ : s.emit_.maps = []

theorem State.faultMap_first {words : List Word} (h : s.HearsFaults words) :
    s.faultMap words =
      if bits (nthW words 1) 12 10 + 1 ≤ 1 then s.takeReport (bits (nthW words 0) 31 28) (faultEntries words) (bit (nthW words 1) 9)
      else { s with emit_ := { s.emit_ with
        maps := [(bits (nthW words 0) 31 28, [bits (nthW words 1) 15 13], faultEntries words)] } } := by
  obtain ⟨hkind, hlane, hechoes, hnone⟩ := h
  have hsame : ({ s with emit_ := { s.emit_ with maps := [] } } : State) = s := by rw [← hnone]
  unfold State.faultMap
  dsimp only
  rw [if_neg (by rw [hkind, hlane]; simp [hechoes]), hnone]
  dsimp only [List.find?_nil, Option.getD_none, List.filter_nil, List.contains_nil]
  rw [hsame]
  rfl

theorem State.reportMissing_few {lane : Nat} (hfew : nth s.emit_.missed lane < 2) :
    s.reportMissing lane =
      State.raise { s with emit_ := { s.emit_ with
        missed := setNth s.emit_.missed lane (nth s.emit_.missed lane + 1)
        reported := setNth s.emit_.reported lane true
        maps := s.emit_.maps.filter (fun (m : Nat × List Nat × List FaultEntry) => m.1 ≠ lane) } } 867 0 := by
  unfold State.reportMissing
  exact if_neg (by omega)

/-! ### Probes -/

/-- A probe at its first question of a range: no single channel asked for, nothing sure yet (R244). -/
structure State.ProbeAsked (s : State) (head : Nat) (p : Probe) : Prop where
  probe : s.emit_.probes[head]? = some p
  asked : p.asked = true
  solo : p.solo = []
  sure : p.sure = false

theorem State.probeAnswer_low {head : Nat} {p : Probe} (h : s.ProbeAsked head p) (hwide : p.range.1 ≠ p.range.2) :
    s.probeAnswer head true =
      State.showFaults { s with emit_ := { s.emit_ with
        probes := setNth s.emit_.probes head { p with asked := false, sure := true } } } := by
  obtain ⟨hprobe, hasked, hsolo, hsure⟩ := h
  have hheard : (p.heard || !true) = p.heard := Bool.or_false _
  have hrange (b : Bool) : Probe.range { p with solo := [], heard := b, asked := false } = p.range := by
    unfold Probe.range
    rw [hsolo]
  unfold State.probeAnswer
  rw [hprobe]
  dsimp only
  rw [if_neg (by simp [hasked]), hsolo]
  dsimp only
  rw [if_pos (by simp [hsure]), if_neg (by decide), hrange, if_neg hwide, hheard]

theorem State.probeAnswer_high {head : Nat} {p : Probe} (h : s.ProbeAsked head p) :
    s.probeAnswer head false =
      let r := s.endTurn head { p with asked := false, heard := true }
      State.showFaults { r.2 with emit_ := { r.2.emit_ with probes := setNth r.2.emit_.probes head r.1 } } := by
  obtain ⟨hprobe, hasked, hsolo, hsure⟩ := h
  have hheard : (p.heard || !false) = true := Bool.or_true _
  unfold State.probeAnswer
  rw [hprobe]
  dsimp only
  rw [if_neg (by simp [hasked]), hsolo]
  dsimp only
  rw [if_pos (by simp [hsure]), if_pos (by decide), hheard]

theorem execProbeLine_asked {head : Nat} {p : Probe} (low : Bool) (h : s.ProbeAsked head p) (hon : s.scanOn = true) :
    execProbeLine head low s = .next ((s.goto (s.sched s.time.last + s.probeOffset)).probeAnswer head low) := by
  unfold execProbeLine
  dsimp only
  rw [h.probe]
  exact if_neg (by simp [h.asked, hon])

theorem execFailDarkFallback_due {group : Nat} {p : Nat × Nat} {e : EmitState}
    (hfind : s.emit_.fallback.find? (fun (x : Nat × Nat) => x.1 = group) = some p)
    (he : { s.emit_ with fallback := s.emit_.fallback.filter (fun (x : Nat × Nat) => x.1 ≠ group) } = e) :
    execFailDarkFallback group s =
      .next (((State.w { s.gotoNow (p.2 + s.fallbackWait) with emit_ := e } Reg.EMIT_FD_GROUP_BLANKING 1 group).raise 871 group).driveBlank) := by
  unfold execFailDarkFallback State.fallBack
  rw [hfind]
  dsimp only at he ⊢
  rw [State.gotoNow_emit_, he]

end

/-- Settles O42: a clause for each read-back, fault report, probe line and fallback. -/
theorem faultRowsTakeEffect : Obligations.FaultRowsTakeEffect := by
  refine ⟨fun words e hkind s hp => ?_, fun words e hkind hcrc s hp => ?_, fun lane e s hp => ?_, fun lane e s hp => ?_,
    ⟨fun words s hp => ?_, fun words s hp => ?_⟩, fun lane s hp => ?_, fun head p s hp => ?_, fun head p s hp => ?_,
    fun group p s hp => ?_⟩
  · obtain ⟨hecho, hcrc, hcount, habandon⟩ := hp
    exact congrArg Host.Outcome.next (State.readback_agrees (s := s.pass 0) hkind hecho hcrc hcount habandon)
  · obtain ⟨hecho, hnone⟩ := hp
    exact congrArg Host.Outcome.next ((State.readback_differs (s := s.pass 0) hkind hecho hcrc).trans
      (State.badEcho_marks (n := 1) 839 (congrArg (· + 1) hnone) (by decide)))
  · obtain ⟨hecho, hnone⟩ := hp
    exact (execReadbackTimeout_due (by norm_num [cyclesUs]) hecho).trans
      (congrArg Host.Outcome.next (State.badEcho_marks (n := 1) 840 (congrArg (· + 1) hnone) (by decide)))
  · obtain ⟨hecho, htwo⟩ := hp
    exact (execReadbackTimeout_due (by norm_num [cyclesUs]) hecho).trans
      (congrArg Host.Outcome.next (State.badEcho_fails (n := 3) 840 (congrArg (· + 1) htwo) rfl))
  · obtain ⟨⟨hkind, hlane, hechoes, hnone⟩, hparts⟩ := hp
    exact congrArg Host.Outcome.next ((State.faultMap_first (s := s.pass 0) ⟨hkind, hlane, hechoes, hnone⟩).trans (if_pos (by omega)))
  · obtain ⟨⟨hkind, hlane, hechoes, hnone⟩, hparts⟩ := hp
    exact congrArg Host.Outcome.next ((State.faultMap_first (s := s.pass 0) ⟨hkind, hlane, hechoes, hnone⟩).trans (if_neg (by omega)))
  · obtain ⟨hechoes, hon, hreported, hlane, hfew⟩ := hp
    have hrun : ¬ (decide (s.es Reg.EMIT_HEAD_CTRL_ECHO_EN = 0) || !s.scanOn || s.emit_.reported.getD lane true
        || !s.geo.lanes.contains lane) = true := by
      rw [hon, hreported, hlane]
      simp [hechoes]
    exact (if_neg hrun).trans (congrArg Host.Outcome.next (State.reportMissing_few (s := s.goto _) hfew))
  · obtain ⟨hprobe, hasked, hon, hsolo, hsure, hwide⟩ := hp
    exact (execProbeLine_asked true ⟨hprobe, hasked, hsolo, hsure⟩ hon).trans
      (congrArg Host.Outcome.next (State.probeAnswer_low ⟨hprobe, hasked, hsolo, hsure⟩ hwide))
  · obtain ⟨hprobe, hasked, hon, hsolo, hsure⟩ := hp
    exact (execProbeLine_asked false ⟨hprobe, hasked, hsolo, hsure⟩ hon).trans
      (congrArg Host.Outcome.next (State.probeAnswer_high ⟨hprobe, hasked, hsolo, hsure⟩))
  · exact execFailDarkFallback_due hp rfl

end Sys2Proof.Machine
end

section
/-! The encoder's rows (R331, R332, R341), the spyhole (R342–R345). -/

namespace Sys2Proof.Machine

/-! ### Coding takes no time -/

theorem State.now_foldl {β : Type} {f : State → β → State} (hf : ∀ s x, (f s x).now = s.now) (l : List β) :
    ∀ s : State, (l.foldl f s).now = s.now := by
  induction l with
  | nil => exact fun s => rfl
  | cons x l ih => exact fun s => (ih _).trans (hf s x)

@[simp] theorem State.setEnc_now (s : State) (e : EncState) : (s.setEnc e).now = s.now := rfl
@[simp] theorem State.setLayer_now (s : State) (l : Nat) (x : EncLayer) : (s.setLayer l x).now = s.now := rfl
@[simp] theorem State.setExtr_now (s : State) (i : Nat) (x : Extr) : (s.setExtr i x).now = s.now := rfl
@[simp] theorem State.splice_now (s : State) (i : Nat) (ws : List Word) : (s.splice i ws).now = s.now := rfl
@[simp] theorem State.showOwed_now (s : State) (l : Nat) : (s.showOwed l).now = s.now := rfl
@[simp] theorem State.askIdr_now (s : State) (i : Nat) : (s.askIdr i).now = s.now := rfl

@[simp] theorem State.beginPicture_now (s : State) (l : Nat) (rep : Bool) : (s.beginPicture l rep).now = s.now := by
  cases rep <;> rfl

@[simp] theorem State.raiseTick_now (s : State) (e i d : Nat) : (s.raiseTick e i d).now = s.now := by
  unfold State.raiseTick
  split
  · rfl
  · exact State.raise_now _ e d

@[simp] theorem State.sectorFail_now (s : State) (req n : Nat) : (s.sectorFail req n).now = s.now := State.raise_now _ _ _

@[simp] theorem State.readErrs_now (s : State) (req : Nat) (errs : List (Nat × Bool)) : (s.readErrs req errs).now = s.now := by
  refine State.now_foldl (fun x e => ?_) errs s
  split <;> simp

@[simp] theorem State.dramUsed_now (s : State) (wr : Bool) (n : Nat) : (s.dramUsed wr n).now = s.now := by
  unfold State.dramUsed
  split <;> rfl

@[simp] theorem State.tileRow_now (s : State) (l tr tc r bits skip : Nat) : (s.tileRow l tr tc r bits skip).now = s.now := by
  unfold State.tileRow
  dsimp only
  split
  · rw [State.raise_now]
    split <;> rfl
  · rfl

@[simp] theorem State.sendRow_now (s : State) (l f row : Nat) (rep : Bool) (c : CodedChunk) : (s.sendRow l f row rep c).now = s.now := by
  unfold State.sendRow
  dsimp only
  (repeat' split) <;> simp

@[simp] theorem State.codeRow_now (s : State) (l f row : Nat) (rep : Bool) (c : CodedRow) : (s.codeRow l f row rep c).now = s.now := by
  unfold State.codeRow
  dsimp only
  rw [State.setLayer_now, State.now_foldl (fun x e => by simp), State.dramUsed_now, State.readErrs_now,
    State.now_foldl (fun x e => by simp), State.showOwed_now, State.now_foldl (fun x e => by simp)]
  split <;> simp

/-! ### Rows of a layer -/

section
variable {s : State} {l f row : Nat} {rep : Bool} {rest : List (Nat × Nat × Bool)} {c : CodedRow}

/-- The layer's next row, where a picture is in work (R332). -/
structure State.RowDue (s : State) (l f row : Nat) (rep : Bool) (rest : List (Nat × Nat × Bool)) : Prop where
  work : (s.layer l).work = (f, row, rep) :: rest
  peel : s.peelHeld = true
  enabled : rget s.enc.regs Reg.ENCODE_LAYER_W0_EN l ≠ 0

/-- The instant at which the row of the source frame was ingested. -/
def State.rowHeld (s : State) (l f row : Nat) : Option (Nat × Nat × Nat) :=
  (s.mgr.flows.getD (rget s.enc.regs Reg.ENCODE_LAYER_W0_FLOW l) Flow.reset).rows.find?
    (fun (p : Nat × Nat × Nat) => p.1 = f && p.2.1 = row)

/-- The state in which the row is coded: the first row begins the picture. -/
def State.rowBegun (s : State) (l row : Nat) (rep : Bool) : State := if row = 0 then s.beginPicture l rep else s

/-- The row coded, and the next one in work. -/
def State.rowCoded (s : State) (l f row : Nat) (rep : Bool) (rest : List (Nat × Nat × Bool)) (c : CodedRow) : State :=
  let t := (s.rowBegun l row rep).codeRow l f row rep c
  t.setLayer l { t.layer l with
    work := if row + 1 < (tileRows s.enc.regs l).foldl (· + ·) 0 then (f, row + 1, rep) :: rest else rest }

theorem State.rowCoded_now : (s.rowCoded l f row rep rest c).now = s.now := by
  unfold State.rowCoded State.rowBegun
  rw [State.setLayer_now, State.codeRow_now]
  split <;> simp

theorem State.ctuRow_ready {ingested : Option Nat} (h : s.RowDue l f row rep rest)
    (hheld : (s.rowHeld l f row).map (fun p => p.2.2) = ingested) (hthere : ingested.isSome = true ∨ rep = true)
    (hok : (s.rowBegun l row rep).rowOk l f row rep c = true) :
    s.ctuRow l c =
      let t := s.rowCoded l f row rep rest c
      if ingested.any (fun a => decide (cyclesUs 700 < s.now - a)) && !t.enc.backlog then
        (t.setEnc { t.enc with backlog := true }).raise 550 0
      else t := by
  obtain ⟨hwork, hpeel, henabled⟩ := h
  have hgo : ¬ (!s.peelHeld || rget s.enc.regs Reg.ENCODE_LAYER_W0_EN l = 0 || ingested.isNone && !rep) = true := by
    rcases hthere with h | h
    · simp [hpeel, henabled, Option.isSome_iff_ne_none.1 h]
    · simp [hpeel, henabled, h]
  have hcoded : s.pictureRow l f row rep c = some ((s.rowBegun l row rep).codeRow l f row rep c) := by
    unfold State.pictureRow
    exact if_pos hok
  have hnow := State.rowCoded_now (s := s) (l := l) (f := f) (row := row) (rep := rep) (rest := rest) (c := c)
  unfold State.ctuRow
  dsimp only
  rw [hwork]
  dsimp only
  unfold State.rowHeld at hheld
  rw [hheld]
  refine (if_neg hgo).trans ?_
  rw [hcoded]
  dsimp only
  change (if _ && !(s.rowCoded l f row rep rest c).enc.backlog then _ else s.rowCoded l f row rep rest c) = _
  cases ingested with
  | none => rfl
  | some a =>
    rw [← hnow]
    rfl

theorem State.ctuRow_missing (h : s.RowDue l f row false rest) (hnone : s.rowHeld l f row = none) : s.ctuRow l c = s := by
  obtain ⟨hwork, hpeel, henabled⟩ := h
  unfold State.rowHeld at hnone
  unfold State.ctuRow
  dsimp only
  rw [hwork]
  dsimp only
  rw [hnone]
  exact if_pos (by simp)

theorem State.ctuRow_refused (h : s.RowDue l f row rep rest) (hbad : (s.rowBegun l row rep).rowOk l f row rep c = false) :
    s.ctuRow l c = s := by
  have hnone : s.pictureRow l f row rep c = none := by
    unfold State.pictureRow
    exact if_neg (ne_true_of_eq_false hbad)
  unfold State.ctuRow
  dsimp only
  rw [h.work]
  dsimp only
  rw [hnone]
  split <;> rfl

/-- The row in time, or of a repeat picture, is coded without an event. -/
theorem State.ctuRow_inTime {ingested : Option Nat} {n : Nat} (h : s.RowDue l f row rep rest)
    (hheld : (s.rowHeld l f row).map (fun p => p.2.2) = ingested) (hthere : ingested.isSome = true ∨ rep = true)
    (hok : (s.rowBegun l row rep).rowOk l f row rep c = true) (hn : cyclesUs 700 = n) (hlate : ∀ a ∈ ingested, s.now ≤ a + n) :
    s.ctuRow l c = s.rowCoded l f row rep rest c := by
  have hany : ingested.any (fun a => decide (n < s.now - a)) = false := by
    cases ingested with
    | none => rfl
    | some a => exact decide_eq_false (by have := hlate a rfl; omega)
  rw [State.ctuRow_ready h hheld hthere hok, hn, hany]
  rfl

/-- The first row of a tick that comes late raises event 550 (R332). -/
theorem State.ctuRow_late {a n : Nat} (h : s.RowDue l f row rep rest) (hheld : (s.rowHeld l f row).map (fun p => p.2.2) = some a)
    (hok : (s.rowBegun l row rep).rowOk l f row rep c = true) (hn : cyclesUs 700 = n) (hlate : a + n < s.now)
    (hfirst : (s.rowCoded l f row rep rest c).enc.backlog = false) :
    s.ctuRow l c =
      let t := s.rowCoded l f row rep rest c
      (t.setEnc { t.enc with backlog := true }).raise 550 0 := by
  rw [State.ctuRow_ready h hheld (.inl rfl) hok, hn]
  exact if_pos (by rw [hfirst]; simpa using (by omega : n < s.now - a))

end

/-! ### The end of an ingest window (R331) -/

section
variable {s : State} {k : Nat}

/-- The ingest window that ends next is the one after frame `k`'s, and layer 0 alone is enabled, without a source frame. -/
structure State.IngestDue (s : State) (k : Nat) : Prop where
  window : s.enc.winEnd = some k
  early : s.tb3 ≤ s.ingestOpen (k + 2)
  enabled : rget s.enc.regs Reg.ENCODE_LAYER_W0_EN 0 ≠ 0
  alone : rget s.enc.regs Reg.ENCODE_LAYER_W0_EN 1 = 0
  peel : s.peelHeld = true
  bound : (s.layer 0).bound = some k

/-- The state at the end of the window. -/
def State.windowEnded (s : State) (k : Nat) : State := (s.goto (s.ingestOpen (k + 2))).setEnc { s.enc with winEnd := some (k + 1) }

theorem State.repeatLayer_disabled {l : Nat} (f : Nat) (rows : List CodedRow) (h : rget s.enc.regs Reg.ENCODE_LAYER_W0_EN l = 0) :
    s.repeatLayer l f rows = s := by
  unfold State.repeatLayer
  exact if_pos (by simp [h])

theorem State.repeatLayer_owed {l f b : Nat} (rows : List CodedRow) (henabled : rget s.enc.regs Reg.ENCODE_LAYER_W0_EN l ≠ 0)
    (hpeel : s.peelHeld = true) (hbound : (s.layer l).bound = some b) (hlate : b < f) :
    s.repeatLayer l f rows =
      let x := s.layer l
      let later := s.setLayer l { x with bound := some f, work := x.work ++ [(f, 0, true)] }
      ((if x.work.isEmpty then ((s.setLayer l { x with bound := some f }).repeatRows l f 0 rows).getD later else later).count
        Reg.ENCODE_LAYER_STATUS_W1_DROPS l).raise 546 (f % 2 ^ 28) := by
  unfold State.repeatLayer
  dsimp only
  rw [hbound]
  exact if_neg (by simp [henabled, hpeel, hlate])

theorem execIngestWindowEnd_due (h : s.IngestDue k) (rows : List (List CodedRow)) :
    execIngestWindowEnd rows s =
      .next (((s.windowEnded k).repeatLayer 0 (k + 1) (rows.getD 0 [])).repeatLayer 1 (k + 1) (rows.getD 1 [])) := by
  unfold execIngestWindowEnd
  rw [h.window]
  dsimp only
  rw [if_neg (Int.not_lt.2 h.early)]
  rfl

/-- The window's end for layer 0, whose repeat picture gives `u`. -/
theorem execIngestWindowEnd_repeats {u : State} (h : s.IngestDue k) (rows : List (List CodedRow))
    (hu : (let x := s.layer 0
           let later := (s.windowEnded k).setLayer 0 { x with bound := some (k + 1), work := x.work ++ [(k + 1, 0, true)] }
           if x.work.isEmpty then
             (((s.windowEnded k).setLayer 0 { x with bound := some (k + 1) }).repeatRows 0 (k + 1) 0 (rows.getD 0 [])).getD later
           else later) = u)
    (halone : rget u.enc.regs Reg.ENCODE_LAYER_W0_EN 1 = 0) :
    execIngestWindowEnd rows s = .next ((u.count Reg.ENCODE_LAYER_STATUS_W1_DROPS 0).raise 546 ((k + 1) % 2 ^ 28)) := by
  have howed := State.repeatLayer_owed (s := s.windowEnded k) (l := 0) (f := k + 1) (rows.getD 0 []) h.enabled h.peel h.bound (by omega)
  rw [execIngestWindowEnd_due h, howed]
  refine congrArg Host.Outcome.next ((State.repeatLayer_disabled _ _ ?_).trans ?_)
  · rw [State.raise_enc, State.count_enc]
    exact hu ▸ halone
  · exact congrArg (fun t : State => (t.count Reg.ENCODE_LAYER_STATUS_W1_DROPS 0).raise 546 ((k + 1) % 2 ^ 28)) hu

end

/-! ### Extractions and subscriptions -/

section
variable {s : State}

theorem State.owedIntra_one {j n : Nat} {x : Extr} (hextr : s.enc.extr = [(j, x)]) (hserved : x.served = some n) (howed : x.owed = true)
    (hover : n + s.r Reg.ENCODE_CTRL_INTRA_HOLDOFF ≤ s.time.last) (hpeel : s.peelHeld = true) : s.owedIntra = s.serveIntra j := by
  unfold State.owedIntra
  rw [hextr, List.foldl_cons, List.foldl_nil]
  dsimp only
  rw [hserved]
  exact if_pos (by simp [howed, hover, hpeel])

theorem execSpySubExpiry_one {q : SpySub} (h : s.enc.subs = [q]) :
    execSpySubExpiry s = .next ((s.gotoNow q.until_).setEnc { s.enc with subs := [] }) := by
  have hfilter : s.enc.subs.filter (fun x => decide (q.until_ < x.until_)) = [] := by
    rw [h]
    simp
  unfold execSpySubExpiry
  rw [h]
  exact congrArg (fun l => Host.Outcome.next ((s.gotoNow q.until_).setEnc { s.enc with subs := l })) hfilter

/-! ### The spyhole -/

/-- A spyhole picture is due for the frame (R343). -/
structure State.SpyDue (s : State) (f : Nat) : Prop where
  worker : s.isWorker = true
  enabled : s.rb Reg.ENCODE_SPY_CTRL_SPY_EN = true
  divided : f % (s.r Reg.ENCODE_SPY_CTRL_SPY_DIV_M1 + 1) = 0
  new : s.enc.spyFrame ≠ some f

/-- The words of a spyhole picture (R336, R343). -/
def State.spyBudget (s : State) : Nat :=
  tileBudget (s.r Reg.ENCODE_SPY_CTRL_SPY_KBPS) s.num (s.den * (s.r Reg.ENCODE_SPY_CTRL_SPY_DIV_M1 + 1)) 1 1

/-- The rate control through the rows of a spyhole picture (R336–R340). -/
def State.spyRun (s : State) (g : Grid) (pic : List (List Nat)) (idr skip : Bool) (c : CodedSpy) : TileRc × Bool × Bool :=
  let w := (spyCoded g).1
  let h := (spyCoded g).2
  let tile : Rect4 := ⟨0, 0, w, h⟩
  spyRows (fun past => ⟨idr, past, skip, 0⟩)
    (fun m r x => tileRowOk m w h true tile (tile.ctuRow r) (fun x y => nth (pic.getD 0 []) (y * w + x)) (lumaOf s.enc.spyRef) s.enc.spyPus x)
    (cdiv h 32) 0 c.rows ({ s.enc.spyRc with intra := idr }.begin_ s.spyBudget (s.r Reg.ENCODE_CTRL_INTRA_BOOST), false, true)

/-- What coding a spyhole picture gave is such a picture, and no read of it failed (R342–R344). -/
structure State.SpyGood (s : State) (g : Grid) (idr : Bool) (r : TileRc × Bool × Bool) (c : CodedSpy) : Prop where
  sound : r.2.2 = true
  rows : c.rows.length = cdiv (spyCoded g).2 32
  segs : c.segs = 1
  nal : c.nal = (if idr then 20 else 1)
  head : c.head = (if idr then some (s.spyHead g) else none)
  hash : c.hash = s.rb Reg.ENCODE_CTRL_HASH
  fails : c.fails = []

theorem State.spyCode_skipped {f : Nat} {b : List Byte} {c : CodedSpy} (h : s.SpyDue f) (hclass : s.classIn 7 = false) :
    s.spyCode f b c =
      ((s.setEnc { s.enc with spyFrame := some f, spyIdr := true }).count Reg.ENCODE_SPY_STATUS_SKIPPED).raise 552 (f % 2 ^ 28) := by
  obtain ⟨hworker, henabled, hdivided, hnew⟩ := h
  unfold State.spyCode
  exact (if_neg (by simp [hworker, henabled, hdivided, hnew])).trans (if_pos (by simp [hclass]))

/-- A spyhole picture coded as it has to be, of the grid, the picture and the kind that the frame gives, is sent (R343, R344). -/
theorem State.spyCode_coded {f : Nat} {b : List Byte} {c : CodedSpy} {frame : Option FireFrame} {g : Grid} {pic : List (List Nat)}
    {due idr : Bool} {r : TileRc × Bool × Bool} {t : State} (h : s.SpyDue f) (hclass : s.classIn 7 = true) (hframe : s.spyFrame f = frame)
    (hgrid : frame.elim (gridOf s.inForce) (fun x => gridOf x.copy) = g)
    (hpic : frame.elim s.enc.spyPic (fun x => spyPicture g x.rays) = pic)
    (hdue : (s.enc.spyIdr || decide (s.r Reg.ENCODE_SPY_CTRL_SPY_IDR ≤ s.enc.spyCount)) = due) (hidr : (due && frame.isSome) = idr)
    (hrun : s.spyRun g pic idr frame.isNone c = r) (hgood : s.SpyGood g idr r c)
    (ht : s.setEnc { s.enc with
        spyFrame := some f, spyIdr := due && !idr, spyCount := if idr then 1 else s.enc.spyCount + 1, spyRc := r.1, spyPic := pic
        spyRef := c.recon, spyPus := c.rows.flatMap (fun (y : CodedTile) => y.pus) } = t) :
    s.spyCode f b c =
      ((if r.2.1 then t.raise 544 0 else t).count Reg.ENCODE_SPY_STATUS_SENT).sendSpy f b := by
  obtain ⟨hworker, henabled, hdivided, hnew⟩ := h
  obtain ⟨hsound, hrows, hsegs, hnal, hhead, hhash, hfails⟩ := hgood
  unfold State.spyCode
  refine (if_neg (by simp [hworker, henabled, hdivided, hnew])).trans ((if_neg (by simp [hclass])).trans ?_)
  extract_lets e fr g' due' idr' pic' w h' tile src n bt rc tile0 r' good coded p enc read
  have hfr : fr = frame := hframe
  have hg' : g' = g := by
    rw [← hgrid, ← hfr]
    simp only [g']
    cases fr <;> rfl
  have hpic' : pic' = pic := by
    rw [← hpic, ← hfr, ← hg']
    simp only [pic']
    cases fr <;> rfl
  have hidr' : idr' = idr := by
    rw [← hidr, ← hdue, ← hfr]
  have hr : r' = r := by
    rw [← hrun, ← hg', ← hpic', ← hidr', ← hfr]
    rfl
  have hgood' : good = true := by
    simp only [good, n, h', hr, hsound, hrows, hsegs, hnal, hhead, hhash, hidr', hg', decide_true, Bool.true_and]
  refine (if_neg (by simp [hgood'])).trans ?_
  have hcoded : coded = t := by
    rw [← ht]
    simp only [coded, hr, hpic', hidr', ← hdue]
    rfl
  have hread : read = coded := by
    simp only [read, p, hfails]
    rfl
  rw [hread, hcoded, hr]
  rfl

end

/-- Settles O43: a clause for each row, window and picture that the encoder takes. -/
theorem encodeRowsTakeEffect : Obligations.EncodeRowsTakeEffect := by
  have hus : cyclesUs 700 = 70000 := by norm_num [cyclesUs]
  refine ⟨⟨fun l c dt f row rest s hp => ?_, fun l c dt f row rest a s hp => ?_, fun l c dt f row rest a s hp => ?_,
      fun l c dt f row rest s hp => ?_, fun l c dt f row rep rest s hp => ?_⟩,
    ⟨fun k s hp => ?_, fun k rows u s hp => ?_⟩, fun j n x s hp => ?_,
    ⟨fun f bytes c s hp => ?_, fun f bytes c x s hp => ?_, fun f bytes c s hp => ?_⟩, fun q s hp => ?_⟩
  · obtain ⟨⟨hwork, hpeel, henabled⟩, hheld, hok⟩ := hp
    exact congrArg Host.Outcome.next (State.ctuRow_inTime (s := s.pass dt) (ingested := none) (n := 70000) ⟨hwork, hpeel, henabled⟩
      (congrArg (Option.map (fun p => p.2.2)) hheld) (.inr rfl) hok hus (fun a ha => nomatch ha))
  · obtain ⟨⟨hwork, hpeel, henabled⟩, hheld, htime, hok⟩ := hp
    exact congrArg Host.Outcome.next (State.ctuRow_inTime (s := s.pass dt) (ingested := some a.2.2) (n := 70000) ⟨hwork, hpeel, henabled⟩
      (congrArg (Option.map (fun p => p.2.2)) hheld) (.inl rfl) hok hus (fun b hb => Option.some.inj hb ▸ htime))
  · obtain ⟨⟨hwork, hpeel, henabled⟩, hheld, hlate, hfirst, hok⟩ := hp
    exact congrArg Host.Outcome.next (State.ctuRow_late (s := s.pass dt) (a := a.2.2) (n := 70000) ⟨hwork, hpeel, henabled⟩
      (congrArg (Option.map (fun p => p.2.2)) hheld) hok hus hlate hfirst)
  · obtain ⟨⟨hwork, hpeel, henabled⟩, hheld⟩ := hp
    exact congrArg Host.Outcome.next (State.ctuRow_missing (s := s.pass dt) ⟨hwork, hpeel, henabled⟩ hheld)
  · obtain ⟨⟨hwork, hpeel, henabled⟩, hbad⟩ := hp
    exact congrArg Host.Outcome.next (State.ctuRow_refused (s := s.pass dt) ⟨hwork, hpeel, henabled⟩ hbad)
  · obtain ⟨⟨hwindow, hearly, henabled, halone, hpeel, hbound⟩, hrows⟩ := hp
    refine execIngestWindowEnd_repeats ⟨hwindow, hearly, henabled, halone, hpeel, hbound⟩ [] ?_ halone
    have hnone : ((s.windowEnded k).setLayer 0 { s.layer 0 with bound := some (k + 1) }).repeatRows 0 (k + 1) 0 [] = none :=
      if_neg (Ne.symm hrows)
    exact (congrArg (fun o => if (s.layer 0).work.isEmpty then Option.getD o _ else _) hnone).trans (ite_self _)
  · obtain ⟨⟨hwindow, hearly, henabled, halone, hpeel, hbound⟩, hwork, hrepeat, hu⟩ := hp
    refine execIngestWindowEnd_repeats ⟨hwindow, hearly, henabled, halone, hpeel, hbound⟩ [rows] ?_ hu
    have hempty : (s.layer 0).work.isEmpty = true := by rw [hwork]; rfl
    exact (if_pos hempty).trans (congrArg (fun o => Option.getD o _) hrepeat)
  · obtain ⟨hextr, hserved, howed, hover, hpeel⟩ := hp
    exact congrArg Host.Outcome.next (State.owedIntra_one (s := s.pass 0) hextr hserved howed hover hpeel)
  · obtain ⟨⟨hworker, henabled, hdivided, hnew⟩, hclass⟩ := hp
    exact congrArg Host.Outcome.next (State.spyCode_skipped (s := s.pass 0) ⟨hworker, henabled, hdivided, hnew⟩ hclass)
  · obtain ⟨⟨hworker, henabled, hdivided, hnew⟩, hclass, hframe, hidr, hsound, hrows, hsegs, hnal, hhead, hhash, hfails⟩ := hp
    beta_reduce
    extract_lets w height tile rc r enc t
    exact congrArg Host.Outcome.next (State.spyCode_coded (s := s.pass 0) (due := true) (idr := true) (r := r) (t := t)
      ⟨hworker, henabled, hdivided, hnew⟩ hclass hframe rfl rfl (by rw [State.pass_enc, hidr]; rfl) rfl rfl
      ⟨hsound, hrows, hsegs, hnal, hhead, hhash, hfails⟩ rfl)
  · obtain ⟨⟨hworker, henabled, hdivided, hnew⟩, hclass, hframe, hidr, hcount, hsound, hrows, hsegs, hnal, hhead, hhash, hfails⟩ := hp
    have hdue : ((s.pass 0).enc.spyIdr || decide ((s.pass 0).r Reg.ENCODE_SPY_CTRL_SPY_IDR ≤ (s.pass 0).enc.spyCount)) = false := by
      rw [State.pass_enc, hidr, Bool.false_or]
      exact decide_eq_false (Nat.not_le.2 hcount)
    beta_reduce
    extract_lets w height tile rc r enc t
    exact congrArg Host.Outcome.next (State.spyCode_coded (s := s.pass 0) (due := false) (idr := false) (r := r) (t := t)
      ⟨hworker, henabled, hdivided, hnew⟩ hclass hframe rfl rfl hdue rfl rfl ⟨hsound, hrows, hsegs, hnal, hhead, hhash, hfails⟩ rfl)
  · exact execSpySubExpiry_one hp

end Sys2Proof.Machine
end

section
/-! STAMP (R485), DEFLATE (R491–R496), calibration saves and timers (R191, R201), the bake applied (R439), the log written (R437). -/

namespace Sys2Proof.Machine

section
variable {s : State}

/-! ### STAMP -/

/-- A job that waits at the head of the queue. -/
structure State.StampHead (s : State) (j : StampJob) (t : List StampJob) : Prop where
  head : s.eng.stamp = j :: t
  idle : j.started = false
  free : j.waits = false

theorem State.stampHead_go {j : StampJob} {t : List StampJob} {ids : List Nat} (h : s.StampHead j t)
    (hgate : s.gateRuns (j.dst.runs s.regs j.w j.h) j.wait j.force = .go ids) : s.stampHead = s.stampStart j t ids := by
  unfold State.stampHead
  rw [h.head]
  refine (if_neg (by simp [h.idle, h.free])).trans ?_
  rw [hgate]

theorem State.stampHead_denied {j : StampJob} {t : List StampJob} (h : s.StampHead j t)
    (hgate : s.gateRuns (j.dst.runs s.regs j.w j.h) j.wait j.force = .denied) :
    s.stampHead = ((s.setStamp t).prune.showPool).complete j.req .denied := by
  unfold State.stampHead
  rw [h.head]
  refine (if_neg (by simp [h.idle, h.free])).trans ?_
  rw [hgate]
  dsimp only
  unfold State.stampEnd
  rw [h.idle]
  rfl

/-- The running job of a raw or padded destination carried through (R485, R488–R490). -/
theorem State.stampRun_rows {j : StampJob} {t : List StampJob} {r : StampRun} {n : Nat} (hhead : s.eng.stamp = j :: t)
    (hstarted : j.started = true) (hdeferred : s.hearth.plan.deferred.contains 8 = false) (hraw : j.dst.format s.regs true ≠ 4)
    (hdown : bit j.ctrl 27 = false) (hrows : s.stampRows j (List.range j.h) ⟨s.dram, [], false, none, 0⟩ 0 = (r, n)) (herr : r.err = none)
    (hhazard : r.hazard = false) :
    s.stampRun =
      let u := (j.dst.runs s.regs j.w j.h).foldl (fun (x : State) (a : Nat × Nat) => x.writeChannels a.1 a.2)
        ({ s with dram := r.d }.drawn.act 8 10 r.moved)
      let v := (u.w Reg.STAMP_PROGRESS_ROWS n).raises (watermarks j.step j.h n)
      let w := (v.markWriting j.ids false false).surfsAfter j.ids false
      ((w.setStamp t).prune.showPool).complete j.req (.done 0) := by
  unfold State.stampRun
  rw [hhead]
  refine (if_neg (by rw [hstarted, hdeferred]; decide)).trans ?_
  dsimp only
  rw [if_neg (by simpa using hraw), hdown, if_neg Bool.false_ne_true, hrows]
  dsimp only
  rw [hhazard, if_neg Bool.false_ne_true, herr]
  dsimp only
  unfold State.stampEnd
  rw [if_pos hstarted]
  rfl

/-! ### DEFLATE -/

/-- A running job whose ranges and buffers are used up (R492, R495). -/
structure State.DeflateSpent (s : State) (j : DefJob) (t : List DefJob) : Prop where
  head : s.eng.deflate = j :: t
  running : s.r Reg.DEFLATE_STATUS_STATE = 1
  inputs : j.inputs = []
  bufs : j.bufs = []
  fill : j.fill = 0

/-- The head job as far as its stream goes, with its work counted (R414). -/
def State.deflateAt (s : State) (j : DefJob) : State :=
  (s.setHead j (j.stream false j.outDone).eaten).act 8 11
    (if j.compress then (j.stream false j.outDone).eaten - s.r Reg.DEFLATE_IN_IN_DONE else 0)

theorem State.defRun_spent {j : DefJob} {t : List DefJob} (h : s.DeflateSpent j t) {stop : Nat}
    (hstop : (j.stream false j.outDone).stop = stop) (hends : stop = 0 ∨ stop = 0x100) :
    s.defRun =
      if stop = 0 then (s.deflateAt j).defEnd j false (.reply (j.report (j.stream false j.outDone)))
      else ((s.deflateAt j).w Reg.DEFLATE_STATUS_STATE 2).raise 1009 0 := by
  obtain ⟨hhead, hrunning, hinputs, hbufs, hfill⟩ := h
  have hempty (l : List Byte) : State.defFill 2 s j l = (s, j, none) := by
    unfold State.defFill
    rw [hbufs]
    cases l <;> rfl
  have hsame : ({ j with data := j.data, inputs := [] } : DefJob) = j := by rw [← hinputs]
  have hroom : (j.bufs.map Prod.snd).foldl (· + ·) 0 - j.fill = 0 := by rw [hbufs, hfill]; rfl
  unfold State.defRun
  rw [hhead]
  refine (if_neg (by simp [hrunning])).trans ?_
  extract_lets old done g x j' room d w j2 s2
  have hg : g = (j.data, none) := by
    simp only [g, old, hinputs]
    rfl
  have hj' : j' = j := by
    simp only [j', hg]
    exact hsame
  have hx : x = s := by
    simp only [x, old, hinputs]
    rfl
  have hroom' : room = 0 := by
    simp only [room, hj', hroom]
  have hd : d = j.stream false j.outDone := by
    simp only [d, hg, hj', hroom']
    rfl
  have hw : w = (s, j, none) := by
    simp only [w, hx, hj', hbufs]
    exact hempty _
  have hj2 : j2 = j := congrArg (fun p => p.2.1) hw
  have hs2 : s2 = s.deflateAt j := by
    simp only [s2, j2, hw, hd, done, Nat.sub_self]
    rfl
  rw [hw, hs2]
  dsimp only
  rw [hd, hstop]
  rcases hends with rfl | rfl
  · rw [if_pos rfl, if_pos rfl, hj2]
  · exact ((if_neg (by decide)).trans (if_pos rfl)).trans (if_neg (by decide)).symm

/-! ### Calibration -/

theorem State.saveDone_stored {static : Bool} {area n : Nat} {ws : List Word} {req : Option Req}
    (h : s.cal.save = some (static, area, n, ws, req)) :
    s.saveDone none =
      let t := State.w { s with cal := { s.cal with save := none, timerAt := s.glostTime } } Reg.CAL_STORE_STATUS_SAVING 0
      let a := nth (calAreas static) area
      let t := { t with flash := flashWrite (flashErase t.flash a 0x180000) a (packBytes ws) }
      let t := if static then t.w Reg.CAL_STORE_STATUS_STATIC_SIDE area
        else State.ws { t with cal := { t.cal with lastSnap := some t.now } }
          [(Reg.CAL_STORE_STATUS_SNAP_SLOT, 0, area), (Reg.CAL_STORE_STATUS_SNAP_SEQ, 0, n), (Reg.CAL_STORE_STATUS_SINCE, 0, 0)]
      (t.raise 182 0).completeOpt req (.done (n % 2 ^ 28)) := by
  unfold State.saveDone
  rw [h]

theorem State.saveDone_failed {static : Bool} {area n o : Nat} {ws : List Word} {req : Option Req}
    (h : s.cal.save = some (static, area, n, ws, req)) :
    s.saveDone (some o) =
      let t := State.w { s with cal := { s.cal with save := none, timerAt := s.glostTime } } Reg.CAL_STORE_STATUS_SAVING 0
      (State.raise { t with flash := flashErase t.flash (nth (calAreas static) area) 0x180000 } 183 0).completeOpt req (.fault o) := by
  unfold State.saveDone
  rw [h]

theorem execSnapshotTimer_glost (hstage : s.stage = 2) (hworker : s.isWorker = true) {n : Nat}
    (hn : cyclesS (60 * s.r Reg.CAL_CTRL_SAVE_PERIOD) = n) :
    execSnapshotTimer s = .next ((s.gotoNow (s.now + (s.cal.timerAt + n - s.glostTime))).showSince.autoSnap) := by
  subst hn
  unfold execSnapshotTimer
  exact if_pos (by simp [hstage, hworker])

theorem execCalPeriodExpiry_glost (hstage : s.stage = 2) (hworker : s.isWorker = true) (hperiod : s.r Reg.CAL_CTRL_CAL_PERIOD ≠ 0)
    (hidle : s.cal.run = none) {n : Nat} (hn : cyclesS (3600 * s.r Reg.CAL_CTRL_CAL_PERIOD) = n) :
    execCalPeriodExpiry s = .next (s.gotoNow (s.now + (s.cal.lastRunG + n - s.glostTime))).calPend := by
  subst hn
  unfold execCalPeriodExpiry
  exact if_pos (by simp [hstage, hworker, hperiod, hidle])

/-! ### The bake applied -/

/-- A closed bake whose tick has come (R439). -/
structure State.BakeDue (s : State) (n : Nat) : Prop where
  closed : s.rb Reg.MGMT_BAKE_PEND_0116_CLOSED = true
  due : s.bakeK ≤ n

theorem State.bakeTick_good {n : Nat} (h : s.BakeDue n) (hgood : s.bakeBad (bakeFile s.planned s.bake.writes) 0 s.bake.writes = none) :
    s.bakeTick n =
      let l := s.bake.writes
      let t := l.foldl (fun (x : State) (p : Nat × Word) => x.storeReg p.1 p.2) s
      let t := { t with inForce := applyCommit t.inForce (bakeCommits l), fire := { t.fire with touched := s.fire.touched } }
      (((t.clearBake).w Reg.MGMT_BAKE_EPOCH_EPOCH (s.r Reg.MGMT_BAKE_PEND_0118_EPOCH)).raise 8 0).completeOpt s.bake.req
        (.done (s.r Reg.MGMT_BAKE_PEND_0118_EPOCH)) := by
  unfold State.bakeTick
  refine (if_neg (by simp [h.closed, h.due])).trans ?_
  dsimp only
  rw [hgood]

theorem State.bakeTick_bad {n k : Nat} (h : s.BakeDue n)
    (hbad : s.bakeBad (bakeFile s.planned s.bake.writes) 0 s.bake.writes = some k) :
    s.bakeTick n = (s.clearBake.raise 10 0).completeOpt s.bake.req (.fault k) := by
  unfold State.bakeTick
  refine (if_neg (by simp [h.closed, h.due])).trans ?_
  dsimp only
  rw [hbad]

theorem execBakeApply_ticked (h : s.time.ticked = true) : execBakeApply s = .next ((s.pass 0).bakeTick s.time.last) := by
  unfold execBakeApply
  rw [if_pos h]

/-! ### The log -/

theorem State.logFlush_one {e : LogEntry} (h : s.evt.logQ = [e]) :
    s.logFlush false =
      let p := s.evt.logPlace
      let f := if p % 227 = 0 then flashErase s.flash (logBase + p / 227 * 4096) 4096 else s.flash
      { s with
        flash := flashWrite f (logAddr p) ((packBytes e.flashWords).take 18)
        evt := { s.evt with logQ := [], logPlace := (p + 1) % logPlaces } } := by
  unfold State.logFlush
  refine (if_neg (by simp [h])).trans ((if_neg Bool.false_ne_true).trans ?_)
  rw [h]
  rfl

theorem State.logFlush_fails (h : s.evt.logQ ≠ []) :
    s.logFlush true =
      State.raise { s with evt := { s.evt with logPlace := (s.evt.logPlace / 227 + 1) * 227 % logPlaces } } 26 0 := by
  unfold State.logFlush
  exact (if_neg (by simpa using h)).trans (if_pos rfl)

end

/-- Settles O44: a clause for each engine job, save, timer, bake and log write. What a STAMP job writes appearing at its end, the tick
that a re-phase skipped, and the timer counted from the end of a save are the model's choices (assumption logs 46, 47, 78, 81). -/
theorem engineRowsTakeEffect : Obligations.EngineRowsTakeEffect := by
  refine ⟨fun j t ids s hp => ?_, fun j t s hp => ?_, fun j t r n s hp => ?_, fun j t s hp => ?_, fun j t s hp => ?_,
    fun static area n ws req s hp => ?_, fun o static area n ws req s hp => ?_, fun s hp => ?_, fun s hp => ?_, fun s hp => ?_,
    fun k s hp => ?_, fun e s hp => ?_, fun s hp => ?_⟩
  · obtain ⟨hhead, hidle, hfree, hgate⟩ := hp
    exact congrArg Host.Outcome.next (State.stampHead_go (s := s.pass 0) ⟨hhead, hidle, hfree⟩ hgate)
  · obtain ⟨hhead, hidle, hfree, hgate⟩ := hp
    exact congrArg Host.Outcome.next (State.stampHead_denied (s := s.pass 0) ⟨hhead, hidle, hfree⟩ hgate)
  · obtain ⟨hhead, hstarted, hdeferred, hraw, hdown, hrows, herr, hhazard⟩ := hp
    exact congrArg (fun t : State => Host.Outcome.next t.writesDue)
      (State.stampRun_rows (s := s.pass 0) hhead hstarted hdeferred hraw hdown hrows herr hhazard)
  · obtain ⟨hhead, hrunning, hinputs, hbufs, hfill, hstop⟩ := hp
    exact congrArg (fun t : State => Host.Outcome.next t.writesDue)
      ((State.defRun_spent (s := s.pass 0) ⟨hhead, hrunning, hinputs, hbufs, hfill⟩ hstop (.inr rfl)).trans (if_neg (by decide)))
  · obtain ⟨hhead, hrunning, hinputs, hbufs, hfill, hstop⟩ := hp
    exact congrArg (fun t : State => Host.Outcome.next t.writesDue)
      ((State.defRun_spent (s := s.pass 0) ⟨hhead, hrunning, hinputs, hbufs, hfill⟩ hstop (.inl rfl)).trans (if_pos rfl))
  · exact congrArg Host.Outcome.next (State.saveDone_stored (s := s.pass 0) hp)
  · exact congrArg Host.Outcome.next (State.saveDone_failed (s := s.pass 0) hp)
  · obtain ⟨hstage, hworker⟩ := hp
    exact execSnapshotTimer_glost hstage hworker (by rw [cyclesS]; omega)
  · obtain ⟨hstage, hworker, hperiod, hidle⟩ := hp
    exact execCalPeriodExpiry_glost hstage hworker hperiod hidle (by rw [cyclesS]; omega)
  · obtain ⟨hticked, hclosed, hdue, hgood⟩ := hp
    exact (execBakeApply_ticked hticked).trans (congrArg Host.Outcome.next (State.bakeTick_good (s := s.pass 0) ⟨hclosed, hdue⟩ hgood))
  · obtain ⟨hticked, hclosed, hdue, hbad⟩ := hp
    exact (execBakeApply_ticked hticked).trans (congrArg Host.Outcome.next (State.bakeTick_bad (s := s.pass 0) ⟨hclosed, hdue⟩ hbad))
  · exact congrArg Host.Outcome.next (State.logFlush_one (s := s.pass 0) hp)
  · exact congrArg Host.Outcome.next (State.logFlush_fails (s := s.pass 0) hp)

end Sys2Proof.Machine
end

section
/-! Words stored in DRAM read back (R140, R141, R383). -/

namespace Sys2Proof.Machine

/-! ### Digits of a number, least significant first -/

/-- The number of the digits `f 0`, `f 1`, … in base `B`. -/
def digitsValue (B n : Nat) (f : Nat → Nat) : Nat := (List.range n).foldr (fun i a => a * B + f i) 0

theorem digitsValue_succ (B n : Nat) (f : Nat → Nat) : digitsValue B (n + 1) f = digitsValue B n (fun i => f (i + 1)) * B + f 0 := by
  unfold digitsValue
  rw [List.range_succ_eq_map, List.foldr_cons, List.foldr_map]

theorem digitsValue_lt {B : Nat} : ∀ (n : Nat) {f : Nat → Nat}, (∀ i, i < n → f i < B) → digitsValue B n f < B ^ n
  | 0, _, _ => Nat.one_pos
  | n + 1, f, h => by
    have hrest : digitsValue B n (fun i => f (i + 1)) + 1 ≤ B ^ n := digitsValue_lt n (fun i hi => h (i + 1) (by omega))
    calc digitsValue B (n + 1) f = digitsValue B n (fun i => f (i + 1)) * B + f 0 := digitsValue_succ B n f
      _ < digitsValue B n (fun i => f (i + 1)) * B + B := Nat.add_lt_add_left (h 0 (by omega)) _
      _ = (digitsValue B n (fun i => f (i + 1)) + 1) * B := (Nat.succ_mul _ _).symm
      _ ≤ B ^ n * B := Nat.mul_le_mul_right B hrest
      _ = B ^ (n + 1) := (Nat.pow_succ ..).symm

/-- A digit read from the number. -/
theorem digitsValue_digit {B : Nat} : ∀ (n : Nat) {f : Nat → Nat} (i : Nat), (∀ i, i < n → f i < B) → i < n →
    digitsValue B n f / B ^ i % B = f i
  | n + 1, f, 0, h, _ => by
    rw [digitsValue_succ, Nat.pow_zero, Nat.div_one, Nat.add_comm, Nat.add_mul_mod_self_right, Nat.mod_eq_of_lt (h 0 (by omega))]
  | n + 1, f, i + 1, h, hi => by
    have hfirst : f 0 < B := h 0 (by omega)
    have hrest : (digitsValue B n (fun i => f (i + 1)) * B + f 0) / B = digitsValue B n (fun i => f (i + 1)) := by
      rw [Nat.mul_comm, Nat.mul_add_div (by omega), Nat.div_eq_of_lt hfirst, Nat.add_zero]
    rw [digitsValue_succ, Nat.pow_succ', ← Nat.div_div_eq_div_mul, hrest]
    exact digitsValue_digit n i (fun i hi => h (i + 1) (by omega)) (by omega)

/-- The digits of a number make the number. -/
theorem digitsValue_digits (B : Nat) : ∀ n N : Nat, digitsValue B n (fun i => N / B ^ i % B) = N % B ^ n
  | 0, N => (Nat.mod_one N).symm
  | n + 1, N => by
    have hrest := digitsValue_digits B n (N / B)
    simp only [Nat.div_div_eq_div_mul, ← Nat.pow_succ'] at hrest
    rw [digitsValue_succ, hrest, Nat.pow_zero, Nat.div_one, Nat.pow_succ', Nat.mod_mul, Nat.mul_comm, Nat.add_comm]

/-! ### A sector written -/

theorem checkBit_lt {c b : Nat} : checkBit c b < 16 := by
  unfold checkBit
  have hshift : c * 2 % 16 < 2 ^ 4 := Nat.mod_lt _ (by decide)
  dsimp only
  split
  · exact Nat.xor_lt_two_pow hshift (by decide)
  · exact hshift

theorem checkRun_lt (bits : Nat) : ∀ n c : Nat, c < 16 → checkRun bits n c < 16
  | 0, _, h => h
  | n + 1, _, _ => checkRun_lt bits n _ checkBit_lt

theorem sectorCheck_lt (bits : Nat) : sectorCheck bits < 16 :=
  Nat.xor_lt_two_pow (n := 4) (checkRun_lt bits 252 0 (by decide)) (by decide)

/-- The 252 bits that a sector's words make (R140). -/
def wordsValue (ws : List Word) : Nat := digitsValue (2 ^ 36) 7 (fun i => (nthW ws i).toNat)

theorem sectorOf_eq (ws : List Word) : sectorOf ws = wordsValue ws + sectorCheck (wordsValue ws) * 2 ^ 252 := rfl

theorem wordsValue_lt (ws : List Word) : wordsValue ws < 2 ^ 252 :=
  digitsValue_lt 7 (fun i _ => (nthW ws i).isLt)

theorem sectorOf_lt (ws : List Word) : sectorOf ws < 2 ^ 256 := by
  have hvalue := wordsValue_lt ws
  have hcheck := sectorCheck_lt (wordsValue ws)
  rw [sectorOf_eq]
  omega

/-- A sector just written holds what it was written with. -/
theorem sectorBits_writeSector (d : List Host.Cell) (n : Nat) (ws : List Word) : sectorBits (writeSector d n ws) n = sectorOf ws := by
  have hbyte (k : Nat) (hk : k < 32) : (sget (dramByte0 (32 * n + k)) (writeSector d n ws) (32 * n + k)).toNat = sectorOf ws / 256 ^ k % 256 := by
    have hlen : k < (sectorBytes (sectorOf ws)).length := by simpa [sectorBytes] using hk
    unfold writeSector
    rw [sget_ssetRun_in _ _ _ _ _ hlen]
    simp only [sectorBytes, List.getElem_map, List.getElem_range, BitVec.toNat_ofNat]
    rw [Nat.pow_mul]
  calc sectorBits (writeSector d n ws) n = digitsValue 256 32 (fun k => sectorOf ws / 256 ^ k % 256) := by
        unfold sectorBits digitsValue
        exact List.foldr_ext _ _ _ (fun k hk a => by rw [hbyte k (List.mem_range.1 hk)])
    _ = sectorOf ws % 256 ^ 32 := digitsValue_digits 256 32 _
    _ = sectorOf ws := Nat.mod_eq_of_lt (sectorOf_lt ws)

theorem sectorGood_writeSector (d : List Host.Cell) (n : Nat) (ws : List Word) : sectorGood (writeSector d n ws) n = true := by
  have hvalue := wordsValue_lt ws
  have hlow : sectorOf ws % 2 ^ 252 = wordsValue ws := by rw [sectorOf_eq]; omega
  have hhigh : sectorOf ws / 2 ^ 252 = sectorCheck (wordsValue ws) := by rw [sectorOf_eq]; omega
  unfold sectorGood
  rw [sectorBits_writeSector]
  dsimp only
  rw [hlow, hhigh]
  exact decide_eq_true rfl

theorem nthW_sectorWords {bits i : Nat} (hi : i < 7) : nthW (sectorWords bits) i = word (bits / 2 ^ (36 * i)) := by
  unfold nthW sectorWords
  rw [List.getD_eq_getElem _ _ (by simpa using hi)]
  simp

/-- The words of a sector as they were put together. -/
theorem nthW_sectorWords_sectorOf (ws : List Word) {i : Nat} (hi : i < 7) : nthW (sectorWords (sectorOf ws)) i = nthW ws i := by
  have hdigit : wordsValue ws / (2 ^ 36) ^ i % 2 ^ 36 = (nthW ws i).toNat := digitsValue_digit 7 i (fun i _ => (nthW ws i).isLt) hi
  have hsplit : 2 ^ 252 = (2 ^ 36) ^ i * ((2 ^ 36) ^ (6 - i) * 2 ^ 36) := by
    rw [← Nat.mul_assoc, ← Nat.pow_add, ← Nat.pow_succ, ← Nat.pow_mul]
    congr 1
    omega
  have hdrop : sectorOf ws / (2 ^ 36) ^ i % 2 ^ 36 = wordsValue ws / (2 ^ 36) ^ i % 2 ^ 36 := by
    rw [sectorOf_eq, hsplit, Nat.mul_left_comm, Nat.add_mul_div_left _ _ (by positivity), ← Nat.mul_assoc, Nat.add_mul_mod_self_right]
  rw [nthW_sectorWords hi, word, Nat.pow_mul]
  apply BitVec.eq_of_toNat_eq
  rw [BitVec.toNat_ofNat, hdrop, hdigit]

theorem dramWord_writeSector_same (d : List Host.Cell) (ws : List Word) {b n : Nat} (h : b / 7 = n) :
    dramWord (writeSector d n ws) b = nthW ws (b % 7) := by
  unfold dramWord
  rw [h, sectorBits_writeSector, nthW_sectorWords_sectorOf ws (Nat.mod_lt _ (by decide))]

theorem dramWord_writeSector_other (d : List Host.Cell) (ws : List Word) {b n : Nat} (h : b / 7 ≠ n) :
    dramWord (writeSector d n ws) b = dramWord d b := by
  unfold dramWord
  rw [sectorBits_writeSector_other ws h]

theorem sget_writeSector_other (d : List Host.Cell) (ws : List Word) {x n : Nat} (h : x / 32 ≠ n) :
    sget (dramByte0 x) (writeSector d n ws) x = sget (dramByte0 x) d x :=
  sget_ssetRun_out _ _ _ _ _ _ (by simp only [sectorBytes, List.length_map, List.length_range]; omega)

/-! ### A run of words stored -/

/-- The words of a sector covered in part by new ones: `k` words from word `pos` (R141). -/
def mergedWords (old ws : List Word) (pos k : Nat) : List Word := old.take pos ++ ws.take k ++ old.drop (pos + k)

section
variable {old ws : List Word} {pos k j : Nat} (hold : old.length = 7) (hk : pos + k ≤ 7) (hws : k ≤ ws.length)
include hold hk hws

theorem nthW_mergedWords_new (hj : j < k) : nthW (mergedWords old ws pos k) (pos + j) = nthW ws j := by
  unfold nthW mergedWords
  simp only [List.getD_eq_getElem?_getD, List.getElem?_append, List.getElem?_take, List.length_append, List.length_take, hold]
  rw [if_pos (by omega), if_neg (by omega), if_pos (by omega), Nat.min_eq_left (by omega), Nat.add_sub_cancel_left]

theorem nthW_mergedWords_old (hj : j < pos ∨ pos + k ≤ j) : nthW (mergedWords old ws pos k) j = nthW old j := by
  unfold nthW mergedWords
  simp only [List.getD_eq_getElem?_getD, List.getElem?_append, List.getElem?_take, List.getElem?_drop, List.length_append, List.length_take,
    hold]
  rw [Nat.min_eq_left (by omega), Nat.min_eq_left hws]
  rcases hj with hj | hj
  · rw [if_pos (by omega), if_pos hj, if_pos hj]
  · rw [if_neg (by omega)]
    congr 2
    omega

end

/-- A run of words stands stored: it reads back, its sectors pass their checks, other words and other sectors are as before. -/
structure Stored (d d' : List Host.Cell) (a : Nat) (ws : List Word) : Prop where
  read : ∀ i, i < ws.length → dramWord d' (a + i) = nthW ws i
  good : ∀ i, i < ws.length → sectorGood d' ((a + i) / 7) = true
  words : ∀ b, b < a ∨ a + ws.length ≤ b → dramWord d' b = dramWord d b
  bytes : ∀ x, (∀ i, i < ws.length → x / 32 ≠ (a + i) / 7) → sget (dramByte0 x) d' x = sget (dramByte0 x) d x

theorem Stored.nil (d : List Host.Cell) (a : Nat) : Stored d d a [] :=
  ⟨fun _ h => absurd h (Nat.not_lt_zero _), fun _ h => absurd h (Nat.not_lt_zero _), fun _ _ => rfl, fun _ _ => rfl⟩

theorem length_sectorWords (bits : Nat) : (sectorWords bits).length = 7 := by simp [sectorWords]

theorem nthW_drop (ws : List Word) (k i : Nat) : nthW (ws.drop k) i = nthW ws (k + i) := by
  simp [nthW, List.getD_eq_getElem?_getD]

/-- The first sector written, and then the rest of the run. -/
theorem Stored.cons {d d' : List Host.Cell} {a k : Nat} {ws : List Word} (hne : 0 < ws.length) (hk : k = min (7 - a % 7) ws.length)
    (hrest : Stored (writeSector d (a / 7) (mergedWords (sectorWords (sectorBits d (a / 7))) ws (a % 7) k)) d' (a + k) (ws.drop k)) :
    Stored d d' a ws := by
  obtain ⟨hread, hgood, hwords, hbytes⟩ := hrest
  have hold := length_sectorWords (sectorBits d (a / 7))
  have hlen : (ws.drop k).length = ws.length - k := List.length_drop
  have hfar (i : Nat) (hi : i < (ws.drop k).length) : a / 7 < (a + k + i) / 7 := by omega
  refine ⟨fun i hi => ?_, fun i hi => ?_, fun b hb => ?_, fun x hx => ?_⟩
  · by_cases hik : i < k
    · rw [hwords _ (.inl (by omega)), dramWord_writeSector_same _ _ (by omega), show (a + i) % 7 = a % 7 + i by omega,
        nthW_mergedWords_new hold (by omega) (by omega) hik]
    · obtain ⟨j, rfl⟩ := Nat.exists_eq_add_of_le (Nat.le_of_not_lt hik)
      rw [← Nat.add_assoc, hread j (by omega), nthW_drop]
  · by_cases hik : i < k
    · have hsame : sectorBits d' (a / 7) =
          sectorBits (writeSector d (a / 7) (mergedWords (sectorWords (sectorBits d (a / 7))) ws (a % 7) k)) (a / 7) :=
        sectorBits_congr (fun j hj => hbytes _ (fun i hi => by have := hfar i hi; omega))
      rw [show (a + i) / 7 = a / 7 by omega, sectorGood, hsame]
      exact sectorGood_writeSector _ _ _
    · obtain ⟨j, rfl⟩ := Nat.exists_eq_add_of_le (Nat.le_of_not_lt hik)
      rw [← Nat.add_assoc]
      exact hgood j (by omega)
  · rw [hwords b (by omega)]
    by_cases hsector : b / 7 = a / 7
    · rw [dramWord_writeSector_same _ _ hsector, nthW_mergedWords_old hold (by omega) (by omega) (by omega), dramWord, hsector]
    · exact dramWord_writeSector_other _ _ hsector
  · rw [hbytes x (fun i hi => by
      have hi' := hx (k + i) (by omega)
      rwa [← Nat.add_assoc] at hi')]
    exact sget_writeSector_other _ _ (hx 0 hne)

theorem stored_of_storeRun : ∀ (fuel : Nat) {d d' : List Host.Cell} {a : Nat} {ws : List Word}, ws.length < fuel →
    storeRun fuel d a ws = (d', none) → Stored d d' a ws
  | fuel + 1, d, d', a, ws, hfuel, h => by
    rw [storeRun] at h
    dsimp only at h
    split at h
    next hnil =>
      obtain rfl := List.isEmpty_iff.1 hnil
      obtain rfl : d = d' := congrArg Prod.fst h
      exact .nil d a
    next hne =>
      have hpos : 0 < ws.length := List.length_pos_iff.2 (fun h => hne (List.isEmpty_iff.2 h))
      split at h
      next hwhole =>
        have hmerged : mergedWords (sectorWords (sectorBits d (a / 7))) ws (a % 7) 7 = ws.take 7 := by
          have hstart : a % 7 = 0 := by omega
          simp [mergedWords, hstart, length_sectorWords]
        have hrest := stored_of_storeRun fuel (by rw [List.length_drop]; omega) h
        exact .cons hpos hwhole.symm (hmerged ▸ hrest)
      next =>
        split at h
        next => exact .cons hpos rfl (stored_of_storeRun fuel (by rw [List.length_drop]; omega) h)
        next => exact absurd (congrArg Prod.snd h) (by simp)

/-- Settles O7, by induction on the sectors of the run. -/
theorem storeReadsBack : Obligations.StoreReadsBack := by
  intro d d' a ws h
  obtain ⟨hread, hgood, hwords, hbytes⟩ := stored_of_storeRun _ (Nat.lt_succ_self _) h
  refine ⟨List.ext_getElem (by simp [dramWords]) (fun i _ hi => ?_), hgood, hwords, hbytes⟩
  simp only [dramWords, List.getElem_map, List.getElem_range, hread i hi]
  exact List.getD_eq_getElem _ _ hi

end Sys2Proof.Machine
end

section
/-! What a write that does nothing beyond its word leaves alone (R5, R30). -/

namespace Sys2Proof.Machine

/-- What the frame of such a write keeps: the fields of other words, the memories, the queue and every unit but the record of what is staged. -/
def State.leftBy (s t : State) (a : Nat) : Prop :=
  (∀ f ∈ allFields, ∀ j, j < f.count → f.at j ≠ a → t.r f j = s.r f j)
    ∧ (∀ x, t.dramAt x = s.dramAt x) ∧ (∀ x, t.flashAt x = s.flashAt x) ∧ t.pending = s.pending ∧ t.evt = s.evt
    ∧ t.inForce = s.inForce ∧ t.link = s.link ∧ t.mgr = s.mgr ∧ t.stream = s.stream ∧ t.dec = s.dec ∧ t.glaze = s.glaze
    ∧ t.emit_ = s.emit_ ∧ t.enc = s.enc ∧ t.eng = s.eng ∧ t.cal = s.cal ∧ { t.fire with touched := s.fire.touched } = s.fire

/-- A word stored and its reply keep all of it. -/
theorem State.leftBy_wrote (s : State) (a : Nat) (v : Word) : s.leftBy ((s.wrote a v).emit .reply [] [0]) a :=
  ⟨fun _ hf _ _ h => rget_written_other s v hf h, fun _ => rfl, fun _ => rfl, rfl, rfl, rfl, rfl, rfl, rfl, rfl, rfl, rfl, rfl, rfl, rfl, rfl⟩

/-- An instruction that writes a quiet word keeps all of it. -/
theorem leaves_of_quiet {e : Instr} {a : Nat} {v : Word} (hexec : ∀ s : State, exec e s = .next (s.writeTold a v)) (hq : quietAddr a = true)
    (s : State) (h : s.lets a v) : ∃ t, exec e s = .next t ∧ s.leftBy t a :=
  ⟨_, Runs.quiet hexec hq s h, s.leftBy_wrote a v⟩

/-- Settles O47: each of the writes is of a word whose fields do no more than hold their values. -/
theorem writeFrame : Obligations.WriteFrame := by
  refine ⟨fun v => leaves_of_quiet (fun _ => rfl) (by decide +kernel), fun v => leaves_of_quiet (fun _ => rfl) (by decide +kernel),
    fun v => leaves_of_quiet (fun _ => rfl) (by decide +kernel), fun j w v hj hw => ?_, fun j v hj => ?_, fun j w v hj hw => ?_,
    fun j w v hj hw => ?_, fun l v hl => ?_⟩
  · refine leaves_of_quiet (fun s => ?_) (quietAddr_slot j hj w hw)
    change execSlotDescriptorWrite j w v s = _
    rw [execSlotDescriptorWrite, Nat.mod_eq_of_lt hj, Nat.mod_eq_of_lt hw]
  · refine leaves_of_quiet (fun s => ?_) (quietAddr_map j hj)
    change execEncodeMapWrite j v s = _
    rw [execEncodeMapWrite, Nat.mod_eq_of_lt hj]
  · refine leaves_of_quiet (fun s => ?_) (quietAddr_cone j hj w hw)
    change execDriveConeWrite j w v s = _
    rw [execDriveConeWrite, Nat.mod_eq_of_lt hj, Nat.mod_eq_of_lt hw]
  · refine leaves_of_quiet (fun s => ?_) (quietAddr_flow j hj w hw)
    change execLiveFlowWrite j w v s = _
    rw [execLiveFlowWrite, Nat.mod_eq_of_lt hj, Nat.mod_eq_of_lt hw]
  · refine leaves_of_quiet (fun s => ?_) (quietAddr_laneEq l hl)
    change execLaneEqWrite l v s = _
    rw [execLaneEqWrite, Nat.mod_eq_of_lt hl]

end Sys2Proof.Machine
end

section
/-! What the path of a command packet to its opcode and back can change: registers, links, sessions, events, the reply cache and the queue of
SPI replies (R313, R421–R427). -/

namespace Sys2Proof.Machine

/-- The memories, the queue of commands and the units that no packet and no reply reaches by itself. -/
def State.units (s : State) : List Host.Cell × List Host.Cell × List Instr × RegFile × FireState × StreamState × DecState × GlazeState
    × EmitState × EncState × EngState × CalState × MemState :=
  (s.dram, s.flash, s.pending, s.inForce, s.fire, s.stream, s.dec, s.glaze, s.emit_, s.enc, s.eng, s.cal, s.mem)

/-- A reply joins the queue of the SPI port, the oldest of 16 giving way (R427). -/
def spiPush (q : List (List Word)) (ws : List Word) : List (List Word) := (if 16 ≤ q.length then q.drop 1 else q) ++ [ws]

/-- A property that the four elementary steps of receiving and answering keep. -/
structure AnswerStable (P : State → Prop) : Prop where
  same : ∀ {s t : State}, P s → t.cmd = s.cmd → t.evt = s.evt → t.units = s.units → P t
  raise : ∀ {s : State} (e d : Nat), P s → P (s.raise e d)
  spi : ∀ {s : State} (ws : List Word), P s → P { s with cmd := { s.cmd with spiQ := spiPush s.cmd.spiQ ws } }
  cache : ∀ {s : State} (l : List CacheEntry), l.length ≤ max s.cmd.cache.length 64 → P s → P { s with cmd := { s.cmd with cache := l } }

namespace AnswerStable
variable {P : State → Prop} (hP : AnswerStable P) {s : State}
include hP

theorem choose (pri alt : Nat) (h : P s) : P (s.choose pri alt).2 := by
  unfold State.choose
  split
  · exact h
  split
  · dsimp only
    split
    · exact h
    · exact hP.raise _ _ (hP.same h rfl rfl rfl)
  · exact hP.raise _ _ h

theorem sendMgr (vc idx : Nat) (payload : List Word) (h : P s) : P (s.sendMgr vc idx payload) := by
  have hchoose := hP.choose (mgrRoute s.regs (mgrNamed s.regs idx)).2.1 (mgrRoute s.regs (mgrNamed s.regs idx)).2.2.1 h
  unfold State.sendMgr
  dsimp only
  split <;> rename_i heq <;> rw [heq] at hchoose
  · exact hP.same hchoose rfl rfl rfl
  · exact hchoose

theorem spiReply (ws : List Word) (h : P s) : P (s.spiReply ws) := by
  have hpush := hP.spi ws h
  unfold spiPush at hpush
  unfold State.spiReply State.raiseIf
  refine hP.raise _ _ ?_
  split
  · exact hP.raise _ _ hpush
  · exact hpush

theorem sendWords (src : Source) (ws : List Word) (h : P s) : P (s.sendWords src ws) := by
  unfold State.sendWords
  dsimp only
  split
  · exact hP.same h rfl rfl rfl
  · exact hP.spiReply _ (hP.same h rfl rfl rfl)
  · exact hP.sendMgr _ _ _ (hP.same h rfl rfl rfl)

theorem cached (src : Source) (opcode tag code detail : Nat) (ws : List Word) (h : P s) : P (s.cached src opcode tag code detail ws) :=
  hP.cache _ (by simp [cacheReply]) h

theorem bumpDown (e : Option Nat) (x : HostSession) (h : P s) : P (s.bumpDown e x) := by
  cases e
  · exact h
  · exact hP.same h rfl rfl rfl

theorem sealedSend (old : State) (src : Source) :
    ∀ (l : List (Nat × Nat)) (ws : List Word) {s : State}, P s → P (s.sealedSend old src l ws)
  | [], ws, s, h => by
    rw [State.sealedSend]
    exact hP.sendWords _ _ h
  | q :: t, ws, s, h => by
    rw [State.sealedSend]
    split
    · exact h
    · exact sealedSend old src t _ (hP.cached _ _ _ _ _ _ (hP.bumpDown _ _ h))

theorem sendReply (old : State) (src : Source) (opcode tag : Nat) (a : Ans) (h : P s) : P (s.sendReply old src opcode tag a) :=
  hP.sealedSend old src _ _ h

theorem finish (q : Req) (a : Ans) (h : P s) : P (s.finish q a) :=
  hP.sendReply s _ _ _ _ (hP.cached _ _ _ _ _ _ h)

theorem wakeDone (p : Nat) (h : P s) : P (s.wakeDone p) := by
  unfold State.wakeDone
  split
  · exact h
  split
  · exact h
  dsimp only
  split
  · exact hP.finish _ _ (hP.same h rfl rfl rfl)
  · exact hP.same h rfl rfl rfl

theorem wakesDone (h : P s) : P s.wakesDone :=
  List.foldlRecOn (List.range 4) State.wakeDone h fun _ ht p _ => hP.wakeDone p ht

theorem fenceCheck (f : Word) (h : P s) : P (s.fenceCheck f).2 := by
  have hstore : P (s.storeFence (fenceValue f)) := hP.same h rfl rfl rfl
  unfold State.fenceCheck
  dsimp only
  split
  · exact hstore
  split
  · exact hP.raise _ _ h
  split
  · exact hP.raise _ _ hstore
  · exact h

theorem fenced (c : Cmd) (h : P s) : P (s.fenced c) := by
  have harrived : P (s.arrived c) := hP.wakesDone (hP.same (t := s.pass c.dt) h rfl rfl rfl)
  unfold State.fenced
  split
  · exact harrived
  · exact hP.fenceCheck _ harrived

theorem cacheAdd (e : CacheEntry) (h : P s) : P (s.cacheAdd e) :=
  hP.cache _ ((List.length_take_le _ _).trans (le_max_right _ _)) h

/-- What the opcode meets. -/
theorem handed (o : OpSpec) (c : Cmd) (h : P s) : P (s.handed o c) :=
  hP.cacheAdd _ (hP.same (t := (s.fenced c).refresh) (hP.fenced c h) rfl rfl rfl)

/-- What its answer leaves. -/
theorem answered (o : OpSpec) (c : Cmd) (a : Ans) {t : State} (h : P t) : P (s.answered o c a t) :=
  hP.sendReply _ _ _ _ _ (hP.cached _ _ _ _ _ _ h)

end AnswerStable

/-- None of it reaches the memories and the units. -/
theorem AnswerStable.units (s : State) : AnswerStable (fun t => t.units = s.units) where
  same h _ _ hunits := hunits.trans h
  raise _ _ h := h
  spi _ h := h
  cache _ _ h := h

/-! ### The queues -/

/-- An occurrence keeps the BEACON queue within 64 packets (R435). -/
theorem occSend_beaconQ (a : EvtAt) (e d : Nat) (r : RegFile) (v : EvtState) (h : v.beaconQ.length ≤ 64) :
    (occSend a e d r v).2.1.beaconQ.length ≤ 64 := by
  unfold occSend
  split
  · split
    next => exact h
    next hroom =>
      simp only [Bool.or_eq_true, decide_eq_true_eq, not_or] at hroom
      simp only [List.length_append, List.length_singleton]
      omega
  · exact h

theorem occLog_beaconQ (a : EvtAt) (e : Nat) (r : RegFile) (v : EvtState) : (occLog a e r v).2.1.beaconQ = v.beaconQ := by
  unfold occLog
  split
  · split <;> rfl
  · rfl

theorem EvtState.noteIf_beaconQ (v : EvtState) (c : Bool) (now x : Nat) : (v.noteIf c now x).beaconQ = v.beaconQ := by
  unfold EvtState.noteIf
  split <;> rfl

theorem occOnce_beaconQ (a : EvtAt) (e d : Nat) (p : RegFile × EvtState) (h : p.2.beaconQ.length ≤ 64) :
    (occOnce a e d p).evt.beaconQ.length ≤ 64 := by
  unfold occOnce
  dsimp only
  rw [EvtState.noteIf_beaconQ]
  refine occSend_beaconQ _ _ _ _ _ ?_
  rw [EvtState.noteIf_beaconQ]
  have hlog := occLog_beaconQ a e (occCount p.1 e) ((refill (occCount p.1 e) p.2 a.now).note a.now e)
  split <;> exact hlog ▸ h

theorem occur_beaconQ (a : EvtAt) : ∀ (n e d : Nat) (p : RegFile × EvtState), p.2.beaconQ.length ≤ 64 →
    (occur n a e d p).2.beaconQ.length ≤ 64
  | 0, _, _, _, h => h
  | n + 1, e, d, p, h => by
    have honce := occOnce_beaconQ a e d p h
    have hdrop : (if (occOnce a e d p).drop then occur n a 25 0 ((occOnce a e d p).regs, (occOnce a e d p).evt)
        else ((occOnce a e d p).regs, (occOnce a e d p).evt)).2.beaconQ.length ≤ 64 := by
      split
      · exact occur_beaconQ a n _ _ _ honce
      · exact honce
    rw [occur]
    split
    · exact occur_beaconQ a n _ _ _ hdrop
    · exact hdrop

theorem State.queuesOk_iff (s : State) :
    s.queuesOk = true ↔ s.cmd.cache.length ≤ 64 ∧ s.cmd.spiQ.length ≤ 16 ∧ s.evt.beaconQ.length ≤ 64 := by
  simp [State.queuesOk, and_assoc]

theorem spiPush_length {q : List (List Word)} (ws : List Word) (h : q.length ≤ 16) : (spiPush q ws).length ≤ 16 := by
  unfold spiPush
  split <;> simp only [List.length_append, List.length_drop, List.length_singleton] <;> omega

/-- Each of the queues stays within its depth. -/
theorem AnswerStable.queuesOk : AnswerStable (fun s => s.queuesOk = true) where
  same h hcmd hevt _ := by
    unfold State.queuesOk at h ⊢
    rwa [hcmd, hevt]
  raise e d h := by
    obtain ⟨hcache, hspi, hbeacon⟩ := (State.queuesOk_iff _).1 h
    exact (State.queuesOk_iff _).2 ⟨hcache, hspi, occur_beaconQ _ 5 e d _ hbeacon⟩
  spi ws h := by
    obtain ⟨hcache, hspi, hbeacon⟩ := (State.queuesOk_iff _).1 h
    exact (State.queuesOk_iff _).2 ⟨hcache, spiPush_length ws hspi, hbeacon⟩
  cache l hl h := by
    obtain ⟨hcache, hspi, hbeacon⟩ := (State.queuesOk_iff _).1 h
    exact (State.queuesOk_iff _).2 ⟨hl.trans (max_le hcache le_rfl), hspi, hbeacon⟩

/-- Settles O49: the depths are kept by every step of the path to the opcode and of the path of its answer. -/
theorem commandQueues : Obligations.CommandQueues :=
  ⟨fun _ o c h => AnswerStable.queuesOk.handed o c h, fun _ o c a _ h => AnswerStable.queuesOk.answered o c a h⟩

end Sys2Proof.Machine
end

section
/-! What the commands that only ask, route or bake leave alone (R352, R421, R439). -/

namespace Sys2Proof.Machine

/-- A handler that answers at once, and whose answer and work leave the memories and the units as they were. -/
def Handler.LeavesUnits (run : Handler) : Prop := ∀ q ps s, (run q ps s).1.code ≠ 0x100 ∧ (run q ps s).2.units = s.units

theorem hRouteSet_leavesUnits : Handler.LeavesUnits hRouteSet := by
  intro q ps s
  unfold hRouteSet
  dsimp only
  split
  · exact ⟨Nat.ne_of_beq_eq_false rfl, rfl⟩
  split
  · split <;> exact ⟨Nat.ne_of_beq_eq_false rfl, rfl⟩
  · exact ⟨Nat.ne_of_beq_eq_false rfl, rfl⟩
  · exact ⟨Nat.ne_of_beq_eq_false rfl, rfl⟩

theorem hBakeOpen_leavesUnits : Handler.LeavesUnits hBakeOpen := by
  intro q ps s
  unfold hBakeOpen
  dsimp only
  split
  · exact ⟨Nat.ne_of_beq_eq_false rfl, rfl⟩
  split
  · exact ⟨Nat.ne_of_beq_eq_false rfl, rfl⟩
  · exact ⟨Nat.ne_of_beq_eq_false rfl, rfl⟩

theorem hBakeWrite_leavesUnits : Handler.LeavesUnits hBakeWrite := by
  intro q ps s
  unfold hBakeWrite
  dsimp only
  split
  · exact ⟨Nat.ne_of_beq_eq_false rfl, rfl⟩
  split
  · exact ⟨Nat.ne_of_beq_eq_false rfl, rfl⟩
  · exact ⟨Nat.ne_of_beq_eq_false rfl, rfl⟩

/-- A served command of such a handler leaves them as they were: the handler does, and so do its way in and its answer's way out. -/
theorem leaves_of_handler {e : Cmd → Instr} {o : OpSpec} (he : ∀ c s, exec (e c) s = .next (s.arrive o c)) (hn : o.opcode ≠ 0x210)
    (hrun : Handler.LeavesUnits o.run) (c : Cmd) (s : State) (h : s.served o c = true) :
    ∃ t, exec (e c) s = .next t
      ∧ (∀ x, t.dramAt x = s.dramAt x) ∧ (∀ x, t.flashAt x = s.flashAt x) ∧ t.pending = s.pending ∧ t.inForce = s.inForce
      ∧ t.fire = s.fire ∧ t.stream = s.stream ∧ t.dec = s.dec ∧ t.glaze = s.glaze ∧ t.emit_ = s.emit_ ∧ t.enc = s.enc
      ∧ t.eng = s.eng ∧ t.cal = s.cal ∧ t.mem = s.mem := by
  have hexec := completes_of (P := fun _ _ => True) (A := fun c h => o.run (c.ctx o) c.params h) he hn
    (fun c h _ _ _ => ⟨rfl, (hrun (c.ctx o) c.params h).1⟩) c s h trivial
  have hunits := (AnswerStable.units s).answered (s := s) o c (o.run (c.ctx o) c.params (s.handed o c)).1
    ((hrun (c.ctx o) c.params (s.handed o c)).2.trans ((AnswerStable.units s).handed o c rfl))
  refine ⟨_, hexec, ?_⟩
  simp only [State.units, Prod.mk.injEq] at hunits
  obtain ⟨hdram, hflash, hunits⟩ := hunits
  exact ⟨fun x => by rw [State.dramAt, hdram]; rfl, fun x => by rw [State.flashAt, hflash]; rfl, hunits⟩

/-- Settles O48: none of the seven handlers reaches the memories or a unit. -/
theorem commandFrame : Obligations.CommandFrame :=
  ⟨leaves_of_handler (fun _ _ => rfl) (by decide) fun _ _ _ => ⟨Nat.ne_of_beq_eq_false rfl, rfl⟩,
    leaves_of_handler (fun _ _ => rfl) (by decide) fun _ _ _ => ⟨Nat.ne_of_beq_eq_false rfl, rfl⟩,
    leaves_of_handler (fun _ _ => rfl) (by decide) fun _ _ _ => ⟨Nat.ne_of_beq_eq_false rfl, rfl⟩,
    leaves_of_handler (fun _ _ => rfl) (by decide) hRouteSet_leavesUnits,
    leaves_of_handler (fun _ _ => rfl) (by decide) hBakeOpen_leavesUnits,
    leaves_of_handler (fun _ _ => rfl) (by decide) hBakeWrite_leavesUnits,
    leaves_of_handler (fun _ _ => rfl) (by decide) fun _ _ _ => ⟨Nat.ne_of_beq_eq_false rfl, rfl⟩⟩

end Sys2Proof.Machine
end
